-- ==== Sys2Proof/Word.lean ====
section
/-! DEFINITION. The word types: a byte, a 64-bit word, a 32-bit word, and the sparse map every keyed store of the model is. -/

namespace Sys2Proof

abbrev Byte := BitVec 8
abbrev Word32 := BitVec 32
abbrev Word64 := BitVec 64

/-- A sparse map: (key, value) pairs, keys strictly rising. What an unlisted key holds is said where the map is read. -/
abbrev FMap (α : Type) := List (Nat × α)

end Sys2Proof
end

