-- ==== Sys2Proof/Syntax.lean ====
section
/-! DEFINITION. The commands the block takes: one constructor per row of spec/opcode_table.json. `c` is a global core number
(R22), `e` an engine, `t` a tile, `d` a die, `f` a PCIe function, `m` a model. A command names its unit; what the physical
world gives an event (charge deviations, temperatures, what arrives on a port) is an operand too. -/

namespace Sys2Proof

/-- A start record (R184). -/
structure StartRec where
  stream : Nat
  step : Nat
  gsemBase : Nat
  gsemN : Nat
  model : Nat
  tenant : Nat
  reload : Bool
deriving DecidableEq, Repr

/-- What a calibration attempt measured on a tile (R131 to R133). The trims found, per pair and per row as signed steps; the
pairs that failed, as (pair, bank mask); the linear range; the bank skew; whether step 6 converged. -/
structure CalMeas where
  ot : List Int
  gt : List Int
  dt : List Int
  linearPu : Nat
  skew : Int
  failed : List (Nat × Nat)
  medianGt : Int
  delayOut : Bool
  refFailed : Bool
  converged : Bool
deriving DecidableEq, Repr

/-- The readings a housekeeping round delivers: (die, sensor, temperature in 1/16 °C, count inside its plausible window),
the package power of the round in W, and the rail channels found outside their operating range as (die, channel). -/
structure HkReadings where
  temps : List (Nat × Nat × Int × Bool)
  power : Nat
  rails : List (Nat × Nat)
deriving DecidableEq, Repr

/-- A firmware image as the checks of R378 see it. -/
structure FwImage where
  keyOk : Bool
  sigOk : Bool
  svn : Nat
  raise : Bool
deriving DecidableEq, Repr

/-- What a start-up stage found (R391 to R396), beside what the state holds. -/
structure StageResult where
  slotAOk : Bool
  slotBOk : Bool
  keyMatch : Bool
  failedSrams : List (Nat × Nat)
  factoryOk : Bool
  downLinks : List (Nat × Nat)
  bistFailed : List Nat
  hbmFailed : List Nat
  cxlCaps : List Nat
deriving DecidableEq, Repr

/-- The requesters of R262. -/
inductive Requester where
  | bar2 (f : Nat)
  | ingestPort
  | peer (port : Nat)
  | coreCmd (c : Nat)
  | tillerU (c t : Nat)
  | tillerM (c t : Nat)
  | hubUnit (die : Nat)
deriving DecidableEq, Repr

/-- The commands, in the table's order. -/
inductive Instr where
  /-- PASS_END (R34). -/
  | passEnd (c e t : Nat) (dev : List Int)
  /-- VECTOR_PLAN (R39). -/
  | vectorPlan (c e t : Nat)
  /-- VECTOR_REISSUE (R117). -/
  | vectorReissue (c e t : Nat)
  /-- TILE_RESET (R47). -/
  | tileReset (c e t : Nat)
  /-- TILE_RESET_END (R333). -/
  | tileResetEnd (c e t : Nat)
  /-- TILE_ENABLE_WRITE (R431). -/
  | tileEnableWrite (c e t : Nat) (v : Bool)
  /-- TILE_DISABLE_EFFECT (R431). -/
  | tileDisableEffect (c e t : Nat)
  /-- COLMAP_WRITE (R31). -/
  | colmapWrite (c e t i : Nat) (v : Nat)
  /-- TILE_CFG_WRITE (R57). -/
  | tileCfgWrite (c e t : Nat) (v : Nat)
  /-- CAL_APPLY_REQUEST (R134). -/
  | calApplyRequest (c e t : Nat)
  /-- APPLY_EFFECT (R134). -/
  | applyEffect (c e t : Nat)
  /-- CAL_SAVE (R138). -/
  | calSave (c e t : Nat)
  /-- CAL_LOAD (R138). -/
  | calLoad (c e t : Nat)
  /-- CAL_LOAD_VERIFY_DONE (R138). -/
  | calLoadVerifyDone (c e t : Nat) (pass : Bool)
  /-- CAL_RECAL (R129). -/
  | calRecal (c e t : Nat)
  /-- TRACK_WINDOW (R126). -/
  | trackWindow (c e t : Nat)
  /-- REFRESH_ROW (R63). -/
  | refreshRow (c e t b : Nat)
  /-- REFRESH_SLOT (R63). -/
  | refreshSlot (c e t : Nat)
  /-- BANK_WRITE (R54). -/
  | bankWrite (c e : Nat)
  /-- BANK_WRITE_DONE (R55). -/
  | bankWriteDone (c e t b : Nat)
  /-- BANK_SWAP (R58). -/
  | bankSwap (c e : Nat)
  /-- BANK_SWAP_JUDGE (R59). -/
  | bankSwapJudge (c e : Nat)
  /-- BANK_SWAP_EFFECT (R58). -/
  | bankSwapEffect (c e t : Nat)
  /-- WEAR_MOVE_START (R70). -/
  | wearMoveStart (c e t : Nat)
  /-- WEAR_MOVE_WRITE_DONE (R70). -/
  | wearMoveWriteDone (c e t : Nat)
  /-- WEAR_MOVE_SWAP (R70). -/
  | wearMoveSwap (c e t : Nat)
  /-- BANK_RELEASE (R74). -/
  | bankRelease (c e : Nat) (v : Nat)
  /-- MVM (R84). -/
  | mvm (c e : Nat)
  /-- MVM_ACC (R84). -/
  | mvmAcc (c e : Nat)
  /-- GROUP_REDUCE (R78). -/
  | groupReduce (c e : Nat)
  /-- GLUME_RECORD_DONE (R113). -/
  | glumeRecordDone (c e : Nat)
  /-- ENGINE_OP_COMPLETE (R92). -/
  | engineOpComplete (c e tag : Nat)
  /-- ACC_CLEAR (R84). -/
  | accClear (c e : Nat)
  /-- ACC_PROMOTE (R84). -/
  | accPromote (c e : Nat)
  /-- ACC_SPILL_STORE (R88). -/
  | accSpillStore (c e : Nat)
  /-- ACC_SPILL_ADD (R88). -/
  | accSpillAdd (c e : Nat)
  /-- ACC_SPILL_SAVE (R91). -/
  | accSpillSave (c e : Nat)
  /-- ACC_RESUME_LOAD (R89). -/
  | accResumeLoad (c e : Nat)
  /-- ACC_RESUME_ADD (R89). -/
  | accResumeAdd (c e : Nat)
  /-- ACC_RESUME_RESTORE (R91). -/
  | accResumeRestore (c e : Nat)
  /-- ACC_READ (R87). -/
  | accRead (c e : Nat)
  /-- OUTLIER_LOAD (R109). -/
  | outlierLoad (c e : Nat)
  /-- CHECK_FORCE (R143). -/
  | checkForce (c e : Nat)
  /-- NOP (R176). -/
  | nop (c : Nat)
  /-- STREAM_END (R186). -/
  | streamEnd (c : Nat)
  /-- SEM_WAIT (R178). -/
  | semWait (c : Nat)
  /-- SEM_SIGNAL (R178). -/
  | semSignal (c : Nat)
  /-- FENCE (R179). -/
  | fence (c : Nat)
  /-- DMA_COPY (R182). -/
  | dmaCopy (c : Nat)
  /-- DMA_COPY_DONE (R182). -/
  | dmaCopyDone (c k : Nat)
  /-- TILLER_KICK (R190). -/
  | tillerKick (c t : Nat)
  /-- TILLER_DONE (R190). -/
  | tillerDone (c t : Nat)
  /-- MBOX_READ (R190). -/
  | mboxRead (c t : Nat)
  /-- TILLER_SEM_PORT_WRITE (R190). -/
  | tillerSemPortWrite (c t sem n : Nat)
  /-- TILLER_TRAP (R190). -/
  | tillerTrap (c t cause : Nat)
  /-- TILLER_RESET (R191). -/
  | tillerReset (c t : Nat)
  /-- STREAM_FETCH (R183). -/
  | streamFetch (c : Nat)
  /-- START_RECORD (R185). -/
  | startRecord (c : Nat) (r : StartRec)
  /-- CORE_GO (R185). -/
  | coreGo (c : Nat)
  /-- CORE_HALT (R187). -/
  | coreHalt (c : Nat)
  /-- STEP_ABORT (R187). -/
  | stepAbort (c step : Nat)
  /-- HALT_COMPLETE (R187). -/
  | haltComplete (c : Nat)
  /-- STEP_END_REPORT (R186). -/
  | stepEndReport (c step : Nat)
  /-- CHECK_COMPARE (R148). -/
  | checkCompare (c e t : Nat) (selfDisagree : Bool)
  /-- CHECK_REPEAT_DONE (R149). -/
  | checkRepeatDone (c e t : Nat) (dev : List Int)
  /-- CHECK_OUTCOME (R149). -/
  | checkOutcome (c e t : Nat)
  /-- RETIRE_TAKEOVER (R150). -/
  | retireTakeover (c e : Nat)
  /-- CHK_SEED_WRITE (R143). -/
  | chkSeedWrite (c v : Nat)
  /-- LG_SEL (R155). -/
  | lgSel (c v : Nat)
  /-- LG_CLEAR (R155). -/
  | lgClear (c : Nat)
  /-- DREF_WRITE (R153). -/
  | drefWrite (c : Nat) (v : Bool)
  /-- STEP_SUM (R156). -/
  | stepSum (c step : Nat)
  /-- SUMMARY_TIMEOUT (R156). -/
  | summaryTimeout (step : Nat)
  /-- CAL_SLOT (R129). -/
  | calSlot (c e : Nat)
  /-- CAL_TAKEOVER (R130). -/
  | calTakeover (c e : Nat)
  /-- CAL_TAKEOVER_TIMEOUT (R130). -/
  | calTakeoverTimeout (c e : Nat)
  /-- CAL_PROCEDURE_END (R131). -/
  | calProcedureEnd (c e t : Nat) (m : CalMeas)
  /-- CAL_TIMEOUT (R132). -/
  | calTimeout (c e : Nat)
  /-- CAL_RETURN (R130). -/
  | calReturn (c e : Nat)
  /-- CAL_OVERDUE (R133). -/
  | calOverdue (c e t : Nat)
  /-- STARTUP_CAL_SETTLED (R136). -/
  | startupCalSettled (c e : Nat)
  /-- RETENTION_SCREEN_END (R136). -/
  | retentionScreenEnd (c e : Nat) (lost : List (Nat × Nat × Nat))
  /-- CAL_UNSETTLED (R393). -/
  | calUnsettled (c e : Nat)
  /-- ALLOC (R201). -/
  | alloc (c tenant slot page frame : Nat)
  /-- PIN_R (R201). -/
  | pinR (c page tenant slot : Nat)
  /-- PIN_W (R201). -/
  | pinW (c page tenant slot listAddr q qframe : Nat)
  /-- UNPIN (R201). -/
  | unpin (page : Nat)
  /-- SHARE (R201). -/
  | share (page tenant slot : Nat)
  /-- RELEASE (R201). -/
  | release (page slot : Nat)
  /-- TRIM (R201). -/
  | trim (page n slot : Nat)
  /-- SPILL (R211). -/
  | spill (page frame : Nat)
  /-- FILL (R211). -/
  | fill (page frame : Nat)
  /-- COW_COPY_DONE (R209). -/
  | cowCopyDone (b : Nat)
  /-- TIER_MOVE_DONE (R211). -/
  | tierMoveDone (page : Nat)
  /-- SPILL_SWEEP (R211). -/
  | spillSweep (b : Nat)
  /-- PAGE_NUMBER_RELEASE (R202). -/
  | pageNumberRelease (page : Nat)
  /-- KV_APPEND (R207). -/
  | kvAppend (c : Nat)
  /-- ATTN_RUN (R206). -/
  | attnRun (c : Nat)
  /-- WALKER_PAGE_READ (R206). -/
  | walkerPageRead (c : Nat)
  /-- ATTN_CMD_COMPLETE (R204). -/
  | attnCmdComplete (c : Nat)
  /-- SEQ_FAIL_REPORT (R208). -/
  | seqFailReport (c slot : Nat)
  /-- XLATE_WRITE (R212). -/
  | xlateWrite (c : Nat) (v : Bool)
  /-- KVP_ENABLE_WRITE (R214). -/
  | kvpEnableWrite (b v : Nat)
  /-- ENTRY_SEL (R214). -/
  | entrySel (b v : Nat)
  /-- REQ_TAIL (R216). -/
  | reqTail (f v : Nat)
  /-- SUBMIT (R219). -/
  | submit (f : Nat)
  /-- CANCEL (R223). -/
  | cancel (f : Nat)
  /-- PARK (R223). -/
  | park (f : Nat)
  /-- UNPARK (R223). -/
  | unpark (f : Nat)
  /-- STEP_ASSEMBLY (R225). -/
  | stepAssembly (m : Nat)
  /-- DRAFT_ROUND_END (R228). -/
  | draftRoundEnd (step : Nat)
  /-- SAMPLING_DONE (R231). -/
  | samplingDone (step hub : Nat)
  /-- STEP_CLOSE (R227). -/
  | stepClose (step : Nat)
  /-- SLOT_FREE (R222). -/
  | slotFree (slot : Nat)
  /-- RES_POP_LO (R238). -/
  | resPopLo (f : Nat)
  /-- RES_PEEK_LO (R238). -/
  | resPeekLo (f : Nat)
  /-- RES_HEAD_WRITE (R238). -/
  | resHeadWrite (f v : Nat)
  /-- RING_ENABLE_WRITE (R243). -/
  | ringEnableWrite (f : Nat) (res : Bool) (v : Nat)
  /-- SEQ_SEL (R242). -/
  | seqSel (v : Nat)
  /-- MODEL_SWAP (R241). -/
  | modelSwap (m : Nat)
  /-- MODEL_UNLOAD (R242). -/
  | modelUnload (m : Nat)
  /-- BARRIER_DEADLINE_CHECK (R241). -/
  | barrierDeadlineCheck
  /-- SWAP_COMPLETE (R241). -/
  | swapComplete (m : Nat) (ok : Bool)
  /-- APERTURE_WRITE (R245). -/
  | apertureWrite (addr : Nat) (data : List Byte) (poisoned : Bool) (stream : Option Nat)
  /-- JOB_TAIL (R247). -/
  | jobTail (v : Nat)
  /-- JOB_LOAD (R248). -/
  | jobLoad
  /-- JOB_SWAP (R258). -/
  | jobSwap
  /-- JOB_EXPORT (R257). -/
  | jobExport
  /-- CHUNK_PROCESS (R254). -/
  | chunkProcess (j : Nat) (raw : Option (List Byte))
  /-- LAYER_COMPLETE (R254). -/
  | layerComplete (j : Nat)
  /-- JOB_END (R248). -/
  | jobEnd (j : Nat)
  /-- APERTURE_CREDIT_REQUEST (R257). -/
  | apertureCreditRequest (port peer ch : Nat)
  /-- APERTURE_CREDIT_MSG (R257). -/
  | apertureCreditMsg (j slots consumed : Nat)
  /-- EXPORT_CREDIT_RETRY (R257). -/
  | exportCreditRetry (j : Nat)
  /-- EXPORT_CREDIT_TIMEOUT (R257). -/
  | exportCreditTimeout (j : Nat)
  /-- INGEST_ENABLE_WRITE (R260). -/
  | ingestEnableWrite (v : Bool)
  /-- MEM_ACCESS (R269). -/
  | memAccess (rq : Requester) (addr : Nat) (wr : Option (Nat × Bool))
  /-- SCRUB_LINE (R272). -/
  | scrubLine (st : Nat)
  /-- RETIRE_COPY_DONE (R277). -/
  | retireCopyDone (st : Nat)
  /-- SRAM_PATROL (R273). -/
  | sramPatrol (c word : Nat)
  /-- ECC_TEST_WRITE (R280). -/
  | eccTestWrite (d : Nat)
  /-- ECC_TEST_READ (R280). -/
  | eccTestRead (d : Nat)
  /-- ECC_TEST_EN_WRITE (R281). -/
  | eccTestEnWrite (d : Nat) (v : Bool)
  /-- RMAP_SEL (R282). -/
  | rmapSel (st v : Nat)
  /-- LINK_RETRAIN (R288). -/
  | linkRetrain (d p : Nat)
  /-- RETRAIN_END (R288). -/
  | retrainEnd (d p : Nat) (ok : Bool)
  /-- LANE_REPAIR (R285). -/
  | laneRepair (d p : Nat)
  /-- ROUTE_WRITE (R288). -/
  | routeWrite (d dst v : Nat)
  /-- AWN_ADD (R293). -/
  | awnAdd (sem n : Nat)
  /-- AWN_CLAIM (R293). -/
  | awnClaim (who sem n : Nat)
  /-- AWN_GRANT (R293). -/
  | awnGrant (who : Nat)
  /-- CLAIM_WITHDRAW (R294). -/
  | claimWithdraw (c : Nat)
  /-- STEP_START_BROADCAST (R183). -/
  | stepStartBroadcast (step : Nat)
  /-- SCLK_ZERO (R328). -/
  | sclkZero
  /-- PLK_TRAIN (R297). -/
  | plkTrain (p : Nat) (retrain : Bool)
  /-- PLK_TRAIN_DONE (R297). -/
  | plkTrainDone (p badLanes versions peerId peerPort : Nat)
  /-- PLK_LANE_ERROR (R298). -/
  | plkLaneError (p lane : Nat)
  /-- PEER_INBOUND (R300). -/
  | peerInbound (p addr : Nat) (wr : Option (List Byte × List Nat))
  /-- RCOPY_START (R302). -/
  | rcopyStart (h : Nat)
  /-- RCOPY_DONE (R302). -/
  | rcopyDone (h k : Nat) (data : Option (List Byte × List Nat))
  /-- SEM_SEL (R307). -/
  | semSel (v : Nat)
  /-- SEM_VIEW_WRITE (R307). -/
  | semViewWrite (v : Nat)
  /-- BAR2_ACCESS (R311). -/
  | bar2Access (off : Nat) (wr : Option (Nat × Bool)) (stream : Option Nat)
  /-- CONFIG_REQUEST (R316). -/
  | configRequest (i : Nat)
  /-- FLR (R313). -/
  | flr (f : Nat)
  /-- HOST_LINK_DOWN (R314). -/
  | hostLinkDown
  /-- INGEST_LINK_DOWN (R314). -/
  | ingestLinkDown
  /-- PTM_DIALOGUE (R317). -/
  | ptmDialogue (hostNs : Nat)
  /-- PTM_HOST_READ (R317). -/
  | ptmHostRead
  /-- IDE_FAIL (R318). -/
  | ideFail (i stream : Nat)
  /-- CXL_DOWN (R320). -/
  | cxlDown (p : Nat)
  /-- MCTP_REQUEST (R321). -/
  | mctpRequest (typ : Nat)
  /-- SPDM_REQUEST (R382). -/
  | spdmRequest (mgmt : Bool) (op : Nat) (ide : Option Nat)
  /-- JTAG_INSTRUCTION (R322). -/
  | jtagInstruction (ir : Nat)
  /-- PLL_UNLOCK (R327). -/
  | pllUnlock (d : Nat)
  /-- REFCLK_LOSS (R327). -/
  | refclkLoss
  /-- XING_TIMEOUT (R332). -/
  | xingTimeout (page : Nat)
  /-- CROSSING_RELEASE (R332). -/
  | crossingRelease (page : Nat)
  /-- CORE_RST_ASSERT (R335). -/
  | coreRstAssert (c : Nat) (preserve : Bool)
  /-- CORE_RST_RELEASE (R335). -/
  | coreRstRelease (c : Nat)
  /-- WARM_RESET (R333). -/
  | warmReset (cause : Nat)
  /-- HK_ROUND_TRIGGER (R341). -/
  | hkRoundTrigger
  /-- HK_DECISION (R341). -/
  | hkDecision (r : HkReadings)
  /-- ORDERLY_DRAIN_END (R346). -/
  | orderlyDrainEnd
  /-- ORDERLY_FLUSH_END (R346). -/
  | orderlyFlushEnd
  /-- HKADC_CONVERSION_END (R348). -/
  | hkadcConversionEnd (d : Nat) (input : Int)
  /-- HKADC_SW_TRIG (R348). -/
  | hkadcSwTrig (d : Nat)
  /-- LIFETIME_FOLD (R373). -/
  | lifetimeFold
  /-- CLASS_LINE_STUCK (R355). -/
  | classLineStuck (d page : Nat)
  /-- RECORD_POLL (R355). -/
  | recordPoll (d page : Nat)
  /-- RECORD_WAIT_TIMEOUT (R355). -/
  | recordWaitTimeout (d page : Nat)
  /-- FAULT_RECORD (R357). -/
  | faultRecord (d : Nat)
  /-- COALESCE_EXPIRY (R357). -/
  | coalesceExpiry (d : Nat)
  /-- FAULT_LOG (R357). -/
  | faultLog
  /-- CONTAINMENT_COMPLETE (R358). -/
  | containmentComplete (seqno : Nat)
  /-- LOG_HEAD_WRITE (R358). -/
  | logHeadWrite (v : Nat)
  /-- LOG_SEL (R375). -/
  | logSel (v : Nat)
  /-- COMPAT_QUIET_END (R361). -/
  | compatQuietEnd
  /-- MIG_REQ (R363). -/
  | migReq (logical : Nat)
  /-- MIG_MOVE_START (R365). -/
  | migMoveStart (logical : Nat)
  /-- MIG_COPY_DONE (R365). -/
  | migCopyDone (logical : Nat)
  /-- MIG_BANKS_DONE (R365). -/
  | migBanksDone (logical : Nat)
  /-- REBUILD_RELOAD_END (R366). -/
  | rebuildReloadEnd (logical : Nat)
  /-- CORE_REDIR_WRITE (R367). -/
  | coreRedirWrite (l v : Nat)
  /-- TEST_DUE (R370). -/
  | testDue (c : Nat)
  /-- TEST_DONE (R370). -/
  | testDone (c : Nat) (bist : Bool) (failed : List (Nat × Nat × Nat × Nat))
  /-- TEST_DEFER_EXPIRY (R371). -/
  | testDeferExpiry (c : Nat)
  /-- NVM_DATA_READ (R377). -/
  | nvmDataRead
  /-- CFG2P_COMMIT (R386). -/
  | cfg2pCommit (mgmt : Bool)
  /-- CFG2P_APPLY (R387). -/
  | cfg2pApply
  /-- FW_SLOT_WRITE (R379). -/
  | fwSlotWrite (img : FwImage)
  /-- PWRGOOD_ASSERT (R423). -/
  | pwrgoodAssert (railsOk refclkOk : Bool)
  /-- PWRGOOD_DEASSERT (R424). -/
  | pwrgoodDeassert
  /-- PERST_HOST_ASSERT (R428). -/
  | perstHostAssert
  /-- PERST_HOST_DEASSERT (R428). -/
  | perstHostDeassert
  /-- PERST_INGEST (R428). -/
  | perstIngest (v : Bool)
  /-- STARTUP_STAGE_END (R391). -/
  | startupStageEnd (n : Nat) (r : StageResult)
  /-- IRQ_SET_WRITE (R406). -/
  | irqSetWrite (page v : Nat)
  /-- REGISTER_WRITE (R9): `w` bytes at an offset of BAR0, at 0x1000_0000 + an offset of PF0's BAR4, or at 0x1100_0000 + f × 0x4000 +
  an offset of function f's own BAR4 (R310). -/
  | registerWrite (addr w v : Nat)
  /-- STEP_FAILURE_REPORT (R187). -/
  | stepFailureReport (c step : Nat) (discarded : Bool)
  /-- PCIE_LINK_UP (R316). -/
  | pcieLinkUp (i width rate : Nat)
  /-- PLK_REPLAY_FAILURE (R298). -/
  | plkReplayFailure (p : Nat)
  /-- APPEND_PAGE_WRITE (R207). -/
  | appendPageWrite (c : Nat)
deriving DecidableEq, Repr

end Sys2Proof
end

