-- ==== Sys2Proof/Decode.lean ====
section
/-! DEFINITION. Words to commands: no row of the opcode table gives bits (every row's field list is empty), so no word spells a
command. -/

namespace Sys2Proof

/-- The command that a word spells by the table's bits: the table gives none. -/
def decodeTableWord (_nbits _w : Nat) : Option Instr := none

end Sys2Proof
end

