-- ==== Sys2Proof/Config.lean ====
section
/-! DEFINITION. What one part fixes and the free values: constants with no body, of which nothing can be proved but what holds
for every value (the log rows named at each). -/

namespace Sys2Proof

/-- Where the page lists of a slot begin, main and draft: the manual does not say (log 26). -/
opaque Config.listBaseRaw : Nat → Bool → Nat

/-- What an undefined or unstated value is, the n-th time one is needed (log 5). -/
opaque Config.freeValue : Nat → Nat

/-- The FP32 probabilities of the sorted candidates (R229 step 2): the order of the FP32 operations of the softmax is not
stated, so the values are free (log 6). Candidates in, probabilities out, both as FP32 patterns. -/
opaque Config.softmax : List Nat → List Nat

/-- The FP16 log-probability of R229 step 5, from the row's FP32 logits and the token: its operation order is not stated
(log 6). -/
opaque Config.logProb : List Nat → Nat → Nat

/-- The scale σ_j that the glume path uses for logical column j of a tile (R112 step 2), as an FP16 pattern, for the n-th
record: the manual does not say from where the path has it (log 21). -/
opaque Config.sigma : Nat → Nat → Nat → Nat

/-- The payload and sign of a NaN that an FP32 operation makes, from its operands: the manual states neither (log 11). -/
opaque Config.nanRaw : Nat → Nat → Nat

/-- The 64-byte SHAKE256 digest (R378, R382, R385) as a number of the bytes: the published standard, used as written (log 7). -/
opaque Config.shake256 : List Byte → Nat

/-- Whether an ML-DSA-65 signature verifies: key, message, signature (R385), the published standard (log 7). -/
opaque Config.mlDsaVerify : List Byte → List Byte → List Byte → Bool

/-- The next 256-bit nonce of the enclave (R386, R387): the manual does not say how it is formed (log 5). -/
opaque Config.nonce : Nat → Nat

/-- Part serial number, spare dies, stepping and class of the factory record (R380, R414) (log 8). -/
opaque Config.serial : Nat
opaque Config.classE : Bool

/-- KT of tile `t` of engine `e` of core `c` in the factory record (R128): within +150 to +450 (log 8). -/
opaque Config.ktRaw : Nat → Nat → Nat → Nat

/-- The sensor that the factory record assigns to an engine, and its alternate (R128, R340) (log 8). -/
opaque Config.sensorOf : Nat → Nat → Nat
opaque Config.altSensorOf : Nat → Nat → Nat

/-- Digests that the bytes of the mask ROM and of the factory record would give (R382): neither is listed (log 8). -/
opaque Config.romDigest : Nat
opaque Config.factoryDigest : Nat

/-- The SVN of the firmware image that slot 0 or 1 holds at shipment (R378) (log 8). -/
opaque Config.shippedSvn : Nat → Nat

/-- The core of a compute die that holds an SRAM, by the SRAM's number (R278): the manual gives no map (log 8). -/
opaque Config.sramCore : Nat → Nat → Nat

/-- The route entry that firmware computes at start-up around the connections that are down, given as (die, port), for a router
and a destination (R287, R391): the manual does not give the routes (log 36). -/
opaque Config.bootRoute : List (Nat × Nat) → Nat → Nat → Nat

/-- The 34 compute dies in ascending order (R16). -/
def computeDies : List Nat :=
  [0, 1, 2, 3, 4, 5, 6, 7, 8, 9, 11, 12, 14, 15, 17, 18, 19, 20, 21, 22, 24, 25, 27, 28, 30, 31, 32, 33, 34, 35, 36, 37, 38, 39]

/-- Which pair of compute dies the factory record names as spares, as positions in `computeDies` (R18) (log 8). -/
opaque Config.spareRaw : Nat

/-- KT, brought into the range every factory value lies in (R128). -/
def Config.kt (c e t : Nat) : Nat := 150 + Config.ktRaw c e t % 301

/-- The lower spare die's position among the compute dies. -/
def Config.sparePos0 : Nat := Config.spareRaw % 33

/-- The higher spare die's position, above the lower one's. -/
def Config.sparePos1 : Nat := Config.sparePos0 + 1 + (Config.spareRaw / 33) % (33 - Config.sparePos0)

def Config.spare0 : Nat := computeDies.getD Config.sparePos0 0
def Config.spare1 : Nat := computeDies.getD Config.sparePos1 0

end Sys2Proof
end

