-- ==== Sys2Proof/Machine/Bits.lean ====
section
/-! DEFINITION. Sparse maps, bit fields, signed fields and byte order: the helpers every operation uses. -/

namespace Sys2Proof.Machine

/-! ### Sparse maps, keys strictly rising -/

def mfind {α : Type} : FMap α → Nat → Option α
  | [], _ => none
  | (k, v) :: m, i => if i = k then some v else mfind m i

/-- What key `i` holds, `d` where it is unlisted. -/
def mget {α : Type} (m : FMap α) (d : α) (i : Nat) : α := (mfind m i).getD d

def mput {α : Type} : FMap α → Nat → α → FMap α
  | [], i, v => [(i, v)]
  | (k, w) :: m, i, v =>
    if i < k then (i, v) :: (k, w) :: m else if i = k then (i, v) :: m else (k, w) :: mput m i v

def mdel {α : Type} : FMap α → Nat → FMap α
  | [], _ => []
  | (k, w) :: m, i => if i = k then m else (k, w) :: mdel m i

/-- The entries whose key satisfies `p` are dropped. -/
def mdrop {α : Type} (m : FMap α) (p : Nat → Bool) : FMap α := m.filter (fun e => !p e.1)

/-- Keys strictly rising. -/
def mwf {α : Type} : FMap α → Bool
  | [] => true
  | [_] => true
  | a :: b :: m => decide (a.1 < b.1) && mwf (b :: m)

/-! ### Bits -/

/-- Bits [lsb+width-1 : lsb] of `v`. -/
def field (v lsb width : Nat) : Nat := (v >>> lsb) % 2 ^ width

def bit (v i : Nat) : Bool := v.testBit i

def toBit (b : Bool) : Nat := if b then 1 else 0

/-- `v` with bit `i` made `b`. -/
def putBit (v i : Nat) (b : Bool) : Nat :=
  if b then v ||| (1 <<< i) else if v.testBit i then v - 1 <<< i else v

/-- The bits of `v` among the lowest `n`, ascending. -/
def bitsOf (v n : Nat) : List Nat := (List.range n).filter (fun i => v.testBit i)

def maskOf (l : List Nat) : Nat := l.foldl (fun a i => a ||| (1 <<< i)) 0

/-- Two's complement reading of the low `w` bits. -/
def toSigned (w v : Nat) : Int :=
  if v % 2 ^ w < 2 ^ (w - 1) then (v % 2 ^ w : Nat) else ((v % 2 ^ w : Nat) : Int) - 2 ^ w

/-- Two's complement writing in `w` bits. -/
def ofSigned (w : Nat) (v : Int) : Nat := (v % (2 ^ w : Int)).toNat

/-- Clamp to [lo, hi]. -/
def clampI (lo hi v : Int) : Int := if v < lo then lo else if hi < v then hi else v

/-- Add saturating at `2^w - 1`. -/
def satAdd (w a b : Nat) : Nat := min (a + b) (2 ^ w - 1)

/-- Nearest integer to a/b (b > 0), ties away from zero. -/
def roundAway (a b : Int) : Int :=
  if 0 ≤ a then (2 * a + b) / (2 * b) else -((2 * (-a) + b) / (2 * b))

/-- Nearest integer to a/b (b > 0), ties to even. -/
def roundEven (a b : Int) : Int :=
  let q := a / b
  let r := 2 * (a - q * b)
  if r < b then q else if b < r then q + 1 else if q % 2 = 0 then q else q + 1

/-! ### Bytes, little-endian (R6) -/

def byteOf (v : Nat) : Byte := BitVec.ofNat 8 v

def toLe : Nat → Nat → List Byte
  | 0, _ => []
  | n + 1, v => byteOf v :: toLe n (v / 256)

def ofLe : List Byte → Nat
  | [] => 0
  | b :: l => b.toNat + 256 * ofLe l

/-- The first `n` bytes from byte `i` of `l`, as a number. -/
def leAt (l : List Byte) (i n : Nat) : Nat := ofLe ((l.drop i).take n)

/-! ### Lists -/

def insertBy {α : Type} (le : α → α → Bool) (x : α) : List α → List α
  | [] => [x]
  | y :: l => if le x y then x :: y :: l else y :: insertBy le x l

def sortBy {α : Type} (le : α → α → Bool) : List α → List α
  | [] => []
  | x :: l => insertBy le x (sortBy le l)

def sortNat (l : List Nat) : List Nat := sortBy (fun a b => decide (a ≤ b)) l

/-- The first element satisfying `p` removed. -/
def eraseFirst {α : Type} (p : α → Bool) : List α → List α
  | [] => []
  | x :: l => if p x then l else x :: eraseFirst p l

/-- Every element satisfying `p` changed by `f`. -/
def mapIf {α : Type} (p : α → Bool) (f : α → α) (l : List α) : List α := l.map (fun x => if p x then f x else x)

/-- Element `i` changed by `f`. -/
def modNth {α : Type} (f : α → α) : Nat → List α → List α
  | _, [] => []
  | 0, x :: l => f x :: l
  | n + 1, x :: l => x :: modNth f n l

def sumI (l : List Int) : Int := l.foldl (· + ·) 0
def sumN (l : List Nat) : Nat := l.foldl (· + ·) 0
def maxN (l : List Nat) : Nat := l.foldl max 0

/-- `f` applied for each element, in order. -/
def each {α σ : Type} (l : List α) (f : σ → α → σ) (s : σ) : σ := l.foldl f s

/-- The element at which `key` is least, the first of equals. -/
def minBy {α : Type} (key : α → Nat) : List α → Option α
  | [] => none
  | x :: l =>
    match minBy key l with
    | none => some x
    | some y => if key x ≤ key y then some x else some y

/-- Integer square root, by bits from the top. -/
def isqrtAux (n : Nat) : Nat → Nat → Nat
  | 0, r => r
  | k + 1, r => if (r + 2 ^ k) * (r + 2 ^ k) ≤ n then isqrtAux n k (r + 2 ^ k) else isqrtAux n k r

def isqrt (n : Nat) : Nat := isqrtAux n (n.log2 / 2 + 1) 0

end Sys2Proof.Machine
end

