-- ==== Sys2Proof/Machine/Registers.lean ====
section
/-! DEFINITION. The register fields of every page, block by block: name, byte offset in the page, place of the least
significant bit, width, access code (R9) and reset value (R12), as the chapters' field maps give them. Fields of the page
header common to all pages (R406) come first. Where the Reset column says "fr", "Position" or "XY" the value here is 0 and
`posReset` (Machine/Ops.lean) gives the value the position fixes. Tenant and model entries and function windows
(R242, R243) are pages of their own here, with their entry's byte offsets. -/

namespace Sys2Proof

/-- The access codes of R9. -/
inductive Acc where
  | r | rw | wo | w1c | w1s | rc | rwLk | rw2p
deriving DecidableEq, Repr

/-- One field of a register: byte offset of its register in the page, least significant bit, width, access, reset. -/
structure Fld where
  off : Nat
  lsb : Nat
  width : Nat
  acc : Acc
  reset : Nat
deriving DecidableEq, Repr

/-- One register of a page: byte offset and width in bits (R408). -/
structure Reg where
  off : Nat
  width : Nat
deriving DecidableEq, Repr

/-- The blocks of R403 and R404; `fltd` is the per-die FLT page (R376), and `ten`, `mdl`, `fnw` are a tenant entry, a model
entry and a function window, which R242 and R243 lay out as register maps. -/
inductive Block where
  | tile | eng | core | chk | attn | clus | die | mesh | hbmc | cxl | pcie | plk | ingest | kvp | srv | flt | fltd | ecc | hkadc | therm | clk | rst | sec | cfg2p | life | sync | ten | mdl | fnw | none
deriving DecidableEq, Repr

/-- Block type codes of R403 and R404. -/
def Block.code : Block → Nat
  | .tile => 1
  | .eng => 2
  | .core => 3
  | .chk => 4
  | .attn => 5
  | .clus => 6
  | .die => 7
  | .mesh => 8
  | .hbmc => 9
  | .cxl => 10
  | .pcie => 11
  | .plk => 12
  | .ingest => 13
  | .kvp => 14
  | .srv => 15
  | .flt => 16
  | .fltd => 16
  | .ecc => 17
  | .hkadc => 18
  | .therm => 19
  | .clk => 20
  | .rst => 21
  | .sec => 22
  | .cfg2p => 23
  | .life => 24
  | .sync => 25
  | .ten => 0
  | .mdl => 0
  | .fnw => 0
  | .none => 0

/-! ### The page header (R406) -/
def HDR.ID : Fld := ⟨0x000, 0, 32, .r, 0⟩
def HDR.CAP : Fld := ⟨0x004, 0, 32, .r, 0⟩
def HDR.IRQ_STAT : Fld := ⟨0x010, 0, 32, .w1c, 0⟩
def HDR.IRQ_EN : Fld := ⟨0x014, 0, 32, .rw, 0⟩
def HDR.IRQ_SET : Fld := ⟨0x018, 0, 32, .wo, 0⟩
def HDR.ERR_CNT : Fld := ⟨0x01C, 0, 32, .rw, 0⟩

/-! ### TILE -/
def TILE.CAP_LIMITS : Fld := ⟨0x4, 16, 4, .r, 0xf⟩
def TILE.CAP_SPARE_PAIRS : Fld := ⟨0x4, 12, 4, .r, 4⟩
def TILE.CAP_REF_PAIRS : Fld := ⟨0x4, 8, 4, .r, 8⟩
def TILE.CAP_SPLIT : Fld := ⟨0x4, 7, 1, .r, 1⟩
def TILE.CAP_MERGE : Fld := ⟨0x4, 6, 1, .r, 1⟩
def TILE.CAP_SLICE2 : Fld := ⟨0x4, 5, 1, .r, 1⟩
def TILE.CAP_IN_MODES : Fld := ⟨0x4, 2, 3, .r, 7⟩
def TILE.CTRL_TILE_RESET : Fld := ⟨0x8, 1, 1, .wo, 0⟩
def TILE.CTRL_ENABLE : Fld := ⟨0x8, 0, 1, .rw, 1⟩
def TILE.STAT_STANDIN_FOR : Fld := ⟨0xC, 16, 5, .r, 0x1f⟩
def TILE.STAT_COLMAP_FULL : Fld := ⟨0xC, 5, 1, .r, 0⟩
def TILE.STAT_SPLIT_ACTIVE : Fld := ⟨0xC, 4, 1, .r, 0⟩
def TILE.STAT_PASS_ACTIVE : Fld := ⟨0xC, 3, 1, .r, 0⟩
def TILE.STAT_RETIRED : Fld := ⟨0xC, 2, 1, .r, 0⟩
def TILE.STAT_SUSPECT : Fld := ⟨0xC, 1, 1, .r, 0⟩
def TILE.STAT_IN_SERVICE : Fld := ⟨0xC, 0, 1, .r, 0⟩
def TILE.CFG_MERGE_EN : Fld := ⟨0x40, 15, 1, .rw, 1⟩
def TILE.CFG_SKIP_EN : Fld := ⟨0x40, 14, 1, .rw, 1⟩
def TILE.CFG_SPLIT_EN : Fld := ⟨0x40, 13, 1, .rw, 1⟩
def TILE.CFG_LIMIT_MAX : Fld := ⟨0x40, 10, 2, .r, 2⟩
def TILE.CFG_LIMIT_B : Fld := ⟨0x40, 8, 2, .rw, 2⟩
def TILE.CFG_LIMIT_A : Fld := ⟨0x40, 6, 2, .rw, 2⟩
def TILE.CFG_SLICE_B : Fld := ⟨0x40, 4, 1, .rw, 0⟩
def TILE.CFG_SLICE_A : Fld := ⟨0x40, 3, 1, .rw, 0⟩
def TILE.CFG_COMPUTE_BANK : Fld := ⟨0x40, 0, 1, .r, 0⟩
def TILE.OVR_LAST_LEVEL : Fld := ⟨0x44, 30, 2, .r, 0⟩
def TILE.OVR_LAST_NIBBLE : Fld := ⟨0x44, 29, 1, .r, 0⟩
def TILE.OVR_LAST_SAT : Fld := ⟨0x44, 28, 1, .r, 0⟩
def TILE.OVR_LAST_FIRST_ROW : Fld := ⟨0x44, 16, 10, .r, 0⟩
def TILE.OVR_LAST_LANE : Fld := ⟨0x44, 0, 8, .r, 0⟩
def TILE.PASS_CNT : Fld := ⟨0x48, 0, 64, .rw, 0⟩
def TILE.SKIP_CNT : Fld := ⟨0x50, 0, 64, .rw, 0⟩
def TILE.MERGE_CNT : Fld := ⟨0x58, 0, 32, .rw, 0⟩
def TILE.OVR_CNT : Fld := ⟨0x5C, 0, 32, .rw, 0⟩
def TILE.SPLIT_CNT : Fld := ⟨0x60, 0, 32, .rw, 0⟩
def TILE.SAT_CNT : Fld := ⟨0x64, 0, 32, .rw, 0⟩
def TILE.BUDGET_CNT : Fld := ⟨0x68, 0, 32, .rw, 0⟩
def TILE.INCLAMP_CNT : Fld := ⟨0x6C, 0, 32, .rw, 0⟩
def TILE.COLMAP_VALID (i : Nat) : Fld := ⟨0x70 + 4 * i, 31, 1, .rw, 0⟩
def TILE.COLMAP_BANK (i : Nat) : Fld := ⟨0x70 + 4 * i, 16, 2, .rw, 0⟩
def TILE.COLMAP_COLUMN (i : Nat) : Fld := ⟨0x70 + 4 * i, 0, 8, .rw, 0⟩
def TILE.CAL_CTRL_VIEW : Fld := ⟨0x100, 7, 1, .rw, 0⟩
def TILE.CAL_CTRL_LOAD : Fld := ⟨0x100, 4, 1, .wo, 0⟩
def TILE.CAL_CTRL_SAVE : Fld := ⟨0x100, 3, 1, .wo, 0⟩
def TILE.CAL_CTRL_RECAL : Fld := ⟨0x100, 2, 1, .wo, 0⟩
def TILE.CAL_CTRL_TRACK_EN : Fld := ⟨0x100, 1, 1, .rw, 1⟩
def TILE.CAL_CTRL_APPLY : Fld := ⟨0x100, 0, 1, .wo, 0⟩
def TILE.CAL_STAT_BUSY : Fld := ⟨0x104, 31, 1, .r, 0⟩
def TILE.CAL_STAT_PHASE : Fld := ⟨0x104, 28, 3, .r, 0⟩
def TILE.CAL_STAT_LOAD_RESULT : Fld := ⟨0x104, 26, 2, .r, 0⟩
def TILE.CAL_STAT_RETRIED : Fld := ⟨0x104, 25, 1, .r, 0⟩
def TILE.CAL_STAT_OVERDUE : Fld := ⟨0x104, 24, 1, .r, 0⟩
def TILE.CAL_STAT_GAIN_USED : Fld := ⟨0x104, 16, 7, .r, 0⟩
def TILE.CAL_STAT_AGE_S : Fld := ⟨0x104, 0, 16, .r, 0⟩
def TILE.CAL_SET_LIMIT_MAX : Fld := ⟨0x108, 24, 2, .rw, 2⟩
def TILE.CAL_SET_LINEAR_PU : Fld := ⟨0x108, 0, 24, .rw, 0⟩
def TILE.TEMP_COMP_KT : Fld := ⟨0x10C, 16, 16, .rw, 0⟩
def TILE.TEMP_COMP_CAL_TEMP : Fld := ⟨0x10C, 0, 16, .r, 0⟩
def TILE.TRACK_LIMIT (i : Nat) : Fld := ⟨0x110 + 4 * i, 31, 1, .r, 0⟩
def TILE.TRACK_OFFSET (i : Nat) : Fld := ⟨0x110 + 4 * i, 8, 8, .r, 0⟩
def TILE.TRACK_GAIN (i : Nat) : Fld := ⟨0x110 + 4 * i, 0, 8, .r, 0⟩
def TILE.CAL_IMG_ADDR_ADDR : Fld := ⟨0x118, 10, 15, .rw, 0⟩
def TILE.TEMP_TERM_TT : Fld := ⟨0x11C, 0, 16, .r, 0⟩
def TILE.CAL_TIME : Fld := ⟨0x120, 0, 64, .r, 0⟩
def TILE.CAL_CNT : Fld := ⟨0x128, 0, 64, .rw, 0⟩
def TILE.CAL_TMO_CNT : Fld := ⟨0x130, 0, 32, .rw, 0⟩
def TILE.CAL_SKIP_CNT : Fld := ⟨0x134, 0, 32, .rw, 0⟩
def TILE.TRACK_LIM_CNT : Fld := ⟨0x138, 0, 32, .rw, 0⟩
def TILE.BANK_SKEW_SKEW : Fld := ⟨0x13C, 0, 16, .r, 0⟩
def TILE.PAIR_TRIM (i : Nat) : Fld := ⟨0x140 + 4 * i, 0, 32, .rw, 0⟩
def TILE.ROW_TRIM (i : Nat) : Fld := ⟨0x2D4 + 4 * i, 0, 32, .rw, 0⟩

/-- The fields of TILE (header fields IRQ_STAT, IRQ_EN, IRQ_SET, ERR_CNT apart). -/
def TILE.fields : List Fld :=
  [TILE.CAP_LIMITS, TILE.CAP_SPARE_PAIRS, TILE.CAP_REF_PAIRS, TILE.CAP_SPLIT, TILE.CAP_MERGE, TILE.CAP_SLICE2, TILE.CAP_IN_MODES, TILE.CTRL_TILE_RESET, TILE.CTRL_ENABLE, TILE.STAT_STANDIN_FOR, TILE.STAT_COLMAP_FULL, TILE.STAT_SPLIT_ACTIVE, TILE.STAT_PASS_ACTIVE, TILE.STAT_RETIRED, TILE.STAT_SUSPECT, TILE.STAT_IN_SERVICE, TILE.CFG_MERGE_EN, TILE.CFG_SKIP_EN, TILE.CFG_SPLIT_EN, TILE.CFG_LIMIT_MAX, TILE.CFG_LIMIT_B, TILE.CFG_LIMIT_A, TILE.CFG_SLICE_B, TILE.CFG_SLICE_A, TILE.CFG_COMPUTE_BANK, TILE.OVR_LAST_LEVEL, TILE.OVR_LAST_NIBBLE, TILE.OVR_LAST_SAT, TILE.OVR_LAST_FIRST_ROW, TILE.OVR_LAST_LANE, TILE.PASS_CNT, TILE.SKIP_CNT, TILE.MERGE_CNT, TILE.OVR_CNT, TILE.SPLIT_CNT, TILE.SAT_CNT, TILE.BUDGET_CNT, TILE.INCLAMP_CNT]
    ++ (List.range 4).flatMap (fun i => [TILE.COLMAP_VALID i, TILE.COLMAP_BANK i, TILE.COLMAP_COLUMN i])
    ++ [TILE.CAL_CTRL_VIEW, TILE.CAL_CTRL_LOAD, TILE.CAL_CTRL_SAVE, TILE.CAL_CTRL_RECAL, TILE.CAL_CTRL_TRACK_EN, TILE.CAL_CTRL_APPLY, TILE.CAL_STAT_BUSY, TILE.CAL_STAT_PHASE, TILE.CAL_STAT_LOAD_RESULT, TILE.CAL_STAT_RETRIED, TILE.CAL_STAT_OVERDUE, TILE.CAL_STAT_GAIN_USED, TILE.CAL_STAT_AGE_S, TILE.CAL_SET_LIMIT_MAX, TILE.CAL_SET_LINEAR_PU, TILE.TEMP_COMP_KT, TILE.TEMP_COMP_CAL_TEMP]
    ++ (List.range 2).flatMap (fun i => [TILE.TRACK_LIMIT i, TILE.TRACK_OFFSET i, TILE.TRACK_GAIN i])
    ++ [TILE.CAL_IMG_ADDR_ADDR, TILE.TEMP_TERM_TT, TILE.CAL_TIME, TILE.CAL_CNT, TILE.CAL_TMO_CNT, TILE.CAL_SKIP_CNT, TILE.TRACK_LIM_CNT, TILE.BANK_SKEW_SKEW]
    ++ (List.range 101).flatMap (fun i => [TILE.PAIR_TRIM i])
    ++ (List.range 128).flatMap (fun i => [TILE.ROW_TRIM i])

/-- The registers of TILE and their widths. -/
def TILE.regs : List Reg :=
  [⟨0x4, 32⟩, ⟨0x8, 32⟩, ⟨0xC, 32⟩, ⟨0x40, 32⟩, ⟨0x44, 32⟩, ⟨0x48, 64⟩, ⟨0x50, 64⟩, ⟨0x58, 32⟩, ⟨0x5C, 32⟩, ⟨0x60, 32⟩, ⟨0x64, 32⟩, ⟨0x68, 32⟩, ⟨0x6C, 32⟩, ⟨0x100, 32⟩, ⟨0x104, 32⟩, ⟨0x108, 32⟩, ⟨0x10C, 32⟩, ⟨0x118, 32⟩, ⟨0x11C, 32⟩, ⟨0x120, 64⟩, ⟨0x128, 64⟩, ⟨0x130, 32⟩, ⟨0x134, 32⟩, ⟨0x138, 32⟩, ⟨0x13C, 32⟩]
    ++ (List.range 4).map (fun i => ⟨0x70 + 4 * i, 32⟩)
    ++ (List.range 2).map (fun i => ⟨0x110 + 4 * i, 32⟩)
    ++ (List.range 101).map (fun i => ⟨0x140 + 4 * i, 32⟩)
    ++ (List.range 128).map (fun i => ⟨0x2D4 + 4 * i, 32⟩)

/-! ### ENG -/
def ENG.CAP_ACC_TILES : Fld := ⟨0x4, 17, 7, .r, 0x40⟩
def ENG.CAP_TILES : Fld := ⟨0x4, 12, 5, .r, 0x11⟩
def ENG.CAP_WEAR : Fld := ⟨0x4, 3, 1, .r, 1⟩
def ENG.CAP_HEADROOM : Fld := ⟨0x4, 2, 1, .r, 1⟩
def ENG.CAP_REISSUE : Fld := ⟨0x4, 1, 1, .r, 1⟩
def ENG.CAP_DYN : Fld := ⟨0x4, 0, 1, .r, 1⟩
def ENG.STAT_QUEUE : Fld := ⟨0xC, 27, 5, .r, 0⟩
def ENG.STAT_GLUME_BUSY : Fld := ⟨0xC, 24, 1, .r, 0⟩
def ENG.STAT_THRESHER_BUSY : Fld := ⟨0xC, 23, 1, .r, 0⟩
def ENG.STAT_IN_SERVICE : Fld := ⟨0xC, 0, 17, .r, 0⟩
def ENG.REFRESH_CTRL_STALE_LIMIT : Fld := ⟨0x100, 8, 4, .rw, 4⟩
def ENG.REFRESH_CTRL_MIN_BAND : Fld := ⟨0x100, 1, 3, .rw, 0⟩
def ENG.REFRESH_CTRL_ENABLE : Fld := ⟨0x100, 0, 1, .rw, 1⟩
def ENG.REFRESH_STAT_BAND : Fld := ⟨0x104, 16, 3, .r, 0⟩
def ENG.REFRESH_STAT_INTERVAL_US : Fld := ⟨0x104, 0, 16, .r, 0x3e80⟩
def ENG.WEAR_CTRL_PERIOD : Fld := ⟨0x108, 8, 8, .rw, 0x3c⟩
def ENG.WEAR_CTRL_ENABLE : Fld := ⟨0x108, 0, 1, .rw, 1⟩
def ENG.BANK_RELEASE_BANK : Fld := ⟨0x10C, 8, 1, .wo, 0⟩
def ENG.BANK_RELEASE_TILE : Fld := ⟨0x10C, 0, 5, .wo, 0⟩
def ENG.REFRESH_SLOT_CNT : Fld := ⟨0x110, 0, 64, .rw, 0⟩
def ENG.REFRESH_ROW_CNT : Fld := ⟨0x118, 0, 64, .rw, 0⟩
def ENG.BANKWR_CNT : Fld := ⟨0x120, 0, 64, .rw, 0⟩
def ENG.WEAR_SWAP_CNT : Fld := ⟨0x128, 0, 64, .rw, 0⟩
def ENG.STALE_CNT : Fld := ⟨0x130, 0, 64, .rw, 0⟩
def ENG.REFRESH_LATE_CNT : Fld := ⟨0x138, 0, 64, .rw, 0⟩
def ENG.BANK_STATE_STATE (i : Nat) : Fld := ⟨0x200 + 8 * i, 62, 2, .r, 0⟩
def ENG.BANK_STATE_WRITING (i : Nat) : Fld := ⟨0x200 + 8 * i, 61, 1, .r, 0⟩
def ENG.BANK_STATE_POISONED (i : Nat) : Fld := ⟨0x200 + 8 * i, 60, 1, .r, 0⟩
def ENG.BANK_STATE_ROWS (i : Nat) : Fld := ⟨0x200 + 8 * i, 49, 11, .r, 0⟩
def ENG.BANK_STATE_AGE_US (i : Nat) : Fld := ⟨0x200 + 8 * i, 32, 16, .r, 0⟩
def ENG.BANK_STATE_SHADOW (i : Nat) : Fld := ⟨0x200 + 8 * i, 7, 18, .r, 0⟩
def ENG.ACC_CTRL_P : Fld := ⟨0x400, 2, 2, .rw, 1⟩
def ENG.ACC_CTRL_HEADROOM_EN : Fld := ⟨0x400, 0, 1, .rw, 1⟩
def ENG.ACC_EVT_BUSY_REFUSED : Fld := ⟨0x404, 3, 1, .w1c, 0⟩
def ENG.ACC_EVT_POISON : Fld := ⟨0x404, 2, 1, .w1c, 0⟩
def ENG.ACC_EVT_SAT_W : Fld := ⟨0x404, 1, 1, .w1c, 0⟩
def ENG.ACC_EVT_SAT_N : Fld := ⟨0x404, 0, 1, .w1c, 0⟩
def ENG.ROUND_CNT : Fld := ⟨0x410, 0, 64, .rw, 0⟩
def ENG.PROMOTE_CNT : Fld := ⟨0x418, 0, 64, .rw, 0⟩
def ENG.HEADROOM_CNT : Fld := ⟨0x420, 0, 64, .rw, 0⟩
def ENG.SPILL_CNT : Fld := ⟨0x428, 0, 64, .rw, 0⟩
def ENG.RESUME_CNT : Fld := ⟨0x430, 0, 64, .rw, 0⟩
def ENG.READ_CNT : Fld := ⟨0x438, 0, 64, .rw, 0⟩
def ENG.SATN_LANE_CNT : Fld := ⟨0x440, 0, 64, .rw, 0⟩
def ENG.SATW_LANE_CNT : Fld := ⟨0x448, 0, 64, .rw, 0⟩
def ENG.POISON_LANE_CNT : Fld := ⟨0x450, 0, 64, .rw, 0⟩
def ENG.ACC_BUSY_CNT : Fld := ⟨0x458, 0, 64, .rw, 0⟩
def ENG.ACC_STALL_CNT : Fld := ⟨0x460, 0, 64, .rw, 0⟩
def ENG.ACC_TILE_BUSY (i : Nat) : Fld := ⟨0x500 + 4 * i, 31, 1, .r, 0⟩
def ENG.ACC_TILE_OWNER (i : Nat) : Fld := ⟨0x500 + 4 * i, 25, 6, .r, 0⟩
def ENG.ACC_TILE_SAT_N (i : Nat) : Fld := ⟨0x500 + 4 * i, 23, 1, .r, 0⟩
def ENG.ACC_TILE_SAT_W (i : Nat) : Fld := ⟨0x500 + 4 * i, 22, 1, .r, 0⟩
def ENG.ACC_TILE_POISON (i : Nat) : Fld := ⟨0x500 + 4 * i, 21, 1, .r, 0⟩
def ENG.ACC_TILE_ADDS (i : Nat) : Fld := ⟨0x500 + 4 * i, 16, 5, .r, 0⟩
def ENG.OUTL_CTRL_REISSUE_EN : Fld := ⟨0x600, 1, 1, .rw, 1⟩
def ENG.OUTL_CTRL_DYN_EN : Fld := ⟨0x600, 0, 1, .rw, 1⟩
def ENG.OUTL_EVT_MALFORMED : Fld := ⟨0x604, 3, 1, .w1c, 0⟩
def ENG.OUTL_EVT_POISON : Fld := ⟨0x604, 2, 1, .w1c, 0⟩
def ENG.OUTL_EVT_REISSUE : Fld := ⟨0x604, 1, 1, .w1c, 0⟩
def ENG.OUTL_EVT_OUTLIER_OVF : Fld := ⟨0x604, 0, 1, .w1c, 0⟩
def ENG.DYN_CNT : Fld := ⟨0x610, 0, 64, .rw, 0⟩
def ENG.REISSUE_CNT : Fld := ⟨0x618, 0, 64, .rw, 0⟩
def ENG.DYN_CLIP_CNT : Fld := ⟨0x620, 0, 64, .rw, 0⟩
def ENG.OVF_VEC_CNT : Fld := ⟨0x628, 0, 64, .rw, 0⟩
def ENG.GLUME_STALL_CNT : Fld := ⟨0x630, 0, 64, .rw, 0⟩
def ENG.OLOAD_CNT : Fld := ⟨0x638, 0, 64, .rw, 0⟩
def ENG.OUTL_SET_STATE (i : Nat) : Fld := ⟨0x700 + 4 * i, 30, 2, .r, 0⟩
def ENG.OUTL_SET_SPARSE_N (i : Nat) : Fld := ⟨0x700 + 4 * i, 16, 11, .r, 0⟩
def ENG.OUTL_SET_STATIC_N (i : Nat) : Fld := ⟨0x700 + 4 * i, 0, 6, .r, 0⟩
def ENG.CAL_ROT_PERIOD_MS : Fld := ⟨0x800, 16, 16, .rw, 0x3e8⟩
def ENG.CAL_ROT_ROT_WAIT_MS : Fld := ⟨0x800, 8, 8, .rw, 4⟩
def ENG.CAL_ROT_ENABLE : Fld := ⟨0x800, 0, 1, .rw, 1⟩
def ENG.CAL_TMO_TIMEOUT_US : Fld := ⟨0x804, 0, 16, .rw, 0xc8⟩
def ENG.CAL_AGE_AGE_MAX_MS : Fld := ⟨0x808, 0, 16, .rw, 0xfa0⟩
def ENG.CAL_ROT_STAT_STOPPED : Fld := ⟨0x80C, 31, 1, .r, 0⟩
def ENG.CAL_ROT_STAT_NEXT : Fld := ⟨0x80C, 8, 5, .r, 0⟩
def ENG.CAL_ROT_STAT_CURRENT : Fld := ⟨0x80C, 0, 5, .r, 0x1f⟩
def ENG.ROT_CNT : Fld := ⟨0x810, 0, 64, .rw, 0⟩
def ENG.STANDIN_CNT : Fld := ⟨0x818, 0, 64, .rw, 0⟩

/-- The fields of ENG (header fields IRQ_STAT, IRQ_EN, IRQ_SET, ERR_CNT apart). -/
def ENG.fields : List Fld :=
  [ENG.CAP_ACC_TILES, ENG.CAP_TILES, ENG.CAP_WEAR, ENG.CAP_HEADROOM, ENG.CAP_REISSUE, ENG.CAP_DYN, ENG.STAT_QUEUE, ENG.STAT_GLUME_BUSY, ENG.STAT_THRESHER_BUSY, ENG.STAT_IN_SERVICE, ENG.REFRESH_CTRL_STALE_LIMIT, ENG.REFRESH_CTRL_MIN_BAND, ENG.REFRESH_CTRL_ENABLE, ENG.REFRESH_STAT_BAND, ENG.REFRESH_STAT_INTERVAL_US, ENG.WEAR_CTRL_PERIOD, ENG.WEAR_CTRL_ENABLE, ENG.BANK_RELEASE_BANK, ENG.BANK_RELEASE_TILE, ENG.REFRESH_SLOT_CNT, ENG.REFRESH_ROW_CNT, ENG.BANKWR_CNT, ENG.WEAR_SWAP_CNT, ENG.STALE_CNT, ENG.REFRESH_LATE_CNT]
    ++ (List.range 34).flatMap (fun i => [ENG.BANK_STATE_STATE i, ENG.BANK_STATE_WRITING i, ENG.BANK_STATE_POISONED i, ENG.BANK_STATE_ROWS i, ENG.BANK_STATE_AGE_US i, ENG.BANK_STATE_SHADOW i])
    ++ [ENG.ACC_CTRL_P, ENG.ACC_CTRL_HEADROOM_EN, ENG.ACC_EVT_BUSY_REFUSED, ENG.ACC_EVT_POISON, ENG.ACC_EVT_SAT_W, ENG.ACC_EVT_SAT_N, ENG.ROUND_CNT, ENG.PROMOTE_CNT, ENG.HEADROOM_CNT, ENG.SPILL_CNT, ENG.RESUME_CNT, ENG.READ_CNT, ENG.SATN_LANE_CNT, ENG.SATW_LANE_CNT, ENG.POISON_LANE_CNT, ENG.ACC_BUSY_CNT, ENG.ACC_STALL_CNT]
    ++ (List.range 64).flatMap (fun i => [ENG.ACC_TILE_BUSY i, ENG.ACC_TILE_OWNER i, ENG.ACC_TILE_SAT_N i, ENG.ACC_TILE_SAT_W i, ENG.ACC_TILE_POISON i, ENG.ACC_TILE_ADDS i])
    ++ [ENG.OUTL_CTRL_REISSUE_EN, ENG.OUTL_CTRL_DYN_EN, ENG.OUTL_EVT_MALFORMED, ENG.OUTL_EVT_POISON, ENG.OUTL_EVT_REISSUE, ENG.OUTL_EVT_OUTLIER_OVF, ENG.DYN_CNT, ENG.REISSUE_CNT, ENG.DYN_CLIP_CNT, ENG.OVF_VEC_CNT, ENG.GLUME_STALL_CNT, ENG.OLOAD_CNT]
    ++ (List.range 34).flatMap (fun i => [ENG.OUTL_SET_STATE i, ENG.OUTL_SET_SPARSE_N i, ENG.OUTL_SET_STATIC_N i])
    ++ [ENG.CAL_ROT_PERIOD_MS, ENG.CAL_ROT_ROT_WAIT_MS, ENG.CAL_ROT_ENABLE, ENG.CAL_TMO_TIMEOUT_US, ENG.CAL_AGE_AGE_MAX_MS, ENG.CAL_ROT_STAT_STOPPED, ENG.CAL_ROT_STAT_NEXT, ENG.CAL_ROT_STAT_CURRENT, ENG.ROT_CNT, ENG.STANDIN_CNT]

/-- The registers of ENG and their widths. -/
def ENG.regs : List Reg :=
  [⟨0x4, 32⟩, ⟨0xC, 32⟩, ⟨0x100, 32⟩, ⟨0x104, 32⟩, ⟨0x108, 32⟩, ⟨0x10C, 32⟩, ⟨0x110, 64⟩, ⟨0x118, 64⟩, ⟨0x120, 64⟩, ⟨0x128, 64⟩, ⟨0x130, 64⟩, ⟨0x138, 64⟩, ⟨0x400, 32⟩, ⟨0x404, 32⟩, ⟨0x410, 64⟩, ⟨0x418, 64⟩, ⟨0x420, 64⟩, ⟨0x428, 64⟩, ⟨0x430, 64⟩, ⟨0x438, 64⟩, ⟨0x440, 64⟩, ⟨0x448, 64⟩, ⟨0x450, 64⟩, ⟨0x458, 64⟩, ⟨0x460, 64⟩, ⟨0x600, 32⟩, ⟨0x604, 32⟩, ⟨0x610, 64⟩, ⟨0x618, 64⟩, ⟨0x620, 64⟩, ⟨0x628, 64⟩, ⟨0x630, 64⟩, ⟨0x638, 64⟩, ⟨0x800, 32⟩, ⟨0x804, 32⟩, ⟨0x808, 32⟩, ⟨0x80C, 32⟩, ⟨0x810, 64⟩, ⟨0x818, 64⟩]
    ++ (List.range 34).map (fun i => ⟨0x200 + 8 * i, 64⟩)
    ++ (List.range 64).map (fun i => ⟨0x500 + 4 * i, 32⟩)
    ++ (List.range 34).map (fun i => ⟨0x700 + 4 * i, 32⟩)

/-! ### CORE -/
def CORE.CAP_AFTER_PREV : Fld := ⟨0x4, 25, 1, .r, 1⟩
def CORE.CAP_INTERLOCK : Fld := ⟨0x4, 24, 1, .r, 1⟩
def CORE.CAP_QUEUE_DEPTH : Fld := ⟨0x4, 19, 5, .r, 0x10⟩
def CORE.CAP_DMA_SLOTS : Fld := ⟨0x4, 15, 4, .r, 8⟩
def CORE.CAP_ATTN_SLOTS : Fld := ⟨0x4, 10, 5, .r, 0x10⟩
def CORE.CAP_ENG_TAGS : Fld := ⟨0x4, 4, 6, .r, 0x30⟩
def CORE.CAP_DESC_VERSIONS : Fld := ⟨0x4, 0, 4, .r, 2⟩
def CORE.CTRL_HALT : Fld := ⟨0x8, 3, 1, .wo, 0⟩
def CORE.CTRL_GO : Fld := ⟨0x8, 2, 1, .wo, 0⟩
def CORE.CTRL_START_SRC : Fld := ⟨0x8, 1, 1, .rw, 0⟩
def CORE.CTRL_ACC_INTERLOCK : Fld := ⟨0x8, 0, 1, .rw, 0⟩
def CORE.STAT_STATE : Fld := ⟨0xC, 30, 2, .r, 0⟩
def CORE.STAT_CAUSE : Fld := ⟨0xC, 28, 2, .r, 0⟩
def CORE.STAT_START_PENDING : Fld := ⟨0xC, 27, 1, .r, 0⟩
def CORE.STAT_PENDING_N : Fld := ⟨0xC, 24, 3, .r, 0⟩
def CORE.STREAM_ADDR_ADDR : Fld := ⟨0x40, 6, 42, .rw, 0⟩
def CORE.STREAM_PC : Fld := ⟨0x48, 0, 64, .r, 0⟩
def CORE.STEP : Fld := ⟨0x50, 0, 64, .r, 0⟩
def CORE.HALT_INFO_CODE : Fld := ⟨0x58, 48, 16, .r, 0⟩
def CORE.HALT_INFO_ADDR : Fld := ⟨0x58, 0, 48, .r, 0⟩
def CORE.INFLIGHT_TILLER1 : Fld := ⟨0x60, 29, 3, .r, 0⟩
def CORE.INFLIGHT_TILLER0 : Fld := ⟨0x60, 26, 3, .r, 0⟩
def CORE.INFLIGHT_ENG_TAGS : Fld := ⟨0x60, 20, 6, .r, 0⟩
def CORE.INFLIGHT_ATTN : Fld := ⟨0x60, 10, 5, .r, 0⟩
def CORE.INFLIGHT_DMA : Fld := ⟨0x60, 0, 4, .r, 0⟩
def CORE.TILLER_CTRL_T1_RESET : Fld := ⟨0x64, 17, 1, .wo, 0⟩
def CORE.TILLER_CTRL_T0_RESET : Fld := ⟨0x64, 16, 1, .wo, 0⟩
def CORE.TILLER_CTRL_T1_TRAP : Fld := ⟨0x64, 9, 1, .w1c, 0⟩
def CORE.TILLER_CTRL_T0_TRAP : Fld := ⟨0x64, 8, 1, .w1c, 0⟩
def CORE.TILLER_CTRL_T1_RUN : Fld := ⟨0x64, 1, 1, .rw, 0⟩
def CORE.TILLER_CTRL_T0_RUN : Fld := ⟨0x64, 0, 1, .rw, 0⟩
def CORE.DISPATCH_CNT : Fld := ⟨0x80, 0, 64, .rw, 0⟩
def CORE.STALL_TAGS : Fld := ⟨0x88, 0, 64, .rw, 0⟩
def CORE.STALL_QUEUE : Fld := ⟨0x90, 0, 64, .rw, 0⟩
def CORE.STALL_SEM : Fld := ⟨0x98, 0, 64, .rw, 0⟩
def CORE.SEM_VALUE (i : Nat) : Fld := ⟨0x100 + 4 * i, 0, 16, .rw, 0⟩

/-- The fields of CORE (header fields IRQ_STAT, IRQ_EN, IRQ_SET, ERR_CNT apart). -/
def CORE.fields : List Fld :=
  [CORE.CAP_AFTER_PREV, CORE.CAP_INTERLOCK, CORE.CAP_QUEUE_DEPTH, CORE.CAP_DMA_SLOTS, CORE.CAP_ATTN_SLOTS, CORE.CAP_ENG_TAGS, CORE.CAP_DESC_VERSIONS, CORE.CTRL_HALT, CORE.CTRL_GO, CORE.CTRL_START_SRC, CORE.CTRL_ACC_INTERLOCK, CORE.STAT_STATE, CORE.STAT_CAUSE, CORE.STAT_START_PENDING, CORE.STAT_PENDING_N, CORE.STREAM_ADDR_ADDR, CORE.STREAM_PC, CORE.STEP, CORE.HALT_INFO_CODE, CORE.HALT_INFO_ADDR, CORE.INFLIGHT_TILLER1, CORE.INFLIGHT_TILLER0, CORE.INFLIGHT_ENG_TAGS, CORE.INFLIGHT_ATTN, CORE.INFLIGHT_DMA, CORE.TILLER_CTRL_T1_RESET, CORE.TILLER_CTRL_T0_RESET, CORE.TILLER_CTRL_T1_TRAP, CORE.TILLER_CTRL_T0_TRAP, CORE.TILLER_CTRL_T1_RUN, CORE.TILLER_CTRL_T0_RUN, CORE.DISPATCH_CNT, CORE.STALL_TAGS, CORE.STALL_QUEUE, CORE.STALL_SEM]
    ++ (List.range 64).flatMap (fun i => [CORE.SEM_VALUE i])

/-- The registers of CORE and their widths. -/
def CORE.regs : List Reg :=
  [⟨0x4, 32⟩, ⟨0x8, 32⟩, ⟨0xC, 32⟩, ⟨0x40, 64⟩, ⟨0x48, 64⟩, ⟨0x50, 64⟩, ⟨0x58, 64⟩, ⟨0x60, 32⟩, ⟨0x64, 32⟩, ⟨0x80, 64⟩, ⟨0x88, 64⟩, ⟨0x90, 64⟩, ⟨0x98, 64⟩]
    ++ (List.range 64).map (fun i => ⟨0x100 + 4 * i, 32⟩)

/-! ### CHK -/
def CHK.CTRL_LG_CLEAR : Fld := ⟨0x8, 20, 1, .wo, 0⟩
def CHK.CTRL_DREF : Fld := ⟨0x8, 17, 1, .rw, 0⟩
def CHK.CTRL_SUSPECT_ACT : Fld := ⟨0x8, 16, 1, .rw, 0⟩
def CHK.CTRL_TOL : Fld := ⟨0x8, 8, 6, .rw, 8⟩
def CHK.CTRL_MIN_FRAC : Fld := ⟨0x8, 4, 3, .rw2p, 0⟩
def CHK.CTRL_FRAC : Fld := ⟨0x8, 0, 3, .rw, 2⟩
def CHK.STAT_FRAC_EFF : Fld := ⟨0xC, 16, 3, .r, 2⟩
def CHK.STAT_THROTTLE_STEPS : Fld := ⟨0xC, 12, 4, .r, 0⟩
def CHK.STAT_SUPPLY_STEPS : Fld := ⟨0xC, 8, 4, .r, 0⟩
def CHK.STAT_ENG_SUSPECT : Fld := ⟨0xC, 4, 4, .r, 0⟩
def CHK.STAT_CHK_SUSPECT : Fld := ⟨0xC, 1, 1, .r, 0⟩
def CHK.STAT_DREF_ACTIVE : Fld := ⟨0xC, 0, 1, .r, 0⟩
def CHK.SEED : Fld := ⟨0x40, 0, 32, .rw, 0⟩
def CHK.LG_SEL_BAND : Fld := ⟨0x44, 16, 3, .rw, 0⟩
def CHK.LG_SEL_TILE : Fld := ⟨0x44, 8, 5, .rw, 0⟩
def CHK.LG_SEL_ENGINE : Fld := ⟨0x44, 0, 2, .rw, 0⟩
def CHK.SAMPLE_CNT : Fld := ⟨0x50, 0, 64, .rw, 0⟩
def CHK.LANE_CNT : Fld := ⟨0x58, 0, 64, .rw, 0⟩
def CHK.MISMATCH_CNT : Fld := ⟨0x60, 0, 64, .rw, 0⟩
def CHK.TRANSIENT_CNT : Fld := ⟨0x68, 0, 64, .rw, 0⟩
def CHK.PERMANENT_CNT : Fld := ⟨0x70, 0, 64, .rw, 0⟩
def CHK.UNRESOLVED_CNT : Fld := ⟨0x78, 0, 64, .rw, 0⟩
def CHK.POISON_SKIP_CNT : Fld := ⟨0x80, 0, 64, .rw, 0⟩
def CHK.CHECK_SLOT_CNT : Fld := ⟨0x88, 0, 64, .rw, 0⟩
def CHK.LG_WINDOW (i : Nat) : Fld := ⟨0x200 + 4 * i, 0, 32, .r, 0⟩
def CHK.IMG_PTR_PTR (i : Nat) : Fld := ⟨0x400 + 4 * i, 7, 18, .r, 0⟩

/-- The fields of CHK (header fields IRQ_STAT, IRQ_EN, IRQ_SET, ERR_CNT apart). -/
def CHK.fields : List Fld :=
  [CHK.CTRL_LG_CLEAR, CHK.CTRL_DREF, CHK.CTRL_SUSPECT_ACT, CHK.CTRL_TOL, CHK.CTRL_MIN_FRAC, CHK.CTRL_FRAC, CHK.STAT_FRAC_EFF, CHK.STAT_THROTTLE_STEPS, CHK.STAT_SUPPLY_STEPS, CHK.STAT_ENG_SUSPECT, CHK.STAT_CHK_SUSPECT, CHK.STAT_DREF_ACTIVE, CHK.SEED, CHK.LG_SEL_BAND, CHK.LG_SEL_TILE, CHK.LG_SEL_ENGINE, CHK.SAMPLE_CNT, CHK.LANE_CNT, CHK.MISMATCH_CNT, CHK.TRANSIENT_CNT, CHK.PERMANENT_CNT, CHK.UNRESOLVED_CNT, CHK.POISON_SKIP_CNT, CHK.CHECK_SLOT_CNT]
    ++ (List.range 80).flatMap (fun i => [CHK.LG_WINDOW i])
    ++ (List.range 136).flatMap (fun i => [CHK.IMG_PTR_PTR i])

/-- The registers of CHK and their widths. -/
def CHK.regs : List Reg :=
  [⟨0x8, 32⟩, ⟨0xC, 32⟩, ⟨0x40, 32⟩, ⟨0x44, 32⟩, ⟨0x50, 64⟩, ⟨0x58, 64⟩, ⟨0x60, 64⟩, ⟨0x68, 64⟩, ⟨0x70, 64⟩, ⟨0x78, 64⟩, ⟨0x80, 64⟩, ⟨0x88, 64⟩]
    ++ (List.range 80).map (fun i => ⟨0x200 + 4 * i, 32⟩)
    ++ (List.range 136).map (fun i => ⟨0x400 + 4 * i, 32⟩)

/-! ### ATTN -/
def ATTN.CTRL_XLATE : Fld := ⟨0x8, 0, 1, .rw, 0⟩
def ATTN.STAT_XLATE_ACTIVE : Fld := ⟨0xC, 7, 1, .r, 0⟩
def ATTN.STAT_PINS : Fld := ⟨0xC, 1, 6, .r, 0⟩
def ATTN.STAT_BUSY : Fld := ⟨0xC, 0, 1, .r, 0⟩
def ATTN.XLATE_BASE_BASE : Fld := ⟨0x40, 12, 36, .rw, 0⟩
def ATTN.RUN_CNT : Fld := ⟨0x48, 0, 64, .rw, 0⟩
def ATTN.APPEND_CNT : Fld := ⟨0x50, 0, 64, .rw, 0⟩
def ATTN.KV_BYTES : Fld := ⟨0x58, 0, 64, .rw, 0⟩
def ATTN.PIN_CNT : Fld := ⟨0x60, 0, 64, .rw, 0⟩
def ATTN.FP8_SAT_CNT : Fld := ⟨0x68, 0, 64, .rw, 0⟩
def ATTN.SEQ_FAIL_CNT : Fld := ⟨0x70, 0, 64, .rw, 0⟩
def ATTN.DROP_CNT : Fld := ⟨0x78, 0, 64, .rw, 0⟩

/-- The fields of ATTN (header fields IRQ_STAT, IRQ_EN, IRQ_SET, ERR_CNT apart). -/
def ATTN.fields : List Fld :=
  [ATTN.CTRL_XLATE, ATTN.STAT_XLATE_ACTIVE, ATTN.STAT_PINS, ATTN.STAT_BUSY, ATTN.XLATE_BASE_BASE, ATTN.RUN_CNT, ATTN.APPEND_CNT, ATTN.KV_BYTES, ATTN.PIN_CNT, ATTN.FP8_SAT_CNT, ATTN.SEQ_FAIL_CNT, ATTN.DROP_CNT]

/-- The registers of ATTN and their widths. -/
def ATTN.regs : List Reg :=
  [⟨0x8, 32⟩, ⟨0xC, 32⟩, ⟨0x40, 64⟩, ⟨0x48, 64⟩, ⟨0x50, 64⟩, ⟨0x58, 64⟩, ⟨0x60, 64⟩, ⟨0x68, 64⟩, ⟨0x70, 64⟩, ⟨0x78, 64⟩]

/-! ### CLUS -/
def CLUS.STAT_IN_RESET_B : Fld := ⟨0xC, 2, 1, .r, 0⟩
def CLUS.STAT_IN_RESET_A : Fld := ⟨0xC, 1, 1, .r, 0⟩
def CLUS.STAT_MOVER_BUSY : Fld := ⟨0xC, 0, 1, .r, 0⟩
def CLUS.TX_BYTES : Fld := ⟨0x40, 0, 64, .rw, 0⟩
def CLUS.RX_BYTES : Fld := ⟨0x48, 0, 64, .rw, 0⟩
def CLUS.MOVE_CNT : Fld := ⟨0x50, 0, 64, .rw, 0⟩
def CLUS.MOVE_BYTES : Fld := ⟨0x58, 0, 64, .rw, 0⟩
def CLUS.DISCARD_CNT : Fld := ⟨0x60, 0, 64, .rw, 0⟩

/-- The fields of CLUS (header fields IRQ_STAT, IRQ_EN, IRQ_SET, ERR_CNT apart). -/
def CLUS.fields : List Fld :=
  [CLUS.STAT_IN_RESET_B, CLUS.STAT_IN_RESET_A, CLUS.STAT_MOVER_BUSY, CLUS.TX_BYTES, CLUS.RX_BYTES, CLUS.MOVE_CNT, CLUS.MOVE_BYTES, CLUS.DISCARD_CNT]

/-- The registers of CLUS and their widths. -/
def CLUS.regs : List Reg :=
  [⟨0xC, 32⟩, ⟨0x40, 64⟩, ⟨0x48, 64⟩, ⟨0x50, 64⟩, ⟨0x58, 64⟩, ⟨0x60, 64⟩]

/-! ### DIE -/
def DIE.CAP_IRQ_GATHER : Fld := ⟨0x4, 1, 1, .r, 0⟩
def DIE.CAP_BOOT_REGS : Fld := ⟨0x4, 0, 1, .r, 0⟩
def DIE.STAT_FR_LOADED : Fld := ⟨0xC, 0, 1, .r, 0⟩
def DIE.INFO_SPARE_FR : Fld := ⟨0x40, 16, 1, .r, 0⟩
def DIE.INFO_ROLE : Fld := ⟨0x40, 14, 2, .r, 0⟩
def DIE.INFO_Y : Fld := ⟨0x40, 11, 3, .r, 0⟩
def DIE.INFO_X : Fld := ⟨0x40, 8, 3, .r, 0⟩
def DIE.INFO_INDEX : Fld := ⟨0x40, 0, 8, .r, 0⟩
def DIE.FR_INFO_SPARE1 : Fld := ⟨0x44, 24, 8, .r, 0⟩
def DIE.FR_INFO_SPARE0 : Fld := ⟨0x44, 16, 8, .r, 0⟩
def DIE.FR_INFO_CLASS_E : Fld := ⟨0x44, 8, 1, .r, 0⟩
def DIE.FR_INFO_STEPPING : Fld := ⟨0x44, 0, 8, .r, 0⟩
def DIE.SERIAL : Fld := ⟨0x48, 0, 64, .r, 0⟩
def DIE.BOOT_STAT_STAGE : Fld := ⟨0x100, 28, 4, .r, 0⟩
def DIE.BOOT_STAT_DONE : Fld := ⟨0x100, 27, 1, .r, 0⟩
def DIE.BOOT_STAT_FAILED : Fld := ⟨0x100, 26, 1, .r, 0⟩
def DIE.BOOT_STAT_FULL_CAL : Fld := ⟨0x100, 25, 1, .r, 0⟩
def DIE.BOOT_STAT_WARM : Fld := ⟨0x100, 24, 1, .r, 0⟩
def DIE.BOOT_STAT_FAIL_CODE : Fld := ⟨0x100, 0, 16, .r, 0⟩
def DIE.BOOT_CAL_FULL_TILES : Fld := ⟨0x104, 16, 16, .r, 0⟩
def DIE.BOOT_CAL_RESTORED_TILES : Fld := ⟨0x104, 0, 16, .r, 0⟩
def DIE.BOOT_REJ_IMAGES : Fld := ⟨0x108, 0, 16, .r, 0⟩
def DIE.BOOT_T (i : Nat) : Fld := ⟨0x140 + 4 * i, 0, 32, .r, 0⟩
def DIE.IRQ_DIES : Fld := ⟨0x180, 0, 64, .r, 0⟩
def DIE.IRQ_PAGES (i : Nat) : Fld := ⟨0x200 + 4 * i, 0, 32, .r, 0⟩

/-- The fields of DIE (header fields IRQ_STAT, IRQ_EN, IRQ_SET, ERR_CNT apart). -/
def DIE.fields : List Fld :=
  [DIE.CAP_IRQ_GATHER, DIE.CAP_BOOT_REGS, DIE.STAT_FR_LOADED, DIE.INFO_SPARE_FR, DIE.INFO_ROLE, DIE.INFO_Y, DIE.INFO_X, DIE.INFO_INDEX, DIE.FR_INFO_SPARE1, DIE.FR_INFO_SPARE0, DIE.FR_INFO_CLASS_E, DIE.FR_INFO_STEPPING, DIE.SERIAL, DIE.BOOT_STAT_STAGE, DIE.BOOT_STAT_DONE, DIE.BOOT_STAT_FAILED, DIE.BOOT_STAT_FULL_CAL, DIE.BOOT_STAT_WARM, DIE.BOOT_STAT_FAIL_CODE, DIE.BOOT_CAL_FULL_TILES, DIE.BOOT_CAL_RESTORED_TILES, DIE.BOOT_REJ_IMAGES]
    ++ (List.range 10).flatMap (fun i => [DIE.BOOT_T i])
    ++ [DIE.IRQ_DIES]
    ++ (List.range 32).flatMap (fun i => [DIE.IRQ_PAGES i])

/-- The registers of DIE and their widths. -/
def DIE.regs : List Reg :=
  [⟨0x4, 32⟩, ⟨0xC, 32⟩, ⟨0x40, 32⟩, ⟨0x44, 32⟩, ⟨0x48, 64⟩, ⟨0x100, 32⟩, ⟨0x104, 32⟩, ⟨0x108, 32⟩, ⟨0x180, 64⟩]
    ++ (List.range 10).map (fun i => ⟨0x140 + 4 * i, 32⟩)
    ++ (List.range 32).map (fun i => ⟨0x200 + 4 * i, 32⟩)

/-! ### MESH -/
def MESH.CTRL_TC_LOCK : Fld := ⟨0x8, 1, 1, .w1s, 0⟩
def MESH.CTRL_ALT_EN : Fld := ⟨0x8, 0, 1, .rw, 1⟩
def MESH.STAT_REROUTED : Fld := ⟨0xC, 8, 4, .r, 0⟩
def MESH.STAT_UP : Fld := ⟨0xC, 4, 4, .r, 0⟩
def MESH.STAT_PRESENT : Fld := ⟨0xC, 0, 4, .r, 0⟩
def MESH.TC_WEIGHT : Fld := ⟨0x40, 0, 32, .rwLk, 0x21422840⟩
def MESH.ROUTE_UNREACHABLE (i : Nat) : Fld := ⟨0x100 + 4 * i, 7, 1, .rw, 0⟩
def MESH.ROUTE_ALT_VALID (i : Nat) : Fld := ⟨0x100 + 4 * i, 6, 1, .rw, 0⟩
def MESH.ROUTE_ALT (i : Nat) : Fld := ⟨0x100 + 4 * i, 4, 2, .rw, 0⟩
def MESH.ROUTE_LOCAL (i : Nat) : Fld := ⟨0x100 + 4 * i, 3, 1, .r, 1⟩
def MESH.ROUTE_PRIMARY (i : Nat) : Fld := ⟨0x100 + 4 * i, 0, 2, .rw, 0⟩
def MESH.SHARE (i : Nat) : Fld := ⟨0x200 + 4 * i, 0, 32, .rw2p, 0x1010101⟩
def MESH.TX_BYTES (i : Nat) : Fld := ⟨0x300 + 8 * i, 0, 64, .rw, 0⟩
def MESH.RETRY_CNT : Fld := ⟨0x320, 0, 64, .rw, 0⟩
def MESH.REROUTE_CNT : Fld := ⟨0x328, 0, 64, .rw, 0⟩

/-- The fields of MESH (header fields IRQ_STAT, IRQ_EN, IRQ_SET, ERR_CNT apart). -/
def MESH.fields : List Fld :=
  [MESH.CTRL_TC_LOCK, MESH.CTRL_ALT_EN, MESH.STAT_REROUTED, MESH.STAT_UP, MESH.STAT_PRESENT, MESH.TC_WEIGHT]
    ++ (List.range 40).flatMap (fun i => [MESH.ROUTE_UNREACHABLE i, MESH.ROUTE_ALT_VALID i, MESH.ROUTE_ALT i, MESH.ROUTE_LOCAL i, MESH.ROUTE_PRIMARY i])
    ++ (List.range 64).flatMap (fun i => [MESH.SHARE i])
    ++ (List.range 4).flatMap (fun i => [MESH.TX_BYTES i])
    ++ [MESH.RETRY_CNT, MESH.REROUTE_CNT]

/-- The registers of MESH and their widths. -/
def MESH.regs : List Reg :=
  [⟨0x8, 32⟩, ⟨0xC, 32⟩, ⟨0x40, 32⟩, ⟨0x320, 64⟩, ⟨0x328, 64⟩]
    ++ (List.range 40).map (fun i => ⟨0x100 + 4 * i, 32⟩)
    ++ (List.range 64).map (fun i => ⟨0x200 + 4 * i, 32⟩)
    ++ (List.range 4).map (fun i => ⟨0x300 + 8 * i, 64⟩)

/-! ### HBMC -/
def HBMC.CTRL_CE_THRESH : Fld := ⟨0x8, 16, 8, .rw, 8⟩
def HBMC.CTRL_SCRUB_H : Fld := ⟨0x8, 8, 8, .rw, 0x18⟩
def HBMC.CTRL_RETIRE_EN : Fld := ⟨0x8, 1, 1, .rw, 1⟩
def HBMC.CTRL_SCRUB_EN : Fld := ⟨0x8, 0, 1, .rw, 1⟩
def HBMC.STAT_RETIRE_FREE : Fld := ⟨0xC, 20, 12, .r, 0x800⟩
def HBMC.STAT_RETIRED : Fld := ⟨0xC, 8, 12, .r, 0⟩
def HBMC.STAT_COPYING : Fld := ⟨0xC, 1, 1, .r, 0⟩
def HBMC.STAT_SCRUB_HELD : Fld := ⟨0xC, 0, 1, .r, 0⟩
def HBMC.SCRUB_POS_POS : Fld := ⟨0x40, 6, 31, .r, 0⟩
def HBMC.CE_CNT : Fld := ⟨0x48, 0, 64, .rw, 0⟩
def HBMC.UE_CNT : Fld := ⟨0x50, 0, 64, .rw, 0⟩
def HBMC.POISON_RD_CNT : Fld := ⟨0x58, 0, 64, .rw, 0⟩
def HBMC.SCRUB_FIX_CNT : Fld := ⟨0x60, 0, 64, .rw, 0⟩
def HBMC.SCRUB_LAP_CNT : Fld := ⟨0x68, 0, 64, .rw, 0⟩
def HBMC.LAST_CE_ADDR : Fld := ⟨0x70, 0, 48, .r, 0⟩
def HBMC.LAST_UE_ADDR : Fld := ⟨0x78, 0, 48, .r, 0⟩
def HBMC.RMAP_SEL_SPARE : Fld := ⟨0x80, 0, 11, .rw, 0⟩
def HBMC.RMAP_VIEW_VALID : Fld := ⟨0x84, 31, 1, .r, 0⟩
def HBMC.RMAP_VIEW_GRANULE : Fld := ⟨0x84, 0, 17, .r, 0⟩

/-- The fields of HBMC (header fields IRQ_STAT, IRQ_EN, IRQ_SET, ERR_CNT apart). -/
def HBMC.fields : List Fld :=
  [HBMC.CTRL_CE_THRESH, HBMC.CTRL_SCRUB_H, HBMC.CTRL_RETIRE_EN, HBMC.CTRL_SCRUB_EN, HBMC.STAT_RETIRE_FREE, HBMC.STAT_RETIRED, HBMC.STAT_COPYING, HBMC.STAT_SCRUB_HELD, HBMC.SCRUB_POS_POS, HBMC.CE_CNT, HBMC.UE_CNT, HBMC.POISON_RD_CNT, HBMC.SCRUB_FIX_CNT, HBMC.SCRUB_LAP_CNT, HBMC.LAST_CE_ADDR, HBMC.LAST_UE_ADDR, HBMC.RMAP_SEL_SPARE, HBMC.RMAP_VIEW_VALID, HBMC.RMAP_VIEW_GRANULE]

/-- The registers of HBMC and their widths. -/
def HBMC.regs : List Reg :=
  [⟨0x8, 32⟩, ⟨0xC, 32⟩, ⟨0x40, 64⟩, ⟨0x48, 64⟩, ⟨0x50, 64⟩, ⟨0x58, 64⟩, ⟨0x60, 64⟩, ⟨0x68, 64⟩, ⟨0x70, 64⟩, ⟨0x78, 64⟩, ⟨0x80, 32⟩, ⟨0x84, 32⟩]

/-! ### CXL -/
def CXL.CTRL_ENABLE : Fld := ⟨0x8, 0, 1, .rw, 1⟩
def CXL.STAT_RATE : Fld := ⟨0xC, 11, 3, .r, 0⟩
def CXL.STAT_WIDTH : Fld := ⟨0xC, 6, 5, .r, 0⟩
def CXL.STAT_IDE_ACTIVE : Fld := ⟨0xC, 2, 1, .r, 0⟩
def CXL.STAT_DOWN_LATCHED : Fld := ⟨0xC, 1, 1, .r, 0⟩
def CXL.STAT_UP : Fld := ⟨0xC, 0, 1, .r, 0⟩
def CXL.CAPACITY : Fld := ⟨0x40, 0, 64, .r, 0⟩
def CXL.RD_BYTES : Fld := ⟨0x80, 0, 64, .rw, 0⟩
def CXL.WR_BYTES : Fld := ⟨0x88, 0, 64, .rw, 0⟩
def CXL.POISON_RD_CNT : Fld := ⟨0x90, 0, 64, .rw, 0⟩

/-- The fields of CXL (header fields IRQ_STAT, IRQ_EN, IRQ_SET, ERR_CNT apart). -/
def CXL.fields : List Fld :=
  [CXL.CTRL_ENABLE, CXL.STAT_RATE, CXL.STAT_WIDTH, CXL.STAT_IDE_ACTIVE, CXL.STAT_DOWN_LATCHED, CXL.STAT_UP, CXL.CAPACITY, CXL.RD_BYTES, CXL.WR_BYTES, CXL.POISON_RD_CNT]

/-- The registers of CXL and their widths. -/
def CXL.regs : List Reg :=
  [⟨0x8, 32⟩, ⟨0xC, 32⟩, ⟨0x40, 64⟩, ⟨0x80, 64⟩, ⟨0x88, 64⟩, ⟨0x90, 64⟩]

/-! ### PCIE -/
def PCIE.CTRL_CREDIT_EN : Fld := ⟨0x8, 2, 1, .rw, 0⟩
def PCIE.CTRL_IDE_REQ : Fld := ⟨0x8, 0, 1, .rw2p, 0⟩
def PCIE.STAT_RATE : Fld := ⟨0xC, 11, 3, .r, 0⟩
def PCIE.STAT_WIDTH : Fld := ⟨0xC, 6, 5, .r, 0⟩
def PCIE.STAT_DEV_READY : Fld := ⟨0xC, 1, 1, .r, 0⟩
def PCIE.STAT_CFG_READY : Fld := ⟨0xC, 0, 1, .r, 0⟩
def PCIE.W2_BASE_BASE : Fld := ⟨0x40, 30, 18, .rw, 0⟩
def PCIE.PTM_HOST : Fld := ⟨0x48, 0, 64, .r, 0⟩
def PCIE.PTM_SCLK : Fld := ⟨0x50, 0, 64, .r, 0⟩
def PCIE.PTM_CTRL_VALID : Fld := ⟨0x58, 31, 1, .r, 0⟩
def PCIE.PTM_CTRL_PERIOD_MS : Fld := ⟨0x58, 8, 8, .rw, 0xa⟩
def PCIE.PTM_CTRL_ENABLE : Fld := ⟨0x58, 0, 1, .rw, 0⟩
def PCIE.PTM_RATE : Fld := ⟨0x5C, 0, 32, .r, 0⟩
def PCIE.CREDIT_ADDR_ADDR : Fld := ⟨0x60, 5, 59, .rw, 0⟩
def PCIE.UR_CNT : Fld := ⟨0x80, 0, 64, .rw, 0⟩
def PCIE.POISON_RX_CNT : Fld := ⟨0x88, 0, 64, .rw, 0⟩
def PCIE.POISON_TX_CNT : Fld := ⟨0x90, 0, 64, .rw, 0⟩
def PCIE.FLR_CNT : Fld := ⟨0x98, 0, 64, .rw, 0⟩
def PCIE.IDE_FAIL_CNT : Fld := ⟨0xA0, 0, 64, .rw, 0⟩
def PCIE.FUNC_MAP_VALID (i : Nat) : Fld := ⟨0x100 + 4 * i, 8, 1, .rw2p, 0⟩
def PCIE.FUNC_MAP_TENANT (i : Nat) : Fld := ⟨0x100 + 4 * i, 0, 8, .rw2p, 0⟩

/-- The fields of PCIE (header fields IRQ_STAT, IRQ_EN, IRQ_SET, ERR_CNT apart). -/
def PCIE.fields : List Fld :=
  [PCIE.CTRL_CREDIT_EN, PCIE.CTRL_IDE_REQ, PCIE.STAT_RATE, PCIE.STAT_WIDTH, PCIE.STAT_DEV_READY, PCIE.STAT_CFG_READY, PCIE.W2_BASE_BASE, PCIE.PTM_HOST, PCIE.PTM_SCLK, PCIE.PTM_CTRL_VALID, PCIE.PTM_CTRL_PERIOD_MS, PCIE.PTM_CTRL_ENABLE, PCIE.PTM_RATE, PCIE.CREDIT_ADDR_ADDR, PCIE.UR_CNT, PCIE.POISON_RX_CNT, PCIE.POISON_TX_CNT, PCIE.FLR_CNT, PCIE.IDE_FAIL_CNT]
    ++ (List.range 64).flatMap (fun i => [PCIE.FUNC_MAP_VALID i, PCIE.FUNC_MAP_TENANT i])

/-- The registers of PCIE and their widths. -/
def PCIE.regs : List Reg :=
  [⟨0x8, 32⟩, ⟨0xC, 32⟩, ⟨0x40, 64⟩, ⟨0x48, 64⟩, ⟨0x50, 64⟩, ⟨0x58, 32⟩, ⟨0x5C, 32⟩, ⟨0x60, 64⟩, ⟨0x80, 64⟩, ⟨0x88, 64⟩, ⟨0x90, 64⟩, ⟨0x98, 64⟩, ⟨0xA0, 64⟩]
    ++ (List.range 64).map (fun i => ⟨0x100 + 4 * i, 32⟩)

/-! ### PLK -/
def PLK.CAP_LANES : Fld := ⟨0x4, 16, 5, .r, 0x11⟩
def PLK.CAP_VERSIONS : Fld := ⟨0x4, 0, 16, .r, 2⟩
def PLK.CTRL_LOCAL_ID : Fld := ⟨0x8, 8, 6, .rwLk, 0⟩
def PLK.CTRL_RETRAIN : Fld := ⟨0x8, 1, 1, .wo, 0⟩
def PLK.CTRL_ENABLE : Fld := ⟨0x8, 0, 1, .rw, 0⟩
def PLK.STAT_STATE : Fld := ⟨0xC, 29, 3, .r, 0⟩
def PLK.STAT_VERSION : Fld := ⟨0xC, 24, 4, .r, 0⟩
def PLK.STAT_PEER_ID : Fld := ⟨0xC, 16, 6, .r, 0⟩
def PLK.STAT_PEER_PORT : Fld := ⟨0xC, 12, 4, .r, 0⟩
def PLK.STAT_SPARE_FOR : Fld := ⟨0xC, 0, 5, .r, 0x1f⟩
def PLK.IN_TENANT_TENANT : Fld := ⟨0x40, 0, 8, .rw2p, 0⟩
def PLK.IN_WIN_BASE_VALID (i : Nat) : Fld := ⟨0x80 + 16 * i, 63, 1, .rw2p, 0⟩
def PLK.IN_WIN_BASE_BASE (i : Nat) : Fld := ⟨0x80 + 16 * i, 12, 36, .rw2p, 0⟩
def PLK.IN_WIN_LIMIT_LIMIT (i : Nat) : Fld := ⟨0x88 + 16 * i, 12, 36, .rw2p, 0⟩
def PLK.RX_BYTES : Fld := ⟨0xC0, 0, 64, .rw, 0⟩
def PLK.TX_BYTES : Fld := ⟨0xC8, 0, 64, .rw, 0⟩
def PLK.FEC_CORR_CNT : Fld := ⟨0xD0, 0, 64, .rw, 0⟩
def PLK.REPLAY_CNT : Fld := ⟨0xD8, 0, 64, .rw, 0⟩
def PLK.REFUSED_CNT : Fld := ⟨0xE0, 0, 64, .rw, 0⟩
def PLK.PEER_MAP_PORTS (i : Nat) : Fld := ⟨0x100 + 4 * i, 0, 16, .rw, 0⟩
def PLK.RC_BASE_BASE : Fld := ⟨0x200, 6, 42, .rw, 0⟩
def PLK.RC_CFG_ENABLE : Fld := ⟨0x208, 31, 1, .rw, 0⟩
def PLK.RC_CFG_DOORBELL_SEM : Fld := ⟨0x208, 16, 11, .rw, 0⟩
def PLK.RC_CFG_ENTRIES : Fld := ⟨0x208, 0, 13, .rw, 0⟩
def PLK.RC_TENANT_TENANT : Fld := ⟨0x20C, 0, 8, .rw2p, 0⟩
def PLK.RC_HEAD_HEAD : Fld := ⟨0x210, 0, 12, .r, 0⟩
def PLK.RC_CNT : Fld := ⟨0x218, 0, 64, .rw, 0⟩
def PLK.RC_FAIL_CNT : Fld := ⟨0x220, 0, 64, .rw, 0⟩

/-- The fields of PLK (header fields IRQ_STAT, IRQ_EN, IRQ_SET, ERR_CNT apart). -/
def PLK.fields : List Fld :=
  [PLK.CAP_LANES, PLK.CAP_VERSIONS, PLK.CTRL_LOCAL_ID, PLK.CTRL_RETRAIN, PLK.CTRL_ENABLE, PLK.STAT_STATE, PLK.STAT_VERSION, PLK.STAT_PEER_ID, PLK.STAT_PEER_PORT, PLK.STAT_SPARE_FOR, PLK.IN_TENANT_TENANT]
    ++ (List.range 4).flatMap (fun i => [PLK.IN_WIN_BASE_VALID i, PLK.IN_WIN_BASE_BASE i])
    ++ (List.range 4).flatMap (fun i => [PLK.IN_WIN_LIMIT_LIMIT i])
    ++ [PLK.RX_BYTES, PLK.TX_BYTES, PLK.FEC_CORR_CNT, PLK.REPLAY_CNT, PLK.REFUSED_CNT]
    ++ (List.range 64).flatMap (fun i => [PLK.PEER_MAP_PORTS i])
    ++ [PLK.RC_BASE_BASE, PLK.RC_CFG_ENABLE, PLK.RC_CFG_DOORBELL_SEM, PLK.RC_CFG_ENTRIES, PLK.RC_TENANT_TENANT, PLK.RC_HEAD_HEAD, PLK.RC_CNT, PLK.RC_FAIL_CNT]

/-- The registers of PLK and their widths. -/
def PLK.regs : List Reg :=
  [⟨0x4, 32⟩, ⟨0x8, 32⟩, ⟨0xC, 32⟩, ⟨0x40, 32⟩, ⟨0xC0, 64⟩, ⟨0xC8, 64⟩, ⟨0xD0, 64⟩, ⟨0xD8, 64⟩, ⟨0xE0, 64⟩, ⟨0x200, 64⟩, ⟨0x208, 32⟩, ⟨0x20C, 32⟩, ⟨0x210, 32⟩, ⟨0x218, 64⟩, ⟨0x220, 64⟩]
    ++ (List.range 4).map (fun i => ⟨0x80 + 16 * i, 64⟩)
    ++ (List.range 4).map (fun i => ⟨0x88 + 16 * i, 64⟩)
    ++ (List.range 64).map (fun i => ⟨0x100 + 4 * i, 32⟩)

/-! ### INGEST -/
def INGEST.CTRL_ENABLE : Fld := ⟨0x8, 0, 1, .rw, 0⟩
def INGEST.STAT_BOUND : Fld := ⟨0xC, 8, 8, .r, 0⟩
def INGEST.STAT_RUNNING : Fld := ⟨0xC, 0, 3, .r, 0⟩
def INGEST.POLICY_KAPPA : Fld := ⟨0x40, 8, 8, .rw, 0x18⟩
def INGEST.POLICY_M8 : Fld := ⟨0x40, 1, 1, .rw, 0⟩
def INGEST.POLICY_OUTL_OVF : Fld := ⟨0x40, 0, 1, .rw, 0⟩
def INGEST.JOB_BASE_BASE : Fld := ⟨0x48, 6, 42, .rw, 0⟩
def INGEST.JOB_CFG_ENTRIES : Fld := ⟨0x50, 0, 9, .rw, 0⟩
def INGEST.JOB_TAIL_TAIL : Fld := ⟨0x54, 0, 8, .rw, 0⟩
def INGEST.JOB_HEAD_HEAD : Fld := ⟨0x58, 0, 8, .r, 0⟩
def INGEST.STAGE_BASE_BASE : Fld := ⟨0x60, 20, 28, .rw, 0⟩
def INGEST.STAGE_CFG_SLOTS : Fld := ⟨0x68, 0, 11, .rw, 0⟩
def INGEST.SCRATCH_BASE_BASE : Fld := ⟨0x70, 20, 28, .rw, 0⟩
def INGEST.CH_CONSUMED (i : Nat) : Fld := ⟨0x80 + 4 * i, 0, 32, .r, 0⟩
def INGEST.CHUNK_CNT : Fld := ⟨0xC0, 0, 64, .rw, 0⟩
def INGEST.BYTES_IN : Fld := ⟨0xC8, 0, 64, .rw, 0⟩
def INGEST.BYTES_T1 : Fld := ⟨0xD0, 0, 64, .rw, 0⟩
def INGEST.LAYER_CNT : Fld := ⟨0xD8, 0, 64, .rw, 0⟩
def INGEST.DEGRADED_CNT : Fld := ⟨0xE0, 0, 64, .rw, 0⟩
def INGEST.REFUSED_CNT : Fld := ⟨0xE8, 0, 64, .rw, 0⟩
def INGEST.STRAY_CNT : Fld := ⟨0xF0, 0, 64, .rw, 0⟩
def INGEST.OVERRUN_CNT : Fld := ⟨0xF8, 0, 64, .rw, 0⟩

/-- The fields of INGEST (header fields IRQ_STAT, IRQ_EN, IRQ_SET, ERR_CNT apart). -/
def INGEST.fields : List Fld :=
  [INGEST.CTRL_ENABLE, INGEST.STAT_BOUND, INGEST.STAT_RUNNING, INGEST.POLICY_KAPPA, INGEST.POLICY_M8, INGEST.POLICY_OUTL_OVF, INGEST.JOB_BASE_BASE, INGEST.JOB_CFG_ENTRIES, INGEST.JOB_TAIL_TAIL, INGEST.JOB_HEAD_HEAD, INGEST.STAGE_BASE_BASE, INGEST.STAGE_CFG_SLOTS, INGEST.SCRATCH_BASE_BASE]
    ++ (List.range 8).flatMap (fun i => [INGEST.CH_CONSUMED i])
    ++ [INGEST.CHUNK_CNT, INGEST.BYTES_IN, INGEST.BYTES_T1, INGEST.LAYER_CNT, INGEST.DEGRADED_CNT, INGEST.REFUSED_CNT, INGEST.STRAY_CNT, INGEST.OVERRUN_CNT]

/-- The registers of INGEST and their widths. -/
def INGEST.regs : List Reg :=
  [⟨0x8, 32⟩, ⟨0xC, 32⟩, ⟨0x40, 32⟩, ⟨0x48, 64⟩, ⟨0x50, 32⟩, ⟨0x54, 32⟩, ⟨0x58, 32⟩, ⟨0x60, 64⟩, ⟨0x68, 32⟩, ⟨0x70, 64⟩, ⟨0xC0, 64⟩, ⟨0xC8, 64⟩, ⟨0xD0, 64⟩, ⟨0xD8, 64⟩, ⟨0xE0, 64⟩, ⟨0xE8, 64⟩, ⟨0xF0, 64⟩, ⟨0xF8, 64⟩]
    ++ (List.range 8).map (fun i => ⟨0x80 + 4 * i, 32⟩)

/-! ### KVP -/
def KVP.CTRL_SPILL_AGE : Fld := ⟨0x8, 16, 16, .rw, 0x40⟩
def KVP.CTRL_FILL_ON_READ : Fld := ⟨0x8, 2, 1, .rw, 1⟩
def KVP.CTRL_SPILL_EN : Fld := ⟨0x8, 1, 1, .rw, 1⟩
def KVP.CTRL_ENABLE : Fld := ⟨0x8, 0, 1, .rw, 0⟩
def KVP.STAT_T2_FULL : Fld := ⟨0xC, 3, 1, .r, 0⟩
def KVP.STAT_SPILLING : Fld := ⟨0xC, 2, 1, .r, 0⟩
def KVP.STAT_POOL_MISMATCH : Fld := ⟨0xC, 1, 1, .r, 0⟩
def KVP.STAT_READY : Fld := ⟨0xC, 0, 1, .r, 0⟩
def KVP.LEDGER_BASE_BASE : Fld := ⟨0x40, 12, 36, .rw, 0⟩
def KVP.PAGES_N : Fld := ⟨0x48, 0, 27, .rw, 0⟩
def KVP.T1_POOL_BASE : Fld := ⟨0x50, 16, 32, .rw, 0⟩
def KVP.T1_FRAMES_N : Fld := ⟨0x58, 0, 26, .rw, 0⟩
def KVP.T2_POOL_BASE : Fld := ⟨0x60, 16, 32, .rw, 0⟩
def KVP.T2_FRAMES_N : Fld := ⟨0x68, 0, 27, .rw, 0⟩
def KVP.WATERMARK_HIGH_WM : Fld := ⟨0x6C, 16, 16, .rw, 0x200⟩
def KVP.WATERMARK_LOW_WM : Fld := ⟨0x6C, 0, 16, .rw, 0x100⟩
def KVP.FREE_PAGES : Fld := ⟨0x70, 0, 32, .r, 0⟩
def KVP.FREE_T1 : Fld := ⟨0x74, 0, 32, .r, 0⟩
def KVP.FREE_T2 : Fld := ⟨0x78, 0, 32, .r, 0⟩
def KVP.ENTRY_SEL_PAGE : Fld := ⟨0x7C, 0, 26, .rw, 0⟩
def KVP.ENTRY_VIEW (i : Nat) : Fld := ⟨0x80 + 4 * i, 0, 32, .r, 0⟩
def KVP.OP_CNT : Fld := ⟨0x90, 0, 64, .rw, 0⟩
def KVP.MISS_CNT : Fld := ⟨0x98, 0, 64, .rw, 0⟩
def KVP.COW_CNT : Fld := ⟨0xA0, 0, 64, .rw, 0⟩
def KVP.THAW_CNT : Fld := ⟨0xA8, 0, 64, .rw, 0⟩
def KVP.DRAIN_CNT : Fld := ⟨0xB0, 0, 64, .rw, 0⟩
def KVP.SPILL_CNT : Fld := ⟨0xB8, 0, 64, .rw, 0⟩
def KVP.FILL_CNT : Fld := ⟨0xC0, 0, 64, .rw, 0⟩
def KVP.HOLD_CNT : Fld := ⟨0xC8, 0, 64, .rw, 0⟩
def KVP.REFUSED_CNT : Fld := ⟨0xD0, 0, 64, .rw, 0⟩

/-- The fields of KVP (header fields IRQ_STAT, IRQ_EN, IRQ_SET, ERR_CNT apart). -/
def KVP.fields : List Fld :=
  [KVP.CTRL_SPILL_AGE, KVP.CTRL_FILL_ON_READ, KVP.CTRL_SPILL_EN, KVP.CTRL_ENABLE, KVP.STAT_T2_FULL, KVP.STAT_SPILLING, KVP.STAT_POOL_MISMATCH, KVP.STAT_READY, KVP.LEDGER_BASE_BASE, KVP.PAGES_N, KVP.T1_POOL_BASE, KVP.T1_FRAMES_N, KVP.T2_POOL_BASE, KVP.T2_FRAMES_N, KVP.WATERMARK_HIGH_WM, KVP.WATERMARK_LOW_WM, KVP.FREE_PAGES, KVP.FREE_T1, KVP.FREE_T2, KVP.ENTRY_SEL_PAGE]
    ++ (List.range 4).flatMap (fun i => [KVP.ENTRY_VIEW i])
    ++ [KVP.OP_CNT, KVP.MISS_CNT, KVP.COW_CNT, KVP.THAW_CNT, KVP.DRAIN_CNT, KVP.SPILL_CNT, KVP.FILL_CNT, KVP.HOLD_CNT, KVP.REFUSED_CNT]

/-- The registers of KVP and their widths. -/
def KVP.regs : List Reg :=
  [⟨0x8, 32⟩, ⟨0xC, 32⟩, ⟨0x40, 64⟩, ⟨0x48, 32⟩, ⟨0x50, 64⟩, ⟨0x58, 32⟩, ⟨0x60, 64⟩, ⟨0x68, 32⟩, ⟨0x6C, 32⟩, ⟨0x70, 32⟩, ⟨0x74, 32⟩, ⟨0x78, 32⟩, ⟨0x7C, 32⟩, ⟨0x90, 64⟩, ⟨0x98, 64⟩, ⟨0xA0, 64⟩, ⟨0xA8, 64⟩, ⟨0xB0, 64⟩, ⟨0xB8, 64⟩, ⟨0xC0, 64⟩, ⟨0xC8, 64⟩, ⟨0xD0, 64⟩]
    ++ (List.range 4).map (fun i => ⟨0x80 + 4 * i, 32⟩)

/-! ### SRV -/
def SRV.CTRL_RETRY_MAX : Fld := ⟨0x8, 8, 2, .rw, 1⟩
def SRV.CTRL_SPEC_EN : Fld := ⟨0x8, 1, 1, .rw, 1⟩
def SRV.CTRL_ENABLE : Fld := ⟨0x8, 0, 1, .rw, 0⟩
def SRV.STAT_LIVE : Fld := ⟨0xC, 16, 13, .r, 0⟩
def SRV.STAT_HELD : Fld := ⟨0xC, 0, 11, .r, 0⟩
def SRV.SUM_BASE_BASE : Fld := ⟨0x40, 6, 58, .rw, 0⟩
def SRV.SUM_CFG_ENABLE : Fld := ⟨0x48, 31, 1, .rw, 0⟩
def SRV.SUM_CFG_ENTRIES : Fld := ⟨0x48, 0, 16, .rw, 0⟩
def SRV.SUM_HEAD_HEAD : Fld := ⟨0x4C, 0, 16, .rw, 0⟩
def SRV.SUM_TAIL_TAIL : Fld := ⟨0x50, 0, 16, .r, 0⟩
def SRV.STEP_NS_LAST : Fld := ⟨0x54, 0, 32, .r, 0⟩
def SRV.SEQ_SEL_SLOT : Fld := ⟨0x80, 0, 12, .rw, 0⟩
def SRV.TEN_SEL_TENANT : Fld := ⟨0x84, 0, 8, .rw, 0⟩
def SRV.MDL_SEL_MODEL : Fld := ⟨0x88, 0, 6, .rw, 0⟩
def SRV.SEQ_VIEW (i : Nat) : Fld := ⟨0x100 + 4 * i, 0, 32, .r, 0⟩
def SRV.STEP_CNT : Fld := ⟨0x400, 0, 64, .rw, 0⟩
def SRV.ADMIT_CNT : Fld := ⟨0x408, 0, 64, .rw, 0⟩
def SRV.REFUSE_CNT : Fld := ⟨0x410, 0, 64, .rw, 0⟩
def SRV.TOKEN_CNT : Fld := ⟨0x418, 0, 64, .rw, 0⟩
def SRV.EXPIRED_CNT : Fld := ⟨0x420, 0, 64, .rw, 0⟩
def SRV.LATE_CNT : Fld := ⟨0x428, 0, 64, .rw, 0⟩
def SRV.SPEC_PROP_CNT : Fld := ⟨0x430, 0, 64, .rw, 0⟩
def SRV.SPEC_ACC_CNT : Fld := ⟨0x438, 0, 64, .rw, 0⟩
def SRV.ABORT_CNT : Fld := ⟨0x440, 0, 64, .rw, 0⟩
def SRV.RING_WAIT_CNT : Fld := ⟨0x448, 0, 64, .rw, 0⟩
def SRV.HELD_CNT : Fld := ⟨0x450, 0, 64, .rw, 0⟩
def SRV.SUM_DROP_CNT : Fld := ⟨0x458, 0, 64, .rw, 0⟩

/-- The fields of SRV (header fields IRQ_STAT, IRQ_EN, IRQ_SET, ERR_CNT apart). -/
def SRV.fields : List Fld :=
  [SRV.CTRL_RETRY_MAX, SRV.CTRL_SPEC_EN, SRV.CTRL_ENABLE, SRV.STAT_LIVE, SRV.STAT_HELD, SRV.SUM_BASE_BASE, SRV.SUM_CFG_ENABLE, SRV.SUM_CFG_ENTRIES, SRV.SUM_HEAD_HEAD, SRV.SUM_TAIL_TAIL, SRV.STEP_NS_LAST, SRV.SEQ_SEL_SLOT, SRV.TEN_SEL_TENANT, SRV.MDL_SEL_MODEL]
    ++ (List.range 32).flatMap (fun i => [SRV.SEQ_VIEW i])
    ++ [SRV.STEP_CNT, SRV.ADMIT_CNT, SRV.REFUSE_CNT, SRV.TOKEN_CNT, SRV.EXPIRED_CNT, SRV.LATE_CNT, SRV.SPEC_PROP_CNT, SRV.SPEC_ACC_CNT, SRV.ABORT_CNT, SRV.RING_WAIT_CNT, SRV.HELD_CNT, SRV.SUM_DROP_CNT]

/-- The registers of SRV and their widths. -/
def SRV.regs : List Reg :=
  [⟨0x8, 32⟩, ⟨0xC, 32⟩, ⟨0x40, 64⟩, ⟨0x48, 32⟩, ⟨0x4C, 32⟩, ⟨0x50, 32⟩, ⟨0x54, 32⟩, ⟨0x80, 32⟩, ⟨0x84, 32⟩, ⟨0x88, 32⟩, ⟨0x400, 64⟩, ⟨0x408, 64⟩, ⟨0x410, 64⟩, ⟨0x418, 64⟩, ⟨0x420, 64⟩, ⟨0x428, 64⟩, ⟨0x430, 64⟩, ⟨0x438, 64⟩, ⟨0x440, 64⟩, ⟨0x448, 64⟩, ⟨0x450, 64⟩, ⟨0x458, 64⟩]
    ++ (List.range 32).map (fun i => ⟨0x100 + 4 * i, 32⟩)

/-! ### FLT -/
def FLT.CTRL_QUIET_MS : Fld := ⟨0x8, 16, 16, .rw, 0x64⟩
def FLT.CTRL_COMPAT : Fld := ⟨0x8, 0, 1, .rw2p, 0⟩
def FLT.STAT_F_ACTIVE : Fld := ⟨0xC, 31, 1, .r, 0⟩
def FLT.STAT_LATCHED : Fld := ⟨0xC, 30, 1, .r, 0⟩
def FLT.STAT_RECOV_24H : Fld := ⟨0xC, 26, 4, .r, 0⟩
def FLT.STAT_POOL : Fld := ⟨0xC, 16, 8, .r, 0⟩
def FLT.STAT_U_OPEN : Fld := ⟨0xC, 0, 16, .r, 0⟩
def FLT.LOG_BASE_BASE : Fld := ⟨0x40, 17, 31, .rw, 0⟩
def FLT.LOG_HEAD_HEAD : Fld := ⟨0x48, 0, 12, .rw, 0⟩
def FLT.LOG_TAIL_TAIL : Fld := ⟨0x4C, 0, 12, .r, 0⟩
def FLT.LOG_SEL_SEL : Fld := ⟨0x50, 0, 12, .rw, 0⟩
def FLT.COALESCE_US : Fld := ⟨0x54, 0, 16, .rw, 0x3e8⟩
def FLT.LOG_VIEW (i : Nat) : Fld := ⟨0x60 + 4 * i, 0, 32, .r, 0⟩
def FLT.MIG_CTRL_REQ : Fld := ⟨0x80, 31, 1, .wo, 0⟩
def FLT.MIG_CTRL_LOGICAL : Fld := ⟨0x80, 0, 8, .rw, 0⟩
def FLT.MIG_STAT_ACTIVE : Fld := ⟨0x84, 29, 3, .r, 0⟩
def FLT.MIG_STAT_RESULT : Fld := ⟨0x84, 24, 2, .r, 0⟩
def FLT.MIG_STAT_SOURCE : Fld := ⟨0x84, 16, 8, .r, 0⟩
def FLT.MIG_STAT_TARGET : Fld := ⟨0x84, 8, 8, .r, 0⟩
def FLT.MIG_STAT_LOGICAL : Fld := ⟨0x84, 0, 8, .r, 0⟩
def FLT.TEST_CTRL_INTERVAL_H : Fld := ⟨0x88, 24, 8, .rw, 0x18⟩
def FLT.TEST_CTRL_DEFER_MAX : Fld := ⟨0x88, 8, 8, .rw, 0xa⟩
def FLT.TEST_CTRL_EN : Fld := ⟨0x88, 0, 1, .rw, 1⟩
def FLT.TEST_STAT_CORE1 : Fld := ⟨0x8C, 24, 8, .r, 0xff⟩
def FLT.TEST_STAT_CORE0 : Fld := ⟨0x8C, 16, 8, .r, 0xff⟩
def FLT.TEST_STAT_NEXT : Fld := ⟨0x8C, 8, 8, .r, 0⟩
def FLT.TEST_STAT_DEFERRED : Fld := ⟨0x8C, 0, 8, .r, 0⟩
def FLT.C_CNT : Fld := ⟨0x90, 0, 64, .rw, 0⟩
def FLT.U_CNT : Fld := ⟨0x98, 0, 64, .rw, 0⟩
def FLT.F_CNT : Fld := ⟨0xA0, 0, 64, .rw, 0⟩
def FLT.DROP_CNT : Fld := ⟨0xA8, 0, 64, .rw, 0⟩
def FLT.MIG_CNT : Fld := ⟨0xB0, 0, 64, .rw, 0⟩
def FLT.TEST_CNT : Fld := ⟨0xB8, 0, 64, .rw, 0⟩
def FLT.RECOVERY_CNT : Fld := ⟨0xC0, 0, 64, .r, 0⟩
def FLT.POOL (i : Nat) : Fld := ⟨0x100 + 4 * i, 0, 32, .r, 0⟩
def FLT.CORE_REDIR_VALID (i : Nat) : Fld := ⟨0x200 + 4 * i, 31, 1, .rw, 0⟩
def FLT.CORE_REDIR_MIGRATING (i : Nat) : Fld := ⟨0x200 + 4 * i, 30, 1, .r, 0⟩
def FLT.CORE_REDIR_PHYS (i : Nat) : Fld := ⟨0x200 + 4 * i, 0, 8, .rw, 0⟩

/-- The fields of FLT (header fields IRQ_STAT, IRQ_EN, IRQ_SET, ERR_CNT apart). -/
def FLT.fields : List Fld :=
  [FLT.CTRL_QUIET_MS, FLT.CTRL_COMPAT, FLT.STAT_F_ACTIVE, FLT.STAT_LATCHED, FLT.STAT_RECOV_24H, FLT.STAT_POOL, FLT.STAT_U_OPEN, FLT.LOG_BASE_BASE, FLT.LOG_HEAD_HEAD, FLT.LOG_TAIL_TAIL, FLT.LOG_SEL_SEL, FLT.COALESCE_US]
    ++ (List.range 8).flatMap (fun i => [FLT.LOG_VIEW i])
    ++ [FLT.MIG_CTRL_REQ, FLT.MIG_CTRL_LOGICAL, FLT.MIG_STAT_ACTIVE, FLT.MIG_STAT_RESULT, FLT.MIG_STAT_SOURCE, FLT.MIG_STAT_TARGET, FLT.MIG_STAT_LOGICAL, FLT.TEST_CTRL_INTERVAL_H, FLT.TEST_CTRL_DEFER_MAX, FLT.TEST_CTRL_EN, FLT.TEST_STAT_CORE1, FLT.TEST_STAT_CORE0, FLT.TEST_STAT_NEXT, FLT.TEST_STAT_DEFERRED, FLT.C_CNT, FLT.U_CNT, FLT.F_CNT, FLT.DROP_CNT, FLT.MIG_CNT, FLT.TEST_CNT, FLT.RECOVERY_CNT]
    ++ (List.range 5).flatMap (fun i => [FLT.POOL i])
    ++ (List.range 160).flatMap (fun i => [FLT.CORE_REDIR_VALID i, FLT.CORE_REDIR_MIGRATING i, FLT.CORE_REDIR_PHYS i])

/-- The registers of FLT and their widths. -/
def FLT.regs : List Reg :=
  [⟨0x8, 32⟩, ⟨0xC, 32⟩, ⟨0x40, 64⟩, ⟨0x48, 32⟩, ⟨0x4C, 32⟩, ⟨0x50, 32⟩, ⟨0x54, 32⟩, ⟨0x80, 32⟩, ⟨0x84, 32⟩, ⟨0x88, 32⟩, ⟨0x8C, 32⟩, ⟨0x90, 64⟩, ⟨0x98, 64⟩, ⟨0xA0, 64⟩, ⟨0xA8, 64⟩, ⟨0xB0, 64⟩, ⟨0xB8, 64⟩, ⟨0xC0, 64⟩]
    ++ (List.range 8).map (fun i => ⟨0x60 + 4 * i, 32⟩)
    ++ (List.range 5).map (fun i => ⟨0x100 + 4 * i, 32⟩)
    ++ (List.range 160).map (fun i => ⟨0x200 + 4 * i, 32⟩)

/-! ### FLTD -/
def FLTD.STAT_POLLED : Fld := ⟨0xC, 8, 8, .r, 0⟩
def FLTD.STAT_BUFFERED : Fld := ⟨0xC, 0, 7, .r, 0⟩
def FLTD.OVF_CNT : Fld := ⟨0x40, 0, 64, .rw, 0⟩
def FLTD.FWD_CNT : Fld := ⟨0x48, 0, 64, .rw, 0⟩
def FLTD.LINE_CNT : Fld := ⟨0x50, 0, 64, .rw, 0⟩

/-- The fields of FLTD (header fields IRQ_STAT, IRQ_EN, IRQ_SET, ERR_CNT apart). -/
def FLTD.fields : List Fld :=
  [FLTD.STAT_POLLED, FLTD.STAT_BUFFERED, FLTD.OVF_CNT, FLTD.FWD_CNT, FLTD.LINE_CNT]

/-- The registers of FLTD and their widths. -/
def FLTD.regs : List Reg :=
  [⟨0xC, 32⟩, ⟨0x40, 64⟩, ⟨0x48, 64⟩, ⟨0x50, 64⟩]

/-! ### ECC -/
def ECC.CTRL_TEST_EN : Fld := ⟨0x8, 0, 1, .rw, 0⟩
def ECC.STAT_T2_INTLV : Fld := ⟨0xC, 3, 1, .r, 0⟩
def ECC.STAT_SRAM_FAIL : Fld := ⟨0xC, 2, 1, .r, 0⟩
def ECC.STAT_SRAM_TEST_DONE : Fld := ⟨0xC, 1, 1, .r, 0⟩
def ECC.STAT_TEST_ACTIVE : Fld := ⟨0xC, 0, 1, .r, 0⟩
def ECC.TADDR_ADDR : Fld := ⟨0x40, 3, 45, .rw, 0⟩
def ECC.TDATA : Fld := ⟨0x48, 0, 64, .rw, 0⟩
def ECC.TCTRL_BUSY : Fld := ⟨0x50, 10, 1, .r, 0⟩
def ECC.TCTRL_READ : Fld := ⟨0x50, 9, 1, .wo, 0⟩
def ECC.TCTRL_WRITE : Fld := ⟨0x50, 8, 1, .wo, 0⟩
def ECC.TCTRL_TCHECK : Fld := ⟨0x50, 0, 8, .rw, 0⟩
def ECC.TRESULT_OUTCOME : Fld := ⟨0x54, 16, 3, .r, 0⟩
def ECC.TRESULT_SYNDROME : Fld := ⟨0x54, 8, 8, .r, 0⟩
def ECC.TRESULT_RCHECK : Fld := ⟨0x54, 0, 8, .r, 0⟩
def ECC.TREAD_DATA : Fld := ⟨0x58, 0, 64, .r, 0⟩
def ECC.SRAM_CE_CNT : Fld := ⟨0x60, 0, 64, .rw, 0⟩
def ECC.SRAM_UE_CNT : Fld := ⟨0x68, 0, 64, .rw, 0⟩
def ECC.SRAM_FAIL_ID_ID : Fld := ⟨0x70, 0, 16, .r, 0xffff⟩

/-- The fields of ECC (header fields IRQ_STAT, IRQ_EN, IRQ_SET, ERR_CNT apart). -/
def ECC.fields : List Fld :=
  [ECC.CTRL_TEST_EN, ECC.STAT_T2_INTLV, ECC.STAT_SRAM_FAIL, ECC.STAT_SRAM_TEST_DONE, ECC.STAT_TEST_ACTIVE, ECC.TADDR_ADDR, ECC.TDATA, ECC.TCTRL_BUSY, ECC.TCTRL_READ, ECC.TCTRL_WRITE, ECC.TCTRL_TCHECK, ECC.TRESULT_OUTCOME, ECC.TRESULT_SYNDROME, ECC.TRESULT_RCHECK, ECC.TREAD_DATA, ECC.SRAM_CE_CNT, ECC.SRAM_UE_CNT, ECC.SRAM_FAIL_ID_ID]

/-- The registers of ECC and their widths. -/
def ECC.regs : List Reg :=
  [⟨0x8, 32⟩, ⟨0xC, 32⟩, ⟨0x40, 64⟩, ⟨0x48, 64⟩, ⟨0x50, 32⟩, ⟨0x54, 32⟩, ⟨0x58, 64⟩, ⟨0x60, 64⟩, ⟨0x68, 64⟩, ⟨0x70, 32⟩]

/-! ### HKADC -/
def HKADC.CTRL_RING_EN : Fld := ⟨0x8, 1, 1, .rw, 0⟩
def HKADC.CTRL_SW_TRIG : Fld := ⟨0x8, 0, 1, .wo, 0⟩
def HKADC.STAT_CHAN : Fld := ⟨0xC, 2, 5, .r, 0⟩
def HKADC.STAT_PENDING : Fld := ⟨0xC, 1, 1, .r, 0⟩
def HKADC.STAT_BUSY : Fld := ⟨0xC, 0, 1, .r, 0⟩
def HKADC.CHSEL_CH : Fld := ⟨0x40, 0, 5, .rw, 0x18⟩
def HKADC.SCAN : Fld := ⟨0x44, 0, 32, .rw, 0x3ffffff⟩
def HKADC.LAST_CHAN : Fld := ⟨0x48, 16, 5, .r, 0⟩
def HKADC.LAST_UNDR : Fld := ⟨0x48, 13, 1, .r, 0⟩
def HKADC.LAST_OVR : Fld := ⟨0x48, 12, 1, .r, 0⟩
def HKADC.LAST_CODE : Fld := ⟨0x48, 0, 12, .r, 0⟩
def HKADC.RING_BASE_BASE : Fld := ⟨0x50, 4, 44, .rw, 0⟩
def HKADC.RING_CFG_ENTRIES : Fld := ⟨0x58, 0, 17, .rw, 0⟩
def HKADC.RING_HEAD_HEAD : Fld := ⟨0x5C, 0, 16, .rw, 0⟩
def HKADC.RING_TAIL_TAIL : Fld := ⟨0x60, 0, 16, .r, 0⟩
def HKADC.CONV_CNT : Fld := ⟨0x80, 0, 64, .rw, 0⟩
def HKADC.OVR_CNT : Fld := ⟨0x88, 0, 64, .rw, 0⟩
def HKADC.DROP_CNT : Fld := ⟨0x90, 0, 64, .rw, 0⟩
def HKADC.MERGE_CNT : Fld := ⟨0x98, 0, 64, .rw, 0⟩

/-- The fields of HKADC (header fields IRQ_STAT, IRQ_EN, IRQ_SET, ERR_CNT apart). -/
def HKADC.fields : List Fld :=
  [HKADC.CTRL_RING_EN, HKADC.CTRL_SW_TRIG, HKADC.STAT_CHAN, HKADC.STAT_PENDING, HKADC.STAT_BUSY, HKADC.CHSEL_CH, HKADC.SCAN, HKADC.LAST_CHAN, HKADC.LAST_UNDR, HKADC.LAST_OVR, HKADC.LAST_CODE, HKADC.RING_BASE_BASE, HKADC.RING_CFG_ENTRIES, HKADC.RING_HEAD_HEAD, HKADC.RING_TAIL_TAIL, HKADC.CONV_CNT, HKADC.OVR_CNT, HKADC.DROP_CNT, HKADC.MERGE_CNT]

/-- The registers of HKADC and their widths. -/
def HKADC.regs : List Reg :=
  [⟨0x8, 32⟩, ⟨0xC, 32⟩, ⟨0x40, 32⟩, ⟨0x44, 32⟩, ⟨0x48, 32⟩, ⟨0x50, 64⟩, ⟨0x58, 32⟩, ⟨0x5C, 32⟩, ⟨0x60, 32⟩, ⟨0x80, 64⟩, ⟨0x88, 64⟩, ⟨0x90, 64⟩, ⟨0x98, 64⟩]

/-! ### THERM -/
def THERM.STAT_HOTTEST : Fld := ⟨0xC, 16, 16, .r, 0⟩
def THERM.STAT_ORDERLY : Fld := ⟨0xC, 8, 1, .r, 0⟩
def THERM.STAT_SENSOR_LOSS : Fld := ⟨0xC, 7, 1, .r, 0⟩
def THERM.STAT_LEVEL : Fld := ⟨0xC, 4, 2, .r, 0⟩
def THERM.STAT_STEPS : Fld := ⟨0xC, 0, 4, .r, 0⟩
def THERM.CTRL_HORIZON_MS : Fld := ⟨0x40, 16, 8, .rw, 0x10⟩
def THERM.CTRL_THR_MAX : Fld := ⟨0x40, 8, 4, .rw, 0xc⟩
def THERM.CTRL_ORDERLY_EN : Fld := ⟨0x40, 0, 1, .rw, 1⟩
def THERM.PWR_LIMIT_W : Fld := ⟨0x44, 0, 16, .rw, 0x708⟩
def THERM.PKG_POWER_W : Fld := ⟨0x48, 0, 16, .r, 0⟩
def THERM.SENSOR_PRESENT (i : Nat) : Fld := ⟨0x80 + 4 * i, 31, 1, .r, 0⟩
def THERM.SENSOR_EXCLUDED (i : Nat) : Fld := ⟨0x80 + 4 * i, 30, 1, .r, 0⟩
def THERM.SENSOR_TEMP (i : Nat) : Fld := ⟨0x80 + 4 * i, 0, 16, .r, 0⟩
def THERM.GAP_CNT : Fld := ⟨0xC0, 0, 64, .rw, 0⟩
def THERM.ROUND_CNT : Fld := ⟨0xC8, 0, 64, .rw, 0⟩

/-- The fields of THERM (header fields IRQ_STAT, IRQ_EN, IRQ_SET, ERR_CNT apart). -/
def THERM.fields : List Fld :=
  [THERM.STAT_HOTTEST, THERM.STAT_ORDERLY, THERM.STAT_SENSOR_LOSS, THERM.STAT_LEVEL, THERM.STAT_STEPS, THERM.CTRL_HORIZON_MS, THERM.CTRL_THR_MAX, THERM.CTRL_ORDERLY_EN, THERM.PWR_LIMIT_W, THERM.PKG_POWER_W]
    ++ (List.range 16).flatMap (fun i => [THERM.SENSOR_PRESENT i, THERM.SENSOR_EXCLUDED i, THERM.SENSOR_TEMP i])
    ++ [THERM.GAP_CNT, THERM.ROUND_CNT]

/-- The registers of THERM and their widths. -/
def THERM.regs : List Reg :=
  [⟨0xC, 32⟩, ⟨0x40, 32⟩, ⟨0x44, 32⟩, ⟨0x48, 32⟩, ⟨0xC0, 64⟩, ⟨0xC8, 64⟩]
    ++ (List.range 16).map (fun i => ⟨0x80 + 4 * i, 32⟩)

/-! ### CLK -/
def CLK.STAT_REFCLK_OK : Fld := ⟨0xC, 1, 1, .r, 0⟩
def CLK.STAT_PLL_LOCK : Fld := ⟨0xC, 0, 1, .r, 0⟩
def CLK.GATED : Fld := ⟨0x40, 0, 64, .r, 0⟩
def CLK.WDOG_TIMEOUT_US : Fld := ⟨0x48, 0, 16, .rw, 0x1f4⟩
def CLK.SCLK : Fld := ⟨0x50, 0, 64, .r, 0⟩
def CLK.XING_TMO_CNT : Fld := ⟨0x58, 0, 64, .rw, 0⟩
def CLK.XING_FULL_CNT : Fld := ⟨0x60, 0, 64, .rw, 0⟩

/-- The fields of CLK (header fields IRQ_STAT, IRQ_EN, IRQ_SET, ERR_CNT apart). -/
def CLK.fields : List Fld :=
  [CLK.STAT_REFCLK_OK, CLK.STAT_PLL_LOCK, CLK.GATED, CLK.WDOG_TIMEOUT_US, CLK.SCLK, CLK.XING_TMO_CNT, CLK.XING_FULL_CNT]

/-- The registers of CLK and their widths. -/
def CLK.regs : List Reg :=
  [⟨0xC, 32⟩, ⟨0x40, 64⟩, ⟨0x48, 32⟩, ⟨0x50, 64⟩, ⟨0x58, 64⟩, ⟨0x60, 64⟩]

/-! ### RST -/
def RST.STAT_IN_RESET : Fld := ⟨0xC, 0, 4, .r, 0⟩
def RST.CORE_RST_PRESERVE (i : Nat) : Fld := ⟨0x40 + 4 * i, 1, 1, .rw, 1⟩
def RST.CORE_RST_ASSERT (i : Nat) : Fld := ⟨0x40 + 4 * i, 0, 1, .rw, 0⟩
def RST.LAST_CAUSE_CAUSE : Fld := ⟨0x50, 0, 2, .r, 0⟩
def RST.CORE_RST_CNT : Fld := ⟨0x58, 0, 64, .rw, 0⟩

/-- The fields of RST (header fields IRQ_STAT, IRQ_EN, IRQ_SET, ERR_CNT apart). -/
def RST.fields : List Fld :=
  [RST.STAT_IN_RESET]
    ++ (List.range 4).flatMap (fun i => [RST.CORE_RST_PRESERVE i, RST.CORE_RST_ASSERT i])
    ++ [RST.LAST_CAUSE_CAUSE, RST.CORE_RST_CNT]

/-- The registers of RST and their widths. -/
def RST.regs : List Reg :=
  [⟨0xC, 32⟩, ⟨0x50, 32⟩, ⟨0x58, 64⟩]
    ++ (List.range 4).map (fun i => ⟨0x40 + 4 * i, 32⟩)

/-! ### SEC -/
def SEC.STAT_SVN : Fld := ⟨0xC, 16, 16, .r, 0⟩
def SEC.STAT_CFG_RESTORED : Fld := ⟨0xC, 4, 1, .r, 0⟩
def SEC.STAT_DEBUG_OPEN : Fld := ⟨0xC, 3, 1, .r, 0⟩
def SEC.STAT_ID_OK : Fld := ⟨0xC, 2, 1, .r, 0⟩
def SEC.STAT_IMAGE : Fld := ⟨0xC, 0, 2, .r, 0⟩
def SEC.BOOT_PREFER : Fld := ⟨0x40, 0, 1, .rw, 0⟩
def SEC.MIN_SVN_SVN : Fld := ⟨0x44, 0, 16, .r, 0⟩
def SEC.MEAS_SEL_IDX : Fld := ⟨0x48, 0, 4, .rw, 0⟩
def SEC.MEAS_VIEW (i : Nat) : Fld := ⟨0x80 + 4 * i, 0, 32, .r, 0⟩

/-- The fields of SEC (header fields IRQ_STAT, IRQ_EN, IRQ_SET, ERR_CNT apart). -/
def SEC.fields : List Fld :=
  [SEC.STAT_SVN, SEC.STAT_CFG_RESTORED, SEC.STAT_DEBUG_OPEN, SEC.STAT_ID_OK, SEC.STAT_IMAGE, SEC.BOOT_PREFER, SEC.MIN_SVN_SVN, SEC.MEAS_SEL_IDX]
    ++ (List.range 16).flatMap (fun i => [SEC.MEAS_VIEW i])

/-- The registers of SEC and their widths. -/
def SEC.regs : List Reg :=
  [⟨0xC, 32⟩, ⟨0x40, 32⟩, ⟨0x44, 32⟩, ⟨0x48, 32⟩]
    ++ (List.range 16).map (fun i => ⟨0x80 + 4 * i, 32⟩)

/-! ### CFG2P -/
def CFG2P.CTRL_COMMIT : Fld := ⟨0x8, 0, 1, .wo, 0⟩
def CFG2P.STAT_BUSY : Fld := ⟨0xC, 31, 1, .r, 0⟩
def CFG2P.STAT_ENROLLED : Fld := ⟨0xC, 30, 1, .r, 0⟩
def CFG2P.STAT_ITEM : Fld := ⟨0xC, 8, 8, .r, 0⟩
def CFG2P.STAT_RESULT : Fld := ⟨0xC, 0, 8, .r, 0⟩
def CFG2P.NONCE (i : Nat) : Fld := ⟨0x40 + 4 * i, 0, 32, .r, 0⟩
def CFG2P.REC_ADDR_ADDR : Fld := ⟨0x60, 6, 42, .rw, 0⟩
def CFG2P.REC_LEN_LEN : Fld := ⟨0x68, 0, 15, .rw, 0⟩
def CFG2P.CHANGE_CNT : Fld := ⟨0x70, 0, 64, .r, 0⟩
def CFG2P.FW_UPDATE_EN_EN : Fld := ⟨0x78, 0, 1, .rw2p, 0⟩
def CFG2P.DEBUG_UNLOCK_EN : Fld := ⟨0x7C, 0, 1, .rw2p, 0⟩
def CFG2P.OWNER_DIGEST (i : Nat) : Fld := ⟨0x100 + 4 * i, 0, 32, .r, 0⟩
def CFG2P.AUDITOR_DIGEST (i : Nat) : Fld := ⟨0x140 + 4 * i, 0, 32, .r, 0⟩
def CFG2P.REJECT_CNT : Fld := ⟨0x180, 0, 64, .rw, 0⟩

/-- The fields of CFG2P (header fields IRQ_STAT, IRQ_EN, IRQ_SET, ERR_CNT apart). -/
def CFG2P.fields : List Fld :=
  [CFG2P.CTRL_COMMIT, CFG2P.STAT_BUSY, CFG2P.STAT_ENROLLED, CFG2P.STAT_ITEM, CFG2P.STAT_RESULT]
    ++ (List.range 8).flatMap (fun i => [CFG2P.NONCE i])
    ++ [CFG2P.REC_ADDR_ADDR, CFG2P.REC_LEN_LEN, CFG2P.CHANGE_CNT, CFG2P.FW_UPDATE_EN_EN, CFG2P.DEBUG_UNLOCK_EN]
    ++ (List.range 16).flatMap (fun i => [CFG2P.OWNER_DIGEST i])
    ++ (List.range 16).flatMap (fun i => [CFG2P.AUDITOR_DIGEST i])
    ++ [CFG2P.REJECT_CNT]

/-- The registers of CFG2P and their widths. -/
def CFG2P.regs : List Reg :=
  [⟨0x8, 32⟩, ⟨0xC, 32⟩, ⟨0x60, 64⟩, ⟨0x68, 32⟩, ⟨0x70, 64⟩, ⟨0x78, 32⟩, ⟨0x7C, 32⟩, ⟨0x180, 64⟩]
    ++ (List.range 8).map (fun i => ⟨0x40 + 4 * i, 32⟩)
    ++ (List.range 16).map (fun i => ⟨0x100 + 4 * i, 32⟩)
    ++ (List.range 16).map (fun i => ⟨0x140 + 4 * i, 32⟩)

/-! ### LIFE -/
def LIFE.STAT_FOLDING : Fld := ⟨0xC, 1, 1, .r, 0⟩
def LIFE.STAT_TORN : Fld := ⟨0xC, 0, 1, .r, 0⟩
def LIFE.NVM_ADDR_ADDR : Fld := ⟨0x40, 3, 15, .rw, 0⟩
def LIFE.NVM_DATA : Fld := ⟨0x48, 0, 64, .rc, 0⟩
def LIFE.POWERED_S : Fld := ⟨0x50, 0, 64, .r, 0⟩
def LIFE.FOLD_CNT : Fld := ⟨0x58, 0, 64, .rw, 0⟩
def LIFE.LAST_FOLD : Fld := ⟨0x60, 0, 64, .r, 0⟩

/-- The fields of LIFE (header fields IRQ_STAT, IRQ_EN, IRQ_SET, ERR_CNT apart). -/
def LIFE.fields : List Fld :=
  [LIFE.STAT_FOLDING, LIFE.STAT_TORN, LIFE.NVM_ADDR_ADDR, LIFE.NVM_DATA, LIFE.POWERED_S, LIFE.FOLD_CNT, LIFE.LAST_FOLD]

/-- The registers of LIFE and their widths. -/
def LIFE.regs : List Reg :=
  [⟨0xC, 32⟩, ⟨0x40, 32⟩, ⟨0x48, 64⟩, ⟨0x50, 64⟩, ⟨0x58, 64⟩, ⟨0x60, 64⟩]

/-! ### SYNC -/
def SYNC.SEM_SEL_SEM : Fld := ⟨0x40, 0, 11, .rw, 0x400⟩
def SYNC.SEM_VIEW_CLAIMS : Fld := ⟨0x44, 16, 12, .r, 0⟩
def SYNC.SEM_VIEW_VALUE : Fld := ⟨0x44, 0, 16, .rw, 0⟩
def SYNC.CLAIM_Q_N : Fld := ⟨0x48, 0, 12, .r, 0⟩
def SYNC.SIGNAL_CNT : Fld := ⟨0x50, 0, 64, .rw, 0⟩
def SYNC.CLAIM_CNT : Fld := ⟨0x58, 0, 64, .rw, 0⟩
def SYNC.BCAST_CNT : Fld := ⟨0x60, 0, 64, .rw, 0⟩
def SYNC.DISCARD_CNT : Fld := ⟨0x68, 0, 64, .rw, 0⟩
def SYNC.SAT_CNT : Fld := ⟨0x70, 0, 64, .rw, 0⟩

/-- The fields of SYNC (header fields IRQ_STAT, IRQ_EN, IRQ_SET, ERR_CNT apart). -/
def SYNC.fields : List Fld :=
  [SYNC.SEM_SEL_SEM, SYNC.SEM_VIEW_CLAIMS, SYNC.SEM_VIEW_VALUE, SYNC.CLAIM_Q_N, SYNC.SIGNAL_CNT, SYNC.CLAIM_CNT, SYNC.BCAST_CNT, SYNC.DISCARD_CNT, SYNC.SAT_CNT]

/-- The registers of SYNC and their widths. -/
def SYNC.regs : List Reg :=
  [⟨0x40, 32⟩, ⟨0x44, 32⟩, ⟨0x48, 32⟩, ⟨0x50, 64⟩, ⟨0x58, 64⟩, ⟨0x60, 64⟩, ⟨0x68, 64⟩, ⟨0x70, 64⟩]

/-! ### TEN -/
def TEN.WEIGHT : Fld := ⟨0x0, 0, 8, .rw, 1⟩
def TEN.LATE_POLICY : Fld := ⟨0x1, 0, 2, .rw, 0⟩
def TEN.ENABLE : Fld := ⟨0x2, 0, 1, .rw2p, 0⟩
def TEN.RATE : Fld := ⟨0x4, 0, 32, .rw, 0⟩
def TEN.DEPTH : Fld := ⟨0x8, 0, 32, .rw, 0x10000⟩
def TEN.BUCKET : Fld := ⟨0xC, 0, 32, .r, 0⟩
def TEN.MAX_SEQ : Fld := ⟨0x10, 0, 16, .rw2p, 0⟩
def TEN.ACTIVE_SEQ : Fld := ⟨0x12, 0, 16, .r, 0⟩
def TEN.PAGE_QUOTA : Fld := ⟨0x14, 0, 32, .rw2p, 0⟩
def TEN.PAGES_HELD : Fld := ⟨0x18, 0, 32, .r, 0⟩

/-- The fields of TEN (header fields IRQ_STAT, IRQ_EN, IRQ_SET, ERR_CNT apart). -/
def TEN.fields : List Fld :=
  [TEN.WEIGHT, TEN.LATE_POLICY, TEN.ENABLE, TEN.RATE, TEN.DEPTH, TEN.BUCKET, TEN.MAX_SEQ, TEN.ACTIVE_SEQ, TEN.PAGE_QUOTA, TEN.PAGES_HELD]

/-- The registers of TEN and their widths. -/
def TEN.regs : List Reg :=
  [⟨0x0, 8⟩, ⟨0x1, 2⟩, ⟨0x2, 1⟩, ⟨0x4, 32⟩, ⟨0x8, 32⟩, ⟨0xC, 32⟩, ⟨0x10, 16⟩, ⟨0x12, 16⟩, ⟨0x14, 32⟩, ⟨0x18, 32⟩]

/-! ### MDL -/
def MDL.STATE : Fld := ⟨0x0, 0, 8, .r, 0⟩
def MDL.GEN : Fld := ⟨0x1, 0, 8, .r, 0⟩
def MDL.DRAFT : Fld := ⟨0x2, 0, 8, .rw, 0xff⟩
def MDL.KVG : Fld := ⟨0x3, 0, 4, .rw, 0⟩
def MDL.LAYERS : Fld := ⟨0x4, 0, 16, .rw, 0⟩
def MDL.HEADS_KV : Fld := ⟨0x6, 0, 16, .rw, 0⟩
def MDL.VOCAB : Fld := ⟨0x8, 0, 32, .rw, 0⟩
def MDL.MAX_CTX : Fld := ⟨0xC, 0, 32, .rw, 0⟩
def MDL.STEP_TOKENS : Fld := ⟨0x10, 0, 16, .rw, 0⟩
def MDL.CHUNK_MAX : Fld := ⟨0x12, 0, 16, .rw, 0⟩
def MDL.T : Fld := ⟨0x14, 0, 32, .r, 0⟩
def MDL.SHAPES : Fld := ⟨0x18, 0, 64, .rw, 0⟩
def MDL.BASE_NS : Fld := ⟨0x20, 0, 32, .rw, 0⟩
def MDL.TOKEN_NS : Fld := ⟨0x24, 0, 32, .rw, 0⟩
def MDL.CTX_PS : Fld := ⟨0x28, 0, 32, .rw, 0⟩
def MDL.SWAP_MODE : Fld := ⟨0x2C, 0, 8, .rw, 0⟩
def MDL.CMD : Fld := ⟨0x2D, 0, 8, .wo, 0⟩

/-- The fields of MDL (header fields IRQ_STAT, IRQ_EN, IRQ_SET, ERR_CNT apart). -/
def MDL.fields : List Fld :=
  [MDL.STATE, MDL.GEN, MDL.DRAFT, MDL.KVG, MDL.LAYERS, MDL.HEADS_KV, MDL.VOCAB, MDL.MAX_CTX, MDL.STEP_TOKENS, MDL.CHUNK_MAX, MDL.T, MDL.SHAPES, MDL.BASE_NS, MDL.TOKEN_NS, MDL.CTX_PS, MDL.SWAP_MODE, MDL.CMD]

/-- The registers of MDL and their widths. -/
def MDL.regs : List Reg :=
  [⟨0x0, 8⟩, ⟨0x1, 8⟩, ⟨0x2, 8⟩, ⟨0x3, 4⟩, ⟨0x4, 16⟩, ⟨0x6, 16⟩, ⟨0x8, 32⟩, ⟨0xC, 32⟩, ⟨0x10, 16⟩, ⟨0x12, 16⟩, ⟨0x14, 32⟩, ⟨0x18, 64⟩, ⟨0x20, 32⟩, ⟨0x24, 32⟩, ⟨0x28, 32⟩, ⟨0x2C, 8⟩, ⟨0x2D, 8⟩]

/-! ### FNW -/
def FNW.REQ_TAIL_TAIL : Fld := ⟨0x0, 0, 12, .rw, 0⟩
def FNW.REQ_BASE_BASE : Fld := ⟨0x8, 6, 58, .rw, 0⟩
def FNW.REQ_CFG_ENABLE : Fld := ⟨0x10, 63, 1, .rw, 0⟩
def FNW.REQ_CFG_ENTRIES : Fld := ⟨0x10, 0, 13, .rw, 0⟩
def FNW.REQ_HEAD_HEAD : Fld := ⟨0x18, 0, 12, .r, 0⟩
def FNW.RES_BASE_BASE : Fld := ⟨0x40, 6, 58, .rw, 0⟩
def FNW.RES_CFG_ENABLE : Fld := ⟨0x48, 63, 1, .rw, 0⟩
def FNW.RES_CFG_SPLIT : Fld := ⟨0x48, 62, 1, .rw, 0⟩
def FNW.RES_CFG_IRQ_EN : Fld := ⟨0x48, 61, 1, .rw, 0⟩
def FNW.RES_CFG_ENTRIES : Fld := ⟨0x48, 0, 17, .rw, 0⟩
def FNW.RES_HEAD_HEAD : Fld := ⟨0x50, 0, 16, .rw, 0⟩
def FNW.RES_TAIL_TAIL : Fld := ⟨0x58, 0, 16, .r, 0⟩
def FNW.RES_POP_LO : Fld := ⟨0x80, 0, 64, .rc, 0xf0000⟩
def FNW.RES_POP_HI : Fld := ⟨0x88, 0, 64, .r, 0⟩
def FNW.RES_PEEK_LO : Fld := ⟨0x90, 0, 64, .r, 0⟩
def FNW.RES_PEEK_HI : Fld := ⟨0x98, 0, 64, .r, 0⟩

/-- The fields of FNW (header fields IRQ_STAT, IRQ_EN, IRQ_SET, ERR_CNT apart). -/
def FNW.fields : List Fld :=
  [FNW.REQ_TAIL_TAIL, FNW.REQ_BASE_BASE, FNW.REQ_CFG_ENABLE, FNW.REQ_CFG_ENTRIES, FNW.REQ_HEAD_HEAD, FNW.RES_BASE_BASE, FNW.RES_CFG_ENABLE, FNW.RES_CFG_SPLIT, FNW.RES_CFG_IRQ_EN, FNW.RES_CFG_ENTRIES, FNW.RES_HEAD_HEAD, FNW.RES_TAIL_TAIL, FNW.RES_POP_LO, FNW.RES_POP_HI, FNW.RES_PEEK_LO, FNW.RES_PEEK_HI]

/-- The registers of FNW and their widths. -/
def FNW.regs : List Reg :=
  [⟨0x0, 64⟩, ⟨0x8, 64⟩, ⟨0x10, 64⟩, ⟨0x18, 64⟩, ⟨0x40, 64⟩, ⟨0x48, 64⟩, ⟨0x50, 64⟩, ⟨0x58, 64⟩, ⟨0x80, 64⟩, ⟨0x88, 64⟩, ⟨0x90, 64⟩, ⟨0x98, 64⟩]

/-- The defined bits of IRQ_STAT, from bit 0 (the rest are reserved). -/
def Block.irqBits : Block → Nat
  | .tile => 6
  | .eng => 6
  | .core => 4
  | .chk => 6
  | .attn => 4
  | .clus => 1
  | .mesh => 4
  | .hbmc => 5
  | .plk => 5
  | .ingest => 5
  | .kvp => 6
  | .srv => 4
  | .flt => 8
  | .ecc => 3
  | .therm => 5
  | .rst => 1
  | _ => 0

/-- The fields of a block. -/
def Block.fields : Block → List Fld
  | .tile => TILE.fields
  | .eng => ENG.fields
  | .core => CORE.fields
  | .chk => CHK.fields
  | .attn => ATTN.fields
  | .clus => CLUS.fields
  | .die => DIE.fields
  | .mesh => MESH.fields
  | .hbmc => HBMC.fields
  | .cxl => CXL.fields
  | .pcie => PCIE.fields
  | .plk => PLK.fields
  | .ingest => INGEST.fields
  | .kvp => KVP.fields
  | .srv => SRV.fields
  | .flt => FLT.fields
  | .fltd => FLTD.fields
  | .ecc => ECC.fields
  | .hkadc => HKADC.fields
  | .therm => THERM.fields
  | .clk => CLK.fields
  | .rst => RST.fields
  | .sec => SEC.fields
  | .cfg2p => CFG2P.fields
  | .life => LIFE.fields
  | .sync => SYNC.fields
  | .ten => TEN.fields
  | .mdl => MDL.fields
  | .fnw => FNW.fields
  | .none => []

/-- The regs of a block. -/
def Block.regs : Block → List Reg
  | .tile => TILE.regs
  | .eng => ENG.regs
  | .core => CORE.regs
  | .chk => CHK.regs
  | .attn => ATTN.regs
  | .clus => CLUS.regs
  | .die => DIE.regs
  | .mesh => MESH.regs
  | .hbmc => HBMC.regs
  | .cxl => CXL.regs
  | .pcie => PCIE.regs
  | .plk => PLK.regs
  | .ingest => INGEST.regs
  | .kvp => KVP.regs
  | .srv => SRV.regs
  | .flt => FLT.regs
  | .fltd => FLTD.regs
  | .ecc => ECC.regs
  | .hkadc => HKADC.regs
  | .therm => THERM.regs
  | .clk => CLK.regs
  | .rst => RST.regs
  | .sec => SEC.regs
  | .cfg2p => CFG2P.regs
  | .life => LIFE.regs
  | .sync => SYNC.regs
  | .ten => TEN.regs
  | .mdl => MDL.regs
  | .fnw => FNW.regs
  | .none => []

end Sys2Proof
end

