-- ==== Sys2Proof/Machine/State.lean ====
section
/-! DEFINITION. The state of the package as plain data, and the state after reset. Register fields live in one sparse map
(`regs`); what a unit holds beside its registers lives in the unit's record, and a unit the maps do not list is in its
reset record. -/

namespace Sys2Proof.Machine

/-! ### The tile (files 02, 03, 06, 07) -/

/-- One lane of a conversion: code, SAT and POISON marks (R42, R44, R41). -/
structure LaneCode where
  code : Int
  sat : Bool
  poison : Bool
deriving DecidableEq, Repr

/-- One conversion delivered to the thresher: weight 16 or 1 (R75), delivered twice after a re-issue (R117), and held until the
check unit releases it (R148). -/
structure Conv where
  scale : Int
  twice : Bool
  held : Bool
  lanes : List LaneCode
deriving DecidableEq, Repr

/-- A planned pass: its nibble, its driven rows, and whether it is sampled (R39, R143). -/
structure Pass where
  high : Bool
  rows : List Nat
  sampled : Bool
deriving DecidableEq, Repr

/-- A retry conversion still to run: rows, level, lanes to resolve (R42). -/
structure Split where
  rows : List Nat
  level : Nat
  lanes : List Nat
deriving DecidableEq, Repr

/-- A sparse residual (R99): burst, group, row offset, BF16 residual, poison mark. -/
structure Resid where
  burst : Nat
  group : Nat
  off : Nat
  val : Nat
  bad : Bool
deriving DecidableEq, Repr

/-- An outlier set's contents (R108): static rows, their BF16 weights with the columns whose word is poisoned, the residual
entries, and whether a word of the header, the row list or the index words is poisoned. -/
structure OSet where
  rows : List Nat
  weights : List (List Nat × List Nat)
  resid : List Resid
  poison : Bool
deriving DecidableEq, Repr

/-- One vector of an MVM on one tile. `named` is the tile of the mask; `elems` are the stored elements, `driven` the values
driven after clamping, routing, halving (R32, R116, R117); `passes` still to run, `splits` the retries pending; `bank`, `two`,
`img`, `oset` are the compute bank, its slice mode, its image and its outlier set when the vector was planned; `out` is the
output buffer (R78), emptied when the thresher has `reduced` the vector; `forced` is CHECK_FORCE's mark. -/
structure Vec where
  tag : Nat
  named : Nat
  mode : Nat
  cols : Nat
  dynMax : Nat
  dynEn : Bool
  reissueEn : Bool
  elems : List Int
  poisonRows : List Nat
  forced : Bool
  planned : Bool
  reissue : Bool
  reissued : Bool
  driven : List Int
  routed : List Nat
  passes : List Pass
  splits : List Split
  cur : Option Pass
  curStart : Nat
  budget : Nat
  budgetOut : Bool
  clipped : Nat
  ovf : Bool
  bank : Nat
  two : Bool
  img : Nat
  oset : OSet
  out : List Conv
  finished : Bool
  reduced : Bool
deriving DecidableEq, Repr

/-- What a write into a bank is for: a BANK_WRITE, a shadow or image fill of a spare or returning tile, a wear-levelling write,
a calibration pattern (R54, R70, R72, R131). -/
inductive WriteKind where
  | compiled | fill | wear | pattern
deriving DecidableEq, Repr

/-- A bank write in progress (R54, R55). -/
structure BankWr where
  kind : WriteKind
  rows : Nat
  img : Nat
  resident : Bool
  limit : Nat
  tag : Nat
  poisonHit : Bool
  start : Nat
deriving DecidableEq, Repr

/-- One bank beside its `ENG.BANK_STATE` entry: the charge of each written row as signed pair values (256 working, 8 reference,
4 spare); for each row refreshed since the last write the time and the interval in force then, and the same of the write; the
sweep's next row, the compute-bank row that waits for a refresh slot, rows late in this sweep, whether a spare or returning
bank matches (R130), and the write in progress. -/
structure BankS where
  cells : FMap (List Int)
  refreshed : FMap (Nat × Nat)
  sweep : Nat
  due : Option Nat
  lateRows : Nat
  wroteAt : Nat
  wroteIval : Nat
  matched : Bool
  wr : Option BankWr
deriving DecidableEq, Repr

/-- One set of trims: OT and GT by pair, DT by row, as signed steps (R124). -/
structure Trims where
  ot : FMap Int
  gt : FMap Int
  dt : FMap Int
deriving DecidableEq, Repr

/-- The running estimator's sums for one bank, in half-LSB-free integer form: expected codes in units of 1/u LSB (R126). -/
structure Track where
  num : Int
  den : Int
  off : Int
  n : Nat
deriving DecidableEq, Repr

/-- The phase of a sample in the check unit (R145 to R149). -/
inductive SamplePhase where
  | slot | repeatPending | repeated | unresolved
deriving DecidableEq, Repr

/-- A sampled pass: the vector, its driven rows with signed magnitudes, the bank and its slice mode, the window, where its
conversions lie in the vector's output, the lowest mismatching pair, whether the repeat was beyond tolerance, the tile's epoch
when it ran (R149: compute bank, active trims and computing tile unchanged), whether it was split. -/
structure Sample where
  phase : SamplePhase
  tag : Nat
  named : Nat
  high : Bool
  drive : List (Nat × Int)
  bank : Nat
  two : Bool
  cols : Nat
  window : Nat
  first : Nat
  count : Nat
  lowPair : Nat
  beyond : Bool
  epoch : Nat
  split : Bool
deriving DecidableEq, Repr

/-- A tile beside its TILE page. `vecs` are the vectors in issue order, `sampleQ` the samples under check; `lfsr` is the
selection register, 0 while it stands as `CHK.SEED` loaded it (R143); `epoch` counts APPLYs, swaps and changes of the computing
tile; `ttNext` is a temperature term that waits for a pass boundary; `wearPhase` is 1 while a wear-levelling move writes, 2
between its write and its swap; `calStage` is 2 or 4 while a tile whose image was rejected runs that stage alone (R138); the last
four are what the lifetime record counts (R372): full-bank writes and TRANSIENT outcomes since the last fold, the largest
GAIN_USED, the reason of retirement. -/
structure TileS where
  bankA : BankS
  bankB : BankS
  vecs : List Vec
  active : Trims
  shadow : Trims
  trackA : Track
  trackB : Track
  lfsr : Nat
  nSample : Nat
  sampleQ : List Sample
  epoch : Nat
  applyReq : Bool
  ttNext : Option Int
  gapDebt : Nat
  resetAt : Option Nat
  disablePending : Bool
  lastWear : Option Nat
  wearPhase : Nat
  calStage : Nat
  writes : Nat
  transients : Nat
  gainPeak : Nat
  reason : Nat
deriving DecidableEq, Repr

/-! ### The engine (files 04, 05, 06, 09) -/

/-- A decoded descriptor (R174) with its device physical address. -/
structure Desc where
  addr : Nat
  opcode : Nat
  version : Nat
  tag : Nat
  eng : Nat
  mask : Nat
  acc : Nat
  mode : Nat
  group : Nat
  accMode : Nat
  limit : Nat
  resident : Bool
  after : Bool
  dir : Bool
  tiller : Nat
  cs : Nat
  rows : Nat
  cols : Nat
  len64 : Nat
  waitSem : Nat
  waitCnt : Nat
  sigSem : Nat
  sigCnt : Nat
  scope : Nat
  operand : Nat
deriving DecidableEq, Repr

/-- One accumulator lane: narrow, wide, marks (R79) and NPIN (R90). -/
structure AccLane where
  narrow : Int
  wide : Int
  sat : Bool
  poison : Bool
  pin : Bool
  npin : Bool
deriving DecidableEq, Repr

/-- An accumulator tile beside its ACC_TILE register: its lanes, and the P of its last MVM or MVM_ACC (R90). -/
structure AccTile where
  lanes : List AccLane
  p : Nat
deriving DecidableEq, Repr

/-- An engine operation from issue to completion: the tiles of its mask, the groups still to reduce, P, slice mode, what the
thresher and the glume path have left, the lanes saturated narrow and wide, whether a swap has been judged, the physical tiles
it still has to write or swap, whether a tile's rounds were lost (R95); the side block's SX, DEST, enables and DYN_MAX, and the
static activations of each tile with the poison marks of their words (R111); codes of -8 read and the first poisoned place
(R53); when the thresher finished. -/
structure EngOp where
  d : Desc
  tiles : List Nat
  groups : List (List Nat)
  p : Nat
  two : Bool
  thresherDone : Bool
  glumeDone : Bool
  satN : List Nat
  satW : List Nat
  judged : Bool
  left : List Nat
  lostRows : Bool
  sx : Nat
  dest : Nat
  add : Bool
  acts : List (List Nat × List Bool)
  m8 : Nat
  poisonAt : Option Nat
  doneAt : Nat
deriving DecidableEq, Repr

/-- The phase of an engine's calibration turn (R129 to R138). -/
inductive RotPhase where
  | idle | fill | calibrate | ret | loadVerify | startup
deriving DecidableEq, Repr

/-- The calibration sequencer: the turn's tile and phase, tiles moved to the front, when the turn and the attempt began, whether
the attempt was restarted by a per-tile reset, whether it has timed out once, doublings of step 6, whether a pair was remapped
in this turn, whether the return keeps the previous trims (R135), and the stage of a start-up calibration (R136). -/
structure RotS where
  phase : RotPhase
  tile : Nat
  front : List Nat
  slotAt : Nat
  attemptAt : Nat
  restarted : Bool
  timedOut : Bool
  doublings : Nat
  remapped : Bool
  noApply : Bool
  stage : Nat
deriving DecidableEq, Repr

/-- An engine beside its ENG page; `prev` is the tag of the command last issued, `ops` are issued and not complete. -/
structure EngineS where
  queue : List Desc
  prev : Option Nat
  ops : List EngOp
  glume : List Nat
  accs : FMap AccTile
  osets : FMap OSet
  force : List Nat
  rot : RotS
  fillFor : Option Nat
  transients : List (Nat × Nat)
  permanents : List (Nat × Nat)
  noSpareSaid : Bool
  standSince : Option Nat
deriving DecidableEq, Repr

/-! ### The core (files 07, 09, 10, 16) -/

/-- What a global claim of a core's queue head is doing (R173, R178, R294). -/
inductive ClaimS where
  | sent | granted
deriving DecidableEq, Repr

/-- A job entry in an attention command (R205): its fields, whether it failed, the fault code, pages still to pin (list index,
page, write), pages read or written so far. -/
structure AttnEnt where
  slot : Nat
  tenant : Nat
  count : Nat
  pos : Nat
  list : Nat
  failed : Bool
  todo : List Nat
deriving DecidableEq, Repr

/-- A pin the attention unit asked for and the response it got (R206, R207): entry index, list page index, page, frame, tier,
whether the page is new, whether the response has come. -/
structure AttnPin where
  ent : Nat
  idx : Nat
  page : Nat
  frame : Nat
  tier : Nat
  fresh : Bool
  ready : Bool
deriving DecidableEq, Repr

/-- The attention command executing (R204). -/
structure AttnCmd where
  d : Desc
  kv4 : Bool
  bf16 : Bool
  dim : Nat
  layer : Nat
  head : Nat
  qpg : Nat
  heads : Nat
  maxPages : Nat
  scale : Nat
  q : Nat
  out : Nat
  knew : Nat
  ents : List AttnEnt
  pins : List AttnPin
  kv : FMap (List Nat)
deriving DecidableEq, Repr

/-- One error ledger entry (R154). -/
structure LedgerEnt where
  bins : FMap Nat
  n : Nat
  sumD : Int
  sumD2 : Nat
  sumE2 : Nat
  satSkip : Nat
  poisonSkip : Nat
  mismatch : Nat
  maxAbsD : Nat
deriving DecidableEq, Repr

/-- A step sum or a step summary record's counts (R156). -/
structure StepSum where
  passes : Nat
  samples : Nat
  lanes : Nat
  sumD2 : Nat
  sumE2 : Nat
  mismatch : Nat
  transient : Nat
  permanent : Nat
  unresolved : Nat
  satLanes : Nat
  poisonSkip : Nat
  maxAbsD : Nat
  suspect : Bool
  dref : Bool
deriving DecidableEq, Repr

/-- A core beside its CORE, CHK and ATTN pages: prefetched descriptors as (address, four words, poisoned), where the next line
is fetched, the attention and DMA queues and mailboxes, the transfers and kicks that have issued (the first kick is the one running, `read` of them have been taken
from MBOX), the address of the descriptor last issued by the DMA and attention queues, claims by queue head
(0 to 3 engines, 4 attention, 5 DMA, 6 and 7 mailboxes, 8 SEM_WAIT), pending start records, the record running, what of the error
ledger has been folded by band as (N, MISMATCH), the step sum being formed and the sums of past steps not yet sent (R156),
suspect action steps taken over the life (R152). -/
structure CoreS where
  fetch : Nat
  buf : List (Nat × List Nat × Bool)
  attnQ : List Desc
  dmaQ : List Desc
  mbox0 : List Desc
  mbox1 : List Desc
  dmaRun : List Desc
  kick0 : List Desc
  kick1 : List Desc
  read0 : Nat
  read1 : Nat
  prevDma : Option Nat
  prevAttn : Option Nat
  claims : FMap ClaimS
  pend : List StartRec
  waitHost : Bool
  cur : Option StartRec
  failing : Bool
  attn : Option AttnCmd
  ledger : FMap LedgerEnt
  folded : FMap (Nat × Nat)
  sum : StepSum
  sumOut : FMap StepSum
  sampleNo : Nat
  steps : Nat
  resetAt : Option Nat
  preserve : Bool
  retired : Bool
  resetWaits : Bool
  tests : Nat
  deferredAt : Option Nat
  lastTest : Nat
deriving DecidableEq, Repr

/-! ### The page engine (file 10) -/

/-- A page ledger entry (R198). -/
structure PageEnt where
  gen : Nat
  lastUse : Nat
  frame : Nat
  fill : Nat
  slot : Nat
  tenant : Nat
  ref : Nat
  pin : Nat
  ret : Nat
  tier : Nat
  state : Nat
deriving DecidableEq, Repr

/-- A ledger request a bank may hold (R201). -/
inductive LReq where
  | pinR (c page tenant slot : Nat)
  | pinW (c page tenant slot listAddr q qframe : Nat)
  | share (page tenant slot : Nat)
  | release (page slot : Nat)
  | trim (page n slot : Nat)
deriving DecidableEq, Repr

/-- A copy-on-write under way (R209): the page, the new page, the writer's core, slot and list entry address. -/
structure Cow where
  bank : Nat
  page : Nat
  q : Nat
  c : Nat
  slot : Nat
  listAddr : Nat
deriving DecidableEq, Repr

/-- A tier move under way (R211): the page and its new frame. -/
structure TierMove where
  page : Nat
  frame : Nat
deriving DecidableEq, Repr

/-- The page engine: the ledger, numbers retired (R203), numbers waiting with the steps in flight when they became FREE (R202),
requests held, copies and moves, each bank's sweep position, and the pages due to be filled because they were read (R211). -/
structure PagesS where
  ledger : FMap PageEnt
  retired : List Nat
  waiting : FMap (List Nat)
  held : List LReq
  cows : List Cow
  moves : List TierMove
  sweep : FMap Nat
  due : List Nat
deriving DecidableEq, Repr

/-! ### The serving controller (file 11) -/

/-- A sequence entry (R242) with the controller's working fields: pages of prefix shared, its reservation, admission order,
last step, pending token, the prompt's address. State 0 FREE, 1 PREFILL, 2 DECODE, 3 PARKING, 4 PARKED, 5 UNPARKING,
6 PAUSED, 7 ENDED. -/
structure Seq where
  state : Nat
  endCode : Nat
  fn : Nat
  tenant : Nat
  model : Nat
  k : Nat
  kMax : Nat
  zeroRun : Nat
  stoch : Bool
  sinceProbe : Nat
  attempts : Nat
  handle : Nat
  seed : Nat
  pos : Nat
  promptLeft : Nat
  prompt : Nat
  r : Nat
  deadline : Nat
  tbt : Nat
  temp : Nat
  topK : Nat
  topP : Nat
  stop : Nat
  listMain : Nat
  listDraft : Nat
  gen : Nat
  pages : Nat
  order : Nat
  token : Nat
  newgen : Bool
  endedIn : List Nat
deriving DecidableEq, Repr

/-- One sequence's part of a step: slot, positions scheduled, k_eff, draft tokens, main tokens sampled, whether it has failed. -/
structure StepSeq where
  slot : Nat
  n : Nat
  k : Nat
  prefill : Bool
  drafts : List Nat
  qdist : List (List (Nat × Nat))
  toks : List (Nat × Nat)
  accepted : Nat
  failed : Bool
  sampled : Bool
deriving DecidableEq, Repr

/-- A step in flight: number, model, its shape's fields, the physical cores with whether each has reported, its sequences, the
draft round, start records not yet sent, phase (0 waiting for room, 1 running, 2 sampling, 3 aborted), start time. -/
structure StepS where
  step : Nat
  model : Nat
  shape : Nat
  cores : List (Nat × Bool)
  gsemBase : Nat
  gsemN : Nat
  draftSem : Nat
  tokens : Nat
  logits : Nat
  dlogits : Nat
  seqs : List StepSeq
  rounds : Nat
  round : Nat
  unsent : List (Nat × StartRec)
  phase : Nat
  at0 : Nat
deriving DecidableEq, Repr

/-- A step summary being formed at hub 10 (R156): what has been added and the cores that have reported. -/
structure SumRec where
  step : Nat
  sum : StepSum
  cores : List Nat
deriving DecidableEq, Repr

/-- A SUBMIT held at a swap barrier (R241): its function and the descriptor's bytes. -/
structure HeldReq where
  fn : Nat
  bytes : List Byte
  poison : Bool
deriving DecidableEq, Repr

/-- What the controller keeps for a tenant beside its entry (R224, R225). -/
structure TenX where
  deficit : Nat
  rem : Nat
  lastSclk : Nat
deriving DecidableEq, Repr

/-- What the controller keeps for a model beside its entry: the tenant served last, whether a swap has drained, whether its
table was read poisoned (R225, R241, R215). -/
structure MdlX where
  lastTenant : Nat
  drained : Bool
  stopped : Bool
deriving DecidableEq, Repr

/-- What the device keeps for a function's rings beside the window: its own copy of the result ring (R238), records not yet
written for want of room, lap count. -/
structure FnX where
  copy : FMap (Nat × Nat)
  waiting : List (Nat × Nat)
  lap : Nat
deriving DecidableEq, Repr

/-- The serving controller: its tables' working fields, steps in flight, requests held at barriers, summaries being formed, the
next step and admission numbers, the function served last, the step that started last, whether assembly and requests have stopped, and the slots that a
refused ledger operation fails (R201, R214). -/
structure SrvS where
  seqs : FMap Seq
  tens : FMap TenX
  mdls : FMap MdlX
  fns : FMap FnX
  steps : List StepS
  held : List HeldReq
  sums : List SumRec
  nextStep : Nat
  nextOrder : Nat
  turn : Nat
  lastStart : Nat
  stopped : Bool
  failed : List Nat
deriving DecidableEq, Repr

/-! ### Ingest (file 12) -/

/-- An accepted ingest job (R247, R248): its ring index and entry; phase (0 accepted, 1 running, 2 reload streams, 3 all done, 4
failed); the layer, the next chunk, the raw position in the layer, the raw bytes of the layer (for EXPORT the layer's stream), chunks
of the layer, the SCLK of its first, whether its last byte has been processed, POLICY as it stood
at its start; the failure; the position in the source or
destination stream; reload entries not ended as (core, stream, sent); whether LAST has been consumed; EXPORT's credit: SLOTS and
CH_CONSUMED as last reported, whether a request is unanswered and when it was made. -/
structure IngJob where
  idx : Nat
  op : Nat
  src : Nat
  channel : Nat
  model : Nat
  layers : Nat
  tag : Nat
  manifest : List Byte
  srcAddr : Nat
  srcLen : Nat
  reload : Nat
  reloadN : Nat
  phase : Nat
  layer : Nat
  seq : Nat
  pos : Nat
  raw : List Byte
  chunks : Nat
  start : Nat
  layerEnd : Bool
  policy : Nat
  failCode : Nat
  srcPos : Nat
  reloadLeft : List (Nat × Nat × Bool)
  lastSeen : Bool
  slots : Nat
  consumed : Nat
  asking : Bool
  askedAt : Nat
deriving DecidableEq, Repr

/-- The ingest engine: jobs accepted and not ended, in ring order; by staging slot (channel × 1,024 + slot) the bytes counted and
which bytes of PLEN have come (bits 0 to 3); stray window slots recorded; models' stored manifests and reload
tables as (logical core, stream); the peers that a channel's credit
is reported to, as (port, peer). -/
structure IngestS where
  jobs : List IngJob
  counts : FMap (Nat × Nat)
  stray : List Nat
  manifests : FMap (List Byte)
  reloads : FMap (List (Nat × Nat))
  exporters : FMap (Nat × Nat)
deriving DecidableEq, Repr

/-! ### Memory controllers (file 13) -/

/-- A stack's controller: tracker as granule → count, retirements queued, the one copying as (granule, spare), the remap table
spare → granule, granules that got MEM_RETIRE_FULL, by granule the time of the last
MEM_CE and the events since, accesses held while their granule is copied. -/
structure StackS where
  tracker : FMap Nat
  queue : List Nat
  copying : Option (Nat × Nat)
  remap : FMap Nat
  full : List Nat
  ceAt : FMap (Nat × Nat)
  heldAcc : List (Requester × Nat × Option (Nat × Bool))
deriving DecidableEq, Repr

/-- A store of bytes with the check bits of each 64-bit word, held as stored check bits XOR right ones: 0 clean, 0xFF stored
poison (R268, R270). -/
structure Store where
  bytes : List Host.Cell
  chk : FMap Nat
deriving DecidableEq, Repr

/-! ### Networks and links (file 14) -/

/-- A claim queued at die 16: who (core × 16 + queue head; 4096 + hub for remote copy engines; 8192 for the controller) and count. -/
structure Claim where
  who : Nat
  sem : Nat
  count : Nat
deriving DecidableEq, Repr

/-- The awn network: global semaphore values; add messages (semaphore, amount) and claims on their way to die 16; claims queued
there in arrival order; grants on their way back; claims whose core has halted and will withdraw them (R293,
R294). -/
structure AwnS where
  value : FMap Nat
  adds : List (Nat × Nat)
  sent : List Claim
  claims : List Claim
  grants : List Claim
  withdrawn : List Nat
deriving DecidableEq, Repr

/-- A peer-link port beside its PLK page: lanes found bad, and whether the first ENABLE has locked LOCAL_ID (R297, R299). -/
structure PortS where
  badLanes : List Nat
  locked : Bool
deriving DecidableEq, Repr

/-- A remote copy in flight (R301, R302). -/
structure RCopy where
  idx : Nat
  op : Nat
  peer : Nat
  len64 : Nat
  loc : Nat
  remote : Nat
  sigSem : Nat
  sigCnt : Nat
  reissued : Bool
deriving DecidableEq, Repr

/-! ### Dies (files 14, 16, 17, 18) -/

/-- A held access at a crossing (R332): register address, write value or read, already ended by the watchdog, when it came. -/
structure HeldAcc where
  page : Nat
  off : Nat
  w : Nat
  value : Option Nat
  ended : Bool
  at0 : Nat
deriving DecidableEq, Repr

/-- A fault record (R356), without SEQNO until the package collector numbers it. -/
structure FaultRec where
  time : Nat
  die : Nat
  block : Nat
  inst : Nat
  cls : Nat
  contained : Bool
  coalesced : Bool
  ext : Bool
  polled : Bool
  code : Nat
  slot : Nat
  tenant : Option Nat
  unit : Nat
  rep : Nat
  address : Nat
  seqno : Nat
deriving DecidableEq, Repr

/-- A die beside its pages: retraining ports, the die's collector buffer as (record, arrival), records waiting at their sources,
dropped C records to report, sources with a bad line, die-lost flag, sensor rounds out of window, THERM decisions, converter
scan list, supply rounds out of range, crossings' held accesses. -/
structure DieS where
  retraining : List Nat
  down : List Nat
  buffer : List (FaultRec × Nat)
  sources : List FaultRec
  dropped : Nat
  polledSrc : List Nat
  lost : Bool
  unreachSaid : List Nat
  outRounds : FMap Nat
  coolRounds : Nat
  baseBand : Nat
  thermStep : Nat
  scan : List Nat
  converting : Option (Nat × Bool × Nat)
  swPending : Bool
  swCount : Nat
  railRounds : FMap Nat
  railSaid : FMap Nat
  adcSaid : FMap Nat
  held : List HeldAcc
  extSaid : FMap Nat
  heat : FMap Nat
deriving DecidableEq, Repr

/-- A message the device sends: MSI-X vectors, ERR_FATAL, In-Band Interrupts, completions, credit messages, and the control
network's messages between the cores, hub 10 and the ingest engine (R183, R186, R187, R208, R241), whose arrivals are commands (log 23). -/
inductive OutMsg where
  | stepEnd (c step : Nat)
  | stepFail (c step : Nat)
  | startRefused (c step : Nat)
  | seqFail (c slot : Nat)
  | startRec (c : Nat) (r : StartRec)
  | stepAbort (c step : Nat)
  | swapDone (m : Nat) (ok : Bool)
  | msix (fn vector addr data : Nat)
  | errFatal
  | ibi
  | completion (poisoned : Bool) (value : Nat)
  | unsupported
  | abort
  | crs
  | configOk
  | readValue (value : Nat)
  | mctp (typ : Nat) (ok : Bool)
  | spdm (op : Nat) (ok : Bool)
  | credit (port ch slots consumed : Nat)
  | creditBlock (addr : Nat) (consumed : List Nat)
  | creditReq (peer ch : Nat)
  | remoteWrite (peer addr : Nat) (data : List Byte) (bad : List Nat)
  | remoteRead (peer addr len : Nat)
  | refusal (port : Nat)
  | peerData (port : Nat) (data : List Byte) (bad : List Nat)
deriving DecidableEq, Repr

/-- A migration (R363 to R368): logical core, source, target, REBUILD or not, phase (0 waits its turn, 1 waits IDLE, 2 copying,
3 bank writes, 4 reload), the trigger kind (0 request, 1 in-field test, 2 fault), when it became IDLE, reload
streams left as (model, stream, sent). -/
structure Mig where
  logical : Nat
  source : Nat
  target : Nat
  rebuild : Bool
  phase : Nat
  trigger : Nat
  t0 : Nat
  left : List (Nat × Nat × Bool)
deriving DecidableEq, Repr

/-- The fault path's package side: records on their way, the log ring by index, next SEQNO, drop count to report, when the last F
record came and its code, migrations, cores under in-field test, the pool, retirements since the last fold as (powered seconds,
kind, die, unit, code) (R372). -/
structure FaultS where
  wire : List FaultRec
  log : FMap FaultRec
  seqno : Nat
  dropped : Nat
  lastF : Nat
  fCode : Nat
  migs : List Mig
  testing : List Nat
  pool : List Nat
  retiredLog : List (Nat × Nat × Nat × Nat × Nat)
deriving DecidableEq, Repr

/-- Event NVM (R372): the fold's generation, whether the last fold was torn, LATCHED, powered seconds at the last fold; the fault and
thermal areas by ring index with the number of records ever written; recoveries' powered seconds and their number over life; by
tile number folded writes, stress hours, gain peak, spare pairs in use, TRANSIENT outcomes, state and reason; minutes by die × 16
+ bin; ledger summaries by core × 6 + band as (N, ppm, MISMATCH); core states; the retirement ring. -/
structure NvmS where
  foldGen : Nat
  torn : Bool
  latched : Bool
  poweredS : Nat
  faults : FMap FaultRec
  faultN : Nat
  thermal : FMap (List Byte)
  thermalN : Nat
  recoveries : List Nat
  recoveryN : Nat
  tileWrites : FMap Nat
  stress : FMap (Nat × Nat)
  gainPeak : FMap Nat
  spares : FMap Nat
  transients : FMap Nat
  tileState : FMap (Nat × Nat)
  minutes : FMap Nat
  ledger : FMap (Nat × Nat × Nat)
  coreState : FMap Nat
  retired : FMap (Nat × Nat × Nat × Nat × Nat)
  retiredN : Nat
deriving DecidableEq, Repr

/-- The enclave, the flash die and identity (files 06, 19): slots' images, stored minimum SVN, keys, nonce counter, changes,
flash copies of the protected items as (change count, values, valid), calibration images by tile, the HBM remap copies, the
record being applied, measurement digests, debug opened since reset. -/
structure SecS where
  slotA : Option FwImage
  slotB : Option FwImage
  minSvn : Nat
  ownerKey : List Byte
  auditorKey : List Byte
  enrolled : Bool
  nonce : Nat
  nonceNo : Nat
  changeCnt : Nat
  copy0 : Nat × FMap Nat × Bool
  copy1 : Nat × FMap Nat × Bool
  applying : Option (List Byte)
  meas : FMap Nat
  calImages : FMap (List Byte)
  remaps : FMap (FMap Nat)
  idOk : Bool
deriving DecidableEq, Repr

/-- The package's power, pins, start-up and thermal history (files 17, 20, 22). -/
structure PowerS where
  pwrgood : Bool
  perstHost : Bool
  perstIngest : Bool
  thermtrip : Bool
  started : Bool
  running : List Nat
  ended : List Nat
  release : Nat
  warm : Bool
  hostUp : Bool
  ingestUp : Bool
  powerHist : List Nat
  powerStep : Nat
  hottest : List Int
  orderly : Nat
  tripRec : List Byte
  aborted : Nat
  halted : Bool
  roundNo : Nat
  jtag : Nat
  ideBad : List Nat
  ptm : Option (Nat × Nat)
  ptmShadow : Option Nat
  cxlDown : List Nat
  t2Caps : List Nat
  refclkLost : Bool
  lastFoldRound : Nat
deriving DecidableEq, Repr

/-- The functions' MSI-X tables and pending bits (R310, R315), laid out as the PCIe specification has them (log 38): dword `d` of
vector `v`'s entry of function `f` at key 128 f + 4 v + d, the low and high half of the address, the data, and the mask in bit 0,
which reads 1 where the table lists nothing; a function's pending bits by vector. -/
structure MsixS where
  table : FMap Nat
  pba : FMap Nat
deriving DecidableEq, Repr

/-- The package. -/
structure State where
  now : Nat
  sclk0 : Nat
  fresh : Nat
  regs : FMap Nat
  tiles : FMap TileS
  engines : FMap EngineS
  cores : FMap CoreS
  dies : FMap DieS
  hbms : FMap StackS
  ports : FMap PortS
  rcopies : FMap (List RCopy)
  dev : Store
  host : Store
  cstore : Store
  tsram : Store
  pages : PagesS
  srv : SrvS
  ingest : IngestS
  awn : AwnS
  flt : FaultS
  nvm : NvmS
  sec : SecS
  power : PowerS
  msix : MsixS
  out : List OutMsg
  pending : List Instr
deriving DecidableEq, Repr

/-! ### Reset records -/

def BankS.init : BankS :=
  { cells := [], refreshed := [], sweep := 0, due := none, lateRows := 0, wroteAt := 0, wroteIval := 0, matched := false,
    wr := none }

def Trims.init : Trims := ⟨[], [], []⟩

def Track.init : Track := ⟨0, 0, 0, 0⟩

def TileS.init : TileS :=
  { bankA := .init, bankB := .init, vecs := [], active := .init, shadow := .init, trackA := .init, trackB := .init,
    lfsr := 0, nSample := 0, sampleQ := [], epoch := 0, applyReq := false, ttNext := none, gapDebt := 0, resetAt := none,
    disablePending := false, lastWear := none, wearPhase := 0, calStage := 0,
    writes := 0, transients := 0, gainPeak := 0, reason := 0 }

def RotS.init : RotS :=
  { phase := .idle, tile := 0, front := [], slotAt := 0, attemptAt := 0, restarted := false, timedOut := false,
    doublings := 0, remapped := false, noApply := false, stage := 0 }

def EngineS.init : EngineS :=
  { queue := [], prev := none, ops := [], glume := [], accs := [], osets := [], force := [], rot := .init, fillFor := none,
    transients := [], permanents := [], noSpareSaid := false, standSince := none }

def AccLane.zero : AccLane := ⟨0, 0, false, false, false, false⟩

def AccTile.init : AccTile := { lanes := List.replicate 256 .zero, p := 8 }

def OSet.empty : OSet := ⟨[], [], [], false⟩

def LedgerEnt.init : LedgerEnt := ⟨[], 0, 0, 0, 0, 0, 0, 0, 0⟩

def StepSum.zero : StepSum := ⟨0, 0, 0, 0, 0, 0, 0, 0, 0, 0, 0, 0, false, false⟩

def CoreS.init : CoreS :=
  { fetch := 0, buf := [], attnQ := [], dmaQ := [], mbox0 := [], mbox1 := [], dmaRun := [], kick0 := [], kick1 := [],
    read0 := 0, read1 := 0, prevDma := none, prevAttn := none, claims := [], pend := [], waitHost := false, cur := none, failing := false,
    attn := none, ledger := [], folded := [], sum := .zero, sumOut := [], sampleNo := 0, steps := 0, resetAt := none, preserve := true, retired := false,
    resetWaits := false, tests := 0, deferredAt := none, lastTest := 0 }

def PageEnt.free : PageEnt := ⟨0, 0, 0, 0, 0, 0, 0, 0, 0, 0, 0⟩

def Seq.free : Seq :=
  { state := 0, endCode := 0, fn := 0, tenant := 0, model := 0, k := 0, kMax := 0, zeroRun := 0, stoch := false,
    sinceProbe := 0, attempts := 0, handle := 0, seed := 0, pos := 0, promptLeft := 0, prompt := 0, r := 0, deadline := 0,
    tbt := 0, temp := 0, topK := 0, topP := 0, stop := 0, listMain := 0, listDraft := 0, gen := 0, pages := 0, order := 0,
    token := 0, newgen := false, endedIn := [] }

def StackS.init : StackS := ⟨[], [], none, [], [], [], []⟩

def DieS.init : DieS :=
  { retraining := [], down := [], buffer := [], sources := [], dropped := 0, polledSrc := [], lost := false,
    unreachSaid := [], outRounds := [], coolRounds := 0, baseBand := 0, thermStep := 0, scan := [], converting := none,
    swPending := false, swCount := 0, railRounds := [], railSaid := [], adcSaid := [], held := [], extSaid := [], heat := [] }

def PortS.init : PortS := ⟨[], false⟩

def FnX.init : FnX := ⟨[], [], 0⟩

def TenX.init : TenX := ⟨0, 0, 0⟩

def MdlX.init : MdlX := ⟨255, false, false⟩

def FaultS.init : FaultS := ⟨[], [], 0, 0, 0, 0, [], [], [], []⟩

def NvmS.init : NvmS :=
  { foldGen := 0, torn := false, latched := false, poweredS := 0, faults := [], faultN := 0, thermal := [], thermalN := 0,
    recoveries := [], recoveryN := 0, tileWrites := [], stress := [], gainPeak := [], spares := [], transients := [],
    tileState := [], minutes := [], ledger := [], coreState := [], retired := [], retiredN := 0 }

/-- The package before PWRGOOD is first asserted: every register field at its Reset value (none listed in `regs`), every
memory empty, event NVM and the flash die as a part that has never started holds them (log 4). -/
def State.reset : State :=
  { now := 0, sclk0 := 0, fresh := 0, regs := [], tiles := [], engines := [], cores := [], dies := [], hbms := [],
    ports := [], rcopies := [], dev := ⟨[], []⟩, host := ⟨[], []⟩, cstore := ⟨[], []⟩, tsram := ⟨[], []⟩,
    pages := ⟨[], [], [], [], [], [], [], []⟩,
    srv := ⟨[], [], [], [], [], [], [], 1, 0, 63, 0, false, []⟩,
    ingest := ⟨[], [], [], [], [], []⟩,
    awn := ⟨[], [], [], [], [], []⟩,
    flt := .init, nvm := .init,
    sec := ⟨none, none, 0, [], [], false, 0, 0, 0, (0, [], false), (0, [], false), none, [], [], [], false⟩,
    power :=
    { pwrgood := false, perstHost := true, perstIngest := true, thermtrip := false, started := false,
      running := [], ended := [], release := 0, warm := false, hostUp := false, ingestUp := false, powerHist := [],
      powerStep := 0, hottest := [], orderly := 0, tripRec := [], aborted := 0, halted := false, roundNo := 0,
      jtag := 0, ideBad := [], ptm := none, ptmShadow := none, cxlDown := [], t2Caps := [], refclkLost := false,
      lastFoldRound := 0 },
    msix := ⟨[], []⟩, out := [], pending := [] }

/-! ### How a step can stop -/

/-- A step never ends in a fault of the machine: every fault of the manual is a record the device makes and goes on from, or
halts as R360 says, which is a next state. -/
inductive Fault where
  /-- Raised by no meaning: kept so that the type has a name for a stop (safe). -/
  | unused
deriving DecidableEq, Repr

/-- Why a command has no meaning. -/
inductive Refusal where
  /-- A row without a meaning yet, raised in the dispatch only (safe). -/
  | notModelled (mnemonic : String)
  /-- The command names a unit the package does not have, or a field outside its width; raised by every meaning through
  `onWf` (safe: no such command exists). -/
  | illFormed
deriving DecidableEq, Repr

end Sys2Proof.Machine
end

