-- ==== Sys2Proof/Machine/Ops.lean ====
section
/-! DEFINITION. The operations every meaning shares: register pages and fields, unit records, interrupts, fault records. -/

namespace Sys2Proof.Machine

/-! ### Dies and pages (R16, R22, R402 to R404) -/

def isCompute (d : Nat) : Bool := computeDies.contains d
def hubDies : List Nat := [10, 13, 26, 29]
def isHub (d : Nat) : Bool := hubDies.contains d
def hubOrd (d : Nat) : Nat := if d = 10 then 0 else if d = 13 then 1 else if d = 26 then 2 else 3
def hubDie (h : Nat) : Nat := hubDies.getD h 10
/-- DIE.INFO.ROLE. -/
def dieRole (d : Nat) : Nat := if d = 16 then 2 else if d = 23 then 3 else if isHub d then 1 else 0
/-- A global core number that is assigned (R22). -/
def isCore (c : Nat) : Bool := isCompute (c / 4)
def allCores : List Nat := computeDies.flatMap (fun d => [4 * d, 4 * d + 1, 4 * d + 2, 4 * d + 3])

def diePg (d slot : Nat) : Nat := d * 1024 + slot
def coreBase (c : Nat) : Nat := diePg (c / 4) (0x100 + 0xC0 * (c % 4))
def corePg (c : Nat) : Nat := coreBase c
def chkPg (c : Nat) : Nat := coreBase c + 1
def attnPg (c : Nat) : Nat := coreBase c + 2
def engPg (c e : Nat) : Nat := coreBase c + 4 + e
def tilePg (c e t : Nat) : Nat := coreBase c + 0x40 + 32 * e + t
def clusPg (d k : Nat) : Nat := diePg d (8 + k)
def hbmcPg (st : Nat) : Nat := diePg (hubDie (st / 3)) (0x10 + st % 3)
def plkPg (p : Nat) : Nat := diePg (hubDie (p / 4)) (0x20 + p % 4)
def cxlPg (p : Nat) : Nat := diePg (hubDie p) 0x30
def kvpPg (b : Nat) : Nat := diePg (hubDie b) 0x31
/-- PCIE page: 0 the host port, 1 the ingest port. -/
def pciePg (i : Nat) : Nat := if i = 0 then diePg 10 0x40 else diePg 29 0x40
def ingPg : Nat := diePg 29 0x41
def syncPg : Nat := diePg 16 0x50
def lifePg : Nat := diePg 16 0x51
def diePage (d : Nat) : Nat := diePg d 0
def clkPg (d : Nat) : Nat := diePg d 1
def rstPg (d : Nat) : Nat := diePg d 2
def meshPg (d : Nat) : Nat := diePg d 3
def thermPg (d : Nat) : Nat := diePg d 4
def hkadcPg (d : Nat) : Nat := diePg d 5
def eccPg (d : Nat) : Nat := diePg d 6
def fltdPg (d : Nat) : Nat := diePg d 7
def srvPg : Nat := 40960
def fltPg : Nat := 40961
def secPg : Nat := 40962
def cfgPg : Nat := 40963
/-- Tenant entries, model entries and function windows are pages of their own here (R242, R243). -/
def tenPg (t : Nat) : Nat := 50000 + t
def mdlPg (m : Nat) : Nat := 51000 + m
def fnPg (f : Nat) : Nat := 52000 + f

/-- The block in a compute die's core slots (R403). -/
def coreSlot (x : Nat) : Block × Nat :=
  let c := x / 0xC0
  let y := x % 0xC0
  if y = 0 then (.core, c) else if y = 1 then (.chk, c) else if y = 2 then (.attn, c)
  else if 4 ≤ y ∧ y < 8 then (.eng, y - 4)
  else if 0x40 ≤ y ∧ (y - 0x40) % 32 < 17 then (.tile, y - 0x40) else (.none, 0)

/-- The block and instance of a page; `.none` for a slot that holds no page (R405). -/
def pageOf (p : Nat) : Block × Nat :=
  if p = srvPg then (.srv, 0) else if p = fltPg then (.flt, 1) else if p = secPg then (.sec, 0)
  else if p = cfgPg then (.cfg2p, 0)
  else if 52000 ≤ p ∧ p < 52064 then (.fnw, p - 52000)
  else if 51000 ≤ p ∧ p < 51064 then (.mdl, p - 51000)
  else if 50000 ≤ p ∧ p < 50256 then (.ten, p - 50000)
  else if srvPg ≤ p then (.none, 0)
  else
    let d := p / 1024
    let x := p % 1024
    let h := hubOrd d
    if x = 0 then (.die, 0) else if x = 1 then (.clk, 0) else if x = 2 then (.rst, 0) else if x = 3 then (.mesh, 0)
    else if x = 4 then (.therm, 0) else if x = 5 then (.hkadc, 0) else if x = 6 then (.ecc, 0) else if x = 7 then (.fltd, 0)
    else if isCompute d then
      if x = 8 ∨ x = 9 then (.clus, x - 8) else if 0x100 ≤ x then coreSlot (x - 0x100) else (.none, 0)
    else if isHub d then
      if 0x10 ≤ x ∧ x < 0x13 then (.hbmc, 3 * h + (x - 0x10))
      else if 0x20 ≤ x ∧ x < 0x24 then (.plk, 4 * h + (x - 0x20))
      else if x = 0x30 then (.cxl, h) else if x = 0x31 then (.kvp, h)
      else if x = 0x40 ∧ d = 10 then (.pcie, 0) else if x = 0x40 ∧ d = 29 then (.pcie, 1)
      else if x = 0x41 ∧ d = 29 then (.ingest, 0) else (.none, 0)
    else if d = 16 ∧ x = 0x50 then (.sync, 0) else if d = 16 ∧ x = 0x51 then (.life, 0) else (.none, 0)

def blockOf (p : Nat) : Block := (pageOf p).1

/-- The die of a page: the serving controller is on hub 10, the other globals on die 16. -/
def pageDie (p : Nat) : Nat :=
  if p < srvPg then p / 1024 else if p = fltPg ∨ p = secPg ∨ p = cfgPg then 16 else 10

/-- The core within its die of a core's page (R356 byte 17). -/
def pageUnit (p : Nat) : Nat :=
  if p < srvPg ∧ isCompute (p / 1024) ∧ 0x100 ≤ p % 1024 then (p % 1024 - 0x100) / 0xC0 else 0

/-! ### Register fields -/

/-- The port of die `s` toward die `d`, x first (R284, R287). -/
def portX (s d : Nat) : Nat := if s % 8 < d % 8 then 0 else 2
def portY (s d : Nat) : Nat := if s / 8 < d / 8 then 1 else 3
def xyPrimary (s d : Nat) : Nat := if s = d then 0 else if s % 8 ≠ d % 8 then portX s d else portY s d
def xyAlt (s d : Nat) : Nat := if s = d then 0 else if s / 8 ≠ d / 8 then portY s d else portX s d

/-- Reset values that the position fixes (R47, R287, R337, R406, R414), and every other field's Reset value. "fr" fields read
0 until start-up stage 3 writes them (R12). -/
def posReset (p : Nat) (f : Fld) : Nat :=
  if f = HDR.ID then (blockOf p).code * 2 ^ 24 + (pageOf p).2 * 2 ^ 16 + 256
  else match blockOf p with
  | .tile => if f = TILE.CTRL_ENABLE ∧ (pageOf p).2 % 32 = 16 then 0 else f.reset
  | .die =>
    let d := p / 1024
    if f = DIE.INFO_INDEX then d else if f = DIE.INFO_X then d % 8 else if f = DIE.INFO_Y then d / 8
    else if f = DIE.INFO_ROLE then dieRole d
    else if f = DIE.CAP_BOOT_REGS ∨ f = DIE.CAP_IRQ_GATHER then toBit (d = 16) else f.reset
  | .mesh =>
    let s := p / 1024
    if 0x100 ≤ f.off ∧ f.off < 0x1A0 then
      let d := (f.off - 0x100) / 4
      if f.lsb = 6 then toBit (xyAlt s d ≠ xyPrimary s d) else if f.lsb = 4 then xyAlt s d
      else if f.lsb = 3 then toBit (s = d) else if f.lsb = 0 then xyPrimary s d else f.reset
    else if f = MESH.STAT_PRESENT ∨ f = MESH.STAT_UP then
      toBit (s % 8 < 7) + 2 * toBit (s / 8 < 4) + 4 * toBit (0 < s % 8) + 8 * toBit (0 < s / 8)
    else f.reset
  | .clk => if f = CLK.GATED ∧ isHub (p / 1024) then
      0xF8 + 0b111 + 256 * toBit (p / 1024 = 10 ∨ p / 1024 = 29) else f.reset
  | _ => f.reset

/-- A field's key in `State.regs`: its bit address. -/
def fkey (p : Nat) (f : Fld) : Nat := (p * 4096 + f.off) * 8 + f.lsb

def State.rd (s : State) (p : Nat) (f : Fld) : Nat := mget s.regs (posReset p f) (fkey p f)

def State.rdB (s : State) (p : Nat) (f : Fld) : Bool := s.rd p f != 0

/-- The field's bits in place: for an address field, the address. -/
def State.rdA (s : State) (p : Nat) (f : Fld) : Nat := s.rd p f * 2 ^ f.lsb

def State.wr (s : State) (p : Nat) (f : Fld) (v : Nat) : State :=
  { s with regs := mput s.regs (fkey p f) (v % 2 ^ f.width) }

def State.wrB (s : State) (p : Nat) (f : Fld) (b : Bool) : State := s.wr p f (toBit b)

/-- Write an address into a field that holds its upper bits. -/
def State.wrA (s : State) (p : Nat) (f : Fld) (a : Nat) : State := s.wr p f (a / 2 ^ f.lsb)

/-- A counter of R48: it wraps. -/
def State.inc (s : State) (p : Nat) (f : Fld) (n : Nat := 1) : State := s.wr p f (s.rd p f + n)

/-- A refused access counts in the page's ERR_CNT, which saturates (R411). -/
def State.refuse (s : State) (p : Nat) : State := s.wr p HDR.ERR_CNT (satAdd 32 (s.rd p HDR.ERR_CNT) 1)

/-! ### Unit records -/

def State.tile (s : State) (c e t : Nat) : TileS := mget s.tiles .init (c * 128 + e * 32 + t)
def State.setTile (s : State) (c e t : Nat) (x : TileS) : State := { s with tiles := mput s.tiles (c * 128 + e * 32 + t) x }
def State.modTile (s : State) (c e t : Nat) (f : TileS → TileS) : State := s.setTile c e t (f (s.tile c e t))
def State.eng (s : State) (c e : Nat) : EngineS := mget s.engines .init (c * 4 + e)
def State.setEng (s : State) (c e : Nat) (x : EngineS) : State := { s with engines := mput s.engines (c * 4 + e) x }
def State.modEng (s : State) (c e : Nat) (f : EngineS → EngineS) : State := s.setEng c e (f (s.eng c e))
def State.core (s : State) (c : Nat) : CoreS := mget s.cores .init c
def State.setCore (s : State) (c : Nat) (x : CoreS) : State := { s with cores := mput s.cores c x }
def State.modCore (s : State) (c : Nat) (f : CoreS → CoreS) : State := s.setCore c (f (s.core c))
def State.die (s : State) (d : Nat) : DieS := mget s.dies .init d
def State.setDie (s : State) (d : Nat) (x : DieS) : State := { s with dies := mput s.dies d x }
def State.modDie (s : State) (d : Nat) (f : DieS → DieS) : State := s.setDie d (f (s.die d))
def State.stack (s : State) (k : Nat) : StackS := mget s.hbms .init k
def State.setStack (s : State) (k : Nat) (x : StackS) : State := { s with hbms := mput s.hbms k x }
def State.modStack (s : State) (k : Nat) (f : StackS → StackS) : State := s.setStack k (f (s.stack k))
def State.port (s : State) (k : Nat) : PortS := mget s.ports .init k
def State.setPort (s : State) (k : Nat) (x : PortS) : State := { s with ports := mput s.ports k x }
def State.modPort (s : State) (k : Nat) (f : PortS → PortS) : State := s.setPort k (f (s.port k))

def TileS.bank (x : TileS) (b : Nat) : BankS := if b = 0 then x.bankA else x.bankB
def TileS.setBank (x : TileS) (b : Nat) (y : BankS) : TileS := if b = 0 then { x with bankA := y } else { x with bankB := y }
def TileS.modBank (x : TileS) (b : Nat) (f : BankS → BankS) : TileS := x.setBank b (f (x.bank b))
def TileS.track (x : TileS) (b : Nat) : Track := if b = 0 then x.trackA else x.trackB
def TileS.setTrack (x : TileS) (b : Nat) (y : Track) : TileS := if b = 0 then { x with trackA := y } else { x with trackB := y }

/-- Bank b of tile t is entry 2t + b of BANK_STATE and of OUTL_SET (R60, R123). -/
def bkey (t b : Nat) : Nat := 2 * t + b

def State.send (s : State) (m : OutMsg) : State := { s with out := s.out ++ [m] }

/-- Dword `d` of entry `v` of function `f`'s MSI-X table: a mask bit is 1 until it is written, all else 0 (log 38). -/
def State.msixDw (s : State) (f v d : Nat) : Nat := mget s.msix.table (if d = 3 then 1 else 0) (128 * f + 4 * v + d)

/-- Vector `v` of function `f`: its message is sent, or is pending while the vector is masked (R315). -/
def State.sendMsix (s : State) (f v : Nat) : State :=
  if s.msixDw f v 3 % 2 = 1 then
    { s with msix := { s.msix with pba := mput s.msix.pba f (putBit (mget s.msix.pba 0 f) v true) } }
  else s.send (.msix f v (s.msixDw f v 0 + 2 ^ 32 * s.msixDw f v 1) (s.msixDw f v 2))

/-- A free value of the given width (log 5). -/
def State.freeBits (s : State) (w : Nat) : Nat := Config.freeValue s.fresh % 2 ^ w

def State.takeFree (s : State) : State := { s with fresh := s.fresh + 1 }

/-! ### Time (R326, R328): `now` counts RCLK ticks of 156.25 ps -/

def ticksUs : Nat := 6400
def ticksMs : Nat := 6400000
def ticksS : Nat := 6400000000
def acks (n : Nat) : Nat := 8 * n

/-- The SCLK counters, all alike (R328). -/
def State.sclk (s : State) : Nat := (s.now - s.sclk0) / 256

/-- SCLK counts of a µs and a ms. -/
def sclkUs (n : Nat) : Nat := 25 * n

/-! ### Interrupts (R406, R413, R415) -/

/-- IRQ_STAT as it reads: bits 0 and 1 of an ENG page are read from ACC_EVT and OUTL_EVT. -/
def State.irqStat (s : State) (p : Nat) : Nat :=
  let v := s.rd p HDR.IRQ_STAT
  match blockOf p with
  | .eng =>
    let acc := s.rdB p ENG.ACC_EVT_BUSY_REFUSED || s.rdB p ENG.ACC_EVT_POISON || s.rdB p ENG.ACC_EVT_SAT_W || s.rdB p ENG.ACC_EVT_SAT_N
    let outl := s.rdB p ENG.OUTL_EVT_MALFORMED || s.rdB p ENG.OUTL_EVT_POISON || s.rdB p ENG.OUTL_EVT_REISSUE || s.rdB p ENG.OUTL_EVT_OUTLIER_OVF
    putBit (putBit v 0 acc) 1 outl
  | _ => v

/-- Whether a page requests an interrupt. -/
def State.irqReq (s : State) (p : Nat) : Bool := (s.irqStat p &&& s.rd p HDR.IRQ_EN) != 0

/-- Whether any bit of die `d`'s IRQ_PAGES is 1. -/
def State.diePages (s : State) (d : Nat) : Bool := (List.range 32).any (fun i => s.rdB (diePage d) (DIE.IRQ_PAGES i))

/-- The vector of PF0 that a page's own request goes to (R315); none for gathered pages. -/
def ownVector (p : Nat) : Option Nat :=
  match blockOf p with
  | .ingest => some 3
  | .srv => some 4
  | .therm => some 5
  | .flt => some 0
  | _ => none

/-- Gather the request of page `p` after a change; `was` is whether it requested before (R413). The vector of a page with its
own vector, and vector 6, are sent when the request rises; the FLT page's vector 0 is sent per record (R357). -/
def State.gather (s : State) (p : Nat) (was : Bool) : State :=
  let req := s.irqReq p
  match blockOf p with
  | .sec => s
  | .cfg2p => s
  | .flt => s
  | .ingest => if req && !was then s.sendMsix 0 3 else s
  | .srv => if req && !was then s.sendMsix 0 4 else s
  | .therm => if req && !was then s.sendMsix 0 5 else s
  | _ =>
    let d := p / 1024
    let x := p % 1024
    let w := DIE.IRQ_PAGES (x / 32)
    let had := s.rd (diePage 16) DIE.IRQ_DIES
    let s := s.wr (diePage d) w (putBit (s.rd (diePage d) w) (x % 32) req)
    let now := putBit had d (s.diePages d)
    let s := s.wr (diePage 16) DIE.IRQ_DIES now
    if now.testBit d && !had.testBit d then s.sendMsix 0 6 else s

/-- An event sets bit `i` of a page's IRQ_STAT. -/
def State.irq (s : State) (p i : Nat) : State :=
  let was := s.irqReq p
  (s.wr p HDR.IRQ_STAT (putBit (s.rd p HDR.IRQ_STAT) i true)).gather p was

/-- An event sets a bit of ENG.ACC_EVT or ENG.OUTL_EVT. -/
def State.engEvt (s : State) (p : Nat) (f : Fld) : State :=
  let was := s.irqReq p
  (s.wr p f 1).gather p was

/-! ### Fault records (R354 to R359) -/

/-- Codes of class U on every die. -/
def faultsU : List Nat :=
  [0x1033, 0x1034, 0x1036, 0x1037, 0x1041, 0x1042, 0x1043, 0x1044, 0x1051, 0x2011, 0x2012, 0x2013, 0x3021, 0x3022,
   0x3033, 0x3035, 0x3036, 0x3037, 0x3038, 0x3039, 0x303B, 0x303D, 0x303E, 0x5012, 0x5023, 0x6011, 0x6031]
  ++ [0x7011, 0x7012, 0x7013, 0x7015, 0x7016, 0x7018, 0x7021, 0x7031, 0x7032, 0x7033, 0x8013, 0x8021, 0x8023, 0x9033, 0x9041,
   0xA011, 0xA014, 0xA021, 0xE011, 0xE033]

/-- Codes of class F. -/
def faultsF : List Nat := [0x6051, 0xB012, 0xC013, 0xC052, 0xD012, 0xD013]

/-- The class of a code raised about die `d`: 0 C, 1 U, 2 F. SRAM_TEST_FAIL, MESH_UNREACHABLE and PLL_UNLOCK are U on a compute
die and F elsewhere, SENSOR_LOSS C on a compute die and F elsewhere (R278, R289, R327, R340). -/
def faultClass (code d : Nat) : Nat :=
  if code = 0x6041 ∨ code = 0x9013 ∨ code = 0xB011 then (if isCompute d then 1 else 2)
  else if code = 0xC022 then (if isCompute d then 0 else 2)
  else if faultsF.contains code then 2 else if faultsU.contains code then 1 else 0

/-- The codes raised with EXT (R359). -/
def faultsExt : List Nat :=
  [0x1033, 0x1034, 0x1037, 0x1041, 0x1042, 0x1043, 0x1051, 0x2011, 0x2012, 0x2013, 0x3021, 0x3022, 0x3033, 0x3035, 0x3036,
   0x3037, 0x3038, 0x3039, 0x303B, 0x303C, 0x303D, 0x303E, 0x6011, 0x6012, 0x7012, 0x7013, 0x7015, 0x7018, 0x7021, 0x7031]
  ++ [0x7033, 0x8011, 0x8013, 0x8023, 0x9041, 0xA011, 0xA013, 0xA014, 0xA021, 0xA031, 0xA041]

/-- The record that page `p` raises (R356). `about` is the die whose role decides the class where the code has two. -/
def faultRec (s : State) (p code addr slot : Nat) (tenant : Option Nat) (rep about : Nat) : FaultRec :=
  { time := s.sclk, die := pageDie p, block := (blockOf p).code, inst := (pageOf p).2, cls := faultClass code about,
    contained := false, coalesced := false, ext := faultsExt.contains code,
    polled := (s.die (pageDie p)).polledSrc.contains p, code := code, slot := slot, tenant := tenant, unit := pageUnit p,
    rep := min rep 0xFFFF, address := addr, seqno := 0 }

/-- A source raises a fault: the record waits at the source for its die's collector (R355, R357). -/
def State.emitR (s : State) (r : FaultRec) : State :=
  s.modDie r.die (fun x => { x with sources := x.sources ++ [r] })

def State.emit (s : State) (p code addr : Nat) : State := s.emitR (faultRec s p code addr 0xFFFF none 1 (pageDie p))

/-- A fault of a sequence: slot and tenant are known. -/
def State.emitSeq (s : State) (p code addr slot tenant : Nat) : State :=
  s.emitR (faultRec s p code addr slot (some tenant) 1 (pageDie p))

/-- A fault with a repeat count of its own. -/
def State.emitRep (s : State) (p code addr rep : Nat) : State :=
  s.emitR (faultRec s p code addr 0xFFFF none rep (pageDie p))

/-- A fault at most once per `period` ticks, remembered on die `d` under `key`; whether it was recorded. -/
def State.emitLimited (s : State) (d key period : Nat) (p code addr : Nat) : State :=
  match mfind (s.die d).extSaid key with
  | some t => if s.now < t + period then s else (s.emit p code addr).modDie d (fun x => { x with extSaid := mput x.extSaid key s.now })
  | none => (s.emit p code addr).modDie d (fun x => { x with extSaid := mput x.extSaid key s.now })

/-! ### Powered time and the retirement log (R372, R373) -/

/-- Powered seconds over life: those folded, and the housekeeping rounds of 2 ms since. -/
def State.poweredS (s : State) : Nat := s.nvm.poweredS + (s.power.roundNo - s.power.lastFoldRound) / 500

/-- A retirement enters the log that the next fold writes: kind 1 tile, 2 core, 3 peer lane, 4 mesh connection, 5 HBM granule. -/
def State.logRetired (s : State) (kind die unit code : Nat) : State :=
  { s with flt := { s.flt with retiredLog := s.flt.retiredLog ++ [(s.poweredS, kind, die, unit, code)] } }

/-- The number k of a core in event NVM (R372). -/
def nvmCore (c : Nat) : Nat := (computeDies.takeWhile (fun d => d != c / 4)).length * 4 + c % 4

/-- The number i of a tile in event NVM. -/
def nvmTile (c e t : Nat) : Nat := nvmCore c * 68 + e * 17 + t

end Sys2Proof.Machine
end

