-- ==== Sys2Proof/Machine/Mem.lean ====
section
/-! DEFINITION. Memories: byte stores in canonical form, the (72,64) check code, the device address map, tier-1 error accounting
and retirement, core store, tiller SRAM, host memory. -/

namespace Sys2Proof.Machine

/-! ### Cells in canonical form: addresses strictly rising, no entry 0 (an unlisted byte reads 0, log 9) -/

def cellGet : List Host.Cell → Nat → Byte
  | [], _ => 0
  | (k, v) :: m, a => if a = k then v else cellGet m a

def cellPut : List Host.Cell → Nat → Byte → List Host.Cell
  | [], a, b => if b = 0 then [] else [(a, b)]
  | (k, v) :: m, a, b =>
    if a < k then (if b = 0 then (k, v) :: m else (a, b) :: (k, v) :: m)
    else if a = k then (if b = 0 then m else (a, b) :: m) else (k, v) :: cellPut m a b

/-- The canonical form, from key `lo` on. -/
def cellsWfFrom : Nat → List Host.Cell → Bool
  | _, [] => true
  | lo, (k, v) :: m => decide (lo ≤ k) && !(v == 0) && cellsWfFrom (k + 1) m

def cellsWf (m : List Host.Cell) : Bool := cellsWfFrom 0 m

/-- The check-bit differences in the same form: word index to non-zero difference. -/
def chkPut : FMap Nat → Nat → Nat → FMap Nat
  | [], a, b => if b = 0 then [] else [(a, b)]
  | (k, v) :: m, a, b =>
    if a < k then (if b = 0 then (k, v) :: m else (a, b) :: (k, v) :: m)
    else if a = k then (if b = 0 then m else (a, b) :: m) else (k, v) :: chkPut m a b

def chkWfFrom : Nat → FMap Nat → Bool
  | _, [] => true
  | lo, (k, v) :: m => decide (lo ≤ k) && !(v == 0) && chkWfFrom (k + 1) m

def chkWf (m : FMap Nat) : Bool := chkWfFrom 0 m

/-- A store's canonical form. -/
def Store.wf (st : Store) : Bool := cellsWf st.bytes && chkWf st.chk

/-- Every memory of the package is in canonical form. -/
def Memory.wf (s : State) : Bool := s.dev.wf && s.host.wf && s.cstore.wf && s.tsram.wf

/-! ### The check code (R268, R269) -/

/-- The columns of data bits 0 to 63: the 56 values of weight 3, then the first 8 of weight 5, ascending. -/
def dataColumns : List Nat :=
  [0x07, 0x0B, 0x0D, 0x0E, 0x13, 0x15, 0x16, 0x19, 0x1A, 0x1C, 0x23, 0x25, 0x26, 0x29, 0x2A, 0x2C]
  ++ [0x31, 0x32, 0x34, 0x38, 0x43, 0x45, 0x46, 0x49, 0x4A, 0x4C, 0x51, 0x52, 0x54, 0x58, 0x61, 0x62]
  ++ [0x64, 0x68, 0x70, 0x83, 0x85, 0x86, 0x89, 0x8A, 0x8C, 0x91, 0x92, 0x94, 0x98, 0xA1, 0xA2, 0xA4]
  ++ [0xA8, 0xB0, 0xC1, 0xC2, 0xC4, 0xC8, 0xD0, 0xE0, 0x1F, 0x2F, 0x37, 0x3B, 0x3D, 0x3E, 0x4F, 0x57]

/-- The check bits of 64 data bits. -/
def checkBits (data : Nat) : Nat :=
  (List.range 64).foldl (fun a d => if data.testBit d then a ^^^ dataColumns.getD d 0 else a) 0

def weight8 (v : Nat) : Nat := ((List.range 8).filter (fun i => v.testBit i)).length

/-- The outcome of a syndrome: 0 clean, 1 corrected data, 2 corrected check, 3 uncorrectable, 4 stored poison; and the data
delivered (R269, R280). -/
def decode72 (data syn : Nat) : Nat × Nat :=
  if syn = 0 then (0, data)
  else match dataColumns.findIdx? (fun x => x == syn) with
    | some d => (1, data ^^^ (1 <<< d))
    | none => if weight8 syn = 1 then (2, data) else if syn = 0xFF then (4, data) else (3, data)

/-! ### Stores -/

def Store.chkAt (st : Store) (w : Nat) : Nat := mget st.chk 0 w

/-- The raw word `w`. -/
def Store.raw (st : Store) (w : Nat) : Nat := ofLe ((List.range 8).map (fun i => cellGet st.bytes (8 * w + i)))

/-- Word `w` as a read delivers it: outcome and data. -/
def Store.word (st : Store) (w : Nat) : Nat × Nat := if st.chkAt w = 0 then (0, st.raw w) else decode72 (st.raw w) (st.chkAt w)

/-- Byte `a` as a read delivers it, corrected. -/
def Store.byte (st : Store) (a : Nat) : Byte :=
  if st.chkAt (a / 8) = 0 then cellGet st.bytes a else byteOf (field (st.word (a / 8)).2 (8 * (a % 8)) 8)

def Store.read (st : Store) (a n : Nat) : List Byte := (List.range n).map (fun i => st.byte (a + i))

def Store.readNat (st : Store) (a n : Nat) : Nat := ofLe (st.read a n)

/-- Whether word `w` is delivered with the poison mark. -/
def Store.wordBad (st : Store) (w : Nat) : Bool := 3 ≤ (st.word w).1

/-- Whether a read of `n` bytes at `a` meets a poison mark. -/
def Store.bad (st : Store) (a n : Nat) : Bool :=
  n != 0 && st.chk.any (fun e => decide (a / 8 ≤ e.1) && decide (e.1 ≤ (a + n - 1) / 8) && st.wordBad e.1)

def Store.setByte (st : Store) (a : Nat) (b : Byte) : Store := { st with bytes := cellPut st.bytes a b }

def Store.setChk (st : Store) (w d : Nat) : Store := { st with chk := chkPut st.chk w d }

/-- Write one byte; a word that held poison keeps its mark unless the whole word is rewritten (log 10). -/
def Store.putByte (st : Store) (a : Nat) (b : Byte) : Store :=
  let w := a / 8
  match (st.word w).1 with
  | 0 => st.setByte a b
  | 1 => ((List.range 8).foldl (fun x i => x.setByte (8 * w + i) (byteOf (field (st.word w).2 (8 * i) 8))) (st.setChk w 0)).setByte a b
  | 2 => (st.setChk w 0).setByte a b
  | _ => st.setByte a b

/-- Write whole word `w` with or without the poison mark (R270). -/
def Store.putWord (st : Store) (w v : Nat) (poison : Bool) : Store :=
  ((List.range 8).foldl (fun x i => x.setByte (8 * w + i) (byteOf (field v (8 * i) 8))) st).setChk w (if poison then 0xFF else 0)

/-- Write bytes from `a` on: whole words with the mark `poison`, the bytes of words written in part one by one. -/
def Store.write : Nat → Store → Nat → List Byte → Bool → Store
  | 0, st, _, _, _ => st
  | n + 1, st, a, l, poison =>
    match l with
    | [] => st
    | b :: r =>
      if a % 8 = 0 ∧ 8 ≤ l.length then
        Store.write n (st.putWord (a / 8) (leAt l 0 8) poison) (a + 8) (l.drop 8) poison
      else
        let st := st.putByte a b
        Store.write n (if poison then st.setChk (a / 8) 0xFF else st) (a + 1) r poison

def Store.put (st : Store) (a : Nat) (l : List Byte) (poison : Bool := false) : Store := Store.write l.length st a l poison

/-- Put a mark on every word of a range that a source word marked: word `i` of the copy is bad when `bad i`. -/
def Store.markWords (st : Store) (w : Nat) (bad : List Bool) : Store :=
  (bad.zipIdx).foldl (fun x e => if e.1 then x.setChk (w + e.2) 0xFF else x) st

/-- Copy `n64` blocks of 64 bytes between stores, marks included (R182, R274). -/
def Store.copyFrom (dst src : Store) (da sa n64 : Nat) : Store :=
  (dst.put da (src.read sa (64 * n64))).markWords (da / 8) ((List.range (8 * n64)).map (fun i => src.wordBad (sa / 8 + i)))

/-! ### The device address map (R24, R261, R264, R266) -/

def gib (n : Nat) : Nat := n * 2 ^ 30
def softEnd : Nat := 0x017800000000
def firmEnd : Nat := 0x017A00000000
def tier1End : Nat := 0x018000000000
def tier2Base : Nat := 0x020000000000
def tier2End : Nat := 0x060000000000
def regBase : Nat := 0xF00000000000
def regEnd : Nat := 0xF00010000000
def apBase : Nat := 0xF10000000000
def apEnd : Nat := 0xF10200000000

/-- The regions of R261 that a requester may or may not reach. -/
inductive Region where
  | soft | firm | reserve | tier2 | regs | aperture | unmapped
deriving DecidableEq, Repr

/-- The CXL port that a tier-2 address lies behind (R266). -/
def State.t2Port (s : State) (a : Nat) : Nat :=
  let x := a - tier2Base
  if s.rdB (eccPg 10) ECC.STAT_T2_INTLV then x / 4096 % 4 else x / 2 ^ 40

/-- A tier-2 address behind a port that has gone down in service (R320). -/
def State.lostAt (s : State) (a : Nat) : Bool :=
  !s.power.cxlDown.isEmpty && decide (tier2Base ≤ a) && decide (a < tier2End) && s.power.cxlDown.contains (s.t2Port a)

/-- A range touches a lost unit. -/
def State.lostIn (s : State) (a n : Nat) : Bool :=
  !s.power.cxlDown.isEmpty && n != 0
    && (List.range ((a + n - 1) / 4096 - a / 4096 + 1)).any (fun i => s.lostAt (4096 * (a / 4096 + i)))

/-- Whether a tier-2 address has memory fitted, by the mapping of R266, and its port in service (R320). -/
def State.fitted (s : State) (a : Nat) : Bool :=
  let x := a - tier2Base
  !s.lostAt a &&
    (if s.rdB (eccPg 10) ECC.STAT_T2_INTLV then decide (x < 4 * s.power.t2Caps.getD 0 0)
     else decide (x % 2 ^ 40 < s.power.t2Caps.getD (x / 2 ^ 40) 0))

def State.region (s : State) (a : Nat) : Region :=
  if a < softEnd then .soft else if a < firmEnd then .firm else if a < tier1End then .reserve
  else if tier2Base ≤ a ∧ a < tier2End then (if s.fitted a then .tier2 else .unmapped)
  else if regBase ≤ a ∧ a < regEnd then .regs else if apBase ≤ a ∧ a < apEnd then .aperture else .unmapped

/-- The stack and the stack-local offset of a tier-1 address (R264). -/
def stackOf (a : Nat) : Nat :=
  if a < firmEnd then a / 4096 % 12 else (a - firmEnd) / 0x80000000

def localOf (a : Nat) : Nat :=
  if a < firmEnd then a / 4096 / 12 * 4096 + a % 4096 else gib 126 + (a - firmEnd) % 0x80000000

/-- The device physical address of a stack-local offset below the reserve. -/
def physOf (st l : Nat) : Nat := if l < gib 126 then (l / 4096 * 12 + st) * 4096 + l % 4096 else firmEnd + st * 0x80000000 + (l - gib 126)

/-! ### Tier-1 error accounting and retirement (R271, R276, R277, R281) -/

/-- Scrubbing and retirement are held on a stack while TEST_EN is 1 on its hub (R281). -/
def State.held (s : State) (st : Nat) : Bool := s.rdB (eccPg (hubDie (st / 3))) ECC.CTRL_TEST_EN

/-- The lowest-numbered free spare granule of a stack. -/
def StackS.freeSpare (x : StackS) : Option Nat := (List.range 2048).find? (fun i => (mfind x.remap i).isNone)

/-- A stack's local granule that holds the data of granule `g`: the spares that replace it, one after another (R277). -/
def StackS.physN : Nat → StackS → Nat → Nat
  | 0, _, g => g
  | n + 1, x, g => match x.remap.find? (fun e => e.2 == g) with
    | some e => StackS.physN n x (129024 + e.1)
    | none => g

def StackS.phys (x : StackS) (g : Nat) : Nat := StackS.physN 2049 x g

/-- Start the copy of a granule to its spare. -/
def State.startRetire (s : State) (st g : Nat) : State :=
  match (s.stack st).freeSpare with
  | none =>
    let s := if (s.stack st).full.contains g then s
      else ((s.emit (hbmcPg st) 0x6024 (g * 2 ^ 20)).irq (hbmcPg st) 3).modStack st (fun x => { x with full := x.full ++ [g] })
    s
  | some sp => (s.wr (hbmcPg st) HBMC.STAT_COPYING 1).modStack st (fun x => { x with copying := some (g, sp) })

/-- A granule is due for retirement: it is copied now, or queued (up to 16). -/
def State.retireGranule (s : State) (st g : Nat) : State :=
  let x := s.stack st
  if !s.rdB (hbmcPg st) HBMC.CTRL_RETIRE_EN || s.held st || x.queue.contains g then s
  else match x.copying with
    | some (g', _) => if g' = g ∨ 16 ≤ x.queue.length then s else s.modStack st (fun x => { x with queue := x.queue ++ [g] })
    | none => s.startRetire st g

/-- The stack's tracker counts an event of a granule; a full tracker's lowest entry gives way (R276). -/
def trackerAdd (m : FMap Nat) (g : Nat) : FMap Nat :=
  match mfind m g with
  | some n => mput m g (n + 1)
  | none =>
    let m := if m.length < 64 then m else match minBy (fun e => e.2) m with
      | some e => mdel m e.1
      | none => m
    mput m g 1

/-- MEM_CE at most once per granule per hour, the repeat count giving the events since (R271). -/
def State.recordCe (s : State) (st g : Nat) : State :=
  match mfind (s.stack st).ceAt g with
  | some (t, n) =>
    if s.now < t + 3600 * ticksS then s.modStack st (fun x => { x with ceAt := mput x.ceAt g (t, n + 1) })
    else (s.emitRep (hbmcPg st) 0x6021 0 (n + 1)).modStack st (fun x => { x with ceAt := mput x.ceAt g (s.now, 0) })
  | none => (s.emitRep (hbmcPg st) 0x6021 0 1).modStack st (fun x => { x with ceAt := mput x.ceAt g (s.now, 0) })

/-- What the controller counts for a word of tier 1 at address `a` that decoded with outcome `o`; `scrub` for the scrubber. -/
def State.noteWord (s : State) (a o : Nat) (scrub : Bool) : State :=
  let st := stackOf a
  let g := (s.stack st).phys (localOf a / 2 ^ 20)
  let p := hbmcPg st
  if o = 0 then s
  else if o ≤ 2 then (((s.inc p HBMC.CE_CNT).wrA p HBMC.LAST_CE_ADDR a).irq p 0).recordCe st g
  else if o = 3 then
    let s := (((s.inc p HBMC.UE_CNT).wrA p HBMC.LAST_UE_ADDR a).irq p 1).emit p 0x6022 0
    let s := if s.held st then s else s.modStack st (fun x => { x with tracker := trackerAdd x.tracker g })
    s.retireGranule st g
  else if scrub then s else s.inc p HBMC.POISON_RD_CNT

/-- Bytes read from or written to tier 2 count at the ports they lie behind (R325). -/
def State.count2 (s : State) (f : Fld) (a n : Nat) : State :=
  if n = 0 ∨ a < tier2Base then s
  else ((List.range ((a + n + 4095) / 4096 - a / 4096)).map (fun i => a / 4096 + i)).foldl
    (fun s u => s.inc (cxlPg (s.t2Port (4096 * u))) f (min (a + n) (4096 * (u + 1)) - max a (4096 * u))) s

/-- The lines of tier 2 that a read of [a, a+n) gets with the poison indication are counted at their port (R325). -/
def State.touch2 (s : State) (a n : Nat) : State :=
  ((List.range ((a + n + 63) / 64 - a / 64)).map (fun i => 64 * (a / 64 + i))).foldl
    (fun s l => if s.dev.bad l 64 then s.inc (cxlPg (s.t2Port l)) CXL.POISON_RD_CNT else s) s

/-- The faulty words that a read of [a, a+n) meets are counted, in ascending order. -/
def State.touch (s : State) (a n : Nat) : State :=
  if n = 0 then s
  else if tier1End ≤ a then (if s.dev.bad a n then s.touch2 a n else s).count2 CXL.RD_BYTES a n
  else (s.dev.chk.filter (fun e => decide (a / 8 ≤ e.1) && decide (e.1 ≤ (a + n - 1) / 8))).foldl
    (fun s e => s.noteWord (8 * e.1) (s.dev.word e.1).1 false) s

/-- A write into tier 2 marks every word of a line that holds a marked word (R267). -/
def Store.lines2 (st : Store) (a n : Nat) : Store :=
  (List.range ((a + n + 63) / 64 - a / 64)).foldl
    (fun x i => let l := a / 64 + i
      if x.bad (64 * l) 64 then (List.range 8).foldl (fun y j => y.setChk (8 * l + j) 0xFF) x else x) st

def State.devWrite (s : State) (a : Nat) (l : List Byte) (poison : Bool := false) : State :=
  let d := s.dev.put a l poison
  ({ s with dev := if tier2Base ≤ a then d.lines2 a l.length else d }).count2 CXL.WR_BYTES a l.length

def State.devRead (s : State) (a n : Nat) : List Byte := s.dev.read a n
def State.devNat (s : State) (a n : Nat) : Nat := s.dev.readNat a n
def State.devBad (s : State) (a n : Nat) : Bool := s.dev.bad a n || s.lostIn a n

/-- Whether a core's command may reach [a, a+n) of device memory (R262). -/
def State.coreMay (s : State) (a n : Nat) : Bool :=
  let ok := fun x => match s.region x with
    | .soft => true
    | .tier2 => true
    | _ => false
  n == 0 || (ok a && ok (a + n - 1))

/-! ### Core store, tiller SRAM (R189, R190) -/

def csBase (c : Nat) : Nat := c * 2 ^ 25
def State.csRead (s : State) (c off n : Nat) : List Byte := s.cstore.read (csBase c + off) n
def State.csNat (s : State) (c off n : Nat) : Nat := s.cstore.readNat (csBase c + off) n
def State.csBad (s : State) (c off n : Nat) : Bool := s.cstore.bad (csBase c + off) n
def State.csWrite (s : State) (c off : Nat) (l : List Byte) (poison : Bool := false) : State :=
  { s with cstore := s.cstore.put (csBase c + off) l poison }

/-- Faulty core-store words that a read meets count on the die's ECC page (R273). -/
def State.csTouch (s : State) (c off n : Nat) : State :=
  if n = 0 then s
  else (s.cstore.chk.filter (fun e => decide ((csBase c + off) / 8 ≤ e.1) && decide (e.1 ≤ (csBase c + off + n - 1) / 8))).foldl
    (fun s e =>
      let o := (s.cstore.word e.1).1
      if o = 1 ∨ o = 2 then (s.inc (eccPg (c / 4)) ECC.SRAM_CE_CNT).irq (eccPg (c / 4)) 0
      else if o = 3 then (s.inc (eccPg (c / 4)) ECC.SRAM_UE_CNT).irq (eccPg (c / 4)) 1 else s) s

/-- Drop a range of a store: it is written to zero with valid check bits. -/
def Store.zero (st : Store) (a n : Nat) : Store :=
  { bytes := st.bytes.filter (fun e => !(decide (a ≤ e.1) && decide (e.1 < a + n))),
    chk := st.chk.filter (fun e => !(decide (a / 8 ≤ e.1) && decide (e.1 < (a + n) / 8))) }

/-! ### IDE streams (R318) -/

/-- What becomes of a request of PCIe port `i` by its IDE stream. -/
inductive Ide where
  | ok | refused | dropped
deriving DecidableEq, Repr

/-- An Insecure stream's traffic is dropped; outside any stream a request is refused while IDE_REQ is 1. -/
def State.ide (s : State) (i : Nat) (stream : Option Nat) : Ide :=
  match stream with
  | some k => if s.power.ideBad.contains (8 * i + k) then .dropped else .ok
  | none => if s.rdB (pciePg i) PCIE.CTRL_IDE_REQ then .refused else .ok

/-- A host or ingest request is refused (R263): Unsupported Request, MEM_EXT_REFUSED at most once a ms for the port. -/
def State.extRefuse (s : State) (i a : Nat) (read : Bool) : State :=
  let p := pciePg i
  let s := (s.inc p PCIE.UR_CNT).emitLimited (pageDie p) (0x6012100 + i) ticksMs p 0x6012 a
  if read then s.send .unsupported else s

/-! ### Host memory -/

/-- A device write to host memory; marked data leaves poisoned (R275). -/
def State.hostWrite (s : State) (p : Nat) (a : Nat) (l : List Byte) (poison : Bool) : State :=
  let s := { s with host := s.host.put a l poison }
  if poison then (s.inc (pciePg 0) PCIE.POISON_TX_CNT).emit p 0x6031 0 else s

def State.hostRead (s : State) (a n : Nat) : List Byte := s.host.read a n
def State.hostBad (s : State) (a n : Nat) : Bool := s.host.bad a n

end Sys2Proof.Machine
end

