-- ==== Sys2Proof/Machine/Operands.lean ====
section
/-! DEFINITION. The operand forms: the 32-byte descriptor, its fields by opcode, and the checks made at dispatch (R174 to R177,
R77, R85, R111, R204). -/

namespace Sys2Proof.Machine

/-- Decode the four words of a descriptor (R174). -/
def decodeDesc (addr : Nat) (w0 w1 w2 w3 : Nat) : Desc :=
  { addr := addr, opcode := field w0 0 8, version := field w0 8 4, tag := field w0 12 6, eng := field w0 18 2,
    mask := field w0 20 17, acc := field w0 37 6, mode := field w0 43 2, group := field w0 45 2, accMode := field w0 47 2,
    limit := field w0 49 2, resident := bit w0 51, after := bit w0 52, dir := bit w0 53, tiller := field w0 54 1,
    cs := field w1 0 25, rows := field w1 32 11, cols := field w1 43 9, len64 := field w1 32 20,
    waitSem := field w2 0 12, waitCnt := field w2 12 4, sigSem := field w2 16 12, sigCnt := field w2 28 4,
    scope := field w2 32 8, operand := w3 }

/-- The queue of a descriptor's class: engines 0 to 3, 4 attention, 5 DMA, 6 and 7 mailboxes, 8 the sequencer; none for an
undefined opcode (R171, R176, R204). -/
def Desc.queue (d : Desc) : Option Nat :=
  if d.opcode = 0x00 ∨ d.opcode = 0x01 ∨ d.opcode = 0x50 ∨ d.opcode = 0x51 ∨ d.opcode = 0x52 then some 8
  else if d.opcode = 0x10 ∨ d.opcode = 0x11 ∨ d.opcode = 0x20 ∨ d.opcode = 0x21 ∨ d.opcode = 0x40 ∨ d.opcode = 0x60
      ∨ (0x30 ≤ d.opcode ∧ d.opcode ≤ 0x34) then some d.eng
  else if d.opcode = 0x70 then some 5
  else if d.opcode = 0x78 then some (6 + d.tiller)
  else if d.opcode = 0x80 ∨ d.opcode = 0x81 then some 4
  else none

/-- Bits [lsb + w - 1 : lsb]. -/
def ones (lsb w : Nat) : Nat := (2 ^ w - 1) * 2 ^ lsb

/-- The bits an opcode uses in words 0, 1, 2 (R176), OPCODE and VERSION among them. -/
def usedBits (op : Nat) : Nat × Nat × Nat :=
  let base := ones 0 12
  let engn := base + ones 12 8 + ones 52 1
  let wait := ones 0 16
  let sig := ones 16 16
  if op = 0x01 then (base, 0, sig)
  else if op = 0x10 ∨ op = 0x11 then (engn + ones 20 17 + ones 37 12, ones 0 25 + ones 32 20, wait + sig)
  else if op = 0x20 then (engn + ones 20 17 + ones 49 3, ones 0 25 + ones 32 11, wait + sig)
  else if op = 0x21 ∨ op = 0x60 then (engn + ones 20 17, 0, wait + sig)
  else if op = 0x30 ∨ op = 0x31 then (engn + ones 37 6, 0, wait + sig)
  else if op = 0x32 ∨ op = 0x33 then (engn + ones 37 6 + ones 47 2, ones 0 25, wait + sig)
  else if op = 0x34 then (engn + ones 37 6, ones 0 25, wait + sig)
  else if op = 0x40 then (engn + ones 20 17, ones 0 25, wait + sig)
  else if op = 0x50 then (base, 0, wait)
  else if op = 0x51 then (base, 0, sig)
  else if op = 0x52 then (base, 0, sig + ones 32 8)
  else if op = 0x70 then (base + ones 52 2, ones 0 25 + ones 32 20, wait + sig)
  else if op = 0x78 then (base + ones 52 1 + ones 54 1, 0, wait + sig)
  else if op = 0x80 ∨ op = 0x81 then (base + ones 52 1, ones 0 25, wait + sig)
  else (base, 0, 0)

/-- A number that has a semaphore (R178). -/
def isSem (n : Nat) : Bool := decide (n < 0x40) || (decide (0x400 ≤ n) && decide (n < 0x800))

/-- The tiles a mask names, ascending. -/
def maskTiles (m : Nat) : List Nat := bitsOf m 17

/-- Bytes of one tile's input segment (R177). -/
def segBytes (mode rows : Nat) : Nat := if mode = 2 then (rows + 1) / 2 else rows

def roundUp (n k : Nat) : Nat := (n + k - 1) / k * k

/-- Where the side block of a matrix command begins (R111). -/
def Desc.sideOff (d : Desc) : Nat := roundUp (d.cs + (maskTiles d.mask).length * segBytes d.mode d.rows) 64

/-- The core-store range of a descriptor known at dispatch (R175): offset and length. -/
def Desc.range (d : Desc) : Nat × Nat :=
  let n := (maskTiles d.mask).length
  if d.opcode = 0x10 ∨ d.opcode = 0x11 then (d.cs, d.sideOff + 64 + 64 * n - d.cs)
  else if d.opcode = 0x20 then (d.cs, n * d.rows * 128)
  else if d.opcode = 0x32 ∨ d.opcode = 0x33 then (d.cs, if d.accMode = 2 then 2112 else 2048)
  else if d.opcode = 0x34 then (d.cs, 1088)
  else if d.opcode = 0x70 then (d.cs, d.len64 * 64)
  else if d.opcode = 0x40 then (d.cs, 128)
  else if d.opcode = 0x80 ∨ d.opcode = 0x81 then (d.cs, 64)
  else (0, 0)

/-- The first offset of the core-store firmware region (R189). -/
def csLimit : Nat := 0x1F00000

/-- Opcodes that use TILE_MASK. -/
def usesMask (op : Nat) : Bool := op == 0x10 || op == 0x11 || op == 0x20 || op == 0x21 || op == 0x40 || op == 0x60

/-- Opcodes whose bits 15:0 and 31:16 of word 2 are WAIT and SIG. -/
def usesWait (op : Nat) : Bool := (usedBits op).2.2 % 2 == 1
def usesSig (op : Nat) : Bool := (usedBits op).2.2.testBit 16

/-- Whether a descriptor is malformed (R175, last row). DMA's core-store offset is a 64-byte aligned address too (log 13). -/
def malformed (w0 w1 w2 w3 : Nat) : Bool :=
  let d := decodeDesc 0 w0 w1 w2 w3
  let u := usedBits d.opcode
  let isEng := match d.queue with
    | some q => decide (q < 4)
    | none => false
  let r := d.range
  d.queue.isNone || (w0 &&& u.1) != w0 || (w1 &&& u.2.1) != w1 || (w2 &&& u.2.2) != w2
    || (w3 != 0 && d.opcode != 0x70 && d.opcode != 0x78)
    || (isEng && decide (47 < d.tag)) || d.mode == 3 || d.group == 3
    || ((d.opcode == 0x32 || d.opcode == 0x33) && d.accMode == 3)
    || ((d.opcode == 0x10 || d.opcode == 0x11 || d.opcode == 0x20) && (d.rows == 0 || decide (1024 < d.rows)))
    || ((d.opcode == 0x10 || d.opcode == 0x11) && (d.cols == 0 || decide (256 < d.cols)))
    || (usesMask d.opcode && d.mask == 0)
    || (d.opcode == 0x70 && d.len64 == 0)
    || (usesWait d.opcode && !isSem d.waitSem) || (usesSig d.opcode && !isSem d.sigSem)
    || ((d.opcode == 0x32 || d.opcode == 0x33 || d.opcode == 0x34) && d.cs % 64 != 0)
    || decide (csLimit < r.1 + r.2)
    || (d.opcode == 0x70 && (d.operand % 64 != 0 || decide (2 ^ 48 ≤ d.operand) || d.cs % 64 != 0
        || !(decide (d.operand < tier1End) || (decide (tier2Base ≤ d.operand) && decide (d.operand < tier2End)))))

/-- The check of R175 on a fetched descriptor: the fault that refuses it. A poison mark is judged first, since the words it
marks say nothing (log 13). -/
def State.descFault (s : State) (c : Nat) (w : List Nat) (poison : Bool) : Option Nat :=
  let w0 := w.getD 0 0
  if poison then some 0x1044
  else if !(s.rd (corePg c) CORE.CAP_DESC_VERSIONS).testBit (field w0 8 4) then some 0x1042
  else if usesMask (field w0 0 8) && w0.testBit 36 && s.rd (tilePg c (field w0 18 2) 16) TILE.STAT_STANDIN_FOR != 0x1F then some 0x1043
  else if malformed w0 (w.getD 1 0) (w.getD 2 0) (w.getD 3 0) then some 0x1041
  else none

/-- G of R77: 4 whatever the field says when the compute banks are in two-slice mode. -/
def groupSize (two : Bool) (g : Nat) : Nat := if two then 4 else if g = 0 then 4 else if g = 1 then 8 else 16

/-- A list in runs of at most `n` (n > 0), `fuel` bounding the number of runs. -/
def runs (n : Nat) : Nat → List Nat → List (List Nat)
  | 0, _ => []
  | _, [] => []
  | k + 1, l => l.take n :: runs n k (l.drop n)

/-- P of R85: the field of MVM and MVM_ACC, and ENG.ACC_CTRL.P. -/
def promoteEvery (field ctrl : Nat) : Nat :=
  if field = 1 then 4 else if field = 2 then 8 else if field = 3 then 16
  else if ctrl = 0 then 4 else if ctrl = 2 then 16 else 8

/-- An input element from its stored form (R32): its two's complement value. -/
def elemAt (l : List Byte) (mode i : Nat) : Int :=
  if mode = 2 then
    let b := (l.getD (i / 2) 0).toNat
    toSigned 4 (if i % 2 = 0 then b % 16 else b / 16)
  else toSigned 8 (l.getD i 0).toNat

/-- The driven range of an input mode (R32, R116). -/
def drivenMax (mode : Nat) : Int := if mode = 0 then 127 else if mode = 1 then 15 else 7

end Sys2Proof.Machine
end

