-- ==== Sys2Proof/Machine/CoreOps.lean ====
section
/-! DEFINITION. What the cores' meanings share: semaphores and claims, dispatch and issue conditions, completion, starts and
halts (R171 to R188, R293, R294). -/

namespace Sys2Proof.Machine

/-! ### Semaphores (R178, R293) -/

def State.localSem (s : State) (c sem : Nat) : Nat := s.rd (corePg c) (CORE.SEM_VALUE sem)

/-- A signal to a local semaphore; a sum above 0xFFFF leaves 0xFFFF and is recorded. -/
def State.localSignal (s : State) (c sem n : Nat) : State :=
  let v := s.localSem c sem + n
  let s := s.wr (corePg c) (CORE.SEM_VALUE sem) (min v 0xFFFF)
  if 0xFFFF < v then (s.irq (corePg c) 2).emit (corePg c) 0x1045 0 else s

/-- An add message enters the awn network. -/
def State.sendAdd (s : State) (sem n : Nat) : State := { s with awn := { s.awn with adds := s.awn.adds ++ [(sem, n)] } }

/-- A claim enters the awn network. -/
def State.sendClaim (s : State) (who sem n : Nat) : State :=
  { s with awn := { s.awn with sent := s.awn.sent ++ [⟨who, sem, n⟩] } }

/-- Signal a semaphore from core `c`. -/
def State.signal (s : State) (c sem n : Nat) : State :=
  if n = 0 then s else if sem < 0x40 then s.localSignal c sem n else s.sendAdd sem n

def State.globalSem (s : State) (sem : Nat) : Nat := mget s.awn.value 0 sem

/-- The first queued claim of each semaphore that its value meets is granted, again and again, in arrival order; a head that
cannot be granted holds back later claims on its semaphore (R293). `blocked` are the semaphores whose head waits. -/
def grantScan (value : FMap Nat) : List Nat → List Claim → FMap Nat × List Claim × List Claim
  | _, [] => (value, [], [])
  | blocked, q :: l =>
    if blocked.contains q.sem then
      let (v, keep, g) := grantScan value blocked l
      (v, q :: keep, g)
    else if q.count ≤ mget value 0 q.sem then
      let (v, keep, g) := grantScan (mput value q.sem (mget value 0 q.sem - q.count)) blocked l
      (v, keep, q :: g)
    else
      let (v, keep, g) := grantScan value (q.sem :: blocked) l
      (v, q :: keep, g)

/-- Queued claims are evaluated. -/
def State.evalClaims (s : State) : State :=
  let (v, keep, g) := grantScan s.awn.value [] s.awn.claims
  let s := { s with awn := { s.awn with value := v, claims := keep, grants := s.awn.grants ++ g } }
  if g.isEmpty then s else s.inc syncPg SYNC.CLAIM_CNT g.length

/-- A claim is withdrawn: wherever it is queued it leaves; a grant on its way back is returned as a signal (R294). -/
def State.withdraw (s : State) (who : Nat) : State :=
  let mine := fun (q : Claim) => q.who == who
  let a := s.awn
  if a.claims.any mine then { s with awn := { a with claims := eraseFirst mine a.claims } }.evalClaims
  else if a.sent.any mine then { s with awn := { a with sent := eraseFirst mine a.sent } }
  else match a.grants.find? mine with
    | some g => { s with awn := { a with grants := eraseFirst mine a.grants } }.sendAdd g.sem g.count
    | none => s

/-! ### Queues and issue (R171 to R173) -/

def coreState (s : State) (c : Nat) : Nat := s.rd (corePg c) CORE.STAT_STATE
def running (s : State) (c : Nat) : Bool := coreState s c == 1
def halting (s : State) (c : Nat) : Bool := coreState s c == 2

/-- The head of queue `q` of core `c`. -/
def State.head (s : State) (c q : Nat) : Option Desc :=
  let x := s.core c
  if q < 4 then (s.eng c q).queue.head?
  else if q = 4 then x.attnQ.head? else if q = 5 then x.dmaQ.head?
  else if q = 6 then x.mbox0.head? else x.mbox1.head?

/-- An op tag is in flight from dispatch to completion. -/
def State.tagBusy (s : State) (c tag : Nat) : Bool :=
  (List.range 4).any (fun e => (s.eng c e).queue.any (fun d => d.tag == tag) || (s.eng c e).ops.any (fun o => o.d.tag == tag))

/-- Whether a descriptor's queue is full (R172). -/
def State.queueFull (s : State) (c q : Nat) : Bool :=
  let x := s.core c
  if q < 4 then 16 ≤ (s.eng c q).queue.length
  else if q = 4 then 16 ≤ x.attnQ.length + (match x.attn with
    | some _ => 1
    | none => 0)
  else if q = 5 then 8 ≤ x.dmaQ.length + x.dmaRun.length
  else if q = 6 then 4 ≤ x.mbox0.length + x.kick0.length
  else 4 ≤ x.mbox1.length + x.kick1.length

/-- A descriptor enters its queue. -/
def State.enqueue (s : State) (c q : Nat) (d : Desc) : State :=
  if q < 4 then s.modEng c q (fun x => { x with queue := x.queue ++ [d] })
  else if q = 4 then s.modCore c (fun x => { x with attnQ := x.attnQ ++ [d] })
  else if q = 5 then s.modCore c (fun x => { x with dmaQ := x.dmaQ ++ [d] })
  else if q = 6 then s.modCore c (fun x => { x with mbox0 := x.mbox0 ++ [d] })
  else s.modCore c (fun x => { x with mbox1 := x.mbox1 ++ [d] })

/-- The head leaves its queue at issue and is remembered for AFTER_PREV. -/
def State.dequeue (s : State) (c q : Nat) (d : Desc) : State :=
  if q < 4 then s.modEng c q (fun x => { x with queue := x.queue.drop 1, prev := some d.tag })
  else if q = 4 then s.modCore c (fun x => { x with attnQ := x.attnQ.drop 1, prevAttn := some d.addr })
  else if q = 5 then s.modCore c (fun x => { x with dmaQ := x.dmaQ.drop 1, prevDma := some d.addr })
  else if q = 6 then s.modCore c (fun x => { x with mbox0 := x.mbox0.drop 1 })
  else s.modCore c (fun x => { x with mbox1 := x.mbox1.drop 1 })

/-- AFTER_PREV: the command issued before from this queue has completed. -/
def State.afterOk (s : State) (c q : Nat) (d : Desc) : Bool :=
  let x := s.core c
  !d.after ||
    (if q < 4 then (match (s.eng c q).prev with
        | some t => !(s.eng c q).ops.any (fun o => o.d.tag == t)
        | none => true)
      else if q = 4 then x.attn.isNone
      else if q = 5 then (match x.prevDma with
        | some a => !x.dmaRun.any (fun t => t.addr == a)
        | none => true)
      else if q = 6 then x.kick0.isEmpty else x.kick1.isEmpty)

/-- The wait condition of the head of queue `q` (8 is SEM_WAIT at dispatch). -/
def State.waitOk (s : State) (c q : Nat) (d : Desc) : Bool :=
  d.waitCnt == 0 ||
    (if d.waitSem < 0x40 then decide (d.waitCnt ≤ s.localSem c d.waitSem)
      else mfind (s.core c).claims q == some .granted)

/-- The tiles a matrix command computes on: the spare takes the place of the tile it stands in for (R77). -/
def State.physTile (s : State) (c e t : Nat) : Nat :=
  if s.rd (tilePg c e 16) TILE.STAT_STANDIN_FOR = t ∧ t ≠ 16 then 16 else t

/-- A tile's double-buffered input register has a free half: fewer than two vectors hold it (R32). -/
def State.halfFree (s : State) (c e t : Nat) : Bool :=
  decide (((s.tile c e t).vecs.filter (fun v => !v.finished)).length < 2)

/-- Opcodes that name an accumulator tile. -/
def usesAcc (op : Nat) : Bool := op == 0x10 || op == 0x11 || (decide (0x30 ≤ op) && decide (op ≤ 0x34))

/-- The unit's own issue conditions: input registers, and the interlock of R94. -/
def State.unitOk (s : State) (c q : Nat) (d : Desc) : Bool :=
  if q < 4 then
    ((d.opcode != 0x10 && d.opcode != 0x11) || (maskTiles d.mask).all (fun t => s.halfFree c q (s.physTile c q t)))
      && (!usesAcc d.opcode || !s.rdB (corePg c) CORE.CTRL_ACC_INTERLOCK || !s.rdB (engPg c q) (ENG.ACC_TILE_BUSY d.acc))
  else if q = 4 then (s.core c).attn.isNone
  else true

/-- Whether queue `q`'s head may issue now, its priority among local waits apart. -/
def State.canIssue (s : State) (c q : Nat) : Bool :=
  match s.head c q with
  | some d => s.waitOk c q d && s.afterOk c q d && s.unitOk c q d
  | none => false

/-- A queue earlier in the order of R173 takes the same local semaphore first. -/
def State.outranked (s : State) (c q : Nat) (d : Desc) : Bool :=
  d.waitCnt != 0 && decide (d.waitSem < 0x40) &&
    (List.range q).any (fun p => match s.head c p with
      | some h => h.waitCnt != 0 && h.waitSem == d.waitSem && s.canIssue c p
          && decide (s.localSem c d.waitSem < h.waitCnt + d.waitCnt)
      | none => false)

/-- The head of queue `q` if it is of opcode `op` and issues now. Cores issue only while RUNNING (R187). -/
def State.issuable (s : State) (c q op : Nat) : Option Desc :=
  match s.head c q with
  | some d => if d.opcode = op ∧ running s c ∧ s.canIssue c q ∧ !s.outranked c q d then some d else none
  | none => none

/-- Take the wait of the command that issues from queue `q`. -/
def State.takeWait (s : State) (c q : Nat) (d : Desc) : State :=
  if d.waitCnt = 0 then s
  else if d.waitSem < 0x40 then s.wr (corePg c) (CORE.SEM_VALUE d.waitSem) (s.localSem c d.waitSem - d.waitCnt)
  else s.modCore c (fun x => { x with claims := mdel x.claims q })

/-- Issue: the head leaves its queue with its wait taken. -/
def State.issue (s : State) (c q : Nat) (d : Desc) : State := (s.takeWait c q d).dequeue c q d

/-- A queue head that waits on a global semaphore sends its claim when it reaches the head (R173). -/
def State.headClaims (s : State) (c : Nat) : State :=
  (List.range 8).foldl (fun s q => match s.head c q with
    | some d =>
      if d.waitCnt ≠ 0 ∧ 0x400 ≤ d.waitSem ∧ (mfind (s.core c).claims q).isNone then
        (s.sendClaim (16 * c + q) d.waitSem d.waitCnt).modCore c (fun x => { x with claims := mput x.claims q .sent })
      else s
    | none => s) s

/-! ### Halts (R187) -/

/-- Claims of a halting core are to be withdrawn (R294); a grant that has arrived and was not used goes back as a signal. -/
def State.dropClaims (s : State) (c : Nat) : State :=
  let x := s.core c
  let s := x.claims.foldl (fun s e => match e.2 with
    | .sent => { s with awn := { s.awn with withdrawn := s.awn.withdrawn ++ [16 * c + e.1] } }
    | .granted => match (if e.1 = 8 then x.buf.head?.map (fun b => decodeDesc b.1 (b.2.1.getD 0 0) (b.2.1.getD 1 0) (b.2.1.getD 2 0) (b.2.1.getD 3 0)) else s.head c e.1) with
      | some d => s.sendAdd d.waitSem d.waitCnt
      | none => s) s
  s.modCore c (fun x => { x with claims := [] })

/-- The core halts: cause 1 fault, 2 host HALT, 3 step abort. Unissued commands are discarded; issued ones run on; the failure
is reported to hub 10 unless the host halted the core. -/
def State.haltCore (s : State) (c cause code addr : Nat) : State :=
  if coreState s c = 2 ∨ coreState s c = 3 then s
  else
    let s := s.dropClaims c
    let s := (List.range 4).foldl (fun s e => s.modEng c e (fun x => { x with queue := [] })) s
    let s := s.modCore c (fun x => { x with
      attnQ := [], dmaQ := [], mbox0 := [], mbox1 := [], buf := [], failing := cause == 1, waitHost := cause == 2 })
    let p := corePg c
    let s := (((s.wr p CORE.STAT_STATE 2).wr p CORE.STAT_CAUSE cause).wr p CORE.HALT_INFO_CODE code).wr p CORE.HALT_INFO_ADDR addr
    if cause = 2 then s else s.send (.stepFail c (s.rd p CORE.STEP))

/-- A command's fault halts its core (R93): `p` raises `code` with address field `addr`; the descriptor is at `da`. -/
def State.haltFault (s : State) (c p code addr da : Nat) : State := (s.emit p code addr).haltCore c 1 code da

/-! ### Dispatch (R172, R175) -/

def descOf (b : Nat × List Nat × Bool) : Desc :=
  decodeDesc b.1 (b.2.1.getD 0 0) (b.2.1.getD 1 0) (b.2.1.getD 2 0) (b.2.1.getD 3 0)

/-- The head descriptor leaves the prefetch buffer at dispatch. -/
def State.popDesc (s : State) (c : Nat) (addr : Nat) : State :=
  ((s.modCore c (fun x => { x with buf := x.buf.drop 1 })).wr (corePg c) CORE.STREAM_PC (addr + 32)).inc (corePg c) CORE.DISPATCH_CNT

/-- Dispatch the next descriptor if it goes to a queue and nothing holds it; none where dispatch is held. -/
def State.dispatchOne (s : State) (c : Nat) : Option State :=
  if !running s c then none
  else match (s.core c).buf with
    | [] => none
    | b :: _ =>
      match s.descFault c b.2.1 b.2.2 with
      | some code => some (s.haltFault c (corePg c) code b.1 b.1)
      | none =>
        let d := descOf b
        match d.queue with
        | none => none
        | some q =>
          if q = 8 ∨ (q < 4 ∧ s.tagBusy c d.tag) ∨ s.queueFull c q then none
          else some ((s.popDesc c b.1).enqueue c q d)

def State.pumpN : Nat → State → Nat → State
  | 0, s, _ => s
  | n + 1, s, c => match s.dispatchOne c with
    | some t => State.pumpN n t c
    | none => s

/-- Dispatch all that can be dispatched, and send the claims of new queue heads. A dispatch costs no command of its own: it
follows at once on the event that makes room for it (log 14). -/
def State.pump (s : State) (c : Nat) : State := (State.pumpN 130 s c).headClaims c

/-- The sequencer descriptor at the dispatch point, if it has the opcode and no check refuses it. -/
def State.seqHead (s : State) (c op : Nat) : Option Desc :=
  match (s.core c).buf with
  | [] => none
  | b :: _ => if running s c ∧ (descOf b).opcode = op ∧ (s.descFault c b.2.1 b.2.2).isNone then some (descOf b) else none

/-- A command completes: its signal is applied unless the core is halting (R187). -/
def State.complete (s : State) (c : Nat) (d : Desc) : State :=
  (if halting s c then s else s.signal c d.sigSem d.sigCnt).pump c

/-! ### Starts (R183 to R188) -/

/-- Every command dispatched before in the classes of a FENCE scope has completed (R179). -/
def State.scopeDone (s : State) (c scope : Nat) : Bool :=
  let x := s.core c
  (List.range 4).all (fun e => !scope.testBit e || ((s.eng c e).queue.isEmpty && (s.eng c e).ops.isEmpty))
    && (!scope.testBit 4 || (x.attnQ.isEmpty && x.attn.isNone))
    && (!scope.testBit 5 || (x.dmaQ.isEmpty && x.dmaRun.isEmpty))
    && (!scope.testBit 6 || (x.mbox0.isEmpty && x.kick0.isEmpty))
    && (!scope.testBit 7 || (x.mbox1.isEmpty && x.kick1.isEmpty))

/-- A stream starts at `addr` (R185). -/
def State.startStream (s : State) (c addr step : Nat) (r : Option StartRec) : State :=
  let s := (List.range 64).foldl (fun s i => s.wr (corePg c) (CORE.SEM_VALUE i) 0) s
  let s := (List.range 4).foldl (fun s e => s.modEng c e (fun x => { x with queue := [], prev := none })) s
  let s := s.modCore c (fun x => { x with
    fetch := addr, buf := [], attnQ := [], dmaQ := [], mbox0 := [], mbox1 := [],
    claims := [], prevDma := none, prevAttn := none, cur := r, failing := false, waitHost := false })
  let p := corePg c
  ((s.wr p CORE.STREAM_PC addr).wr p CORE.STEP step).wr p CORE.STAT_STATE 1

/-- CORE.STAT's pending fields follow the records held. -/
def State.showPending (s : State) (c : Nat) : State :=
  let n := (s.core c).pend.length
  (s.wr (corePg c) CORE.STAT_PENDING_N n).wrB (corePg c) CORE.STAT_START_PENDING (n != 0)

/-- The oldest pending start record starts. -/
def State.startPending (s : State) (c : Nat) : State :=
  match (s.core c).pend with
  | [] => s
  | r :: l => ((s.modCore c (fun x => { x with pend := l })).showPending c).startStream c r.stream r.step (some r)

/-- All issued work of a core has completed. -/
def State.drained (s : State) (c : Nat) : Bool :=
  let x := s.core c
  (List.range 4).all (fun e => (s.eng c e).ops.isEmpty) && x.attn.isNone && x.dmaRun.isEmpty && x.kick0.isEmpty && x.kick1.isEmpty

/-! ### Logical cores (R363, R367), stopped cores (R335, R337) -/

/-- A core's domains are stopped while it is in reset or retired. -/
def State.coreStopped (s : State) (c : Nat) : Bool := (s.core c).resetAt.isSome || (s.core c).retired

/-- The logical core that a physical core serves. -/
def State.logicalOf (s : State) (c : Nat) : Option Nat :=
  (List.range 160).find? (fun l => s.rdB fltPg (FLT.CORE_REDIR_VALID l) && s.rd fltPg (FLT.CORE_REDIR_PHYS l) == c)

/-- The physical core of a logical core. -/
def State.physOfCore (s : State) (l : Nat) : Nat := s.rd fltPg (FLT.CORE_REDIR_PHYS l)

/-- The temperature that an engine's sensor gave at the latest round, in 1/16 °C (R128, R340). -/
def State.engTemp (s : State) (c e : Nat) : Int :=
  let p := thermPg (c / 4)
  let i := Config.sensorOf c e % 16
  let i := if s.rdB p (THERM.SENSOR_EXCLUDED i) then Config.altSensorOf c e % 16 else i
  toSigned 16 (s.rd p (THERM.SENSOR_TEMP i))

end Sys2Proof.Machine
end

