-- ==== Sys2Proof/Machine/EngOps.lean ====
section
/-! DEFINITION. What the engine's meanings share: banks and their state entries, row images, conversions, vectors on tiles,
operations in flight, refusals (files 02 to 07). -/

namespace Sys2Proof.Machine

/-- The number of a tile in the package (R137). -/
def calInstance (c e t : Nat) : Nat := (c / 4) * 2 ^ 9 + (c % 4) * 2 ^ 7 + e * 2 ^ 5 + t

/-! ### Counters of a TILE page (R48) -/

/-- A 32-bit counter of a TILE page: a wrap sets CNT_WRAP. -/
def State.tcount (s : State) (p : Nat) (f : Fld) (n : Nat := 1) : State :=
  let wraps := decide (2 ^ 32 ≤ s.rd p f + n)
  let s := s.inc p f n
  if wraps then s.irq p 5 else s

/-! ### Banks (R50, R60) -/

def State.computeBank (s : State) (c e t : Nat) : Nat := s.rd (tilePg c e t) TILE.CFG_COMPUTE_BANK
def sliceF (b : Nat) : Fld := if b = 0 then TILE.CFG_SLICE_A else TILE.CFG_SLICE_B
def limitF (b : Nat) : Fld := if b = 0 then TILE.CFG_LIMIT_A else TILE.CFG_LIMIT_B
def State.twoSlice (s : State) (c e t b : Nat) : Bool := s.rdB (tilePg c e t) (sliceF b)
/-- 0 EMPTY, 1 STREAMED, 2 RESIDENT. -/
def State.bankState (s : State) (c e t b : Nat) : Nat := s.rd (engPg c e) (ENG.BANK_STATE_STATE (bkey t b))
def State.bankRows (s : State) (c e t b : Nat) : Nat := s.rd (engPg c e) (ENG.BANK_STATE_ROWS (bkey t b))
def State.bankPoisoned (s : State) (c e t b : Nat) : Bool := s.rdB (engPg c e) (ENG.BANK_STATE_POISONED (bkey t b))
/-- The image offset of R142. -/
def imgF (e t b : Nat) : Fld := CHK.IMG_PTR_PTR (34 * e + bkey t b)
def State.imgPtr (s : State) (c e t b : Nat) : Nat := s.rdA (chkPg c) (imgF e t b)

/-- AGE_US: µs since the write completed, saturating (R60). -/
def State.ageUs (s : State) (c e t b : Nat) : Nat :=
  if s.bankState c e t b = 1 then min 0xFFFF ((s.now - ((s.tile c e t).bank b).wroteAt) / ticksUs) else 0

/-- The refresh interval in use, in µs (R62). -/
def State.intervalUs (s : State) (c e : Nat) : Nat := s.rd (engPg c e) ENG.REFRESH_STAT_INTERVAL_US

/-- The address layout of BANK_POISON: engine [17:16], tile [12:8], bank [0] (R53). -/
def bankAddr (e t b : Nat) : Nat := e * 2 ^ 16 + t * 2 ^ 8 + b
def tileAddr (e t : Nat) : Nat := e * 2 ^ 16 + t * 2 ^ 8

/-- The record of the rows late in a sweep (R66). -/
def State.flushLate (s : State) (c e t b : Nat) : State :=
  let n := ((s.tile c e t).bank b).lateRows
  if n = 0 then s
  else (s.emitRep (engPg c e) 0x1031 0 n).modTile c e t (fun x => x.modBank b (fun y => { y with lateRows := 0 }))

/-- A bank becomes EMPTY: its entry is cleared, its refresh stops, a write in progress is abandoned. -/
def State.emptyBank (s : State) (c e t b : Nat) : State :=
  let p := engPg c e
  let k := bkey t b
  let s := s.flushLate c e t b
  let s := ((((s.wr p (ENG.BANK_STATE_STATE k) 0).wr p (ENG.BANK_STATE_ROWS k) 0).wr p (ENG.BANK_STATE_POISONED k) 0).wr p
    (ENG.BANK_STATE_SHADOW k) 0).wr p (ENG.BANK_STATE_WRITING k) 0
  s.modTile c e t (fun x => x.modBank b (fun y => { y with due := none, wr := none, matched := false }))

/-- Outlier set of tile t, bank b becomes EMPTY (R110). -/
def State.emptySet (s : State) (c e t b : Nat) : State :=
  let k := bkey t b
  let p := engPg c e
  (((s.wr p (ENG.OUTL_SET_STATE k) 0).wr p (ENG.OUTL_SET_SPARSE_N k) 0).wr p (ENG.OUTL_SET_STATIC_N k) 0).modEng c e
    (fun x => { x with osets := mdel x.osets k })

def State.outSet (s : State) (c e t b : Nat) : OSet := mget (s.eng c e).osets OSet.empty (bkey t b)

/-! ### The tile image and the cells of a row (R51 to R53, R125) -/

/-- The code of pair `j` in a row of 128 image bytes; 0b1000 reads as -7. -/
def codeOf (row : List Byte) (j : Nat) : Int :=
  let b := (row.getD (j / 2) 0).toNat
  max (-7) (toSigned 4 (if j % 2 = 0 then b % 16 else b / 16))

/-- The number of codes 0b1000 in a row. -/
def countM8 (row : List Byte) : Nat :=
  sumN (row.map (fun b => toBit (b.toNat % 16 == 8) + toBit (b.toNat / 16 == 8)))

/-- The weight of reference pair `k` on row `r` (R125). -/
def refWeight (k r : Nat) : Int :=
  let m := r % 16
  if k = 0 ∧ m = 0 then 7 else if k = 1 ∧ m = 8 then -7 else if k = 2 ∧ m = 4 then 3 else if k = 3 ∧ m = 12 then 1
  else if k = 6 ∧ m = 6 then 7 else if k = 6 ∧ m = 14 then -7 else if k = 7 ∧ m = 10 then 5 else 0

/-- The remap entries of a tile that apply to bank `b`: (spare pair, column), the lower entry winning a column (R31). -/
def State.remaps (s : State) (c e t b : Nat) : List (Nat × Nat) :=
  let p := tilePg c e t
  ((List.range 4).filter (fun i => s.rdB p (TILE.COLMAP_VALID i) && (s.rd p (TILE.COLMAP_BANK i)).testBit b)).map
    (fun i => (i, s.rd p (TILE.COLMAP_COLUMN i)))

/-- The physical pair that serves lane `l`. -/
def lanePair (maps : List (Nat × Nat)) (l : Nat) : Nat :=
  match maps.find? (fun m => m.2 == l) with
  | some m => 264 + m.1
  | none => l

/-- The 268 signed pair values a row write leaves: working pairs, reference pairs, spare pairs (R52). `bad` are the bytes
delivered with a poison mark, whose pairs are written at level 0 (R53). -/
def rowCells (maps : List (Nat × Nat)) (r : Nat) (row : List Byte) (bad : Nat → Bool) : List Int :=
  let code := fun j => if bad (j / 2) then 0 else codeOf row j
  (List.range 256).map (fun j => if maps.any (fun m => m.2 == j) then 0 else code j)
    ++ (List.range 8).map (fun k => refWeight k r)
    ++ (List.range 4).map (fun i => match maps.find? (fun m => m.1 == i) with
        | some m => code m.2
        | none => 0)

/-- Row `r` of the image at `img` in core store: its bytes, and which of them come poisoned. -/
def State.imgRow (s : State) (c img r : Nat) : List Byte × (Nat → Bool) :=
  let a := img + 128 * r
  if s.csBad c a 128 then (s.csRead c a 128, fun i => s.csBad c (a + i) 1) else (s.csRead c a 128, fun _ => false)

/-! ### Conversions (R29, R36, R37) -/

def zeroPairs : List Int := List.replicate 268 0

/-- The exact sums of the 268 pairs over the driven rows, in product units. -/
def sumRows (cells : FMap (List Int)) (drive : List (Nat × Int)) : List Int :=
  drive.foldl (fun acc d => if d.2 = 0 then acc else List.zipWith (fun a w => a + d.2 * w) acc (mget cells zeroPairs d.1)) zeroPairs

/-- Product units of one LSB (R36). -/
def unitOf (two : Bool) : Int := if two then 4 else 8

/-- A converter's code for a sum. -/
def convCode (u q : Int) : Int := clampI (-512) 511 (roundAway q u)

/-- The guard comparators. -/
def guard (u q : Int) : Bool := decide (516 * u < q) || decide (q < -(516 * u))

/-- The exact sums of the 256 lanes from the image, as the check unit and digital reference mode form them (R141, R153). -/
def State.imageSums (s : State) (c img : Nat) (drive : List (Nat × Int)) : List Int :=
  drive.foldl (fun acc d => if d.2 = 0 then acc
    else let row := (s.imgRow c img d.1).1
      List.zipWith (fun a w => a + d.2 * w) acc ((List.range 256).map (codeOf row))) (List.replicate 256 0)

/-- Whether an image word of the driven rows is poisoned. -/
def State.imageBad (s : State) (c img : Nat) (drive : List (Nat × Int)) : Bool :=
  drive.any (fun d => s.csBad c (img + 128 * d.1) 128)

/-- Signed pulse magnitudes of a pass's rows (R32): nibble `high` of an 8-bit vector, or the only pass. -/
def pulse (mode : Nat) (high : Bool) (v : Int) : Int :=
  let m := v.natAbs
  let k : Nat := if mode = 0 then (if high then m / 16 else m % 16) else m
  if v < 0 then -(k : Int) else k

def driveOf (v : Vec) (high : Bool) (rows : List Nat) : List (Nat × Int) :=
  rows.map (fun r => (r, pulse v.mode high (v.driven.getD r 0)))

/-! ### Vectors on tiles -/

def Vec.is (tag named : Nat) (v : Vec) : Bool := v.tag == tag && v.named == named

/-- The physical tile that holds the vector of tag and named tile. -/
def State.vecTile (s : State) (c e tag named : Nat) : Nat := if (s.tile c e named).vecs.any (Vec.is tag named) then named else 16

def State.vec (s : State) (c e tag named : Nat) : Option Vec := (s.tile c e (s.vecTile c e tag named)).vecs.find? (Vec.is tag named)

def State.modVec (s : State) (c e tag named : Nat) (f : Vec → Vec) : State :=
  s.modTile c e (s.vecTile c e tag named) (fun x => { x with vecs := mapIf (Vec.is tag named) f x.vecs })

/-- The vector whose passes a tile runs next: the first not finished. -/
def TileS.curVec (x : TileS) : Option Vec := x.vecs.find? (fun v => !v.finished)

/-- Passes of the vector have begun. -/
def Vec.begun (v : Vec) : Bool := v.finished || !v.out.isEmpty || v.cur.isSome

/-- A split sequence is running on the tile. -/
def TileS.splitting (x : TileS) : Bool := x.vecs.any (fun v => !v.splits.isEmpty)

/-- Entries of a tile's output buffer in use (R78). -/
def TileS.outUsed (x : TileS) : Nat := sumN (x.vecs.map (fun v => v.out.length))

/-! ### Operations in flight -/

def State.op (s : State) (c e tag : Nat) : Option EngOp := (s.eng c e).ops.find? (fun o => o.d.tag == tag)

def State.modOp (s : State) (c e tag : Nat) (f : EngOp → EngOp) : State :=
  s.modEng c e (fun x => { x with ops := mapIf (fun o => o.d.tag == tag) f x.ops })

def State.dropOp (s : State) (c e tag : Nat) : State :=
  s.modEng c e (fun x => { x with ops := x.ops.filter (fun o => o.d.tag != tag) })

/-- The operations issued before the one with the tag. -/
def opsBefore (ops : List EngOp) (tag : Nat) : List EngOp := ops.takeWhile (fun o => o.d.tag != tag)

/-- A physical tile with the tile of the mask it serves, as `EngOp.left` holds it. -/
def leftCode (phys named : Nat) : Nat := phys * 32 + named

/-- A BANK_SWAP issued before the vector's command has not yet taken effect on the tile (R58). -/
def swapAhead (ops : List EngOp) (tag t : Nat) : Bool :=
  (opsBefore ops tag).any (fun o => o.d.opcode == 0x21 && o.left.any (fun k => k / 32 == t))

/-- The physical tiles a BANK_WRITE to tile `t` of the mask is carried out on (R72, R130, R150). -/
def State.writeTiles (s : State) (c e t : Nat) : List Nat :=
  let p := s.physTile c e t
  let x := s.eng c e
  if p = t ∧ t ≠ 16 ∧ ((x.rot.phase = .fill ∧ x.rot.tile = t) ∨ x.fillFor = some t) then [t, 16]
  else if p = 16 ∧ t ≠ 16 ∧ x.rot.phase = .ret ∧ x.rot.tile = t then [16, t] else [p]

/-- A new operation record. -/
def EngOp.new (d : Desc) (tiles left : List Nat) : EngOp :=
  { d := d, tiles := tiles, groups := [], p := 8, two := false, thresherDone := false, glumeDone := false, satN := [],
    satW := [], judged := false, left := left, lostRows := false, sx := 0, dest := 0, add := false, acts := [], m8 := 0,
    poisonAt := none, doneAt := 0 }

def State.addOp (s : State) (c e : Nat) (o : EngOp) : State := s.modEng c e (fun x => { x with ops := x.ops ++ [o] })

/-- A command is refused at issue: it has left its queue, its tag is free, and its fault halts the core (R93). -/
def State.refuseOp (s : State) (c e : Nat) (d : Desc) (code addr : Nat) : State :=
  s.haltFault c (engPg c e) code addr d.addr

/-! ### Writing a bank (R54 to R56, R63) -/

/-- A write of rows 0 to `rows - 1` of bank `b` of physical tile `t` from the image at `img` begins: the image is read and the
cells written at once (log 20), the bank reads WRITING until it is done. Codes -8 and poison found are in the answer. -/
def State.beginWrite (s : State) (c e t b : Nat) (kind : WriteKind) (rows img : Nat) (resident : Bool) (limit tag : Nat) : State × Nat × Bool :=
  let maps := s.remaps c e t b
  let lines := (List.range rows).map (fun r => s.imgRow c img r)
  let cells := lines.zipIdx.map (fun l => (l.2, rowCells maps l.2 l.1.1 l.1.2))
  let m8 := sumN (lines.map (fun l => countM8 l.1))
  let bad := s.csBad c img (128 * rows)
  let w : BankWr := { kind := kind, rows := rows, img := img, resident := resident, limit := limit, tag := tag, poisonHit := bad, start := s.now }
  let s := s.flushLate c e t b
  let s := s.modTile c e t (fun x => x.modBank b (fun y => { y with
    cells := cells ++ y.cells.filter (fun k => decide (rows ≤ k.1)), wr := some w, due := none }))
  (s.wr (engPg c e) (ENG.BANK_STATE_WRITING (bkey t b)) 1, m8, bad)

/-- A write is done: the bank's entry, limit and image offset take its values (R55, R142). -/
def State.endWrite (s : State) (c e t b : Nat) (w : BankWr) (state limit : Nat) : State :=
  let p := engPg c e
  let k := bkey t b
  let s := (((s.wr p (ENG.BANK_STATE_STATE k) state).wr p (ENG.BANK_STATE_ROWS k) w.rows).wrB p (ENG.BANK_STATE_POISONED k) w.poisonHit).wr p
    (ENG.BANK_STATE_WRITING k) 0
  let s := if state = 2 then s.wrA p (ENG.BANK_STATE_SHADOW k) w.img else s.wr p (ENG.BANK_STATE_SHADOW k) 0
  let s := (s.wr (tilePg c e t) (limitF b) limit).wrA (chkPg c) (imgF e t b) w.img
  let now := s.now
  let iv := s.intervalUs c e
  s.modTile c e t (fun x => ({ x with writes := x.writes + 1 }).modBank b (fun y => { y with
    wr := none, refreshed := [], sweep := 0, wroteAt := now, wroteIval := iv, matched := true }))

/-- The physical tile has a compiled write in progress. -/
def TileS.compiledBusy (x : TileS) : Bool :=
  x.bankA.wr.any (fun w => w.kind == .compiled) || x.bankB.wr.any (fun w => w.kind == .compiled)

/-- The oldest BANK_WRITE that has yet to write physical tile `t` starts there if nothing holds it (R56, R71, R110, R130). -/
def State.startQueued (s : State) (c e t : Nat) : State :=
  let x := s.tile c e t
  if x.compiledBusy || x.resetAt.isSome then s
  else match (s.eng c e).ops.find? (fun o => o.d.opcode == 0x20 && o.left.any (fun k => k / 32 == t)) with
    | none => s
    | some o =>
      let named := (o.left.find? (fun k => k / 32 == t)).getD 0 % 32
      let main := s.physTile c e named
      let b := 1 - s.computeBank c e main
      let idx := (o.tiles.takeWhile (fun k => k != named)).length
      let s := if x.wearPhase = 0 then s
        else s.modTile c e t (fun y => { y with wearPhase := 0, lastWear := if y.wearPhase = 2 then some s.now else y.lastWear })
      let s := s.emptySet c e named b
      let (s, m8, bad) := s.beginWrite c e t b .compiled o.d.rows (o.d.cs + idx * (128 * o.d.rows)) o.d.resident o.d.limit o.d.tag
      s.modOp c e o.d.tag (fun q => { q with
        m8 := if t = main then q.m8 + m8 else q.m8,
        poisonAt := if bad && q.poisonAt.isNone then some (bankAddr e t b) else q.poisonAt })

/-- One row of a RESIDENT bank is rewritten from its shadow; lateness is judged and the sweep moves on (R61, R63, R66, R67). -/
def State.refreshRowNow (s : State) (c e t b r : Nat) : State :=
  let p := engPg c e
  let k := bkey t b
  let y := (s.tile c e t).bank b
  let iv := s.intervalUs c e
  let prev := mget y.refreshed (y.wroteAt, y.wroteIval) r
  let late := decide ((max prev.2 iv + 10) * ticksUs < s.now - prev.1)
  let (row, bad) := s.imgRow c (s.rdA p (ENG.BANK_STATE_SHADOW k)) r
  let poison := s.csBad c (s.rdA p (ENG.BANK_STATE_SHADOW k) + 128 * r) 128
  let rows := s.bankRows c e t b
  let s := if poison then
      (if s.bankPoisoned c e t b then s else (s.wr p (ENG.BANK_STATE_POISONED k) 1).emit p 0x1036 (bankAddr e t b))
    else
      let maps := s.remaps c e t b
      (s.inc p ENG.REFRESH_ROW_CNT).modTile c e t (fun x => x.modBank b (fun z => { z with cells := mput z.cells r (rowCells maps r row bad) }))
  let s := if late then (s.inc p ENG.REFRESH_LATE_CNT).irq p 2 else s
  let now := s.now
  let s := s.modTile c e t (fun x => x.modBank b (fun z => { z with
    refreshed := mput z.refreshed r (now, iv), due := none, lateRows := z.lateRows + toBit late,
    sweep := if r + 1 < rows then r + 1 else 0 }))
  if r + 1 < rows then s else s.flushLate c e t b

/-- The sweep resumes from the row refreshed longest ago (R66, R73). -/
def State.resumeSweep (s : State) (c e t b : Nat) : State :=
  let y := (s.tile c e t).bank b
  let when := fun r => (mget y.refreshed (y.wroteAt, y.wroteIval) r).1
  match minBy when (List.range (s.bankRows c e t b)) with
  | some r => s.modTile c e t (fun x => x.modBank b (fun z => { z with sweep := r, due := none }))
  | none => s

/-- Refresh of a tile's banks is held: a reset of the tile or its core (R73, R335), or the tile is out for its calibration. -/
def State.refreshHeld (s : State) (c e t : Nat) : Bool :=
  let r := (s.eng c e).rot
  (s.tile c e t).resetAt.isSome || s.coreStopped c || !s.rdB (engPg c e) ENG.REFRESH_CTRL_ENABLE
    || (r.tile == t && (r.phase == .calibrate || r.phase == .loadVerify)) || r.phase == .startup

/-! ### Accumulator tiles (R79, R92) -/

def State.acc (s : State) (c e a : Nat) : AccTile := mget (s.eng c e).accs .init a
def State.setAcc (s : State) (c e a : Nat) (x : AccTile) : State := s.modEng c e (fun y => { y with accs := mput y.accs a x })

/-- ACC_BUSY: the named tile has an owner, which stands (R93). -/
def State.accRefuse (s : State) (c e : Nat) (d : Desc) : State :=
  let p := engPg c e
  let owner := s.rd p (ENG.ACC_TILE_OWNER d.acc)
  ((s.inc p ENG.ACC_BUSY_CNT).engEvt p ENG.ACC_EVT_BUSY_REFUSED).refuseOp c e d 0x2011
    (d.tag * 2 ^ 24 + e * 2 ^ 16 + d.acc * 2 ^ 8 + owner)

/-- The operation owns its accumulator tile from issue (R92). -/
def State.own (s : State) (c e : Nat) (d : Desc) : State :=
  (s.wr (engPg c e) (ENG.ACC_TILE_OWNER d.acc) d.tag).wr (engPg c e) (ENG.ACC_TILE_BUSY d.acc) 1

/-- The owner gives the tile up at completion. -/
def State.disown (s : State) (c e a : Nat) : State := s.wr (engPg c e) (ENG.ACC_TILE_BUSY a) 0

end Sys2Proof.Machine
end

