-- ==== Sys2Proof/Machine/Gate.lean ====
section
/-! DEFINITION. What may keep a command from its effect: an F fault in force, a device halted by SHUTDOWN or by the removal of
power, and a register access into a stopped domain (R331, R332, R345, R360, R399, R412, R424). -/

namespace Sys2Proof.Machine

/-! ### Crossings (R331, R332, R337) -/

/-- The domain that a page's registers cross into, named by a page: a core, an engine with its tiles, or the page itself. -/
def domainOf (p : Nat) : Nat :=
  let x := p % 1024
  match blockOf p with
  | .chk => p - 1
  | .attn => p - 2
  | .tile => p - ((x - 0x100) % 0xC0 - 0x40) - 0x40 + 4 + ((x - 0x100) % 0xC0 - 0x40) / 32
  | _ => p

/-- The core that a page belongs to. -/
def coreOfPage (p : Nat) : Nat := p / 1024 * 4 + pageUnit p

/-- A register held in a domain that is stopped. ID and CAP of every page, and all but the traffic and error registers of the
pages of hub ports and controllers, are held in HCLK (log 45). -/
def State.domainStopped (s : State) (p off : Nat) : Bool :=
  match blockOf p with
  | .core => 8 ≤ off && s.coreStopped (coreOfPage p)
  | .chk => 8 ≤ off && s.coreStopped (coreOfPage p)
  | .attn => 8 ≤ off && s.coreStopped (coreOfPage p)
  | .eng => 8 ≤ off && s.coreStopped (coreOfPage p)
  | .tile => 8 ≤ off && s.coreStopped (coreOfPage p)
  | .hbmc => 0x40 ≤ off && !s.power.ended.contains 7
  | .cxl => 0x80 ≤ off && !s.rdB p CXL.STAT_UP
  | .plk => 0xC0 ≤ off && decide (off < 0x100) && s.rd p PLK.STAT_STATE == 0
  | .pcie => 0x80 ≤ off && decide (off < 0x100) && (s.rd (clkPg (p / 1024)) CLK.GATED).testBit 8
  | _ => false

/-- An access reaches a stopped domain: it is held, or refused where the crossing holds 4. -/
def State.holdAccess (s : State) (p off w : Nat) (value : Option Nat) : State :=
  let d := pageDie p
  if 4 ≤ ((s.die d).held.filter (fun h => domainOf h.page == domainOf p)).length then
    ((s.send .abort).inc (clkPg d) CLK.XING_FULL_CNT).emit (clkPg d) 0xB022 0
  else s.modDie d (fun x => { x with held := x.held ++ [⟨p, off, w, value, false, s.now⟩] })

/-- The rw bits of CAL_CTRL, CORE.CTRL and CHK.CTRL, DREF apart, as they stand. -/
def State.calCtrl (s : State) (c e t : Nat) : Nat :=
  128 * s.rd (tilePg c e t) TILE.CAL_CTRL_VIEW + 2 * s.rd (tilePg c e t) TILE.CAL_CTRL_TRACK_EN
def State.coreCtrl (s : State) (c : Nat) : Nat :=
  2 * s.rd (corePg c) CORE.CTRL_START_SRC + s.rd (corePg c) CORE.CTRL_ACC_INTERLOCK
def State.chkCtrl (s : State) (c : Nat) : Nat :=
  let p := chkPg c
  2 ^ 16 * s.rd p CHK.CTRL_SUSPECT_ACT + 2 ^ 8 * s.rd p CHK.CTRL_TOL + 16 * s.rd p CHK.CTRL_MIN_FRAC + s.rd p CHK.CTRL_FRAC

/-- The register write that a command of the core's pages is, as (page, offset, bytes, value): other bits of its register as they
stand. -/
def State.rowWrite (s : State) : Instr → Option (Nat × Nat × Nat × Nat)
  | .tileReset c e t => some (tilePg c e t, 8, 4, 2 + s.rd (tilePg c e t) TILE.CTRL_ENABLE)
  | .tileEnableWrite c e t v => some (tilePg c e t, 8, 4, toBit v)
  | .colmapWrite c e t i v => some (tilePg c e t, 0x70 + 4 * i, 4, v)
  | .tileCfgWrite c e t v => some (tilePg c e t, 0x40, 4, v)
  | .calApplyRequest c e t => some (tilePg c e t, 0x100, 4, s.calCtrl c e t + 1)
  | .calSave c e t => some (tilePg c e t, 0x100, 4, s.calCtrl c e t + 8)
  | .calLoad c e t => some (tilePg c e t, 0x100, 4, s.calCtrl c e t + 16)
  | .calRecal c e t => some (tilePg c e t, 0x100, 4, s.calCtrl c e t + 4)
  | .bankRelease c e v => some (engPg c e, 0x10C, 4, v)
  | .tillerReset c t => some (corePg c, 0x64, 4,
      2 ^ (16 + t) + s.rd (corePg c) CORE.TILLER_CTRL_T0_RUN + 2 * s.rd (corePg c) CORE.TILLER_CTRL_T1_RUN)
  | .coreGo c => some (corePg c, 8, 4, 4 + s.coreCtrl c)
  | .coreHalt c => some (corePg c, 8, 4, 8 + s.coreCtrl c)
  | .chkSeedWrite c v => some (chkPg c, 0x40, 4, v)
  | .lgSel c v => some (chkPg c, 0x44, 4, v)
  | .lgClear c => some (chkPg c, 8, 4, 2 ^ 20 + s.chkCtrl c + 2 ^ 17 * s.rd (chkPg c) CHK.CTRL_DREF)
  | .drefWrite c v => some (chkPg c, 8, 4, s.chkCtrl c + 2 ^ 17 * toBit v)
  | .xlateWrite c v => some (attnPg c, 8, 4, toBit v)
  | .rmapSel st v => some (hbmcPg st, 0x80, 4, v)
  | _ => none

/-- What an F fault does to a command (R360): it acts on (`always`), acts unless every clock is stopped (`work`), has no effect
(`stops`), is a register access that ends in a completer abort (`reg`), or a doorbell that is refused (`door`). -/
inductive GateKind where
  | always | work | stops | reg | door
deriving DecidableEq, Repr

def gateOf : Instr → GateKind
  | .passEnd _ _ _ _ => .work
  | .vectorPlan _ _ _ => .work
  | .vectorReissue _ _ _ => .work
  | .tileReset _ _ _ => .reg
  | .tileResetEnd _ _ _ => .work
  | .tileEnableWrite _ _ _ _ => .reg
  | .tileDisableEffect _ _ _ => .work
  | .colmapWrite _ _ _ _ _ => .reg
  | .tileCfgWrite _ _ _ _ => .reg
  | .calApplyRequest _ _ _ => .reg
  | .applyEffect _ _ _ => .work
  | .calSave _ _ _ => .reg
  | .calLoad _ _ _ => .reg
  | .calLoadVerifyDone _ _ _ _ => .work
  | .calRecal _ _ _ => .reg
  | .trackWindow _ _ _ => .work
  | .refreshRow _ _ _ _ => .work
  | .refreshSlot _ _ _ => .work
  | .bankWrite _ _ => .work
  | .bankWriteDone _ _ _ _ => .work
  | .bankSwap _ _ => .work
  | .bankSwapJudge _ _ => .work
  | .bankSwapEffect _ _ _ => .work
  | .wearMoveStart _ _ _ => .work
  | .wearMoveWriteDone _ _ _ => .work
  | .wearMoveSwap _ _ _ => .work
  | .bankRelease _ _ _ => .reg
  | .mvm _ _ => .work
  | .mvmAcc _ _ => .work
  | .groupReduce _ _ => .work
  | .glumeRecordDone _ _ => .work
  | .engineOpComplete _ _ _ => .work
  | .accClear _ _ => .work
  | .accPromote _ _ => .work
  | .accSpillStore _ _ => .work
  | .accSpillAdd _ _ => .work
  | .accSpillSave _ _ => .work
  | .accResumeLoad _ _ => .work
  | .accResumeAdd _ _ => .work
  | .accResumeRestore _ _ => .work
  | .accRead _ _ => .work
  | .outlierLoad _ _ => .work
  | .checkForce _ _ => .work
  | .nop _ => .work
  | .streamEnd _ => .work
  | .semWait _ => .work
  | .semSignal _ => .work
  | .fence _ => .work
  | .dmaCopy _ => .work
  | .dmaCopyDone _ _ => .work
  | .tillerKick _ _ => .work
  | .tillerDone _ _ => .work
  | .mboxRead _ _ => .work
  | .tillerSemPortWrite _ _ _ _ => .work
  | .tillerTrap _ _ _ => .work
  | .tillerReset _ _ => .reg
  | .streamFetch _ => .work
  | .startRecord _ _ => .stops
  | .coreGo _ => .reg
  | .coreHalt _ => .reg
  | .stepAbort _ _ => .work
  | .haltComplete _ => .work
  | .stepEndReport _ _ => .stops
  | .checkCompare _ _ _ _ => .work
  | .checkRepeatDone _ _ _ _ => .work
  | .checkOutcome _ _ _ => .work
  | .retireTakeover _ _ => .work
  | .chkSeedWrite _ _ => .reg
  | .lgSel _ _ => .reg
  | .lgClear _ => .reg
  | .drefWrite _ _ => .reg
  | .stepSum _ _ => .stops
  | .summaryTimeout _ => .stops
  | .calSlot _ _ => .work
  | .calTakeover _ _ => .work
  | .calTakeoverTimeout _ _ => .work
  | .calProcedureEnd _ _ _ _ => .work
  | .calTimeout _ _ => .work
  | .calReturn _ _ => .work
  | .calOverdue _ _ _ => .work
  | .startupCalSettled _ _ => .work
  | .retentionScreenEnd _ _ _ => .work
  | .calUnsettled _ _ => .work
  | .alloc _ _ _ _ _ => .stops
  | .pinR _ _ _ _ => .stops
  | .pinW _ _ _ _ _ _ _ => .stops
  | .unpin _ => .stops
  | .share _ _ _ => .stops
  | .release _ _ => .stops
  | .trim _ _ _ => .stops
  | .spill _ _ => .stops
  | .fill _ _ => .stops
  | .cowCopyDone _ => .stops
  | .tierMoveDone _ => .stops
  | .spillSweep _ => .stops
  | .pageNumberRelease _ => .stops
  | .kvAppend _ => .work
  | .attnRun _ => .work
  | .walkerPageRead _ => .work
  | .attnCmdComplete _ => .work
  | .seqFailReport _ _ => .stops
  | .xlateWrite _ _ => .reg
  | .kvpEnableWrite _ _ => .reg
  | .entrySel _ _ => .reg
  | .reqTail _ _ => .door
  | .submit _ => .stops
  | .cancel _ => .stops
  | .park _ => .stops
  | .unpark _ => .stops
  | .stepAssembly _ => .stops
  | .draftRoundEnd _ => .stops
  | .samplingDone _ _ => .stops
  | .stepClose _ => .stops
  | .slotFree _ => .stops
  | .resPopLo _ => .reg
  | .resPeekLo _ => .reg
  | .resHeadWrite _ _ => .door
  | .ringEnableWrite _ _ _ => .reg
  | .seqSel _ => .reg
  | .modelSwap _ => .reg
  | .modelUnload _ => .reg
  | .barrierDeadlineCheck => .stops
  | .swapComplete _ _ => .stops
  | .apertureWrite _ _ _ _ => .stops
  | .jobTail _ => .door
  | .jobLoad => .stops
  | .jobSwap => .stops
  | .jobExport => .stops
  | .chunkProcess _ _ => .stops
  | .layerComplete _ => .stops
  | .jobEnd _ => .stops
  | .apertureCreditRequest _ _ _ => .stops
  | .apertureCreditMsg _ _ _ => .stops
  | .exportCreditRetry _ => .stops
  | .exportCreditTimeout _ => .stops
  | .ingestEnableWrite _ => .reg
  | .memAccess _ _ _ => .always
  | .scrubLine _ => .work
  | .retireCopyDone _ => .work
  | .sramPatrol _ _ => .work
  | .eccTestWrite _ => .reg
  | .eccTestRead _ => .reg
  | .eccTestEnWrite _ _ => .reg
  | .rmapSel _ _ => .reg
  | .linkRetrain _ _ => .work
  | .retrainEnd _ _ _ => .work
  | .laneRepair _ _ => .work
  | .routeWrite _ _ _ => .reg
  | .awnAdd _ _ => .work
  | .awnClaim _ _ _ => .work
  | .awnGrant _ => .work
  | .claimWithdraw _ => .work
  | .stepStartBroadcast _ => .stops
  | .sclkZero => .always
  | .plkTrain _ _ => .stops
  | .plkTrainDone _ _ _ _ _ => .work
  | .plkLaneError _ _ => .work
  | .peerInbound _ _ _ => .stops
  | .rcopyStart _ => .stops
  | .rcopyDone _ _ _ => .stops
  | .semSel _ => .reg
  | .semViewWrite _ => .reg
  | .bar2Access _ _ _ => .always
  | .configRequest _ => .always
  | .flr _ => .always
  | .hostLinkDown => .always
  | .ingestLinkDown => .always
  | .ptmDialogue _ => .always
  | .ptmHostRead => .reg
  | .ideFail _ _ => .always
  | .cxlDown _ => .always
  | .mctpRequest _ => .always
  | .spdmRequest _ _ _ => .always
  | .jtagInstruction _ => .always
  | .pllUnlock _ => .always
  | .refclkLoss => .always
  | .xingTimeout _ => .always
  | .crossingRelease _ => .always
  | .coreRstAssert _ _ => .reg
  | .coreRstRelease _ => .reg
  | .warmReset _ => .always
  | .hkRoundTrigger => .work
  | .hkDecision _ => .work
  | .orderlyDrainEnd => .work
  | .orderlyFlushEnd => .work
  | .hkadcConversionEnd _ _ => .work
  | .hkadcSwTrig _ => .reg
  | .lifetimeFold => .always
  | .classLineStuck _ _ => .always
  | .recordPoll _ _ => .always
  | .recordWaitTimeout _ _ => .always
  | .faultRecord _ => .always
  | .coalesceExpiry _ => .always
  | .faultLog => .always
  | .containmentComplete _ => .always
  | .logHeadWrite _ => .always
  | .logSel _ => .always
  | .compatQuietEnd => .always
  | .migReq _ => .always
  | .migMoveStart _ => .stops
  | .migCopyDone _ => .stops
  | .migBanksDone _ => .stops
  | .rebuildReloadEnd _ => .stops
  | .coreRedirWrite _ _ => .always
  | .testDue _ => .stops
  | .testDone _ _ _ => .stops
  | .testDeferExpiry _ => .stops
  | .nvmDataRead => .always
  | .cfg2pCommit _ => .always
  | .cfg2pApply => .always
  | .fwSlotWrite _ => .always
  | .pwrgoodAssert _ _ => .always
  | .pwrgoodDeassert => .always
  | .perstHostAssert => .always
  | .perstHostDeassert => .always
  | .perstIngest _ => .always
  | .startupStageEnd _ _ => .always
  | .irqSetWrite _ _ => .always
  | .registerWrite _ _ _ => .always
  | .stepFailureReport _ _ _ => .stops
  | .pcieLinkUp _ _ _ => .always
  | .plkReplayFailure _ => .work
  | .appendPageWrite _ => .work

/-- An F fault is in force, or the device is halted (R345, R360, R424). -/
def State.frozen (s : State) : Bool := s.power.halted || s.rdB fltPg FLT.STAT_F_ACTIVE

/-- The state after a command whose effect would be `t`, when what gates it is regarded. -/
def State.gated (s : State) (i : Instr) (t : State) : State :=
  if s.frozen then
    match gateOf i with
    | .always => t
    | .work => if s.power.halted then s else t
    | .stops => s
    | .reg => s.send .abort
    | .door => s.extRefuse 0 0 false
  else match s.rowWrite i with
    | some (p, off, w, v) => if s.domainStopped p off then s.holdAccess p off w (some v) else t
    | none => t

end Sys2Proof.Machine
end

