-- ==== Sys2Proof/WellFormed.lean ====
section
/-! DEFINITION. Well-formed commands: the unit a command names exists and every operand fits its field. -/

namespace Sys2Proof

/-- A global core number that is assigned (R22). -/
def wfC (c : Nat) : Bool := computeDies.contains (c / 4)
/-- An engine of a core. -/
def wfE (c e : Nat) : Bool := wfC c && decide (e < 4)
/-- A tile of an engine, the spare tile 16 among them. -/
def wfT (c e t : Nat) : Bool := wfE c e && decide (t < 17)
/-- A die (R16). -/
def wfD (d : Nat) : Bool := decide (d < 40)
/-- A hub die (R20). -/
def wfHub (d : Nat) : Bool := d == 10 || d == 13 || d == 26 || d == 29
/-- A 32-bit register value. -/
def wf32 (v : Nat) : Bool := decide (v < 2 ^ 32)
/-- A function of the host port (R310). -/
def wfF (f : Nat) : Bool := decide (f < 64)
/-- A global semaphore (R178). -/
def wfG (n : Nat) : Bool := decide (0x400 ≤ n) && decide (n < 0x800)
/-- A page slot of a die, or a package-global page (R403, R404). -/
def wfPage (p : Nat) : Bool := decide (p < 40964)
/-- A 64-bit word to write, with its poison mark. -/
def wfWr : Option (Nat × Bool) → Bool
  | none => true
  | some (v, _) => decide (v < 2 ^ 64)
/-- A selective IDE stream, or link IDE (R318). -/
def wfStream : Option Nat → Bool
  | none => true
  | some k => decide (k < 5)
/-- A write of at most 4 KiB. -/
def wfBytes : Option (List Byte × List Nat) → Bool
  | none => true
  | some l => decide (l.1.length ≤ 4096)

/-- A start record whose fields fit (R184). -/
def StartRec.wf (r : StartRec) : Bool :=
  decide (r.stream < 2 ^ 48) && decide (r.stream % 64 = 0) && decide (r.step < 2 ^ 64) && decide (r.gsemN ≤ 64)
    && ((r.gsemN == 0 && r.gsemBase == 0) || (decide (0x400 ≤ r.gsemBase) && decide (r.gsemBase + r.gsemN ≤ 0x800)))
    && decide (r.model < 64) && decide (r.tenant < 256)

/-- A requester that exists (R262). -/
def Requester.wf : Requester → Bool
  | .bar2 f => wfF f
  | .ingestPort => true
  | .peer p => decide (p < 16)
  | .coreCmd c => wfC c
  | .tillerU c t => wfC c && decide (t < 2)
  | .tillerM c t => wfC c && decide (t < 2)
  | .hubUnit d => wfHub d || d == 16

/-- A command that names units the package has, with operands inside their fields. -/
def Instr.wf : Instr → Bool
  | .passEnd c e t _ => wfT c e t
  | .vectorPlan c e t => wfT c e t
  | .vectorReissue c e t => wfT c e t
  | .tileReset c e t => wfT c e t
  | .tileResetEnd c e t => wfT c e t
  | .tileEnableWrite c e t _ => wfT c e t
  | .tileDisableEffect c e t => wfT c e t
  | .colmapWrite c e t i v => wfT c e t && decide (i < 4) && wf32 v
  | .tileCfgWrite c e t v => wfT c e t && wf32 v
  | .calApplyRequest c e t => wfT c e t
  | .applyEffect c e t => wfT c e t
  | .calSave c e t => wfT c e t
  | .calLoad c e t => wfT c e t
  | .calLoadVerifyDone c e t _ => wfT c e t
  | .calRecal c e t => wfT c e t
  | .trackWindow c e t => wfT c e t
  | .refreshRow c e t b => wfT c e t && decide (b < 2)
  | .refreshSlot c e t => wfT c e t
  | .bankWrite c e => wfE c e
  | .bankWriteDone c e t b => wfT c e t && decide (b < 2)
  | .bankSwap c e => wfE c e
  | .bankSwapJudge c e => wfE c e
  | .bankSwapEffect c e t => wfT c e t
  | .wearMoveStart c e t => wfT c e t
  | .wearMoveWriteDone c e t => wfT c e t
  | .wearMoveSwap c e t => wfT c e t
  | .bankRelease c e v => wfE c e && wf32 v
  | .mvm c e => wfE c e
  | .mvmAcc c e => wfE c e
  | .groupReduce c e => wfE c e
  | .glumeRecordDone c e => wfE c e
  | .engineOpComplete c e tag => wfE c e && decide (tag < 48)
  | .accClear c e => wfE c e
  | .accPromote c e => wfE c e
  | .accSpillStore c e => wfE c e
  | .accSpillAdd c e => wfE c e
  | .accSpillSave c e => wfE c e
  | .accResumeLoad c e => wfE c e
  | .accResumeAdd c e => wfE c e
  | .accResumeRestore c e => wfE c e
  | .accRead c e => wfE c e
  | .outlierLoad c e => wfE c e
  | .checkForce c e => wfE c e
  | .nop c => wfC c
  | .streamEnd c => wfC c
  | .semWait c => wfC c
  | .semSignal c => wfC c
  | .fence c => wfC c
  | .dmaCopy c => wfC c
  | .dmaCopyDone c k => wfC c && decide (k < 8)
  | .tillerKick c t => wfC c && decide (t < 2)
  | .tillerDone c t => wfC c && decide (t < 2)
  | .mboxRead c t => wfC c && decide (t < 2)
  | .tillerSemPortWrite c t sem n => wfC c && decide (t < 2) && decide (sem < 0x800) && wf32 n
  | .tillerTrap c t cause => wfC c && decide (t < 2) && decide (cause < 256)
  | .tillerReset c t => wfC c && decide (t < 2)
  | .streamFetch c => wfC c
  | .startRecord c r => wfC c && r.wf
  | .coreGo c => wfC c
  | .coreHalt c => wfC c
  | .stepAbort c step => wfC c && decide (step < 2 ^ 64)
  | .haltComplete c => wfC c
  | .stepEndReport c step => wfC c && decide (step < 2 ^ 64)
  | .checkCompare c e t _ => wfT c e t
  | .checkRepeatDone c e t _ => wfT c e t
  | .checkOutcome c e t => wfT c e t
  | .retireTakeover c e => wfE c e
  | .chkSeedWrite c v => wfC c && wf32 v
  | .lgSel c v => wfC c && wf32 v
  | .lgClear c => wfC c
  | .drefWrite c _ => wfC c
  | .stepSum c step => wfC c && decide (step < 2 ^ 64)
  | .summaryTimeout step => decide (step < 2 ^ 64)
  | .calSlot c e => wfE c e
  | .calTakeover c e => wfE c e
  | .calTakeoverTimeout c e => wfE c e
  | .calProcedureEnd c e t _ => wfT c e t
  | .calTimeout c e => wfE c e
  | .calReturn c e => wfE c e
  | .calOverdue c e t => wfT c e t
  | .startupCalSettled c e => wfE c e
  | .retentionScreenEnd c e _ => wfE c e
  | .calUnsettled c e => wfE c e
  | .alloc c tenant slot page frame => wfC c && decide (tenant < 256) && decide (slot < 4096) && decide (page < 2 ^ 26) && decide (frame < 2 ^ 26)
  | .pinR c page tenant slot => wfC c && decide (page < 2 ^ 26) && decide (tenant < 256) && decide (slot < 4096)
  | .pinW c page tenant slot listAddr q qframe => wfC c && decide (page < 2 ^ 26) && decide (tenant < 256) && decide (slot < 4096) && decide (listAddr < 2 ^ 48) && decide (q < 2 ^ 26) && decide (qframe < 2 ^ 26)
  | .unpin page => decide (page < 2 ^ 26)
  | .share page tenant slot => decide (page < 2 ^ 26) && decide (tenant < 256) && decide (slot < 4096)
  | .release page slot => decide (page < 2 ^ 26) && decide (slot < 4096)
  | .trim page n slot => decide (page < 2 ^ 26) && decide (n < 4096) && decide (slot < 4096)
  | .spill page frame => decide (page < 2 ^ 26) && decide (frame < 2 ^ 26)
  | .fill page frame => decide (page < 2 ^ 26) && decide (frame < 2 ^ 26)
  | .cowCopyDone b => decide (b < 4)
  | .tierMoveDone page => decide (page < 2 ^ 26)
  | .spillSweep b => decide (b < 4)
  | .pageNumberRelease page => decide (page < 2 ^ 26)
  | .kvAppend c => wfC c
  | .attnRun c => wfC c
  | .walkerPageRead c => wfC c
  | .attnCmdComplete c => wfC c
  | .seqFailReport c slot => wfC c && decide (slot < 4096)
  | .xlateWrite c _ => wfC c
  | .kvpEnableWrite b v => decide (b < 4) && wf32 v
  | .entrySel b v => decide (b < 4) && wf32 v
  | .reqTail f v => wfF f && wf32 v
  | .submit f => wfF f
  | .cancel f => wfF f
  | .park f => wfF f
  | .unpark f => wfF f
  | .stepAssembly m => decide (m < 64)
  | .draftRoundEnd _ => true
  | .samplingDone _ hub => decide (hub < 4)
  | .stepClose step => decide (step < 2 ^ 64)
  | .slotFree slot => decide (slot < 4096)
  | .resPopLo f => wfF f
  | .resPeekLo f => wfF f
  | .resHeadWrite f v => wfF f && wf32 v
  | .ringEnableWrite f _ v => wfF f && decide (v < 2 ^ 64)
  | .seqSel v => wf32 v
  | .modelSwap m => decide (m < 64)
  | .modelUnload m => decide (m < 64)
  | .barrierDeadlineCheck => true
  | .swapComplete m _ => decide (m < 64)
  | .apertureWrite addr data _ stream => decide (0xF10000000000 ≤ addr) && decide (addr + data.length ≤ 0xF10200000000) && decide (data.length ≤ 4096) && wfStream stream
  | .jobTail v => wf32 v
  | .jobLoad => true
  | .jobSwap => true
  | .jobExport => true
  | .chunkProcess j _ => decide (j < 256)
  | .layerComplete j => decide (j < 256)
  | .jobEnd j => decide (j < 256)
  | .apertureCreditRequest port peer ch => decide (port < 16) && decide (peer < 64) && decide (ch < 8)
  | .apertureCreditMsg j slots consumed => decide (j < 256) && wf32 slots && wf32 consumed
  | .exportCreditRetry j => decide (j < 256)
  | .exportCreditTimeout j => decide (j < 256)
  | .ingestEnableWrite _ => true
  | .memAccess rq addr wr => rq.wf && decide (addr < 2 ^ 48) && decide (addr % 8 = 0) && wfWr wr
  | .scrubLine st => decide (st < 12)
  | .retireCopyDone st => decide (st < 12)
  | .sramPatrol c word => wfC c && decide (word < 2 ^ 22)
  | .eccTestWrite d => wfD d
  | .eccTestRead d => wfD d
  | .eccTestEnWrite d _ => wfD d
  | .rmapSel st v => decide (st < 12) && wf32 v
  | .linkRetrain d p => wfD d && decide (p < 4)
  | .retrainEnd d p _ => wfD d && decide (p < 4)
  | .laneRepair d p => wfD d && decide (p < 4)
  | .routeWrite d dst v => wfD d && decide (dst < 40) && wf32 v
  | .awnAdd sem n => wfG sem && decide (n < 2 ^ 32)
  | .awnClaim who sem n => decide (who < 2 ^ 14) && wfG sem && decide (n < 16)
  | .awnGrant who => decide (who < 2 ^ 14)
  | .claimWithdraw c => wfC c
  | .stepStartBroadcast step => decide (step < 2 ^ 64)
  | .sclkZero => true
  | .plkTrain p _ => decide (p < 16)
  | .plkTrainDone p badLanes versions peerId peerPort => decide (p < 16) && decide (badLanes < 2 ^ 17) && decide (versions < 2 ^ 16) && decide (peerId < 64) && decide (peerPort < 16)
  | .plkLaneError p lane => decide (p < 16) && decide (lane < 17)
  | .peerInbound p addr wr => decide (p < 16) && decide (addr < 2 ^ 48) && wfBytes wr
  | .rcopyStart h => decide (h < 4)
  | .rcopyDone h k _ => decide (h < 4) && decide (k < 16)
  | .semSel v => wf32 v
  | .semViewWrite v => wf32 v
  | .bar2Access off wr stream => decide (off < 2 ^ 36) && decide (off % 8 = 0) && wfWr wr && wfStream stream
  | .configRequest i => decide (i < 2)
  | .flr f => wfF f
  | .hostLinkDown => true
  | .ingestLinkDown => true
  | .ptmDialogue hostNs => decide (hostNs < 2 ^ 64)
  | .ptmHostRead => true
  | .ideFail i stream => decide (i < 2) && decide (stream < 5) && (i == 0 || decide (stream < 4))
  | .cxlDown p => decide (p < 4)
  | .mctpRequest typ => decide (typ < 256)
  | .spdmRequest _ op ide => decide (op < 256) && wfStream ide
  | .jtagInstruction ir => decide (ir < 256)
  | .pllUnlock d => wfD d
  | .refclkLoss => true
  | .xingTimeout page => wfPage page
  | .crossingRelease page => wfPage page
  | .coreRstAssert c _ => wfC c
  | .coreRstRelease c => wfC c
  | .warmReset cause => decide (cause = 1 ∨ cause = 2)
  | .hkRoundTrigger => true
  | .hkDecision _ => true
  | .orderlyDrainEnd => true
  | .orderlyFlushEnd => true
  | .hkadcConversionEnd d _ => wfD d
  | .hkadcSwTrig d => wfD d
  | .lifetimeFold => true
  | .classLineStuck d page => wfD d && wfPage page
  | .recordPoll d page => wfD d && wfPage page
  | .recordWaitTimeout d page => wfD d && wfPage page
  | .faultRecord d => wfD d
  | .coalesceExpiry d => wfD d
  | .faultLog => true
  | .containmentComplete seqno => decide (seqno < 2 ^ 32)
  | .logHeadWrite v => wf32 v
  | .logSel v => wf32 v
  | .compatQuietEnd => true
  | .migReq logical => decide (logical < 160)
  | .migMoveStart logical => decide (logical < 160)
  | .migCopyDone logical => decide (logical < 160)
  | .migBanksDone logical => decide (logical < 160)
  | .rebuildReloadEnd logical => decide (logical < 160)
  | .coreRedirWrite l v => decide (l < 160) && wf32 v
  | .testDue c => wfC c
  | .testDone c _ _ => wfC c
  | .testDeferExpiry c => wfC c
  | .nvmDataRead => true
  | .cfg2pCommit _ => true
  | .cfg2pApply => true
  | .fwSlotWrite _ => true
  | .pwrgoodAssert _ _ => true
  | .pwrgoodDeassert => true
  | .perstHostAssert => true
  | .perstHostDeassert => true
  | .perstIngest _ => true
  | .startupStageEnd n _ => decide (n < 10)
  | .irqSetWrite page v => wfPage page && wf32 v
  | .registerWrite addr w v => decide (addr < 0x11100000) && decide (w = 1 ∨ w = 2 ∨ w = 4 ∨ w = 8) && decide (v < 256 ^ w)
  | .stepFailureReport c step _ => wfC c && decide (step < 2 ^ 64)
  | .pcieLinkUp i width rate => decide (i < 2) && decide (width = 4 ∨ width = 8 ∨ width = 16) && decide (1 ≤ rate ∧ rate ≤ 6)
  | .plkReplayFailure p => decide (p < 16)
  | .appendPageWrite c => wfC c

end Sys2Proof
end

