-- ==== Sys2Proof/Machine/Meaning.lean ====
section
/-! DEFINITION. The frame of every meaning: a command that is not well-formed is refused; any other has its effect, unless an F
fault, a halt or a stopped domain keeps it from it. -/

namespace Sys2Proof.Machine

/-- The outcome of a command whose effect on the state is `t`: refused where the command names a unit the package does not have
or an operand outside its field (log 2). -/
def onWf (s : State) (i : Instr) (t : State) : Host.Outcome State Fault Refusal :=
  if i.wf then .next (s.gated i t) else .refused .illFormed

end Sys2Proof.Machine
end

