-- ==== Sys2Proof/Machine/Tile.lean ====
section
/-! DEFINITION. The tile family: planning a vector, passes with their splits, per-tile reset, enable, remap and configuration
(file 02). -/

namespace Sys2Proof.Machine

/-! ### Planning (R38 to R41, R116 to R118, R143) -/

def limitRows (code : Nat) : Nat := 64 * 2 ^ code

/-- The effective row-group limit of bank `b` (R38). -/
def State.effLimit (s : State) (c e t b : Nat) : Nat :=
  let p := tilePg c e t
  let l := limitRows (min (s.rd p (limitF b)) (s.rd p TILE.CFG_LIMIT_MAX))
  if s.twoSlice c e t b then max 64 (l / 2) else l

/-- Passes of one nibble from the driven rows of each group: passes, groups skipped, merges (R39). -/
def planNibble (skip merge : Bool) (limit : Nat) : List (List Nat) → List (List Nat) × Nat × Nat
  | [] => ([], 0, 0)
  | [g] => if skip && g.isEmpty then ([], 1, 0) else ([g], 0, 0)
  | g :: h :: l =>
    if skip && g.isEmpty then
      let (p, a, b) := planNibble skip merge limit (h :: l)
      (p, a + 1, b)
    else if merge && (!skip || !h.isEmpty) && decide (g.length + h.length ≤ limit) then
      let (p, a, b) := planNibble skip merge limit l
      ((g ++ h) :: p, a, b + 1)
    else
      let (p, a, b) := planNibble skip merge limit (h :: l)
      (g :: p, a, b)

/-- One step of the selection register: x^32 + x^22 + x^2 + x + 1, shifted left (R143). -/
def lfsrNext (v : Nat) : Nat :=
  let b := (toBit (v.testBit 31) + toBit (v.testBit 21) + toBit (v.testBit 1) + toBit (v.testBit 0)) % 2
  (2 * v + b) % 2 ^ 32

/-- The register as loaded from `CHK.SEED` (R143). -/
def lfsrLoad (seed e t : Nat) : Nat :=
  let v := (if seed = 0 then 1 else seed) ^^^ (e * 32 + t)
  if v = 0 then 1 else v

/-- k of R143 for a fraction code; none for fraction 0. -/
def fracBits (f : Nat) : Option Nat :=
  if f = 0 then none else if f = 1 then some 10 else if f = 2 then some 8 else if f = 3 then some 6 else if f = 4 then some 4
  else some 3

/-- Advance the register over planned passes; which of them are sampled. -/
def sampleMarks (k : Option Nat) : Nat → Nat → Nat × List Bool
  | 0, v => (v, [])
  | n + 1, v =>
    let w := lfsrNext v
    let hit := match k with
      | some k => w >>> (32 - k) == 0
      | none => false
    let (z, l) := sampleMarks k n w
    (z, hit :: l)

/-- Rows the array never drives for this vector: at or above ROWS (R55), or static outlier channels (R108). -/
def deadRow (rows : Nat) (static : List Nat) (r : Nat) : Bool := decide (rows ≤ r) || static.contains r

/-- The rows whose magnitude exceeds the driven range and that are driven (R116). `mag` gives a row's magnitude. -/
def candidates (n : Nat) (dead : Nat → Bool) (mag : Nat → Nat) (range : Nat) : List Nat :=
  (List.range n).filter (fun r => !dead r && decide (range < mag r))

/-- The 16 candidates of largest magnitude, the lower row first on ties, in row order (R118). -/
def largest16 (l : List Nat) (mag : Nat → Nat) : List Nat :=
  sortNat ((sortBy (fun a b => decide (mag b < mag a) || (mag a == mag b && decide (a ≤ b))) l).take 16)

/-- The driven rows of a nibble, by group. -/
def groupRows (n limit : Nat) (live : Nat → Bool) : List (List Nat) :=
  (List.range (1024 / limit)).map (fun g => ((List.range limit).map (fun i => g * limit + i)).filter (fun r => decide (r < n) && live r))

/-- A lane of an output that no pass produced. -/
def LaneCode.zero : LaneCode := ⟨0, false, false⟩

/-- Plan vector `v` on tile `t` with its values `val` driven in range `range`, rows `routed` and `clip` taken out; `val r` is
the element, halved for a re-issued vector. -/
def State.planWith (s : State) (c e t : Nat) (v : Vec) (val : Nat → Int) (range : Nat) (routed clip : List Nat) (reissued : Bool) : State :=
  let p := tilePg c e t
  let ep := engPg c e
  let b := s.computeBank c e t
  let set := s.outSet c e v.named b
  let dead := deadRow (s.bankRows c e t b) set.rows
  let n := v.elems.length
  let clamped := ((List.range n).filter (fun r => !dead r && !routed.contains r && decide (range < (val r).natAbs))).length
  let driven := (List.range n).map (fun r => if dead r || routed.contains r then 0 else clampI (-range) range (val r))
  let live := fun r => !dead r && !routed.contains r
  let poison := v.poisonRows.filter live
  let limit := s.effLimit c e t b
  let skip := s.rdB p TILE.CFG_SKIP_EN
  let merge := s.rdB p TILE.CFG_MERGE_EN
  let nib := fun hi => planNibble skip merge limit
    (groupRows n limit (fun r => live r && (pulse v.mode hi (driven.getD r 0) != 0 || poison.contains r)))
  let hi := if v.mode = 0 then nib true else ([], 0, 0)
  let lo := nib false
  let x := s.tile c e t
  let start := if x.lfsr = 0 then lfsrLoad (s.rd (chkPg c) CHK.SEED) e t else x.lfsr
  let m := hi.1.length + lo.1.length
  let (reg, marks) := sampleMarks (fracBits (s.rd (chkPg c) CHK.STAT_FRAC_EFF)) m start
  let marks := if s.rdB (chkPg c) CHK.CTRL_DREF then marks.map (fun _ => false)
    else if v.forced then (match marks with
      | [] => []
      | _ :: l => true :: l)
    else marks
  let passes := ((hi.1.map (fun r => (true, r)) ++ lo.1.map (fun r => (false, r))).zip marks).map
    (fun q => { high := q.1.1, rows := q.1.2, sampled := q.2 : Pass })
  let none0 := passes.isEmpty
  let v' := { v with
    planned := true, reissue := false, reissued := reissued, driven := driven, routed := routed, passes := passes,
    budget := 3 * m, clipped := clip.length, ovf := !clip.isEmpty, bank := b, two := s.twoSlice c e t b,
    img := s.imgPtr c e t b, oset := set, finished := none0,
    out := if none0 then [{ scale := 1, twice := reissued, held := false, lanes := List.replicate 256 .zero }] else [] }
  let s := (s.modVec c e v.tag v.named (fun _ => v')).modTile c e t (fun y => { y with lfsr := reg })
  let s := ((s.inc p TILE.SKIP_CNT (hi.2.1 + lo.2.1)).tcount p TILE.MERGE_CNT (hi.2.2 + lo.2.2)).inc ep ENG.DYN_CNT routed.length
  let s := if clamped = 0 then s else (s.tcount p TILE.INCLAMP_CNT clamped).irq p 3
  let s := if poison.isEmpty && !routed.any v.poisonRows.contains then s else s.irq p 2
  let s := if clip.isEmpty then s
    else ((s.inc ep ENG.DYN_CLIP_CNT clip.length).inc ep ENG.OVF_VEC_CNT).engEvt ep ENG.OUTL_EVT_OUTLIER_OVF
  if reissued then (s.inc ep ENG.REISSUE_CNT).engEvt ep ENG.OUTL_EVT_REISSUE else s

/-- Dynamic routing is in force for a vector (R116). -/
def State.dynOn (s : State) (c e : Nat) (v : Vec) : Bool := s.rdB (engPg c e) ENG.OUTL_CTRL_DYN_EN && v.dynEn && v.mode != 2

/-- The driven range of a vector: DYN_MAX bounds 8-bit inputs where dynamic routing is in force (R32, R116). -/
def State.drivenRange (s : State) (c e : Nat) (v : Vec) : Nat :=
  if v.mode = 0 then (if s.dynOn c e v then v.dynMax else 127) else if v.mode = 1 then 15 else 7

/-- The dead rows of a vector on its tile. -/
def State.deadOf (s : State) (c e t : Nat) (v : Vec) : Nat → Bool :=
  let b := s.computeBank c e t
  deadRow (s.bankRows c e t b) (s.outSet c e v.named b).rows

/-- The halved element of R117. -/
def halved (x : Int) : Int := let h : Int := ((x.natAbs + 1) / 2 : Nat); if x < 0 then -h else h

/-- The vector a tile may plan now: the first not planned, where no swap is ahead of it and it does not wait for a spare
(R58, R150). -/
def State.plannable (s : State) (c e t : Nat) (reissue : Bool) : Option Vec :=
  let x := s.tile c e t
  match x.vecs.find? (fun v => !v.planned) with
  | some v =>
    if x.resetAt.isSome || swapAhead (s.eng c e).ops v.tag t || (s.eng c e).fillFor == some t || v.reissue != reissue then none
    else some v
  | none => none

def vectorPlanEffect (s : State) (c e t : Nat) : State :=
  match s.plannable c e t false with
  | none => s
  | some v =>
    let range := s.drivenRange c e v
    let val := fun r => v.elems.getD r 0
    if !s.dynOn c e v then s.planWith c e t v val range [] [] false
    else
      let cand := candidates v.elems.length (s.deadOf c e t v) (fun r => (val r).natAbs) range
      if cand.length ≤ 16 then s.planWith c e t v val range cand [] false
      else if v.reissueEn && s.rdB (engPg c e) ENG.OUTL_CTRL_REISSUE_EN then s.modVec c e v.tag v.named (fun w => { w with reissue := true })
      else
        let r := largest16 cand (fun r => (val r).natAbs)
        s.planWith c e t v val range r (cand.filter (fun k => !r.contains k)) false

def vectorReissueEffect (s : State) (c e t : Nat) : State :=
  match s.plannable c e t true with
  | none => s
  | some v =>
    let range := s.drivenRange c e v
    let val := fun r => halved (v.elems.getD r 0)
    let cand := candidates v.elems.length (s.deadOf c e t v) (fun r => (val r).natAbs) range
    if cand.length ≤ 16 then s.planWith c e t v val range cand [] true
    else
      let r := largest16 cand (fun r => (v.elems.getD r 0).natAbs)
      s.planWith c e t v val range r (cand.filter (fun k => !r.contains k)) true

/-! ### Passes (R34 to R37, R41 to R45, R78, R126, R145, R153, R344) -/

/-- The conversion of rows `rows` for `v`: code and flag of each lane, and the reference codes where no reference flag is up.
Digital reference mode computes the lanes from the image and reads no reference. -/
def State.convert (s : State) (c e t : Nat) (v : Vec) (high : Bool) (rows : List Nat) (dev : List Int) : List (Int × Bool) × Option (List Int) :=
  let u := unitOf v.two
  let drive := driveOf v high rows
  if s.rdB (chkPg c) CHK.CTRL_DREF then
    ((s.imageSums c v.img drive).map (fun q => (convCode u q, guard u q)), none)
  else
    let q := List.zipWith (· + ·) (sumRows ((s.tile c e t).bank v.bank).cells drive)
      ((List.range 268).map (fun i => dev.getD i 0))
    let maps := s.remaps c e t v.bank
    let refs := (List.range 8).map (fun k => q.getD (256 + k) 0)
    ((List.range 256).map (fun l => let x := q.getD (lanePair maps l) 0; (convCode u x, guard u x)),
      if refs.any (guard u) then none else some (refs.map (convCode u)))

/-- u times the expected code of reference pair `k` (R125). -/
def refExpect (drive : List (Nat × Int)) (k : Nat) : Int := sumI (drive.map (fun d => d.2 * refWeight k d.1))

/-- The running estimate takes a pass with usable references in (R126); a full window stands until TRACK_WINDOW takes it. -/
def State.estimate (s : State) (c e t b : Nat) (drive : List (Nat × Int)) (refs : Option (List Int)) : State :=
  match refs with
  | none => s
  | some r =>
    let x := (s.tile c e t).track b
    if !s.rdB (tilePg c e t) TILE.CAL_CTRL_TRACK_EN || 256 ≤ x.n then s
    else
      let de := refExpect drive 0 - refExpect drive 1
      s.modTile c e t (fun y => y.setTrack b
        { num := x.num + (r.getD 0 0 - r.getD 1 0) * de, den := x.den + de * de, off := x.off + r.getD 4 0, n := x.n + 1 })

/-- The throttle gaps due at a pass boundary, n of every 16 slots (R344): gaps inserted and the debt left. -/
def gapsDue (n : Nat) : Nat → Nat → Nat × Nat
  | 0, d => (0, d)
  | k + 1, d => if 16 ≤ d + n ∧ n ≠ 0 then (let (g, r) := gapsDue n k (d + n - 16); (g + 1, r)) else (0, d)

/-- The pass boundary after a sequence: gaps are inserted, a waiting temperature term takes effect (R35, R128). -/
def State.boundary (s : State) (c e t slots : Nat) : State :=
  let x := s.tile c e t
  let n := s.rd (thermPg (c / 4)) THERM.STAT_STEPS
  let (g, d) := gapsDue n 16 (x.gapDebt + n * slots)
  let s := if g = 0 then s else s.inc (thermPg (c / 4)) THERM.GAP_CNT g
  let s := match x.ttNext with
    | some v => s.wr (tilePg c e t) TILE.TEMP_TERM_TT (ofSigned 16 v)
    | none => s
  s.modTile c e t (fun y => { y with gapDebt := d, ttNext := none })

/-- The halves of R42. -/
def halves (rows : List Nat) : List Nat × List Nat := rows.splitAt ((rows.length + 1) / 2)

/-- The conversion that the tile runs now: pass, level, rows, lanes to resolve. -/
def Vec.next (v : Vec) : Option (Pass × Nat × List Nat × List Nat) :=
  match v.splits, v.cur with
  | q :: _, some p => some (p, q.level, q.rows, q.lanes)
  | _, _ => match v.passes with
    | p :: _ => some (p, 0, p.rows, List.range 256)
    | [] => none

/-- The vector whose pass a tile runs now: its passes are planned, nothing holds it, and the output buffer has room (R58, R78,
R150). -/
def State.runnable (s : State) (c e t : Nat) : Option Vec :=
  let x := s.tile c e t
  match x.curVec with
  | some v =>
    if x.resetAt.isSome || !v.planned || swapAhead (s.eng c e).ops v.tag t || decide (128 ≤ x.outUsed)
        || ((s.eng c e).fillFor == some t && !v.begun) then none
    else some v
  | none => none

/-- A pass ends (R34): its conversion is delivered, over-ranged lanes are split or stand with SAT, the estimator reads the
references; at the end of a sequence a sampled pass takes its check slot and goes to the check unit. -/
def passEndEffect (s : State) (c e t : Nat) (dev : List Int) : State :=
  match s.runnable c e t with
  | none => s
  | some v =>
    match v.next with
    | none => s
    | some (pass, level, rows, lanes) =>
      let p := tilePg c e t
      let (conv, refs) := s.convert c e t v pass.high rows dev
      let drive := driveOf v pass.high rows
      let dref := s.rdB (chkPg c) CHK.CTRL_DREF
      let poison := s.bankPoisoned c e t v.bank || rows.any v.poisonRows.contains || (dref && s.imageBad c v.img drive)
      let ovr := lanes.filter (fun l => (conv.getD l (0, false)).2)
      let splitEn := s.rdB p TILE.CFG_SPLIT_EN
      let stands := level == 2 || !splitEn || decide (v.budget < 2)
      let spent := decide (v.budget < 2) && splitEn && level != 2 && !ovr.isEmpty
      let sat := stands && !ovr.isEmpty
      let out : Conv :=
        { scale := if pass.high then 16 else 1, twice := v.reissued, held := pass.sampled,
          lanes := (List.range 256).map (fun l =>
            let x := conv.getD l (0, false)
            if !lanes.contains l then ⟨0, false, poison⟩
            else if !x.2 then ⟨x.1, false, poison⟩
            else if stands then ⟨x.1, true, poison⟩ else ⟨0, false, poison⟩) }
      let split := !ovr.isEmpty && !stands
      let rest := if level = 0 then [] else v.splits.drop 1
      let new := if split then [⟨(halves rows).1, level + 1, ovr⟩, ⟨(halves rows).2, level + 1, ovr⟩] else ([] : List Split)
      let splits := new ++ rest
      let passes := if level = 0 then v.passes.drop 1 else v.passes
      let first := if level = 0 then v.out.length else v.curStart
      let ends := splits.isEmpty
      let v' := { v with
        splits := splits, passes := passes, cur := if ends then none else some pass, curStart := first,
        budget := if split then v.budget - 2 else v.budget, budgetOut := v.budgetOut || spent,
        out := v.out ++ [out], finished := ends && passes.isEmpty }
      let s := s.modVec c e v.tag v.named (fun _ => v')
      let s := s.inc p TILE.PASS_CNT
      let s := if level = 0 then s.modCore c (fun x => { x with sum := { x.sum with passes := x.sum.passes + 1 } })
        else s.tcount p TILE.SPLIT_CNT
      let s := if ovr.isEmpty then s
        else
          let s := (s.tcount p TILE.OVR_CNT).irq p 0
          ((((s.wr p TILE.OVR_LAST_LEVEL level).wrB p TILE.OVR_LAST_NIBBLE pass.high).wrB p TILE.OVR_LAST_SAT sat).wr p
            TILE.OVR_LAST_FIRST_ROW (rows.getD 0 0)).wr p TILE.OVR_LAST_LANE (ovr.getD 0 0)
      let s := if sat then (s.tcount p TILE.SAT_CNT ovr.length).irq p 1 else s
      let s := if spent && !v.budgetOut then (s.tcount p TILE.BUDGET_CNT).irq p 4 else s
      let s := s.estimate c e t v.bank drive refs
      if !ends then s
      else
        let s := if pass.sampled then
            let n := (s.tile c e t).nSample
            let smp : Sample :=
              { phase := .slot, tag := v.tag, named := v.named, high := pass.high,
                drive := driveOf v pass.high pass.rows, bank := v.bank, two := v.two, cols := v.cols, window := n % 8,
                first := first, count := v.out.length + 1 - first, lowPair := 0, beyond := false,
                epoch := (s.tile c e t).epoch, split := level != 0 }
            (s.inc (chkPg c) CHK.CHECK_SLOT_CNT).modTile c e t (fun x => { x with nSample := n + 1, sampleQ := x.sampleQ ++ [smp] })
          else s
        s.boundary c e t (if level = 0 then 1 else v.out.length + 1 - first)

/-! ### Turns of the calibration rotation: their ends (R72, R130, R135, R150) -/

def State.setCalPhase (s : State) (c e t phase : Nat) : State :=
  (s.wr (tilePg c e t) TILE.CAL_STAT_PHASE phase).wrB (tilePg c e t) TILE.CAL_STAT_BUSY (phase != 0)

/-- The turn is over: the sequencer is idle. -/
def State.endTurn (s : State) (c e t : Nat) : State :=
  ((s.modEng c e (fun x => { x with rot := { RotS.init with front := x.rot.front } })).setCalPhase c e t 0).wr (engPg c e) ENG.CAL_ROT_STAT_CURRENT 0x1F

/-- The spare's banks that a tile's banks need are filled from their images (R150). -/
def State.fillSpare (s : State) (c e t : Nat) : State :=
  (List.range 2).foldl (fun s b =>
    if s.bankState c e t b = 0 then s.emptyBank c e 16 b
    else (s.beginWrite c e 16 b .fill (s.bankRows c e t b) (s.imgPtr c e t b) (s.bankState c e t b == 2) (s.rd (tilePg c e t) (limitF b)) 63).1) s

/-- The return of tile `u` begins: its banks are rewritten from the shadows of the spare's RESIDENT banks; the others are
EMPTY until a shared write (R72, R130). -/
def State.beginReturn (s : State) (c e u : Nat) (noApply : Bool) : State :=
  let s := (List.range 2).foldl (fun s b =>
    let s := s.emptyBank c e u b
    if s.bankState c e 16 b = 2 then
      (s.beginWrite c e u b .fill (s.bankRows c e 16 b) (s.rdA (engPg c e) (ENG.BANK_STATE_SHADOW (bkey 16 b))) true (s.rd (tilePg c e 16) (limitF b)) 63).1
    else s) s
  (s.modEng c e (fun x => { x with rot := { x.rot with phase := .ret, noApply := noApply } })).wr (tilePg c e u) TILE.CAL_STAT_PHASE 3

/-- A fill for a turn is given up: the spare's banks are EMPTY and the turn is over (R130, R135). -/
def State.dropFill (s : State) (c e : Nat) : State :=
  let t := (s.eng c e).rot.tile
  (((s.emptyBank c e 16 0).emptyBank c e 16 1).tcount (tilePg c e t) TILE.CAL_SKIP_CNT).endTurn c e t

/-! ### Reset, enable, remap, configuration -/

/-- A turn's procedure on a tile ends without trims to apply: the return keeps the previous ones; the spare's own turn just
ends (R135). -/
def State.skipTurn (s : State) (c e t : Nat) : State :=
  let p := tilePg c e t
  let s := s.tcount p TILE.CAL_SKIP_CNT
  if t = 16 then s.endTurn c e 16
  else (s.modEng c e (fun x => { x with rot := { x.rot with phase := .ret, noApply := true } })).wr p TILE.CAL_STAT_PHASE 3

/-- Per-tile digital reset (R47, R73, R95, R135, R333): writes in progress are abandoned and their banks become EMPTY; vectors
in flight give no further conversions; an attempt under way restarts once. -/
def State.resetTile (s : State) (c e t : Nat) : State :=
  let x := s.tile c e t
  let lost := x.vecs.filter (fun v => !v.finished || v.out.any (fun o => o.held))
  let s := (List.range 2).foldl (fun s b => if (x.bank b).wr.isSome then s.emptyBank c e t b else s) s
  let s := s.modTile c e t (fun y => { y with
    resetAt := some s.now, sampleQ := [], wearPhase := 0,
    vecs := y.vecs.map (fun v => { v with
      finished := true, planned := true, reissue := false, passes := [], splits := [], cur := none,
      out := v.out.filter (fun o => !o.held) }) })
  let s := s.modEng c e (fun y => { y with
    ops := y.ops.map (fun o => if lost.any (fun v => v.tag == o.d.tag) then { o with lostRows := true }
      else if o.d.opcode = 0x20 then { o with left := o.left.filter (fun k => k / 32 != t || !(x.bankA.wr.any (fun w => w.tag == o.d.tag) || x.bankB.wr.any (fun w => w.tag == o.d.tag))) }
      else o) })
  let r := (s.eng c e).rot
  if r.phase = .calibrate ∧ r.tile = t then
    if r.restarted then s.skipTurn c e t
    else s.modEng c e (fun y => { y with rot := { y.rot with restarted := true, attemptAt := s.now } })
  else s

def tileResetEffect (s : State) (c e t : Nat) : State := s.resetTile c e t

/-- Software enable (R431, R49, R130). A clear stops new commands at once and takes full effect at TILE_DISABLE_EFFECT. -/
def tileEnableEffect (s : State) (c e t : Nat) (v : Bool) : State :=
  let p := tilePg c e t
  if v then
    if s.rdB p TILE.CTRL_ENABLE && !(s.tile c e t).disablePending then s
    else if s.rdB p TILE.STAT_RETIRED || (t != 16 && s.rd (tilePg c e 16) TILE.STAT_STANDIN_FOR == t) then s.refuse p
    else
      let s := (s.wr p TILE.CTRL_ENABLE 1).modTile c e t (fun x => { x with disablePending := false })
      if (s.eng c e).rot.phase = .startup then s else s.wr p TILE.STAT_IN_SERVICE 1
  else if !s.rdB p TILE.CTRL_ENABLE then s
  else (s.wr p TILE.CTRL_ENABLE 0).modTile c e t (fun x => { x with disablePending := true })

/-- The clear takes effect when the vectors of the commands already issued have run (R431). -/
def tileDisableEffect (s : State) (c e t : Nat) : State :=
  let x := s.tile c e t
  if x.disablePending && x.vecs.all (fun v => v.finished) then
    (s.wr (tilePg c e t) TILE.STAT_IN_SERVICE 0).modTile c e t (fun y => { y with disablePending := false })
  else s

/-- All four spare pairs in use in at least one bank. -/
def State.showColmap (s : State) (c e t : Nat) : State :=
  s.wrB (tilePg c e t) TILE.STAT_COLMAP_FULL ((s.remaps c e t 0).length == 4 || (s.remaps c e t 1).length == 4)

/-- The remap entry is written with its fields. -/
def State.putColmap (s : State) (c e t i : Nat) (valid : Bool) (bank col : Nat) : State :=
  let p := tilePg c e t
  (((s.wrB p (TILE.COLMAP_VALID i) valid).wr p (TILE.COLMAP_BANK i) bank).wr p (TILE.COLMAP_COLUMN i) col).showColmap c e t

def colmapWriteEffect (s : State) (c e t i v : Nat) : State :=
  let p := tilePg c e t
  if s.rdB p TILE.CTRL_ENABLE || (s.tile c e t).disablePending then s.refuse p
  else
    let dup := bit v 31 && (List.range 4).any (fun k => k != i && s.rdB p (TILE.COLMAP_VALID k)
      && s.rd p (TILE.COLMAP_COLUMN k) == field v 0 8 && (s.rd p (TILE.COLMAP_BANK k) &&& field v 16 2) != 0)
    let s := s.putColmap c e t i (bit v 31) (field v 16 2) (field v 0 8)
    if dup then s.refuse p else s

/-- A write of TILE.CFG (R57): refused whole where it would change the compute bank's slice bit. -/
def tileCfgEffect (s : State) (c e t v : Nat) : State :=
  let p := tilePg c e t
  let b := s.computeBank c e t
  if bit v (3 + b) != s.rdB p (sliceF b) then s.refuse p
  else
    [TILE.CFG_MERGE_EN, TILE.CFG_SKIP_EN, TILE.CFG_SPLIT_EN, TILE.CFG_LIMIT_B, TILE.CFG_LIMIT_A, TILE.CFG_SLICE_B, TILE.CFG_SLICE_A].foldl
      (fun s f => s.wr p f (field v f.lsb f.width)) s

/-! ### Meanings -/

def execPassEnd (c e t : Nat) (dev : List Int) (s : State) : Host.Outcome State Fault Refusal :=
  onWf s (.passEnd c e t dev) (passEndEffect s c e t dev)

def execVectorPlan (c e t : Nat) (s : State) : Host.Outcome State Fault Refusal :=
  onWf s (.vectorPlan c e t) (vectorPlanEffect s c e t)

def execVectorReissue (c e t : Nat) (s : State) : Host.Outcome State Fault Refusal :=
  onWf s (.vectorReissue c e t) (vectorReissueEffect s c e t)

def execTileReset (c e t : Nat) (s : State) : Host.Outcome State Fault Refusal :=
  onWf s (.tileReset c e t) (tileResetEffect s c e t)

def execTileEnableWrite (c e t : Nat) (v : Bool) (s : State) : Host.Outcome State Fault Refusal :=
  onWf s (.tileEnableWrite c e t v) (tileEnableEffect s c e t v)

def execTileDisableEffect (c e t : Nat) (s : State) : Host.Outcome State Fault Refusal :=
  onWf s (.tileDisableEffect c e t) (tileDisableEffect s c e t)

def execColmapWrite (c e t i v : Nat) (s : State) : Host.Outcome State Fault Refusal :=
  onWf s (.colmapWrite c e t i v) (colmapWriteEffect s c e t i v)

def execTileCfgWrite (c e t v : Nat) (s : State) : Host.Outcome State Fault Refusal :=
  onWf s (.tileCfgWrite c e t v) (tileCfgEffect s c e t v)

end Sys2Proof.Machine
end

