-- ==== Sys2Proof/Machine/Bank.lean ====
section
/-! DEFINITION. The bank family: writing and swapping banks, refresh, wear levelling, release (file 03). -/

namespace Sys2Proof.Machine

/-! ### Refresh (R61 to R67) -/

def refreshRowEffect (s : State) (c e t b : Nat) : State :=
  let y := (s.tile c e t).bank b
  if s.bankState c e t b ≠ 2 ∨ y.wr.isSome ∨ s.bankRows c e t b = 0 ∨ s.refreshHeld c e t then s
  else if s.computeBank c e t = b then
    (if y.due.isSome then s else s.modTile c e t (fun x => x.modBank b (fun z => { z with due := some z.sweep })))
  else s.refreshRowNow c e t b y.sweep

/-- A refresh slot at a pass boundary (R63). -/
def refreshSlotEffect (s : State) (c e t : Nat) : State :=
  let b := s.computeBank c e t
  let x := s.tile c e t
  match (x.bank b).due with
  | some r =>
    if x.splitting || s.refreshHeld c e t then s
    else (s.inc (engPg c e) ENG.REFRESH_SLOT_CNT).refreshRowNow c e t b r
  | none => s

/-! ### BANK_WRITE (R54 to R56) -/

def bankWriteEffect (s : State) (c e : Nat) : State :=
  match s.issuable c e 0x20 with
  | none => s
  | some d =>
    let tiles := maskTiles d.mask
    let left := tiles.flatMap (fun t => (s.writeTiles c e t).map (fun q => leftCode q t))
    let s := (s.issue c e d).addOp c e (EngOp.new d tiles left)
    (left.foldl (fun s k => s.startQueued c e (k / 32)) s).pump c

/-- A compiled write on a tile completes (R53, R55); the last of a command records its codes -8 and its poison. -/
def State.compiledDone (s : State) (c e t b : Nat) (w : BankWr) : State :=
  let p := engPg c e
  let named := match s.op c e w.tag with
    | some o => (o.left.find? (fun k => k / 32 == t)).getD (leftCode t t) % 32
    | none => t
  let two := s.twoSlice c e named b
  let s := (s.endWrite c e t b w (if w.resident then 2 else 1) w.limit).wrB (tilePg c e t) (sliceF b) two
  let s := s.modOp c e w.tag (fun o => { o with left := o.left.filter (fun k => k / 32 != t) })
  let s := match s.op c e w.tag with
    | some o =>
      if o.left.isEmpty then
        let s := if o.m8 = 0 then s else s.emitRep p 0x1035 0 o.m8
        match o.poisonAt with
        | some a => s.emit p 0x1036 a
        | none => s
      else s
    | none => s
  s.startQueued c e t

/-- A fill from a shadow or image completes: the bank takes the state of the bank it copies (R72, R130, R150). -/
def State.fillDone (s : State) (c e t b : Nat) (w : BankWr) : State :=
  let r := (s.eng c e).rot
  let src := if t = 16 then (match (s.eng c e).fillFor with
    | some f => f
    | none => r.tile) else 16
  let two := s.twoSlice c e src b
  let s := (s.endWrite c e t b w (if w.resident then 2 else 1) w.limit).wrB (tilePg c e t) (sliceF b) two
  if w.poisonHit then s.emit (engPg c e) 0x1036 (bankAddr e t b) else s

def bankWriteDoneEffect (s : State) (c e t b : Nat) : State :=
  match ((s.tile c e t).bank b).wr with
  | some w =>
    if w.kind = .compiled then s.compiledDone c e t b w
    else if w.kind = .fill then s.fillDone c e t b w else s
  | none => s

/-! ### BANK_SWAP (R58, R59, R71) -/

def bankSwapIssueEffect (s : State) (c e : Nat) : State :=
  match s.issuable c e 0x21 with
  | none => s
  | some d =>
    let tiles := maskTiles d.mask
    ((s.issue c e d).addOp c e (EngOp.new d tiles (tiles.map (fun t => leftCode (s.physTile c e t) t)))).pump c

/-- Work issued before on a tile of `tiles` that a swap waits for (R58, R110). -/
def swapWaits (ops : List EngOp) (o : EngOp) : Bool :=
  (opsBefore ops o.d.tag).any (fun q => (q.d.opcode == 0x20 || q.d.opcode == 0x40) && !q.left.isEmpty
    && q.tiles.any (fun t => o.tiles.contains t))

/-- The incoming bank of a physical tile forbids a swap (R59). -/
def State.swapBad (s : State) (c e t : Nat) : Bool :=
  let b := 1 - s.computeBank c e t
  s.bankState c e t b == 0 || (((s.tile c e t).bank b).wr.any (fun w => w.kind == .wear))

def bankSwapJudgeEffect (s : State) (c e : Nat) : State :=
  match (s.eng c e).ops.find? (fun o => o.d.opcode == 0x21 && !o.judged) with
  | none => s
  | some o =>
    if swapWaits (s.eng c e).ops o then s
    else if o.left.any (fun k => s.swapBad c e (k / 32)) then
      ((s.dropOp c e o.d.tag).irq (engPg c e) 4).haltFault c (engPg c e) 0x1034 0 o.d.addr
    else s.modOp c e o.d.tag (fun q => { q with judged := true })

/-- The tile's compute and idle bank change places; a sample under way cannot be repeated (R58, R149). -/
def State.flipBank (s : State) (c e t : Nat) : State :=
  let b := s.computeBank c e t
  (s.wr (tilePg c e t) TILE.CFG_COMPUTE_BANK (1 - b)).modTile c e t
    (fun x => ({ x with epoch := x.epoch + 1 }).modBank b (fun y => { y with due := none }))

def bankSwapTileEffect (s : State) (c e t : Nat) : State :=
  let ops := (s.eng c e).ops
  match ops.find? (fun o => o.d.opcode == 0x21 && o.left.any (fun k => k / 32 == t)) with
  | none => s
  | some o =>
    let x := s.tile c e t
    let before := opsBefore ops o.d.tag
    if !o.judged || x.splitting || x.vecs.any (fun v => !v.finished && before.any (fun q => q.d.tag == v.tag)) then s
    else (s.flipBank c e t).modOp c e o.d.tag (fun q => { q with left := q.left.filter (fun k => k / 32 != t) })

/-! ### Wear levelling (R70, R71) -/

def wearStartEffect (s : State) (c e t : Nat) : State :=
  let p := engPg c e
  let x := s.tile c e t
  let b := s.computeBank c e t
  let r := (s.eng c e).rot
  let minutes := max 1 (s.rd p ENG.WEAR_CTRL_PERIOD)
  let recent := match x.lastWear with
    | some w => decide (s.now < w + minutes * 60 * ticksS)
    | none => false
  if s.coreStopped c || !s.rdB p ENG.WEAR_CTRL_ENABLE || s.bankState c e t b != 2 || s.bankState c e t (1 - b) != 0 || recent
      || (x.bank (1 - b)).wr.isSome || x.resetAt.isSome || x.wearPhase != 0 || (s.eng c e).fillFor == some t
      || (r.phase != .idle && r.tile == t) || s.rd (tilePg c e 16) TILE.STAT_STANDIN_FOR == t then s
  else
    let (s, _, _) := s.beginWrite c e t (1 - b) .wear (s.bankRows c e t b) (s.rdA p (ENG.BANK_STATE_SHADOW (bkey t b))) true
      (s.rd (tilePg c e t) (limitF b)) 63
    s.modTile c e t (fun y => { y with wearPhase := 1 })

/-- The incoming bank takes the compute bank's state, slice mode and outlier set in one update. -/
def wearWriteDoneEffect (s : State) (c e t : Nat) : State :=
  let x := s.tile c e t
  let b := s.computeBank c e t
  let p := engPg c e
  match (x.bank (1 - b)).wr with
  | some w =>
    if w.kind ≠ .wear ∨ x.wearPhase ≠ 1 then s
    else
      let k := bkey t b
      let k' := bkey t (1 - b)
      let s := (s.endWrite c e t (1 - b) w 2 (s.rd (tilePg c e t) (limitF b))).wrB (tilePg c e t) (sliceF (1 - b)) (s.twoSlice c e t b)
      let s := ((s.wr p (ENG.OUTL_SET_STATE k') (s.rd p (ENG.OUTL_SET_STATE k))).wr p (ENG.OUTL_SET_SPARSE_N k')
        (s.rd p (ENG.OUTL_SET_SPARSE_N k))).wr p (ENG.OUTL_SET_STATIC_N k') (s.rd p (ENG.OUTL_SET_STATIC_N k))
      let set := s.outSet c e t b
      let s := (s.modEng c e (fun y => { y with osets := mput y.osets k' set })).modTile c e t (fun y => { y with wearPhase := 2 })
      if w.poisonHit then s.emit p 0x1036 (bankAddr e t (1 - b)) else s
  | none => s

/-- The swap of a wear-levelling move at a pass boundary; the vacated bank becomes EMPTY. -/
def wearSwapEffect (s : State) (c e t : Nat) : State :=
  let x := s.tile c e t
  if x.wearPhase ≠ 2 ∨ x.vecs.any (fun v => v.planned && !v.finished) then s
  else
    let b := s.computeBank c e t
    let s := ((s.flipBank c e t).emptyBank c e t b).emptySet c e t b
    (s.inc (engPg c e) ENG.WEAR_SWAP_CNT).modTile c e t (fun y => { y with wearPhase := 0, lastWear := some s.now })

/-! ### BANK_RELEASE (R74) -/

def bankReleaseEffect (s : State) (c e v : Nat) : State :=
  let p := engPg c e
  let t := field v 0 5
  let b := field v 8 1
  if 16 < t ∨ s.computeBank c e t = b ∨ s.rdB p (ENG.BANK_STATE_WRITING (bkey t b)) then s.refuse p
  else
    let s := s.emptyBank c e t b
    s.modTile c e t (fun x => if x.wearPhase = 2 then { x with wearPhase := 0, lastWear := some s.now } else x)

/-- The reset of a tile ends 64 ACLK after its trigger (R333): refresh resumes, waiting writes start. -/
def tileResetEndEffect (s : State) (c e t : Nat) : State :=
  if (s.tile c e t).resetAt.isNone then s
  else (s.modTile c e t (fun x => { x with resetAt := none })).startQueued c e t

/-! ### Meanings -/

def execRefreshRow (c e t b : Nat) (s : State) : Host.Outcome State Fault Refusal :=
  onWf s (.refreshRow c e t b) (refreshRowEffect s c e t b)

def execRefreshSlot (c e t : Nat) (s : State) : Host.Outcome State Fault Refusal :=
  onWf s (.refreshSlot c e t) (refreshSlotEffect s c e t)

def execBankWrite (c e : Nat) (s : State) : Host.Outcome State Fault Refusal :=
  onWf s (.bankWrite c e) (bankWriteEffect s c e)

def execBankWriteDone (c e t b : Nat) (s : State) : Host.Outcome State Fault Refusal :=
  onWf s (.bankWriteDone c e t b) (bankWriteDoneEffect s c e t b)

def execBankSwap (c e : Nat) (s : State) : Host.Outcome State Fault Refusal :=
  onWf s (.bankSwap c e) (bankSwapIssueEffect s c e)

def execBankSwapJudge (c e : Nat) (s : State) : Host.Outcome State Fault Refusal :=
  onWf s (.bankSwapJudge c e) (bankSwapJudgeEffect s c e)

def execBankSwapEffect (c e t : Nat) (s : State) : Host.Outcome State Fault Refusal :=
  onWf s (.bankSwapEffect c e t) (bankSwapTileEffect s c e t)

def execWearMoveStart (c e t : Nat) (s : State) : Host.Outcome State Fault Refusal :=
  onWf s (.wearMoveStart c e t) (wearStartEffect s c e t)

def execWearMoveWriteDone (c e t : Nat) (s : State) : Host.Outcome State Fault Refusal :=
  onWf s (.wearMoveWriteDone c e t) (wearWriteDoneEffect s c e t)

def execWearMoveSwap (c e t : Nat) (s : State) : Host.Outcome State Fault Refusal :=
  onWf s (.wearMoveSwap c e t) (wearSwapEffect s c e t)

def execBankRelease (c e v : Nat) (s : State) : Host.Outcome State Fault Refusal :=
  onWf s (.bankRelease c e v) (bankReleaseEffect s c e v)

def execTileResetEnd (c e t : Nat) (s : State) : Host.Outcome State Fault Refusal :=
  onWf s (.tileResetEnd c e t) (tileResetEndEffect s c e t)

end Sys2Proof.Machine
end

