-- ==== Sys2Proof/Machine/Float.lean ====
section
/-! DEFINITION. FP32, BF16, FP16, E4M3 and E2M1 as bit patterns: exact values are dyadic numbers m·2^e, and an operation forms
the exact result and rounds once (R103, R104, R112, R121, R122). -/

namespace Sys2Proof.Machine

/-- The exact value m·2^e. -/
structure Dy where
  m : Int
  e : Int
deriving DecidableEq, Repr

/-- Both mantissas at the smaller exponent. -/
def Dy.align (a b : Dy) : Int × Int × Int :=
  if a.e ≤ b.e then (a.m, b.m * 2 ^ (b.e - a.e).toNat, a.e) else (a.m * 2 ^ (a.e - b.e).toNat, b.m, b.e)

def Dy.zero : Dy := ⟨0, 0⟩
def Dy.ofInt (i : Int) : Dy := ⟨i, 0⟩
def Dy.add (a b : Dy) : Dy := let (x, y, e) := a.align b; ⟨x + y, e⟩
def Dy.mul (a b : Dy) : Dy := ⟨a.m * b.m, a.e + b.e⟩
def Dy.neg (a : Dy) : Dy := ⟨-a.m, a.e⟩
def Dy.sub (a b : Dy) : Dy := a.add b.neg
def Dy.abs (a : Dy) : Dy := ⟨a.m.natAbs, a.e⟩
def Dy.le (a b : Dy) : Bool := let (x, y, _) := a.align b; decide (x ≤ y)
def Dy.lt (a b : Dy) : Bool := let (x, y, _) := a.align b; decide (x < y)
def Dy.isZero (a : Dy) : Bool := a.m == 0
def Dy.sum (l : List Dy) : Dy := l.foldl Dy.add .zero

/-- Round m·2^e (with `sticky`: strictly above m·2^e and below (m+1)·2^e) to `p` bits with smallest exponent `q0` of a unit;
mode 0 nearest even, 1 away from zero. Answer: mantissa and unit exponent. -/
def roundMant (p : Nat) (q0 : Int) (m : Nat) (e : Int) (sticky : Bool) (mode : Nat) : Nat × Int :=
  let q := max ((m.log2 : Int) + e - ((p : Int) - 1)) q0
  if q ≤ e then (m * 2 ^ (e - q).toNat, q)
  else
    let d := (q - e).toNat
    let k := m / 2 ^ d
    let r := m % 2 ^ d
    let half := 2 ^ (d - 1)
    let up := if mode = 1 then r != 0 || sticky
      else decide (half < r) || (r == half && (sticky || k % 2 == 1))
    let k := if up then k + 1 else k
    if k = 2 ^ p then (2 ^ (p - 1), q + 1) else (k, q)

/-- A binary format: precision, smallest normal exponent, exponent field width. -/
structure Fmt where
  p : Nat
  emin : Int
  ew : Nat
deriving DecidableEq, Repr

def F32 : Fmt := ⟨24, -126, 8⟩
def BF16 : Fmt := ⟨8, -126, 8⟩
def F16 : Fmt := ⟨11, -14, 5⟩

/-- The pattern of ±m·2^e rounded; too large a value becomes infinity. -/
def Fmt.pack (f : Fmt) (neg : Bool) (m : Nat) (e : Int) (sticky : Bool := false) (mode : Nat := 0) : Nat :=
  let sgn := toBit neg * 2 ^ (f.ew + f.p - 1)
  if m = 0 then sgn
  else
    let (k, q) := roundMant f.p (f.emin - (f.p - 1)) m e sticky mode
    if k < 2 ^ (f.p - 1) then sgn + k
    else
      let be := (q - (f.emin - (f.p - 1)) + 1).toNat
      if 2 ^ f.ew - 1 ≤ be then sgn + (2 ^ f.ew - 1) * 2 ^ (f.p - 1) else sgn + be * 2 ^ (f.p - 1) + (k - 2 ^ (f.p - 1))

/-- The kinds of a pattern's value. -/
inductive FVal where
  | fin (neg : Bool) (m : Nat) (e : Int)
  | inf (neg : Bool)
  | nan
deriving DecidableEq, Repr

def Fmt.unpack (f : Fmt) (x : Nat) : FVal :=
  let neg := x.testBit (f.ew + f.p - 1)
  let be := field x (f.p - 1) f.ew
  let fr := x % 2 ^ (f.p - 1)
  if be = 2 ^ f.ew - 1 then (if fr = 0 then .inf neg else .nan)
  else if be = 0 then .fin neg fr (f.emin - (f.p - 1))
  else .fin neg (fr + 2 ^ (f.p - 1)) (f.emin - (f.p - 1) + (be - 1))

def FVal.dy : FVal → Dy
  | .fin neg m e => ⟨if neg then -(m : Int) else m, e⟩
  | _ => .zero

def FVal.isFin : FVal → Bool
  | .fin .. => true
  | _ => false

def FVal.isNan : FVal → Bool
  | .nan => true
  | _ => false

def Fmt.ofDy (f : Fmt) (d : Dy) (mode : Nat := 0) : Nat := f.pack (d.m < 0) d.m.natAbs d.e false mode

/-- A NaN of FP32 whose payload and sign are free (log 11). -/
def nan32 (a b : Nat) : Nat :=
  0x7F800001 + Config.nanRaw a b % (2 ^ 23 - 1) + 2 ^ 31 * (Config.nanRaw a b / (2 ^ 23 - 1) % 2)

def inf32 (neg : Bool) : Nat := 0x7F800000 + toBit neg * 2 ^ 31

/-- FP32 addition, nearest even. -/
def fadd (a b : Nat) : Nat :=
  match F32.unpack a, F32.unpack b with
  | .nan, _ => nan32 a b
  | _, .nan => nan32 a b
  | .inf s, .inf t => if s = t then a else nan32 a b
  | .inf _, _ => a
  | _, .inf _ => b
  | .fin s m e, .fin t n g =>
    if m = 0 ∧ n = 0 then (if s ∧ t then 2 ^ 31 else 0)
    else
      let d := Dy.add ⟨if s then -(m : Int) else m, e⟩ ⟨if t then -(n : Int) else n, g⟩
      F32.ofDy d

def fneg (a : Nat) : Nat := a ^^^ 2 ^ 31
def fsub (a b : Nat) : Nat := fadd a (fneg b)

/-- FP32 multiplication, nearest even. -/
def fmul (a b : Nat) : Nat :=
  match F32.unpack a, F32.unpack b with
  | .nan, _ => nan32 a b
  | _, .nan => nan32 a b
  | .inf s, .inf t => inf32 (s != t)
  | .inf s, .fin t n _ => if n = 0 then nan32 a b else inf32 (s != t)
  | .fin s m _, .inf t => if m = 0 then nan32 a b else inf32 (s != t)
  | .fin s m e, .fin t n g => F32.pack (s != t) (m * n) (e + g)

/-- FP32 division, nearest even. -/
def fdiv (a b : Nat) : Nat :=
  match F32.unpack a, F32.unpack b with
  | .nan, _ => nan32 a b
  | _, .nan => nan32 a b
  | .inf _, .inf _ => nan32 a b
  | .inf s, .fin t _ _ => inf32 (s != t)
  | .fin s _ _, .inf t => toBit (s != t) * 2 ^ 31
  | .fin s m e, .fin t n g =>
    if n = 0 then (if m = 0 then nan32 a b else inf32 (s != t))
    else
      let x := m * 2 ^ 64
      F32.pack (s != t) (x / n) (e - g - 64) (x % n != 0)

/-- a < b as FP32 values; false with a NaN. -/
def flt (a b : Nat) : Bool :=
  match F32.unpack a, F32.unpack b with
  | .nan, _ => false
  | _, .nan => false
  | .inf s, .inf t => s && !t
  | .inf s, _ => s
  | _, .inf t => !t
  | x, y => x.dy.lt y.dy

def fmax (a b : Nat) : Nat := if flt a b then b else a

def f32OfInt (i : Int) : Nat := F32.ofDy (.ofInt i)
def f32OfBf16 (x : Nat) : Nat := (x % 2 ^ 16) * 2 ^ 16

/-- FP32 to a narrower format, nearest even; NaN stays a NaN. -/
def Fmt.of32 (f : Fmt) (x : Nat) : Nat :=
  match F32.unpack x with
  | .nan => (2 ^ f.ew - 1) * 2 ^ (f.p - 1) + 2 ^ (f.p - 2)
  | .inf s => toBit s * 2 ^ (f.ew + f.p - 1) + (2 ^ f.ew - 1) * 2 ^ (f.p - 1)
  | .fin s m e => f.pack s m e

/-- A narrower format to FP32, exact. -/
def Fmt.to32 (f : Fmt) (x : Nat) : Nat :=
  match f.unpack x with
  | .nan => nan32 x 0
  | .inf s => inf32 s
  | .fin s m e => F32.pack s m e

def bf16Rne (x : Nat) : Nat := BF16.of32 x
def f16To32 (x : Nat) : Nat := F16.to32 x

/-- fp16_round_up of R104: towards +∞, at least 2^-24 unless zero; none above 65,504. `num / den` is the exact positive value
with num dyadic. -/
def fp16Up (num : Dy) (den : Nat) : Option Nat :=
  if num.m = 0 then some 0
  else
    let x := num.m.natAbs * 2 ^ 64
    let r := F16.pack false (x / den) (num.e - 64) (x % den != 0) 1
    if 0x7C00 ≤ r then none else some (max r 1)

/-- fp16_round_up where the rules name no limit: above the largest value, infinity (R122). -/
def fp16UpInf (num : Dy) (den : Nat) : Nat := (fp16Up num den).getD 0x7C00

/-- E4M3 (R121): bias 7, no infinities, NaN S.1111.111. Encode from FP32: pattern and whether it saturated. -/
def e4m3Enc (x : Nat) : Nat × Bool :=
  match F32.unpack x with
  | .nan => (0x7F, false)
  | .inf s => (0x7E + toBit s * 0x80, true)
  | .fin s m e =>
    if m = 0 then (toBit s * 0x80, false)
    else
      let (k, q) := roundMant 4 (-9) m e false 0
      let v := k * 2 ^ (q + 9).toNat
      if 448 * 512 < v then (0x7E + toBit s * 0x80, true)
      else if k < 8 then (toBit s * 0x80 + k, false)
      else (toBit s * 0x80 + ((q + 9).toNat + 1) * 8 + (k - 8), false)

def e4m3Dec (x : Nat) : FVal :=
  let neg := x.testBit 7
  let be := field x 3 4
  let fr := x % 8
  if be = 15 ∧ fr = 7 then .nan
  else if be = 0 then .fin neg fr (-9) else .fin neg (fr + 8) (-9 + ((be : Int) - 1))

def FVal.to32 : FVal → Nat
  | .nan => nan32 0x7F 0
  | .inf s => inf32 s
  | .fin s m e => F32.pack s m e

def e4m3To32 (x : Nat) : Nat := (e4m3Dec x).to32

/-- FP4 E2M1 of MXFP4: 1 sign, 2 exponent (bias 1), 1 mantissa. -/
def e2m1Dec (x : Nat) : Dy :=
  let be := field x 1 2
  let fr := x % 2
  let m : Int := if be = 0 then fr else fr + 2
  ⟨if x.testBit 3 then -m else m, if be = 0 then -1 else (be : Int) - 2⟩

/-- clamp(round_half_away(w / s), -q, q) with w and s dyadic, s > 0. -/
def quantCode (w s : Dy) (q : Int) : Int :=
  let (x, y, _) := w.align s
  clampI (-q) q (if y = 0 then 0 else roundAway x y)

/-- A KV4 block of 32 FP32 values: scale pattern and codes (R122). -/
def kv4Block (v : List Nat) : Nat × List Int :=
  if v.any (fun x => !(F32.unpack x).isFin) then (0x7E00, v.map (fun _ => 0))
  else
    let d := v.map (fun x => (F32.unpack x).dy)
    let m := d.foldl (fun a x => if a.lt x.abs then x.abs else a) .zero
    let s := fp16UpInf m 7
    let sd := (F16.unpack s).dy
    (s, d.map (fun x => if sd.isZero then 0 else quantCode x sd 7))

/-- exp of a finite dyadic, correctly rounded to FP32 from a 2^-96 approximation (log 12): argument reduced by ln 2, then
the power series in fixed point. -/
def ln2fix : Nat := 54916777467707473351141471128

def expSeries (x : Int) : Nat → Int → Int → Int
  | 0, _, acc => acc
  | n + 1, t, acc =>
    let k : Int := 41 - (n + 1)
    let t := t * x / (k * 2 ^ 96)
    expSeries x n t (acc + t)

def fexpDy (d : Dy) : Nat :=
  let x : Int := if 0 ≤ d.e then (if 12 < d.e then (if d.m < 0 then -(2 ^ 110) else if d.m = 0 then 0 else 2 ^ 110) else d.m * 2 ^ d.e.toNat * 2 ^ 96)
    else d.m * 2 ^ 96 / 2 ^ (-d.e).toNat
  if x < -(200 * 2 ^ 96) then 0
  else if 200 * 2 ^ 96 < x then inf32 false
  else
    let k := x / ln2fix
    let r := x - k * ln2fix
    let v := expSeries r 40 (2 ^ 96) (2 ^ 96)
    F32.pack false v.toNat (k - 96) true

/-- FP32 exponential. -/
def fexp (a : Nat) : Nat :=
  match F32.unpack a with
  | .nan => nan32 a 0
  | .inf s => if s then 0 else inf32 false
  | .fin s m e => if m = 0 then 0x3F800000 else fexpDy ⟨if s then -(m : Int) else m, e⟩

end Sys2Proof.Machine
end

