-- ==== Sys2Proof/Machine/Engine.lean ====
section
/-! DEFINITION. The engine family: matrix commands, the thresher, the glume path, outlier sets, completion (files 04, 05). -/

namespace Sys2Proof.Machine

/-! ### Accumulation (R75, R76, R79 to R83) -/

/-- The lane values a conversion gives: value, SAT, POISON (R75, R76). -/
def laneValues (two : Bool) (scale : Int) : List LaneCode → List (Int × Bool × Bool)
  | [] => []
  | [a] => if two then [] else [(scale * a.code, a.sat, a.poison)]
  | a :: b :: l =>
    if two then (scale * (8 * a.code + b.code), a.sat || b.sat, a.poison || b.poison) :: laneValues two scale l
    else (scale * a.code, a.sat, a.poison) :: laneValues two scale (b :: l)

/-- The lanes that a command uses (R75, R177). -/
def usedLanes (two : Bool) (cols : Nat) : Nat := if two then min cols 128 else cols

/-- A lane takes a lane value (R80, R82, R83); whether it took SAT. -/
def AccLane.take (l : AccLane) (v : Int × Bool × Bool) : AccLane × Bool :=
  let n := l.narrow + v.1
  let ovr := !l.npin && (decide (n < -524288) || decide (524287 < n))
  ({ l with
    narrow := if l.npin then l.narrow else clampI (-524288) 524287 n,
    sat := l.sat || v.2.1 || ovr, poison := l.poison || v.2.2, npin := l.npin || ovr }, v.2.1 || ovr)

/-- Add a value into the wide accumulator at 32 bits (R82); whether it saturated. A pinned lane keeps its value. -/
def AccLane.addWide (l : AccLane) (v : Int) : AccLane × Bool :=
  if l.pin then (l, false)
  else
    let w := l.wide + v
    if w < -2147483648 ∨ 2147483647 < w then ({ l with wide := clampI (-2147483648) 2147483647 w, sat := true, pin := true }, true)
    else ({ l with wide := w }, false)

/-- A lane's promotion (R80). -/
def AccLane.promote (l : AccLane) : AccLane × Bool :=
  let (l, o) := l.addWide l.narrow
  ({ l with narrow := 0, npin := false }, o)

/-- The numbers of the lanes for which `f` holds. -/
def lanesWhere (l : List Bool) : List Nat := (l.zipIdx.filter (fun x => x.1)).map (fun x => x.2)

/-- Lane numbers added to a list without repeats. -/
def addLanes (old new : List Nat) : List Nat := old ++ new.filter (fun x => !old.contains x)

/-- A reduction under way: lanes, additions since the last promotion, lanes saturated narrow and wide, promotions, those by
headroom alone. -/
structure AccRun where
  lanes : List AccLane
  adds : Nat
  satN : List Nat
  satW : List Nat
  promos : Nat
  head : Nat
deriving DecidableEq, Repr

def AccRun.promote (r : AccRun) : AccRun :=
  let x := r.lanes.map AccLane.promote
  { r with lanes := x.map (fun y => y.1), adds := 0, satW := addLanes r.satW (lanesWhere (x.map (fun y => y.2))), promos := r.promos + 1 }

/-- One round (R78, R80): the sums of the tiles' lane values, into the first lanes; then a promotion where one is due. -/
def AccRun.round (r : AccRun) (p : Nat) (headroom : Bool) (vals : List (Int × Bool × Bool)) : AccRun :=
  let x := List.zipWith AccLane.take r.lanes vals
  let lanes := x.map (fun y => y.1) ++ r.lanes.drop x.length
  let r := { r with lanes := lanes, adds := r.adds + 1, satN := addLanes r.satN (lanesWhere (x.map (fun y => y.2))) }
  if p ≤ r.adds then r.promote
  else if headroom && lanes.any (fun l => decide (131072 ≤ l.narrow.natAbs)) then
    let q := r.promote
    { q with head := q.head + 1 }
  else r

/-- Add two rows of lane values. -/
def addVals (a b : List (Int × Bool × Bool)) : List (Int × Bool × Bool) :=
  List.zipWith (fun x y => (x.1 + y.1, x.2.1 || y.2.1, x.2.2 || y.2.2)) a b

/-- The rounds of a group: round k adds the k-th lane values of its tiles (R78). -/
def roundsOf (n : Nat) (tiles : List (List (List (Int × Bool × Bool)))) : List (List (Int × Bool × Bool)) :=
  (List.range (maxN (tiles.map List.length))).map (fun k =>
    tiles.foldl (fun acc t => match t[k]? with
      | some v => addVals acc v
      | none => acc) (List.replicate n (0, false, false)))

/-- The lane values a vector delivers, a re-issued conversion twice (R117). -/
def Vec.values (v : Vec) (two : Bool) (n : Nat) : List (List (Int × Bool × Bool)) :=
  v.out.flatMap (fun o =>
    let x := (laneValues two o.scale o.lanes).take n
    if o.twice then [x, x] else [x])

/-- Counters and event bits that lanes newly saturated or poisoned raise (R82, R83). -/
def State.laneEvents (s : State) (c e a : Nat) (satN satW poison : Nat) : State :=
  let p := engPg c e
  let s := if satN = 0 then s else ((s.inc p ENG.SATN_LANE_CNT satN).wr p (ENG.ACC_TILE_SAT_N a) 1).engEvt p ENG.ACC_EVT_SAT_N
  let s := if satW = 0 then s else ((s.inc p ENG.SATW_LANE_CNT satW).wr p (ENG.ACC_TILE_SAT_W a) 1).engEvt p ENG.ACC_EVT_SAT_W
  if poison = 0 then s else ((s.inc p ENG.POISON_LANE_CNT poison).wr p (ENG.ACC_TILE_POISON a) 1).engEvt p ENG.ACC_EVT_POISON

/-- The ACC_SAT record of a command in which lanes took SAT (R82). -/
def State.satRecord (s : State) (c e : Nat) (lanes : List Nat) : State :=
  if lanes.isEmpty then s else s.emitRep (engPg c e) 0x2021 0 lanes.length

def poisonLanes (l : List AccLane) : Nat := (l.filter (fun x => x.poison)).length

/-! ### MVM and MVM_ACC at issue (R32, R56, R68, R77, R84, R92, R93, R111, R177, R431) -/

/-- A tile of the mask for which the command waits: it is being replaced (R150), or its banks are being rewritten (R135). -/
def State.tileWaits (s : State) (c e t : Nat) : Bool :=
  let x := s.eng c e
  !s.rdB (tilePg c e t) TILE.CTRL_ENABLE && (x.fillFor == some t
    || (x.rot.phase == .ret && x.rot.tile == t && s.rd (tilePg c e 16) TILE.STAT_STANDIN_FOR != t))

/-- A tile of the mask is in service for a command (R431). -/
def State.tileServes (s : State) (c e t : Nat) : Bool :=
  s.rdB (tilePg c e t) TILE.CTRL_ENABLE || (t != 16 && s.rd (tilePg c e 16) TILE.STAT_STANDIN_FOR == t)

/-- The largest AGE_US among the STREAMED compute banks of the mask (R68). -/
def State.worstAge (s : State) (c e : Nat) (tiles : List Nat) : Nat :=
  maxN (tiles.map (fun t => let q := s.physTile c e t; s.ageUs c e q (s.computeBank c e q)))

/-- The side block's first 64 bytes are refused (R111). -/
def State.sideBad (s : State) (c off : Nat) : Bool :=
  let dest := s.csNat c (off + 4) 4
  s.csBad c off 64 || field dest 25 7 != 0 || field dest 3 3 != 0 || s.csNat c (off + 9) 55 != 0
    || decide (csLimit < field dest 6 19 * 64 + 1088)

/-- Clear an accumulator tile (R84). -/
def State.clearAcc (s : State) (c e a : Nat) : State :=
  let p := engPg c e
  let x := s.acc c e a
  ((((s.setAcc c e a { AccTile.init with p := x.p }).wr p (ENG.ACC_TILE_SAT_N a) 0).wr p (ENG.ACC_TILE_SAT_W a) 0).wr p
    (ENG.ACC_TILE_POISON a) 0).wr p (ENG.ACC_TILE_ADDS a) 0

/-- The vector of tile `t`, segment `i` of the input. -/
def State.newVec (s : State) (c : Nat) (d : Desc) (t i : Nat) (side : Nat) (forced : Bool) : Vec :=
  let seg := segBytes d.mode d.rows
  let a := d.cs + i * seg
  let bytes := s.csRead c a seg
  let dest := s.csNat c (side + 4) 4
  let dm := s.csNat c (side + 8) 1
  { tag := d.tag, named := t, mode := d.mode, cols := d.cols, dynMax := if 8 ≤ dm ∧ dm ≤ 127 then dm else 127,
    dynEn := bit dest 2, reissueEn := bit dest 1,
    elems := (List.range d.rows).map (elemAt bytes d.mode),
    poisonRows := if s.csBad c a seg then
        (List.range d.rows).filter (fun r => s.csBad c (a + (if d.mode = 2 then r / 2 else r)) 1) else [],
    forced := forced, planned := false, reissue := false, reissued := false, driven := [], routed := [], passes := [],
    splits := [], cur := none, curStart := 0, budget := 0, budgetOut := false, clipped := 0, ovf := false, bank := 0,
    two := false, img := 0, oset := .empty, out := [], finished := false, reduced := false }

/-- The command runs: it owns its accumulator tile, and each tile gets its vector. -/
def State.startMvm (s : State) (c e : Nat) (d : Desc) (two clear : Bool) : State :=
  let p := engPg c e
  let tiles := maskTiles d.mask
  let side := d.sideOff
  let every := promoteEvery d.accMode (s.rd p ENG.ACC_CTRL_P)
  let s := s.own c e d
  let s := if clear then s.clearAcc c e d.acc else s
  let s := s.setAcc c e d.acc { s.acc c e d.acc with p := every }
  let s := s.csTouch c d.cs (side + 64 + 64 * tiles.length - d.cs)
  let dest := s.csNat c (side + 4) 4
  let o : EngOp := { EngOp.new d tiles [] with
    groups := runs (groupSize two d.group) 17 tiles, p := every, two := two, sx := s.csNat c side 4, dest := field dest 6 19 * 64,
    add := bit dest 0,
    acts := (List.range tiles.length).map (fun n => let a := side + 64 + 64 * n
      ((List.range 32).map (fun k => s.csNat c (a + 2 * k) 2), (List.range 8).map (fun w => s.csBad c (a + 8 * w) 8))) }
  let force := (s.eng c e).force
  let s := tiles.zipIdx.foldl (fun s x =>
    let v := s.newVec c d x.1 x.2 side (force.contains x.1)
    s.modTile c e (s.physTile c e x.1) (fun y => { y with vecs := y.vecs ++ [v] })) s
  (s.addOp c e o).modEng c e (fun x => { x with glume := x.glume ++ [d.tag], force := x.force.filter (fun t => !tiles.contains t) })

def mvmEffect (s : State) (c e op : Nat) (clear : Bool) : State :=
  match s.issuable c e op with
  | none => s
  | some d =>
    let tiles := maskTiles d.mask
    if tiles.any (fun t => s.tileWaits c e t) then s
    else
      let p := engPg c e
      let slice := tiles.map (fun t => let q := s.physTile c e t; s.twoSlice c e q (s.computeBank c e q))
      let two := slice.getD 0 false
      let age := s.worstAge c e tiles
      let iv := s.intervalUs c e
      let lim := s.rd p ENG.REFRESH_CTRL_STALE_LIMIT
      let s := s.issue c e d
      if s.rdB p (ENG.ACC_TILE_BUSY d.acc) then s.accRefuse c e d
      else match tiles.find? (fun t => !s.tileServes c e t) with
        | some t => s.refuseOp c e d 0x1037 (tileAddr e t)
        | none =>
          if slice.any (fun b => b != two) then s.refuseOp c e d 0x2012 0
          else if lim ≠ 0 ∧ lim * iv < age then (s.irq p 4).refuseOp c e d 0x1033 0
          else if s.sideBad c d.sideOff then (s.engEvt p ENG.OUTL_EVT_MALFORMED).refuseOp c e d 0x3021 0
          else
            let s := if iv < age then ((s.inc p ENG.STALE_CNT).irq p 3).emit p 0x1032 0 else s
            (s.startMvm c e d two clear).pump c

/-! ### The thresher (R77 to R83) -/

/-- Every tile of a group has delivered all of the vector's conversions, none of them held (R78, R148). -/
def State.groupReady (s : State) (c e tag : Nat) (g : List Nat) : Bool :=
  g.all (fun t => match s.vec c e tag t with
    | some v => v.finished && v.out.all (fun o => !o.held)
    | none => true)

/-- The last group is reduced: the accumulator tile is given up (R92, R114). -/
def State.thresherEnd (s : State) (c e : Nat) (o : EngOp) : State :=
  let n := usedLanes o.two o.d.cols
  let a := o.d.acc
  let x := s.acc c e a
  let s := if !o.lostRows then s
    else
      let lanes := x.lanes.zipIdx.map (fun l => if l.2 < n then { l.1 with poison := true } else l.1)
      (s.setAcc c e a { x with lanes := lanes }).laneEvents c e a 0 0 (poisonLanes lanes - poisonLanes x.lanes)
  let s := (s.satRecord c e (addLanes o.satN o.satW)).disown c e a
  let now := s.now
  s.modOp c e o.d.tag (fun q => { q with thresherDone := true, doneAt := now })

/-- The next group of a matrix command is ready for the thresher. -/
def State.opReady (s : State) (c e : Nat) (o : EngOp) : Bool :=
  (o.d.opcode == 0x10 || o.d.opcode == 0x11) && (match o.groups with
    | g :: _ => s.groupReady c e o.d.tag g
    | [] => false)

def groupReduceEffect (s : State) (c e : Nat) : State :=
  match (s.eng c e).ops.find? (s.opReady c e) with
  | none => s
  | some o =>
    match o.groups with
    | [] => s
    | g :: rest =>
      let p := engPg c e
      let a := o.d.acc
      let n := usedLanes o.two o.d.cols
      let x := s.acc c e a
      let vals := roundsOf n (g.map (fun t => match s.vec c e o.d.tag t with
        | some v => v.values o.two n
        | none => []))
      let head := s.rdB p ENG.ACC_CTRL_HEADROOM_EN
      let run0 : AccRun :=
        { lanes := x.lanes, adds := s.rd p (ENG.ACC_TILE_ADDS a), satN := o.satN, satW := o.satW, promos := 0, head := 0 }
      let run := vals.foldl (fun r v => r.round o.p head v) run0
      let s := (s.setAcc c e a { x with lanes := run.lanes }).wr p (ENG.ACC_TILE_ADDS a) run.adds
      let s := ((s.inc p ENG.ROUND_CNT vals.length).inc p ENG.PROMOTE_CNT run.promos).inc p ENG.HEADROOM_CNT run.head
      let s := s.laneEvents c e a (run.satN.length - o.satN.length) (run.satW.length - o.satW.length)
        (poisonLanes run.lanes - poisonLanes x.lanes)
      let s := g.foldl (fun s t => s.modVec c e o.d.tag t (fun v => { v with reduced := true, out := [] })) s
      let o' := { o with groups := rest, satN := run.satN, satW := run.satW }
      let s := s.modOp c e o.d.tag (fun _ => o')
      if rest.isEmpty then s.thresherEnd c e o' else s

/-! ### The glume path (R112, R113) -/

/-- BF16 pattern of an integer times an FP32 value, rounded once to nearest even. -/
def bf16Scale (i : Int) (sx : Nat) : Nat :=
  match F32.unpack sx with
  | .fin s m e =>
    let k := i * (if s then -(m : Int) else m)
    if k = 0 then BF16.pack (decide (i < 0) != s) 0 0 else BF16.ofDy ⟨k, e⟩
  | _ => bf16Rne (fmul (f32OfInt i) sx)

/-- BF16_RNE(code × σ + ρ): σ an FP16 pattern, ρ the sum of the row's residuals. -/
def bf16Weight (code : Int) (sigma : Nat) (rho : List Nat) : Nat :=
  let r := rho.map (fun x => BF16.unpack x)
  match F16.unpack sigma with
  | .fin s m e =>
    if r.all FVal.isFin then BF16.ofDy (Dy.add ⟨code * (if s then -(m : Int) else m), e⟩ (Dy.sum (r.map FVal.dy)))
    else bf16Rne (rho.foldl (fun a x => fadd a (f32OfBf16 x)) (fmul (f32OfInt code) (F16.to32 sigma)))
  | _ => bf16Rne (rho.foldl (fun a x => fadd a (f32OfBf16 x)) (fmul (f32OfInt code) (F16.to32 sigma)))

/-- The product of two BF16 values, added into an FP32 lane. -/
def macBf16 (acc a b : Nat) : Nat := fadd acc (fmul (f32OfBf16 a) (f32OfBf16 b))

/-- Row and logical column of a residual entry (R99, R100). -/
def Resid.row (r : Resid) : Nat := 128 * (r.burst / 64) + r.off
def Resid.col (r : Resid) (two : Bool) : Nat := let p := 4 * (r.burst % 64) + r.group; if two then p / 2 else p

/-- A lane's running value and poison mark. -/
abbrev GLane := Nat × Bool

/-- Static rows (R112 step 1): activation `k` times the set's weights of that row. -/
def glumeStatic (set : OSet) (acts : List Nat × List Bool) (o : List GLane) : List GLane :=
  (List.range set.rows.length).foldl (fun o k =>
    let w := set.weights.getD k ([], [])
    let bad := acts.2.getD (k / 4) false
    o.zipIdx.map (fun l => (macBf16 l.1.1 (acts.1.getD k 0) (w.1.getD l.2 0), l.1.2 || bad || w.2.contains l.2))) o

/-- Dynamic rows (R112 step 2). `sigma j` is the scale of column j (log 21). -/
def State.glumeDynamic (s : State) (c sx : Nat) (v : Vec) (sigma : Nat → Nat) (o : List GLane) : List GLane :=
  v.routed.foldl (fun o r =>
    let (row, bad) := s.imgRow c v.img r
    let x := bf16Scale (v.elems.getD r 0) sx
    let pin := v.poisonRows.contains r
    let res := v.oset.resid.filter (fun q => q.row == r)
    o.zipIdx.map (fun l =>
      let j := l.2
      let mine := res.filter (fun q => q.col v.two == j)
      let code := if v.two then 8 * codeOf row (2 * j) + codeOf row (2 * j + 1) else codeOf row j
      let w := bf16Weight code (sigma j) (mine.map (fun q => q.val))
      (macBf16 l.1.1 x w, l.1.2 || pin || bad (if v.two then j else j / 2) || mine.any (fun q => q.bad)))) o

/-- Sparse residuals of rows driven in the array, in list order (R112 step 3). -/
def glumeSparse (sx : Nat) (v : Vec) (o : List GLane) : List GLane :=
  v.oset.resid.foldl (fun o q =>
    let d := v.driven.getD q.row 0
    if d = 0 then o
    else modNth (fun l => (macBf16 l.1 (bf16Scale (if v.reissued then 2 * d else d) sx) q.val, l.2 || q.bad)) (q.col v.two) o) o

/-- What one tile of the command adds to the lanes. -/
def State.glumeTile (s : State) (c sx : Nat) (v : Vec) (acts : List Nat × List Bool) (sigma : Nat → Nat) (o : List GLane) : List GLane :=
  let o := glumeSparse sx v (s.glumeDynamic c sx v sigma (glumeStatic v.oset acts o))
  if v.oset.poison then o.map (fun l => (l.1, true)) else o

/-- Write the outlier record (R113): header fields, lanes, marks. -/
def State.putRecord (s : State) (c : Nat) (o : EngOp) (lanes : List GLane) (flags dyn clip : Nat) : State :=
  let a := o.dest
  let n := lanes.length
  if o.add then
    let old := s.csRead c a 1088
    let bad := (List.range 136).map (fun w => s.csBad c (a + 8 * w) 8)
    let hdr := [old.getD 0 0, byteOf ((old.getD 1 0).toNat ||| flags)] ++ toLe 2 (min 0xFFFF (leAt old 2 2 + dyn))
      ++ toLe 2 (min 0xFFFF (leAt old 4 2 + clip)) ++ (old.drop 6).take 58
    let body := lanes.zipIdx.flatMap (fun l => toLe 4 (fadd (leAt old (64 + 4 * l.2) 4) l.1.1)) ++ old.drop (64 + 4 * n)
    let marks := bad.zipIdx.map (fun b => b.1 || (decide (8 ≤ b.2) && ((lanes.drop (2 * (b.2 - 8))).take 2).any (fun l => l.2)))
    let s := s.csWrite c a (hdr ++ body)
    { s with cstore := s.cstore.markWords ((csBase c + a) / 8) marks }
  else
    let hdr := [byteOf 1, byteOf flags] ++ toLe 2 (min 0xFFFF dyn) ++ toLe 2 (min 0xFFFF clip) ++ List.replicate 58 0
    let body := lanes.flatMap (fun l => toLe 4 l.1) ++ List.replicate (4 * (256 - n)) 0
    let marks := (List.range 136).map (fun w => decide (8 ≤ w) && ((lanes.drop (2 * (w - 8))).take 2).any (fun l => l.2))
    let s := s.csWrite c a (hdr ++ body)
    { s with cstore := s.cstore.markWords ((csBase c + a) / 8) marks }

/-- The record of the glume path's oldest command is done once all its tiles have planned (R114). -/
def glumeDoneEffect (s : State) (c e : Nat) : State :=
  match (s.eng c e).glume with
  | [] => s
  | tag :: rest =>
    match s.op c e tag with
    | none => s.modEng c e (fun x => { x with glume := rest })
    | some o =>
      let vs := o.tiles.zipIdx.filterMap (fun t => (s.vec c e tag t.1).map (fun v => (v, o.acts.getD t.2 ([], []))))
      if vs.any (fun v => !v.1.planned) then s
      else
        let p := engPg c e
        let n := usedLanes o.two o.d.cols
        let fresh := s.fresh
        let lanes := vs.foldl (fun l v => s.glumeTile c o.sx v.1 v.2 (fun j => Config.sigma fresh v.1.named j % 2 ^ 15) l)
          (List.replicate n (0, false))
        let dyn := sumN (vs.map (fun v => v.1.routed.length))
        let clip := sumN (vs.map (fun v => v.1.clipped))
        let poison := lanes.any (fun l => l.2)
        let flags := toBit (vs.any (fun v => v.1.ovf)) + 2 * toBit (vs.any (fun v => v.1.reissued)) + 4 * toBit poison + 8 * toBit (clip != 0)
        let s := (s.takeFree.putRecord c o lanes flags dyn clip)
        let s := if poison then s.engEvt p ENG.OUTL_EVT_POISON else s
        let s := if clip = 0 then s else s.emitRep p 0x3011 0 clip
        let s := if o.thresherDone then s.inc p ENG.GLUME_STALL_CNT ((s.now - o.doneAt) / 4) else s
        (s.modOp c e tag (fun q => { q with glumeDone := true })).modEng c e (fun x => { x with glume := rest })

/-! ### Completion (R92, R114, R176) -/

/-- Everything an operation does has been done. -/
def EngOp.done (o : EngOp) : Bool :=
  if o.d.opcode = 0x10 ∨ o.d.opcode = 0x11 then o.thresherDone && o.glumeDone else o.left.isEmpty

def opCompleteEffect (s : State) (c e tag : Nat) : State :=
  match s.op c e tag with
  | none => s
  | some o =>
    if !o.done || (o.d.opcode == 0x21 && !o.judged) then s
    else
      let p := engPg c e
      let op := o.d.opcode
      let s := if op = 0x20 then s.inc p ENG.BANKWR_CNT else if op = 0x32 then s.inc p ENG.SPILL_CNT
        else if op = 0x33 then s.inc p ENG.RESUME_CNT else if op = 0x34 then s.inc p ENG.READ_CNT else s
      let s := if usesAcc op && op != 0x10 && op != 0x11 then s.disown c e o.d.acc else s
      let s := o.tiles.foldl (fun s t => s.modTile c e (s.vecTile c e tag t) (fun x => { x with vecs := x.vecs.filter (fun v => v.tag != tag) })) s
      (s.dropOp c e tag).complete c o.d

/-! ### OUTLIER_LOAD (R108 to R110) -/

/-- Bytes of a set with these counts. -/
def setBytes (st sp : Nat) : Nat := 128 + st * 512 + 8192 + sp * 4

def strictlyRising : List Nat → Bool
  | [] => true
  | [_] => true
  | a :: b :: l => decide (a < b) && strictlyRising (b :: l)

/-- The groups' residual entries in order, or none where FIRST or ROW is wrong: index words as (burst, group, word), entries
left, entries taken so far. -/
def splitResid : List (Nat × Nat × Nat) → List (Nat × Bool) → Nat → Option (List Resid)
  | [], _, _ => some []
  | (b, g, w) :: l, ents, first =>
    let n := field w 14 8
    let mine := ents.take n
    if (n ≠ 0 ∧ field w 22 10 ≠ first % 1024) ∨ (n = 0 ∧ field w 22 10 ≠ 0) ∨ !strictlyRising (mine.map (fun x => x.1 % 128)) then none
    else match splitResid l (ents.drop n) (first + n) with
      | some r => some (mine.map (fun x => ⟨b, g, x.1 % 128, x.1 / 2 ^ 16, x.2⟩) ++ r)
      | none => none

/-- Read and check the set at core-store offset `a` (R109); none where it is malformed. Its size is in the answer. -/
def State.readSet (s : State) (c a : Nat) : Option (OSet × Nat) :=
  if csLimit < a + 128 then none
  else
    let st := s.csNat c a 2
    let sp := s.csNat c (a + 2) 2
    if 32 < st ∨ 1024 < sp ∨ csLimit < a + setBytes st sp then none
    else
      let rows := (List.range st).map (fun i => s.csNat c (a + 64 + 2 * i) 2)
      let ix := a + 128 + 512 * st
      let words := (List.range 2048).map (fun i => (i / 4, i % 4, s.csNat c (ix + 4 * i) 4))
      let ents := (List.range sp).map (fun i => let k := ix + 8192 + 4 * i; (s.csNat c k 4, s.csBad c k 4))
      if !strictlyRising rows || rows.any (fun r => decide (1024 ≤ r)) || sumN (words.map (fun w => field w.2.2 14 8)) != sp
          || sumN (words.map (fun w => field w.2.2 8 6)) != st then none
      else match splitResid words ents 0 with
        | none => none
        | some resid =>
          let weights := (List.range st).map (fun i => let k := a + 128 + 512 * i
            ((List.range 256).map (fun j => s.csNat c (k + 2 * j) 2),
              if s.csBad c k 512 then (List.range 256).filter (fun j => s.csBad c (k + 2 * j) 2) else []))
          some (⟨rows, weights, resid, s.csBad c a 128 || s.csBad c ix 8192⟩, setBytes st sp)

/-- Load the sets of the tiles of a mask in ascending order; false where one is refused, with its tile's set left EMPTY. -/
def State.loadSets (s : State) (c e : Nat) : List Nat → Nat → State × Bool
  | [], _ => (s, true)
  | t :: l, a =>
    let b := 1 - s.computeBank c e (s.physTile c e t)
    let k := bkey t b
    let p := engPg c e
    match s.readSet c a with
    | none => ((s.emptySet c e t b).engEvt p ENG.OUTL_EVT_MALFORMED, false)
    | some (set, n) =>
      let s := s.csTouch c a n
      let s := ((s.wr p (ENG.OUTL_SET_STATE k) 2).wr p (ENG.OUTL_SET_SPARSE_N k) set.resid.length).wr p (ENG.OUTL_SET_STATIC_N k) set.rows.length
      let s := (s.inc p ENG.OLOAD_CNT).modEng c e (fun x => { x with osets := mput x.osets k set })
      State.loadSets s c e l (roundUp (a + n) 64)

/-- An OUTLIER_LOAD that has issued loads once every BANK_WRITE issued before it to its tiles has completed. -/
def State.tryLoad (s : State) (c e : Nat) : State :=
  let ops := (s.eng c e).ops
  match ops.find? (fun o => o.d.opcode == 0x40 && !o.left.isEmpty) with
  | none => s
  | some o =>
    if (opsBefore ops o.d.tag).any (fun q => q.d.opcode == 0x20 && !q.left.isEmpty && q.tiles.any (fun t => o.tiles.contains t)) then s
    else
      let (s, ok) := s.loadSets c e o.tiles o.d.cs
      if ok then s.modOp c e o.d.tag (fun q => { q with left := [] })
      else (s.dropOp c e o.d.tag).haltFault c (engPg c e) 0x3022 0 o.d.addr

def outlierLoadEffect (s : State) (c e : Nat) : State :=
  match s.issuable c e 0x40 with
  | none => s.tryLoad c e
  | some d =>
    let tiles := maskTiles d.mask
    let s := (s.issue c e d).addOp c e (EngOp.new d tiles tiles)
    (s.tryLoad c e).pump c

/-! ### CHECK_FORCE (R143, R176) -/

def checkForceEffect (s : State) (c e : Nat) : State :=
  match s.issuable c e 0x60 with
  | none => s
  | some d =>
    ((s.issue c e d).modEng c e (fun x => { x with force := addLanes x.force (maskTiles d.mask) })).complete c d

/-! ### Meanings -/

def execMvm (c e : Nat) (s : State) : Host.Outcome State Fault Refusal := onWf s (.mvm c e) (mvmEffect s c e 0x10 true)

def execMvmAcc (c e : Nat) (s : State) : Host.Outcome State Fault Refusal := onWf s (.mvmAcc c e) (mvmEffect s c e 0x11 false)

def execGroupReduce (c e : Nat) (s : State) : Host.Outcome State Fault Refusal := onWf s (.groupReduce c e) (groupReduceEffect s c e)

def execGlumeRecordDone (c e : Nat) (s : State) : Host.Outcome State Fault Refusal :=
  onWf s (.glumeRecordDone c e) (glumeDoneEffect s c e)

def execEngineOpComplete (c e tag : Nat) (s : State) : Host.Outcome State Fault Refusal :=
  onWf s (.engineOpComplete c e tag) (opCompleteEffect s c e tag)

def execOutlierLoad (c e : Nat) (s : State) : Host.Outcome State Fault Refusal := onWf s (.outlierLoad c e) (outlierLoadEffect s c e)

def execCheckForce (c e : Nat) (s : State) : Host.Outcome State Fault Refusal := onWf s (.checkForce c e) (checkForceEffect s c e)

end Sys2Proof.Machine
end

