-- ==== Sys2Proof/Machine/Acc.lean ====
section
/-! DEFINITION. The accumulator family: clear, promote, spill, resume, read (R84 to R91). Each takes its effect at issue and
holds its accumulator tile until ENGINE_OP_COMPLETE (R92). -/

namespace Sys2Proof.Machine

/-- Issue an accumulator command whose opcode and mode match: refused on a busy tile, else it owns the tile and `f` is its
effect. -/
def State.accOp (s : State) (c e op mode : Nat) (f : State → Desc → State) : State :=
  match s.issuable c e op with
  | none => s
  | some d =>
    if d.accMode ≠ mode then s
    else
      let s := s.issue c e d
      if s.rdB (engPg c e) (ENG.ACC_TILE_BUSY d.acc) then s.accRefuse c e d
      else (f ((s.own c e d).addOp c e (EngOp.new d [] [])) d).pump c

/-- Promote a tile (R80); the lanes that saturated. -/
def State.promoteAcc (s : State) (c e a : Nat) : State × List Nat :=
  let x := s.acc c e a
  let r := x.lanes.map AccLane.promote
  let sat := lanesWhere (r.map (fun y => y.2))
  let s := ((s.setAcc c e a { x with lanes := r.map (fun y => y.1) }).wr (engPg c e) (ENG.ACC_TILE_ADDS a) 0).inc (engPg c e) ENG.PROMOTE_CNT
  (s.laneEvents c e a 0 sat.length 0, sat)

/-! ### Records -/

/-- A lane's word in a spill record (R88). -/
def spillWord (v : Int) (sat poison pin : Bool) : Nat := ofSigned 48 v + toBit sat * 2 ^ 48 + toBit poison * 2 ^ 49 + toBit pin * 2 ^ 50

/-- Write 64-bit words from core-store offset `a`, each with its mark. -/
def State.putWords (s : State) (c a : Nat) (ws : List (Nat × Bool)) : State :=
  let s := s.csWrite c a (ws.flatMap (fun w => toLe 8 w.1))
  { s with cstore := s.cstore.markWords ((csBase c + a) / 8) (ws.map (fun w => w.2)) }

/-- The words of a record, each with its mark. -/
def State.getWords (s : State) (c a n : Nat) : List (Nat × Bool) :=
  (List.range n).map (fun i => (s.csNat c (a + 8 * i) 8, s.csBad c (a + 8 * i) 8))

/-- A lane added into the record's word (R88): at 48 bits, a pinned word keeping its value; whether it overflowed. -/
def spillAdd (w : Nat) (l : AccLane) : Nat × Bool :=
  let v := toSigned 48 w + l.wide
  let pinned := bit w 50
  let ovr := !pinned && (decide (v < -(2 ^ 47)) || decide (2 ^ 47 - 1 < v))
  let val := if pinned then toSigned 48 w else clampI (-(2 ^ 47)) (2 ^ 47 - 1) v
  (spillWord val (bit w 48 || l.sat || ovr) (bit w 49 || l.poison) (pinned || l.pin || ovr), ovr)

/-- A lane's word in a context record (R90). -/
def ctxWord (l : AccLane) : Nat :=
  ofSigned 32 l.wide + ofSigned 20 l.narrow * 2 ^ 32 + toBit l.sat * 2 ^ 52 + toBit l.poison * 2 ^ 53 + toBit l.pin * 2 ^ 54 + toBit l.npin * 2 ^ 55

def ctxLane (w : Nat × Bool) : AccLane :=
  { narrow := toSigned 20 (field w.1 32 20), wide := toSigned 32 w.1, sat := bit w.1 52, poison := bit w.1 53 || w.2, pin := bit w.1 54,
    npin := bit w.1 55 }

/-- The tile flags follow the lanes' marks after a LOAD or an ADD (R89); `satW` lanes saturated, `poison` first took POISON. -/
def State.flagsFromMarks (s : State) (c e a : Nat) (poison : Nat) (satW : Nat) : State :=
  let p := engPg c e
  let l := (s.acc c e a).lanes
  let s := if l.any (fun x => x.sat && x.pin) then s.wr p (ENG.ACC_TILE_SAT_W a) 1 else s
  let s := if l.any (fun x => x.sat && !x.pin) then s.wr p (ENG.ACC_TILE_SAT_N a) 1 else s
  let s := if l.any (fun x => x.poison) then s.wr p (ENG.ACC_TILE_POISON a) 1 else s
  s.laneEvents c e a 0 satW poison

/-- The lanes that take POISON first (R83). -/
def newPoison (old new : List AccLane) : Nat := ((List.zipWith (fun o n => !o.poison && n.poison) old new).filter id).length

/-- A lane loaded from a spill word (R89). -/
def loadLane (w : Nat × Bool) : AccLane × Bool :=
  let base : AccLane := { AccLane.zero with sat := bit w.1 48, poison := bit w.1 49 || w.2 }
  let (l, o) := base.addWide (toSigned 48 w.1)
  ({ l with pin := l.pin || bit w.1 50 }, o)

/-- A spill word added into a promoted lane (R89). -/
def addLane (l : AccLane) (w : Nat × Bool) : AccLane × Bool :=
  let (l, o) := l.addWide (toSigned 48 w.1)
  ({ l with sat := l.sat || bit w.1 48, poison := l.poison || bit w.1 49 || w.2, pin := l.pin || bit w.1 50 }, o)

/-! ### Effects -/

def accPromoteEffect (s : State) (c e : Nat) : State :=
  s.accOp c e 0x31 0 (fun s d => let (s, sat) := s.promoteAcc c e d.acc; s.satRecord c e sat)

def spillStore (c e : Nat) (s : State) (d : Desc) : State :=
  let (s, sat) := s.promoteAcc c e d.acc
  let s := s.putWords c d.cs ((s.acc c e d.acc).lanes.map (fun l => (spillWord l.wide l.sat l.poison l.pin, l.poison)))
  (s.satRecord c e sat).clearAcc c e d.acc

def spillAddEffect (c e : Nat) (s : State) (d : Desc) : State :=
  let (s, sat) := s.promoteAcc c e d.acc
  let s := s.csTouch c d.cs 2048
  let r := List.zipWith (fun l w => (spillAdd w.1 l, w.2 || l.poison)) (s.acc c e d.acc).lanes (s.getWords c d.cs 256)
  let s := s.putWords c d.cs (r.map (fun x => (x.1.1, x.2)))
  let ovr := lanesWhere (r.map (fun x => x.1.2))
  let p := engPg c e
  let new := ovr.filter (fun l => !sat.contains l)
  let s := if new.isEmpty then s else (s.inc p ENG.SATW_LANE_CNT new.length).engEvt p ENG.ACC_EVT_SAT_W
  (s.satRecord c e (sat ++ new)).clearAcc c e d.acc

def spillSave (c e : Nat) (s : State) (d : Desc) : State :=
  let p := engPg c e
  let x := s.acc c e d.acc
  let flags := s.rd p (ENG.ACC_TILE_SAT_N d.acc) + 2 * s.rd p (ENG.ACC_TILE_SAT_W d.acc) + 4 * s.rd p (ENG.ACC_TILE_POISON d.acc)
  let hdr := 1 + flags * 2 ^ 8 + s.rd p (ENG.ACC_TILE_ADDS d.acc) * 2 ^ 16 + x.p * 2 ^ 24 + (d.acc * 2 ^ 10 + e * 2 ^ 8) * 2 ^ 32
  s.putWords c d.cs ((hdr, false) :: List.replicate 7 (0, false) ++ x.lanes.map (fun l => (ctxWord l, l.poison)))

def resumeLoad (c e : Nat) (s : State) (d : Desc) : State :=
  let old := (s.acc c e d.acc).lanes
  let s := s.csTouch c d.cs 2048
  let r := (s.getWords c d.cs 256).map loadLane
  let s := s.clearAcc c e d.acc
  let s := s.setAcc c e d.acc { s.acc c e d.acc with lanes := r.map (fun x => x.1) }
  let sat := lanesWhere (r.map (fun x => x.2))
  (s.flagsFromMarks c e d.acc (newPoison old (r.map (fun x => x.1))) sat.length).satRecord c e sat

def resumeAdd (c e : Nat) (s : State) (d : Desc) : State :=
  let (s, sat) := s.promoteAcc c e d.acc
  let x := s.acc c e d.acc
  let s := s.csTouch c d.cs 2048
  let r := List.zipWith addLane x.lanes (s.getWords c d.cs 256)
  let s := s.setAcc c e d.acc { x with lanes := r.map (fun y => y.1) }
  let new := (lanesWhere (r.map (fun y => y.2))).filter (fun l => !sat.contains l)
  (s.flagsFromMarks c e d.acc (newPoison x.lanes (r.map (fun y => y.1))) new.length).satRecord c e (sat ++ new)

def resumeRestore (c e : Nat) (s : State) (d : Desc) : State :=
  let p := engPg c e
  let a := d.acc
  let hdr := s.csNat c d.cs 8
  if hdr % 256 ≠ 1 ∨ s.csBad c d.cs 64 then ((s.disown c e a).dropOp c e d.tag).refuseOp c e d 0x2013 0
  else
    let old := (s.acc c e a).lanes
    let s := s.csTouch c d.cs 2112
    let words := s.getWords c (d.cs + 64) 256
    let lanes := words.map ctxLane
    let fl := field hdr 8 8
    let s := s.setAcc c e a { lanes := lanes, p := field hdr 24 8 }
    let s := ((s.wr p (ENG.ACC_TILE_SAT_N a) (fl % 2)).wr p (ENG.ACC_TILE_SAT_W a) (fl / 2 % 2)).wr p (ENG.ACC_TILE_POISON a) (fl / 4 % 2)
    let s := s.wr p (ENG.ACC_TILE_ADDS a) (field hdr 16 8)
    let s := if words.any (fun w => w.2) then s.wr p (ENG.ACC_TILE_POISON a) 1 else s
    let new := newPoison old lanes
    if new = 0 then s else (s.inc p ENG.POISON_LANE_CNT new).engEvt p ENG.ACC_EVT_POISON

/-- The mark byte of lanes 4i to 4i + 3 in a read record (R87). -/
def markByte (l : List AccLane) : Nat := sumN (l.zipIdx.map (fun x => (toBit x.1.sat + 2 * toBit x.1.poison) * 4 ^ x.2))

def accReadEffect (c e : Nat) (s : State) (d : Desc) : State :=
  let (s, sat) := s.promoteAcc c e d.acc
  let l := (s.acc c e d.acc).lanes
  let pair := fun i => (l.drop (2 * i)).take 2
  let words := (List.range 128).map (fun i =>
    (ofLe ((pair i).flatMap (fun x => toLe 4 (ofSigned 32 x.wide))), (pair i).any (fun x => x.poison)))
  let marks := (List.range 8).map (fun i => (ofLe ((List.range 8).map (fun k => byteOf (markByte ((l.drop (32 * i + 4 * k)).take 4)))), false))
  (s.putWords c d.cs (words ++ marks)).satRecord c e sat

/-! ### Meanings -/

def execAccClear (c e : Nat) (s : State) : Host.Outcome State Fault Refusal :=
  onWf s (.accClear c e) (s.accOp c e 0x30 0 (fun s d => s.clearAcc c e d.acc))

def execAccPromote (c e : Nat) (s : State) : Host.Outcome State Fault Refusal := onWf s (.accPromote c e) (accPromoteEffect s c e)

def execAccSpillStore (c e : Nat) (s : State) : Host.Outcome State Fault Refusal :=
  onWf s (.accSpillStore c e) (s.accOp c e 0x32 0 (spillStore c e))

def execAccSpillAdd (c e : Nat) (s : State) : Host.Outcome State Fault Refusal :=
  onWf s (.accSpillAdd c e) (s.accOp c e 0x32 1 (spillAddEffect c e))

def execAccSpillSave (c e : Nat) (s : State) : Host.Outcome State Fault Refusal :=
  onWf s (.accSpillSave c e) (s.accOp c e 0x32 2 (spillSave c e))

def execAccResumeLoad (c e : Nat) (s : State) : Host.Outcome State Fault Refusal :=
  onWf s (.accResumeLoad c e) (s.accOp c e 0x33 0 (resumeLoad c e))

def execAccResumeAdd (c e : Nat) (s : State) : Host.Outcome State Fault Refusal :=
  onWf s (.accResumeAdd c e) (s.accOp c e 0x33 1 (resumeAdd c e))

def execAccResumeRestore (c e : Nat) (s : State) : Host.Outcome State Fault Refusal :=
  onWf s (.accResumeRestore c e) (s.accOp c e 0x33 2 (resumeRestore c e))

def execAccRead (c e : Nat) (s : State) : Host.Outcome State Fault Refusal :=
  onWf s (.accRead c e) (s.accOp c e 0x34 0 (accReadEffect c e))

end Sys2Proof.Machine
end

