-- ==== Sys2Proof/Machine/PageOps.lean ====
section
/-! DEFINITION. What the page engine and the attention units share: the ledger entry, numbers and frames, the ledger operations,
held requests, copies and moves, and the attention unit's requests (R196 to R211). -/

namespace Sys2Proof.Machine

/-! ### Ledger entries (R198) -/

/-- The 128 bits of an entry. -/
def PageEnt.word (e : PageEnt) : Nat :=
  e.gen * 2 ^ 112 + e.lastUse * 2 ^ 96 + e.frame * 2 ^ 64 + e.fill * 2 ^ 52 + e.slot * 2 ^ 40 + e.tenant * 2 ^ 32 + e.ref * 2 ^ 16
    + e.pin * 2 ^ 8 + e.ret * 2 ^ 4 + e.tier * 2 ^ 3 + e.state

/-- The entry that 128 bits spell. -/
def PageEnt.ofWord (w : Nat) : PageEnt :=
  { gen := field w 112 16, lastUse := field w 96 16, frame := field w 64 26, fill := field w 52 12, slot := field w 40 12,
    tenant := field w 32 8, ref := field w 16 16, pin := field w 8 8, ret := field w 4 3, tier := field w 3 1, state := field w 0 3 }

def State.modPages (s : State) (f : PagesS → PagesS) : State := { s with pages := f s.pages }

def State.page (s : State) (p : Nat) : PageEnt := mget s.pages.ledger .free p

/-- Where the backing table holds the entry of page `p`. -/
def State.pageAddr (s : State) (p : Nat) : Nat := s.rdA (kvpPg (p % 4)) KVP.LEDGER_BASE_BASE + 16 * p

/-- Write an entry: the bank's own copy and the backing table (log 27). -/
def State.setPage (s : State) (p : Nat) (e : PageEnt) : State :=
  (s.modPages (fun x => { x with ledger := mput x.ledger p e })).devWrite (s.pageAddr p) (toLe 16 e.word)

def bankOf (p : Nat) : Nat := p % 4
def State.bankOn (s : State) (b : Nat) : Bool := s.rdB (kvpPg b) KVP.CTRL_ENABLE

/-- The operation is counted on the page's bank. -/
def State.pageOp (s : State) (p : Nat) : State := s.inc (kvpPg (bankOf p)) KVP.OP_CNT
def State.pageRefused (s : State) (p : Nat) : State := s.inc (kvpPg (bankOf p)) KVP.REFUSED_CNT

/-! ### Free numbers and frames (R197, R199, R202) -/

/-- A number is on its bank's free list. -/
def State.numFree (s : State) (p : Nat) : Bool :=
  decide (p < s.rd (kvpPg (bankOf p)) KVP.PAGES_N) && (s.page p).state == 0 && !s.pages.retired.contains p
    && (mfind s.pages.waiting p).isNone

/-- Numbers of bank `b` that are not free. -/
def State.numUsed (s : State) (b : Nat) : Nat :=
  let n := s.rd (kvpPg b) KVP.PAGES_N
  let l := (s.pages.ledger.filter (fun e => e.2.state != 0)).map (fun e => e.1) ++ s.pages.retired ++ s.pages.waiting.map (fun e => e.1)
  ((l.filter (fun p => bankOf p == b && decide (p < n))).eraseDups).length

def State.freePages (s : State) (b : Nat) : Nat := (s.rd (kvpPg b) KVP.PAGES_N + 3 - b) / 4 - s.numUsed b

/-- Frames of a tier in use: those of pages, and those a move is copying to. -/
def State.framesUsed (s : State) (tier : Nat) : List Nat :=
  (s.pages.ledger.filter (fun e => e.2.state != 0 && e.2.tier == tier)).map (fun e => e.2.frame)
    ++ (s.pages.moves.filter (fun m => (s.page m.page).tier != tier)).map (fun m => m.frame)

def poolSize (tier : Nat) : Fld := if tier = 0 then KVP.T1_FRAMES_N else KVP.T2_FRAMES_N

/-- The device physical address of a frame. -/
def State.frameAddr (s : State) (tier f : Nat) : Nat :=
  (if tier = 0 then s.rdA (kvpPg 0) KVP.T1_POOL_BASE else s.rdA (kvpPg 0) KVP.T2_POOL_BASE) + f * 65536

/-- A tier-2 frame that touches a lost unit (R320). -/
def State.frameLost (s : State) (tier f : Nat) : Bool := tier == 1 && s.lostIn (s.frameAddr 1 f) 65536

/-- Frames of the tier-2 pool that are lost: all while interleaved, else those inside the windows of the ports down (R320). -/
def State.lostFrames (s : State) (tier : Nat) : Nat :=
  if tier = 0 ∨ s.power.cxlDown.isEmpty then 0
  else
    let n := s.rd (kvpPg 0) KVP.T2_FRAMES_N
    if s.rdB (eccPg 10) ECC.STAT_T2_INTLV then n
    else
      let base := s.frameAddr 1 0
      sumN (s.power.cxlDown.map (fun p =>
        let w := tier2Base + p * 2 ^ 40
        min n ((w + 2 ^ 40 - base) / 65536) - min n ((w - base) / 65536)))

/-- The pools are alike on the four pages in service; the model reads the first (R214). -/
def State.freeFrames (s : State) (tier : Nat) : Nat :=
  s.rd (kvpPg 0) (poolSize tier) - s.lostFrames tier - ((s.framesUsed tier).filter (fun f => !s.frameLost tier f)).length

def State.frameFree (s : State) (tier f : Nat) : Bool :=
  decide (f < s.rd (kvpPg 0) (poolSize tier)) && !(s.framesUsed tier).contains f && !s.frameLost tier f

/-- The lowest number at or above `i`, by `step`, that satisfies `p`. -/
def firstFrom (p : Nat → Bool) (step : Nat) : Nat → Nat → Nat
  | 0, i => i
  | n + 1, i => if p i then i else firstFrom p step n (i + step)

/-- The number a bank takes: the one named, where it is free, since which one is taken is not specified (log 28). -/
def State.pickNum (s : State) (b want : Nat) : Nat :=
  if bankOf want = b ∧ s.numFree want then want else firstFrom s.numFree 4 (s.numUsed b + 1) b

def State.pickFrame (s : State) (tier want : Nat) : Nat :=
  if s.frameFree tier want then want else firstFrom (s.frameFree tier) 1 ((s.framesUsed tier).length + s.lostFrames tier + 1) 0

/-- Copy `n64` blocks of device memory, marks with them. -/
def State.devCopy (s : State) (da sa n64 : Nat) : State :=
  let s := s.touch sa (64 * n64)
  let m := s.dev.copyFrom s.dev da sa n64
  let m := if s.lostIn sa (64 * n64) then m.markWords (da / 8) ((List.range (8 * n64)).map (fun i => s.lostAt (sa + 8 * i))) else m
  ({ s with dev := if tier2Base ≤ da then m.lines2 da (64 * n64) else m }).count2 CXL.WR_BYTES da (64 * n64)

/-! ### Faults of the ledger (R201, R203, R208) -/

/-- The slot has been released by the controller: its sequence has ended. -/
def State.slotReleased (s : State) (slot : Nat) : Bool := (mget s.srv.seqs Seq.free slot).state == 7

/-- An attention unit's event on one sequence: the slot is reported, and the fault is recorded unless the slot has been released
(R208). `rec` is false where the bank has recorded the fault itself. -/
def State.attnFail (s : State) (c slot tenant code addr : Nat) (rec : Bool) : State :=
  let p := attnPg c
  let s := ((s.inc p ATTN.SEQ_FAIL_CNT).irq p 1).send (.seqFail c slot)
  if s.slotReleased slot then (s.inc p ATTN.DROP_CNT).irq p 3 else if rec then s.emitSeq p code addr slot tenant else s

/-- Whether the bank refuses an operation on page `p` before it looks at the entry. -/
def State.pageGate (s : State) (p : Nat) : Option Nat :=
  if !s.bankOn (bankOf p) then some 0x7018
  else if s.pages.retired.contains p ∨ s.devBad (s.pageAddr p) 16 then some 0x7016 else none

/-- The bank's own part of such a refusal: a poisoned entry is recorded with the slot, and its number retired (R203). -/
def State.gateRefuse (s : State) (p slot tenant code : Nat) : State :=
  let s := s.pageRefused p
  if code = 0x7016 then
    let k := kvpPg (bankOf p)
    ((s.emitSeq k 0x7016 p slot tenant).irq k 4).modPages (fun x => { x with
      retired := if x.retired.contains p then x.retired else x.retired ++ [p] })
  else s

/-- A refused operation of the serving controller fails its sequence (R203, R214, R201). -/
def State.failSlot (s : State) (slot : Nat) : State :=
  { s with srv := { s.srv with failed := if s.srv.failed.contains slot then s.srv.failed else s.srv.failed ++ [slot] } }

def State.srvGate (s : State) (p slot code : Nat) : State :=
  let tenant := (mget s.srv.seqs Seq.free slot).tenant
  let s := (s.gateRefuse p slot tenant code).failSlot slot
  if code = 0x7018 then s.emitSeq (kvpPg (bankOf p)) 0x7018 p slot tenant else s

/-! ### ALLOC (R199, R201) -/

/-- The bank that carries out an ALLOC that begins at bank `b`. -/
def State.allocBank (s : State) (b : Nat) : Option Nat :=
  ([b % 4, (b + 1) % 4, (b + 2) % 4, (b + 3) % 4]).find? (fun k => s.bankOn k && decide (0 < s.freePages k))

/-- The tier a new page's frame comes from: tier 1, or tier 2 when tier 1 has none. -/
def State.allocTier (s : State) : Option Nat := if 0 < s.freeFrames 0 then some 0 else if 0 < s.freeFrames 1 then some 1 else none

/-- ALLOC from bank `b` on; the new page, its frame and tier, or the code that refuses it. -/
def State.alloc (s : State) (b tenant slot use wantP wantF : Nat) : State × Except Nat (Nat × Nat × Nat) :=
  match s.allocBank b, s.allocTier with
  | some k, some tier =>
    let p := s.pickNum k wantP
    let f := s.pickFrame tier wantF
    match s.pageGate p with
    | some code => (s.gateRefuse p slot tenant code, .error code)
    | none =>
      let e : PageEnt :=
        { PageEnt.free with gen := (s.page p).gen, lastUse := use, frame := f, slot := slot, tenant := tenant, ref := 1, pin := 1,
                            tier := tier, state := 1 }
      ((s.setPage p e).pageOp p, .ok (p, f, tier))
  | _, _ =>
    let k := kvpPg (b % 4)
    let s := (s.pageRefused (b % 4)).irq k 0x5
    (if s.slotReleased slot then s else s.emitSeq k 0x7015 0 slot tenant, .error 0x7015)

/-! ### The attention unit's requests (R206, R207) -/

def State.modAttn (s : State) (c : Nat) (f : AttnCmd → AttnCmd) : State := s.modCore c (fun x => { x with attn := x.attn.map f })

/-- The next list page the unit asks for: entry index and list page index. -/
def AttnCmd.next (a : AttnCmd) : Option (Nat × Nat) :=
  (a.ents.zipIdx.find? (fun e => !e.1.failed && !e.1.todo.isEmpty)).map (fun e => (e.2, e.1.todo.headD 0))

def AttnCmd.ent (a : AttnCmd) (k : Nat) : AttnEnt := a.ents.getD k ⟨0, 0, 0, 0, 0, true, []⟩

/-- The list entry's address (R196). -/
def AttnCmd.listAddr (a : AttnCmd) (k idx : Nat) : Nat :=
  (a.ent k).list + 4 * ((a.layer * a.heads + a.head) * a.maxPages + idx)

/-- The unit has asked for page index `idx` of entry `k`. -/
def AttnCmd.asked (a : AttnCmd) (k : Nat) (pin : AttnPin) : AttnCmd :=
  { a with ents := modNth (fun e => { e with todo := e.todo.drop 1 }) k a.ents, pins := a.pins ++ [pin] }

/-- The request the unit of core `c` makes next, where it is for this slot and tenant: entry and page index, and the list entry. -/
def State.attnWants (s : State) (c tenant slot : Nat) : Option (AttnCmd × Nat × Nat × Nat) :=
  match (s.core c).attn with
  | none => none
  | some a => match a.next with
    | none => none
    | some (k, idx) =>
      if (a.ent k).slot = slot ∧ (a.ent k).tenant = tenant ∧ (if a.d.opcode = 0x81 then a.pins.length < 32 else a.pins.isEmpty)
      then some (a, k, idx, s.devNat (a.listAddr k idx) 4) else none

/-- A PIN_R or PIN_W for `page` is the unit's own: it is noted as asked for. -/
def State.attnAsk (s : State) (c page tenant slot : Nat) : State :=
  match s.attnWants c tenant slot with
  | some (_, k, idx, e) =>
    if e = page then s.modAttn c (fun a => a.asked k ⟨k, idx, page, 0, 0, false, false⟩) else s
  | none => s

/-- The response to a pin: frame and tier; for a copy-on-write `page` is replaced by the new page `q`. -/
def State.attnGot (s : State) (c page q frame tier : Nat) : State :=
  s.modAttn c (fun a =>
    let i := a.pins.findIdx (fun (x : AttnPin) => !x.ready && x.page == page)
    { a with pins := modNth (fun x => { x with page := q, frame := frame, tier := tier, ready := true }) i a.pins })

/-- The pin was refused: the unit no longer waits for it. -/
def State.attnUnask (s : State) (c page : Nat) : State :=
  s.modAttn c (fun a => { a with pins := eraseFirst (fun (x : AttnPin) => !x.ready && x.page == page) a.pins })

/-- Entry `k` of the command fails: nothing more is read or written for it. -/
def AttnCmd.failEnt (a : AttnCmd) (k : Nat) : AttnCmd :=
  { a with ents := modNth (fun e => { e with failed := true, todo := [] }) k a.ents }

/-- A refused pin: the entry that asked fails. -/
def State.attnPinFail (s : State) (c page slot tenant code : Nat) (rec : Bool) : State :=
  let s := s.modAttn c (fun a => match a.pins.find? (fun (x : AttnPin) => !x.ready && x.page == page) with
    | some x => a.failEnt x.ent
    | none => a)
  (s.attnUnask c page).attnFail c slot tenant code page rec

def State.stepUse (s : State) (c : Nat) : Nat := s.rd (corePg c) CORE.STEP % 65536

/-! ### Ledger operations (R201, R209) -/

/-- The numbers of the steps in flight. -/
def State.stepsInFlight (s : State) : List Nat := s.srv.steps.map (fun x => x.step)

/-- A page becomes FREE: its number waits for the steps now in flight to end (R202). -/
def State.pageFree (s : State) (p : Nat) : State :=
  let e := s.page p
  let l := s.stepsInFlight
  let s := s.setPage p { PageEnt.free with gen := (e.gen + 1) % 65536 }
  if l.isEmpty then s else s.modPages (fun x => { x with waiting := mput x.waiting p l })

/-- UNPIN. -/
def State.unpinPage (s : State) (p : Nat) : State :=
  match s.pageGate p with
  | some _ => s.pageRefused p
  | none =>
    let e := s.page p
    if e.pin = 0 then s
    else
      let s := (s.setPage p { e with pin := e.pin - 1 }).pageOp p
      if e.pin ≠ 1 then s
      else if e.state = 4 then s.pageFree p
      else if e.tier = 1 ∧ s.rdB (kvpPg (bankOf p)) KVP.CTRL_FILL_ON_READ
          ∧ s.rd (kvpPg (bankOf p)) KVP.WATERMARK_LOW_WM * 64 ≤ s.freeFrames 0 ∧ !s.pages.due.contains p then
        s.modPages (fun x => { x with due := x.due ++ [p] })
      else s

/-- RELEASE of a reference that is there. -/
def State.dropRef (s : State) (p : Nat) : State :=
  let e := s.page p
  let s := (s.setPage p { e with ref := e.ref - 1 }).pageOp p
  if e.ref ≠ 1 then s
  else if e.pin = 0 then s.pageFree p
  else (s.setPage p { e with ref := 0, state := 4 }).inc (kvpPg (bankOf p)) KVP.DRAIN_CNT

/-- Start a copy-on-write of `p` for a writer: pin it, allocate the new page (R209 steps 1 and 2). -/
def State.startCow (s : State) (c page tenant slot listAddr q qframe : Nat) : State :=
  let e := s.page page
  let s := s.setPage page { e with pin := e.pin + 1 }
  match s.alloc (bankOf page) tenant slot (s.stepUse c) q qframe with
  | (s, .ok r) => s.modPages (fun x => { x with cows := x.cows ++ [⟨bankOf page, page, r.1, c, slot, listAddr⟩] })
  | (s, .error code) => (s.unpinPage page).attnPinFail c page slot tenant code false

/-- An operation on a page; none where the bank holds it. -/
def State.tryReq (s : State) : LReq → Option State
  | .pinR c page tenant slot =>
    match s.pageGate page with
    | some code => some ((s.gateRefuse page slot tenant code).attnPinFail c page slot tenant code (code == 0x7018))
    | none =>
      let e := s.page page
      if e.state = 0 then some ((s.pageRefused page).attnPinFail c page slot tenant 0x7011 true)
      else if e.tenant ≠ tenant then some ((s.pageRefused page).attnPinFail c page slot tenant 0x7012 true)
      else if e.state = 3 ∨ e.pin = 255 then none
      else some ((((s.setPage page { e with pin := e.pin + 1, lastUse := s.stepUse c }).pageOp page).inc (attnPg c) ATTN.PIN_CNT).attnGot c
        page page e.frame e.tier)
  | .pinW c page tenant slot listAddr q qframe =>
    match s.pageGate page with
    | some code => some ((s.gateRefuse page slot tenant code).attnPinFail c page slot tenant code (code == 0x7018))
    | none =>
      let e := s.page page
      if e.state = 0 ∨ e.state = 4 then some ((s.pageRefused page).attnPinFail c page slot tenant 0x7011 true)
      else if e.tenant ≠ tenant then some ((s.pageRefused page).attnPinFail c page slot tenant 0x7012 true)
      else if e.state = 3 ∨ e.pin = 255 then none
      else if e.state = 2 ∧ ¬(e.ref = 1 ∧ e.pin = 0) then some (s.startCow c page tenant slot listAddr q qframe)
      else
        let s := if e.state = 2 then s.inc (kvpPg (bankOf page)) KVP.THAW_CNT else s
        some ((((s.setPage page { e with pin := e.pin + 1, state := 1, lastUse := s.stepUse c }).pageOp page).inc (attnPg c)
          ATTN.PIN_CNT).attnGot c page page e.frame e.tier)
  | .share page tenant slot =>
    match s.pageGate page with
    | some code => some (s.srvGate page slot code)
    | none =>
      let e := s.page page
      let k := kvpPg (bankOf page)
      if e.state = 3 then none
      else if (e.state = 1 ∨ e.state = 2) ∧ e.tenant = tenant then
        if e.ref = 0xFFFF then some (((s.pageRefused page).emitSeq k 0x7014 page slot tenant).irq k 2)
        else some ((s.setPage page { e with state := 2, ref := e.ref + 1 }).pageOp page)
      else some (s.pageRefused page)
  | .release page slot =>
    match s.pageGate page with
    | some code => some (s.srvGate page slot code)
    | none =>
      let e := s.page page
      let k := kvpPg (bankOf page)
      if e.state = 3 then none
      else if e.ref = 0 then
        some ((((s.pageRefused page).emitSeq k 0x7013 page slot (mget s.srv.seqs Seq.free slot).tenant).irq k 3).failSlot slot)
      else some (s.dropRef page)
  | .trim page n slot =>
    match s.pageGate page with
    | some code => some (s.srvGate page slot code)
    | none =>
      let e := s.page page
      if e.state = 3 then none
      else if e.state = 1 then some ((s.setPage page { e with fill := min e.fill n }).pageOp page)
      else some s

def LReq.page : LReq → Nat
  | .pinR _ page _ _ => page
  | .pinW _ page _ _ _ _ _ => page
  | .share page _ _ => page
  | .release page _ => page
  | .trim page _ _ => page

/-- Held requests on page `p` are tried again, in arrival order. -/
def State.retryHeld (s : State) (p : Nat) : State :=
  let l := s.pages.held
  let s := s.modPages (fun x => { x with held := [] })
  l.foldl (fun s r =>
    if r.page = p then (match s.tryReq r with
      | some t => t
      | none => s.modPages (fun x => { x with held := x.held ++ [r] }))
    else s.modPages (fun x => { x with held := x.held ++ [r] })) s

/-- A request reaches its bank: it is carried out, and what waited for the entry to change is tried again; or it is held. -/
def State.runReq (s : State) (r : LReq) : State :=
  match s.tryReq r with
  | some t => t.retryHeld r.page
  | none => s.modPages (fun x => { x with held := x.held ++ [r] })

/-- UNPIN, and what waited for it. -/
def State.unpin (s : State) (p : Nat) : State := (s.unpinPage p).retryHeld p

/-! ### The walk of a list (R206, R207, R208) -/

/-- The command ends at an address that memory refuses: its pins are dropped and the core halts (R263). -/
def State.attnRefused (s : State) (c addr : Nat) : State :=
  match (s.core c).attn with
  | none => s
  | some a =>
    let s := a.pins.foldl (fun s x => if x.ready then s.unpin x.page else s) s
    (s.modCore c (fun x => { x with attn := none })).haltFault c (corePg c) 0x6011 addr a.d.addr

/-- Move past the list entries that fail their sequence, until the unit waits for a pin, an ALLOC or a command. -/
def State.walkN : Nat → State → Nat → State
  | 0, s, _ => s
  | n + 1, s, c =>
    match (s.core c).attn with
    | none => s
    | some a => match a.next with
      | none => s
      | some (k, idx) =>
        let e := a.ent k
        let addr := a.listAddr k idx
        let fail := fun (s : State) code =>
          State.walkN n ((s.modAttn c (fun a => a.failEnt k)).attnFail c e.slot e.tenant code addr true) c
        if !(if a.d.opcode = 0x81 then decide (a.pins.length < 32) else a.pins.isEmpty) then s
        else if !s.coreMay addr 4 then s.attnRefused c addr
        else if s.devBad addr 4 then fail (s.touch addr 4) 0x7032
        else if a.d.opcode = 0x81 ∧ (s.devNat addr 4).testBit 31 then fail s 0x7011
        else s

def State.walk (s : State) (c : Nat) : State := State.walkN 257 s c

end Sys2Proof.Machine
end

