-- ==== Sys2Proof/Machine/Attention.lean ====
section
/-! DEFINITION. The attention family: job blocks, the page layouts, KV_APPEND, ATTN_RUN, translation mode (R192 to R196, R204 to
R208, R212). -/

namespace Sys2Proof.Machine

/-! ### Job blocks (R205) -/

def dimOf (dcode : Nat) : Nat := if dcode = 0 then 64 else if dcode = 1 then 128 else 256

/-- Tokens of a page (R195). -/
def tokensPerPage (kv4 : Bool) (dim : Nat) : Nat := (if kv4 then 57344 else 32768) / dim

def AttnCmd.tokens (a : AttnCmd) : Nat := tokensPerPage a.kv4 a.dim

/-- Entry `i` of the block at `cs`. -/
def State.jobEntry (s : State) (c cs i : Nat) : AttnEnt :=
  let o := cs + 64 + 16 * i
  { slot := s.csNat c o 2, tenant := s.csNat c (o + 2) 1, count := s.csNat c (o + 3) 1, pos := s.csNat c (o + 4) 4,
    list := s.csNat c (o + 8) 8, failed := false, todo := [] }

/-- Rows or positions that the entries before entry `k` take. -/
def posBefore (l : List AttnEnt) (k : Nat) : Nat := sumN ((l.take k).map (fun e => e.count))

/-- The extent of the rows a block names is inside the compiled program's part of core store. -/
def AttnCmd.rowsOk (a : AttnCmd) : Bool :=
  let n := posBefore a.ents a.ents.length
  let ok := fun o len => len == 0 || decide (o + len ≤ csLimit)
  if a.d.opcode = 0x81 then
    ok a.q (n * a.qpg * a.dim * (if a.bf16 then 2 else 1)) && ok a.out (n * a.qpg * a.dim * 2)
  else ok a.knew (n * a.dim * 4)

/-- The block that a command names; none where it is malformed. -/
def State.readJob (s : State) (c : Nat) (d : Desc) : Option AttnCmd :=
  let o := d.cs
  let b := fun i => s.csNat c (o + i) 1
  let n := s.csNat c (o + 8) 2
  let heads := s.csNat c (o + 10) 2
  let maxPages := s.csNat c (o + 12) 4
  if s.csBad c o 64 || b 0 != 1 || decide (1 < b 1) || decide (1 < b 2) || decide (2 < b 3) || b 7 == 0 || decide (64 < b 7)
      || decide (256 < n) || heads == 0 || decide (256 < heads) || decide (heads ≤ b 6) || maxPages == 0 || decide (2 ^ 20 < maxPages)
      || s.csNat c (o + 32) 32 != 0 || decide (csLimit < o + 64 + 16 * n) || s.csBad c (o + 64) (16 * n) then none
  else
    let ents := (List.range n).map (s.jobEntry c o)
    let a : AttnCmd :=
      { d := d, kv4 := b 1 == 1, bf16 := b 2 == 1, dim := dimOf (b 3), layer := s.csNat c (o + 4) 2, head := b 6, qpg := b 7,
        heads := heads, maxPages := maxPages, scale := s.csNat c (o + 16) 4, q := s.csNat c (o + 20) 4, out := s.csNat c (o + 24) 4,
        knew := s.csNat c (o + 28) 4, ents := ents, pins := [], kv := [] }
    if ents.any (fun e => decide (4096 ≤ e.slot) || e.count == 0 || decide (16 < e.count)) || !a.rowsOk then none else some a

/-! ### Page layouts (R121, R122, R195) -/

/-- Bytes [at, at + len) of a page that hold the keys (`v` = 0) or values (1) of the first `n` tokens. -/
def pageRanges (kv4 : Bool) (dim n v : Nat) : List (Nat × Nat) :=
  if kv4 then
    (List.range ((n * dim + 1023) / 1024)).flatMap (fun l =>
      let blocks := min 32 ((n * dim - 1024 * l) / 32)
      let base := (56 * v + l) * 576
      [(base, 2 * blocks), (base + 64, 16 * blocks)])
  else [(32768 * v, n * dim)]

/-- Value `i` of token `t`, as an FP32 pattern; `v` picks keys or values; `byte` reads the page. -/
def pageValue (byte : Nat → Nat) (kv4 : Bool) (dim v t i : Nat) : Nat :=
  if kv4 then
    let k := t * dim + i
    let base := (56 * v + k / 1024) * 576
    let j := k % 1024
    let scale := byte (base + 2 * (j / 32)) + 256 * byte (base + 2 * (j / 32) + 1)
    let b := byte (base + 64 + j / 2)
    fmul (f32OfInt (toSigned 4 (if j % 2 = 0 then b % 16 else b / 16))) (f16To32 scale)
  else e4m3To32 (byte (32768 * v + t * dim + i))

/-- A value as the unit multiplies it (R192): the pattern, and whether its rounding to E4M3 saturated. -/
def multiplied (kv4 bf16 : Bool) (x : Nat) : Nat × Bool :=
  if bf16 then (f32OfBf16 (bf16Rne x), false)
  else if kv4 then let e := e4m3Enc x; (e4m3To32 e.1, e.2)
  else (x, false)

/-- Count values saturated at 448. -/
def State.fp8Sat (s : State) (c n : Nat) : State :=
  if n = 0 then s else (s.inc (attnPg c) ATTN.FP8_SAT_CNT n).irq (attnPg c) 0

/-- Keys of the first `n` tokens of the page at `a`, then their values, as multiplied. -/
def State.readTokens (s : State) (cmd : AttnCmd) (a n : Nat) : List (Nat × Bool) :=
  let byte := fun i => (s.dev.byte (a + i)).toNat
  (List.range (2 * n * cmd.dim)).map (fun k =>
    let v := k / (n * cmd.dim)
    let r := k % (n * cmd.dim)
    multiplied cmd.kv4 cmd.bf16 (pageValue byte cmd.kv4 cmd.dim v (r / cmd.dim) (r % cmd.dim)))

def State.tokensBad (s : State) (cmd : AttnCmd) (a n : Nat) : Bool :=
  (pageRanges cmd.kv4 cmd.dim n 0 ++ pageRanges cmd.kv4 cmd.dim n 1).any (fun r => s.devBad (a + r.1) r.2)

def State.touchTokens (s : State) (cmd : AttnCmd) (a n : Nat) : State :=
  (pageRanges cmd.kv4 cmd.dim n 0 ++ pageRanges cmd.kv4 cmd.dim n 1).foldl (fun s r => s.touch (a + r.1) r.2) s

/-- Bytes of the first `n` tokens as a page holds them. -/
def tokenBytes (kv4 : Bool) (dim n : Nat) : Nat := if kv4 then n * dim * 9 / 8 else 2 * n * dim

/-- Write the `dim` values `l` (FP32 patterns) of token `t`; the saturations counted. -/
def State.writeToken (s : State) (cmd : AttnCmd) (a v t : Nat) (l : List Nat) : State × Nat :=
  if cmd.kv4 then
    ((List.range (cmd.dim / 32)).foldl (fun s b =>
      let k := t * cmd.dim + 32 * b
      let base := a + (56 * v + k / 1024) * 576
      let j := k % 1024
      let blk := kv4Block ((l.drop (32 * b)).take 32)
      let codes := (List.range 16).map (fun i =>
        byteOf (ofSigned 4 (blk.2.getD (2 * i) 0) + 16 * ofSigned 4 (blk.2.getD (2 * i + 1) 0)))
      (s.devWrite (base + 2 * (j / 32)) (toLe 2 blk.1)).devWrite (base + 64 + j / 2) codes) s, 0)
  else
    let e := l.map e4m3Enc
    (s.devWrite (a + 32768 * v + t * cmd.dim) (e.map (fun x => byteOf x.1)), (e.filter (fun x => x.2)).length)

/-! ### KV_APPEND's writes (R207) -/

/-- Positions of entry `e` in page index `idx`. -/
def posIn (tokens idx : Nat) (e : AttnEnt) : List Nat :=
  ((List.range e.count).map (fun i => e.pos + i)).filter (fun p => p / tokens == idx)

/-- Where the new key of position `p` of entry `k` lies; the value follows it. -/
def AttnCmd.knewAt (a : AttnCmd) (k p : Nat) : Nat := a.knew + (posBefore a.ents k + (p - (a.ent k).pos)) * a.dim * 4

/-- Some new key or value of entry `k` in page `idx` is poisoned. -/
def State.knewBad (s : State) (c : Nat) (a : AttnCmd) (k idx : Nat) : Bool :=
  (posIn a.tokens idx (a.ent k)).any (fun p => s.csBad c (a.knewAt k p) (4 * a.dim))

/-- Write the tokens of entry `k` in page index `idx` into the page at `base`. -/
def State.appendTokens (s : State) (c : Nat) (a : AttnCmd) (k idx base : Nat) : State :=
  (posIn a.tokens idx (a.ent k)).foldl (fun s p =>
    let o := a.knewAt k p
    let row := fun o => (List.range a.dim).map (fun i => f32OfBf16 (s.csNat c (o + 2 * i) 2))
    let keys := row o
    let vals := row (o + 2 * a.dim)
    let r := (s.csTouch c o (4 * a.dim)).writeToken a base 0 (p % a.tokens) keys
    let w := r.1.writeToken a base 1 (p % a.tokens) vals
    w.1.fp8Sat c (r.2 + w.2)) s

/-- The list pages an entry needs: those its positions touch, or those up to its last position. -/
def todoOf (append : Bool) (tokens : Nat) (e : AttnEnt) : List Nat :=
  let last := (e.pos + e.count - 1) / tokens
  if append then (List.range (last + 1 - e.pos / tokens)).map (fun i => e.pos / tokens + i) else List.range (last + 1)

/-! ### Translation mode (R212) -/

/-- The physical address of byte 0 of page index `idx` of entry `k`: found, a miss, or a poisoned table word. -/
def State.xlate (s : State) (c : Nat) (a : AttnCmd) (k idx : Nat) (write : Bool) : Except Nat Nat :=
  let e := a.ent k
  let off := ((a.layer * a.heads + a.head) * a.maxPages + idx) * 65536
  let va := e.slot * 2 ^ 30 + off
  let w := s.rdA (attnPg c) ATTN.XLATE_BASE_BASE + 8 * (va / 2 ^ 21)
  let v := s.devNat w 8
  if 2 ^ 30 ≤ off then .error 0x7021
  else if s.devBad w 8 then .error 0x7032
  else if !v.testBit 0 || field v 8 8 != e.tenant || (write && !v.testBit 1) then .error 0x7021
  else .ok (field v 21 27 * 2 ^ 21 + va % 2 ^ 21)

/-- One page of a command in translation mode. -/
def State.xlatePage (s : State) (c : Nat) (k idx : Nat) : State :=
  match (s.core c).attn with
  | none => s
  | some a =>
    let e := a.ent k
    let append := a.d.opcode == 0x80
    let fail := fun code addr => (s.modAttn c (fun a => a.failEnt k)).attnFail c e.slot e.tenant code addr true
    if e.failed then s
    else match s.xlate c a k idx append with
      | .error code => fail code 0
      | .ok base =>
        if !s.coreMay base 65536 then s.attnRefused c base
        else if append then
          if s.knewBad c a k idx then fail 0x7032 0 else s.appendTokens c a k idx base
        else
          let n := min a.tokens (e.pos + e.count - idx * a.tokens)
          let s := s.touchTokens a base n
          if s.tokensBad a base n then (s.modAttn c (fun a => a.failEnt k)).attnFail c e.slot e.tenant 0x7032 base true
          else
            let l := s.readTokens a base n
            ((s.modAttn c (fun a => { a with kv := mput a.kv (k * 2 ^ 21 + idx) (l.map (fun x => x.1)) })).fp8Sat c
              (l.filter (fun x => x.2)).length).inc (attnPg c) ATTN.KV_BYTES (tokenBytes a.kv4 a.dim n)

/-- The whole of a command in translation mode: nothing is pinned. -/
def State.xlateAll (s : State) (c : Nat) (a : AttnCmd) : State :=
  let s := a.ents.zipIdx.foldl (fun s e => e.1.todo.foldl (fun s idx => s.xlatePage c e.2 idx) s) s
  s.modAttn c (fun a => { a with ents := a.ents.map (fun e => { e with todo := [] }) })

/-! ### Starting a command (R204 to R208) -/

/-- The command at the head of the attention queue starts: its block is checked before any work, then each entry's page range
before any of its list is read. -/
def State.attnStart (s : State) (c : Nat) (d : Desc) : State :=
  let s := s.csTouch c d.cs 64
  match s.readJob c d with
  | none => (s.irq (attnPg c) 2).haltFault c (attnPg c) 0x7031 0 d.addr
  | some a =>
    let append := d.opcode == 0x80
    let out := fun (e : AttnEnt) => decide (a.maxPages * a.tokens ≤ e.pos + e.count - 1)
    let ents := a.ents.map (fun e => if out e then { e with failed := true } else { e with todo := todoOf append a.tokens e })
    let a := { a with ents := ents }
    let s := s.modCore c (fun x => { x with attn := some a })
    let s := ents.foldl (fun s e => if e.failed then s.attnFail c e.slot e.tenant 0x7033 0 true else s) s
    if s.rdB (attnPg c) ATTN.CTRL_XLATE then s.xlateAll c a else s.walk c

def attnIssueEffect (s : State) (c op : Nat) : State :=
  match s.issuable c 4 op with
  | none => s
  | some d => ((s.issue c 4 d).attnStart c d).pump c

/-! ### The walker and KV_APPEND go on (R206, R207) -/

/-- The first pin whose response has come, with its place. -/
def AttnCmd.ready (a : AttnCmd) : Option (AttnPin × Nat) := a.pins.zipIdx.find? (fun x => x.1.ready)

def State.dropPin (s : State) (c i : Nat) : State := s.modAttn c (fun a => { a with pins := a.pins.eraseIdx i })

def walkerReadEffect (s : State) (c : Nat) : State :=
  match (s.core c).attn with
  | none => s
  | some a =>
    if a.d.opcode ≠ 0x81 then s
    else match a.ready with
      | none => s
      | some (x, i) =>
        let s := s.dropPin c i
        let e := a.ent x.ent
        let base := s.frameAddr x.tier x.frame
        if e.failed then (s.unpin x.page).walk c
        else if !s.coreMay base 65536 && !s.lostIn base 65536 then (s.unpin x.page).attnRefused c base
        else
          let n := min a.tokens (e.pos + e.count - x.idx * a.tokens)
          let s := s.touchTokens a base n
          if s.tokensBad a base n then
            (((s.modAttn c (fun a => a.failEnt x.ent)).attnFail c e.slot e.tenant 0x7032 base true).unpin x.page).walk c
          else
            let l := s.readTokens a base n
            let s := s.modAttn c (fun a => { a with kv := mput a.kv (x.ent * 2 ^ 21 + x.idx) (l.map (fun y => y.1)) })
            let s := (s.fp8Sat c (l.filter (fun y => y.2)).length).inc (attnPg c) ATTN.KV_BYTES (tokenBytes a.kv4 a.dim n)
            (s.unpin x.page).walk c

def appendWriteEffect (s : State) (c : Nat) : State :=
  match (s.core c).attn with
  | none => s
  | some a =>
    if a.d.opcode ≠ 0x80 then s
    else match a.ready with
      | none => s
      | some (x, i) =>
        let s := s.dropPin c i
        let e := a.ent x.ent
        let base := s.frameAddr x.tier x.frame
        if e.failed then (s.unpin x.page).walk c
        else if !s.coreMay base 65536 && !s.lostIn base 65536 then (s.unpin x.page).attnRefused c base
        else
          let s := if x.fresh then s.devWrite (a.listAddr x.ent x.idx) (toLe 4 x.page) else s
          if s.knewBad c a x.ent x.idx || s.lostIn base 65536 then
            (((s.modAttn c (fun a => a.failEnt x.ent)).attnFail c e.slot e.tenant 0x7032 base true).unpin x.page).walk c
          else
            let s := s.appendTokens c a x.ent x.idx base
            let last := (maxN (posIn a.tokens x.idx e)) % a.tokens
            let s := s.setPage x.page { s.page x.page with fill := last + 1 }
            (s.unpin x.page).walk c

/-! ### The output rows (R192, R193) -/

/-- The running values of one output row: maximum, denominator, sums, whether a block has been done. -/
structure AttnRow where
  m : Nat
  l : Nat
  acc : List Nat
  first : Bool
deriving DecidableEq, Repr

/-- q · k in ascending order. -/
def dot (q k : List Nat) : Nat := (q.zip k).foldl (fun d x => fadd d (fmul x.1 x.2)) 0

def roundProb (bf16 : Bool) (e : Nat) : Nat := if bf16 then f32OfBf16 (bf16Rne e) else e4m3To32 (e4m3Enc e).1

/-- One block of up to 64 positions: its scores with the values of each position. -/
def AttnRow.block (bf16 : Bool) (x : AttnRow) (b : List (Nat × List Nat)) : AttnRow :=
  let mNew := b.foldl (fun m p => fmax m p.1) x.m
  let r := if x.first then 0 else if mNew = x.m then 0x3F800000 else fexp (fsub x.m mNew)
  let y : AttnRow := { m := mNew, l := fmul x.l r, acc := x.acc.map (fun a => fmul a r), first := false }
  b.foldl (fun y p =>
    let e := fexp (fsub p.1 mNew)
    let pr := roundProb bf16 e
    { y with l := fadd y.l e, acc := List.zipWith (fun a v => fadd a (fmul pr v)) y.acc p.2 }) y

def attnBlocks (bf16 : Bool) : Nat → List (Nat × List Nat) → AttnRow → AttnRow
  | 0, _, x => x
  | n + 1, l, x => if l.isEmpty then x else attnBlocks bf16 n (l.drop 64) (x.block bf16 (l.take 64))

/-- One output row: query, keys and values by position. -/
def attnRow (bf16 : Bool) (scale : Nat) (q : List Nat) (kv : List (List Nat × List Nat)) (dim : Nat) : List Nat :=
  let scored := kv.map (fun p => (fmul scale (dot q p.1), p.2))
  let x := attnBlocks bf16 (scored.length / 64 + 1) scored { m := 0xFF800000, l := 0, acc := List.replicate dim 0, first := true }
  x.acc.map (fun a => bf16Rne (fdiv a x.l))

/-- The keys and values of positions 0 to `last` of entry `k`. -/
def AttnCmd.kvOf (a : AttnCmd) (k last : Nat) : List (List Nat × List Nat) :=
  (List.range (last / a.tokens + 1)).flatMap (fun idx =>
    let l := mget a.kv [] (k * 2 ^ 21 + idx)
    let n := l.length / (2 * a.dim)
    let m := min n (last + 1 - idx * a.tokens)
    (List.range m).map (fun t => ((l.drop (t * a.dim)).take a.dim, (l.drop ((n + t) * a.dim)).take a.dim)))

/-- Row `g` of position `i` of entry `k`: the number among the command's rows. -/
def AttnCmd.rowNo (a : AttnCmd) (k i g : Nat) : Nat := (posBefore a.ents k + i) * a.qpg + g

/-- Write the output rows of entry `k`; marked rows for a failed entry (R208), or where the query is marked (R274). -/
def State.writeRows (s : State) (c : Nat) (a : AttnCmd) (k : Nat) : State :=
  let e := a.ent k
  let qb := if a.bf16 then 2 else 1
  (List.range e.count).foldl (fun s i =>
    let kv := a.kvOf k (e.pos + i)
    (List.range a.qpg).foldl (fun s g =>
      let r := a.rowNo k i g
      let o := a.out + r * a.dim * 2
      let qo := a.q + r * a.dim * qb
      if e.failed then { s with cstore := s.cstore.markWords ((csBase c + o) / 8) (List.replicate ((o % 8 + 2 * a.dim + 7) / 8) true) }
      else
        let s := s.csTouch c qo (a.dim * qb)
        let q := (List.range a.dim).map (fun j => if a.bf16 then f32OfBf16 (s.csNat c (qo + 2 * j) 2) else e4m3To32 (s.csNat c (qo + j) 1))
        s.csWrite c o ((attnRow a.bf16 a.scale q kv a.dim).flatMap (toLe 2)) (s.csBad c qo (a.dim * qb))) s) s

def attnCompleteEffect (s : State) (c : Nat) : State :=
  match (s.core c).attn with
  | none => s
  | some a =>
    if a.next.isSome || !a.pins.isEmpty then s
    else
      let append := a.d.opcode == 0x80
      let s := if append then s else (List.range a.ents.length).foldl (fun s k => s.writeRows c a k) s
      let s := s.inc (attnPg c) (if append then ATTN.APPEND_CNT else ATTN.RUN_CNT)
      (s.modCore c (fun x => { x with attn := none })).complete c a.d

/-- XLATE changes only in IDLE or HALTED with the attention queue empty (R212). -/
def xlateWriteEffect (s : State) (c : Nat) (v : Bool) : State :=
  let x := s.core c
  let p := attnPg c
  if (coreState s c = 0 ∨ coreState s c = 3) ∧ x.attnQ.isEmpty ∧ x.attn.isNone then s.wrB p ATTN.CTRL_XLATE v else s.refuse p

/-! ### Meanings -/

def execKvAppend (c : Nat) (s : State) : Host.Outcome State Fault Refusal := onWf s (.kvAppend c) (attnIssueEffect s c 0x80)

def execAttnRun (c : Nat) (s : State) : Host.Outcome State Fault Refusal := onWf s (.attnRun c) (attnIssueEffect s c 0x81)

def execWalkerPageRead (c : Nat) (s : State) : Host.Outcome State Fault Refusal := onWf s (.walkerPageRead c) (walkerReadEffect s c)

def execAttnCmdComplete (c : Nat) (s : State) : Host.Outcome State Fault Refusal := onWf s (.attnCmdComplete c) (attnCompleteEffect s c)

def execXlateWrite (c : Nat) (v : Bool) (s : State) : Host.Outcome State Fault Refusal := onWf s (.xlateWrite c v) (xlateWriteEffect s c v)

def execAppendPageWrite (c : Nat) (s : State) : Host.Outcome State Fault Refusal := onWf s (.appendPageWrite c) (appendWriteEffect s c)

end Sys2Proof.Machine
end

