-- ==== Sys2Proof/Machine/Sampling.lean ====
section
/-! DEFINITION. Sampling: Philox, candidates, draws, log-probabilities, speculative acceptance (R229, R230, R232). Logits,
probabilities and temperatures are FP32 patterns. -/

namespace Sys2Proof.Machine

/-! ### Philox-4×32-10 (R230) -/

/-- One round: counter words and key words. -/
def philoxRound (c : Nat × Nat × Nat × Nat) (k : Nat × Nat) : Nat × Nat × Nat × Nat :=
  let p0 := 0xD2511F53 * c.1
  let p1 := 0xCD9E8D57 * c.2.2.1
  ((p1 / 2 ^ 32) ^^^ c.2.1 ^^^ k.1, p1 % 2 ^ 32, (p0 / 2 ^ 32) ^^^ c.2.2.2 ^^^ k.2, p0 % 2 ^ 32)

def philoxN : Nat → Nat × Nat × Nat × Nat → Nat × Nat → Nat × Nat × Nat × Nat
  | 0, c, _ => c
  | n + 1, c, k => philoxN n (philoxRound c k) ((k.1 + 0x9E3779B9) % 2 ^ 32, (k.2 + 0xBB67AE85) % 2 ^ 32)

/-- Output word 0 for a seed, position, draw index and purpose. -/
def philox (seed pos draw purpose : Nat) : Nat :=
  (philoxN 10 (pos % 2 ^ 32, draw, purpose, 0) (seed % 2 ^ 32, seed / 2 ^ 32 % 2 ^ 32)).1

/-- u = (word >> 8) × 2^-24, exact in FP32. -/
def drawU (word : Nat) : Nat := F32.pack false (word / 256) (-24)

/-! ### Ranking (R229) -/

def isNan32 (x : Nat) : Bool := (F32.unpack x).isNan

/-- An order key of an FP32 pattern: -0 and +0 alike, NaN below every number. -/
def rankKey (x : Nat) : Int :=
  if isNan32 x then -(2 ^ 40) else if x.testBit 31 then -((x % 2 ^ 31 : Nat) : Int) else (x : Int)

/-- The largest logit, the lowest id on ties. -/
def greedy (logits : List Nat) : Nat :=
  (logits.zipIdx.foldl (fun (b : Option (Int × Nat)) x =>
    let k := rankKey x.1
    match b with
    | none => some (k, x.2)
    | some y => if y.1 < k then some (k, x.2) else some y) none).elim 0 (fun y => y.2)

/-- z = logit / TEMP, a quotient beyond the range taken as the largest finite value of its sign. -/
def tempered (x temp : Nat) : Nat :=
  let z := fdiv x temp
  if z = inf32 false then 0x7F7FFFFF else if z = inf32 true then 0xFF7FFFFF else z

/-- The shortest prefix whose summed probability is at least `p`: its length from the running sum. -/
def prefixLen (p : Nat) : List Nat → Nat → Nat
  | [], _ => 0
  | x :: l, sum =>
    let t := fadd sum x
    if flt t p then 1 + prefixLen p l t else 1

/-- The candidates with their probabilities: steps 2 and 3. `topP` is an FP16 pattern. -/
def topCandidates (logits : List Nat) (temp topK topP : Nat) : List (Nat × Nat) :=
  let k := if topK = 0 then 1024 else topK
  let nums := (logits.zipIdx.filter (fun x => !isNan32 x.1)).map (fun x => (tempered x.1 temp, x.2))
  let best := (sortBy (fun a b => decide (rankKey b.1 < rankKey a.1) || (rankKey a.1 == rankKey b.1 && decide (a.2 ≤ b.2))) nums).take k
  let probs := Config.softmax (best.map (fun x => x.1))
  let all := best.zipIdx.map (fun x => (x.1.2, probs.getD x.2 0))
  let p := f16To32 topP
  if topP % 2 ^ 15 = 0 ∨ !flt p 0x3F800000 then all
  else
    let cut := all.take (prefixLen p (all.map (fun x => x.2)) 0)
    let sum := cut.foldl (fun a x => fadd a x.2) 0
    cut.map (fun x => (x.1, fdiv x.2 sum))

/-- Step 4: the first candidate whose running sum exceeds u, else the last. -/
def drawFrom (u : Nat) : List (Nat × Nat) → Nat → Option Nat
  | [], _ => none
  | x :: l, sum =>
    let t := fadd sum x.2
    if flt u t then some x.1 else match drawFrom u l t with
      | some y => some y
      | none => some x.1

/-- A sequence's sampling parameters: TEMP, TOP_K, TOP_P (FP16 patterns where FP16), SEED. -/
structure SampP where
  temp : Nat
  topK : Nat
  topP : Nat
  seed : Nat
deriving DecidableEq, Repr

def SampP.greedy (q : SampP) : Bool := q.temp % 2 ^ 15 == 0

/-- The distribution a row gives: the candidates, or the greedy token alone. -/
def SampP.dist (q : SampP) (logits : List Nat) : List (Nat × Nat) :=
  if q.greedy then [(Machine.greedy logits, 0x3F800000)] else topCandidates logits (f16To32 q.temp) q.topK q.topP

/-- The token of a row for position `pos` (R229). -/
def SampP.token (q : SampP) (logits : List Nat) (pos : Nat) : Nat :=
  if logits.all isNan32 then 0
  else if q.greedy then Machine.greedy logits
  else (drawFrom (drawU (philox q.seed pos 0 0)) (q.dist logits) 0).getD 0

/-- Step 5: the FP16 log-probability of a token. -/
def logp (logits : List Nat) (tok : Nat) : Nat := if logits.all isNan32 then 0x7E00 else Config.logProb logits tok % 2 ^ 16

/-! ### Speculative acceptance (R232) -/

def probOf (d : List (Nat × Nat)) (tok : Nat) : Nat := ((d.find? (fun x => x.1 == tok)).map (fun x => x.2)).getD 0

/-- Whether draft token `tok` for position `pos` is accepted by distribution `p` against the draft's `q`. -/
def accepts (seed : Nat) (p q : List (Nat × Nat)) (tok pos : Nat) : Bool :=
  flt (drawU (philox seed pos 0 1)) (fdiv (probOf p tok) (probOf q tok))

/-- A draw from the normalised max(0, p - q). -/
def residualDraw (seed : Nat) (p q : List (Nat × Nat)) (pos : Nat) : Nat :=
  let r := p.map (fun x => (x.1, fmax 0 (fsub x.2 (probOf q x.1))))
  let sum := r.foldl (fun a x => fadd a x.2) 0
  (drawFrom (drawU (philox seed pos 1 0)) (r.map (fun x => (x.1, fdiv x.2 sum))) 0).getD 0

/-- What a verified sequence emits: tokens with log-probabilities, and how many are accepted drafts. `rows` are the main rows of
positions P + 1 on, `drafts` with the drafts' distributions. -/
def verify (sp : SampP) (stoch : Bool) (pos : Nat) : List (List Nat) → List (Nat × List (Nat × Nat)) → List (Nat × Nat) × Nat
  | [], _ => ([], 0)
  | row :: _, [] => let t := sp.token row (pos + 1); ([(t, logp row t)], 0)
  | row :: rows, (d, q) :: ds =>
    let ok := if stoch then accepts sp.seed (sp.dist row) q d (pos + 1) else d == greedy row
    if ok then
      let r := verify sp stoch (pos + 1) rows ds
      ((d, logp row d) :: r.1, r.2 + 1)
    else
      let t := if stoch then residualDraw sp.seed (sp.dist row) q (pos + 1) else greedy row
      ([(t, logp row t)], 0)

end Sys2Proof.Machine
end

