-- ==== Sys2Proof/Machine/ServOps.lean ====
section
/-! DEFINITION. What the serving controller's meanings share: tables, page lists of a slot, result rings, ends of sequences, shapes,
job blocks, start records (R215 to R243). -/

namespace Sys2Proof.Machine

/-! ### Tables (R215, R242) -/

def State.modSrv (s : State) (f : SrvS → SrvS) : State := { s with srv := f s.srv }
def State.seq (s : State) (slot : Nat) : Seq := mget s.srv.seqs Seq.free slot
def State.setSeq (s : State) (slot : Nat) (q : Seq) : State := s.modSrv (fun x => { x with seqs := mput x.seqs slot q })
def State.modSeq (s : State) (slot : Nat) (f : Seq → Seq) : State := s.setSeq slot (f (s.seq slot))
def State.ten (s : State) (t : Nat) : TenX := mget s.srv.tens TenX.init t
def State.modTen (s : State) (t : Nat) (f : TenX → TenX) : State := s.modSrv (fun x => { x with tens := mput x.tens t (f (mget x.tens TenX.init t)) })
def State.mdl (s : State) (m : Nat) : MdlX := mget s.srv.mdls MdlX.init m
def State.modMdl (s : State) (m : Nat) (f : MdlX → MdlX) : State := s.modSrv (fun x => { x with mdls := mput x.mdls m (f (mget x.mdls MdlX.init m)) })
def State.fnx (s : State) (f : Nat) : FnX := mget s.srv.fns FnX.init f
def State.modFnx (s : State) (f : Nat) (g : FnX → FnX) : State := s.modSrv (fun x => { x with fns := mput x.fns f (g (mget x.fns FnX.init f)) })

/-- Admitted and not ended. -/
def Seq.live (q : Seq) : Bool := q.state != 0 && q.state != 7

/-- Live slots, ascending. -/
def State.liveSlots (s : State) : List Nat := (s.srv.seqs.filter (fun e => e.2.live)).map (fun e => e.1)

def State.liveOf (s : State) (m : Nat) : List Nat := s.liveSlots.filter (fun k => (s.seq k).model == m)

/-- The tenant that the function map gives a function (R312). -/
def State.fnTenant (s : State) (f : Nat) : Option Nat :=
  if s.rdB (pciePg 0) (PCIE.FUNC_MAP_VALID f) then some (s.rd (pciePg 0) (PCIE.FUNC_MAP_TENANT f)) else none

/-- 0 EMPTY, 1 LOADING, 2 READY, 3 SWAPPING. -/
def State.mdlState (s : State) (m : Nat) : Nat := s.rd (mdlPg m) MDL.STATE

/-- T of a model, from KVG (R195). -/
def State.mdlT (s : State) (m : Nat) : Nat :=
  let g := s.rd (mdlPg m) MDL.KVG
  tokensPerPage (bit g 2) (dimOf (g % 4))

def ceilDiv (a b : Nat) : Nat := (a + b - 1) / b

/-! ### Page lists of a slot (R196) -/

/-- The base of a slot's list, in the software region. -/
def listBase (slot : Nat) (draft : Bool) : Nat := Config.listBaseRaw slot draft % (softEnd / 4) * 4

/-- Entries between one (layer, head) list and the next: the model's largest length in pages (log 26). -/
def State.maxPagesOf (s : State) (m : Nat) : Nat := ceilDiv (s.rd (mdlPg m) MDL.MAX_CTX) (s.mdlT m)

def State.listsOf (s : State) (m : Nat) : Nat := s.rd (mdlPg m) MDL.LAYERS * s.rd (mdlPg m) MDL.HEADS_KV

/-- The models whose lists a slot has: the main model, and the draft model where it speculates. -/
def State.seqModels (s : State) (q : Seq) : List (Nat × Bool) :=
  let d := s.rd (mdlPg q.model) MDL.DRAFT
  (q.model, false) :: (if q.kMax ≠ 0 ∧ d < 64 then [(d, true)] else [])

def Seq.listOf (q : Seq) (draft : Bool) : Nat := if draft then q.listDraft else q.listMain

/-- Addresses of entries `from` to `to` - 1 of every list of the slot, in list order. -/
def State.entryAddrs (s : State) (q : Seq) (lo hi : Nat) : List Nat :=
  (s.seqModels q).flatMap (fun m =>
    let mp := s.maxPagesOf m.1
    (List.range (s.listsOf m.1)).flatMap (fun l =>
      (List.range (min hi mp - lo)).map (fun i => q.listOf m.2 + 4 * (l * mp + lo + i))))

/-- Pages that positions below `n` take, for the model of larger pages. -/
def State.seqPages (s : State) (q : Seq) : Nat := maxN ((s.seqModels q).map (fun m => ceilDiv q.r (s.mdlT m.1)))

/-- The page of a list entry, where it is valid. -/
def State.listPage (s : State) (a : Nat) : Option Nat :=
  let e := s.devNat a 4
  if s.devBad a 4 ∨ e.testBit 31 then none else some (e % 2 ^ 26)

/-- The pages of a slot's lists. -/
def State.slotPages (s : State) (slot : Nat) : List Nat :=
  let q := s.seq slot
  (s.entryAddrs q 0 (s.seqPages q)).filterMap s.listPage

/-- RELEASE on every valid entry of a slot's lists (R209). -/
def State.releaseSeq (s : State) (slot : Nat) : State := (s.slotPages slot).foldl (fun s p => s.runReq (.release p slot)) s

/-! ### Result rings (R235 to R238) -/

def State.ringSize (s : State) (f : Nat) : Nat := s.rd (fnPg f) FNW.RES_CFG_ENTRIES
def State.resHead (s : State) (f : Nat) : Nat := s.rd (fnPg f) FNW.RES_HEAD_HEAD
def State.resTail (s : State) (f : Nat) : Nat := s.rd (fnPg f) FNW.RES_TAIL_TAIL

/-- Entries written and not consumed. -/
def State.resUsed (s : State) (f : Nat) : Nat := (s.resTail f + s.ringSize f - s.resHead f) % s.ringSize f

/-- Room for records: RES_HEAD = RES_TAIL says empty, so one entry stays free (log 29). -/
def State.room (s : State) (f : Nat) : Nat :=
  if s.rdB (fnPg f) FNW.RES_CFG_ENABLE then s.ringSize f - 1 - s.resUsed f - (s.fnx f).waiting.length else 0

/-- A record without its phase bit: bytes 0 to 7, bytes 8 to 15 (R235). -/
def record (tok pos slot kind flags lp code : Nat) : Nat × Nat :=
  (tok % 2 ^ 32 + pos % 2 ^ 32 * 2 ^ 32, slot + kind * 2 ^ 16 + flags * 2 ^ 20 + lp * 2 ^ 32 + code * 2 ^ 48)

/-- Write a record at RES_TAIL. -/
def State.putRec (s : State) (f : Nat) (r : Nat × Nat) : State :=
  let n := s.ringSize f
  let t := s.resTail f
  let x := s.fnx f
  let hi := r.2 + toBit (x.lap % 2 == 0) * 2 ^ 63
  let s := s.hostWrite srvPg (s.rdA (fnPg f) FNW.RES_BASE_BASE + 16 * t) (toLe 8 r.1 ++ toLe 8 hi) false
  let s := s.modFnx f (fun x => { x with copy := mput x.copy t (r.1, hi), lap := if t + 1 = n then x.lap + 1 else x.lap })
  let s := s.wr (fnPg f) FNW.RES_TAIL_TAIL ((t + 1) % n)
  let kind := field r.2 16 4
  let s := if kind = 0 then s.inc srvPg SRV.TOKEN_CNT else s
  if kind = 2 ∧ f ≠ 0 then s.sendMsix f 1 else s

/-- Write a record, or let it wait for room (R237). -/
def State.writeRec (s : State) (f : Nat) (r : Nat × Nat) : State :=
  if (s.fnx f).waiting.isEmpty && decide (0 < s.room f) then s.putRec f r
  else s.modFnx f (fun x => { x with waiting := x.waiting ++ [r] })

/-- Room has appeared: waiting records are written in order. -/
def State.flushRecN : Nat → State → Nat → State
  | 0, s, _ => s
  | n + 1, s, f => match (s.fnx f).waiting with
    | [] => s
    | r :: l =>
      let t := s.modFnx f (fun x => { x with waiting := l })
      if s.rdB (fnPg f) FNW.RES_CFG_ENABLE ∧ s.resUsed f + 1 < s.ringSize f then State.flushRecN n (t.putRec f r) f else s

def State.flushRec (s : State) (f : Nat) : State := State.flushRecN (s.fnx f).waiting.length s f

/-- The function's result interrupt (R237, R315). -/
def State.ringIrq (s : State) (f : Nat) : State :=
  if s.rdB (fnPg f) FNW.RES_CFG_IRQ_EN then s.sendMsix f (if f = 0 then 1 else 0) else s

/-! ### Ends of sequences (R220, R222, R235) -/

/-- A sequence ends without a record: its pages are released, its slot is ENDED until the steps now in flight have ended. -/
def State.closeSeq (s : State) (slot code : Nat) : State :=
  let q := s.seq slot
  let s := s.setSeq slot { q with state := 7, endCode := code, endedIn := s.stepsInFlight }
  let s := (s.wr (tenPg q.tenant) TEN.ACTIVE_SEQ (s.rd (tenPg q.tenant) TEN.ACTIVE_SEQ - 1)).wr (tenPg q.tenant) TEN.PAGES_HELD
    (s.rd (tenPg q.tenant) TEN.PAGES_HELD - q.pages)
  let s := s.wr srvPg SRV.STAT_LIVE (s.rd srvPg SRV.STAT_LIVE - 1)
  s.releaseSeq slot

/-- A live sequence ends with `code`, its END record carrying `flags`; its final length is its written length. -/
def State.endSeq (s : State) (slot code flags : Nat) : State :=
  let q := s.seq slot
  if !q.live then s
  else (s.closeSeq slot code).writeRec q.fn (record 0 q.pos slot 3 flags 0 code)

/-- Sequences that a refused ledger operation fails (R201, R203, R214). -/
def State.settleFailed (s : State) : State :=
  let l := s.srv.failed
  let s := s.modSrv (fun x => { x with failed := [] })
  let s := l.foldl (fun s k => s.endSeq k 0x06 0) s
  s.modSrv (fun x => { x with failed := [] })

/-- A sequence fails on a poisoned control field or logit: SRV_TABLE_POISON names its slot. -/
def State.poisonSeq (s : State) (slot addr : Nat) : State :=
  (((s.emitSeq srvPg 0x8021 addr slot (s.seq slot).tenant).irq srvPg 0).endSeq slot 0x06 0)

/-- A model becomes EMPTY: its live sequences end with `code`. -/
def State.emptyModel (s : State) (m code : Nat) : State :=
  (s.liveOf m).foldl (fun s k => s.endSeq k code 0) (s.wr (mdlPg m) MDL.STATE 0)

/-! ### Parking (R223, R211) -/

/-- The state a sequence returns to. -/
def Seq.active (q : Seq) : Nat := if q.promptLeft = 0 then 2 else 1

/-- A slot is in a step in flight. -/
def State.inStep (s : State) (slot : Nat) : Bool := s.srv.steps.any (fun x => x.seqs.any (fun q => q.slot == slot))

/-- A PARKING sequence whose last page is in tier 2 is PARKED; an UNPARKING one whose last page is in tier 1 returns. -/
def State.settleMoves (s : State) : State :=
  s.liveSlots.foldl (fun s k =>
    let q := s.seq k
    let at0 := fun t => (s.slotPages k).all (fun p => (s.page p).tier == t && (s.page p).state != 3)
    if q.state = 3 ∧ !s.inStep k ∧ at0 1 then s.setSeq k { q with state := 4 }
    else if q.state = 5 ∧ at0 0 then s.setSeq k { q with state := q.active }
    else s) s

/-! ### Shapes and job blocks (R228) -/

/-- A shape entry as read from tier 1. -/
structure Shape where
  addr : Nat
  cap : Nat
  ncore : Nat
  gbase : Nat
  gn : Nat
  dsem : Nat
  tenant : Nat
  cores : Nat
  tokens : Nat
  logits : Nat
  dlogits : Nat
deriving DecidableEq, Repr

def State.readShape (s : State) (a : Nat) : Shape :=
  { addr := a, cap := s.devNat a 2, ncore := s.devNat (a + 2) 2, gbase := s.devNat (a + 4) 2, gn := s.devNat (a + 6) 1,
    dsem := s.devNat (a + 7) 1, tenant := s.devNat (a + 8) 1, cores := s.devNat (a + 16) 8, tokens := s.devNat (a + 24) 8,
    logits := s.devNat (a + 32) 8, dlogits := s.devNat (a + 40) 8 }

/-- The shapes of a model. -/
def State.shapesOf (s : State) (m : Nat) : List Shape :=
  let a := s.rd (mdlPg m) MDL.SHAPES
  (List.range (min 16 (s.devNat (a + 1) 1))).map (fun i => s.readShape (a + 64 + 64 * i))

/-- The model's shapes run draft rounds. -/
def State.draftShapes (s : State) (m : Nat) : Bool :=
  match s.shapesOf m with
  | x :: _ => x.dsem != 0xFF
  | [] => false

/-- A core list entry: logical core, its stream, and its job blocks as (offset, LAYER, KV_HEAD, DRAFT) in job-word order. -/
structure ShapeCore where
  logical : Nat
  stream : Nat
  jobs : Nat
  njob : Nat
deriving DecidableEq, Repr

def State.shapeCores (s : State) (x : Shape) : List ShapeCore :=
  (List.range x.ncore).map (fun i =>
    let a := x.cores + 32 * i
    { logical := s.devNat a 2, njob := s.devNat (a + 2) 2, stream := s.devNat (a + 8) 8, jobs := s.devNat (a + 16) 8 })

/-- The words of a shape that the controller reads are not poisoned. -/
def State.shapeBad (s : State) (x : Shape) : Bool :=
  s.devBad x.addr 64 || s.devBad x.cores (32 * x.ncore) || (s.shapeCores x).any (fun c => s.devBad c.jobs (4 * c.njob))

/-- Whether a shape's core list names a logical core. -/
def State.shapeNames (s : State) (m l : Nat) : Bool :=
  (s.shapesOf m).any (fun x => (s.shapeCores x).any (fun c => c.logical == l))

/-- The job blocks of a core as (core-store offset, group key), in job-word order. -/
def State.jobBlocks (s : State) (c : Nat) (y : ShapeCore) : List (Nat × Nat) :=
  (List.range y.njob).map (fun i =>
    let w := s.devNat (y.jobs + 4 * i) 4
    let o := field w 6 19 * 64
    (o, s.csNat c (o + 4) 2 * 512 + s.csNat c (o + 6) 1 * 2 + toBit (w.testBit 31)))

/-- A 16-byte job entry (R205). -/
def jobEntryBytes (slot tenant count pos list : Nat) : List Byte := toLe 2 slot ++ toLe 1 tenant ++ toLe 1 count ++ toLe 4 pos ++ toLe 8 list

/-- Write the entry list into each group of main or draft blocks of core `c`, up to 256 entries a block. -/
def State.writeGroups (s : State) (c : Nat) (y : ShapeCore) (draft : Bool) (ents : List (List Byte)) : State :=
  let blocks := (s.jobBlocks c y).filter (fun b => (b.2 % 2 == 1) == draft)
  (blocks.zipIdx).foldl (fun s b =>
    let i := ((blocks.take b.2).filter (fun d => d.2 == b.1.2)).length
    let mine := (ents.drop (256 * i)).take 256
    let s := s.csWrite c (b.1.1 + 8) (toLe 2 mine.length)
    if mine.isEmpty then s else s.csWrite c (b.1.1 + 64) (mine.flatMap id)) s

/-- Write the list into every core of a shape. -/
def State.writeJobs (s : State) (x : Shape) (draft : Bool) (ents : List (List Byte)) : State :=
  (s.shapeCores x).foldl (fun s y => s.writeGroups (s.physOfCore y.logical) y draft ents) s

/-- A run of positions in entries of at most 16. -/
def entriesOf (slot tenant list : Nat) : Nat → Nat → Nat → List (List Byte)
  | 0, _, _ => []
  | k + 1, pos, n =>
    if n = 0 then [] else jobEntryBytes slot tenant (min 16 n) pos list :: entriesOf slot tenant list k (pos + 16) (n - 16)

/-! ### Steps (R183, R227) -/

def State.stepRec (s : State) (n : Nat) : Option StepS := s.srv.steps.find? (fun x => x.step == n)

def State.modStep (s : State) (n : Nat) (f : StepS → StepS) : State :=
  s.modSrv (fun x => { x with steps := mapIf (fun y => y.step == n) f x.steps })

/-- Reload records sent to a core whose streams have not ended (R248, R366). -/
def State.reloading (s : State) (c : Nat) : Nat :=
  sumN (s.ingest.jobs.map (fun j => (j.reloadLeft.filter (fun e => e.2.2 && s.physOfCore e.1 == c)).length))
    + sumN (s.flt.migs.map (fun m => if m.target = c then (m.left.filter (fun e => e.2.2)).length else 0))

/-- Start records sent to a core and not yet reported ended. -/
def State.outstanding (s : State) (c : Nat) : Nat :=
  (s.srv.steps.filter (fun x => x.phase == 1 && x.cores.any (fun k => k.1 == c && !k.2) && !x.unsent.any (fun u => u.1 == c))).length
    + s.reloading c

/-- A migration holds the start records of a core (R363). -/
def State.migrating (s : State) (c : Nat) : Bool := s.flt.migs.any (fun m => m.source == c)

/-- A core has room for a start record: at most 4 pending beside the stream that runs. -/
def State.coreRoom (s : State) (c : Nat) : Bool := decide (s.outstanding c < 5) && !s.migrating c

def State.modJob (s : State) (idx : Nat) (f : IngJob → IngJob) : State :=
  { s with ingest := { s.ingest with jobs := mapIf (fun (j : IngJob) => j.idx == idx) f s.ingest.jobs } }

def State.modMig (s : State) (l : Nat) (f : Mig → Mig) : State :=
  { s with flt := { s.flt with migs := mapIf (fun (m : Mig) => m.logical == l) f s.flt.migs } }

def markSent (e : Nat × Nat × Bool) : Nat × Nat × Bool := (e.1, e.2.1, true)

/-- The start record of a reload stream: it carries no positions (R184; its tenant, log 33). -/
def reloadRec (stream model : Nat) : StartRec :=
  { stream := stream % 2 ^ 48, step := 0, gsemBase := 0, gsemN := 0, model := model, tenant := 0, reload := true }

/-- Reload records not yet sent go to the cores that have room. -/
def State.sendReloads (s : State) : State :=
  let s := s.ingest.jobs.foldl (fun s j => j.reloadLeft.zipIdx.foldl (fun s e =>
    let c := s.physOfCore e.1.1
    if e.1.2.2 ∨ j.phase ≠ 2 ∨ !s.rdB fltPg (FLT.CORE_REDIR_VALID e.1.1) ∨ !s.coreRoom c then s
    else (s.modJob j.idx (fun x => { x with reloadLeft := modNth markSent e.2 x.reloadLeft })).send (.startRec c (reloadRec e.1.2.1 j.model))) s) s
  s.flt.migs.foldl (fun s m => m.left.zipIdx.foldl (fun s e =>
    if e.1.2.2 ∨ m.phase ≠ 4 ∨ !s.coreRoom m.target then s
    else (s.modMig m.logical (fun x => { x with left := modNth markSent e.2 x.left })).send
      (.startRec m.target (reloadRec e.1.2.1 e.1.1))) s) s

/-- Start records that were held back or refused are sent to the cores that have room. -/
def State.sendUnsent (s : State) : State :=
  let s := s.srv.steps.foldl (fun s x =>
    if x.phase ≠ 1 then s
    else x.unsent.foldl (fun s u =>
      if s.coreRoom u.1 then
        (s.modStep x.step (fun y => { y with unsent := eraseFirst (fun v => v.1 == u.1) y.unsent })).send (.startRec u.1 u.2)
      else s) s) s
  s.sendReloads

/-- Who the controller's claim for a model is (R228, R293). -/
def claimOf (m : Nat) : Nat := 8192 + m

/-- A step leaves the table: the numbers and slots that waited for it may be freed by their own commands. -/
def State.dropStep (s : State) (n : Nat) : State := s.modSrv (fun x => { x with steps := x.steps.filter (fun y => y.step != n) })

/-- Logit row `i` of an area, as FP32 patterns; none where it is poisoned. -/
def State.logitRow (s : State) (m area i : Nat) : Option (List Nat) :=
  let v := s.rd (mdlPg m) MDL.VOCAB
  let bf := bit (s.rd (mdlPg m) MDL.KVG) 3
  let w := if bf then 2 else 4
  let a := area + i * roundUp (v * w) 64
  if s.devBad a (v * w) then none
  else some ((List.range v).map (fun j => if bf then f32OfBf16 (s.devNat (a + 2 * j) 2) else s.devNat (a + 4 * j) 4))

def Seq.sampP (q : Seq) : SampP := { temp := q.temp, topK := q.topK, topP := q.topP, seed := q.seed }

end Sys2Proof.Machine
end

