-- ==== Sys2Proof/Machine/Admission.lean ====
section
/-! DEFINITION. Requests and admission: descriptors, their checks, SUBMIT, CANCEL, PARK, UNPARK, the barrier (R216 to R223,
R241). -/

namespace Sys2Proof.Machine

/-! ### Request rings (R216) -/

/-- A function has a descriptor waiting that may be taken: its ring runs, it is mapped, and no earlier record waits for room. -/
def State.reqReady (s : State) (f : Nat) : Bool :=
  let p := fnPg f
  s.rdB p FNW.REQ_CFG_ENABLE && s.rd p FNW.REQ_HEAD_HEAD != s.rd p FNW.REQ_TAIL_TAIL && (s.fnTenant f).isSome && (s.fnx f).waiting.isEmpty

/-- Functions are served round-robin, from the one after the last served: `f` is the next. -/
def State.reqTurn (s : State) (f : Nat) : Bool :=
  s.rdB srvPg SRV.CTRL_ENABLE && !s.srv.stopped && !s.power.halted && s.reqReady f
    && (List.range 64).all (fun i => let g := (s.srv.turn + 1 + i) % 64
        !s.reqReady g || decide ((f + 63 - s.srv.turn) % 64 ≤ (g + 63 - s.srv.turn) % 64))

/-- The descriptor at REQ_HEAD: its 64 bytes and whether it is poisoned. -/
def State.reqHead (s : State) (f : Nat) : List Byte × Bool :=
  let a := s.rdA (fnPg f) FNW.REQ_BASE_BASE + 64 * s.rd (fnPg f) FNW.REQ_HEAD_HEAD
  (s.hostRead a 64, s.hostBad a 64)

/-- The descriptor is decided: REQ_HEAD moves on. -/
def State.reqDone (s : State) (f : Nat) : State :=
  let p := fnPg f
  (s.modSrv (fun x => { x with turn := f })).wr p FNW.REQ_HEAD_HEAD ((s.rd p FNW.REQ_HEAD_HEAD + 1) % s.rd p FNW.REQ_CFG_ENTRIES)

/-- Take the descriptor of `f` when it is its turn and its OP satisfies `op`. -/
def State.takeReq (s : State) (f : Nat) (op : Nat → Bool) (g : State → List Byte → Bool → State) : State :=
  let d := s.reqHead f
  if s.reqTurn f ∧ op (leAt d.1 0 1) then (g s d.1 d.2).reqDone f else s

/-! ### Refusals (R218, R219) -/

/-- A REFUSE record with its code; a malformed descriptor is recorded. -/
def State.refuseReq (s : State) (f : Nat) (d : List Byte) (code : Nat) : State :=
  let h := leAt d 8 8
  let s := if code = 0x15 then s.emit srvPg 0x8011 0 else s
  (s.inc srvPg SRV.REFUSE_CNT).writeRec f (record (h % 2 ^ 32) (h / 2 ^ 32) 0 2 0 0 code)

/-- The live sequence of a function with a handle. -/
def State.byHandle (s : State) (f h : Nat) : Option Nat := s.liveSlots.find? (fun k => (s.seq k).fn == f && (s.seq k).handle == h)

/-- TEMP and TOP_P in their ranges (R217). -/
def tempOk (x : Nat) : Bool := x % 2 ^ 15 == 0 || (decide (0x0400 ≤ x) && decide (x ≤ 0x7BFF))
def topPOk (x : Nat) : Bool := x == 0x8000 || decide (x ≤ 0x7C00)

/-- A SUBMIT descriptor is malformed (R218). A shared prefix must leave a prompt position to process (log 30). -/
def State.submitBad (s : State) (f tenant : Nat) (d : List Byte) (poison : Bool) : Bool :=
  let m := leAt d 2 1
  let ctx := s.rd (mdlPg m) MDL.MAX_CTX
  let len := leAt d 32 4
  let donor := s.seq (leAt d 52 2 % 4096)
  let pre := leAt d 56 4
  poison || leAt d 0 1 != 1 || decide (3 < leAt d 1 1) || decide (63 < m) || decide (8 < leAt d 3 1) || decide (1024 < leAt d 4 2)
    || !tempOk (leAt d 6 2) || leAt d 24 8 % 4 != 0 || len == 0 || decide (ctx < len) || leAt d 36 4 == 0
    || decide (ctx - len < leAt d 36 4) || !topPOk (leAt d 48 2) || decide (4096 ≤ leAt d 52 2) || leAt d 54 2 != 0
    || (s.byHandle f (leAt d 8 8)).isSome
    || (bit (leAt d 1 1) 1 && (!donor.live || donor.tenant != tenant || donor.model != m || pre == 0 || decide (donor.pos < pre)
          || decide (len ≤ pre)))

/-! ### Admission (R219 to R222) -/

/-- Pages that `r` positions with a shared prefix of `pre` reserve in one model (R220). -/
def State.pagesFor (s : State) (m r pre : Nat) : Nat := s.listsOf m * (ceilDiv r (s.mdlT m) - pre / s.mdlT m)

/-- The projected step time in ps (R221), from Σ(1 + K_MAX) and Σ R. -/
def State.stepPs (s : State) (m sumK sumR : Nat) : Nat :=
  (s.rd (mdlPg m) MDL.BASE_NS + s.rd (mdlPg m) MDL.TOKEN_NS * sumK) * 1000 + s.rd (mdlPg m) MDL.CTX_PS * sumR

/-- The first check of R219 after the form that fails, or none. `pages` is the reservation. -/
def State.admitCode (s : State) (tenant : Nat) (d : List Byte) (pages : Nat) : Option Nat :=
  let m := leAt d 2 1
  let k := leAt d 3 1
  let draft := s.rd (mdlPg m) MDL.DRAFT
  let r := leAt d 32 4 + leAt d 36 4
  let t := tenPg tenant
  let mine := (s.liveOf m).map s.seq
  let tbts := ((mine.map (fun q => q.tbt)) ++ [leAt d 50 2]).filter (fun x => x != 0)
  if (List.range 4).all (fun b => !s.rdB (kvpPg b) KVP.STAT_READY) then some 0x10
  else if s.mdlState m ≠ 2 ∨ s.rd (mdlPg m) MDL.STEP_TOKENS = 0 ∨ s.rd (mdlPg m) MDL.CHUNK_MAX = 0
      ∨ (k ≠ 0 ∧ (64 ≤ draft ∨ s.mdlState draft ≠ 2 ∨ s.rd (mdlPg draft) MDL.VOCAB ≠ s.rd (mdlPg m) MDL.VOCAB ∨ !s.draftShapes m)) then some 0x14
  else if !s.rdB t TEN.ENABLE ∨ s.rd t TEN.MAX_SEQ ≤ s.rd t TEN.ACTIVE_SEQ ∨ s.rd t TEN.PAGE_QUOTA < s.rd t TEN.PAGES_HELD + pages then some 0x12
  else if (List.range 4096).all (fun i => (s.seq i).state != 0) then some 0x13
  else if s.freeFrames 0 + s.freeFrames 1 < pages + sumN (s.liveSlots.map (fun i => (s.seq i).pages)) then some 0x10
  else if tbts.any (fun x => decide (x * 1000000 < s.stepPs m (sumN (mine.map (fun q => 1 + q.kMax)) + 1 + k) (sumN (mine.map (fun q => q.r)) + r)))
    then some 0x11 else none

/-- One page of a shared prefix: SHARE it and write its number into the new list; where its REF is full, a private copy (R201,
R209). -/
def State.shareOne (s : State) (slot tenant src dst : Nat) : State :=
  match s.listPage src with
  | none => s
  | some p =>
    let e := s.page p
    let put := fun (s : State) n => s.devWrite dst (toLe 4 n)
    if (e.state = 1 ∨ e.state = 2) ∧ e.tenant = tenant ∧ e.ref = 0xFFFF ∧ (s.pageGate p).isNone then
      let s := s.runReq (.share p tenant slot)
      match s.alloc (bankOf p) tenant slot e.lastUse 0 0 with
      | (s, .ok r) => ((put (s.devCopy (s.frameAddr r.2.2 r.2.1) (s.frameAddr e.tier e.frame) 1024) r.1).unpin r.1)
      | (s, .error _) => s.failSlot slot
    else
      let ok := (s.pageGate p).isNone && (e.state == 3 || ((e.state == 1 || e.state == 2) && e.tenant == tenant))
      let s := s.runReq (.share p tenant slot)
      if ok then put s p else s

/-- Share the donor's pages of positions 0 to `pre` - 1 into a new slot's lists. -/
def State.sharePrefix (s : State) (slot donor pre : Nat) : State :=
  let q := s.seq slot
  let d := s.seq donor
  (s.seqModels q).foldl (fun s m =>
    if m.2 ∧ d.kMax = 0 then s
    else
      let mp := s.maxPagesOf m.1
      let n := ceilDiv pre (s.mdlT m.1)
      (List.range (s.listsOf m.1)).foldl (fun s l =>
        (List.range n).foldl (fun s i => s.shareOne slot q.tenant (d.listOf m.2 + 4 * (l * mp + i)) (q.listOf m.2 + 4 * (l * mp + i))) s) s) s

/-- Admit a request (R219, R222): the lowest FREE slot, its lists INVALID, an ADMIT record, PREFILL. -/
def State.admitSeq (s : State) (f tenant : Nat) (d : List Byte) (pages : Nat) : State :=
  let slot := ((List.range 4096).find? (fun i => (s.seq i).state == 0)).getD 0
  let m := leAt d 2 1
  let share := bit (leAt d 1 1) 1
  let pre := if share then leAt d 56 4 else 0
  let h := leAt d 8 8
  let q : Seq :=
    { Seq.free with
      state := 1, fn := f, tenant := tenant, model := m, k := leAt d 3 1, kMax := leAt d 3 1, stoch := bit (leAt d 1 1) 0,
      handle := h, seed := leAt d 16 8, pos := pre, promptLeft := leAt d 32 4 - pre, prompt := leAt d 24 8,
      r := leAt d 32 4 + leAt d 36 4, deadline := leAt d 40 8, tbt := leAt d 50 2, temp := leAt d 6 2, topK := leAt d 4 2,
      topP := leAt d 48 2, stop := leAt d 60 4, listMain := listBase slot false, listDraft := listBase slot true,
      gen := s.rd (mdlPg m) MDL.GEN, pages := pages, order := s.srv.nextOrder }
  let t := tenPg tenant
  let s := s.modSrv (fun x => { x with nextOrder := x.nextOrder + 1 })
  let s := s.setSeq slot q
  let s := (s.wr t TEN.ACTIVE_SEQ (s.rd t TEN.ACTIVE_SEQ + 1)).wr t TEN.PAGES_HELD (s.rd t TEN.PAGES_HELD + pages)
  let s := (s.wr srvPg SRV.STAT_LIVE (s.rd srvPg SRV.STAT_LIVE + 1)).inc srvPg SRV.ADMIT_CNT
  let s := (s.entryAddrs q 0 (s.seqPages q)).foldl (fun s a => s.devWrite a (toLe 4 (2 ^ 31))) s
  let s := if share then s.sharePrefix slot (leAt d 52 2 % 4096) pre else s
  (s.writeRec f (record (h % 2 ^ 32) (h / 2 ^ 32) slot 1 0 0 0)).settleFailed

/-- Decide a SUBMIT; `barrier` is whether a SWAPPING model holds it (R219, R241). -/
def State.decideSubmit (s : State) (f : Nat) (d : List Byte) (poison barrier : Bool) : State :=
  match s.fnTenant f with
  | none => s
  | some tenant =>
    let m := leAt d 2 1
    let pre := if bit (leAt d 1 1) 1 then leAt d 56 4 else 0
    let r := leAt d 32 4 + leAt d 36 4
    if s.submitBad f tenant d poison then s.refuseReq f d 0x15
    else if barrier ∧ s.mdlState m = 3 then
      if s.srv.held.length < 1024 then
        ((s.modSrv (fun x => { x with held := x.held ++ [⟨f, d, poison⟩] })).inc srvPg SRV.HELD_CNT).wr srvPg SRV.STAT_HELD (s.srv.held.length + 1)
      else s.refuseReq f d 0x16
    else
      let pages := s.pagesFor m r pre + (if leAt d 3 1 = 0 then 0 else s.pagesFor (s.rd (mdlPg m) MDL.DRAFT) r pre)
      match s.admitCode tenant d pages with
      | some code => s.refuseReq f d code
      | none => s.admitSeq f tenant d pages

/-- Remove held requests that satisfy `p`, answering each with `g`, in arrival order. -/
def State.takeHeld (s : State) (p : HeldReq → Bool) (g : State → HeldReq → State) : State :=
  let l := s.srv.held.filter p
  let keep := s.srv.held.filter (fun h => !p h)
  let s := (s.modSrv (fun x => { x with held := keep })).wr srvPg SRV.STAT_HELD keep.length
  l.foldl g s

def HeldReq.model (h : HeldReq) : Nat := leAt h.bytes 2 1

/-- A CANCEL, PARK or UNPARK: every field but OP and HANDLE is zero and the handle names a live sequence. -/
def State.handleReq (s : State) (f : Nat) (d : List Byte) (poison : Bool) (g : State → Nat → State) : State :=
  match s.byHandle f (leAt d 8 8) with
  | none => s.refuseReq f d 0x15
  | some slot => if poison ∨ leAt d 1 7 ≠ 0 ∨ leAt d 16 48 ≠ 0 then s.refuseReq f d 0x15 else g s slot

/-- PARK: the sequence is no longer scheduled, and its pages are asked to be spilled. -/
def State.parkSeq (s : State) (slot : Nat) : State :=
  let q := s.seq slot
  if q.state = 1 ∨ q.state = 2 ∨ q.state = 5 ∨ q.state = 6 then (s.setSeq slot { q with state := 3 }).settleMoves else s

/-- UNPARK: its pages are asked to be filled. -/
def State.unparkSeq (s : State) (slot : Nat) : State :=
  let q := s.seq slot
  if q.state = 4 ∨ q.state = 3 then (s.setSeq slot { q with state := 5 }).settleMoves else s

end Sys2Proof.Machine
end

