-- ==== Sys2Proof/Machine/MigOps.lean ====
section
/-! DEFINITION. Resets of a core, retirement of a core, and the start of core migrations: triggers, choice of the target, rebuilds
(R95, R135, R188, R335, R363, R364, R366, R368, R369). -/

namespace Sys2Proof.Machine

/-! ### A per-core reset (R73, R95, R135, R188, R335) -/

/-- A turn on engine `e` meets the reset of its core: it ends, and the return of a tile that is out follows with its previous
trims (R135). -/
def State.turnReset (s : State) (c e : Nat) : State :=
  let r := (s.eng c e).rot
  match r.phase with
  | .calibrate => s.skipTurn c e r.tile
  | .fill => s.dropFill c e
  | .ret =>
    (if r.noApply then s else s.tcount (tilePg c e r.tile) TILE.CAL_SKIP_CNT).modEng c e
      (fun x => { x with rot := { x.rot with noApply := true } })
  | _ => s

/-- Tile `t` loses its work: vectors, samples, writes in progress, whose banks become EMPTY. -/
def State.dropTileWork (s : State) (c e t : Nat) : State :=
  let x := s.tile c e t
  let s := (List.range 2).foldl (fun s b => if (x.bank b).wr.isSome then s.emptyBank c e t b else s) s
  s.modTile c e t (fun x => { x with vecs := [], sampleQ := [], wearPhase := 0, resetAt := none, gapDebt := 0 })

/-- Accumulator tile `a` is cleared with its flags, ADDS, owner and BUSY (R95). -/
def State.wipeAccReg (s : State) (c e a : Nat) : State :=
  [ENG.ACC_TILE_BUSY a, ENG.ACC_TILE_OWNER a, ENG.ACC_TILE_SAT_N a, ENG.ACC_TILE_SAT_W a, ENG.ACC_TILE_POISON a, ENG.ACC_TILE_ADDS a].foldl
    (fun s f => s.wr (engPg c e) f 0) s

/-- What PRESERVE = 0 leaves of an engine: EMPTY banks and sets, no trims. -/
def State.wipeEngine (s : State) (c e : Nat) : State :=
  (List.range 17).foldl (fun s t =>
    let s := (List.range 2).foldl (fun s b => (s.emptyBank c e t b).emptySet c e t b) s
    s.modTile c e t (fun x => { x with active := .init, shadow := .init, trackA := .init, trackB := .init })) s

def State.resetEngine (s : State) (c e : Nat) (preserve : Bool) : State :=
  let s := s.turnReset c e
  let s := (List.range 17).foldl (fun s t => s.dropTileWork c e t) s
  let s := s.modEng c e (fun x => { x with queue := [], prev := none, ops := [], glume := [], accs := [], force := [] })
  let s := (List.range 64).foldl (fun s a => s.wipeAccReg c e a) s
  if preserve then s else s.wipeEngine c e

/-- A per-core reset is performed (R335, R338): the step it runs and the steps of its pending records fail, the sequencer is IDLE with empty
queues and semaphores at zero, the accumulators are cleared; without PRESERVE core store and the glume store are zero. -/
def State.resetCore (s : State) (c : Nat) (preserve : Bool) : State :=
  let x := s.core c
  let s := if running s c || halting s c then s.send (.stepFail c (s.rd (corePg c) CORE.STEP)) else s
  let s := x.pend.foldl (fun s r => s.send (.stepFail c r.step)) s
  let s := s.dropClaims c
  let s := (List.range 4).foldl (fun s e => s.resetEngine c e preserve) s
  let s := s.modCore c (fun x => { x with
    buf := [], attnQ := [], dmaQ := [], mbox0 := [], mbox1 := [], dmaRun := [], kick0 := [], kick1 := [], read0 := 0, read1 := 0,
    prevDma := none, prevAttn := none, pend := [], waitHost := false, cur := none, failing := false, attn := none })
  let s := (List.range 64).foldl (fun s i => s.wr (corePg c) (CORE.SEM_VALUE i) 0) (s.showPending c)
  let s := (s.wr (corePg c) CORE.STAT_STATE 0).inc (rstPg (c / 4)) RST.CORE_RST_CNT
  if preserve then s else { s with cstore := s.cstore.zero (csBase c) (2 ^ 25) }

/-! ### Retirement of a core (R363, R370, R372) -/

/-- Every bank of a core becomes EMPTY. -/
def State.emptyCore (s : State) (c : Nat) : State :=
  (List.range 4).foldl (fun s e => (List.range 17).foldl (fun s t => (s.emptyBank c e t 0).emptyBank c e t 1) s) s

def State.dropPool (s : State) (c : Nat) : State := { s with flt := { s.flt with pool := s.flt.pool.filter (fun k => k != c) } }

/-- Core `c` is retired: out of the pool, its domains stopped, its state written into event NVM. -/
def State.retireCore (s : State) (c : Nat) : State :=
  let s := (s.modCore c (fun x => { x with retired := true })).dropPool c
  ({ s with nvm := { s.nvm with coreState := mput s.nvm.coreState (nvmCore c) 2 } }).logRetired 2 (c / 4) (c % 4) 0

/-- Core `c` enters the pool. -/
def State.addPool (s : State) (c : Nat) : State :=
  if s.flt.pool.contains c then s
  else
    let s := { s with flt := { s.flt with pool := s.flt.pool ++ [c] } }
    { s with nvm := { s.nvm with coreState := mput s.nvm.coreState (nvmCore c) 1 } }

/-! ### The target (R364, R368) -/

def dieHops (a b : Nat) : Nat := (max (a % 8) (b % 8) - min (a % 8) (b % 8)) + (max (a / 8) (b / 8) - min (a / 8) (b / 8))

/-- Tile `t` of engine `e` can serve: in service, or out only for its calibration turn, which a migration abandons. -/
def State.tileServes0 (s : State) (c e t : Nat) : Bool :=
  let p := tilePg c e t
  let r := (s.eng c e).rot
  !s.rdB p TILE.STAT_RETIRED && (s.rdB p TILE.STAT_IN_SERVICE || (r.phase != .idle && r.tile == t))

/-- Every logical tile of an engine maps to a tile in service: to its own, or for one retired tile to tile 16. -/
def State.engineFits (s : State) (c e : Nat) : Bool :=
  let bad := (List.range 16).filter (fun t => !s.tileServes0 c e t)
  bad.isEmpty || (bad.length == 1 && bad.all (fun t => s.rdB (tilePg c e t) TILE.STAT_RETIRED) && s.tileServes0 c e 16)

def State.eligible (s : State) (c : Nat) : Bool :=
  !(s.core c).retired && !(s.die (c / 4)).lost && (s.core c).resetAt.isNone && (List.range 4).all (fun e => s.engineFits c e)

/-- The pool cores that may be chosen: one under test only while there is no other. -/
def State.candidatesFor (s : State) : List Nat :=
  let free := s.flt.pool.filter (fun c => !s.flt.testing.contains c)
  (if free.isEmpty then s.flt.pool else free).filter s.eligible

/-- The target for a source: least by (another die, hops, number). -/
def State.chooseTarget (s : State) (src : Nat) : Option Nat :=
  minBy (fun c => (if c / 4 = src / 4 then 0 else 1000000) + dieHops (src / 4) (c / 4) * 1000 + c) s.candidatesFor

/-- A calibration turn that runs on the target is abandoned. -/
def State.abandonTurn (s : State) (c e : Nat) : State :=
  let r := (s.eng c e).rot
  let t := r.tile
  if r.phase = .idle ∨ r.phase = .startup then s
  else if r.phase = .fill then s.dropFill c e
  else
    let s := s.tcount (tilePg c e t) TILE.CAL_SKIP_CNT
    let s := if t = 16 then s
      else ((s.wr (tilePg c e 16) TILE.STAT_STANDIN_FOR 0x1F).wr (tilePg c e t) TILE.CTRL_ENABLE 1).wr (tilePg c e t) TILE.STAT_IN_SERVICE 1
    ((s.emptyCore c).modEng c e (fun x => { x with standSince := none })).endTurn c e t

/-- Rotation stops for want of a spare; said once (R129). -/
def State.stopRotation (s : State) (c e : Nat) : State :=
  let p := engPg c e
  let s := if s.rdB p ENG.CAL_ROT_STAT_STOPPED then s else (s.wr p ENG.CAL_ROT_STAT_STOPPED 1).irq p 5
  if (s.eng c e).noSpareSaid then s else (s.emit p 0x4016 0).modEng c e (fun x => { x with noSpareSaid := true })

/-- Tile 16 stands in permanently for the retired tile of each engine of a core (R364). -/
def State.standTiles (s : State) (c : Nat) : State :=
  (List.range 4).foldl (fun s e =>
    match (List.range 16).find? (fun t => s.rdB (tilePg c e t) TILE.STAT_RETIRED) with
    | none => s
    | some t =>
      let p := tilePg c e 16
      if s.rd p TILE.STAT_STANDIN_FOR = t ∨ s.rdB p TILE.STAT_RETIRED then s
      else (((s.wr p TILE.STAT_STANDIN_FOR t).wr p TILE.STAT_IN_SERVICE 1).modEng c e (fun x => { x with standSince := some s.now })).stopRotation c e) s

/-- The chosen target leaves the pool; a test of it is abandoned and falls due again. -/
def State.takeTarget (s : State) (c : Nat) : State :=
  let tested := s.flt.testing.contains c
  let s := s.dropPool c
  let s := if tested then ({ s with flt := { s.flt with testing := s.flt.testing.filter (fun k => k != c) } }).emptyCore c else s
  ((List.range 4).foldl (fun s e => s.abandonTurn c e) s).standTiles c

/-- CLUS.STAT.MOVER_BUSY of a core's cluster: a migration from one of its cores is copying. -/
def State.showMover (s : State) (c : Nat) : State :=
  s.wrB (clusPg (c / 4) (c % 4 / 2)) CLUS.STAT_MOVER_BUSY (s.flt.migs.any (fun m => m.phase == 2 && m.source / 2 == c / 2))

/-! ### Migrations (R363, R366, R368, R369) -/

def State.mig (s : State) (l : Nat) : Option Mig := s.flt.migs.find? (fun m => m.logical == l)

def State.dropMig (s : State) (l : Nat) : State := { s with flt := { s.flt with migs := s.flt.migs.filter (fun m => m.logical != l) } }

/-- The fields of MIG_STAT that name the last migration. -/
def State.showMig (s : State) (m : Mig) : State :=
  ((s.wr fltPg FLT.MIG_STAT_SOURCE m.source).wr fltPg FLT.MIG_STAT_TARGET m.target).wr fltPg FLT.MIG_STAT_LOGICAL m.logical

/-- A logical core is unplaced: every model whose shapes name it becomes EMPTY, and its held requests are decided anew. -/
def State.unplace (s : State) (l : Nat) : State :=
  let s := s.wr fltPg (FLT.CORE_REDIR_VALID l) 0
  let ms := (List.range 64).filter (fun m => s.mdlState m != 0 && s.shapeNames m l)
  ms.foldl (fun s m => (s.emptyModel m 0x06).takeHeld (fun h => h.model == m) (fun s h => s.decideSubmit h.fn h.bytes h.poison false)) s

/-- Steps whose start record for core `c` is not sent are to be aborted. -/
def State.failUnsent (s : State) (c : Nat) : State :=
  (s.srv.steps.filter (fun x => x.unsent.any (fun u => u.1 == c))).foldl (fun s x => s.send (.stepFail c x.step)) s

/-- No eligible target exists. -/
def State.noTarget (s : State) (m : Mig) : State :=
  let s := (s.dropMig m.logical).showMig m
  if m.trigger = 0 then (s.wr fltPg FLT.MIG_STAT_RESULT 2).sendUnsent
  else if m.trigger = 1 then
    ((s.emit (corePg m.source) 0xE044 0).modCore m.source (fun x => { x with deferredAt := none, lastTest := s.poweredS })).sendUnsent
  else
    let s := (((s.retireCore m.source).failUnsent m.source).unplace m.logical).emit (corePg m.source) 0xE033 0
    (s.irq fltPg 6).wr fltPg FLT.MIG_STAT_RESULT 3

/-- The streams of the READY models' stored reload tables that name a logical core, as (model, stream, sent). -/
def State.reloadsOf (s : State) (l : Nat) : List (Nat × Nat × Bool) :=
  ((List.range 64).filter (fun m => s.mdlState m == 2)).flatMap (fun m =>
    ((mget s.ingest.reloads [] m).filter (fun e => e.1 == l)).map (fun e => (m, e.2, false)))

/-- A REBUILD takes its target and its reload streams are sent. -/
def State.startRebuild (s : State) (m : Mig) : State :=
  match s.chooseTarget m.source with
  | none => s.noTarget m
  | some c =>
    let m' : Mig := { m with target := c, phase := 4, left := s.reloadsOf m.logical }
    (((s.takeTarget c).modMig m.logical (fun _ => m')).showMig m').sendReloads

/-- Up to four migrations run; a rebuild begins at once, a move when its source is IDLE (MIG_MOVE_START). -/
def State.advanceMigsN : Nat → State → State
  | 0, s => s
  | n + 1, s =>
    match (s.flt.migs.take 4).find? (fun m => m.phase == 0) with
    | none => s
    | some m =>
      let s := s.modMig m.logical (fun x => { x with phase := 1 })
      State.advanceMigsN n (if m.rebuild then s.startRebuild { m with phase := 1 } else s)

def State.advanceMigs (s : State) : State := State.advanceMigsN s.flt.migs.length s

/-- Records still pending on a core that begins to migrate are withdrawn, to be sent again when the migration ends (R186, R363). -/
def State.withdrawPend (s : State) (l c : Nat) : State :=
  let pend := (s.core c).pend
  let s := (s.modCore c (fun x => { x with pend := [] })).showPending c
  let back := fun (x : StepS) => (pend.filter (fun r => r.step == x.step && !r.reload)).map (fun r => (c, r))
  let steps := s.srv.steps.map (fun x => { x with unsent := x.unsent ++ back x })
  let s := { s with srv := { s.srv with steps := steps } }
  let unsend := fun (e : Nat × Nat × Bool) => if e.1 == l && pend.any (fun r => r.reload && r.stream == e.2.1) then (e.1, e.2.1, false) else e
  let jobs := s.ingest.jobs.map (fun (j : IngJob) => { j with reloadLeft := j.reloadLeft.map unsend })
  { s with ingest := { s.ingest with jobs := jobs } }

/-- The target `c` of a running migration fails: the migration restarts on a new one (R368). -/
def State.retarget (s : State) (m : Mig) : State :=
  let s := s.emit fltPg 0xE034 0
  if m.rebuild then s.startRebuild m else (s.modMig m.logical (fun x => { x with phase := 1, target := 0 })).showMover m.source

/-- A U record names a core's block: a running migration whose target the core is restarts (R368). -/
def State.targetFails (s : State) (r : FaultRec) : State :=
  if r.cls ≠ 1 ∨ r.block = 0 ∨ 5 < r.block then s
  else match s.flt.migs.find? (fun (m : Mig) => decide (2 ≤ m.phase) && m.target == 4 * r.die + r.unit % 4) with
    | some m => (s.retarget m).advanceMigs
    | none => s

/-- A migration of core `c` is triggered: 0 request, 1 in-field test, 2 fault, which aborts the step by a reset that keeps the
contents. A trigger for a logical core already migrating is merged with it; a core without an assignment is retired, and a
migration that it is the target of restarts. -/
def State.triggerMig (s : State) (c trigger : Nat) (rebuild : Bool) : State :=
  match s.logicalOf c with
  | none =>
    let s := if (s.core c).retired then s else s.retireCore c
    (match s.flt.migs.find? (fun (m : Mig) => decide (2 ≤ m.phase) && m.target == c) with
      | some m => s.retarget m
      | none => s).advanceMigs
  | some l =>
    match s.mig l with
    | some m =>
      let s := if trigger = 2 ∧ m.phase ≤ 1 then s.resetCore c true else s
      let m' : Mig := { m with trigger := max m.trigger trigger }
      if rebuild && !m.rebuild && m.phase != 0 then
        (if 2 ≤ m.phase then s.addPool m.target else s).startRebuild { m' with rebuild := true }
      else s.modMig l (fun _ => { m' with rebuild := m.rebuild || rebuild })
    | none =>
      let s := s.withdrawPend l c
      let s := if trigger = 2 then s.resetCore c true else s
      let m : Mig := { logical := l, source := c, target := 0, rebuild := rebuild, phase := 0, trigger := trigger, t0 := s.now, left := [] }
      ({ s with flt := { s.flt with migs := s.flt.migs ++ [m] } }).advanceMigs

end Sys2Proof.Machine
end

