-- ==== Sys2Proof/Machine/Check.lean ====
section
/-! DEFINITION. The check unit: comparison of sampled passes, repeats, outcomes, retirement to the spare, the error ledger (file
07). -/

namespace Sys2Proof.Machine

/-! ### Samples -/

/-- The temperature band of the error ledger for a reading in 1/16 °C (R154). -/
def ledgerBand (t : Int) : Nat :=
  if t ≤ 45 * 16 then 0 else if t ≤ 65 * 16 then 1 else if t ≤ 85 * 16 then 2 else if t ≤ 95 * 16 then 3 else if t ≤ 105 * 16 then 4 else 5

/-- TOL, where 0 acts as 1. -/
def State.tol (s : State) (c : Nat) : Int := max 1 (s.rd (chkPg c) CHK.CTRL_TOL : Int)

/-- The pairs of a sample's window inside the command's columns (R146). -/
def Sample.pairs (q : Sample) : List Nat :=
  ((List.range 32).map (fun i => 32 * q.window + i)).filter (fun p => if q.two then decide (p / 2 < min q.cols 128) else decide (p < q.cols))

/-- The exact codes of R141: clamped unless the sequence was split. -/
def exactCode (two split : Bool) (sum : Int) : Int :=
  let e := roundAway sum (unitOf two)
  if split then e else clampI (-512) 511 e

/-- The conversions of a sample in its vector's output. -/
def Sample.convs (q : Sample) (v : Vec) : List Conv := (v.out.drop q.first).take q.count

/-- The delivered sum of a lane over a sequence, and its marks. -/
def laneSum (cs : List Conv) (l : Nat) : Int × Bool × Bool :=
  let x := cs.map (fun o => o.lanes.getD l .zero)
  (sumI (x.map (fun y => y.code)), x.any (fun y => y.sat), x.any (fun y => y.poison))

/-- The first sample of a tile in a phase. -/
def TileS.sampleIn (x : TileS) (f : Sample → Bool) : Option Sample := x.sampleQ.find? f

def sampleKey (q r : Sample) : Bool := q.tag == r.tag && q.named == r.named && q.first == r.first

def State.modSample (s : State) (c e t : Nat) (q : Sample) (f : Sample → Sample) : State :=
  s.modTile c e t (fun x => { x with sampleQ := mapIf (sampleKey q) f x.sampleQ })

/-- Change the conversions of a sample in the vector that holds them. -/
def State.modConvs (s : State) (c e : Nat) (q : Sample) (f : Nat → Conv → Conv) : State :=
  s.modVec c e q.tag q.named (fun v => { v with
    out := v.out.zipIdx.map (fun o => if q.first ≤ o.2 ∧ o.2 < q.first + q.count then f (o.2 - q.first) o.1 else o.1) })

/-- The check unit releases a sample's conversions to the thresher and is done with it (R148). -/
def State.releaseSample (s : State) (c e t : Nat) (q : Sample) : State :=
  (s.modConvs c e q (fun _ o => { o with held := false })).modTile c e t
    (fun x => { x with sampleQ := x.sampleQ.filter (fun r => !sampleKey q r) })

/-! ### The error ledger (R154, R155) -/

def ledgerKey (e t band : Nat) : Nat := (e * 17 + t) * 6 + band

def LedgerEnt.add (l : LedgerEnt) (d e : Int) : LedgerEnt :=
  let i := (clampI 0 63 (d + 32)).toNat
  { l with
    bins := mput l.bins i (satAdd 32 (mget l.bins 0 i) 1), n := l.n + 1, sumD := l.sumD + d, sumD2 := l.sumD2 + (d * d).toNat,
    sumE2 := l.sumE2 + (e * e).toNat, maxAbsD := max l.maxAbsD (min d.natAbs 0xFFFFFFFF) }

/-- The entry's 80 words as LG_WINDOW shows them. -/
def LedgerEnt.words (l : LedgerEnt) : List Nat :=
  let two := fun v => [v % 2 ^ 32, v / 2 ^ 32 % 2 ^ 32]
  (List.range 64).map (mget l.bins 0) ++ two l.n ++ two (ofSigned 64 l.sumD) ++ two l.sumD2 ++ two l.sumE2
    ++ [l.satSkip, l.poisonSkip, l.mismatch, l.maxAbsD, 0, 0, 0, 0]

def State.modLedger (s : State) (c k : Nat) (f : LedgerEnt → LedgerEnt) : State :=
  s.modCore c (fun x => { x with ledger := mput x.ledger k (f (mget x.ledger .init k)) })

def State.modSum (s : State) (c : Nat) (f : StepSum → StepSum) : State := s.modCore c (fun x => { x with sum := f x.sum })

/-! ### Suspect units (R151, R152) -/

/-- One step of the chosen action for the whole core; after the largest, the core's work migrates. -/
def State.suspectAct (s : State) (c : Nat) : State :=
  let p := chkPg c
  let s := (s.irq p 4).modSum c (fun x => { x with suspect := true })
  let f := if s.rdB p CHK.CTRL_SUSPECT_ACT then CHK.STAT_THROTTLE_STEPS else CHK.STAT_SUPPLY_STEPS
  let most := if s.rdB p CHK.CTRL_SUSPECT_ACT then 4 else 3
  if s.rd p f < most then (s.inc p f).modCore c (fun x => { x with steps := x.steps + 1 })
  else (s.emit p 0x5023 0).triggerMig c 2 false

/-- Distinct tiles among outcomes at or after `from0`. -/
def recentTiles (l : List (Nat × Nat)) (from0 : Nat) : Nat := ((l.filter (fun x => decide (from0 ≤ x.2))).map (fun x => x.1)).eraseDups.length

/-- An outcome on a tile enters the engine's record; enough of them mark the engine suspect, and count no further. -/
def State.suspectTrack (s : State) (c e t : Nat) (permanent : Bool) : State :=
  let s := s.modEng c e (fun x => if permanent then { x with permanents := x.permanents ++ [(t, s.now)] }
    else { x with transients := x.transients ++ [(t, s.now)] })
  let x := s.eng c e
  if 4 ≤ recentTiles x.transients (s.now - ticksS) ∨ 2 ≤ recentTiles x.permanents (s.now - 10 * ticksS) then
    let p := chkPg c
    let s := s.modEng c e (fun y => { y with transients := [], permanents := [] })
    let s := (s.wr p CHK.STAT_ENG_SUSPECT (putBit (s.rd p CHK.STAT_ENG_SUSPECT) e true)).emit p 0x5021 0
    s.suspectAct c
  else s

/-! ### CHECK_COMPARE (R146 to R149, R151) -/

/-- What the comparison of a window finds: lowest mismatching pair, and the pairs that were compared with their d and e. -/
structure CheckRes where
  low : Option Nat
  diffs : List (Int × Int)
  sat : Nat
  poison : Nat
deriving DecidableEq, Repr

/-- Compare delivered lane sums with exact codes over the window. -/
def compareWindow (tol : Int) (pairs : List Nat) (got : Nat → Int × Bool × Bool) (exact : Nat → Int) : CheckRes :=
  pairs.foldl (fun r p =>
    let g := got p
    if g.2.1 then { r with sat := r.sat + 1 }
    else if g.2.2 then { r with poison := r.poison + 1 }
    else
      let d := g.1 - exact p
      { r with diffs := r.diffs ++ [(d, exact p)], low := if r.low.isNone && decide (tol < d.natAbs) then some p else r.low })
    ⟨none, [], 0, 0⟩

def checkCompareEffect (s : State) (c e t : Nat) (disagree : Bool) : State :=
  match (s.tile c e t).sampleIn (fun q => q.phase == .slot) with
  | none => s
  | some q =>
    match s.vec c e q.tag q.named with
    | none => s
    | some v =>
      let p := chkPg c
      let img := s.imgPtr c e t q.bank
      let key := ledgerKey e t (ledgerBand (s.engTemp c e))
      let no := (s.core c).sampleNo + 1
      let s := (s.inc p CHK.SAMPLE_CNT).modCore c (fun x => { x with sampleNo := no, sum := { x.sum with samples := x.sum.samples + 1 } })
      if q.drive.any (fun d => s.csBad c (img + 128 * d.1 + 16 * q.window) 16) then
        let s := ((s.inc p CHK.POISON_SKIP_CNT).irq p 5).modLedger c key (fun l => { l with poisonSkip := satAdd 32 l.poisonSkip 32 })
        (s.modSum c (fun x => { x with poisonSkip := x.poisonSkip + 1 })).releaseSample c e t q
      else if disagree && no % 1024 == 0 then
        let s := (s.wr p CHK.STAT_CHK_SUSPECT 1).emit p 0x5022 0
        (s.modSample c e t q (fun r => { r with phase := .unresolved })).suspectAct c
      else
        let sums := s.imageSums c img q.drive
        let r := compareWindow (s.tol c) q.pairs (laneSum (q.convs v)) (fun l => exactCode q.two q.split (sums.getD l 0))
        let bad := r.low.isSome
        let s := (s.inc p CHK.LANE_CNT r.diffs.length).modLedger c key (fun l =>
          let l := r.diffs.foldl (fun l d => l.add d.1 d.2) l
          { l with satSkip := satAdd 32 l.satSkip r.sat, poisonSkip := satAdd 32 l.poisonSkip r.poison, mismatch := satAdd 32 l.mismatch (toBit bad) })
        let s := s.modSum c (fun x => { x with
          lanes := x.lanes + r.diffs.length, sumD2 := x.sumD2 + sumN (r.diffs.map (fun d => (d.1 * d.1).toNat)),
          sumE2 := x.sumE2 + sumN (r.diffs.map (fun d => (d.2 * d.2).toNat)), satLanes := x.satLanes + r.sat,
          mismatch := x.mismatch + toBit bad, maxAbsD := max x.maxAbsD (maxN (r.diffs.map (fun d => d.1.natAbs))) })
        match r.low with
        | none => s.releaseSample c e t q
        | some low =>
          ((s.inc p CHK.MISMATCH_CNT).irq p 0).modSample c e t q (fun x => { x with phase := .repeatPending, lowPair := low })

/-! ### The repeat (R149) -/

/-- The repeat's codes: (lane, code, SAT) of every lane each conversion resolves, splitting without a budget; `k` levels are left. -/
def repeatLanes (conv : List (Nat × Int) → List (Int × Bool)) (splitEn : Bool) : Nat → List (Nat × Int) → List Nat → List (Nat × Int × Bool)
  | k, rows, lanes =>
    let x := conv rows
    let at0 := fun l => x.getD l (0, false)
    let ovr := lanes.filter (fun l => (at0 l).2)
    let fit := (lanes.filter (fun l => !(at0 l).2)).map (fun l => (l, (at0 l).1, false))
    if ovr.isEmpty then fit
    else match k with
      | 0 => fit ++ ovr.map (fun l => (l, (at0 l).1, true))
      | k + 1 =>
        if !splitEn then fit ++ ovr.map (fun l => (l, (at0 l).1, true))
        else
          let h := rows.splitAt ((rows.length + 1) / 2)
          fit ++ repeatLanes conv splitEn k h.1 ovr ++ repeatLanes conv splitEn k h.2 ovr

/-- What a repeat needs has changed since the sampled pass: its compute bank, its trims, the computing tile. -/
def State.stale (s : State) (c e t : Nat) (q : Sample) : Bool := (s.tile c e t).epoch != q.epoch || s.vecTile c e q.tag q.named != t

def checkRepeatEffect (s : State) (c e t : Nat) (dev : List Int) : State :=
  match (s.tile c e t).sampleIn (fun q => q.phase == .repeatPending) with
  | none => s
  | some q =>
    if s.stale c e t q then s.modSample c e t q (fun r => { r with phase := .unresolved })
    else match s.vec c e q.tag q.named with
      | none => s
      | some v =>
        let u := unitOf q.two
        let maps := s.remaps c e t q.bank
        let cells := ((s.tile c e t).bank q.bank).cells
        let conv := fun (drive : List (Nat × Int)) =>
          let x := List.zipWith (· + ·) (sumRows cells drive) ((List.range 268).map (fun i => dev.getD i 0))
          (List.range 256).map (fun l => let y := x.getD (lanePair maps l) 0; (convCode u y, guard u y))
        let r := repeatLanes conv (s.rdB (tilePg c e t) TILE.CFG_SPLIT_EN) 2 q.drive q.pairs
        let split := s.rdB (tilePg c e t) TILE.CFG_SPLIT_EN && (conv q.drive).any (fun y => y.2)
        let sums := s.imageSums c (s.imgPtr c e t q.bank) q.drive
        let marks := laneSum (q.convs v)
        let got := fun l =>
          let mine := r.filter (fun y => y.1 == l)
          (sumI (mine.map (fun y => y.2.1)), mine.any (fun y => y.2.2) || (marks l).2.1, (marks l).2.2)
        let res := compareWindow (s.tol c) q.pairs got (fun l => exactCode q.two split (sums.getD l 0))
        (s.inc (chkPg c) CHK.CHECK_SLOT_CNT).modSample c e t q (fun x => { x with phase := .repeated, beyond := res.low.isSome })

/-! ### Retirement to the spare (R73, R150, R135) -/

/-- The spare can take a tile over: it is not retired, and it stands in for none permanently. -/
def State.spareFree (s : State) (c e : Nat) : Bool :=
  let p := tilePg c e 16
  let r := (s.eng c e).rot
  !s.rdB p TILE.STAT_RETIRED && (s.eng c e).fillFor.isNone
    && (s.rd p TILE.STAT_STANDIN_FOR == 0x1F || (r.phase != .idle && r.tile == s.rd p TILE.STAT_STANDIN_FOR))

/-- A tile is marked retired: out of service, its banks EMPTY (R73), its retirement logged (R372). -/
def State.retireTile (s : State) (c e t reason : Nat) : State :=
  let p := tilePg c e t
  let s := (((s.wr p TILE.CTRL_ENABLE 0).wr p TILE.STAT_SUSPECT 1).wr p TILE.STAT_RETIRED 1).wr p TILE.STAT_IN_SERVICE 0
  let s := (s.modTile c e t (fun x => { x with reason := reason })).logRetired 1 (c / 4) (calInstance c e t) reason
  (s.emptyBank c e t 0).emptyBank c e t 1

/-- A tile is to be replaced by the spare, after the turn in which the spare is (R150). -/
def State.replaceTile (s : State) (c e t : Nat) : State :=
  let r := (s.eng c e).rot
  let s := s.modEng c e (fun x => { x with fillFor := some t })
  match r.phase with
  | .calibrate => if r.tile = 16 then (s.skipTurn c e 16).fillSpare c e t else s.beginReturn c e r.tile true
  | .ret => s
  | .fill => (s.dropFill c e).fillSpare c e t
  | _ => s.fillSpare c e t

/-- A PERMANENT outcome on physical tile `t`. -/
def State.permanentOn (s : State) (c e t : Nat) : State :=
  let p := tilePg c e t
  let r := (s.eng c e).rot
  if t = 16 then
    let u := s.rd p TILE.STAT_STANDIN_FOR
    if r.phase ≠ .idle ∧ r.tile = u then
      let s := ((s.wr p TILE.STAT_SUSPECT 1).wr p TILE.STAT_RETIRED 1).wr p TILE.STAT_STANDIN_FOR 0x1F
      let s := (s.modTile c e 16 (fun x => { x with reason := 0x10 })).logRetired 1 (c / 4) (calInstance c e 16) 0x10
      let s := if r.phase = .ret ∧ !r.noApply then s.modEng c e (fun x => { x with rot := { x.rot with noApply := true } }) else s.beginReturn c e u true
      let moved := (s.tile c e 16).vecs.filter (fun v => !v.begun)
      let s := s.modTile c e 16 (fun x => { x with vecs := x.vecs.filter Vec.begun })
      (s.modTile c e u (fun x => { x with vecs := x.vecs ++ moved })).stopRotation c e
    else (s.wr p TILE.STAT_SUSPECT 1).triggerMig c 2 false
  else
    let s := (s.wr p TILE.CTRL_ENABLE 0).wr p TILE.STAT_SUSPECT 1
    if s.spareFree c e then s.replaceTile c e t else s.triggerMig c 2 false

/-- A bank of the spare matches a bank of `t`: EMPTY there, or written here and done (R130). -/
def State.spareMatches (s : State) (c e t b : Nat) : Bool :=
  s.bankState c e t b == 0 || (((s.tile c e 16).bank b).matched && ((s.tile c e 16).bank b).wr.isNone)

/-- The spare takes over tile `t`: STANDIN_FOR, compute bank, and the vectors `move` selects (R130, R150). -/
def State.standIn (s : State) (c e t : Nat) (move : Vec → Bool) : State :=
  let p := tilePg c e 16
  let s := ((s.wr p TILE.STAT_STANDIN_FOR t).wr p TILE.CFG_COMPUTE_BANK (s.computeBank c e t)).wr p TILE.STAT_IN_SERVICE 1
  let moved := (s.tile c e t).vecs.filter move
  let x := s.tile c e t
  let busy := fun tag => x.bankA.wr.any (fun w => w.kind == .compiled && w.tag == tag) || x.bankB.wr.any (fun w => w.kind == .compiled && w.tag == tag)
  let s := s.modTile c e t (fun x => { x with vecs := x.vecs.filter (fun v => !move v), epoch := x.epoch + 1 })
  let s := s.modTile c e 16 (fun x => { x with vecs := x.vecs ++ moved, epoch := x.epoch + 1 })
  s.modEng c e (fun x => { x with
    standSince := some s.now,
    ops := x.ops.map (fun o =>
      if o.d.opcode = 0x21 ∨ (o.d.opcode = 0x20 ∧ !o.left.contains (leftCode 16 t) ∧ !busy o.d.tag) then
        { o with left := o.left.map (fun k => if k / 32 = t then leftCode 16 t else k) } else o) })

def retireTakeoverEffect (s : State) (c e : Nat) : State :=
  let x := s.eng c e
  match x.fillFor with
  | none => s
  | some t =>
    if x.rot.phase ≠ .idle ∨ !s.spareMatches c e t 0 ∨ !s.spareMatches c e t 1
        ∨ (s.tile c e t).vecs.any (fun v => v.begun && !v.finished) then s
    else
      let s := s.standIn c e t (fun v => !v.begun)
      ((s.retireTile c e t 0x10).modEng c e (fun y => { y with fillFor := none })).stopRotation c e

/-! ### CHECK_OUTCOME (R149) -/

/-- The held conversions are replaced by the exact codes of all lanes that carry neither SAT nor POISON: the first of the
sequence takes the code, the others 0. A poisoned image word marks the lanes POISON. -/
def State.putExact (s : State) (c e t : Nat) (q : Sample) (v : Vec) : State :=
  let img := s.imgPtr c e t q.bank
  let sums := s.imageSums c img q.drive
  let bad := s.imageBad c img q.drive
  let cs := q.convs v
  let marks := (List.range 256).map (fun l => laneSum cs l)
  s.modConvs c e q (fun i o => { o with
    lanes := o.lanes.zipIdx.map (fun x =>
      let m := marks.getD x.2 (0, false, false)
      if m.2.1 || m.2.2 then x.1
      else ⟨if i = 0 then exactCode q.two (decide (1 < q.count)) (sums.getD x.2 0) else 0, false, bad⟩) })

def checkOutcomeEffect (s : State) (c e t : Nat) : State :=
  match (s.tile c e t).sampleIn (fun q => q.phase == .repeated || q.phase == .unresolved || (q.phase == .repeatPending && s.stale c e t q)) with
  | none => s
  | some q =>
    match s.vec c e q.tag q.named with
    | none => s
    | some v =>
      let p := chkPg c
      let addr := tileAddr e t + q.lowPair
      let s := (s.putExact c e t q v).releaseSample c e t q
      if q.phase ≠ .repeated then
        (((s.inc p CHK.UNRESOLVED_CNT).irq p 3).emit p 0x5013 addr).modSum c (fun x => { x with unresolved := x.unresolved + 1 })
      else if !q.beyond then
        let s := (((s.inc p CHK.TRANSIENT_CNT).irq p 1).emit p 0x5011 addr).modSum c (fun x => { x with transient := x.transient + 1 })
        let s := s.modTile c e t (fun x => { x with transients := x.transients + 1 })
        s.suspectTrack c e t false
      else
        let s := (((s.inc p CHK.PERMANENT_CNT).irq p 2).emit p 0x5012 addr).modSum c (fun x => { x with permanent := x.permanent + 1 })
        (s.suspectTrack c e t true).permanentOn c e t

/-! ### Registers of the check unit that act -/

/-- SEED reloads the selection register of every tile of the core (R143). -/
def chkSeedEffect (s : State) (c v : Nat) : State :=
  (List.range 4).foldl (fun s e => (List.range 17).foldl (fun s t => s.modTile c e t (fun x => { x with lfsr := 0 })) s) (s.wr (chkPg c) CHK.SEED v)

def lgSelEffect (s : State) (c v : Nat) : State :=
  let p := chkPg c
  let band := field v 16 3
  let t := field v 8 5
  let e := field v 0 2
  if 5 < band ∨ 16 < t then s.refuse p
  else
    let s := ((s.wr p CHK.LG_SEL_BAND band).wr p CHK.LG_SEL_TILE t).wr p CHK.LG_SEL_ENGINE e
    (mget (s.core c).ledger .init (ledgerKey e t band)).words.zipIdx.foldl (fun s w => s.wr p (CHK.LG_WINDOW w.2) w.1) s

/-- DREF is written only while the sequencer is halted, which it is in IDLE and HALTED (R153, R191). -/
def drefEffect (s : State) (c : Nat) (v : Bool) : State :=
  let p := chkPg c
  if running s c || halting s c then s.refuse p
  else ((s.wrB p CHK.CTRL_DREF v).wrB p CHK.STAT_DREF_ACTIVE v).modSum c (fun x => { x with dref := x.dref || v })

/-! ### Meanings -/

def execCheckCompare (c e t : Nat) (disagree : Bool) (s : State) : Host.Outcome State Fault Refusal :=
  onWf s (.checkCompare c e t disagree) (checkCompareEffect s c e t disagree)

def execCheckRepeatDone (c e t : Nat) (dev : List Int) (s : State) : Host.Outcome State Fault Refusal :=
  onWf s (.checkRepeatDone c e t dev) (checkRepeatEffect s c e t dev)

def execCheckOutcome (c e t : Nat) (s : State) : Host.Outcome State Fault Refusal :=
  onWf s (.checkOutcome c e t) (checkOutcomeEffect s c e t)

def execRetireTakeover (c e : Nat) (s : State) : Host.Outcome State Fault Refusal :=
  onWf s (.retireTakeover c e) (retireTakeoverEffect s c e)

def execChkSeedWrite (c v : Nat) (s : State) : Host.Outcome State Fault Refusal := onWf s (.chkSeedWrite c v) (chkSeedEffect s c v)

def execLgSel (c v : Nat) (s : State) : Host.Outcome State Fault Refusal := onWf s (.lgSel c v) (lgSelEffect s c v)

def execLgClear (c : Nat) (s : State) : Host.Outcome State Fault Refusal :=
  onWf s (.lgClear c) (s.modCore c (fun x => { x with ledger := [], folded := [] }))

def execDrefWrite (c : Nat) (v : Bool) (s : State) : Host.Outcome State Fault Refusal := onWf s (.drefWrite c v) (drefEffect s c v)

end Sys2Proof.Machine
end

