-- ==== Sys2Proof/Machine/Cal.lean ====
section
/-! DEFINITION. Calibration: trims, tracking, images, the rotation and the start-up procedure (file 06). -/

namespace Sys2Proof.Machine

/-! ### APPLY (R124, R128, R134) -/

/-- TT of R128, to the nearest 0.01 %: KT is in 0.001 %/K, temperatures in 1/16 °C (log 22). -/
def State.tempTerm (s : State) (c e t : Nat) : Int :=
  let p := tilePg c e t
  clampI (-600) 600 (roundAway (toSigned 16 (s.rd p TILE.TEMP_COMP_KT) * (s.engTemp c e - toSigned 16 (s.rd p TILE.TEMP_COMP_CAL_TEMP))) 160)

/-- The largest |GT| of a set, in steps. -/
def Trims.gainUsed (x : Trims) : Nat := maxN (x.gt.map (fun g => g.2.natAbs))

/-- Both banks' tracking terms and sums are cleared. -/
def State.clearTracks (s : State) (c e t : Nat) : State :=
  let p := tilePg c e t
  let s := (List.range 2).foldl (fun s b => ((s.wr p (TILE.TRACK_LIMIT b) 0).wr p (TILE.TRACK_OFFSET b) 0).wr p (TILE.TRACK_GAIN b) 0) s
  s.modTile c e t (fun x => { x with trackA := .init, trackB := .init })

/-- APPLY: the shadow set becomes the active set (R134). -/
def State.doApply (s : State) (c e t : Nat) : State :=
  let p := tilePg c e t
  let s := s.modTile c e t (fun x => { x with
    active := x.shadow, applyReq := false, epoch := x.epoch + 1, gainPeak := max x.gainPeak x.shadow.gainUsed })
  let s := (s.wr p TILE.CFG_LIMIT_MAX (s.rd p TILE.CAL_SET_LIMIT_MAX)).clearTracks c e t
  let s := ((s.wr p TILE.TEMP_COMP_CAL_TEMP (ofSigned 16 (s.engTemp c e))).wr p TILE.CAL_TIME s.sclk).inc p TILE.CAL_CNT
  let s := (s.wr p TILE.CAL_STAT_OVERDUE 0).wr p TILE.CAL_STAT_GAIN_USED (s.tile c e t).active.gainUsed
  s.wr p TILE.TEMP_TERM_TT (ofSigned 16 (s.tempTerm c e t))

/-- The sequencer is working on the tile. -/
def State.calBusy (s : State) (c e t : Nat) : Bool := s.rdB (tilePg c e t) TILE.CAL_STAT_BUSY

def calApplyReqEffect (s : State) (c e t : Nat) : State :=
  if s.calBusy c e t then s.refuse (tilePg c e t) else s.modTile c e t (fun x => { x with applyReq := true })

/-- Tiles calibrated under R136 in this start-up are counted (R400). -/
def State.countFull (s : State) (n : Nat) : State :=
  if n = 0 then s else (s.inc (diePage 16) DIE.BOOT_CAL_FULL_TILES n).wr (diePage 16) DIE.BOOT_STAT_FULL_CAL 1

/-- At start-up a tile restored, or calibrated alone after a rejected image, is in service once its APPLY has taken effect (R47,
R393). -/
def State.startTile (s : State) (c e t : Nat) : State :=
  let p := tilePg c e t
  let r := s.rd p TILE.CAL_STAT_LOAD_RESULT
  if !s.power.running.contains 8 || s.rdB p TILE.STAT_IN_SERVICE || s.rdB p TILE.STAT_RETIRED || r == 0 || s.calBusy c e t then s
  else
    let s := s.wr p TILE.STAT_IN_SERVICE 1
    if r = 1 then s.inc (diePage 16) DIE.BOOT_CAL_RESTORED_TILES else s.countFull 1

def applyEffectEffect (s : State) (c e t : Nat) : State :=
  let x := s.tile c e t
  if x.applyReq && !x.splitting then (s.doApply c e t).startTile c e t else s

/-! ### Images (R137, R138) -/

/-- CRC-32, reflected, polynomial 0x04C1_1DB7 (R137). -/
def crc32Step (crc : Nat) : Nat → Nat
  | 0 => crc
  | n + 1 => crc32Step (if crc % 2 = 1 then (crc / 2) ^^^ 0xEDB88320 else crc / 2) n

def crc32 (l : List Byte) : Nat := (l.foldl (fun c b => crc32Step (c ^^^ b.toNat) 8) 0xFFFFFFFF) ^^^ 0xFFFFFFFF

/-- The 404 bytes of pair trims of a set. -/
def Trims.pairBytes (x : Trims) : List Byte :=
  toLe 404 ((List.range 268).foldl (fun a p => a + (ofSigned 5 (mget x.ot 0 p) + ofSigned 7 (mget x.gt 0 p) * 2 ^ 5) * 2 ^ (12 * p)) 0)

/-- The 512 bytes of row trims. -/
def Trims.rowBytes (x : Trims) : List Byte :=
  (List.range 512).map (fun i => byteOf (ofSigned 4 (mget x.dt 0 (2 * i)) + 16 * ofSigned 4 (mget x.dt 0 (2 * i + 1))))

/-- Signed fields as a sparse map, zeros unlisted. -/
def signedMap (l : List Int) : FMap Int := (l.zipIdx.filter (fun x => x.1 != 0)).map (fun x => (x.2, x.1))

/-- The set that 404 + 512 bytes of windows hold. -/
def trimsOf (pairs rows : List Byte) : Trims :=
  let v := ofLe pairs
  { ot := signedMap ((List.range 268).map (fun p => toSigned 5 (v >>> (12 * p)))),
    gt := signedMap ((List.range 268).map (fun p => toSigned 7 (v >>> (12 * p + 5)))),
    dt := signedMap ((List.range 1024).map (fun r => toSigned 4 ((rows.getD (r / 2) 0).toNat / (if r % 2 = 0 then 1 else 16)))) }

/-- A remap register's 32 bits. -/
def State.colmapWord (s : State) (c e t i : Nat) : Nat :=
  let p := tilePg c e t
  s.rd p (TILE.COLMAP_VALID i) * 2 ^ 31 + s.rd p (TILE.COLMAP_BANK i) * 2 ^ 16 + s.rd p (TILE.COLMAP_COLUMN i)

/-- The calibration image of a tile's active set (R137). -/
def State.calImage (s : State) (c e t : Nat) : List Byte :=
  let p := tilePg c e t
  let x := (s.tile c e t).active
  let body := [byteOf 1, byteOf (s.rd p TILE.STAT_SUSPECT)] ++ toLe 2 (calInstance c e t) ++ toLe 2 (s.rd p TILE.TEMP_COMP_CAL_TEMP)
    ++ toLe 1 (s.rd p TILE.CFG_LIMIT_MAX) ++ toLe 1 0 ++ toLe 4 (s.rd p TILE.CAL_SET_LINEAR_PU) ++ toLe 2 (s.rd p TILE.BANK_SKEW_SKEW) ++ toLe 2 0
    ++ (List.range 4).flatMap (fun i => toLe 4 (s.colmapWord c e t i)) ++ toLe 8 (s.rd p TILE.CAL_TIME) ++ toLe 8 (Config.serial % 2 ^ 64)
    ++ toLe 16 0 ++ x.pairBytes ++ x.rowBytes ++ toLe 40 0
  body ++ toLe 4 (crc32 body)

def calSaveEffect (s : State) (c e t : Nat) : State :=
  let p := tilePg c e t
  if s.calBusy c e t then s.refuse p else s.csWrite c (s.rdA p TILE.CAL_IMG_ADDR_ADDR) (s.calImage c e t)

/-- An image passes the checks on its content (R138). -/
def imageOk (c e t : Nat) (img : List Byte) : Bool :=
  leAt img 0 1 == 1 && leAt img 2 2 == calInstance c e t && leAt img 40 8 == Config.serial % 2 ^ 64
    && leAt img 1020 4 == crc32 (img.take 1020)

/-- An accepted image becomes the shadow set; the sequencer verifies it with the calibration pattern in both banks. -/
def State.loadImage (s : State) (c e t : Nat) (img : List Byte) : State :=
  let p := tilePg c e t
  let s := s.modTile c e t (fun x => { x with shadow := trimsOf ((img.drop 64).take 404) ((img.drop 468).take 512) })
  let s := ((s.wr p TILE.CAL_SET_LIMIT_MAX (leAt img 6 1 % 4)).wr p TILE.CAL_SET_LINEAR_PU (leAt img 8 4)).wr p TILE.BANK_SKEW_SKEW (leAt img 12 2)
  let s := (List.range 4).foldl (fun s i => let v := leAt img (16 + 4 * i) 4; s.putColmap c e t i (bit v 31) (field v 16 2) (field v 0 8)) s
  ((s.emptyBank c e t 0).emptyBank c e t 1).setCalPhase c e t 4

/-- A rejected image: stages 2 and 4 of R136 follow on the tile alone (R138, R393). -/
def State.rejectImage (s : State) (c e t result : Nat) : State :=
  let s := if s.power.running.contains 8 then s.inc (diePage 16) DIE.BOOT_REJ_IMAGES else s
  (((s.wr (tilePg c e t) TILE.CAL_STAT_LOAD_RESULT result).emit (engPg c e) 0x4017 0).setCalPhase c e t 6).modTile c e t
    (fun x => { x with calStage := 2 })

def calLoadEffect (s : State) (c e t : Nat) : State :=
  let p := tilePg c e t
  let a := s.rdA p TILE.CAL_IMG_ADDR_ADDR
  if s.calBusy c e t || s.rdB p TILE.STAT_IN_SERVICE then s.refuse p
  else if s.csBad c a 1024 || !imageOk c e t (s.csRead c a 1024) then s.wr p TILE.CAL_STAT_LOAD_RESULT 2
  else s.loadImage c e t (s.csRead c a 1024)

def calVerifyEffect (s : State) (c e t : Nat) (pass : Bool) : State :=
  let p := tilePg c e t
  if s.rd p TILE.CAL_STAT_PHASE ≠ 4 then s
  else if pass then
    ((s.wr p TILE.CAL_STAT_LOAD_RESULT 1).setCalPhase c e t 0).modTile c e t (fun x => { x with applyReq := true })
  else s.rejectImage c e t 3

/-! ### Tracking (R126, R127) -/

/-- The tile goes to the front of its engine's rotation. -/
def State.toFront (s : State) (c e t : Nat) : State :=
  s.modEng c e (fun x => { x with rot := { x.rot with front := addLanes x.rot.front [t] } })

/-- A term moves by `d` and stays in range; whether it has just reached its end. -/
def moveTerm (v d most : Int) : Int × Bool :=
  let w := clampI (-most) most (v + d)
  (w, d != 0 && (decide (w = most) || decide (w = -most)) && w != v)

def trackWindowEffect (s : State) (c e t : Nat) : State :=
  let b := s.computeBank c e t
  let x := (s.tile c e t).track b
  if x.n < 256 then s
  else
    let p := tilePg c e t
    let u := unitOf (s.twoSlice c e t b)
    let dg : Int := if x.den < 1024 * u * u then 0
      else if 2049 * x.den < 2048 * u * x.num then -1 else if 2048 * u * x.num < 2047 * x.den then 1 else 0
    let dO : Int := if 16 < x.off then -1 else if x.off < -16 then 1 else 0
    let (g, gl) := moveTerm (toSigned 8 (s.rd p (TILE.TRACK_GAIN b))) dg 31
    let (o, ol) := moveTerm (toSigned 8 (s.rd p (TILE.TRACK_OFFSET b))) dO 32
    let s := (s.wr p (TILE.TRACK_GAIN b) (ofSigned 8 g)).wr p (TILE.TRACK_OFFSET b) (ofSigned 8 o)
    let s := s.modTile c e t (fun y => y.setTrack b .init)
    if gl || ol then (((s.wr p (TILE.TRACK_LIMIT b) 1).tcount p TILE.TRACK_LIM_CNT).emit (engPg c e) 0x4018 0).toFront c e t else s

/-! ### The rotation (R129 to R135) -/

/-- The next tile at or after `t` in the cycle that is not retired. -/
def State.nextTurn (s : State) (c e t : Nat) : Option Nat :=
  ((List.range 17).map (fun i => (t + i) % 17)).find? (fun k => !s.rdB (tilePg c e k) TILE.STAT_RETIRED)

/-- The procedure of R131 begins on a tile. -/
def State.beginCalibrate (s : State) (c e t : Nat) : State :=
  let s := s.modTile c e t (fun x => (x.modBank 0 (fun y => { y with matched := false })).modBank 1 (fun y => { y with matched := false }))
  (s.modEng c e (fun x => { x with rot := { x.rot with
    phase := .calibrate, tile := t, attemptAt := s.now, restarted := false, timedOut := false, doublings := 0, remapped := false,
    noApply := false } })).setCalPhase c e t 2

/-- The fill of the spare for a turn (R72, R130). -/
def State.fillForTurn (s : State) (c e t : Nat) : State :=
  let p := engPg c e
  (List.range 2).foldl (fun s b =>
    let s := s.emptyBank c e 16 b
    if s.bankState c e t b = 2 then
      (s.beginWrite c e 16 b .fill (s.bankRows c e t b) (s.rdA p (ENG.BANK_STATE_SHADOW (bkey t b))) true (s.rd (tilePg c e t) (limitF b)) 63).1
    else s) s

/-- The engine's tiles are through start-up calibration: rotation runs from then on (R136, R393). -/
def State.calibrated (s : State) (c e : Nat) : Bool :=
  s.power.ended.contains 8 || (List.range 17).all (fun t => s.rdB (tilePg c e t) TILE.STAT_IN_SERVICE || s.rdB (tilePg c e t) TILE.STAT_RETIRED)

def calSlotEffect (s : State) (c e : Nat) : State :=
  let p := engPg c e
  let x := s.eng c e
  if s.coreStopped c || !s.rdB p ENG.CAL_ROT_ENABLE || s.rdB p ENG.CAL_ROT_STAT_STOPPED || x.rot.phase != .idle || x.fillFor.isSome
    || !s.calibrated c e then s
  else if s.rdB (tilePg c e 16) TILE.STAT_RETIRED || s.rd (tilePg c e 16) TILE.STAT_STANDIN_FOR != 0x1F then s.stopRotation c e
  else
    let pick := match x.rot.front.find? (fun k => !s.rdB (tilePg c e k) TILE.STAT_RETIRED) with
      | some t => some (t, true)
      | none => (s.nextTurn c e (s.rd p ENG.CAL_ROT_STAT_NEXT)).map (fun t => (t, false))
    match pick with
    | none => s
    | some (t, front) =>
      if (s.tile c e t).wearPhase ≠ 0 then s
      else
        let s := if front then s.modEng c e (fun y => { y with rot := { y.rot with front := y.rot.front.filter (fun k => k != t) } })
          else s.wr p ENG.CAL_ROT_STAT_NEXT ((t + 1) % 17)
        let s := (s.wr p ENG.CAL_ROT_STAT_CURRENT t).wr (tilePg c e t) TILE.CAL_STAT_RETRIED 0
        let s := s.modEng c e (fun y => { y with rot := { y.rot with tile := t, slotAt := s.now } })
        if t = 16 then s.beginCalibrate c e 16
        else ((s.fillForTurn c e t).modEng c e (fun y => { y with rot := { y.rot with phase := .fill } })).setCalPhase c e t 1

def calTakeoverEffect (s : State) (c e : Nat) : State :=
  let r := (s.eng c e).rot
  let t := r.tile
  let b := s.computeBank c e t
  let ok := fun k => s.spareMatches c e t k
  if r.phase ≠ .fill ∨ (s.tile c e t).splitting ∨ !ok b ∨ (s.bankState c e t (1 - b) = 2 ∧ !ok (1 - b)) then s
  else
    let s := if ok (1 - b) then s else s.emptyBank c e 16 (1 - b)
    let s := (s.wr (tilePg c e t) TILE.CTRL_ENABLE 0).wr (tilePg c e t) TILE.STAT_IN_SERVICE 0
    (s.standIn c e t (fun _ => true)).beginCalibrate c e t

def calTakeoverTimeoutEffect (s : State) (c e : Nat) : State :=
  let r := (s.eng c e).rot
  if r.phase ≠ .fill then s
  else s.dropFill c e

/-- A tile in its turn, or at start-up, is retired (R132, R133): the spare goes on in its place, or stands in from now on. -/
def State.retireInCal (s : State) (c e t reason : Nat) : State :=
  let s := ((s.emit (engPg c e) 0x4012 reason).retireTile c e t reason).stopRotation c e
  let p := tilePg c e 16
  if t = 16 ∨ s.rd p TILE.STAT_STANDIN_FOR = t then s
  else if s.rdB p TILE.STAT_RETIRED || s.rd p TILE.STAT_STANDIN_FOR != 0x1F then s.triggerMig c 2 false
  else s.standIn c e t (fun _ => true)

/-- The first free remap entry of a tile. -/
def State.freeColmap (s : State) (c e t : Nat) : Option Nat :=
  (List.range 4).find? (fun i => !s.rdB (tilePg c e t) (TILE.COLMAP_VALID i))

/-- Failed pairs are remapped one by one; false where none is free for a failed pair. -/
def State.remapFailed (s : State) (c e t : Nat) : List (Nat × Nat) → State × Bool
  | [] => (s, true)
  | (pair, banks) :: l =>
    match s.freeColmap c e t with
    | none => (s, false)
    | some i => State.remapFailed ((s.putColmap c e t i true banks pair).emit (engPg c e) 0x4014 0) c e t l

/-- Why a procedure retires its tile, if it does (R133). -/
def retireReason (m : CalMeas) : Option Nat :=
  if m.medianGt.natAbs > 60 then some 2 else if m.refFailed then some 3 else if m.delayOut then some 4 else none

/-- The largest limit code that a linear range allows (R38). -/
def limitFor (pu : Nat) : Nat := if 512 * 105 ≤ pu then 3 else if 256 * 105 ≤ pu then 2 else if 128 * 105 ≤ pu then 1 else 0

/-- The trims found go into the shadow set (R131). -/
def State.putMeas (s : State) (c e t : Nat) (m : CalMeas) : State :=
  let p := tilePg c e t
  let s := s.modTile c e t (fun x => { x with shadow := ⟨signedMap (m.ot.map (clampI (-16) 15)), signedMap (m.gt.map (clampI (-60) 60)), signedMap (m.dt.map (clampI (-8) 7))⟩ })
  let s := ((s.wr p TILE.CAL_SET_LINEAR_PU m.linearPu).wr p TILE.CAL_SET_LIMIT_MAX (limitFor m.linearPu)).wr p TILE.BANK_SKEW_SKEW (ofSigned 16 m.skew)
  if 50 ≤ maxN (m.gt.map Int.natAbs) then s.emit (engPg c e) 0x4015 0 else s

/-- Start-up calibration ends on an engine (R136 stage 5): APPLY on every tile, IN_SERVICE, and the rotation starts. -/
def State.finishStartup (s : State) (c e : Nat) : State :=
  let l := (List.range 17).filter (fun t => !s.rdB (tilePg c e t) TILE.STAT_RETIRED)
  let s := (l.foldl (fun s t => ((s.doApply c e t).wr (tilePg c e t) TILE.STAT_IN_SERVICE 1).setCalPhase c e t 0) s).countFull l.length
  (s.modEng c e (fun x => { x with rot := RotS.init })).wr (engPg c e) ENG.CAL_ROT_STAT_NEXT ((4 * c + e) % 17)

/-- A start-up procedure on tile `t` is over: the next tile, the retention screen, or the end. -/
def State.startupNext (s : State) (c e t : Nat) : State :=
  let r := (s.eng c e).rot
  if r.stage = 2 then
    s.modEng c e (fun x => { x with rot := if t < 16 then { x.rot with tile := t + 1 } else { x.rot with stage := 3 } })
  else
    let rest := r.front.filter (fun k => k != t)
    let s := s.modEng c e (fun x => { x with rot := { x.rot with front := rest, tile := rest.headD 0 } })
    if rest.isEmpty then s.finishStartup c e else s

/-- The procedure that runs on tile `t` now: in its turn, at start-up, or alone after a rejected image. -/
def State.calRuns (s : State) (c e t : Nat) : Bool :=
  let r := (s.eng c e).rot
  (r.phase == .calibrate && r.tile == t) || (r.phase == .startup && (r.stage == 2 || r.stage == 4) && r.tile == t) || (s.tile c e t).calStage != 0

def calProcedureEffect (s : State) (c e t : Nat) (m : CalMeas) : State :=
  if !s.calRuns c e t then s
  else
    let r := (s.eng c e).rot
    let alone := (s.tile c e t).calStage
    let retire := fun (s : State) reason =>
      let s := s.retireInCal c e t reason
      if alone ≠ 0 then (s.setCalPhase c e t 0).modTile c e t (fun x => { x with calStage := 0 })
      else if r.phase = .startup then s.startupNext c e t else s.endTurn c e t
    match retireReason m with
    | some reason => retire s reason
    | none =>
      let (s', fits) := s.remapFailed c e t m.failed
      if !fits then retire s' 5
      else if !m.failed.isEmpty then s'.modEng c e (fun x => { x with rot := { x.rot with remapped := true } })
      else if !m.converged then s.modEng c e (fun x => { x with rot := { x.rot with doublings := x.rot.doublings + 1 } })
      else
        let s := s.putMeas c e t m
        if alone = 2 then s.modTile c e t (fun x => { x with calStage := 4 })
        else if alone = 4 then (s.setCalPhase c e t 0).modTile c e t (fun x => { x with calStage := 0, applyReq := true })
        else if r.phase = .startup then s.startupNext c e t
        else if t = 16 then ((s.doApply c e 16).inc (engPg c e) ENG.ROT_CNT).endTurn c e 16
        else s.beginReturn c e t false

def calTimeoutEffect (s : State) (c e : Nat) : State :=
  let r := (s.eng c e).rot
  if r.phase ≠ .calibrate then s
  else
    let p := tilePg c e r.tile
    let s := ((s.tcount p TILE.CAL_TMO_CNT).emit (engPg c e) 0x4011 0)
    if r.timedOut then (s.retireInCal c e r.tile 1).endTurn c e r.tile
    else (s.wr p TILE.CAL_STAT_RETRIED 1).modEng c e (fun x => { x with rot := { x.rot with timedOut := true, attemptAt := s.now } })

/-- A bank of the returning tile matches the spare's (R72, R130). -/
def State.returnMatches (s : State) (c e u b : Nat) : Bool :=
  s.bankState c e 16 b == 0 || (((s.tile c e u).bank b).matched && ((s.tile c e u).bank b).wr.isNone)

/-- The return at a pass boundary: APPLY first, then the change of tile (R130, R134, R135). -/
def calReturnEffect (s : State) (c e : Nat) : State :=
  let x := s.eng c e
  let u := x.rot.tile
  let lost := s.rdB (tilePg c e 16) TILE.STAT_RETIRED
  let b := s.computeBank c e 16
  let sp := s.tile c e 16
  let ready := if lost then ((s.tile c e u).bankA.wr.isNone && (s.tile c e u).bankB.wr.isNone && !sp.vecs.any (fun v => !v.finished))
    else !sp.splitting && s.returnMatches c e u b && (s.bankState c e 16 (1 - b) != 2 || s.returnMatches c e u (1 - b))
  if x.rot.phase ≠ .ret ∨ !ready then s
  else
    let s := if lost || s.returnMatches c e u (1 - b) then s else s.emptyBank c e u (1 - b)
    let s := if x.rot.noApply then s else (s.doApply c e u).inc (engPg c e) ENG.ROT_CNT
    let p := tilePg c e u
    let s := ((s.wr p TILE.CFG_COMPUTE_BANK b).wr p TILE.CTRL_ENABLE 1).wr p TILE.STAT_IN_SERVICE 1
    let s := (s.wr (tilePg c e 16) TILE.STAT_STANDIN_FOR 0x1F).wr (tilePg c e 16) TILE.STAT_IN_SERVICE (toBit (!lost))
    let s := s.modTile c e u (fun y => { y with vecs := y.vecs ++ sp.vecs, epoch := y.epoch + 1 })
    let s := s.modTile c e 16 (fun y => { y with vecs := [], epoch := y.epoch + 1 })
    let held := match x.standSince with
      | some z => (s.now - z) / 8
      | none => 0
    let s := (s.inc (engPg c e) ENG.STANDIN_CNT held).modEng c e (fun y => { y with
      standSince := none,
      ops := y.ops.map (fun o => { o with left := o.left.map (fun k => if k = leftCode 16 u ∧ (o.d.opcode = 0x21 ∨ !o.left.contains (leftCode u u)) then leftCode u u else k) }) })
    let s := ((s.emptyBank c e 16 0).emptyBank c e 16 1).endTurn c e u
    match x.fillFor with
    | some t => s.fillSpare c e t
    | none => s

def calOverdueEffect (s : State) (c e t : Nat) : State :=
  let p := tilePg c e t
  if s.rdB p TILE.CAL_STAT_OVERDUE then s else (s.wr p TILE.CAL_STAT_OVERDUE 1).emit (engPg c e) 0x4013 0

/-! ### Start-up calibration (R136, R393) -/

/-- Stage 1 is over: stage 2 begins with tile 0. -/
def startupSettledEffect (s : State) (c e : Nat) : State :=
  let r := (s.eng c e).rot
  if r.phase = .startup ∧ r.stage = 1 then s.modEng c e (fun x => { x with rot := { x.rot with stage := 2, tile := 0 } }) else s

def calUnsettledEffect (s : State) (c e : Nat) : State :=
  let r := (s.eng c e).rot
  if r.phase = .startup ∧ r.stage = 1 then startupSettledEffect (s.emit (engPg c e) 0x4019 0) c e else s

/-- The failed pairs of a tile in a retention screen as (pair, banks). -/
def lostPairs (lost : List (Nat × Nat × Nat)) (t : Nat) : List (Nat × Nat) :=
  let mine := lost.filter (fun x => x.1 == t)
  (mine.map (fun x => x.2.1)).eraseDups.map (fun p => (p, maskOf ((mine.filter (fun x => x.2.1 == p)).map (fun x => x.2.2 % 2)).eraseDups))

/-- The retention screen ends (R136 stage 3): lost pairs, as (tile, pair, bank), are remapped, or their tile retires; the tiles
concerned run stage 4. -/
def retentionEffect (s : State) (c e : Nat) (lost : List (Nat × Nat × Nat)) : State :=
  let r := (s.eng c e).rot
  if r.phase ≠ .startup ∨ r.stage ≠ 3 then s
  else
    let (s, again) := (List.range 17).foldl (fun (a : State × List Nat) t =>
      let f := lostPairs lost t
      if f.isEmpty then a
      else
        let (s, ok) := a.1.remapFailed c e t f
        if ok then (s, a.2 ++ [t]) else (s.retireInCal c e t 6, a.2)) (s, [])
    let s := s.modEng c e (fun x => { x with rot := { x.rot with stage := 4, front := again, tile := again.headD 0 } })
    if again.isEmpty then s.finishStartup c e else s

/-! ### Meanings -/

def execCalApplyRequest (c e t : Nat) (s : State) : Host.Outcome State Fault Refusal := onWf s (.calApplyRequest c e t) (calApplyReqEffect s c e t)
def execApplyEffect (c e t : Nat) (s : State) : Host.Outcome State Fault Refusal := onWf s (.applyEffect c e t) (applyEffectEffect s c e t)
def execCalSave (c e t : Nat) (s : State) : Host.Outcome State Fault Refusal := onWf s (.calSave c e t) (calSaveEffect s c e t)
def execCalLoad (c e t : Nat) (s : State) : Host.Outcome State Fault Refusal := onWf s (.calLoad c e t) (calLoadEffect s c e t)
def execCalLoadVerifyDone (c e t : Nat) (pass : Bool) (s : State) : Host.Outcome State Fault Refusal :=
  onWf s (.calLoadVerifyDone c e t pass) (calVerifyEffect s c e t pass)
def execCalRecal (c e t : Nat) (s : State) : Host.Outcome State Fault Refusal := onWf s (.calRecal c e t) (s.toFront c e t)
def execTrackWindow (c e t : Nat) (s : State) : Host.Outcome State Fault Refusal := onWf s (.trackWindow c e t) (trackWindowEffect s c e t)
def execCalSlot (c e : Nat) (s : State) : Host.Outcome State Fault Refusal := onWf s (.calSlot c e) (calSlotEffect s c e)
def execCalTakeover (c e : Nat) (s : State) : Host.Outcome State Fault Refusal := onWf s (.calTakeover c e) (calTakeoverEffect s c e)
def execCalTakeoverTimeout (c e : Nat) (s : State) : Host.Outcome State Fault Refusal :=
  onWf s (.calTakeoverTimeout c e) (calTakeoverTimeoutEffect s c e)
def execCalProcedureEnd (c e t : Nat) (m : CalMeas) (s : State) : Host.Outcome State Fault Refusal :=
  onWf s (.calProcedureEnd c e t m) (calProcedureEffect s c e t m)
def execCalTimeout (c e : Nat) (s : State) : Host.Outcome State Fault Refusal := onWf s (.calTimeout c e) (calTimeoutEffect s c e)
def execCalReturn (c e : Nat) (s : State) : Host.Outcome State Fault Refusal := onWf s (.calReturn c e) (calReturnEffect s c e)
def execCalOverdue (c e t : Nat) (s : State) : Host.Outcome State Fault Refusal := onWf s (.calOverdue c e t) (calOverdueEffect s c e t)
def execStartupCalSettled (c e : Nat) (s : State) : Host.Outcome State Fault Refusal :=
  onWf s (.startupCalSettled c e) (startupSettledEffect s c e)
def execRetentionScreenEnd (c e : Nat) (lost : List (Nat × Nat × Nat)) (s : State) : Host.Outcome State Fault Refusal :=
  onWf s (.retentionScreenEnd c e lost) (retentionEffect s c e lost)
def execCalUnsettled (c e : Nat) (s : State) : Host.Outcome State Fault Refusal := onWf s (.calUnsettled c e) (calUnsettledEffect s c e)

end Sys2Proof.Machine
end

