-- ==== Sys2Proof/Machine/Quant.lean ====
section
/-! DEFINITION. The quantiser and the layer's objects: manifest entries, arrival formats, scales and residuals, overflow, bursts,
images, side tables, outlier sets, and the error figures of the load report (R97 to R108, R120, R251 to R256). -/

namespace Sys2Proof.Machine

/-! ### Manifest entries (R252) -/

structure Man where
  format : Nat
  arr : Nat
  slice2 : Bool
  partner : Bool
  spanK : Nat
  layer : Nat
  staticN : Nat
  k : Nat
  n : Nat
  dest : Nat
  staticList : Nat
  report : Nat
  srcBytes : Nat
  zeros : Bool
deriving DecidableEq, Repr

/-- The entry that 128 bytes spell; `zeros` says that every byte and bit that shall be zero is. -/
def Man.ofBytes (l : List Byte) : Man :=
  let fl := leAt l 2 1
  { format := leAt l 0 1, arr := leAt l 1 1, slice2 := bit fl 0, partner := bit fl 1, spanK := leAt l 3 1, layer := leAt l 4 2,
    staticN := leAt l 6 2, k := leAt l 8 4, n := leAt l 12 4, dest := leAt l 16 8, staticList := leAt l 24 8, report := leAt l 32 8,
    srcBytes := leAt l 40 8, zeros := decide (fl < 4) && (l.drop 48).all (fun b => b == 0) }

def Man.kb (m : Man) : Nat := (m.k + 1023) / 1024
/-- Logical columns of a column block. -/
def Man.width (m : Man) : Nat := if m.slice2 then 128 else 256
def Man.nb (m : Man) : Nat := (m.n + m.width - 1) / m.width
def Man.tl0 (m : Man) : Nat := m.kb * m.nb
def Man.tl (m : Man) : Nat := if m.partner then 2 * m.tl0 else m.tl0
/-- Bytes of the layer area (R253). -/
def Man.area (m : Man) : Nat := m.tl * 319616

/-- An entry passes (R252). -/
def Man.passes (m : Man) : Bool :=
  m.format == 1 && m.zeros && decide (m.arr < 4) && m.spanK != 0 && decide (m.staticN ≤ 4096) && decide (32 ≤ m.k)
    && decide (m.k ≤ 1048576) && m.k % 32 == 0 && m.n != 0 && decide (m.n ≤ 1048576) && m.kb % m.spanK == 0
    && m.dest % 65536 == 0 && decide (m.dest + m.area ≤ tier1End) && m.report % 128 == 0
    && (decide (m.report + 128 ≤ tier1End) || (decide (tier2Base ≤ m.report) && decide (m.report + 128 ≤ tier2End)))
    && (m.arr == 0 || m.srcBytes == (if m.arr = 1 then m.n * (m.k / 32) * 17 else if m.arr = 2 then m.n * (m.k / 32) * 33 else m.n * m.k * 2))

/-! ### Expansion (R103) -/

/-- Value of row `r`, column `j` of an MX or BF16 source; none where it is not finite in FP32. -/
def Man.value (m : Man) (a : Array Byte) (r j : Nat) : Option Dy :=
  let at0 := fun i => (a.getD i 0).toNat
  if m.arr = 3 then
    let o := (j * m.k + r) * 2
    match BF16.unpack (at0 o + 256 * at0 (o + 1)) with
    | .fin neg x e => some ⟨if neg then -(x : Int) else x, e⟩
    | _ => none
  else
    let size := if m.arr = 1 then 17 else 33
    let o := (j * (m.k / 32) + r / 32) * size
    let i := r % 32
    let d : Dy :=
      if m.arr = 1 then let b := at0 (o + 1 + i / 2); e2m1Dec (if i % 2 = 0 then b % 16 else b / 16)
      else ⟨toSigned 8 (at0 (o + 1 + i)), -6⟩
    let v := d.mul ⟨1, (at0 o : Int) - 127⟩
    if at0 o = 255 ∨ !v.abs.lt ⟨1, 128⟩ then none else some v

/-! ### One tile load's contents -/

/-- What a tile load holds: codes by row and pair, scale pattern by pair, static rows with their 256 weights, residuals as (burst,
group, row offset, pattern), bursts with a clamped code. -/
structure TileOut where
  code : Nat → Nat → Int
  scale : Nat → Nat
  statics : List (Nat × List Nat)
  resid : List (Nat × Nat × Nat × Nat)
  clamped : List Nat

/-- Figures of the load report. -/
structure LayerSums where
  err2 : Dy
  sum2 : Dy
  worst : Dy
  clamped : Nat
  splits : Nat
  dropped : Nat
  degraded : Bool

def LayerSums.zero : LayerSums := ⟨.zero, .zero, .zero, 0, 0, 0, false⟩

def LayerSums.value (x : LayerSums) (w err : Dy) : LayerSums :=
  { x with err2 := x.err2.add (err.mul err), sum2 := x.sum2.add (w.mul w), worst := if x.worst.lt err.abs then err.abs else x.worst }

/-- CRC-16 of R101. -/
def crc16Step (c : Nat) : Nat → Nat
  | 0 => c
  | n + 1 => crc16Step (if 0x8000 ≤ c then ((2 * c) % 65536) ^^^ 0x1021 else 2 * c) n

def crc16 (l : List Byte) : Nat := l.foldl (fun c b => crc16Step (c ^^^ (b.toNat * 256)) 8) 0xFFFF

/-- The burst that holds a row and a pair, and its group (R100). -/
def burstOf (r p : Nat) : Nat × Nat := (r / 128 * 64 + p / 4, p % 4)

/-- The index words in burst and group order (R99). The STATIC counts stand on the group of pair 0 of each row block, so that they
sum to STATIC_N as R109 asks (log 32). -/
def TileOut.indexAux (t : TileOut) : List Nat → Nat → List Nat
  | [], _ => []
  | i :: l, first =>
    let b := i / 4
    let g := i % 4
    let n := (t.resid.filter (fun x => x.1 == b && x.2.1 == g)).length
    let st := if i % 256 = 0 then (t.statics.filter (fun x => x.1 / 128 == b / 64)).length else 0
    ((if n = 0 then 0 else first % 1024 * 2 ^ 22) + n * 2 ^ 14 + st * 2 ^ 8) :: t.indexAux l (first + n)

def TileOut.index (t : TileOut) : List Nat := t.indexAux (List.range 2048) 0

def nib (x : Int) : Nat := ofSigned 4 x

/-- Burst `b` (R97, R98) of the tile load whose first burst has index `gid0` in the layer. -/
def TileOut.burst (t : TileOut) (idx : Array Nat) (gid0 b : Nat) (slice2 degraded : Bool) : List Byte :=
  let words := (List.range 4).map (fun g => idx.getD (4 * b + g) 0)
  let hdr := 1 + 16 * toBit slice2 + (gid0 + b) % 2 ^ 24 * 2 ^ 8 + toBit (words.any (fun w => field w 14 8 != 0)) * 2 ^ 33
    + toBit (words.any (fun w => field w 8 6 != 0)) * 2 ^ 34 + toBit degraded * 2 ^ 35 + toBit (t.clamped.contains b) * 2 ^ 36
  let pair := fun g => 4 * (b % 64) + g
  let body := (List.range 4).flatMap (fun g => toLe 2 (t.scale (pair g)))
    ++ (List.range 4).flatMap (fun g => (List.range 64).map (fun i =>
      let r := 128 * (b / 64) + 2 * i
      byteOf (nib (t.code r (pair g)) + 16 * nib (t.code (r + 1) (pair g)))))
    ++ words.flatMap (toLe 4)
  let h := toLe 6 hdr
  h ++ toLe 2 (crc16 (h ++ body)) ++ body

/-- The tile image of R51. -/
def TileOut.image (t : TileOut) : List Byte :=
  (List.range 1024).flatMap (fun r => (List.range 128).map (fun i => byteOf (nib (t.code r (2 * i)) + 16 * nib (t.code r (2 * i + 1)))))

/-- The side table of R101. -/
def TileOut.side (t : TileOut) (idx : List Nat) : List Byte :=
  (List.range 512).flatMap (fun b => (List.range 4).flatMap (fun g => toLe 2 (t.scale (4 * (b % 64) + g)))) ++ idx.flatMap (toLe 4)

/-- The outlier set of R108. -/
def TileOut.set (t : TileOut) (idx : List Nat) : List Byte :=
  toLe 2 t.statics.length ++ toLe 2 t.resid.length ++ List.replicate 60 0
    ++ (List.range 32).flatMap (fun i => toLe 2 ((t.statics.map (fun x => x.1)).getD i 0xFFFF))
    ++ t.statics.flatMap (fun x => x.2.flatMap (toLe 2)) ++ idx.flatMap (toLe 4)
    ++ t.resid.flatMap (fun x => toLe 4 (x.2.2.2 * 65536 + x.2.2.1))

/-- What a layer writes: (address, bytes) in order. -/
def Man.writes (m : Man) (tiles : List TileOut) (degraded : Bool) : List (Nat × List Byte) :=
  tiles.zipIdx.flatMap (fun x =>
    let t := x.1
    let i := x.2
    let idx := t.index
    let arr := idx.toArray
    [(m.dest + i * 147456, (List.range 512).flatMap (fun b => t.burst arr (512 * i) b m.slice2 degraded)),
     (m.dest + m.tl * 147456 + i * 131072, t.image), (m.dest + m.tl * 278528 + i * 12288, t.side idx),
     (m.dest + m.tl * 290816 + i * 28800, t.set idx)])

/-! ### The quantiser (R104 to R106, R120) -/

/-- KAPPA, M8 = CLAMP, OUTL_OVF = CLIP of INGEST.POLICY. -/
structure Policy where
  kappa : Nat
  clamp : Bool
  clip : Bool
deriving DecidableEq, Repr

/-- A candidate: row, logical column, magnitude. -/
structure Cand where
  r : Nat
  j : Nat
  mag : Dy

/-- Larger magnitudes first; ties by lower column, then lower row. -/
def Cand.before (a b : Cand) : Bool :=
  if b.mag.lt a.mag then true else if a.mag.lt b.mag then false else if a.j = b.j then decide (a.r ≤ b.r) else decide (a.j < b.j)

/-- Rows of the span that begins at K-tile `k0`. -/
def Man.spanRows (m : Man) (k0 : Nat) : List Nat := (List.range (1024 * m.spanK)).map (fun i => 1024 * k0 + i)

/-- The candidates of column `j` over a span, its static rows apart: 16 n w² > KAPPA² Σw². -/
def candsOf (pol : Policy) (w : Nat → Nat → Dy) (rows : List Nat) (isStatic : Nat → Bool) (j : Nat) : List Cand :=
  let rs := rows.filter (fun r => !isStatic r)
  let sum := Dy.sum (rs.map (fun r => (w r j).mul (w r j)))
  if pol.kappa = 0 then []
  else (rs.filter (fun r => ((Dy.ofInt (pol.kappa * pol.kappa)).mul sum).lt ((Dy.ofInt (16 * rs.length)).mul ((w r j).mul (w r j))))).map
    (fun r => ⟨r, j, (w r j).abs⟩)

/-- A unit of rows that one tile load takes: the K-tile, its first row within the tile, its rows' count, its static rows and its
sparse places, both of the layer. -/
structure QUnit where
  kb : Nat
  lo : Nat
  rows : Nat
  statics : List Nat
  sparse : List Cand
  lost : List Cand

def QUnit.has (u : QUnit) (r : Nat) : Bool := r / 1024 == u.kb && decide (u.lo ≤ r % 1024) && decide (r % 1024 < u.lo + u.rows)

/-- One column block of one span: its units with their places, the scale of each column; a refusal's code. -/
def Man.quantSpan (m : Man) (pol : Policy) (w : Nat → Nat → Dy) (list : List Nat) (nb k0 : Nat) : Except Nat (List QUnit × (Nat → Nat)) :=
  let rows := m.spanRows k0
  let cols := (List.range m.width).map (fun i => nb * m.width + i)
  let all := cols.flatMap (fun j => candsOf pol w rows (fun r => list.contains r) j)
  let units0 : List QUnit := (List.range m.spanK).flatMap (fun i =>
    let kb := k0 + i
    let st := list.filter (fun r => r / 1024 == kb)
    let ovr := decide (32 < st.length) || decide (1024 < (all.filter (fun c => c.r / 1024 == kb)).length)
    if m.partner && ovr then [⟨kb, 0, 512, st.filter (fun r => decide (r % 1024 < 512)), [], []⟩,
      ⟨kb, 512, 512, st.filter (fun r => decide (512 ≤ r % 1024)), [], []⟩]
    else [⟨kb, 0, 1024, st, [], []⟩])
  if !pol.clip && units0.any (fun u => decide (32 < u.statics.length)) then .error 0x3033
  else
    let kept := units0.flatMap (fun u => u.statics.take 32)
    let cands := cols.flatMap (fun j => candsOf pol w rows (fun r => kept.contains r) j)
    let units := units0.map (fun u =>
      let mine := sortBy Cand.before (cands.filter (fun c => u.has c.r))
      { u with sparse := mine.take 1024, lost := mine.drop 1024 })
    if !pol.clip && units.any (fun u => !u.lost.isEmpty) then .error 0x3033
    else
      let sparse := units.flatMap (fun u => u.sparse)
      let scales := cols.map (fun j =>
        let most := (rows.filter (fun r => !kept.contains r && !sparse.any (fun c => c.r == r && c.j == j))).foldl
          (fun (a : Dy) r => if a.lt (w r j).abs then (w r j).abs else a) .zero
        fp16Up most (if m.slice2 then 63 else 7))
      if scales.any (fun x => x.isNone) then .error 0x3035
      else .ok (units, fun j => (scales.getD (j % m.width) none).getD 0)

/-- The code before its clamp is beyond ±q. -/
def clampsAt (w s : Dy) (q : Int) : Bool :=
  let (x, y, _) := w.align s
  y != 0 && decide (q < (roundAway x y).natAbs)

/-- The tile load of a unit, and what it adds to the report. -/
def Man.unitOut (m : Man) (pol : Policy) (w : Nat → Nat → Dy) (nb : Nat) (scale : Nat → Nat) (u : QUnit) (x : LayerSums) : TileOut × LayerSums :=
  let q : Int := if m.slice2 then 63 else 7
  let st := u.statics.take 32
  let sig := fun j => (F16.unpack (scale j)).dy
  let row := fun r => 1024 * u.kb + u.lo + r
  let real := fun r j => decide (r < u.rows) && decide (row r < m.k) && decide (j < m.n)
  let code := fun r j => if !real r j || st.contains (row r) then 0 else quantCode (w (row r) j) (sig j) q
  let col := fun p => nb * m.width + (if m.slice2 then p / 2 else p)
  let pairCode := fun r p =>
    let c := code r (col p)
    if !m.slice2 then c else
      let a := c.sign * (c.natAbs / 8 : Nat)
      if p % 2 = 0 then a else c - 8 * a
  let clamps := fun r j => clampsAt (w r j) (sig j) q
  -- residuals: every sparse place, but under CLAMP none for a clamped code
  let keep := u.sparse.filter (fun c => !(pol.clamp && clamps c.r c.j))
  let place := fun (c : Cand) =>
    let r := c.r % 1024 - u.lo
    let j := c.j % m.width
    let b := burstOf r (if m.slice2 then 2 * j else j)
    let e := (w c.r c.j).sub ((Dy.ofInt (code r c.j)).mul (sig c.j))
    (b.1, b.2, r % 128, BF16.ofDy e)
  let le := fun (a b : Nat × Nat × Nat × Nat) => decide ((a.1 * 4 + a.2.1) * 128 + a.2.2.1 ≤ (b.1 * 4 + b.2.1) * 128 + b.2.2.1)
  let noRes := (if pol.clamp then u.sparse.filter (fun c => clamps c.r c.j) else []) ++ u.lost
  let weights := fun r =>
    let l := (List.range m.width).map (fun i => let j := nb * m.width + i; if j < m.n ∧ r < m.k then BF16.ofDy (w r j) else 0)
    l ++ List.replicate (256 - m.width) 0
  let t : TileOut :=
    { code := pairCode, scale := fun p => scale (col p), statics := (sortNat st).map (fun r => (r % 1024 - u.lo, weights r)),
      resid := sortBy le (keep.map place),
      clamped := (noRes.map (fun c => (burstOf (c.r % 1024 - u.lo) ((if m.slice2 then 2 else 1) * (c.j % m.width))).1)).eraseDups }
  let x := (List.range u.rows).foldl (fun x r => (List.range m.width).foldl (fun x i =>
    let j := nb * m.width + i
    if !real r j then x
    else
      let v := w (row r) j
      let base := if st.contains (row r) then (BF16.unpack (BF16.ofDy v)).dy else (Dy.ofInt (code r j)).mul (sig j)
      let extra := match keep.find? (fun c => c.r == row r && c.j == j) with
        | some c => (BF16.unpack (place c).2.2.2).dy
        | none => .zero
      x.value v (v.sub (base.add extra))) x) x
  let gone := (u.statics.length - 32) + u.lost.length
  (t, { x with clamped := x.clamped + noRes.length, dropped := x.dropped + gone, degraded := x.degraded || gone != 0,
               splits := x.splits + toBit (u.rows == 512 && u.lo == 0) })

/-- An all-zero tile load, with the scales of its columns. -/
def zeroOut (scale : Nat → Nat) : TileOut := ⟨fun _ _ => 0, scale, [], [], []⟩

/-- A list's values while every one is right; the first error otherwise. -/
def allOk {α ε β : Type} (f : α → Except ε β) : List α → Except ε (List β)
  | [] => .ok []
  | x :: l => match f x with
    | .error e => .error e
    | .ok y => match allOk f l with
      | .error e => .error e
      | .ok r => .ok (y :: r)

/-- A layer that arrives in MXFP4, MXINT8 or BF16: its tile loads in order and the report's figures. -/
def Man.quantise (m : Man) (pol : Policy) (raw : List Byte) (list : List Nat) : Except Nat (List TileOut × LayerSums) :=
  let a := raw.toArray
  let ok := (List.range m.n).all (fun j => (List.range m.k).all (fun r => (m.value a r j).isSome))
  let w := fun r j => if r < m.k ∧ j < m.n then (m.value a r j).getD .zero else .zero
  let list := list.filter (fun r => decide (r < 1024 * m.kb))
  if !ok then .error 0x3035
  else
    let spans := (List.range m.nb).flatMap (fun nb => (List.range (m.kb / m.spanK)).map (fun i => (nb, i * m.spanK)))
    match allOk (fun (x : Nat × Nat) => m.quantSpan pol w list x.1 x.2) spans with
    | .error e => .error e
    | .ok res =>
      let r := (spans.zip res).foldl (fun (r : List TileOut × List TileOut × LayerSums) x =>
        x.2.1.foldl (fun r u =>
          let (t, sums) := m.unitOut pol w x.1.1 x.2.2 u r.2.2
          if u.lo = 512 then (r.1, r.2.1 ++ [t], sums)
          else if u.rows = 512 then (r.1 ++ [t], r.2.1, sums)
          else (r.1 ++ [t], r.2.1 ++ [zeroOut t.scale], sums)) r) ([], [], .zero)
      .ok (if m.partner then r.1 ++ r.2.1 else r.1, r.2.2)

/-! ### Native bursts (R101, R102, R105, R254) -/

/-- A burst's parts. -/
def burstOk (l : List Byte) : Bool := leAt l 6 2 == crc16 (l.take 6 ++ l.drop 8)

/-- Check one tile load of a native stream: its bursts and its set; its contents before R105. The set's bytes follow the bursts. -/
def sheafTile (m : Man) (bursts set : List Byte) : Except Nat (TileOut × Bool) :=
  let bl := (List.range 512).map (fun b => (bursts.drop (288 * b)).take 288)
  let ba := bl.toArray
  if !bl.all burstOk then .error 0x3036
  else if !bl.all (fun l => leAt l 0 1 == 1 + 16 * toBit m.slice2) then .error 0x303E
  else if bl.any (fun l => (List.range 4).any (fun g => !(F16.unpack (leAt l (8 + 2 * g) 2)).isFin)) then .error 0x3035
  else
    let st := leAt set 0 2
    let sp := leAt set 2 2
    let ix := 128 + 512 * st
    let rows := (List.range st).map (fun i => leAt set (64 + 2 * i) 2)
    let words := (List.range 2048).map (fun i => (i / 4, i % 4, leAt set (ix + 4 * i) 4))
    let ents := (List.range sp).map (fun i => (leAt set (ix + 8192 + 4 * i) 4, false))
    let same := words.all (fun w => leAt (ba.getD w.1 []) (272 + 4 * w.2.1) 4 == w.2.2)
    if !strictlyRising rows || rows.any (fun r => decide (1024 ≤ r)) || sumN (words.map (fun w => field w.2.2 14 8)) != sp
        || sumN (words.map (fun w => field w.2.2 8 6)) != st || !same then .error 0x303E
    else match splitResid words ents 0 with
      | none => .error 0x303E
      | some resid =>
        let code := fun r p =>
          let l := ba.getD (burstOf r p).1 []
          let b := leAt l (16 + 64 * (p % 4) + r % 128 / 2) 1
          toSigned 4 (if r % 2 = 0 then b % 16 else b / 16)
        .ok (⟨code, fun p => leAt (ba.getD (p / 4) []) (8 + 2 * (p % 4)) 2,
          rows.zipIdx.map (fun x => (x.1, (List.range 256).map (fun j => leAt set (128 + 512 * x.2 + 2 * j) 2))),
          resid.map (fun x => (x.burst, x.group, x.off, x.val)), (List.range 512).filter (fun b => bit (leAt (ba.getD b []) 4 1) 4)⟩,
          bl.any (fun l => bit (leAt l 4 1) 3))

/-- Every burst of a column block holds the same scale for a pair. -/
def sheafScales (bursts : List Byte) : Bool :=
  (List.range 64).all (fun k => (List.range 8).all (fun b =>
    leAt bursts (288 * (64 * b + k) + 8) 8 == leAt bursts (288 * k + 8) 8))

/-- Add a remainder to the residual list: into the entry of its place, or as a new entry where there is room. -/
def addResid (l : List (Nat × Nat × Nat × Nat)) (b g off : Nat) (v : Dy) : Option (List (Nat × Nat × Nat × Nat)) :=
  let here := fun (x : Nat × Nat × Nat × Nat) => x.1 == b && x.2.1 == g && x.2.2.1 == off
  match l.find? here with
  | some x => some (mapIf here (fun _ => (b, g, off, BF16.ofDy ((BF16.unpack x.2.2.2).dy.add v))) l)
  | none =>
    if 1024 ≤ l.length then none
    else some (insertBy (fun a c => decide ((a.1 * 4 + a.2.1) * 128 + a.2.2.1 ≤ (c.1 * 4 + c.2.1) * 128 + c.2.2.1)) (b, g, off, BF16.ofDy v) l)

/-- Codes 0b1000 of a native tile load under R105, and the figures of its values. -/
def sheafFold (m : Man) (pol : Policy) (t : TileOut) (x : LayerSums) : TileOut × LayerSums :=
  let places := (List.range 512).flatMap (fun b => (List.range 4).flatMap (fun g => (List.range 128).map (fun i => (b, g, i))))
  let sig := fun p => (F16.unpack (t.scale p)).dy
  let r := places.foldl (fun (r : TileOut × LayerSums) y =>
    let p := 4 * (y.1 % 64) + y.2.1
    let row := 128 * (y.1 / 64) + y.2.2
    if t.code row p ≠ -8 then r
    else
      let home := if m.slice2 then p - p % 2 else p
      let v := ((sig p).mul (Dy.ofInt (if m.slice2 ∧ p % 2 = 0 then 8 else 1))).neg
      let h := burstOf row home
      match (if pol.clamp then none else addResid r.1.resid h.1 h.2 y.2.2 v) with
      | some l =>
        let got := match l.find? (fun z => z.1 == h.1 && z.2.1 == h.2 && z.2.2.1 == y.2.2) with
          | some z => (BF16.unpack z.2.2.2).dy
          | none => .zero
        let was := match r.1.resid.find? (fun z => z.1 == h.1 && z.2.1 == h.2 && z.2.2.1 == y.2.2) with
          | some z => (BF16.unpack z.2.2.2).dy
          | none => .zero
        ({ r.1 with resid := l }, r.2.value .zero (v.sub (got.sub was)))
      | none => ({ r.1 with clamped := if r.1.clamped.contains y.1 then r.1.clamped else r.1.clamped ++ [y.1] },
          { r.2.value .zero v with clamped := r.2.clamped + 1 })) (t, x)
  let sums := places.foldl (fun x y =>
    let p := 4 * (y.1 % 64) + y.2.1
    let row := 128 * (y.1 / 64) + y.2.2
    if m.slice2 then
      (if p % 2 = 0 then x.value ((sig p).mul (Dy.ofInt (8 * t.code row p + t.code row (p + 1)))) .zero else x)
    else x.value ((sig p).mul (Dy.ofInt (t.code row p))) .zero) r.2
  ({ r.1 with code := fun a p => max (-7) (t.code a p) }, sums)

/-- Cut a native stream into its tile loads: bursts and set. -/
def sheafCut : Nat → List Byte → Option (List (List Byte × List Byte))
  | 0, l => if l.isEmpty then some [] else none
  | n + 1, l =>
    let set := l.drop 147456
    let st := leAt set 0 2
    let sp := leAt set 2 2
    let len := setBytes st sp
    if 32 < st ∨ 1024 < sp ∨ set.length < len then none
    else match sheafCut n (set.drop len) with
      | none => none
      | some r => some ((l.take 147456, set.take len) :: r)

/-- A layer that arrives as bursts. -/
def Man.sheaf (m : Man) (pol : Policy) (raw : List Byte) : Except Nat (List TileOut × LayerSums) :=
  match sheafCut m.tl raw with
  | none => .error 0x303E
  | some cut =>
    match allOk (fun (x : List Byte × List Byte) => sheafTile m x.1 x.2) cut with
    | .error e => .error e
    | .ok ts =>
      let tile := fun i => (ts.getD i (zeroOut (fun _ => 0), false)).1
      -- the scales of a column agree over its span, partners among it
      let mixed := !cut.all (fun x => sheafScales x.1) || (List.range m.tl).any (fun i =>
        let j := i % m.tl0
        let first := j / m.kb * m.kb + j % m.kb / m.spanK * m.spanK
        (List.range 256).any (fun p => (tile i).scale p != (tile first).scale p || (m.slice2 && (tile i).scale p != (tile i).scale (p - p % 2))))
      if mixed then .error 0x3037
      else
        let r := ts.foldl (fun (r : List TileOut × LayerSums) t =>
          let (u, x) := sheafFold m pol t.1 { r.2 with degraded := r.2.degraded || t.2 }
          (r.1 ++ [u], x)) ([], .zero)
        .ok r

/-! ### The report's figures (R256) -/

/-- √(a / b) in FP32, b not zero. -/
def sqrtRatio32 (a b : Dy) : Nat :=
  let e := a.e - b.e
  let odd := e % 2 ≠ 0
  let n := a.m.natAbs * (if odd then 2 else 1)
  let e := if odd then e - 1 else e
  let k := 64 + b.m.natAbs.log2
  let d := n * 2 ^ (2 * k)
  let q := d / b.m.natAbs
  let r := isqrt q
  F32.pack false r (e / 2 - k) (r * r != q || d % b.m.natAbs != 0)

end Sys2Proof.Machine
end

