-- ==== Sys2Proof/Machine/IngOps.lean ====
section
/-! DEFINITION. What the ingest engine's meanings share: jobs, their ring entries and states, the start of jobs (R245 to R248,
R257, R258). -/

namespace Sys2Proof.Machine

def State.modIng (s : State) (f : IngestS → IngestS) : State := { s with ingest := f s.ingest }
def State.job (s : State) (idx : Nat) : Option IngJob := s.ingest.jobs.find? (fun j => j.idx == idx)

/-- RUNNING, whatever the job still waits for. -/
def IngJob.running (j : IngJob) : Bool := j.phase != 0

/-- The channel a job binds. -/
def IngJob.bound (j : IngJob) : Option Nat := if j.src = 0 ∧ j.op ≠ 3 then some j.channel else none

/-- Manifest entry `i`. -/
def IngJob.man (j : IngJob) (i : Nat) : Man := Man.ofBytes ((j.manifest.drop (128 * i)).take 128)

/-- Where the ring entry `idx` lies. -/
def State.jobAddr (s : State) (idx : Nat) : Nat := s.rdA ingPg INGEST.JOB_BASE_BASE + 64 * idx

/-- Bytes 56 to 63 of a job's entry (R247). -/
def State.writeBack (s : State) (idx code layers status : Nat) : State :=
  s.devWrite (s.jobAddr idx + 56) (toLe 2 code ++ toLe 4 layers ++ toLe 1 0 ++ toLe 1 status)

/-- INGEST.STAT follows the jobs. -/
def State.showJobs (s : State) : State :=
  let l := s.ingest.jobs
  (s.wr ingPg INGEST.STAT_BOUND (maskOf (l.filterMap (fun j => j.bound)))).wr ingPg INGEST.STAT_RUNNING (l.filter (fun j => j.running)).length

/-- An EXPORT's peer and channel, where its destination is a peer's aperture (R247, R257). -/
def IngJob.peer (j : IngJob) : Option (Nat × Nat) := if j.op = 3 ∧ j.srcAddr.testBit 63 then some (field j.srcAddr 56 6, field j.srcAddr 0 3) else none

/-- A failure: the fault with the chunk's SEQ and the manifest index (R254). -/
def State.jobFault (s : State) (j : IngJob) (code : Nat) : State :=
  (s.emit ingPg code (j.seq * 2 ^ 32 + j.layer)).modJob j.idx (fun x => { x with phase := 4, failCode := code })

/-- Whether a peer-link port is up (R297). -/
def State.plkUp (s : State) (p : Nat) : Bool := decide (2 ≤ s.rd (plkPg p) PLK.STAT_STATE)

/-- The up ports of hub `h`'s map entry for a peer (R299). -/
def State.peerUp (s : State) (h peer : Nat) : List Nat :=
  (bitsOf (s.rd (plkPg (4 * h)) (PLK.PEER_MAP_PORTS peer)) 16).filter (fun p => s.plkUp p)

/-- A job becomes RUNNING. -/
def State.startJob (s : State) (j : IngJob) : State :=
  let s := (s.modJob j.idx (fun x => { x with phase := 1 })).writeBack j.idx 0 0 1
  let s := if j.op = 1 then s.wr (mdlPg j.model) MDL.STATE 1 else s
  match j.peer with
  | none => s
  | some (peer, ch) =>
    if (s.peerUp 3 peer).isEmpty then s.jobFault j 0x303E
    else (s.modJob j.idx (fun x => { x with asking := true, askedAt := s.now })).send (.creditReq peer ch)

/-- A job may start: at most 4 run, jobs of one model in ring order, a SWAP once its model is drained. -/
def State.mayStart (s : State) (j : IngJob) : Bool :=
  j.phase == 0 && s.rdB ingPg INGEST.CTRL_ENABLE && decide ((s.ingest.jobs.filter (fun k => k.running)).length < 4)
    && !(s.ingest.jobs.takeWhile (fun k => k.idx != j.idx)).any (fun k => k.model == j.model)
    && (j.op != 2 || (s.mdlState j.model == 3 && (s.mdl j.model).drained))

/-- Every accepted job that may start does, in ring order. -/
def State.startJobs (s : State) : State :=
  (s.ingest.jobs.foldl (fun s j => if s.mayStart j then s.startJob j else s) s).showJobs

end Sys2Proof.Machine
end

