-- ==== Sys2Proof/Machine/Ingest.lean ====
section
/-! DEFINITION. The ingest family: the aperture, jobs and their checks, chunks, layers, ends, export and its credit (R244 to R260). -/

namespace Sys2Proof.Machine

/-! ### Staging (R245) -/

/-- The tier-1 address of a channel's staging slot. -/
def State.stageAddr (s : State) (ch k : Nat) : Nat :=
  s.rdA ingPg INGEST.STAGE_BASE_BASE + (ch * s.rd ingPg INGEST.STAGE_CFG_SLOTS + k) * 2 ^ 20

def slotKey (ch k : Nat) : Nat := ch * 1024 + k

/-- The bytes counted in a staging slot, and 64 + PLEN where all of PLEN has come. -/
def State.slotCount (s : State) (ch k : Nat) : Nat × Option Nat :=
  let e := mget s.ingest.counts (0, 0) (slotKey ch k)
  (e.1, if e.2 = 15 then some (64 + s.devNat (s.stageAddr ch k + 8) 4) else none)

/-- The slot holds a complete chunk. -/
def State.slotComplete (s : State) (ch k : Nat) : Bool :=
  let e := s.slotCount ch k
  e.2 == some e.1

/-- The job that a channel is bound to and that still takes chunks: writes after its LAST chunk are stray (R250). -/
def State.channelJob (s : State) (ch : Nat) : Option IngJob :=
  s.ingest.jobs.find? (fun j => j.bound == some ch && j.phase != 4 && !j.lastSeen)

/-! ### Load reports (R256) -/

/-- Write a report's first part, and its figures, at REPORT. -/
def State.writeReport (s : State) (j : IngJob) (status code : Nat) (figures : List Nat) (chunks endAt : Nat) : State :=
  let m := j.man j.layer
  let gen := s.rd (mdlPg j.model) MDL.GEN + (if j.op = 2 then 1 else 0)
  s.devWrite m.report (toLe 1 1 ++ toLe 1 status ++ toLe 2 code ++ toLe 2 m.layer ++ toLe 1 j.model ++ toLe 1 gen ++ toLe 4 m.tl
    ++ (List.range 7).flatMap (fun i => toLe 4 (figures.getD i 0)) ++ toLe 4 chunks ++ toLe 4 0 ++ toLe 8 m.srcBytes ++ toLe 8 j.start
    ++ toLe 8 endAt ++ List.replicate 56 0)

/-- The first failure refuses the layer, and its job fails (R254). -/
def State.layerRefuse (s : State) (j : IngJob) (code : Nat) : State :=
  let s := ((s.jobFault j code).inc ingPg INGEST.REFUSED_CNT).irq ingPg 3
  if j.op = 3 then s else (s.writeReport j 2 code [] j.chunks 0).irq ingPg 0

/-! ### The aperture (R244, R245) -/

/-- A write on a channel that no job takes: recorded once per window slot. -/
def State.strayWrite (s : State) (ch w : Nat) : State :=
  let k := slotKey ch w
  if s.ingest.stray.contains k then s
  else ((s.modIng (fun x => { x with stray := x.stray ++ [k] })).inc ingPg INGEST.STRAY_CNT).emit ingPg 0x303A (apBase + ch * 2 ^ 30 + w * 2 ^ 20)

/-- An overrun fails the job; a layer that had begun is refused with it. -/
def State.overrun (s : State) (j : IngJob) : State :=
  let s := (((s.jobFault j 0x303D).inc ingPg INGEST.OVERRUN_CNT).irq ingPg 4)
  if j.phase = 1 ∧ (j.pos ≠ 0 ∨ j.layerEnd) then
    (((s.writeReport j 2 0x303D [] j.chunks 0).inc ingPg INGEST.REFUSED_CNT).irq ingPg 3).irq ingPg 0
  else s

/-- The part of a write that lies in one window slot. -/
def State.aperturePiece (s : State) (addr : Nat) (data : List Byte) (poisoned : Bool) : State :=
  let ch := (addr - apBase) / 2 ^ 30
  let w := (addr - apBase) % 2 ^ 30 / 2 ^ 20
  let off := addr % 2 ^ 20
  if data.isEmpty then s
  else match s.channelJob ch with
    | none => s.strayWrite ch w
    | some j =>
      let n := s.rd ingPg INGEST.STAGE_CFG_SLOTS
      let k := w % n
      if s.slotComplete ch k then s.overrun j
      else
        let e := mget s.ingest.counts (0, 0) (slotKey ch k)
        let mask := (List.range 4).foldl (fun a i => if off ≤ 8 + i ∧ 8 + i < off + data.length then a ||| 2 ^ i else a) e.2
        let s := (s.devWrite (s.stageAddr ch k + off) data poisoned).inc ingPg INGEST.BYTES_IN data.length
        let s := s.modIng (fun x => { x with counts := mput x.counts (slotKey ch k) (e.1 + data.length, mask) })
        let (count, want) := s.slotCount ch k
        match want with
        | none => s
        | some len =>
          if len < count then s.overrun j
          else if len = count ∧ s.devNat (s.stageAddr ch k + 4) 4 ≠ j.seq + (k + n - j.seq % n) % n then s.overrun j
          else s

def State.apertureEffect (s : State) (addr : Nat) (data : List Byte) (poisoned : Bool) : State :=
  let n := min data.length (2 ^ 20 - addr % 2 ^ 20)
  (s.aperturePiece addr (data.take n) poisoned).aperturePiece (addr + n) (data.drop n) poisoned

/-! ### Acceptance (R247, R248, R258) -/

/-- The job at JOB_HEAD: its ring index and its entry. -/
def State.jobHead (s : State) : Option (Nat × List Byte) :=
  let n := s.rd ingPg INGEST.JOB_CFG_ENTRIES
  let h := s.rd ingPg INGEST.JOB_HEAD_HEAD
  if !s.rdB ingPg INGEST.CTRL_ENABLE ∨ n = 0 ∨ h = s.rd ingPg INGEST.JOB_TAIL_TAIL % n then none
  else some (h, s.devRead (s.jobAddr h) 64)

def inTier (a n : Nat) : Bool := decide (a + n ≤ tier1End) || (decide (tier2Base ≤ a) && decide (a + n ≤ tier2End))

/-- Reason 1: fields within range, zero fields zero. -/
def jobFieldsOk (l : List Byte) : Bool :=
  let op := leAt l 0 1
  let src := leAt l 1 1
  let ch := leAt l 2 1
  let addr := leAt l 16 8
  let len := leAt l 24 8
  let reload := leAt l 32 8
  let n := leAt l 40 2
  (op == 1 || op == 2 || op == 3) && decide (src < 3) && (op != 3 || src == 0) && decide (leAt l 3 1 < 64) && leAt l 4 2 != 0
    && (if op ≠ 3 ∧ src = 0 then decide (ch < 8) else ch == 0) && leAt l 7 1 == 0
    && (op == 3 || (leAt l 8 8 % 64 == 0 && inTier (leAt l 8 8) (128 * leAt l 4 2)))
    && (if src = 0 then len == 0 else true) && (src != 2 || inTier addr len) && decide (n ≤ 128) && (reload != 0 || n == 0)
    && (n == 0 || inTier reload (16 * n)) && leAt l 42 8 == 0 && leAt l 50 6 == 0
    && (op != 3 || (if addr.testBit 63 then addr == 2 ^ 63 + field addr 56 6 * 2 ^ 56 + field addr 0 3
        else decide (tier2Base ≤ addr) && decide (addr < tier2End)))

/-- The first manifest entry that does not pass, or whose layer area meets an earlier one's. -/
def badEntry (ms : List Man) : Option Nat :=
  (List.range ms.length).find? (fun i =>
    match ms[i]? with
    | none => false
    | some m => !m.passes || (ms.take i).any (fun x => decide (x.dest < m.dest + m.area) && decide (m.dest < x.dest + x.area)))

/-- The manifest of a SWAP agrees with the stored one (R258). -/
def manAgree (a b : List Byte) : Bool :=
  let n := a.length / 128
  let at0 := fun (l : List Byte) i => Man.ofBytes ((l.drop (128 * i)).take 128)
  a.length == b.length && (List.range n).all (fun i =>
    let x := at0 a i
    let y := at0 b i
    x.k == y.k && x.n == y.n && x.slice2 == y.slice2 && x.partner == y.partner && x.spanK == y.spanK && x.dest == y.dest && x.layer == y.layer)

/-- Why a job is refused (R248): the reason, with the entry index of reason 4. -/
def State.jobReason (s : State) (h : Nat) (l : List Byte) : Option Nat :=
  let op := leAt l 0 1
  let m := leAt l 3 1
  let st := s.mdlState m
  let man := s.devRead (leAt l 8 8) (128 * leAt l 4 2)
  let ms := (List.range (leAt l 4 2)).map (fun i => Man.ofBytes ((man.drop (128 * i)).take 128))
  if s.devBad (s.jobAddr h) 64 ∨ !jobFieldsOk l then some 1
  else if (op = 1 ∧ (st ≠ 0 ∨ s.ingest.jobs.any (fun j => j.model == m && j.op == 1))) ∨ (op = 2 ∧ st ≠ 2 ∧ st ≠ 3) ∨ (op = 3 ∧ st ≠ 2) then some 2
  else if op ≠ 3 ∧ leAt l 1 1 = 0 ∧ s.ingest.jobs.any (fun j => j.bound == some (leAt l 2 1)) then some 3
  else if op = 3 then none
  else match (if s.devBad (leAt l 8 8) man.length then some 0 else badEntry ms) with
    | some i => some (4 + i % 256 * 256)
    | none => if op = 2 ∧ !manAgree man (mget s.ingest.manifests [] m) then some 5 else none

/-- The credit write-back of R324: the eight CH_CONSUMED values as one 32-byte write, on any change. -/
def State.creditBlock (s : State) : State :=
  let p := pciePg 1
  if s.rdB p PCIE.CTRL_CREDIT_EN then
    s.send (.creditBlock (s.rdA p PCIE.CREDIT_ADDR_ADDR) ((List.range 8).map (fun i => s.rd ingPg (INGEST.CH_CONSUMED i))))
  else s

/-- CH_CONSUMED of a channel changes. -/
def State.setConsumed (s : State) (ch v : Nat) : State :=
  let was := s.rd ingPg (INGEST.CH_CONSUMED ch)
  let s := s.wr ingPg (INGEST.CH_CONSUMED ch) v
  if s.rd ingPg (INGEST.CH_CONSUMED ch) = was then s else s.creditBlock

/-- The next job, where its OP satisfies `op`, is checked and accepted or refused; accepted jobs that may start do. -/
def jobEffect (s : State) (op : Nat → Bool) : State :=
  match s.jobHead with
  | none => s
  | some (h, l) =>
    if !op (leAt l 0 1) then s
    else
      let reason := s.jobReason h l
      let s := s.wr ingPg INGEST.JOB_HEAD_HEAD ((h + 1) % s.rd ingPg INGEST.JOB_CFG_ENTRIES)
      match reason with
      | some r => (((s.writeBack h 0x303C 0 4).emit ingPg 0x303C (h * 2 ^ 16 + r)).inc ingPg INGEST.REFUSED_CNT).irq ingPg 3
      | none =>
        let o := leAt l 0 1
        let m := leAt l 3 1
        let man := if o = 3 then mget s.ingest.manifests [] m else s.devRead (leAt l 8 8) (128 * leAt l 4 2)
        let j : IngJob :=
          { idx := h, op := o, src := leAt l 1 1, channel := leAt l 2 1, model := m, layers := man.length / 128, tag := leAt l 6 1,
            manifest := man, srcAddr := leAt l 16 8, srcLen := leAt l 24 8, reload := leAt l 32 8, reloadN := leAt l 40 2, phase := 0,
            layer := 0, seq := 0, pos := 0, raw := [], chunks := 0, start := 0, layerEnd := false, policy := 0, failCode := 0, srcPos := 0,
            reloadLeft := [], lastSeen := false, slots := 0, consumed := 0, asking := false, askedAt := 0 }
        let s := s.modIng (fun x => { x with jobs := x.jobs ++ [j] })
        let s := match j.bound with
          | none => s
          | some ch => (s.setConsumed ch 0).modIng (fun x => { x with
              counts := mdrop x.counts (fun k => k / 1024 == ch), stray := x.stray.filter (fun k => k / 1024 != ch) })
        s.startJobs

/-! ### Chunks (R249, R250, R254) -/

/-- A chunk header's fixed fields and order (stage 1): `n` is the source stream's length of the layer. -/
def headerOk (j : IngJob) (l : List Byte) (n : Nat) : Bool :=
  let fl := leAt l 1 1
  let plen := leAt l 8 4
  let rawLen := leAt l 12 4
  let last := bit fl 1
  let ends := j.layer + 1 == j.layers && j.pos + rawLen == n
  leAt l 0 1 == 1 && decide (fl < 4) && leAt l 2 1 == j.tag && leAt l 3 1 == 0 && leAt l 4 4 == j.seq && decide (1 ≤ plen)
    && decide (plen ≤ 1048512) && decide (1 ≤ rawLen) && decide (rawLen ≤ 8388608) && (bit fl 0 || rawLen == plen)
    && leAt l 16 2 == j.layer && leAt l 18 6 == 0 && leAt l 24 8 == j.pos && (l.drop 36).all (fun b => b == 0)
    && decide (j.pos + rawLen ≤ n) && last == ends
    && (j.src == 0 || !last || j.srcPos + roundUp (64 + plen) 64 == j.srcLen)

/-- CH_CONSUMED of a channel moves on, and the peers that export into it are told. -/
def State.consume (s : State) (ch seq n : Nat) : State :=
  let s := (s.setConsumed ch (seq + 1)).modIng (fun x => { x with counts := mdel x.counts (slotKey ch (seq % n)) })
  match mfind s.ingest.exporters ch with
  | some (port, _) => s.send (.credit port ch n (seq + 1))
  | none => s

/-- INGEST.POLICY as one number: KAPPA, M8, OUTL_OVF in their places. -/
def State.policyWord (s : State) : Nat :=
  s.rd ingPg INGEST.POLICY_KAPPA * 256 + s.rd ingPg INGEST.POLICY_M8 * 2 + s.rd ingPg INGEST.POLICY_OUTL_OVF

/-- A chunk read from memory or staging: `rd` reads it, `bad` says where it is marked; `raw` is what its Zstandard frame decompresses
to, none where the frame is invalid (log 34). -/
def State.takeChunk (s : State) (j : IngJob) (rd : Nat → Nat → List Byte) (bad : Nat → Nat → Bool) (raw : Option (List Byte)) : State :=
  let h := rd 0 64
  let plen := leAt h 8 4
  let rawLen := leAt h 12 4
  let m := j.man j.layer
  -- a layer's first chunk: its report is in progress, its policy stands
  let j1 := if j.pos = 0 then { j with start := s.sclk, policy := s.policyWord } else j
  let s := if j.pos = 0 then (s.modJob j.idx (fun _ => j1)).writeReport j1 3 0 [] 0 0 else s
  let fits := j.src == 0 || decide (j.srcPos + 64 + plen ≤ j.srcLen)
  if bad 0 64 ∨ (fits ∧ plen ≤ 1048512 ∧ bad 64 plen) then s.layerRefuse j1 0x303B
  else if !fits ∨ !headerOk j1 h m.srcBytes then s.layerRefuse j1 0x303E
  else
    let body := rd 64 plen
    let data := if bit (leAt h 1 1) 0 then raw else some body
    if crc32 body ≠ leAt h 32 4 then s.layerRefuse j1 0x3038
    else match data with
      | none => s.layerRefuse j1 0x3039
      | some d =>
        if d.length ≠ rawLen then s.layerRefuse j1 0x3039
        else
          let s := s.modJob j.idx (fun x => { x with
            seq := x.seq + 1, pos := x.pos + rawLen, raw := x.raw ++ d, chunks := x.chunks + 1, layerEnd := x.pos + rawLen == m.srcBytes,
            lastSeen := bit (leAt h 1 1) 1, srcPos := x.srcPos + roundUp (64 + plen) 64 })
          let s := s.inc ingPg INGEST.CHUNK_CNT
          if j.src = 0 then s.consume j.channel j.seq (s.rd ingPg INGEST.STAGE_CFG_SLOTS) else s.inc ingPg INGEST.BYTES_IN (64 + plen)

/-! ### Export (R257) -/

/-- The bytes of one layer's stream: each tile load's bursts, then its set. -/
def State.layerStream (s : State) (m : Man) : List Byte :=
  (List.range m.tl).flatMap (fun i =>
    let set := m.dest + m.tl * 290816 + i * 28800
    s.devRead (m.dest + i * 147456) 147456 ++ s.devRead set (setBytes (min 32 (s.devNat set 2)) (min 1024 (s.devNat (set + 2) 2))))

/-- A word of a layer's bursts or sets is marked. -/
def State.layerBad (s : State) (m : Man) : Bool :=
  (List.range m.tl).any (fun i =>
    let set := m.dest + m.tl * 290816 + i * 28800
    s.devBad (m.dest + i * 147456) 147456 || s.devBad set (setBytes (min 32 (s.devNat set 2)) (min 1024 (s.devNat (set + 2) 2))))

/-- Every burst of a layer area passes its CRC. -/
def State.layerCrcOk (s : State) (m : Man) : Bool :=
  (List.range (512 * m.tl)).all (fun b => burstOk (s.devRead (m.dest + 288 * b) 288))

/-- A chunk of an export: uncompressed, with its CRC. -/
def exportChunk (j : IngJob) (body : List Byte) (last : Bool) : List Byte :=
  toLe 1 1 ++ toLe 1 (2 * toBit last) ++ toLe 1 j.tag ++ toLe 1 0 ++ toLe 4 j.seq ++ toLe 4 body.length ++ toLe 4 body.length
    ++ toLe 2 j.layer ++ List.replicate 6 0 ++ toLe 8 j.pos ++ toLe 4 (crc32 body) ++ List.replicate 28 0 ++ body

/-- The next chunk of an EXPORT is written: as large as a chunk may be, within its layer (log 35). -/
def State.exportNext (s : State) (j : IngJob) : State :=
  let m := j.man j.layer
  if j.pos = 0 ∧ s.layerBad m then s.layerRefuse j 0x303B
  else if j.pos = 0 ∧ !s.layerCrcOk m then s.layerRefuse j 0x3036
  else
    let raw := if j.pos = 0 then s.layerStream m else j.raw
    let body := (raw.drop j.pos).take 1048512
    let ends := j.pos + body.length == raw.length
    let last := ends && j.layer + 1 == j.layers
    let chunk := exportChunk j body last
    let next := fun (x : IngJob) => { x with
      seq := x.seq + 1, srcPos := x.srcPos + roundUp chunk.length 64, raw := if ends then [] else raw,
      pos := if ends then 0 else x.pos + body.length, layer := if ends then x.layer + 1 else x.layer, phase := if last then 3 else x.phase }
    let done := fun (s : State) =>
      let s := (s.modJob j.idx next).inc ingPg INGEST.CHUNK_CNT
      if ends then s.writeBack j.idx 0 (j.layer + 1) 1 else s
    match j.peer with
    | some (peer, ch) =>
      if (s.peerUp 3 peer).isEmpty then s.layerRefuse j 0x303E
      else if j.asking ∨ j.consumed + j.slots ≤ j.seq then s
      else done (s.send (.remoteWrite peer (apBase + ch * 2 ^ 30 + j.seq % 1024 * 2 ^ 20) chunk []))
    | none =>
      let a := j.srcAddr + j.srcPos
      if s.region a = .tier2 ∧ s.region (a + chunk.length - 1) = .tier2 then done (s.devWrite a chunk)
      else (s.emit ingPg 0x6011 a).layerRefuse j 0x6011

def chunkEffect (s : State) (idx : Nat) (raw : Option (List Byte)) : State :=
  match s.job idx with
  | none => s
  | some j =>
    -- a cleared ENABLE lets the running layer complete, and stops before the next (R260)
    if j.phase ≠ 1 ∨ j.layerEnd ∨ (!s.rdB ingPg INGEST.CTRL_ENABLE ∧ j.pos = 0) then s
    else if j.op = 3 then s.exportNext j
    else if j.src = 0 then
      let k := j.seq % s.rd ingPg INGEST.STAGE_CFG_SLOTS
      let a := s.stageAddr j.channel k
      if !s.slotComplete j.channel k then s
      else (s.touch a (s.slotCount j.channel k).1).takeChunk j (fun o n => s.devRead (a + o) n) (fun o n => s.devBad (a + o) n) raw
    else
      let a := j.srcAddr + j.srcPos
      if j.srcLen < j.srcPos + 64 then s.layerRefuse j 0x303E
      else if j.src = 1 then s.takeChunk j (fun o n => s.hostRead (a + o) n) (fun o n => s.hostBad (a + o) n) raw
      else (s.touch a (min (j.srcLen - j.srcPos) (64 + s.devNat (a + 8) 4))).takeChunk j (fun o n => s.devRead (a + o) n)
        (fun o n => s.devBad (a + o) n) raw

/-! ### Layers (R254, R256) -/

/-- The reload entries as (logical core, stream, sent). -/
def State.reloadTable (s : State) (a n : Nat) : List (Nat × Nat × Bool) :=
  (List.range n).map (fun i => (s.devNat (a + 16 * i) 2, s.devNat (a + 16 * i + 8) 8, false))

/-- A layer has taken effect: the next layer, or the reload streams, or nothing more. -/
def State.layerNext (s : State) (j : IngJob) : State :=
  let last := j.layer + 1 == j.layers
  let s := s.modJob j.idx (fun x => { x with layer := x.layer + 1, pos := 0, raw := [], chunks := 0, layerEnd := false })
  let s := s.writeBack j.idx 0 (j.layer + 1) 1
  if !last then s
  else if s.devBad j.reload (16 * j.reloadN) then s.jobFault j 0x303B
  else
    let l := s.reloadTable j.reload j.reloadN
    (s.modJob j.idx (fun x => { x with reloadLeft := l, phase := if l.isEmpty then 3 else 2 })).sendReloads

/-- The tile loads of job `j`'s layer and the layer's figures: cut from bursts, or quantised with the entry's static list (R104 to R106, R251). -/
def State.tileLoads (s : State) (j : IngJob) : Except Nat (List TileOut × LayerSums) :=
  let m := j.man j.layer
  let pol : Policy := ⟨j.policy / 256, bit j.policy 1, bit j.policy 0⟩
  if m.arr = 0 then m.sheaf pol j.raw else m.quantise pol j.raw ((List.range m.staticN).map (fun i => s.devNat (m.staticList + 4 * i) 4))

def layerEffect (s : State) (idx : Nat) : State :=
  match s.job idx with
  | none => s
  | some j =>
    if j.phase ≠ 1 ∨ !j.layerEnd then s
    else
      let m := j.man j.layer
      if m.arr ≠ 0 ∧ s.devBad m.staticList (4 * m.staticN) then s.layerRefuse j 0x303B
      else match s.tileLoads j with
        | .error code => s.layerRefuse j code
        | .ok (tiles, x) =>
          let ws := m.writes tiles x.degraded
          let s := ws.foldl (fun s w => s.devWrite w.1 w.2) s
          let s := s.inc ingPg INGEST.BYTES_T1 (sumN (ws.map (fun w => w.2.length)))
          let qerr := if x.sum2.isZero then s.freeBits 32 else sqrtRatio32 x.err2 x.sum2
          let s := if x.sum2.isZero then s.takeFree else s
          let figures := [qerr, F32.ofDy x.worst, x.clamped, sumN (tiles.map (fun t => t.resid.length)),
            sumN (tiles.map (fun t => t.statics.length)), x.splits, x.dropped]
          let s := (List.range x.splits).foldl (fun s _ => s.emit ingPg 0x3031 j.layer) s
          let s := if x.dropped = 0 then s else s.emitRep ingPg 0x3032 j.layer x.dropped
          let s := if x.clamped = 0 then s else s.emitRep ingPg 0x3034 j.layer x.clamped
          let s := ((s.writeReport j (toBit x.degraded) 0 figures j.chunks s.sclk).inc ingPg INGEST.LAYER_CNT).irq ingPg 0
          let s := if x.degraded then (s.inc ingPg INGEST.DEGRADED_CNT).irq ingPg 2 else s
          s.layerNext j

/-! ### Ends (R248, R258) -/

def jobEndEffect (s : State) (idx : Nat) : State :=
  match s.job idx with
  | none => s
  | some j =>
    if j.phase ≠ 3 ∧ j.phase ≠ 4 then s
    else
      let ok := j.phase == 3
      let s := s.modIng (fun x => { x with jobs := x.jobs.filter (fun k => k.idx != idx) })
      let s := s.writeBack idx j.failCode (if j.op = 3 ∨ ok then min j.layer j.layers else j.layer) (if ok then 2 else 3)
      let s := match j.bound with
        | some ch => s.modIng (fun x => { x with exporters := mdel x.exporters ch, counts := mdrop x.counts (fun k => k / 1024 == ch) })
        | none => s
      let s := if ok ∧ j.op ≠ 3 then s.modIng (fun x => { x with
          manifests := mput x.manifests j.model j.manifest,
          reloads := mput x.reloads j.model ((s.reloadTable j.reload j.reloadN).map (fun e => (e.1, e.2.1))) }) else s
      let s := s.irq ingPg 1
      let s := if j.op = 1 then (if ok then s.wr (mdlPg j.model) MDL.STATE 2 else s.emptyModel j.model 0x06)
        else if j.op = 2 then (s.modMdl j.model (fun x => { x with drained := false })).send (.swapDone j.model ok)
        else s
      s.startJobs

/-! ### Aperture credit (R257) -/

def creditRequestEffect (s : State) (port peer ch : Nat) : State :=
  if s.ingest.jobs.any (fun j => j.bound == some ch) then
    (s.modIng (fun x => { x with exporters := mput x.exporters ch (port, peer) })).send
      (.credit port ch (s.rd ingPg INGEST.STAGE_CFG_SLOTS) (s.rd ingPg (INGEST.CH_CONSUMED ch)))
  else s.send (.credit port ch 0 0)

/-- An EXPORT to a peer, running. -/
def State.exporting (s : State) (idx : Nat) : Option (IngJob × Nat × Nat) :=
  match s.job idx with
  | none => none
  | some j => if j.phase = 1 then j.peer.map (fun p => (j, p.1, p.2)) else none

def creditMsgEffect (s : State) (idx slots consumed : Nat) : State :=
  if (s.exporting idx).isSome then s.modJob idx (fun x => { x with slots := slots, consumed := consumed, asking := false }) else s

/-- An answer with SLOTS = 0 came 1 ms ago: the request is repeated. -/
def creditRetryEffect (s : State) (idx : Nat) : State :=
  match s.exporting idx with
  | some (j, peer, ch) =>
    if j.asking ∨ j.slots ≠ 0 then s
    else (s.modJob idx (fun x => { x with asking := true, askedAt := s.now })).send (.creditReq peer ch)
  | none => s

def creditTimeoutEffect (s : State) (idx : Nat) : State :=
  match s.exporting idx with
  | some (j, _, _) => if j.asking then s.layerRefuse j 0x303E else s
  | none => s

/-- ENABLE is refused before DEV_READY (R316). -/
def ingestEnableEffect (s : State) (v : Bool) : State :=
  if !s.rdB (pciePg 0) PCIE.STAT_DEV_READY then s.refuse ingPg else (s.wrB ingPg INGEST.CTRL_ENABLE v).startJobs

/-! ### Meanings -/

/-- A write of the ingest port reaches the aperture: its stream decides first (R318), a poisoned one is counted (R324). -/
def ingestWriteEffect (s : State) (addr : Nat) (data : List Byte) (poisoned : Bool) (stream : Option Nat) : State :=
  match s.ide 1 stream with
  | .dropped => s
  | .refused => s.extRefuse 1 addr false
  | .ok => (if poisoned then s.inc (pciePg 1) PCIE.POISON_RX_CNT else s).apertureEffect addr data poisoned

def execApertureWrite (addr : Nat) (data : List Byte) (poisoned : Bool) (stream : Option Nat) (s : State) : Host.Outcome State Fault Refusal :=
  onWf s (.apertureWrite addr data poisoned stream) (ingestWriteEffect s addr data poisoned stream)

def execJobTail (v : Nat) (s : State) : Host.Outcome State Fault Refusal := onWf s (.jobTail v) (s.wr ingPg INGEST.JOB_TAIL_TAIL v)

/-- A job whose OP is none of the three is refused here. -/
def execJobLoad (s : State) : Host.Outcome State Fault Refusal := onWf s .jobLoad (jobEffect s (fun op => op != 2 && op != 3))

def execJobSwap (s : State) : Host.Outcome State Fault Refusal := onWf s .jobSwap (jobEffect s (fun op => op == 2))

def execJobExport (s : State) : Host.Outcome State Fault Refusal := onWf s .jobExport (jobEffect s (fun op => op == 3))

def execChunkProcess (j : Nat) (raw : Option (List Byte)) (s : State) : Host.Outcome State Fault Refusal :=
  onWf s (.chunkProcess j raw) (chunkEffect s j raw)

def execLayerComplete (j : Nat) (s : State) : Host.Outcome State Fault Refusal := onWf s (.layerComplete j) (layerEffect s j)

def execJobEnd (j : Nat) (s : State) : Host.Outcome State Fault Refusal := onWf s (.jobEnd j) (jobEndEffect s j)

def execApertureCreditRequest (port peer ch : Nat) (s : State) : Host.Outcome State Fault Refusal :=
  onWf s (.apertureCreditRequest port peer ch) (creditRequestEffect s port peer ch)

def execApertureCreditMsg (j slots consumed : Nat) (s : State) : Host.Outcome State Fault Refusal :=
  onWf s (.apertureCreditMsg j slots consumed) (creditMsgEffect s j slots consumed)

def execExportCreditRetry (j : Nat) (s : State) : Host.Outcome State Fault Refusal := onWf s (.exportCreditRetry j) (creditRetryEffect s j)

def execExportCreditTimeout (j : Nat) (s : State) : Host.Outcome State Fault Refusal :=
  onWf s (.exportCreditTimeout j) (creditTimeoutEffect s j)

def execIngestEnableWrite (v : Bool) (s : State) : Host.Outcome State Fault Refusal := onWf s (.ingestEnableWrite v) (ingestEnableEffect s v)

end Sys2Proof.Machine
end

