-- ==== Sys2Proof/Machine/Link.lean ====
section
/-! DEFINITION. The peer links' family: training and lane errors, inbound peer requests, the remote copy engines (R296 to R304). -/

namespace Sys2Proof.Machine

/-! ### Remote copies (R301, R302, R304) -/

/-- The page that holds hub `h`'s peer map and remote copy registers (R306). -/
def rcPg (h : Nat) : Nat := plkPg (4 * h)

def State.rcAddr (s : State) (h i : Nat) : Nat := s.rdA (rcPg h) PLK.RC_BASE_BASE + 64 * i

def State.copies (s : State) (h : Nat) : List RCopy := mget s.rcopies [] h

def State.setCopies (s : State) (h : Nat) (l : List RCopy) : State := { s with rcopies := mput s.rcopies h l }

/-- Whether [a, a+n) of local memory is one the remote copy engine reaches: the software and firmware regions and fitted tier 2. -/
def State.rcMay (s : State) (a n : Nat) : Bool :=
  let ok := fun x => match s.region x with
    | .soft => true
    | .firm => true
    | .tier2 => true
    | _ => false
  ok a && ok (a + n - 1)

def rcOpOk (r : RCopy) : Bool := r.op == 1 || r.op == 2

/-- The fields of a descriptor (R301). -/
def rcopyOf (idx : Nat) (l : List Byte) : RCopy :=
  { idx := idx, op := leAt l 0 1, peer := leAt l 1 1, len64 := leAt l 4 4, loc := leAt l 8 8, remote := leAt l 16 8, sigSem := leAt l 24 2,
    sigCnt := leAt l 26 1, reissued := false }

/-- The local range of a descriptor can be named: its length and alignment are in range. -/
def rcLocOk (r : RCopy) : Bool :=
  decide (1 ≤ r.len64) && decide (r.len64 ≤ 2 ^ 24) && decide (r.loc % 64 = 0) && decide (r.loc < 2 ^ 48)

def rcSigOk (r : RCopy) : Bool :=
  decide (0x400 ≤ r.sigSem) && decide (r.sigSem < 0x800) && decide (1 ≤ r.sigCnt) && decide (r.sigCnt < 16)

/-- The field checks. -/
def rcFieldsOk (r : RCopy) (l : List Byte) : Bool :=
  rcOpOk r && decide (r.peer < 64) && leAt l 2 1 == 0 && leAt l 3 1 == 0 && rcLocOk r && decide (r.remote % 64 = 0)
    && decide (r.remote < 2 ^ 48) && rcSigOk r && leAt l 27 37 == 0

/-- A copy fails (R304): what a READ has not written is marked, STATUS 2, the signal, the count and the record. -/
def State.rcopyFail (s : State) (h : Nat) (r : RCopy) : State :=
  let s := if r.op = 1 ∧ rcLocOk r ∧ s.rcMay r.loc (64 * r.len64) then
      { s with dev := s.dev.markWords (r.loc / 8) (List.replicate (8 * r.len64) true) } else s
  let s := s.devWrite (s.rcAddr h r.idx + 2) [2]
  let s := if rcSigOk r then s.sendAdd r.sigSem r.sigCnt else s
  (s.inc (rcPg h) PLK.RC_FAIL_CNT).emit (rcPg h) 0x9041 r.idx

/-- A copy completes: STATUS 1, then the signal. -/
def State.rcopyEnd (s : State) (h : Nat) (r : RCopy) : State :=
  ((s.devWrite (s.rcAddr h r.idx + 2) [1]).sendAdd r.sigSem r.sigCnt).inc (rcPg h) PLK.RC_CNT

/-- The payload of `n64` blocks to a peer is spread over its up ports by 4 KiB unit of the remote address (R299, log 37). -/
def State.countPorts (s : State) (f : Fld) (ports : List Nat) (remote n64 : Nat) : State :=
  let n := 64 * n64
  let units := (List.range ((remote + n + 4095) / 4096 - remote / 4096)).map (fun i => remote / 4096 + i)
  units.foldl (fun s u =>
    let bytes := min (remote + n) (4096 * (u + 1)) - max remote (4096 * u)
    s.inc (plkPg (ports.getD (u % ports.length) 0)) f bytes) s

/-- The engine keeps a claim of 1 queued on its doorbell. -/
def State.ringClaim (s : State) (h : Nat) : State := s.sendClaim (4096 + h) (s.rd (rcPg h) PLK.RC_CFG_DOORBELL_SEM) 1

def rcopyStartEffect (s : State) (h : Nat) : State :=
  let k := rcPg h
  let n := s.rd k PLK.RC_CFG_ENTRIES
  let mine := fun (q : Claim) => q.who == 4096 + h
  if !s.rdB k PLK.RC_CFG_ENABLE ∨ n = 0 ∨ 16 ≤ (s.copies h).length ∨ !s.awn.grants.any mine then s
  else
    let s := ({ s with awn := { s.awn with grants := eraseFirst mine s.awn.grants } }).ringClaim h
    let i := s.rd k PLK.RC_HEAD_HEAD % n
    let a := s.rcAddr h i
    let bad := s.devBad a 64
    let l := s.devRead a 64
    let r := rcopyOf i l
    let s := (s.touch a 64).wr k PLK.RC_HEAD_HEAD ((i + 1) % n)
    if bad ∨ !rcFieldsOk r l then s.rcopyFail h r
    else if !s.rcMay r.loc (64 * r.len64) then (s.emit k 0x6011 r.loc).rcopyFail h r
    else
      let ports := s.peerUp h r.peer
      if ports.isEmpty then s.rcopyFail h r
      else
        let s := s.setCopies h (s.copies h ++ [r])
        if r.op = 1 then s.send (.remoteRead r.peer r.remote (64 * r.len64))
        else
          let data := s.devRead r.loc (64 * r.len64)
          let marks := (List.range (8 * r.len64)).filter (fun i => s.dev.wordBad (r.loc / 8 + i))
          ((s.touch r.loc (64 * r.len64)).countPorts PLK.TX_BYTES ports r.remote r.len64).send (.remoteWrite r.peer r.remote data marks)

/-- The `k`-th copy in flight ends: the peer's data (for a READ) or acknowledgement has come, or its refusal. -/
def rcopyDoneEffect (s : State) (h k : Nat) (data : Option (List Byte × List Nat)) : State :=
  match (s.copies h)[k]? with
  | none => s
  | some r =>
    let t := s.setCopies h ((s.copies h).eraseIdx k)
    match data with
    | none => t.rcopyFail h r
    | some (l, bad) =>
      if r.op = 2 then t.rcopyEnd h r
      else if l.length ≠ 64 * r.len64 then s
      else
        let t := t.countPorts PLK.RX_BYTES (t.peerUp h r.peer) r.remote r.len64
        let t := t.devWrite r.loc l
        let t := { t with dev := t.dev.markWords (r.loc / 8) ((List.range (8 * r.len64)).map (fun i => bad.contains i)) }
        let t := { t with dev := if tier2Base ≤ r.loc then t.dev.lines2 r.loc l.length else t.dev }
        t.rcopyEnd h r

/-! ### Ports (R297, R298) -/

/-- The requests of a port that left its peers' maps are reissued once on another port of the group, or fail. -/
def State.reissue (s : State) (p : Nat) : State :=
  (List.range 4).foldl (fun s h =>
    let uses := fun (r : RCopy) => (s.rd (rcPg h) (PLK.PEER_MAP_PORTS r.peer)).testBit p
    let lost := fun (r : RCopy) => uses r && (r.reissued || (s.peerUp h r.peer).isEmpty)
    let l := s.copies h
    let s := s.setCopies h (mapIf uses (fun r => { r with reissued := true }) (l.filter (fun r => !lost r)))
    (l.filter lost).foldl (fun s r => s.rcopyFail h r) s) s

/-- A port goes down, with PLK_DOWN. -/
def State.plkDown (s : State) (p : Nat) : State :=
  let k := plkPg p
  (((s.wr k PLK.STAT_STATE 0).emit k 0x9033 0).irq k 0).reissue p

def plkTrainEffect (s : State) (p : Nat) (retrain : Bool) : State :=
  let k := plkPg p
  let s := if retrain then s else (s.wr k PLK.CTRL_ENABLE 1).modPort p (fun x => { x with locked := true })
  (s.wr k PLK.STAT_STATE 1).modPort p (fun x => { x with badLanes := [] })

/-- Training ends: `bad` are the lanes of 17 that failed qualification, `versions` the other end's mask, and its identity. -/
def plkTrainDoneEffect (s : State) (p bad versions peer peerPort : Nat) : State :=
  let k := plkPg p
  let lanes := bitsOf bad 17
  if s.rd k PLK.STAT_STATE ≠ 1 then s
  else
    let s := (s.modPort p (fun x => { x with badLanes := lanes })).wr k PLK.STAT_SPARE_FOR
      (if lanes.length = 1 then (if bad.testBit 16 then 0x1F else lanes.headD 0x1F) else 0x1F)
    if 17 - lanes.length < 8 then s.plkDown p
    else
      let s := if lanes.length < 2 then s else (s.emit k 0x9032 0).irq k 2
      if (versions &&& s.rd k PLK.CAP_VERSIONS) = 0 then ((s.wr k PLK.STAT_STATE 0).emit k 0x9034 0).irq k 3
      else
        let s := s.wr k PLK.STAT_VERSION (versions &&& s.rd k PLK.CAP_VERSIONS).log2
        let s := (s.wr k PLK.STAT_PEER_ID peer).wr k PLK.STAT_PEER_PORT peerPort
        s.wr k PLK.STAT_STATE (if lanes.length < 2 then 2 else 3)

def plkLaneErrorEffect (s : State) (p lane : Nat) : State :=
  let k := plkPg p
  let x := s.port p
  if !s.plkUp p ∨ x.badLanes.contains lane then s
  else
    let s := s.modPort p (fun x => { x with badLanes := x.badLanes ++ [lane] })
    if x.badLanes.isEmpty then
      if lane = 16 then s else (((s.wr k PLK.STAT_SPARE_FOR lane).emit k 0x9031 0).irq k 1).logRetired 3 (pageDie k) p lane
    else if 17 - (x.badLanes.length + 1) < 8 then s.plkDown p
    else (((s.wr k PLK.STAT_SPARE_FOR 0x1F).wr k PLK.STAT_STATE 3).emit k 0x9032 0).irq k 2

/-! ### Inbound requests (R262, R263, R300) -/

/-- Whether an inbound window of the port covers 4 KiB unit `u`. -/
def State.inWindow (s : State) (p u : Nat) : Bool :=
  let k := plkPg p
  (List.range 4).any (fun i => s.rdB k (PLK.IN_WIN_BASE_VALID i) && decide (s.rd k (PLK.IN_WIN_BASE_BASE i) ≤ u)
    && decide (u ≤ s.rd k (PLK.IN_WIN_LIMIT_LIMIT i)))

/-- Whether an inbound request may reach [a, a+n): a write into the aperture, or memory that R262 permits, inside the windows. -/
def State.peerMay (s : State) (p a n : Nat) (write : Bool) : Bool :=
  let soft := fun x => match s.region x with
    | .soft => true
    | .tier2 => true
    | _ => false
  if s.region a = .aperture then write && s.region (a + n - 1) == .aperture
  else soft a && soft (a + n - 1)
    && (List.range ((a + n + 4095) / 4096 - a / 4096)).all (fun i => s.inWindow p (a / 4096 + i))

/-- A request of a peer: a write of bytes with the marks of their words, or a read of 64 bytes. -/
def peerInboundEffect (s : State) (p a : Nat) (wr : Option (List Byte × List Nat)) : State :=
  let k := plkPg p
  let n := match wr with
    | some (l, _) => l.length
    | none => 64
  if !s.plkUp p ∨ n = 0 then s
  else if !s.peerMay p a n wr.isSome then
    ((((s.inc k PLK.REFUSED_CNT).irq k 4).emitLimited (pageDie k) (0x6012000 + p) ticksMs k 0x6012 a)).send (.refusal p)
  else match wr with
    | some (l, bad) =>
      let s := s.inc k PLK.RX_BYTES n
      if s.region a = .aperture then s.apertureEffect a l (!bad.isEmpty)
      else
        let s := s.devWrite a l
        let marks := (List.range ((a + n + 7) / 8 - a / 8)).map (fun i => bad.contains i)
        let d := s.dev.markWords (a / 8) marks
        { s with dev := if tier2Base ≤ a then d.lines2 a n else d }
    | none =>
      let bad := (List.range ((a + n + 7) / 8 - a / 8)).filter (fun i => s.dev.wordBad (a / 8 + i))
      ((s.touch a n).inc k PLK.TX_BYTES n).send (.peerData p (s.devRead a n) bad)

/-! ### Meanings -/

def execPlkTrain (p : Nat) (retrain : Bool) (s : State) : Host.Outcome State Fault Refusal := onWf s (.plkTrain p retrain) (plkTrainEffect s p retrain)

def execPlkTrainDone (p badLanes versions peerId peerPort : Nat) (s : State) : Host.Outcome State Fault Refusal :=
  onWf s (.plkTrainDone p badLanes versions peerId peerPort) (plkTrainDoneEffect s p badLanes versions peerId peerPort)

def execPlkLaneError (p lane : Nat) (s : State) : Host.Outcome State Fault Refusal := onWf s (.plkLaneError p lane) (plkLaneErrorEffect s p lane)

def execPeerInbound (p addr : Nat) (wr : Option (List Byte × List Nat)) (s : State) : Host.Outcome State Fault Refusal :=
  onWf s (.peerInbound p addr wr) (peerInboundEffect s p addr wr)

def execRcopyStart (h : Nat) (s : State) : Host.Outcome State Fault Refusal := onWf s (.rcopyStart h) (rcopyStartEffect s h)

def execRcopyDone (h k : Nat) (data : Option (List Byte × List Nat)) (s : State) : Host.Outcome State Fault Refusal :=
  onWf s (.rcopyDone h k data) (rcopyDoneEffect s h k data)

/-- Flits that replay cannot deliver take the port down. -/
def execPlkReplayFailure (p : Nat) (s : State) : Host.Outcome State Fault Refusal :=
  onWf s (.plkReplayFailure p) (if s.plkUp p then s.plkDown p else s)

end Sys2Proof.Machine
end

