-- ==== Sys2Proof/Machine/MemCmds.lean ====
section
/-! DEFINITION. The memory controllers' family: patrol scrubbing, retirement copies, SRAM patrol, the test registers, the remap view
(R271 to R283). -/

namespace Sys2Proof.Machine

/-! ### Granules and lines of a stack (R264, R272, R277) -/

/-- The first spare granule of a stack's local space. -/
def spareBase : Nat := 129024

/-- Granules of a stack. -/
def granules : Nat := 131072

/-- The granule whose data a granule holds: a spare holds that of the granule it replaces. -/
def StackS.rootN : Nat → StackS → Nat → Nat
  | 0, _, g => g
  | n + 1, x, g => if g < spareBase then g else
    match mfind x.remap (g - spareBase) with
    | some h => StackS.rootN n x h
    | none => g

def StackS.root (x : StackS) (g : Nat) : Nat := StackS.rootN 2049 x g

/-- A granule the scrubber visits: not retired, and if a spare then in use. -/
def StackS.scrubs (x : StackS) (g : Nat) : Bool :=
  !x.remap.any (fun e => e.2 == g) && (decide (g < spareBase) || (mfind x.remap (g - spareBase)).isSome)

/-- The first granule at or after `g` that the scrubber visits, with a lap completed where the end is passed. -/
def StackS.seek : Nat → StackS → Nat → Nat × Bool
  | 0, _, _ => (0, true)
  | n + 1, x, g => if granules ≤ g then (0, true) else if x.scrubs g then (g, false) else StackS.seek n x (g + 1)

/-- The next line to scrub at or after local address `l`. -/
def StackS.seekLine (x : StackS) (l : Nat) : Nat × Bool :=
  let (g, lap) := x.seek granules (l / 2 ^ 20)
  if g = l / 2 ^ 20 ∧ !lap then (l, false) else (g * 2 ^ 20, lap)

/-- The device address that holds the data of a local address. -/
def State.dataAddr (s : State) (st l : Nat) : Nat := physOf st ((s.stack st).root (l / 2 ^ 20) * 2 ^ 20 + l % 2 ^ 20)

/-- Word `w` rewritten corrected, or as stored poison where it cannot be (R269, R272). -/
def Store.repair (st : Store) (w : Nat) : Store :=
  let (o, v) := st.word w
  if o = 1 ∨ o = 2 then st.putWord w v false else if o = 3 then st.setChk w 0xFF else st

/-! ### SCRUB_LINE (R272, R276) -/

/-- The scrubber meets word `w` of granule `g`: it is counted, tracked and rewritten. -/
def State.scrubWord (s : State) (st g w : Nat) : State :=
  let o := (s.dev.word w).1
  if o = 0 ∨ o = 4 then s
  else
    let s := s.noteWord (8 * w) o true
    let s := if o ≤ 2 ∧ !s.held st then s.modStack st (fun x => { x with tracker := trackerAdd x.tracker g }) else s
    ({ s with dev := s.dev.repair w }).inc (hbmcPg st) HBMC.SCRUB_FIX_CNT

/-- The scrub position moves to the next line; a lap clears the tracker. -/
def State.scrubTo (s : State) (st l : Nat) : State :=
  let (l, lap) := (s.stack st).seekLine l
  let p := hbmcPg st
  let s := s.wrA p HBMC.SCRUB_POS_POS l
  if lap then ((s.inc p HBMC.SCRUB_LAP_CNT).irq p 4).modStack st (fun x => { x with tracker := [] }) else s

def scrubLineEffect (s : State) (st : Nat) : State :=
  let p := hbmcPg st
  if !s.rdB p HBMC.CTRL_SCRUB_EN || s.held st then s
  else
    let s := s.scrubTo st (s.rdA p HBMC.SCRUB_POS_POS)
    let l := s.rdA p HBMC.SCRUB_POS_POS
    let g := l / 2 ^ 20
    let w := s.dataAddr st l / 8
    let s := (List.range 8).foldl (fun s i => s.scrubWord st g (w + i)) s
    let s := if max 1 (s.rd p HBMC.CTRL_CE_THRESH) ≤ mget (s.stack st).tracker 0 g then s.retireGranule st g else s
    s.scrubTo st (l + 64)

/-! ### Serving one access (R262 to R277) -/

/-- An access of one word of memory: a read is delivered with its mark, a write replaces the word. Marked data that leaves for
the host in a BAR2 completion is recorded (R275). -/
def State.serveWord (s : State) (rq : Requester) (a : Nat) (wr : Option (Nat × Bool)) : State :=
  match wr with
  | some (v, poison) => s.devWrite a (toLe 8 v) poison
  | none =>
    let bad := s.devBad a 8
    let t := (s.touch a 8).send (.completion bad (s.devNat a 8))
    match rq with
    | .bar2 _ => if bad then (t.inc (pciePg 0) PCIE.POISON_TX_CNT).emit (pciePg 0) 0x6031 0 else t
    | _ => t

/-- Whether the granule of a tier-1 address is being copied, so that its accesses wait (R277). -/
def State.granuleHeld (s : State) (a : Nat) : Bool :=
  decide (a < firmEnd) &&
    (let x := s.stack (stackOf a)
     match x.copying with
     | some (g, _) => x.phys (localOf a / 2 ^ 20) == g
     | none => false)

/-! ### RETIRE_COPY_DONE (R277, R282) -/

/-- The next queued retirement starts, unless the stack is held. -/
def State.nextRetire (s : State) (st : Nat) : State :=
  match (s.stack st).queue with
  | [] => s
  | g :: l => if (s.stack st).copying.isSome || s.held st then s else (s.modStack st (fun x => { x with queue := l })).startRetire st g

def retireCopyEffect (s : State) (st : Nat) : State :=
  let x := s.stack st
  match x.copying with
  | none => s
  | some (g, sp) =>
    let p := hbmcPg st
    let r := x.root g
    let mine := s.dev.chk.filter (fun e => decide (8 * e.1 < firmEnd) && stackOf (8 * e.1) == st && localOf (8 * e.1) / 2 ^ 20 == r)
    let s := mine.foldl (fun s e => { s with dev := s.dev.repair e.1 }) s
    let s := s.modStack st (fun x => { x with remap := mput x.remap sp g, copying := none, tracker := mdel x.tracker g, heldAcc := [] })
    let s := (((s.wr p HBMC.STAT_COPYING 0).emit p 0x6023 (g * 2 ^ 20)).irq p 2).logRetired 5 (hubDie (st / 3)) st (g % 65536)
    let s := { s with sec := { s.sec with remaps := mput s.sec.remaps st (s.stack st).remap } }
    let s := x.heldAcc.foldl (fun s a => s.serveWord a.1 a.2.1 a.2.2) s
    s.nextRetire st

/-! ### SRAM_PATROL (R273) -/

def sramPatrolEffect (s : State) (c word : Nat) : State :=
  let w := csBase c / 8 + word
  let s := s.csTouch c (8 * word) 8
  { s with cstore := s.cstore.repair w }

/-! ### The test registers (R280, R281, R283) -/

/-- The word that a test access of hub die `d` reaches: through the remap table for a spare in use (R277). -/
def State.testTarget (s : State) (d a : Nat) : Option Nat :=
  match s.region a with
  | .soft => if hubDie (stackOf a / 3) = d then some a else none
  | .firm => if hubDie (stackOf a / 3) = d then some a else none
  | .reserve => if hubDie (stackOf a / 3) = d then some (s.dataAddr (stackOf a) (localOf a)) else none
  | .tier2 => if hubDie (s.t2Port a) = d then some a else none
  | _ => none

/-- A test access that is refused. -/
def State.testRefuse (s : State) (d : Nat) : State := (s.wr (eccPg d) ECC.TRESULT_OUTCOME 5).refuse (eccPg d)

/-- The result of a test access. -/
def State.testResult (s : State) (d outcome syndrome check : Nat) : State :=
  (((s.wr (eccPg d) ECC.TRESULT_OUTCOME outcome).wr (eccPg d) ECC.TRESULT_SYNDROME syndrome).wr (eccPg d) ECC.TRESULT_RCHECK check).irq (eccPg d) 2

/-- A test access of a hub with TEST_EN, on a word it serves; off the hubs it is refused without a result. -/
def State.testAccess (s : State) (d : Nat) (f : State → Nat → State) : State :=
  let p := eccPg d
  if !isHub d then s.refuse p
  else if !s.rdB p ECC.CTRL_TEST_EN then s.testRefuse d
  else match s.testTarget d (s.rdA p ECC.TADDR_ADDR) with
    | none => s.testRefuse d
    | some a => f s a

def eccTestWriteEffect (s : State) (d : Nat) : State :=
  s.testAccess d (fun s a =>
    let v := s.rd (eccPg d) ECC.TDATA
    let syn := checkBits v ^^^ s.rd (eccPg d) ECC.TCTRL_TCHECK
    let s :=
      if a < tier1End then { s with dev := (s.dev.putWord (a / 8) v false).setChk (a / 8) syn }
      else
        let (o, x) := decode72 v syn
        s.devWrite a (toLe 8 x) (decide (3 ≤ o))
    s.testResult d 0 0 (s.rd (eccPg d) ECC.TRESULT_RCHECK))

def eccTestReadEffect (s : State) (d : Nat) : State :=
  s.testAccess d (fun s a =>
    let v := s.dev.raw (a / 8)
    let s := s.wr (eccPg d) ECC.TREAD_DATA v
    if a < tier1End then
      let syn := s.dev.chkAt (a / 8)
      s.testResult d (decode72 v syn).1 syn (checkBits v ^^^ syn)
    else s.testResult d (if s.devBad a 8 then 4 else 0) 0 (checkBits v))

def eccTestEnEffect (s : State) (d : Nat) (v : Bool) : State :=
  let p := eccPg d
  if !isHub d then s.refuse p
  else
    let s := (s.wrB p ECC.CTRL_TEST_EN v).wrB p ECC.STAT_TEST_ACTIVE v
    (List.range 3).foldl (fun s i =>
      let st := 3 * hubOrd d + i
      (s.wrB (hbmcPg st) HBMC.STAT_SCRUB_HELD v).nextRetire st) s

/-- A write of RMAP_SEL copies the spare's entry into RMAP_VIEW. -/
def rmapSelEffect (s : State) (st v : Nat) : State :=
  let p := hbmcPg st
  let sp := v % 2048
  let e := mfind (s.stack st).remap sp
  ((s.wr p HBMC.RMAP_SEL_SPARE sp).wrB p HBMC.RMAP_VIEW_VALID e.isSome).wr p HBMC.RMAP_VIEW_GRANULE (e.getD 0)

/-! ### Meanings -/

def execScrubLine (st : Nat) (s : State) : Host.Outcome State Fault Refusal := onWf s (.scrubLine st) (scrubLineEffect s st)

def execRetireCopyDone (st : Nat) (s : State) : Host.Outcome State Fault Refusal := onWf s (.retireCopyDone st) (retireCopyEffect s st)

def execSramPatrol (c word : Nat) (s : State) : Host.Outcome State Fault Refusal := onWf s (.sramPatrol c word) (sramPatrolEffect s c word)

def execEccTestWrite (d : Nat) (s : State) : Host.Outcome State Fault Refusal := onWf s (.eccTestWrite d) (eccTestWriteEffect s d)

def execEccTestRead (d : Nat) (s : State) : Host.Outcome State Fault Refusal := onWf s (.eccTestRead d) (eccTestReadEffect s d)

def execEccTestEnWrite (d : Nat) (v : Bool) (s : State) : Host.Outcome State Fault Refusal := onWf s (.eccTestEnWrite d v) (eccTestEnEffect s d v)

def execRmapSel (st v : Nat) (s : State) : Host.Outcome State Fault Refusal := onWf s (.rmapSel st v) (rmapSelEffect s st v)

end Sys2Proof.Machine
end

