-- ==== Sys2Proof/Machine/Net.lean ====
section
/-! DEFINITION. The networks' family: links and routes of the mesh, the awn network's messages, step starts, the SYNC page (R183,
R284 to R295, R307, R328). -/

namespace Sys2Proof.Machine

/-! ### Links and routes (R284 to R289) -/

/-- The die that port `p` of die `d` faces, where there is one. -/
def neighbour (d p : Nat) : Option Nat :=
  if p = 0 then (if d % 8 < 7 then some (d + 1) else none)
  else if p = 1 then (if d / 8 < 4 then some (d + 8) else none)
  else if p = 2 then (if 0 < d % 8 then some (d - 1) else none)
  else if 0 < d / 8 then some (d - 8) else none

def State.portUp (s : State) (d p : Nat) : Bool := (s.rd (meshPg d) MESH.STAT_UP).testBit p

/-- The two ends of a connection (log 36). -/
def linkEnds (d p : Nat) : List (Nat × Nat) :=
  match neighbour d p with
  | some e => [(d, p), (e, (p + 2) % 4)]
  | none => []

def linkRetrainEffect (s : State) (d p : Nat) : State :=
  if !s.portUp d p then s
  else (linkEnds d p).foldl (fun s x => s.modDie x.1 (fun y => { y with
    retraining := if y.retraining.contains x.2 then y.retraining else y.retraining ++ [x.2] })) s

/-- MESH_UNREACHABLE, once per destination die; a compute die's cores migrate (R289, R363). -/
def State.unreachable (s : State) (dst : Nat) : State :=
  if (s.die 16).unreachSaid.contains dst then s
  else
    let s := s.modDie 16 (fun x => { x with unreachSaid := x.unreachSaid ++ [dst] })
    let s := s.emitR (faultRec s (fltdPg 16) 0x9013 dst 0xFFFF none 1 dst)
    if isCompute dst then
      let s := s.modDie dst (fun x => { x with lost := true })
      (List.range 4).foldl (fun s i => s.triggerMig (4 * dst + i) 2 true) s
    else s

/-- Entry `dst` of die `d` after a change of its ports or of itself: with PRIMARY down it goes to ALT, or is UNREACHABLE. -/
def State.checkRoute (s : State) (d dst : Nat) : State :=
  let k := meshPg d
  let pri := s.rd k (MESH.ROUTE_PRIMARY dst)
  let alt := s.rdB k MESH.CTRL_ALT_EN && s.rdB k (MESH.ROUTE_ALT_VALID dst) && s.portUp d (s.rd k (MESH.ROUTE_ALT dst))
  if d = dst ∨ s.portUp d pri then s
  else
    let s := s.wr k MESH.STAT_REROUTED (putBit (s.rd k MESH.STAT_REROUTED) pri true)
    if alt ∨ s.rdB k (MESH.ROUTE_UNREACHABLE dst) then s
    else ((s.wr k (MESH.ROUTE_UNREACHABLE dst) 1).irq k 2).unreachable dst

/-- One end of a connection goes down. -/
def State.endDown (s : State) (d p : Nat) : State :=
  let k := meshPg d
  let s := (s.wr k MESH.STAT_UP (putBit (s.rd k MESH.STAT_UP) p false)).modDie d (fun x => { x with
    down := if x.down.contains p then x.down else x.down ++ [p] })
  let s := ((s.emit k 0x9012 0).irq k 0).logRetired 4 d p 0x9012
  (List.range 40).foldl (fun s dst => if s.rd k (MESH.ROUTE_PRIMARY dst) = p ∨ s.rd k (MESH.ROUTE_ALT dst) = p then s.checkRoute d dst else s) s

def retrainEndEffect (s : State) (d p : Nat) (ok : Bool) : State :=
  if !(s.die d).retraining.contains p then s
  else
    let ends := linkEnds d p
    let s := ends.foldl (fun s x => s.modDie x.1 (fun y => { y with retraining := y.retraining.filter (fun q => q != x.2) })) s
    if ok then s else ends.foldl (fun s x => s.endDown x.1 x.2) s

def laneRepairEffect (s : State) (d p : Nat) : State :=
  if s.portUp d p then (s.emit (meshPg d) 0x9011 0).irq (meshPg d) 1 else s

def routeWriteEffect (s : State) (d dst v : Nat) : State :=
  let k := meshPg d
  ((((s.wrB k (MESH.ROUTE_UNREACHABLE dst) (bit v 7)).wrB k (MESH.ROUTE_ALT_VALID dst) (bit v 6)).wr k (MESH.ROUTE_ALT dst) (field v 4 2)).wr k
    (MESH.ROUTE_PRIMARY dst) (field v 0 2)).checkRoute d dst

/-! ### The awn network (R178, R293, R294) -/

def awnAddEffect (s : State) (sem n : Nat) : State :=
  let mine := fun (m : Nat × Nat) => m.1 == sem && m.2 == n
  if !s.awn.adds.any mine then s
  else
    let v := s.globalSem sem + n
    let s := { s with awn := { s.awn with adds := eraseFirst mine s.awn.adds, value := mput s.awn.value sem (min v 0xFFFF) } }
    let s := s.inc syncPg SYNC.SIGNAL_CNT
    let s := if 0xFFFF < v then (s.inc syncPg SYNC.SAT_CNT).emit syncPg 0x1045 sem else s
    s.evalClaims

def awnClaimEffect (s : State) (who sem n : Nat) : State :=
  let mine := fun (q : Claim) => q.who == who && q.sem == sem && q.count == n
  if !s.awn.sent.any mine then s
  else ({ s with awn := { s.awn with sent := eraseFirst mine s.awn.sent, claims := s.awn.claims ++ [(⟨who, sem, n⟩ : Claim)] } }).evalClaims

/-- A grant arrives at a core: its queue head or SEM_WAIT is satisfied; a halted core, which has withdrawn, gives it back. Grants of
the controller and of the remote copy engines are taken by DRAFT_ROUND_END and RCOPY_START. -/
def awnGrantEffect (s : State) (who : Nat) : State :=
  let mine := fun (q : Claim) => q.who == who
  match s.awn.grants.find? mine with
  | none => s
  | some g =>
    if 4096 ≤ who then s
    else
      let s := { s with awn := { s.awn with grants := eraseFirst mine s.awn.grants } }
      if s.awn.withdrawn.contains who then
        ({ s with awn := { s.awn with withdrawn := eraseFirst (fun w => w == who) s.awn.withdrawn } }).sendAdd g.sem g.count
      else (s.modCore (who / 16) (fun x => { x with claims := mput x.claims (who % 16) .granted })).pump (who / 16)

/-- The withdrawals of a halted core arrive. -/
def claimWithdrawEffect (s : State) (c : Nat) : State :=
  let l := s.awn.withdrawn.filter (fun w => w / 16 == c)
  l.foldl (fun s w => s.withdraw w) { s with awn := { s.awn with withdrawn := s.awn.withdrawn.filter (fun w => w / 16 != c) } }

/-! ### Step starts (R183, R227, R228, R294, R295) -/

/-- Zero a global semaphore and discard its queued claims. -/
def State.zeroSem (s : State) (sem : Nat) : State :=
  let n := (s.awn.claims.filter (fun q => q.sem == sem)).length
  ({ s with awn := { s.awn with value := mput s.awn.value sem 0, claims := s.awn.claims.filter (fun q => q.sem != sem) } }).inc syncPg
    SYNC.DISCARD_CNT n

/-- Every check unit closes the sum of the step that started last, and hub 10 begins its summary (R156). -/
def State.closeSums (s : State) : State :=
  let prev := s.srv.lastStart
  let cs := allCores.filter (fun c => !(s.core c).retired)
  let s := cs.foldl (fun s c => s.modCore c (fun x => { x with
    sumOut := if prev = 0 then x.sumOut else mput x.sumOut prev x.sum, sum := .zero })) s
  if prev = 0 then s else s.modSrv (fun x => { x with sums := x.sums ++ [(⟨prev, .zero, []⟩ : SumRec)] })

/-- A waiting step starts once all its cores have room. -/
def stepStartEffect (s : State) (n : Nat) : State :=
  match s.stepRec n with
  | none => s
  | some x =>
    if x.phase ≠ 0 ∨ !x.cores.all (fun k => s.coreRoom k.1) then s
    else
      let s := (List.range x.gsemN).foldl (fun s i => s.zeroSem (x.gsemBase + i)) s
      let s := (s.inc syncPg SYNC.BCAST_CNT).inc srvPg SRV.STEP_CNT
      let s := (s.closeSums).modSrv (fun y => { y with lastStart := n })
      let s := s.modStep n (fun y => { y with phase := 1, at0 := s.now })
      let s := s.sendUnsent
      if x.rounds = 0 then s else s.sendClaim (claimOf x.model) (x.gsemBase + x.draftSem) x.cores.length

def sclkZeroEffect (s : State) : State := ({ s with sclk0 := s.now }).inc syncPg SYNC.BCAST_CNT

/-! ### The SYNC page (R307) -/

def semSelEffect (s : State) (v : Nat) : State :=
  if v % 2048 < 0x400 then s.refuse syncPg else s.wr syncPg SYNC.SEM_SEL_SEM v

def semViewEffect (s : State) (v : Nat) : State :=
  let sem := s.rd syncPg SYNC.SEM_SEL_SEM
  ({ s with awn := { s.awn with value := mput s.awn.value sem (v % 65536) } }).evalClaims

/-! ### Meanings -/

def execLinkRetrain (d p : Nat) (s : State) : Host.Outcome State Fault Refusal := onWf s (.linkRetrain d p) (linkRetrainEffect s d p)

def execRetrainEnd (d p : Nat) (ok : Bool) (s : State) : Host.Outcome State Fault Refusal := onWf s (.retrainEnd d p ok) (retrainEndEffect s d p ok)

def execLaneRepair (d p : Nat) (s : State) : Host.Outcome State Fault Refusal := onWf s (.laneRepair d p) (laneRepairEffect s d p)

def execRouteWrite (d dst v : Nat) (s : State) : Host.Outcome State Fault Refusal := onWf s (.routeWrite d dst v) (routeWriteEffect s d dst v)

def execAwnAdd (sem n : Nat) (s : State) : Host.Outcome State Fault Refusal := onWf s (.awnAdd sem n) (awnAddEffect s sem n)

def execAwnClaim (who sem n : Nat) (s : State) : Host.Outcome State Fault Refusal := onWf s (.awnClaim who sem n) (awnClaimEffect s who sem n)

def execAwnGrant (who : Nat) (s : State) : Host.Outcome State Fault Refusal := onWf s (.awnGrant who) (awnGrantEffect s who)

def execClaimWithdraw (c : Nat) (s : State) : Host.Outcome State Fault Refusal := onWf s (.claimWithdraw c) (claimWithdrawEffect s c)

def execStepStartBroadcast (n : Nat) (s : State) : Host.Outcome State Fault Refusal := onWf s (.stepStartBroadcast n) (stepStartEffect s n)

def execSclkZero (s : State) : Host.Outcome State Fault Refusal := onWf s .sclkZero (sclkZeroEffect s)

def execSemSel (v : Nat) (s : State) : Host.Outcome State Fault Refusal := onWf s (.semSel v) (semSelEffect s v)

def execSemViewWrite (v : Nat) (s : State) : Host.Outcome State Fault Refusal := onWf s (.semViewWrite v) (semViewEffect s v)

end Sys2Proof.Machine
end

