-- ==== Sys2Proof/Machine/Pages.lean ====
section
/-! DEFINITION. The page ledger family: the operations as their requesters send them, copies and tier moves, the sweep, numbers
returned, a bank's enable and its entry view (R201, R202, R209, R211, R214). -/

namespace Sys2Proof.Machine

/-! ### Requests -/

/-- ALLOC: for the page that the attention unit of core `c` asks for, or for the page engine. -/
def allocEffect (s : State) (c tenant slot page frame : Nat) : State :=
  let use := s.stepUse c
  match s.attnWants c tenant slot with
  | some (a, k, idx, e) =>
    if a.d.opcode = 0x80 ∧ e.testBit 31 then
      match s.alloc (slot % 4) tenant slot use page frame with
      | (s, .ok r) => (s.modAttn c (fun a => a.asked k ⟨k, idx, r.1, r.2.1, r.2.2, true, true⟩)).walk c
      | (s, .error code) =>
        -- the bank has recorded why: the unit fails the entry
        (((s.modAttn c (fun a => a.failEnt k)).attnFail c slot tenant code 0 false)).walk c
    else (s.alloc (slot % 4) tenant slot use page frame).1
  | none => (s.alloc (slot % 4) tenant slot use page frame).1

def pinREffect (s : State) (c page tenant slot : Nat) : State :=
  ((s.attnAsk c page tenant slot).runReq (.pinR c page tenant slot)).walk c

/-- PIN_W: where the request is the attention unit's own, the list entry is the one its walk stands at. -/
def pinWEffect (s : State) (c page tenant slot listAddr q qframe : Nat) : State :=
  let addr := match s.attnWants c tenant slot with
    | some (a, k, idx, e) => if e = page then a.listAddr k idx else listAddr
    | none => listAddr
  ((s.attnAsk c page tenant slot).runReq (.pinW c page tenant slot addr q qframe)).walk c

def shareEffect (s : State) (page tenant slot : Nat) : State := (s.runReq (.share page tenant slot)).settleFailed

def releaseEffect (s : State) (page slot : Nat) : State := (s.runReq (.release page slot)).settleFailed

def trimEffect (s : State) (page n slot : Nat) : State := (s.runReq (.trim page n slot)).settleFailed

/-! ### Tier moves (R211) -/

/-- Moves that a bank runs. -/
def State.bankMoves (s : State) (b : Nat) : Nat := (s.pages.moves.filter (fun m => bankOf m.page == b)).length

/-- A page that may be moved from `tier`: ACTIVE or FROZEN, unpinned, its bank enabled, its entry sound. -/
def State.movable (s : State) (p tier : Nat) : Bool :=
  let e := s.page p
  (s.pageGate p).isNone && (e.state == 1 || e.state == 2) && e.pin == 0 && e.tier == tier && decide (s.bankMoves (bankOf p) < 4)

/-- A parking (state 3) or unparking (state 5) slot has the page in its lists. -/
def State.slotMoves (s : State) (st p : Nat) : Bool := s.liveSlots.any (fun k => (s.seq k).state == st && (s.slotPages k).contains p)

/-- Steps since a page was last used, by the number of the newest step. -/
def State.pageAge (s : State) (p : Nat) : Nat := (s.srv.nextStep - 1 + 65536 - (s.page p).lastUse) % 65536

/-- The page that a bank's sweep moves next: in number order from where it last stopped. -/
def State.sweepNext (s : State) (b : Nat) : Option Nat :=
  let ok := (s.pages.ledger.map (fun e => e.1)).filter (fun p =>
    bankOf p == b && s.movable p 0 && decide (s.rd (kvpPg b) KVP.CTRL_SPILL_AGE ≤ s.pageAge p))
  let pos := mget s.pages.sweep 0 b
  match ok.find? (fun p => decide (pos ≤ p)) with
  | some p => some p
  | none => ok.head?

/-- Start a move: COPYING, the previous state kept in RET. -/
def State.startMove (s : State) (p frame : Nat) : State :=
  let e := s.page p
  ((s.setPage p { e with state := 3, ret := e.state }).pageOp p).modPages (fun x => { x with moves := x.moves ++ [⟨p, frame⟩] })

/-- A spill finds tier 2 without a free frame: recorded once per crossing. -/
def State.t2Full (s : State) (b : Nat) : State :=
  let k := kvpPg b
  if s.rdB k KVP.STAT_T2_FULL then s else (((s.wr k KVP.STAT_T2_FULL 1).emit k 0x7017 0).irq k 1).wr k KVP.STAT_SPILLING 0

def spillEffect (s : State) (p frame : Nat) : State :=
  let b := bankOf p
  let k := kvpPg b
  let sweeps := s.rdB k KVP.STAT_SPILLING && s.sweepNext b == some p
  if !s.movable p 0 ∨ !(s.slotMoves 3 p || sweeps) then s
  else if s.freeFrames 1 = 0 then s.t2Full b
  else
    let s := if sweeps then s.modPages (fun x => { x with sweep := mput x.sweep b (p + 4) }) else s
    (s.wr k KVP.STAT_T2_FULL 0).startMove p (s.pickFrame 1 frame)

def fillEffect (s : State) (p frame : Nat) : State :=
  let read := s.pages.due.contains p
  if !s.movable p 1 ∨ !(s.slotMoves 5 p || read) ∨ s.freeFrames 0 = 0 then s
  else (s.modPages (fun x => { x with due := x.due.filter (fun k => k != p) })).startMove p (s.pickFrame 0 frame)

/-- Sweeping stops when enough frames are free. -/
def State.endSweeps (s : State) : State :=
  (List.range 4).foldl (fun s b =>
    if s.rd (kvpPg b) KVP.WATERMARK_HIGH_WM * 64 ≤ s.freeFrames 0 then s.wr (kvpPg b) KVP.STAT_SPILLING 0 else s) s

def tierMoveEffect (s : State) (p : Nat) : State :=
  match s.pages.moves.find? (fun m => m.page == p) with
  | none => s
  | some m =>
    let e := s.page p
    let dst := 1 - e.tier
    let k := kvpPg (bankOf p)
    let s := s.devCopy (s.frameAddr dst m.frame) (s.frameAddr e.tier e.frame) 1024
    let s := s.setPage p { e with frame := m.frame, tier := dst, state := e.ret, ret := 0 }
    let s := s.modPages (fun x => { x with moves := x.moves.filter (fun y => y.page != p) })
    let s := s.inc k (if dst = 1 then KVP.SPILL_CNT else KVP.FILL_CNT)
    (((s.retryHeld p).settleFailed).settleMoves).endSweeps

def spillSweepEffect (s : State) (b : Nat) : State :=
  let k := kvpPg b
  if s.freeFrames 0 < s.rd k KVP.WATERMARK_LOW_WM * 64 ∧ s.bankOn b ∧ !s.rdB k KVP.STAT_SPILLING then
    let s := s.irq k 0
    if !s.rdB k KVP.CTRL_SPILL_EN then s
    else if s.freeFrames 1 = 0 then s.t2Full b else (s.wr k KVP.STAT_T2_FULL 0).wr k KVP.STAT_SPILLING 1
  else s

/-! ### Copy-on-write (R209) -/

/-- Steps 3 to 7 of the oldest copy of bank `b`. -/
def cowDoneEffect (s : State) (b : Nat) : State :=
  match s.pages.cows.find? (fun x => x.bank == b) with
  | none => s
  | some x =>
    let s := s.modPages (fun y => { y with cows := eraseFirst (fun z => z.bank == b) y.cows })
    let p := s.page x.page
    let q := s.page x.q
    let s := s.devCopy (s.frameAddr q.tier q.frame) (s.frameAddr p.tier p.frame) 1024
    let s := s.devWrite x.listAddr (toLe 4 x.q)
    let s := (s.inc (kvpPg b) KVP.COW_CNT).inc (attnPg x.c) ATTN.PIN_CNT
    let s := s.attnGot x.c x.page x.q q.frame q.tier
    ((((s.runReq (.release x.page x.slot)).unpin x.page).settleFailed).walk x.c)

/-! ### Numbers (R202), enables and views (R214) -/

def numberReleaseEffect (s : State) (p : Nat) : State :=
  match mfind s.pages.waiting p with
  | none => s
  | some l => if l.any (fun n => s.stepsInFlight.contains n) then s else s.modPages (fun x => { x with waiting := mdel x.waiting p })

/-- The pool registers of the four pages are alike. -/
def State.poolsAlike (s : State) : Bool :=
  [KVP.LEDGER_BASE_BASE, KVP.PAGES_N, KVP.T1_POOL_BASE, KVP.T1_FRAMES_N, KVP.T2_POOL_BASE, KVP.T2_FRAMES_N].all (fun f =>
    (List.range 4).all (fun b => s.rd (kvpPg b) f == s.rd (kvpPg 0) f))

/-- The page numbers of bank `b` whose entry in the backing table holds a byte or a mark. -/
def State.tableNumbers (s : State) (b : Nat) : List Nat :=
  let base := s.rdA (kvpPg b) KVP.LEDGER_BASE_BASE
  let n := s.rd (kvpPg b) KVP.PAGES_N
  let addrs := s.dev.bytes.map (fun e => e.1) ++ s.dev.chk.map (fun e => 8 * e.1)
  (((addrs.filter (fun a => decide (base ≤ a) && decide (a < base + 16 * n))).map (fun a => (a - base) / 16)).filter
    (fun p => bankOf p == b)).eraseDups

/-- A bank that comes into service takes its entries from the backing table (log 27). -/
def State.loadLedger (s : State) (b : Nat) : State :=
  let l := s.tableNumbers b
  s.modPages (fun x => { x with
    ledger := l.foldl (fun m p => mput m p (PageEnt.ofWord (s.devNat (s.pageAddr p) 16))) (mdrop x.ledger (fun p => bankOf p == b)) })

/-- A write of KVP.CTRL. -/
def kvpEnableEffect (s : State) (b v : Nat) : State :=
  let k := kvpPg b
  let was := s.rdB k KVP.CTRL_ENABLE
  let s := ((s.wr k KVP.CTRL_SPILL_AGE (field v 16 16)).wrB k KVP.CTRL_FILL_ON_READ (bit v 2)).wrB k KVP.CTRL_SPILL_EN (bit v 1)
  if !bit v 0 then (s.wr k KVP.CTRL_ENABLE 0).wr k KVP.STAT_READY 0
  else if was then s
  else if !s.poolsAlike then s.wr k KVP.STAT_POOL_MISMATCH 1
  else (((s.wr k KVP.CTRL_ENABLE 1).wr k KVP.STAT_READY 1).wr k KVP.STAT_POOL_MISMATCH 0).loadLedger b

def entrySelEffect (s : State) (b v : Nat) : State :=
  let k := kvpPg b
  let p := v % 2 ^ 26
  if bankOf p ≠ b then s.refuse k
  else
    let w := (s.page p).word
    (List.range 4).foldl (fun s i => s.wr k (KVP.ENTRY_VIEW i) (w / 2 ^ (32 * i))) (s.wr k KVP.ENTRY_SEL_PAGE p)

/-! ### Meanings -/

def execAlloc (c tenant slot page frame : Nat) (s : State) : Host.Outcome State Fault Refusal :=
  onWf s (.alloc c tenant slot page frame) (allocEffect s c tenant slot page frame)

def execPinR (c page tenant slot : Nat) (s : State) : Host.Outcome State Fault Refusal :=
  onWf s (.pinR c page tenant slot) (pinREffect s c page tenant slot)

def execPinW (c page tenant slot listAddr q qframe : Nat) (s : State) : Host.Outcome State Fault Refusal :=
  onWf s (.pinW c page tenant slot listAddr q qframe) (pinWEffect s c page tenant slot listAddr q qframe)

def execUnpin (page : Nat) (s : State) : Host.Outcome State Fault Refusal := onWf s (.unpin page) (s.unpin page)

def execShare (page tenant slot : Nat) (s : State) : Host.Outcome State Fault Refusal :=
  onWf s (.share page tenant slot) (shareEffect s page tenant slot)

def execRelease (page slot : Nat) (s : State) : Host.Outcome State Fault Refusal := onWf s (.release page slot) (releaseEffect s page slot)

def execTrim (page n slot : Nat) (s : State) : Host.Outcome State Fault Refusal := onWf s (.trim page n slot) (trimEffect s page n slot)

def execSpill (page frame : Nat) (s : State) : Host.Outcome State Fault Refusal := onWf s (.spill page frame) (spillEffect s page frame)

def execFill (page frame : Nat) (s : State) : Host.Outcome State Fault Refusal := onWf s (.fill page frame) (fillEffect s page frame)

def execCowCopyDone (b : Nat) (s : State) : Host.Outcome State Fault Refusal := onWf s (.cowCopyDone b) (cowDoneEffect s b)

def execTierMoveDone (page : Nat) (s : State) : Host.Outcome State Fault Refusal := onWf s (.tierMoveDone page) (tierMoveEffect s page)

def execSpillSweep (b : Nat) (s : State) : Host.Outcome State Fault Refusal := onWf s (.spillSweep b) (spillSweepEffect s b)

def execPageNumberRelease (page : Nat) (s : State) : Host.Outcome State Fault Refusal :=
  onWf s (.pageNumberRelease page) (numberReleaseEffect s page)

def execKvpEnableWrite (b v : Nat) (s : State) : Host.Outcome State Fault Refusal := onWf s (.kvpEnableWrite b v) (kvpEnableEffect s b v)

def execEntrySel (b v : Nat) (s : State) : Host.Outcome State Fault Refusal := onWf s (.entrySel b v) (entrySelEffect s b v)

end Sys2Proof.Machine
end

