-- ==== Sys2Proof/Machine/HostPort.lean ====
section
/-! DEFINITION. The host and board interfaces: function-level resets, link states, time correlation, IDE failures, CXL ports that
go down, management and debug requests (R312 to R322). -/

namespace Sys2Proof.Machine

/-! ### Function-level resets (R313) -/

/-- Steps 1 to 3 for one function; the number of sequences ended comes with it. -/
def State.closeFn (s : State) (f : Nat) : State × Nat :=
  let l := s.liveSlots.filter (fun k => (s.seq k).fn == f)
  let s := (l.foldl (fun s k => s.closeSeq k 0x05) s).takeHeld (fun h => h.fn == f) (fun s _ => s)
  (s.settleFailed, l.length)

/-- A function is reset: its sequences end without records, its window, what stands behind it and its MSI-X
table and pending bits return to reset, FUNC_RESET
gives the number of sequences. A virtual function that is not mapped has nothing to reset and raises no record (log 46). -/
def State.resetFn (s : State) (f : Nat) : State :=
  let (s, n) := s.closeFn f
  let s := { s with
    regs := mdrop s.regs (fun k => k / 32768 == fnPg f)
    msix := ⟨mdrop s.msix.table (fun k => k / 128 == f), mdel s.msix.pba f⟩ }
  let s := s.modSrv (fun x => { x with fns := mdel x.fns f })
  if f = 0 ∨ s.rdB (pciePg 0) (PCIE.FUNC_MAP_VALID f) then s.emitRep (pciePg 0) 0xA012 0 n else s

def State.resetFns (s : State) : State := (List.range 64).foldl (fun s f => s.resetFn f) s

/-- An FLR of PF0 clears VF Enable and so resets every function. -/
def flrEffect (s : State) (f : Nat) : State :=
  (if f = 0 then s.resetFns else s.resetFn f).inc (pciePg 0) PCIE.FLR_CNT

/-! ### Links (R314, R316) -/

/-- PCIE.STAT shows no link. -/
def State.linkOff (s : State) (i : Nat) : State := (s.wr (pciePg i) PCIE.STAT_RATE 0).wr (pciePg i) PCIE.STAT_WIDTH 0

def hostDownEffect (s : State) : State :=
  if !s.power.hostUp then s
  else (({ s with power := { s.power with hostUp := false } }).linkOff 0).resetFns.emit (pciePg 0) 0xA011 0

def ingestDownEffect (s : State) : State :=
  if !s.power.ingestUp then s
  else (({ s with power := { s.power with ingestUp := false } }).linkOff 1).emit (pciePg 1) 0xA013 0

/-- A link trains, which PERST# allows once PWRGOOD stands; the endpoint's domain is stopped no more, and CFG_READY follows where
stage 4 has ended (R316, R337). -/
def linkUpEffect (s : State) (i width rate : Nat) : State :=
  let w := s.power
  if !w.pwrgood || (if i = 0 then w.perstHost || w.hostUp else w.perstIngest || w.ingestUp) then s
  else
    let p := pciePg i
    let k := clkPg (p / 1024)
    let s := { s with power := if i = 0 then { w with hostUp := true } else { w with ingestUp := true } }
    let s := ((s.wr p PCIE.STAT_WIDTH width).wr p PCIE.STAT_RATE rate).wr k CLK.GATED (putBit (s.rd k CLK.GATED) 8 false)
    if w.ended.contains 4 then s.wr p PCIE.STAT_CFG_READY 1 else s

/-- A Configuration Request completes, or gets Retry Status until CFG_READY. -/
def configEffect (s : State) (i : Nat) : State :=
  if !(if i = 0 then s.power.hostUp else s.power.ingestUp) then s
  else s.send (if s.rdB (pciePg i) PCIE.STAT_CFG_READY then .configOk else .crs)

/-! ### Time correlation (R317) -/

/-- A dialogue completes with PTM Master Time `ns`. RATE is measured against the last pair, rounded to the nearest part per
10⁹ (log 47). -/
def ptmEffect (s : State) (ns : Nat) : State :=
  let p := pciePg 0
  if !s.rdB p PCIE.PTM_CTRL_ENABLE || !s.power.hostUp then s
  else
    let k := s.sclk
    let s := match s.power.ptm with
      | some (h0, k0) =>
        if h0 < ns then
          s.wr p PCIE.PTM_RATE (ofSigned 32 (roundAway ((((k : Int) - k0) * 40 - ((ns : Int) - h0)) * 1000000000) ((ns : Int) - h0)))
        else s
      | none => s
    let s := (((s.wr p PCIE.PTM_HOST ns).wr p PCIE.PTM_SCLK k).wr p PCIE.PTM_CTRL_VALID 1)
    { s with power := { s.power with ptm := some (ns, k) } }

/-- A read of PTM_HOST latches the matching PTM_SCLK. -/
def ptmReadEffect (s : State) : State :=
  let p := pciePg 0
  ({ s with power := { s.power with ptmShadow := some (s.rd p PCIE.PTM_SCLK) } }).send (.readValue (s.rd p PCIE.PTM_HOST))

/-! ### IDE (R318), CXL ports (R320) -/

/-- A stream's integrity fails: it is Insecure until keys are programmed again. -/
def ideFailEffect (s : State) (i stream : Nat) : State :=
  let k := 8 * i + stream
  if s.power.ideBad.contains k then s
  else
    let s := { s with power := { s.power with ideBad := s.power.ideBad ++ [k] } }
    (s.inc (pciePg i) PCIE.IDE_FAIL_CNT).emit (pciePg i) 0xA014 0

def cxlDownEffect (s : State) (h : Nat) : State :=
  let p := cxlPg h
  if !s.rdB p CXL.STAT_UP then s
  else
    let s := ((((s.wr p CXL.STAT_UP 0).wr p CXL.STAT_DOWN_LATCHED 1).wr p CXL.STAT_WIDTH 0).wr p CXL.STAT_RATE 0).wr p CXL.STAT_IDE_ACTIVE 0
    let s := ({ s with power := { s.power with cxlDown := s.power.cxlDown ++ [h] } }).emit p 0xA021 0
    if s.rdB (eccPg 10) ECC.STAT_T2_INTLV then (List.range 4).foldl (fun s b => s.t2Full b) s else s

/-! ### Management and debug (R321, R322, R378, R381, R382) -/

/-- No firmware image could be booted. -/
def State.noImage (s : State) : Bool := s.rdB fltPg FLT.STAT_F_ACTIVE && s.flt.fCode == 0xD012

/-- Every MCTP request is answered: control, PLDM, SPDM and secured messages are supported. -/
def mctpEffect (s : State) (typ : Nat) : State :=
  s.send (.mctp typ (typ == 0 || typ == 1 || (!s.noImage && (typ == 5 || typ == 6))))

/-- An SPDM request: `op` 0 needs no identity key, any other does. `ide` programs the keys of a stream of the port that the
request's path serves, which leaves Insecure. -/
def spdmEffect (s : State) (mgmt : Bool) (op : Nat) (ide : Option Nat) : State :=
  let ok := !s.noImage && (op == 0 || s.sec.idOk)
  let s := s.send (.spdm op ok)
  match ide with
  | none => s
  | some k =>
    let k := (if mgmt then 8 else 0) + k
    if ok then { s with power := { s.power with ideBad := s.power.ideBad.filter (fun x => x != k) } } else s

/-- JTAG instructions: 0 BYPASS, 1 IDCODE, 2 SAMPLE/PRELOAD, 3 EXTEST, 4 CLAMP, 5 HIGHZ, from 6 on private ones. -/
def jtagEffect (s : State) (ir : Nat) : State :=
  let ok := decide (ir < 3) || (decide (ir < 6) && s.power.perstHost) || (decide (6 ≤ ir) && s.rdB cfgPg CFG2P.DEBUG_UNLOCK_EN)
  let s := { s with power := { s.power with jtag := if ok then ir else 0 } }
  if ok then s else s.emit (diePage 16) 0xA041 0

/-! ### Meanings -/

def execConfigRequest (i : Nat) (s : State) : Host.Outcome State Fault Refusal := onWf s (.configRequest i) (configEffect s i)

def execFlr (f : Nat) (s : State) : Host.Outcome State Fault Refusal := onWf s (.flr f) (flrEffect s f)

def execHostLinkDown (s : State) : Host.Outcome State Fault Refusal := onWf s .hostLinkDown (hostDownEffect s)

def execIngestLinkDown (s : State) : Host.Outcome State Fault Refusal := onWf s .ingestLinkDown (ingestDownEffect s)

def execPcieLinkUp (i width rate : Nat) (s : State) : Host.Outcome State Fault Refusal :=
  onWf s (.pcieLinkUp i width rate) (linkUpEffect s i width rate)

def execPtmDialogue (hostNs : Nat) (s : State) : Host.Outcome State Fault Refusal := onWf s (.ptmDialogue hostNs) (ptmEffect s hostNs)

def execPtmHostRead (s : State) : Host.Outcome State Fault Refusal := onWf s .ptmHostRead (ptmReadEffect s)

def execIdeFail (i stream : Nat) (s : State) : Host.Outcome State Fault Refusal := onWf s (.ideFail i stream) (ideFailEffect s i stream)

def execCxlDown (p : Nat) (s : State) : Host.Outcome State Fault Refusal := onWf s (.cxlDown p) (cxlDownEffect s p)

def execMctpRequest (typ : Nat) (s : State) : Host.Outcome State Fault Refusal := onWf s (.mctpRequest typ) (mctpEffect s typ)

def execSpdmRequest (mgmt : Bool) (op : Nat) (ide : Option Nat) (s : State) : Host.Outcome State Fault Refusal :=
  onWf s (.spdmRequest mgmt op ide) (spdmEffect s mgmt op ide)

def execJtagInstruction (ir : Nat) (s : State) : Host.Outcome State Fault Refusal := onWf s (.jtagInstruction ir) (jtagEffect s ir)

end Sys2Proof.Machine
end

