-- ==== Sys2Proof/Machine/Clock.lean ====
section
/-! DEFINITION. Loss of a clock, and per-core resets (R327, R335, R336). -/

namespace Sys2Proof.Machine

/-! ### Clocks (R327) -/

/-- A PLL loses lock: the die's clocks stop. A compute die is lost and every one of its cores is rebuilt elsewhere (R363). -/
def pllEffect (s : State) (d : Nat) : State :=
  if (s.die d).lost then s
  else
    let s := ((s.wr (clkPg d) CLK.STAT_PLL_LOCK 0).modDie d (fun x => { x with lost := true })).emit (clkPg d) 0xB011 0
    if isCompute d then (List.range 4).foldl (fun s k => s.triggerMig (4 * d + k) 2 true) s else s

/-- REFCLK is absent: recorded by the management die. -/
def refclkEffect (s : State) : State :=
  if s.power.refclkLost then s
  else (({ s with power := { s.power with refclkLost := true } }).wr (clkPg 16) CLK.STAT_REFCLK_OK 0).emit (clkPg 16) 0xB012 0

/-! ### Per-core resets (R335, R336) -/

def inResetF (c : Nat) : Fld := if c % 2 = 0 then CLUS.STAT_IN_RESET_A else CLUS.STAT_IN_RESET_B

/-- RST.STAT and CLUS.STAT show whether the core is in reset. -/
def State.showReset (s : State) (c : Nat) (b : Bool) : State :=
  let p := rstPg (c / 4)
  (s.wr p RST.STAT_IN_RESET (putBit (s.rd p RST.STAT_IN_RESET) (c % 4) b)).wrB (clusPg (c / 4) (c % 4 / 2)) (inResetF c) b

/-- The core goes into reset and stays there until it is released. -/
def State.holdReset (s : State) (c : Nat) (preserve : Bool) : State :=
  ((s.resetCore c preserve).modCore c (fun x => { x with resetAt := some s.now, preserve := preserve, resetWaits := false })).showReset c true

/-- ASSERT is written 1: PRESERVE is sampled as ASSERT becomes 1. A migration of the core is carried out first (R336). -/
def coreRstAssertEffect (s : State) (c : Nat) (preserve : Bool) : State :=
  let p := rstPg (c / 4)
  let was := s.rdB p (RST.CORE_RST_ASSERT (c % 4))
  let s := (s.wrB p (RST.CORE_RST_PRESERVE (c % 4)) preserve).wr p (RST.CORE_RST_ASSERT (c % 4)) 1
  if was then s
  else if s.flt.migs.any (fun m => m.source == c) then s.modCore c (fun x => { x with resetWaits := true, preserve := preserve })
  else s.holdReset c preserve

/-- Retention of R27 by band, in ms. -/
def retentionMs (band : Nat) : Nat := [267, 133, 66, 33, 25].getD band 25

/-- At release every RESIDENT bank of an engine held longer than its band's retention becomes EMPTY; whether any was. -/
def State.loseBanks (s : State) (c held : Nat) : State × Bool :=
  let late := (List.range 4).filter (fun e => decide (retentionMs (s.rd (engPg c e) ENG.REFRESH_STAT_BAND) * ticksMs < held))
  let lost := late.flatMap (fun e => (List.range 34).filterMap (fun k =>
    if s.bankState c e (k / 2) (k % 2) = 2 then some (e, k) else none))
  (lost.foldl (fun s x => s.emptyBank c x.1 (x.2 / 2) (x.2 % 2)) s, !lost.isEmpty)

/-- Refresh resumes, returns that the reset interrupted begin again with the previous trims, and a spare's fill is redone (R73,
R135, R150). -/
def State.resumeCore (s : State) (c : Nat) : State :=
  (List.range 4).foldl (fun s e =>
    let s := (List.range 34).foldl (fun s k => if s.bankState c e (k / 2) (k % 2) = 2 then s.resumeSweep c e (k / 2) (k % 2) else s) s
    let x := s.eng c e
    let s := if x.rot.phase = .ret then s.beginReturn c e x.rot.tile true else s
    match x.fillFor with
    | some t => s.fillSpare c e t
    | none => s) s

/-- ASSERT is written 0: the core is released. -/
def coreRstReleaseEffect (s : State) (c : Nat) : State :=
  let p := rstPg (c / 4)
  let s := s.wr p (RST.CORE_RST_ASSERT (c % 4)) 0
  match (s.core c).resetAt with
  | none => s
  | some at0 =>
    let (s, lost) := s.loseBanks c (s.now - at0)
    let s := if lost then (s.emit p 0xB031 0).irq p 0 else s
    ((s.modCore c (fun x => { x with resetAt := none })).showReset c false).resumeCore c

/-! ### Meanings -/

def execPllUnlock (d : Nat) (s : State) : Host.Outcome State Fault Refusal := onWf s (.pllUnlock d) (pllEffect s d)

def execRefclkLoss (s : State) : Host.Outcome State Fault Refusal := onWf s .refclkLoss (refclkEffect s)

def execCoreRstAssert (c : Nat) (preserve : Bool) (s : State) : Host.Outcome State Fault Refusal :=
  onWf s (.coreRstAssert c preserve) (coreRstAssertEffect s c preserve)

def execCoreRstRelease (c : Nat) (s : State) : Host.Outcome State Fault Refusal :=
  onWf s (.coreRstRelease c) (coreRstReleaseEffect s c)

end Sys2Proof.Machine
end

