-- ==== Sys2Proof/Machine/Faults.lean ====
section
/-! DEFINITION. The fault path: die collectors, class lines, the package collector and its log, fatal faults, recovery in
compatibility mode (R354 to R361, R375, R376). -/

namespace Sys2Proof.Machine

/-! ### Records (R356) -/

/-- The 32 bytes of a record. -/
def FaultRec.bytes (r : FaultRec) : List Byte :=
  let flags := r.cls % 4 + 4 * toBit r.contained + 8 * toBit r.coalesced + 16 * toBit r.ext + 32 * toBit r.polled
  toLe 8 r.time ++ toLe 1 r.die ++ toLe 1 r.block ++ toLe 1 r.inst ++ toLe 1 flags ++ toLe 2 r.code ++ toLe 2 r.slot
    ++ toLe 1 (r.tenant.getD 0) ++ toLe 1 (r.unit % 4 + 4 * toBit r.tenant.isSome) ++ toLe 2 r.rep ++ toLe 8 r.address ++ toLe 4 r.seqno

/-- A record's source is the page. -/
def recFrom (p : Nat) (r : FaultRec) : Bool :=
  r.die == pageDie p && r.block == (blockOf p).code && r.inst == (pageOf p).2 && r.unit == pageUnit p

def sameSource (a b : FaultRec) : Bool :=
  a.die == b.die && a.block == b.block && a.inst == b.inst && a.unit == b.unit && a.code == b.code && a.slot == b.slot && a.address == b.address

/-! ### Die collectors (R355, R357) -/

/-- Entries of a die's buffer in use: C records that wait and records on their way to the package collector. -/
def State.bufUsed (s : State) (d : Nat) : Nat := (s.die d).buffer.length + (s.flt.wire.filter (fun r => r.die == d)).length

/-- A record leaves for the package collector. -/
def State.forward (s : State) (d : Nat) (r : FaultRec) : State :=
  ({ s with flt := { s.flt with wire := s.flt.wire ++ [r] } }).inc (fltdPg d) FLTD.FWD_CNT

/-- The oldest C record that a die buffers is forwarded. -/
def State.forwardOldest (s : State) (d : Nat) : State :=
  match (s.die d).buffer with
  | [] => s
  | x :: l => (s.modDie d (fun y => { y with buffer := l })).forward d x.1

/-- Room for C records has returned: those dropped are reported. -/
def State.reportDrops (s : State) (d : Nat) : State :=
  let n := (s.die d).dropped
  if 0 < n ∧ s.bufUsed d < 56 then (s.emitRep (fltdPg d) 0xE013 0 n).modDie d (fun x => { x with dropped := 0 }) else s

/-- Two C records merged. -/
def mergeRec (a b : FaultRec) : FaultRec := { a with rep := min (a.rep + b.rep) 0xFFFF, coalesced := true }

/-- A collector takes a record from its source; none where it stays there. -/
def State.collect (s : State) (d : Nat) (r : FaultRec) : Option State :=
  let used := s.bufUsed d
  if r.cls ≠ 0 then
    if used < 64 then some (s.forward d r) else none
  else if (s.die d).buffer.any (fun x => sameSource x.1 r) then
    some (s.modDie d (fun x => { x with buffer := mapIf (fun y => sameSource y.1 r) (fun y => (mergeRec y.1 r, y.2)) x.buffer }))
  else if used < 56 then some (s.modDie d (fun x => { x with buffer := x.buffer ++ [(r, s.now)] }))
  else some ((s.inc (fltdPg d) FLTD.OVF_CNT).modDie d (fun x => { x with dropped := x.dropped + 1 }))

/-- The first record at a die's sources that satisfies `p` is collected; a U or F record that finds no entry stays, and the
oldest C record makes room. -/
def State.collectFirst (s : State) (d : Nat) (p : FaultRec → Bool) : State :=
  match (s.die d).sources.find? p with
  | none => s
  | some r =>
    match (s.modDie d (fun x => { x with sources := eraseFirst p x.sources })).collect d r with
    | some t => t
    | none => s.forwardOldest d

/-- A class line has failed: LINE_FAULT names the source, whose records are polled from then on. On die 16 a die collector's
page names the lines between that collector and the package collector. -/
def State.lineFault (s : State) (d page : Nat) : State :=
  let pkg := blockOf page == .fltd && d == 16
  if (pageDie page ≠ d ∧ !pkg) ∨ blockOf page = .none ∨ (s.die d).polledSrc.contains page then s
  else
    let slot := if page < srvPg then page % 1024 else page
    let s := (s.inc (fltdPg d) FLTD.LINE_CNT).emit (if pkg then fltPg else fltdPg d) 0xE011 (if pkg then page / 1024 else slot)
    s.modDie d (fun x => { x with
      polledSrc := x.polledSrc ++ [page], sources := mapIf (recFrom page) (fun r => { r with polled := true }) x.sources })

/-- The wait is counted only while the buffer has a free entry (R355). -/
def recordWaitEffect (s : State) (d page : Nat) : State := if s.bufUsed d < 64 then s.lineFault d page else s

/-! ### The package collector (R357, R358, R360) -/

def logSize : Nat := 4096

/-- The record is written at index `i` of the log. -/
def State.putLog (s : State) (i : Nat) (r : FaultRec) : State :=
  ({ s with flt := { s.flt with log := mput s.flt.log i r } }).devWrite (s.rdA fltPg FLT.LOG_BASE_BASE + 32 * i) r.bytes

/-- The indices of the log from LOG_HEAD to LOG_TAIL, oldest first. -/
def State.logIdx (s : State) : List Nat :=
  let h := s.rd fltPg FLT.LOG_HEAD_HEAD
  (List.range ((s.rd fltPg FLT.LOG_TAIL_TAIL + logSize - h) % logSize)).map (fun i => (h + i) % logSize)

/-- A record that finds no room in the log. -/
def State.countDrop (s : State) : State :=
  (({ s with flt := { s.flt with dropped := s.flt.dropped + 1 } }).inc fltPg FLT.DROP_CNT).irq fltPg 4

/-- The record's class is counted and its interrupt raised. -/
def State.logged (s : State) (cls : Nat) : State :=
  let s := (s.inc fltPg (if cls = 0 then FLT.C_CNT else if cls = 1 then FLT.U_CNT else FLT.F_CNT)).irq fltPg cls
  if cls ≠ 0 ∧ (s.rd fltPg HDR.IRQ_EN).testBit cls then s.sendMsix 0 0 else s

/-- A record enters the log: at LOG_TAIL; with the log full a C record is dropped, another overwrites the newest C record or is
kept in event NVM only. -/
def State.enterLog (s : State) (r : FaultRec) : State :=
  let t := s.rd fltPg FLT.LOG_TAIL_TAIL
  if (t + 1) % logSize ≠ s.rd fltPg FLT.LOG_HEAD_HEAD then
    ((s.putLog t r).wr fltPg FLT.LOG_TAIL_TAIL ((t + 1) % logSize)).logged r.cls
  else if r.cls = 0 then s.countDrop
  else match s.logIdx.reverse.find? (fun i => (mfind s.flt.log i).any (fun x => x.cls == 0)) with
    | some i => ((s.putLog i r).countDrop).logged r.cls
    | none => s.countDrop.logged r.cls

/-- U and F records are written into the fault area of event NVM. -/
def State.nvmFault (s : State) (r : FaultRec) : State :=
  let n := s.nvm
  { s with nvm := { n with faults := mput n.faults (n.faultN % 1024) r, faultN := n.faultN + 1 } }

/-- Every core that runs halts with CAUSE ABORT. -/
def State.haltAll (s : State) : State :=
  allCores.foldl (fun s c => if s.coreStopped c then s else s.haltCore c 3 0 (s.rd (corePg c) CORE.STREAM_PC)) s

/-- Start-up stops on an F fault (R396). -/
def State.bootFails (s : State) (code : Nat) : State :=
  let p := diePage 16
  if !s.power.started || s.rdB p DIE.BOOT_STAT_DONE || s.rdB p DIE.BOOT_STAT_FAILED then s
  else
    let s := (s.wr p DIE.BOOT_STAT_FAILED 1).wr p DIE.BOOT_STAT_FAIL_CODE code
    { s with power := { s.power with running := [] } }

/-- An F record takes force: cores halt, both endpoints send ERR_FATAL, the management port signals. -/
def State.fatal (s : State) (code : Nat) : State :=
  let f := s.flt
  let s := { s with flt := { f with lastF := s.now, fCode := if f.fCode = 0xC013 then 0xC013 else code } }
  let s := ((s.wr fltPg FLT.STAT_F_ACTIVE 1).haltAll).bootFails code
  ((s.send .errFatal).send .errFatal).send .ibi

/-- The next record that reaches the package collector is numbered, kept and logged. -/
def faultLogEffect (s : State) : State :=
  match s.flt.wire with
  | [] => s
  | r :: l =>
    let r : FaultRec := { r with seqno := s.flt.seqno, polled := r.polled || (s.die 16).polledSrc.contains (fltdPg r.die) }
    let s := { s with flt := { s.flt with wire := l, seqno := (s.flt.seqno + 1) % 2 ^ 32 } }
    let s := (s.enterLog r).reportDrops r.die
    let s := if r.cls = 0 then s else s.nvmFault r
    let s := if r.cls = 1 then s.wr fltPg FLT.STAT_U_OPEN (min (s.rd fltPg FLT.STAT_U_OPEN + 1) 0xFFFF) else s
    if r.cls = 2 then s.fatal r.code else if s.frozen then s else s.targetFails r

/-- A U record that has not been marked CONTAINED. -/
def openRec (n : Nat) (r : FaultRec) : Bool := r.cls == 1 && !r.contained && r.seqno == n

def containmentEffect (s : State) (n : Nat) : State :=
  let closed := fun (s : State) => (s.wr fltPg FLT.STAT_U_OPEN (s.rd fltPg FLT.STAT_U_OPEN - 1)).irq fltPg 3
  match s.flt.log.find? (fun e => openRec n e.2) with
  | some e => closed (s.putLog e.1 { e.2 with contained := true })
  | none => match s.nvm.faults.find? (fun e => openRec n e.2 && !s.flt.log.any (fun x => x.2.seqno == n)) with
    | some e => closed { s with nvm := { s.nvm with faults := mput s.nvm.faults e.1 { e.2 with contained := true } } }
    | none => s

/-- Room has returned in the log: the records dropped are reported. -/
def State.reportLogFull (s : State) : State :=
  if s.flt.dropped = 0 then s
  else ({ s with flt := { s.flt with dropped := 0 } }).emitRep fltPg 0xE012 0 s.flt.dropped

/-- LOG_HEAD moves as far as the first U record that is not contained (R358). -/
def logHeadEffect (s : State) (v : Nat) : State :=
  let v := v % logSize
  let h := s.rd fltPg FLT.LOG_HEAD_HEAD
  let n := (v + logSize - h) % logSize
  if s.logIdx.length < n then s.refuse fltPg
  else match (s.logIdx.take n).find? (fun i => (mfind s.flt.log i).any (fun r => r.cls == 1 && !r.contained)) with
    | some i =>
      let s := (s.wr fltPg FLT.LOG_HEAD_HEAD i).refuse fltPg
      if i = h then s else s.reportLogFull
    | none => if n = 0 then s else (s.wr fltPg FLT.LOG_HEAD_HEAD v).reportLogFull

def logSelEffect (s : State) (v : Nat) : State :=
  let i := v % logSize
  let l := match mfind s.flt.log i with
    | some r => r.bytes
    | none => List.replicate 32 0
  (List.range 8).foldl (fun s k => s.wr fltPg (FLT.LOG_VIEW k) (leAt l (4 * k) 4)) (s.wr fltPg FLT.LOG_SEL_SEL i)

/-! ### Recovery in compatibility mode (R361) -/

/-- Recoveries within the last 24 hours of powered time. -/
def State.recov24h (s : State) : Nat := (s.nvm.recoveries.filter (fun t => decide (s.poweredS < t + 86400))).length

/-- The quiet period has passed without another F record, with REFCLK present: the recovery is counted, and the management die's
reset request, WARM_RESET with cause 2, follows. -/
def compatEffect (s : State) : State :=
  if !s.rdB fltPg FLT.STAT_F_ACTIVE || !s.rdB fltPg FLT.CTRL_COMPAT || s.rdB fltPg FLT.STAT_LATCHED || s.flt.fCode == 0xC013
      || s.flt.fCode == 0 || s.power.halted then s
  else
    let n := s.nvm
    let l := n.recoveries ++ [s.poweredS]
    let s := { s with nvm := { n with recoveryN := n.recoveryN + 1, recoveries := l.drop (l.length - 8) } }
    let s := { s with flt := { s.flt with fCode := 0 }, power := { s.power with refclkLost := false } }
    (s.wr (clkPg 16) CLK.STAT_REFCLK_OK 1).emit fltPg 0xE021 s.nvm.recoveryN

/-! ### Meanings -/

def execFaultRecord (d : Nat) (s : State) : Host.Outcome State Fault Refusal :=
  onWf s (.faultRecord d) (s.collectFirst d (fun r => !r.polled))

def execRecordPoll (d page : Nat) (s : State) : Host.Outcome State Fault Refusal :=
  onWf s (.recordPoll d page) (s.collectFirst d (fun r => r.polled && recFrom page r))

def execClassLineStuck (d page : Nat) (s : State) : Host.Outcome State Fault Refusal :=
  onWf s (.classLineStuck d page) (s.lineFault d page)

def execRecordWaitTimeout (d page : Nat) (s : State) : Host.Outcome State Fault Refusal :=
  onWf s (.recordWaitTimeout d page) (recordWaitEffect s d page)

def execCoalesceExpiry (d : Nat) (s : State) : Host.Outcome State Fault Refusal := onWf s (.coalesceExpiry d) (s.forwardOldest d)

def execFaultLog (s : State) : Host.Outcome State Fault Refusal := onWf s .faultLog (faultLogEffect s)

def execContainmentComplete (n : Nat) (s : State) : Host.Outcome State Fault Refusal :=
  onWf s (.containmentComplete n) (containmentEffect s n)

def execLogHeadWrite (v : Nat) (s : State) : Host.Outcome State Fault Refusal := onWf s (.logHeadWrite v) (logHeadEffect s v)

def execLogSel (v : Nat) (s : State) : Host.Outcome State Fault Refusal := onWf s (.logSel v) (logSelEffect s v)

def execCompatQuietEnd (s : State) : Host.Outcome State Fault Refusal := onWf s .compatQuietEnd (compatEffect s)

end Sys2Proof.Machine
end

