-- ==== Sys2Proof/Machine/Assembly.lean ====
section
/-! DEFINITION. Step assembly: expiry, buckets, deficit round robin, shapes, job entries, tokens, draft rounds (R224 to R228,
R233). -/

namespace Sys2Proof.Machine

/-! ### Expiry and buckets (R224, R226) -/

/-- A deadline that is not later than the hub 10 SCLK count. -/
def State.expired (s : State) (deadline : Nat) : Bool := deadline != 0 && decide (deadline ≤ s.sclk)

/-- Sequences of a model whose deadline has passed end with EXPIRED. -/
def State.expire (s : State) (m : Nat) : State :=
  ((s.liveOf m).filter (fun k => s.expired (s.seq k).deadline)).foldl
    (fun s k => (s.inc srvPg SRV.EXPIRED_CNT).endSeq k 0x03 0) s

def State.depth (s : State) (t : Nat) : Nat := max 9 (s.rd (tenPg t) TEN.DEPTH)

/-- A tenant's bucket fills for the time since it last did, the remainder carried. -/
def State.refill (s : State) (t : Nat) : State :=
  let rate := s.rd (tenPg t) TEN.RATE
  let x := s.ten t
  let now := s.sclk
  if rate = 0 then s.modTen t (fun x => { x with lastSclk := now })
  else
    let a := rate * (now - x.lastSclk) + x.rem
    let b := min (s.rd (tenPg t) TEN.BUCKET + a / 25000000) (s.depth t)
    (s.wr (tenPg t) TEN.BUCKET b).modTen t (fun x => { x with lastSclk := now, rem := a % 25000000 })

/-! ### Draft length (R225, R233) -/

/-- A probe is due: k is 0 and 31 steps have run since the last. -/
def Seq.probeDue (q : Seq) : Bool := q.k == 0 && q.kMax != 0 && decide (31 ≤ q.sinceProbe)

/-- The model may speculate: enabled, its draft READY, its shapes with draft rounds. -/
def State.mayDraft (s : State) (m : Nat) : Bool :=
  let d := s.rd (mdlPg m) MDL.DRAFT
  s.rdB srvPg SRV.CTRL_SPEC_EN && decide (d < 64) && s.mdlState d == 2 && s.draftShapes m

/-- k_eff: the current k, cut so that no position passes R - 1 and the step and the bucket can hold the cost. -/
def State.kEff (s : State) (q : Seq) (cap : Nat) (spec : Bool) : Nat :=
  let k := if q.probeDue then 1 else q.k
  let k := min k (min (q.r - 2 - q.pos) (cap - 1))
  let k := if s.rd (tenPg q.tenant) TEN.RATE = 0 then k else min k (s.depth q.tenant - 1)
  if spec ∧ q.kMax ≠ 0 then k else 0

/-! ### Deficit round robin (R225) -/

/-- The work of one assembly: positions left, sequences taken, ring room taken by function, slots left out for room, the tenant
served last. -/
structure Drr where
  cap : Nat
  taken : List StepSeq
  used : FMap Nat
  waited : List Nat
  last : Nat
deriving DecidableEq, Repr

def newStepSeq (slot n k : Nat) (prefill : Bool) : StepSeq :=
  { slot := slot, n := n, k := k, prefill := prefill, drafts := [], qdist := [], toks := [], accepted := 0, failed := false, sampled := false }

/-- Serve one tenant: its sequences oldest admission first, until one does not fit; what is left of them. -/
def drrTenant (m cap0 : Nat) (prefill spec : Bool) (t : Nat) : List Nat → State → Drr → State × Drr × List Nat
  | [], s, w => (s, w, [])
  | k :: l, s, w =>
    let q := s.seq k
    let rate := s.rd (tenPg t) TEN.RATE
    let bucket := s.rd (tenPg t) TEN.BUCKET
    let keff := if prefill then 0 else s.kEff q cap0 spec
    let cost0 := if prefill then min (min q.promptLeft (max 1 (s.rd (mdlPg m) MDL.CHUNK_MAX))) w.cap else 1 + keff
    let cost := if prefill ∧ rate ≠ 0 then min cost0 bucket else cost0
    let most := min (s.ten t).deficit w.cap
    if cost < 1 ∨ most < cost ∨ (rate ≠ 0 ∧ bucket < cost) then (s, w, k :: l)
    else if s.room q.fn < mget w.used 0 q.fn + 2 + keff then
      (s, { w with waited := if w.waited.contains k then w.waited else w.waited ++ [k] }, k :: l)
    else
      let s := s.modTen t (fun x => { x with deficit := x.deficit - cost })
      let s := if rate = 0 then s else s.wr (tenPg t) TEN.BUCKET (bucket - cost)
      drrTenant m cap0 prefill spec t l s { w with
        cap := w.cap - cost, taken := w.taken ++ [newStepSeq k cost keff prefill],
        used := mput w.used q.fn (mget w.used 0 q.fn + 2 + keff), last := t }

/-- One round over the tenants: each with the sequences it has left. -/
def drrRound (m cap0 : Nat) (prefill spec : Bool) : List (Nat × List Nat) → State → Drr → State × Drr × List (Nat × List Nat)
  | [], s, w => (s, w, [])
  | (t, l) :: r, s, w =>
    let weight := max 1 (s.rd (tenPg t) TEN.WEIGHT)
    let s := s.modTen t (fun x => { x with deficit := x.deficit + 16 * weight })
    let (s, w, l) := drrTenant m cap0 prefill spec t l s w
    let s := if l.isEmpty then s.modTen t (fun x => { x with deficit := 0 }) else s
    let (s, w, r) := drrRound m cap0 prefill spec r s w
    (s, w, (t, l) :: r)

/-- Rounds until one takes nothing. -/
def drrRounds (m cap0 : Nat) (prefill spec : Bool) : Nat → List (Nat × List Nat) → State → Drr → State × Drr
  | 0, _, s, w => (s, w)
  | n + 1, l, s, w =>
    let (s, w', l) := drrRound m cap0 prefill spec l s w
    if w'.taken.length = w.taken.length then (s, w') else drrRounds m cap0 prefill spec n (l.filter (fun x => !x.2.isEmpty)) s w'

/-- The tenants with a sequence in a state, starting after the tenant served last, each with its sequences. -/
def State.drrList (s : State) (m st : Nat) : List (Nat × List Nat) :=
  let ks := (s.liveOf m).filter (fun k => (s.seq k).state == st)
  let ts := (List.range 256).map (fun i => ((s.mdl m).lastTenant + 1 + i) % 256)
  (ts.map (fun t => (t, sortBy (fun a b => decide ((s.seq a).order ≤ (s.seq b).order)) (ks.filter (fun k => (s.seq k).tenant == t))))).filter
    (fun x => !x.2.isEmpty)

def State.drr (s : State) (m cap0 st : Nat) (spec : Bool) (w : Drr) : State × Drr :=
  drrRounds m cap0 (st == 1) spec (s.srv.seqs.length + 1) (s.drrList m st) s w

/-! ### Entries and tokens (R228) -/

/-- The main entry list: sequences in slot order, positions ascending. -/
def State.mainEntries (s : State) (l : List StepSeq) : List (List Byte) :=
  l.flatMap (fun x => let q := s.seq x.slot; entriesOf x.slot q.tenant q.listMain x.n q.pos x.n)

/-- The main input tokens known at assembly: prompt tokens, and each pending token with zeros for the drafts to come. -/
def State.mainTokens (s : State) (l : List StepSeq) : List (List Byte) :=
  l.flatMap (fun x =>
    let q := s.seq x.slot
    (List.range x.n).map (fun i => if x.prefill then s.hostRead (q.prompt + 4 * (q.pos + i)) 4 else toLe 4 (if i = 0 then q.token else 0)))

/-- The row at which a sequence's main positions begin. -/
def rowOf (l : List StepSeq) (slot : Nat) : Nat := sumN ((l.takeWhile (fun x => x.slot != slot)).map (fun x => x.n))

def positionsOf (l : List StepSeq) : Nat := sumN (l.map (fun x => x.n))

/-- The sequences of draft round `r`, in slot order. -/
def State.roundSeqs (s : State) (x : StepS) (r : Nat) : List StepSeq := x.seqs.filter (fun q => decide (r ≤ q.k) && !q.failed && (s.seq q.slot).live)

/-- Write what the streams need for draft round `r`: entries of COUNT 1 and the round's input tokens. -/
def State.writeRound (s : State) (x : StepS) (r : Nat) : State :=
  let l := s.roundSeqs x r
  let ents := l.map (fun y => let q := s.seq y.slot; jobEntryBytes y.slot q.tenant 1 (q.pos + r - 1) q.listDraft)
  let toks := l.flatMap (fun y => toLe 4 (if r = 1 then (s.seq y.slot).token else y.drafts.getD (r - 2) 0))
  (s.writeJobs (s.readShape x.shape) true ents).devWrite (x.tokens + 4 * positionsOf x.seqs) toks

/-! ### Assembly (R225, R227) -/

/-- The model may be assembled: enabled, READY, its table sound, no step of it in flight. -/
def State.mayAssemble (s : State) (m : Nat) : Bool :=
  s.rdB srvPg SRV.CTRL_ENABLE && !s.srv.stopped && !s.power.halted && s.mdlState m == 2 && !(s.mdl m).stopped
    && !s.srv.steps.any (fun x => x.model == m)

/-- Start the step that `w` took: the first shape that holds it, job entries, tokens, start records held for their cores. -/
def State.startStep (s : State) (m : Nat) (shapes : List Shape) (w : Drr) : State :=
  let seqs := sortBy (fun a b => decide (a.slot ≤ b.slot)) w.taken
  match shapes.find? (fun x => decide (positionsOf seqs ≤ x.cap)) with
  | none => s
  | some x =>
    let cores := s.shapeCores x
    if cores.any (fun c => !s.rdB fltPg (FLT.CORE_REDIR_VALID c.logical)) then s
    else
      let n := s.srv.nextStep
      let rec0 := fun (c : ShapeCore) =>
        ({ stream := c.stream % 2 ^ 48, step := n, gsemBase := x.gbase, gsemN := x.gn, model := m, tenant := x.tenant, reload := false } : StartRec)
      let rounds := maxN (seqs.map (fun q => q.k))
      let st : StepS :=
        { step := n, model := m, shape := x.addr, cores := cores.map (fun c => (s.physOfCore c.logical, false)), gsemBase := x.gbase,
          gsemN := x.gn, draftSem := x.dsem, tokens := x.tokens, logits := x.logits, dlogits := x.dlogits, seqs := seqs,
          rounds := rounds, round := min 1 rounds, unsent := cores.map (fun c => (s.physOfCore c.logical, rec0 c)), phase := 0, at0 := 0 }
      let s := s.modSrv (fun y => { y with nextStep := n + 1, steps := y.steps ++ [st] })
      let s := seqs.foldl (fun s q => s.modSeq q.slot (fun y => { y with gen := s.rd (mdlPg m) MDL.GEN })) s
      let s := s.writeJobs x false (s.mainEntries seqs)
      let s := s.devWrite x.tokens ((s.mainTokens seqs).flatMap id)
      if rounds = 0 then s.writeJobs x true [] else s.writeRound st 1

def stepAssemblyEffect (s : State) (m : Nat) : State :=
  if !s.mayAssemble m then s
  else
    let s := s.expire m
    let shapes := s.shapesOf m
    match shapes.getLast? with
    | none => s
    | some top =>
      if s.devBad (s.rd (mdlPg m) MDL.SHAPES) 64 ∨ shapes.any (fun x => s.shapeBad x) then
        ((s.emit srvPg 0x8021 0).irq srvPg 0).modMdl m (fun x => { x with stopped := true })
      else
        let cap := min (max 1 (s.rd (mdlPg m) MDL.STEP_TOKENS)) top.cap
        let ts := ((s.liveOf m).map (fun k => (s.seq k).tenant)).eraseDups
        let s := ts.foldl (fun s t => s.refill t) s
        let w : Drr := { cap := cap, taken := [], used := [], waited := [], last := (s.mdl m).lastTenant }
        let (s, w) := s.drr m cap 2 (s.mayDraft m) w
        let (s, w) := (s.modMdl m (fun x => { x with lastTenant := w.last })).drr m cap 1 false w
        let s := (s.inc srvPg SRV.RING_WAIT_CNT w.waited.length).modMdl m (fun x => { x with lastTenant := w.last })
        if w.taken.isEmpty then s else s.startStep m shapes w

end Sys2Proof.Machine
end

