-- ==== Sys2Proof/Machine/Serving.lean ====
section
/-! DEFINITION. The serving family and the rings: requests, steps from assembly to close, reports of the cores, model swaps as the
controller sees them, the window registers, step summaries (R156, R186, R187, R208, R215 to R243). -/

namespace Sys2Proof.Machine

/-! ### Draft rounds (R228) -/

/-- Signal a semaphore of the step's block. -/
def State.stepSignal (s : State) (x : StepS) (i n : Nat) : State := s.sendAdd (x.gsemBase + i) n

/-- The controller claims NCORE from the step's draft semaphore. -/
def State.draftClaim (s : State) (x : StepS) : State := s.sendClaim (claimOf x.model) (x.gsemBase + x.draftSem) x.cores.length

/-- Sample the draft token of the `i`-th sequence of the round. -/
def State.sampleDraft (s : State) (x : StepS) (i : Nat) (y : StepSeq) : State :=
  let q := s.seq y.slot
  match s.logitRow (s.rd (mdlPg x.model) MDL.DRAFT) x.dlogits i with
  | none => (s.modStep x.step (fun z => { z with seqs := mapIf (fun w => w.slot == y.slot) (fun w => { w with failed := true }) z.seqs })).poisonSeq y.slot 1
  | some row =>
    let sp := q.sampP
    let t := sp.token row (q.pos + x.round)
    let add := fun (w : StepSeq) => { w with drafts := w.drafts ++ [t], qdist := w.qdist ++ [sp.dist row] }
    s.modStep x.step (fun z => { z with seqs := mapIf (fun w => w.slot == y.slot) add z.seqs })

/-- After the last round the draft tokens enter the main section. -/
def State.writeDrafts (s : State) (x : StepS) : State :=
  x.seqs.foldl (fun s y => if y.drafts.isEmpty then s
    else s.devWrite (x.tokens + 4 * (rowOf x.seqs y.slot + 1)) (y.drafts.flatMap (toLe 4))) s

def draftRoundEffect (s : State) (n : Nat) : State :=
  match s.stepRec n with
  | none => s
  | some x =>
    if x.phase ≠ 1 ∨ !s.awn.grants.any (fun g => g.who == claimOf x.model) then s
    else
      let s := { s with awn := { s.awn with grants := s.awn.grants.filter (fun g => g.who != claimOf x.model) } }
      let s := (s.roundSeqs x x.round).zipIdx.foldl (fun s y => s.sampleDraft x y.2 y.1) s
      match s.stepRec n with
      | none => s
      | some y =>
        if y.round < y.rounds then
          let y := { y with round := y.round + 1 }
          ((((s.modStep n (fun _ => y)).writeRound y y.round).stepSignal y (y.draftSem + 1) y.cores.length)).draftClaim y
        else (s.writeDrafts y).stepSignal y (y.draftSem + 1) y.cores.length

/-! ### Ends of streams and failures (R186, R187, R208, R234) -/

/-- The job or the migration that waits for a reload stream on core `c`: the change `f` of its list of streams, first match. -/
def State.reloadReport (s : State) (c : Nat) (f : List (Nat × Nat × Bool) → List (Nat × Nat × Bool)) (job : IngJob → IngJob) : State :=
  match s.ingest.jobs.find? (fun j => j.phase == 2 && j.reloadLeft.any (fun e => e.2.2 && s.physOfCore e.1 == c)) with
  | some j => s.modJob j.idx (fun x => job { x with reloadLeft := f x.reloadLeft })
  | none => match s.flt.migs.find? (fun m => m.phase == 4 && m.target == c && m.left.any (fun e => e.2.2)) with
    | some m => s.modMig m.logical (fun x => { x with left := f x.left })
    | none => s

/-- A reload stream has ended on core `c`; a job whose last stream it was has all done. -/
def State.reloadEnd (s : State) (c : Nat) : State :=
  (s.reloadReport c (eraseFirst (fun e => e.2.2)) (fun x => if x.reloadLeft.isEmpty then { x with phase := 3 } else x)).sendUnsent

/-- A reload stream has halted: its job fails, or the model of a REBUILD becomes EMPTY (R248, R366). -/
def State.reloadHalt (s : State) (c : Nat) : State :=
  let code := s.rd (corePg c) CORE.HALT_INFO_CODE
  let model := match s.flt.migs.find? (fun m => m.phase == 4 && m.target == c && m.left.any (fun e => e.2.2)) with
    | some m => (m.left.find? (fun e => e.2.2)).map (fun e => e.1)
    | none => none
  let isJob := s.ingest.jobs.any (fun j => j.phase == 2 && j.reloadLeft.any (fun e => e.2.2 && s.physOfCore e.1 == c))
  let s := s.reloadReport c (eraseFirst (fun e => e.2.2)) (fun x => { x with phase := 4, failCode := code })
  if isJob then s else match model with
    | some m => s.emptyModel m 0x06
    | none => s

def stepEndReportEffect (s : State) (c n : Nat) : State :=
  if n = 0 then s.reloadEnd c else
  let s := s.modStep n (fun x => if x.phase = 1 then { x with cores := mapIf (fun k => k.1 == c) (fun k => (k.1, true)) x.cores } else x)
  let s := s.modStep n (fun x => if x.phase = 1 ∧ x.cores.all (fun k => k.2) then { x with phase := 2 } else x)
  s.sendUnsent

/-- A step aborts: its other cores are told, its sequences are tried again or fail (R187, R234). -/
def State.abortStep (s : State) (c : Nat) (x : StepS) : State :=
  let s := (((s.emit srvPg 0x8012 0).inc srvPg SRV.ABORT_CNT).irq srvPg 1).dropStep x.step
  let s := x.cores.foldl (fun s k => if k.1 = c then s else s.send (.stepAbort k.1 x.step)) s
  let s := s.withdraw (claimOf x.model)
  let limit : Nat := s.rd srvPg SRV.CTRL_RETRY_MAX
  let s := x.seqs.foldl (fun (s : State) (y : StepSeq) =>
    let q := s.seq y.slot
    if !q.live ∨ y.failed then s
    else
      let s := s.setSeq y.slot { q with attempts := q.attempts + 1 }
      if limit < q.attempts + 1 then (s.emitSeq srvPg 0x8013 0 y.slot q.tenant).endSeq y.slot 0x06 0 else s) s
  s.settleMoves

/-- The failure of a core's step, or of a start record that it refused for want of room, which is sent again. -/
def stepFailureEffect (s : State) (c n : Nat) (discarded : Bool) : State :=
  if n = 0 then
    (if discarded then s.reloadReport c (fun l => modNth (fun e => (e.1, e.2.1, false)) (l.findIdx (fun e => e.2.2)) l) (fun x => x)
      else s.reloadHalt c)
  else match s.stepRec n with
  | none => s
  | some x =>
    if discarded then
      let y := s.shapeCores (s.readShape x.shape)
      match y.find? (fun k => s.physOfCore k.logical == c) with
      | none => s
      | some k =>
        let r : StartRec := { stream := k.stream % 2 ^ 48, step := n, gsemBase := x.gsemBase, gsemN := x.gsemN, model := x.model,
                              tenant := (s.readShape x.shape).tenant, reload := false }
        s.modStep n (fun z => { z with unsent := if z.unsent.any (fun u => u.1 == c) then z.unsent else z.unsent ++ [(c, r)] })
    else if x.cores.any (fun k => k.1 == c) then s.abortStep c x else s

/-- A sequence that an attention unit failed ends with FAILED at once; a slot already released is discarded. -/
def seqFailEffect (s : State) (slot : Nat) : State :=
  let mark := fun (x : StepS) => { x with seqs := mapIf (fun y => y.slot == slot) (fun y => { y with failed := true }) x.seqs }
  let s := s.modSrv (fun v => { v with steps := v.steps.map mark })
  s.endSeq slot 0x06 0

/-! ### Sampling (R229 to R232) -/

/-- Sample one sequence of a step from the main logit area. -/
def State.sampleMain (s : State) (x : StepS) (y : StepSeq) : State :=
  let q := s.seq y.slot
  let put := fun (f : StepSeq → StepSeq) => s.modStep x.step (fun z => { z with seqs := mapIf (fun w => w.slot == y.slot) f z.seqs })
  let row := fun i => s.logitRow x.model x.logits (rowOf x.seqs y.slot + i)
  let bad := fun (_ : Unit) => (put (fun w => { w with failed := true, sampled := true })).poisonSeq y.slot 1
  let sp := q.sampP
  if y.failed ∨ !q.live then put (fun w => { w with sampled := true })
  else if y.prefill then
    if y.n < q.promptLeft then put (fun w => { w with sampled := true })
    else match row (y.n - 1) with
      | none => bad ()
      | some r =>
        let t := sp.token r (q.pos + y.n)
        put (fun w => { w with sampled := true, toks := [(t, logp r t)] })
  else
    let rows := (List.range (y.drafts.length + 1)).map row
    -- the rows are read in order, up to the first that decides the main token
    let good := (rows.takeWhile (fun r => r.isSome)).filterMap id
    let v := verify sp q.stoch q.pos good (y.drafts.zip y.qdist)
    if v.1.isEmpty ∨ (v.1.length ≤ v.2 ∧ good.length < rows.length) then bad ()
    else put (fun w => { w with sampled := true, toks := v.1, accepted := v.2 })

def samplingEffect (s : State) (n hub : Nat) : State :=
  match s.stepRec n with
  | none => s
  | some x =>
    if x.phase ≠ 2 then s
    else (x.seqs.filter (fun y => y.slot % 4 == hub && !y.sampled)).foldl (fun s y => s.sampleMain x y) s

/-! ### Closing a step (R210, R227, R232 to R236, R240) -/

/-- The positions from `x` to `last` of a sequence's lists are invalidated. -/
def State.trimSeq (s : State) (slot x last : Nat) : State :=
  let q := s.seq slot
  (s.seqModels q).foldl (fun s m =>
    let t := s.mdlT m.1
    let mp := s.maxPagesOf m.1
    (List.range (s.listsOf m.1)).foldl (fun s l =>
      (List.range (last / t + 1 - x / t)).foldl (fun s i =>
        let a := q.listOf m.2 + 4 * (l * mp + x / t + i)
        match s.listPage a with
        | none => s
        | some p =>
          -- the page that holds the first rejected position is trimmed, those beyond are released
          if i = 0 then s.runReq (.trim p (x % t) slot) else (s.runReq (.release p slot)).devWrite a (toLe 4 (2 ^ 31))) s) s) s

/-- The draft length after a step (R233). -/
def Seq.adapt (q : Seq) (k j : Nat) : Seq :=
  if q.k = 0 then
    if k = 0 then { q with sinceProbe := min 31 (q.sinceProbe + 1) } else { q with sinceProbe := 0, k := if j = 1 then 1 else 0 }
  else if k = 0 then q
  else if j = 0 then (if q.zeroRun = 1 then { q with zeroRun := 0, k := q.k / 2, sinceProbe := 0 } else { q with zeroRun := q.zeroRun + 1 })
  else if j = k then { q with zeroRun := 0, k := min q.kMax (2 * q.k) } else { q with zeroRun := 0 }

/-- The tokens that count: up to STOP, up to position R - 1; and the end code that the last of them brings. -/
def cutTokens (stop last : Nat) : Nat → List (Nat × Nat) → List (Nat × Nat) × Option Nat
  | _, [] => ([], none)
  | pos, x :: l =>
    if x.1 = stop ∧ stop ≠ 0xFFFFFFFF then ([x], some 0x02)
    else if last ≤ pos then ([x], some 0x01)
    else let r := cutTokens stop last (pos + 1) l; (x :: r.1, r.2)

/-- One sequence's results take effect; whether a record was written. -/
def State.closeOne (s : State) (y : StepSeq) : State × Bool :=
  let q := s.seq y.slot
  if y.failed ∨ !q.live then (s, false)
  else
    let first := if y.prefill then q.pos + y.n else q.pos + 1
    let (toks, code) := cutTokens q.stop (q.r - 1) first y.toks
    let p0 := q.pos
    let retried := q.attempts != 0
    let ten := tenPg q.tenant
    -- positions and the pending token
    let q1 : Seq := { q with
      attempts := 0
      pos := if toks.isEmpty then q.pos + y.n else first + toks.length - 1
      token := (toks.getLast?.map (fun x => x.1)).getD q.token
      promptLeft := if y.prefill then q.promptLeft - y.n else q.promptLeft }
    let q1 := if y.prefill then (if toks.isEmpty ∨ q1.state ≠ 1 then q1 else { q1 with state := 2 }) else q1.adapt y.k y.accepted
    let late := s.expired q.deadline
    let policy := let v := s.rd ten TEN.LATE_POLICY; if v = 3 then 0 else v
    let show0 := !(late && policy == 2)
    let q1 := { q1 with newgen := q.newgen && (toks.isEmpty || !show0), deadline := if late ∧ policy = 1 then 0 else q.deadline }
    let s := s.setSeq y.slot q1
    let s := if y.k = 0 then s else (s.inc srvPg SRV.SPEC_PROP_CNT y.k).inc srvPg SRV.SPEC_ACC_CNT y.accepted
    let s := if y.accepted < y.k ∧ !y.prefill then s.trimSeq y.slot (p0 + y.accepted + 1) (p0 + y.k) else s
    let s := if late then s.inc srvPg SRV.LATE_CNT else s
    let ends := code.isSome || (late && policy != 1)
    let s := if !show0 then s
      else toks.zipIdx.foldl (fun s t =>
        let flags := toBit late + 2 * toBit (!y.prefill && decide (t.2 < y.accepted)) + 4 * toBit (q.newgen && t.2 == 0)
          + 8 * toBit (t.2 + 1 == toks.length && !ends) + 16 * toBit retried
        s.writeRec q.fn (record t.1.1 (first + t.2) y.slot 0 flags t.1.2 0)) s
    let endFlags := 8 + toBit (late && policy == 2)
    let s := if late && policy != 1 then s.endSeq y.slot 0x04 endFlags
      else match code with
        | some k => s.endSeq y.slot k endFlags
        | none => s
    (s, (show0 && !toks.isEmpty) || ends)

/-- A swap's barrier finds the model drained: its sequences end or pause (R241 step 3). -/
def State.drainModel (s : State) (m : Nat) : State :=
  if s.mdlState m ≠ 3 ∨ (s.mdl m).drained ∨ s.srv.steps.any (fun x => x.model == m) then s
  else
    let cont := s.rd (mdlPg m) MDL.SWAP_MODE == 1
    let s := (s.liveOf m).foldl (fun s k =>
      if cont then s.modSeq k (fun q => if q.state = 1 ∨ q.state = 2 then { q with state := 6 } else q) else s.endSeq k 0x07 0) s
    (s.modMdl m (fun x => { x with drained := true })).startJobs

def stepCloseEffect (s : State) (n : Nat) : State :=
  match s.stepRec n with
  | none => s
  | some x =>
    if x.phase ≠ 2 ∨ !x.seqs.all (fun y => y.sampled || y.failed || !(s.seq y.slot).live) then s
    else
      let s := s.wr srvPg SRV.STEP_NS_LAST (min 0xFFFFFFFF ((s.now - x.at0) * 5 / 32))
      let r := x.seqs.foldl (fun (r : State × List Nat) y =>
        let f := (r.1.seq y.slot).fn
        let t := r.1.closeOne y
        (t.1, if t.2 && !r.2.contains f then r.2 ++ [f] else r.2)) (s, [])
      let s := r.2.foldl (fun s f => s.ringIrq f) r.1
      (((s.dropStep n).settleFailed.settleMoves).drainModel x.model).sendUnsent

def slotFreeEffect (s : State) (slot : Nat) : State :=
  let q := s.seq slot
  if q.state = 7 ∧ q.endedIn.all (fun n => !s.stepsInFlight.contains n) then s.modSrv (fun x => { x with seqs := mdel x.seqs slot }) else s

/-! ### Model swaps (R241, R242) -/

def modelSwapEffect (s : State) (m : Nat) : State :=
  if s.mdlState m = 2 then ((s.wr (mdlPg m) MDL.STATE 3).modMdl m (fun x => { x with drained := false })).drainModel m else s

/-- UNLOAD: refused while a LOAD or SWAP job of the model is accepted and has not ended (R258). -/
def modelUnloadEffect (s : State) (m : Nat) : State :=
  if s.ingest.jobs.any (fun j => j.model == m && j.op != 3) then s.refuse srvPg
  else
    let s := s.emptyModel m 0x07
    s.takeHeld (fun h => h.model == m) (fun s h => s.decideSubmit h.fn h.bytes h.poison false)

/-- Once per ms of a swap: held requests and paused sequences past their deadline. -/
def barrierCheckEffect (s : State) : State :=
  let late := fun (h : HeldReq) => s.expired (leAt h.bytes 40 8)
  let s := s.takeHeld late (fun s h => s.refuseReq h.fn h.bytes 0x11)
  (s.liveSlots.filter (fun k => (s.seq k).state == 6 && s.expired (s.seq k).deadline)).foldl
    (fun s k => (s.inc srvPg SRV.EXPIRED_CNT).endSeq k 0x03 0) s

/-- The ingest engine has reported a swap done or failed: the model leaves SWAPPING. -/
def State.swapEnd (s : State) (m : Nat) (ok : Bool) : State :=
  let s := (s.modMdl m (fun x => { x with drained := false })).irq srvPg 2
  let s :=
    if ok then
      let s := (s.wr (mdlPg m) MDL.STATE 2).inc (mdlPg m) MDL.GEN
      (s.liveOf m).foldl (fun s k => s.modSeq k (fun q => { q with newgen := true, state := if q.state = 6 then q.active else q.state })) s
    else s.emptyModel m 0x06
  s.takeHeld (fun h => h.model == m) (fun s h => s.decideSubmit h.fn h.bytes h.poison false)

def swapCompleteEffect (s : State) (m : Nat) (ok : Bool) : State := if s.mdlState m = 3 then s.swapEnd m ok else s

/-! ### Windows (R216, R238, R242, R243, R312) -/

/-- A window register of an unmapped function reads zero, and its doorbell is discarded: FUNC_UNMAPPED once a second. -/
def reqTailEffect (s : State) (f v : Nat) : State :=
  if (s.fnTenant f).isSome then s.wr (fnPg f) FNW.REQ_TAIL_TAIL v
  else s.emitLimited 10 (0xA031000 + f) ticksS (pciePg 0) 0xA031 f

def emptyRec : Nat := 0xF0000

def resPopEffect (s : State) (f : Nat) : State :=
  let p := fnPg f
  if (s.fnTenant f).isNone then s.send (.readValue 0)
  else if s.resHead f = s.resTail f then s.send (.readValue emptyRec)
  else
    let e := mget (s.fnx f).copy (0, 0) (s.resHead f)
    let s := (s.wr p FNW.RES_POP_HI e.1).wr p FNW.RES_HEAD_HEAD ((s.resHead f + 1) % s.ringSize f)
    (s.flushRec f).send (.readValue e.2)

def resPeekEffect (s : State) (f : Nat) : State :=
  if (s.fnTenant f).isNone then s.send (.readValue 0)
  else
    let e := mget (s.fnx f).copy (0, 0) (s.resHead f)
    (s.wr (fnPg f) FNW.RES_PEEK_HI e.1).send (.readValue (putBit e.2 62 (s.resHead f != s.resTail f)))

def resHeadEffect (s : State) (f v : Nat) : State :=
  let n := s.ringSize f
  if (s.fnTenant f).isNone then s
  else if v < n ∧ (v + n - s.resHead f) % n ≤ s.resUsed f then (s.wr (fnPg f) FNW.RES_HEAD_HEAD v).flushRec f
  else if v = s.resHead f then s
  else (s.refuse srvPg).emit srvPg 0x8022 0

/-- A function has live sequences. -/
def State.fnLive (s : State) (f : Nat) : Bool := s.liveSlots.any (fun k => (s.seq k).fn == f)

def isPow2 (n lo hi : Nat) : Bool := decide (lo ≤ n) && decide (n ≤ hi) && (n &&& (n - 1)) == 0

/-- A write of the 64 bits of REQ_CFG or RES_CFG. An enable with an entry count out of its range is refused; the count stands
while the ring runs (log 31). Enabling starts the ring at entry 0 of lap 0. -/
def ringEnableEffect (s : State) (f : Nat) (res : Bool) (v : Nat) : State :=
  let p := fnPg f
  let enF := if res then FNW.RES_CFG_ENABLE else FNW.REQ_CFG_ENABLE
  let nF := if res then FNW.RES_CFG_ENTRIES else FNW.REQ_CFG_ENTRIES
  let n := field v 0 nF.width
  let was := s.rdB p enF
  let want := bit v 63
  let bits := fun (s : State) => if res then (s.wrB p FNW.RES_CFG_SPLIT (bit v 62)).wrB p FNW.RES_CFG_IRQ_EN (bit v 61) else s
  if was ∧ want then bits s
  else if was then
    if s.fnLive f ∨ (res ∧ s.rdB p FNW.REQ_CFG_ENABLE) then s.refuse srvPg else (bits s).wr p enF 0
  else if want then
    if !isPow2 n (if res then 256 else 64) (if res then 65536 else 4096) ∨ (!res ∧ !s.rdB p FNW.RES_CFG_ENABLE) then s.refuse srvPg
    else
      let s := ((bits s).wr p nF n).wr p enF 1
      if res then ((s.wr p FNW.RES_HEAD_HEAD 0).wr p FNW.RES_TAIL_TAIL 0).modFnx f (fun x => { x with copy := [], lap := 0 }) |>.flushRec f
      else s.wr p FNW.REQ_HEAD_HEAD 0
  else (bits s).wr p nF n

/-- The 128 bytes of SEQ_VIEW. -/
def Seq.bytes (q : Seq) : List Byte :=
  toLe 1 q.state ++ toLe 1 q.endCode ++ toLe 1 q.fn ++ toLe 1 q.tenant ++ toLe 1 q.model ++ toLe 1 (q.k + 16 * q.kMax)
    ++ toLe 1 (q.zeroRun + 4 * toBit q.stoch + 8 * min 31 q.sinceProbe) ++ toLe 1 q.attempts ++ toLe 8 q.handle ++ toLe 8 q.seed
    ++ toLe 4 q.pos ++ toLe 4 q.promptLeft ++ toLe 4 q.r ++ toLe 8 q.deadline ++ toLe 2 q.tbt ++ toLe 2 q.temp ++ toLe 2 q.topK
    ++ toLe 2 q.topP ++ toLe 4 q.stop ++ toLe 8 q.listMain ++ toLe 8 q.listDraft ++ toLe 1 q.gen ++ List.replicate 55 0

def seqSelEffect (s : State) (v : Nat) : State :=
  let slot := v % 4096
  let l := (s.seq slot).bytes
  (List.range 32).foldl (fun s i => s.wr srvPg (SRV.SEQ_VIEW i) (leAt l (4 * i) 4)) (s.wr srvPg SRV.SEQ_SEL_SLOT slot)

/-! ### Step summaries (R156, R239) -/

/-- Write a record into the summary ring; with the ring full it is dropped. -/
def State.writeSummary (s : State) (l : List Byte) : State :=
  let n := s.rd srvPg SRV.SUM_CFG_ENTRIES
  let t := s.rd srvPg SRV.SUM_TAIL_TAIL
  if !s.rdB srvPg SRV.SUM_CFG_ENABLE then s
  else if (t + 1) % n = s.rd srvPg SRV.SUM_HEAD_HEAD % n then ((s.inc srvPg SRV.SUM_DROP_CNT).irq srvPg 3).sendMsix 0 2
  else
    ((s.hostWrite srvPg (s.rdA srvPg SRV.SUM_BASE_BASE + 64 * t) l false).wr srvPg SRV.SUM_TAIL_TAIL ((t + 1) % n)).sendMsix 0 2

def sat16 (n : Nat) : Nat := min n 0xFFFF

/-- The 64 bytes of a summary. -/
def StepSum.bytes (x : StepSum) (step : Nat) (incomplete : Bool) : List Byte :=
  let flags := toBit (x.mismatch != 0) + 2 * toBit (x.permanent != 0) + 4 * toBit x.suspect + 8 * toBit x.dref + 16 * toBit incomplete
  toLe 1 1 ++ toLe 1 flags ++ toLe 2 (sat16 x.maxAbsD) ++ toLe 4 step ++ toLe 8 x.passes ++ toLe 8 x.samples ++ toLe 8 x.lanes
    ++ toLe 8 x.sumD2 ++ toLe 8 x.sumE2 ++ toLe 4 x.mismatch ++ toLe 2 (sat16 x.transient) ++ toLe 2 (sat16 x.permanent)
    ++ toLe 4 x.satLanes ++ toLe 2 (sat16 x.unresolved) ++ toLe 2 (sat16 x.poisonSkip)

def StepSum.plus (a b : StepSum) : StepSum :=
  { passes := a.passes + b.passes, samples := a.samples + b.samples, lanes := a.lanes + b.lanes, sumD2 := a.sumD2 + b.sumD2,
    sumE2 := a.sumE2 + b.sumE2, mismatch := a.mismatch + b.mismatch, transient := a.transient + b.transient,
    permanent := a.permanent + b.permanent, unresolved := a.unresolved + b.unresolved, satLanes := a.satLanes + b.satLanes,
    poisonSkip := a.poisonSkip + b.poisonSkip, maxAbsD := max a.maxAbsD b.maxAbsD, suspect := a.suspect || b.suspect,
    dref := a.dref || b.dref }

/-- Cores whose check unit reports: those not retired. -/
def State.sumCores (s : State) : List Nat := allCores.filter (fun c => !(s.core c).retired)

def State.sumRec (s : State) (n : Nat) : SumRec := (s.srv.sums.find? (fun x => x.step == n)).getD ⟨n, .zero, []⟩

def State.putSum (s : State) (x : SumRec) : State :=
  s.modSrv (fun y => { y with sums := y.sums.filter (fun z => z.step != x.step) ++ [x] })

def State.dropSum (s : State) (n : Nat) : State := s.modSrv (fun y => { y with sums := y.sums.filter (fun z => z.step != n) })

/-- A core's step sum reaches hub 10; the record is complete when every core has reported. -/
def stepSumEffect (s : State) (c n : Nat) : State :=
  match mfind (s.core c).sumOut n with
  | none => s
  | some v =>
    let s := s.modCore c (fun x => { x with sumOut := mdel x.sumOut n })
    if !s.srv.sums.any (fun x => x.step == n) then s
    else
      let r := s.sumRec n
      let r := { r with sum := r.sum.plus v, cores := r.cores ++ [c] }
      if s.sumCores.all (fun k => r.cores.contains k) then (s.dropSum n).writeSummary (r.sum.bytes n false) else s.putSum r

def summaryTimeoutEffect (s : State) (n : Nat) : State :=
  if s.srv.sums.any (fun x => x.step == n) then (s.dropSum n).writeSummary ((s.sumRec n).sum.bytes n true) else s

/-! ### Meanings -/

def execReqTail (f v : Nat) (s : State) : Host.Outcome State Fault Refusal := onWf s (.reqTail f v) (reqTailEffect s f v)

/-- A descriptor whose OP is none of the four is decided here too: it is malformed. -/
def execSubmit (f : Nat) (s : State) : Host.Outcome State Fault Refusal :=
  onWf s (.submit f) (s.takeReq f (fun op => op != 2 && op != 3 && op != 4) (fun s d p => s.decideSubmit f d p true))

def execCancel (f : Nat) (s : State) : Host.Outcome State Fault Refusal :=
  onWf s (.cancel f) (s.takeReq f (fun op => op == 2) (fun s d p => s.handleReq f d p (fun s k => s.endSeq k 0x05 0)))

def execPark (f : Nat) (s : State) : Host.Outcome State Fault Refusal :=
  onWf s (.park f) (s.takeReq f (fun op => op == 3) (fun s d p => s.handleReq f d p (fun s k => s.parkSeq k)))

def execUnpark (f : Nat) (s : State) : Host.Outcome State Fault Refusal :=
  onWf s (.unpark f) (s.takeReq f (fun op => op == 4) (fun s d p => s.handleReq f d p (fun s k => s.unparkSeq k)))

def execStepAssembly (m : Nat) (s : State) : Host.Outcome State Fault Refusal := onWf s (.stepAssembly m) (stepAssemblyEffect s m)

def execDraftRoundEnd (n : Nat) (s : State) : Host.Outcome State Fault Refusal := onWf s (.draftRoundEnd n) (draftRoundEffect s n)

def execSamplingDone (n hub : Nat) (s : State) : Host.Outcome State Fault Refusal := onWf s (.samplingDone n hub) (samplingEffect s n hub)

def execStepClose (n : Nat) (s : State) : Host.Outcome State Fault Refusal := onWf s (.stepClose n) (stepCloseEffect s n)

def execSlotFree (slot : Nat) (s : State) : Host.Outcome State Fault Refusal := onWf s (.slotFree slot) (slotFreeEffect s slot)

def execStepEndReport (c n : Nat) (s : State) : Host.Outcome State Fault Refusal := onWf s (.stepEndReport c n) (stepEndReportEffect s c n)

def execSeqFailReport (c slot : Nat) (s : State) : Host.Outcome State Fault Refusal := onWf s (.seqFailReport c slot) (seqFailEffect s slot)

def execStepFailureReport (c n : Nat) (discarded : Bool) (s : State) : Host.Outcome State Fault Refusal :=
  onWf s (.stepFailureReport c n discarded) (stepFailureEffect s c n discarded)

def execModelSwap (m : Nat) (s : State) : Host.Outcome State Fault Refusal := onWf s (.modelSwap m) (modelSwapEffect s m)

def execModelUnload (m : Nat) (s : State) : Host.Outcome State Fault Refusal := onWf s (.modelUnload m) (modelUnloadEffect s m)

def execBarrierDeadlineCheck (s : State) : Host.Outcome State Fault Refusal := onWf s .barrierDeadlineCheck (barrierCheckEffect s)

def execSwapComplete (m : Nat) (ok : Bool) (s : State) : Host.Outcome State Fault Refusal :=
  onWf s (.swapComplete m ok) (swapCompleteEffect s m ok)

def execResPopLo (f : Nat) (s : State) : Host.Outcome State Fault Refusal := onWf s (.resPopLo f) (resPopEffect s f)

def execResPeekLo (f : Nat) (s : State) : Host.Outcome State Fault Refusal := onWf s (.resPeekLo f) (resPeekEffect s f)

def execResHeadWrite (f v : Nat) (s : State) : Host.Outcome State Fault Refusal := onWf s (.resHeadWrite f v) (resHeadEffect s f v)

def execRingEnableWrite (f : Nat) (res : Bool) (v : Nat) (s : State) : Host.Outcome State Fault Refusal :=
  onWf s (.ringEnableWrite f res v) (ringEnableEffect s f res v)

def execSeqSel (v : Nat) (s : State) : Host.Outcome State Fault Refusal := onWf s (.seqSel v) (seqSelEffect s v)

def execStepSum (c n : Nat) (s : State) : Host.Outcome State Fault Refusal := onWf s (.stepSum c n) (stepSumEffect s c n)

def execSummaryTimeout (n : Nat) (s : State) : Host.Outcome State Fault Refusal := onWf s (.summaryTimeout n) (summaryTimeoutEffect s n)

end Sys2Proof.Machine
end

