-- ==== Sys2Proof/Machine/Therm.lean ====
section
/-! DEFINITION. The housekeeping round: sensors, levels, throttling, power, refresh bands, supplies, the trip and the orderly stop,
and the housekeeping converter (R62, R128, R339 to R353, R423, R425). -/

namespace Sys2Proof.Machine

def allDies : List Nat := List.range 40

/-- Sensors of a die (R339). -/
def sensorsOf (d : Nat) : Nat := if isCompute d then 16 else if isHub d then 8 else 4

def State.temp (s : State) (d i : Nat) : Int := toSigned 16 (s.rd (thermPg d) (THERM.SENSOR_TEMP i))

/-- The sensors of a die that are not excluded and have given a reading. -/
def State.validSensors (s : State) (d : Nat) : List Nat :=
  (List.range (sensorsOf d)).filter (fun i =>
    s.rdB (thermPg d) (THERM.SENSOR_PRESENT i) && !s.rdB (thermPg d) (THERM.SENSOR_EXCLUDED i))

/-- A field takes a value; an equal one changes nothing. -/
def State.set (s : State) (p : Nat) (f : Fld) (v : Nat) : State := if s.rd p f = v then s else s.wr p f v

/-! ### Sensors (R340) -/

/-- Twice the median of a list of readings: the mean of the two middle ones where their number is even. -/
def median2 (l : List Int) : Int :=
  let l := sortBy (fun a b => decide (a ≤ b)) l
  l.getD ((l.length - 1) / 2) 0 + l.getD (l.length / 2) 0

/-- The readings of the round are taken. -/
def State.takeReadings (s : State) (r : HkReadings) : State :=
  r.temps.foldl (fun s x =>
    if x.1 < 40 ∧ x.2.1 < sensorsOf x.1 then
      let p := thermPg x.1
      (s.set p (THERM.SENSOR_TEMP x.2.1) (ofSigned 16 (clampI (-32768) 32767 x.2.2.1))).set p (THERM.SENSOR_PRESENT x.2.1) 1
    else s) s

/-- A valid sensor's reading is out: its count outside its window, or more than 20 °C from the median of the others. -/
def State.sensorOut (s : State) (r : HkReadings) (d i : Nat) : Bool :=
  let others := ((s.validSensors d).filter (fun j => j != i)).map (fun j => s.temp d j)
  r.temps.any (fun x => x.1 == d && x.2.1 == i && !x.2.2.2)
    || (!others.isEmpty && decide (640 < (2 * s.temp d i - median2 others).natAbs))

/-- A sensor out in two consecutive rounds is excluded. -/
def State.excludeSensors (s : State) (r : HkReadings) (d : Nat) : State :=
  let out := (s.validSensors d).filter (fun i => s.sensorOut r d i)
  let bad := out.filter (fun i => mget (s.die d).outRounds 0 i = 1)
  let p := thermPg d
  let s := if out.isEmpty && (s.die d).outRounds.isEmpty then s
    else s.modDie d (fun x => { x with outRounds := (out.filter (fun i => !bad.contains i)).map (fun i => (i, 1)) })
  bad.foldl (fun s i => ((s.wr p (THERM.SENSOR_EXCLUDED i) 1).emit p 0xC021 0).irq p 3) s

/-- A die left with too few sensors. -/
def State.sensorLoss (s : State) (d : Nat) : State :=
  let p := thermPg d
  let n := (s.validSensors d).length
  if s.rdB p THERM.STAT_SENSOR_LOSS || !(if isCompute d then decide (n < 4) else n == 0) then s
  else (s.wr p THERM.STAT_SENSOR_LOSS 1).emit p 0xC022 0

/-- The highest valid reading of a die. -/
def State.hottestOf (s : State) (d : Nat) : Option Int :=
  match (s.validSensors d).map (fun i => s.temp d i) with
  | [] => none
  | t :: l => some (l.foldl max t)

/-! ### Levels and throttling (R343, R344) -/

/-- The level that a reading gives a die now at level `l`: each level is left below its own threshold, SHUTDOWN never. -/
def nextLevel (l : Nat) (t : Int) : Nat :=
  if l = 3 ∨ 1840 ≤ t then 3
  else if 1680 ≤ t ∨ (2 ≤ l ∧ 1600 ≤ t) then 2
  else if 1520 ≤ t ∨ (1 ≤ l ∧ 1440 ≤ t) then 1 else 0

/-- A die's level changes, with the faults of the thresholds it passes upwards. -/
def State.setLevel (s : State) (d n : Nat) (said : Bool) : State :=
  let p := thermPg d
  let l := s.rd p THERM.STAT_LEVEL
  if n = l then s
  else
    let s := s.wr p THERM.STAT_LEVEL n
    let s := if said ∧ l < 1 ∧ 1 ≤ n then (s.emit p 0xC011 0).irq p 0 else s
    let s := if said ∧ l < 2 ∧ 2 ≤ n then (s.emit p 0xC012 0).irq p 1 else s
    (if n < l then s.irq p 2 else s).send .ibi

def State.thrMax (s : State) : Nat := s.rd (thermPg 16) THERM.CTRL_THR_MAX

/-- The next thermal step of a die at `t`, its level being `l`. -/
def nextStep (m n l : Nat) (t : Int) : Nat :=
  min m (if 1680 ≤ t then n + 1 else if 1600 ≤ t ∧ l = 2 then n else if t < 1600 then n - 1 else n)

/-- Level and thermal step of one die. -/
def State.thermDie (s : State) (d : Nat) : State :=
  let p := thermPg d
  if s.rdB p THERM.STAT_SENSOR_LOSS then
    let s := if s.rd p THERM.STAT_LEVEL = 3 then s else s.setLevel d 1 false
    s.modDie d (fun x => { x with thermStep := s.thrMax })
  else match s.hottestOf d with
    | none => s
    | some t =>
      let s := (s.set p THERM.STAT_HOTTEST (ofSigned 16 t)).setLevel d (nextLevel (s.rd p THERM.STAT_LEVEL) t) true
      let n := nextStep s.thrMax (s.die d).thermStep (s.rd p THERM.STAT_LEVEL) t
      if n = (s.die d).thermStep then s else s.modDie d (fun x => { x with thermStep := n })

/-! ### Power (R344, R351) -/

/-- The mean of the last 16 rounds, and the package power step. -/
def State.powerRound (s : State) (w : Nat) : State :=
  let p := thermPg 16
  let l := s.power.powerHist ++ [w]
  let l := l.drop (l.length - 16)
  let mean := (roundAway (sumN l) l.length).toNat
  let limit := min (s.rd p THERM.PWR_LIMIT_W) 1800
  let n := s.power.powerStep
  let m := min s.thrMax (if limit < mean then n + 1 else if 100 * mean < 95 * limit then n - 1 else n)
  let s := ({ s with power := { s.power with powerHist := l, powerStep := m } }).set p THERM.PKG_POWER_W mean
  if n = 0 ∧ m ≠ 0 then (s.emit p 0xC031 0).irq p 4 else s

/-- The step in force on every die is the larger of its thermal step and the power step. -/
def State.showSteps (s : State) : State :=
  allDies.foldl (fun s d => s.set (thermPg d) THERM.STAT_STEPS (max (s.die d).thermStep s.power.powerStep)) s

/-! ### Refresh bands (R62) -/

def bandOf (t : Int) : Nat := if t ≤ 960 then 0 else if t ≤ 1200 then 1 else if t ≤ 1440 then 2 else if t ≤ 1600 then 3 else 4

/-- The lower edge of a band, in 1/16 °C. -/
def bandEdge (b : Nat) : Int := [0, 960, 1200, 1440, 1600].getD b 0

def bandUs (b : Nat) : Nat := [16000, 8000, 4000, 2000, 1500].getD b 1500

/-- An engine uses the hotter of its die's band and MIN_BAND. -/
def State.showBand (s : State) (c e : Nat) : State :=
  let p := engPg c e
  let b := min 4 (max (s.die (c / 4)).baseBand (s.rd p ENG.REFRESH_CTRL_MIN_BAND))
  (s.set p ENG.REFRESH_STAT_BAND b).set p ENG.REFRESH_STAT_INTERVAL_US (bandUs b)

def State.setBand (s : State) (d b cool : Nat) : State :=
  let x := s.die d
  let s := if x.baseBand = b ∧ x.coolRounds = cool then s else s.modDie d (fun y => { y with baseBand := b, coolRounds := cool })
  if x.baseBand = b then s
  else (List.range 16).foldl (fun s i => s.showBand (4 * d + i / 4) (i % 4)) s

/-- A hotter band at once, a cooler one after 4 rounds at least 2 °C below the band's lower edge. -/
def State.bandDie (s : State) (d : Nat) : State :=
  if !isCompute d then s
  else if s.rdB (thermPg d) THERM.STAT_SENSOR_LOSS then s.setBand d 4 0
  else match s.hottestOf d with
    | none => s
    | some t =>
      let x := s.die d
      let b := bandOf t
      if x.baseBand < b then s.setBand d b 0
      else if t ≤ bandEdge x.baseBand - 32 ∧ b < x.baseBand then
        (if x.coolRounds = 3 then s.setBand d b 0 else s.setBand d x.baseBand (x.coolRounds + 1))
      else s.setBand d x.baseBand 0

/-! ### Temperature terms (R128), minutes at temperature (R372) -/

/-- Every tile of a die gets its temperature term, from the next pass boundary on. -/
def State.termsDie (s : State) (d : Nat) : State :=
  if !isCompute d then s
  else (List.range 272).foldl (fun s i =>
    let c := 4 * d + i / 68
    let e := i / 17 % 4
    let t := i % 17
    let v := s.tempTerm c e t
    if (s.tile c e t).ttNext.getD (toSigned 16 (s.rd (tilePg c e t) TILE.TEMP_TERM_TT)) = v then s
    else s.modTile c e t (fun x => { x with ttNext := some v })) s

/-- Bins of 5 °C: 0 to 40 °C, 15 above 110 °C. -/
def heatBin (t : Int) : Nat := if t ≤ 640 then 0 else if 1760 < t then 15 else ((t - 641) / 80).toNat + 1

def State.heatDie (s : State) (d : Nat) : State :=
  match s.hottestOf d with
  | none => s
  | some t => s.modDie d (fun x => { x with heat := mput x.heat (heatBin t) (mget x.heat 0 (heatBin t) + 1) })

/-! ### Supplies (R423, R425) -/

/-- Rails out of their range: SUPPLY_START_FAIL in a round of start-up's stage 5, SUPPLY_RANGE from the second round on, at most
once per rail per minute. The address holds the die in [15:8] and the channel in [4:0]. -/
def State.railsDie (s : State) (r : HkReadings) (d : Nat) : State :=
  let out := ((r.rails.filter (fun x => x.1 == d)).map (fun x => x.2 % 32)).eraseDups
  let old := (s.die d).railRounds
  if out.isEmpty && old.isEmpty then s
  else if !s.power.ended.contains 5 then
    out.foldl (fun s ch => if r.rails.head?.map (fun x => (x.1, x.2 % 32)) = some (d, ch)
      then s.emit (thermPg 16) 0xC052 (d * 256 + ch) else s) s
  else
    let s := s.modDie d (fun x => { x with railRounds := (sortNat out).map (fun ch => (ch, 1)) })
    (sortNat out).foldl (fun s ch =>
      let due := match mfind (s.die d).railSaid ch with
        | some t => decide (t + 60 * ticksS ≤ s.now)
        | none => true
      if mget old 0 ch = 1 && due then
        (s.emit (thermPg 16) 0xC051 (d * 256 + ch)).modDie d (fun x => { x with railSaid := mput x.railSaid ch s.now })
      else s) s

/-! ### The trip and the orderly stop (R345 to R347) -/

/-- The hottest valid reading of the package, as (reading, die, sensor), lowest die and sensor first. -/
def State.hottestSensor (s : State) : Option (Int × Nat × Nat) :=
  (allDies.flatMap (fun d => (s.validSensors d).map (fun i => (s.temp d i, d, i)))).foldl
    (fun (b : Option (Int × Nat × Nat)) x => match b with
      | some y => if y.1 < x.1 then some x else some y
      | none => some x) none

/-- The 64-byte thermal record, ABORTED apart (R347); the slope is 0 while there is no reading four rounds earlier. -/
def State.thermRecord (s : State) (reason : Nat) : List Byte :=
  let h := s.hottestSensor.getD (0, 0, 0)
  let t4 := match s.power.hottest with
    | [a, _, _, _, _] => a
    | _ => h.1
  let die := fun d => ofSigned 8 (clampI (-128) 127 (((s.hottestOf d).getD 0) / 16))
  toLe 1 1 ++ toLe 1 reason ++ toLe 1 h.2.1 ++ toLe 1 h.2.2 ++ toLe 2 (ofSigned 16 h.1) ++ toLe 2 (ofSigned 16 (2 * (h.1 - t4)))
    ++ toLe 8 s.sclk ++ toLe 2 (s.rd (thermPg 16) THERM.PKG_POWER_W) ++ toLe 1 (s.rd (thermPg h.2.1) THERM.STAT_STEPS) ++ toLe 5 0
    ++ allDies.map (fun d => byteOf (die d))

/-- Steps 1 to 4 of R345: every core halts and the host gets a fatal error report, THERM_SHUTDOWN is recorded, the thermal record
goes into event NVM, THERMTRIP_N is asserted. -/
def State.trip (s : State) (reason : Nat) (tr : List Byte) : State :=
  let s := ((s.haltAll.send .errFatal).send .errFatal).emit (thermPg 16) 0xC013 reason
  let n := s.nvm
  let l := tr.take 19 ++ [byteOf (min s.power.aborted 255)] ++ tr.drop 20
  let s := { s with nvm := { n with thermal := mput n.thermal (n.thermalN % 64) l, thermalN := n.thermalN + 1 } }
  { s with power := { s.power with thermtrip := true, halted := true, orderly := 0 } }

/-- SHUTDOWN is projected between 4 ms and HORIZON_MS ahead. -/
def State.stopDue (s : State) : Bool :=
  match s.power.hottest with
  | [a, _, _, _, t] =>
    let h := max 4 (s.rd (thermPg 16) THERM.CTRL_HORIZON_MS)
    s.rdB (thermPg 16) THERM.CTRL_ORDERLY_EN && s.rdB (pciePg 0) PCIE.STAT_DEV_READY && s.power.orderly == 0
      && allDies.any (fun d => decide (2 ≤ s.rd (thermPg d) THERM.STAT_LEVEL)) && decide (0 < t - a)
      && decide (4 * (t - a) ≤ (1840 - t) * 8) && decide ((1840 - t) * 8 ≤ h * (t - a))
  | _ => false

/-- The orderly stop begins: no step is assembled and no request read. -/
def State.startStop (s : State) : State :=
  let s := s.modSrv (fun x => { x with stopped := true })
  let tr := s.thermRecord 1
  ({ s with power := { s.power with orderly := 1, tripRec := tr, aborted := 0 } }).wr (thermPg 16) THERM.STAT_ORDERLY 1

/-- What the round's readings decide about the package. -/
def State.stopRound (s : State) : State :=
  let l := s.power.hottest ++ (match s.hottestSensor with
    | some h => [h.1]
    | none => [])
  let s := { s with power := { s.power with hottest := l.drop (l.length - 5) } }
  if allDies.any (fun d => s.rd (thermPg d) THERM.STAT_LEVEL == 3) then s.trip 0 (s.thermRecord 0)
  else if s.stopDue then s.startStop else s

/-! ### Rounds (R341, R348, R398) -/

/-- A conversion starts. -/
def State.startConv (s : State) (d ch : Nat) (sw : Bool) : State :=
  s.modDie d (fun x => { x with converting := some (ch, sw, s.now) })

/-- A converter that is free takes the next channel of its scan, then a pending software trigger. -/
def State.nextConversion (s : State) (d : Nat) : State :=
  let x := s.die d
  if x.converting.isSome then s
  else match x.scan with
    | ch :: l => (s.modDie d (fun y => { y with scan := l })).startConv d ch false
    | [] => if x.swPending then (s.modDie d (fun y => { y with swPending := false })).startConv d (s.rd (hkadcPg d) HKADC.CHSEL_CH) true
      else s

/-- The trigger of a round: every die's converter scans its SCAN list. -/
def hkTriggerEffect (s : State) : State :=
  if !s.power.ended.contains 4 then s
  else
    let s := { s with power := { s.power with roundNo := s.power.roundNo + 1 } }
    allDies.foldl (fun s d =>
      (s.modDie d (fun x => { x with scan := x.scan ++ bitsOf (s.rd (hkadcPg d) HKADC.SCAN) 32 })).nextConversion d) s

def hkDecisionEffect (s : State) (r : HkReadings) : State :=
  if !s.power.ended.contains 4 then s
  else
    let s := s.takeReadings r
    let s := allDies.foldl (fun s d => (((s.excludeSensors r d).sensorLoss d).thermDie d).bandDie d) s
    let s := (s.powerRound r.power).showSteps
    let s := allDies.foldl (fun s d => (((s.termsDie d).heatDie d).railsDie r d).inc (thermPg d) THERM.ROUND_CNT) s
    s.stopRound

/-- Steps still running are aborted; their sequences receive no token. -/
def orderlyDrainEffect (s : State) : State :=
  if s.power.orderly ≠ 1 then s
  else
    let l := s.srv.steps
    let s := l.foldl (fun s x => s.abortStep 160 x) s
    { s with power := { s.power with orderly := 2, aborted := l.length } }

/-- A die's collector is flushed: every record that it can take goes to the package collector. -/
def State.flushDieN : Nat → State → Nat → State
  | 0, s, _ => s
  | n + 1, s, d => if (s.die d).sources.isEmpty && (s.die d).buffer.isEmpty then s
    else State.flushDieN n ((s.collectFirst d (fun _ => true)).forwardOldest d) d

def State.flushLogN : Nat → State → State
  | 0, s => s
  | n + 1, s => if s.flt.wire.isEmpty then s else State.flushLogN n (faultLogEffect s)

def State.flushFaults (s : State) : State :=
  allDies.foldl (fun s d =>
    let s := s.flushDieN ((s.die d).sources.length + (s.die d).buffer.length) d
    s.flushLogN s.flt.wire.length) s

/-- Result and summary records already formed are written, the fault collectors are flushed, and the trip follows. -/
def orderlyFlushEffect (s : State) : State :=
  if s.power.orderly ≠ 2 then s
  else
    let s := (s.srv.fns.map (fun e => e.1)).foldl (fun s f => s.flushRec f) s
    let s := s.flushFaults
    s.trip 1 s.power.tripRec

/-! ### The converter (R348 to R350) -/

/-- A result is written into the die's ring at RING_TAIL; a full ring drops it. -/
def State.putResult (s : State) (d : Nat) (l : List Byte) : State :=
  let p := hkadcPg d
  let n := s.rd p HKADC.RING_CFG_ENTRIES
  let t := s.rd p HKADC.RING_TAIL_TAIL
  if !s.rdB p HKADC.CTRL_RING_EN then s
  else if n = 0 ∨ (t + 1) % n = s.rd p HKADC.RING_HEAD_HEAD then s.inc p HKADC.DROP_CNT
  else (s.devWrite (s.rdA p HKADC.RING_BASE_BASE + 16 * t) l).wr p HKADC.RING_TAIL_TAIL ((t + 1) % n)

/-- A conversion of the input `v`, in LSB: code and flags are latched and written. -/
def hkadcEndEffect (s : State) (d : Nat) (v : Int) : State :=
  match (s.die d).converting with
  | none => s
  | some (ch, sw, at0) =>
    let p := hkadcPg d
    let code := (clampI 0 4095 v).toNat
    let ovr := decide (4104 < v)
    let undr := decide (v < -8)
    let s := ((((s.wr p HKADC.LAST_CODE code).wrB p HKADC.LAST_OVR ovr).wrB p HKADC.LAST_UNDR undr).wr p HKADC.LAST_CHAN ch).inc p HKADC.CONV_CNT
    let due := match mfind (s.die d).adcSaid ch with
      | some t => decide (t + 60 * ticksS ≤ s.now)
      | none => true
    let s := if !(ovr || undr) then s
      else
        let s := s.inc p HKADC.OVR_CNT
        if due then (s.emit p 0xC041 0).modDie d (fun x => { x with adcSaid := mput x.adcSaid ch s.now }) else s
    let word := code + 4096 * toBit ovr + 8192 * toBit undr + 16384 * toBit sw
    let no := if sw then (s.die d).swCount else s.power.roundNo
    let s := s.putResult d (toLe 8 ((at0 + 2 * ticksUs - s.sclk0) / 256) ++ toLe 2 word ++ toLe 1 ch ++ toLe 1 d ++ toLe 4 no)
    (s.modDie d (fun x => { x with converting := none })).nextConversion d

/-- A software trigger reaches one die: it converts at once, waits, or is merged with one that waits. -/
def State.swTrigger (s : State) (d : Nat) : State :=
  let x := s.die d
  let s := s.modDie d (fun y => { y with swCount := y.swCount + 1 })
  if x.converting.isNone && x.scan.isEmpty then s.startConv d (s.rd (hkadcPg d) HKADC.CHSEL_CH) true
  else if x.swPending then s.inc (hkadcPg d) HKADC.MERGE_CNT
  else s.modDie d (fun y => { y with swPending := true })

def hkadcTrigEffect (s : State) (d : Nat) : State :=
  if d = 16 then allDies.foldl (fun s k => s.swTrigger k) s else s.refuse (hkadcPg d)

/-! ### Meanings -/

def execHkRoundTrigger (s : State) : Host.Outcome State Fault Refusal := onWf s .hkRoundTrigger (hkTriggerEffect s)

def execHkDecision (r : HkReadings) (s : State) : Host.Outcome State Fault Refusal := onWf s (.hkDecision r) (hkDecisionEffect s r)

def execOrderlyDrainEnd (s : State) : Host.Outcome State Fault Refusal := onWf s .orderlyDrainEnd (orderlyDrainEffect s)

def execOrderlyFlushEnd (s : State) : Host.Outcome State Fault Refusal := onWf s .orderlyFlushEnd (orderlyFlushEffect s)

def execHkadcConversionEnd (d : Nat) (input : Int) (s : State) : Host.Outcome State Fault Refusal :=
  onWf s (.hkadcConversionEnd d input) (hkadcEndEffect s d input)

def execHkadcSwTrig (d : Nat) (s : State) : Host.Outcome State Fault Refusal := onWf s (.hkadcSwTrig d) (hkadcTrigEffect s d)

end Sys2Proof.Machine
end

