-- ==== Sys2Proof/Machine/Migrate.lean ====
section
/-! DEFINITION. Core migrations as they run, `CORE_REDIR`, and in-field test (R336, R363 to R371). -/

namespace Sys2Proof.Machine

/-! ### Requests and the start of a MOVE (R363 to R365) -/

/-- `MIG_CTRL.REQ`: a request for a logical core that is not placed is refused. -/
def migReqEffect (s : State) (l : Nat) : State :=
  let s := s.wr fltPg FLT.MIG_CTRL_LOGICAL l
  if s.frozen then s
  else if s.rdB fltPg (FLT.CORE_REDIR_VALID l) then s.triggerMig (s.physOfCore l) 0 false
  else s.wr fltPg FLT.MIG_STAT_RESULT 2

/-- The accumulators that a SAVE or a RESTORE of all tiles goes through. -/
def State.countAccs (s : State) (c : Nat) (f : Fld) : State := (List.range 4).foldl (fun s e => s.inc (engPg c e) f 64) s

/-- The source is IDLE, or HALTED with its work done: the target is chosen, the accumulators are saved and the mover starts. -/
def migStartEffect (s : State) (l : Nat) : State :=
  match s.mig l with
  | none => s
  | some m =>
    let busy := coreState s m.source != 0 && coreState s m.source != 3
    if m.phase ≠ 1 ∨ m.rebuild ∨ busy ∨ (s.core m.source).resetAt.isSome then s
    else match s.chooseTarget m.source with
      | none => (s.noTarget m).advanceMigs
      | some t =>
        let m' : Mig := { m with phase := 2, target := t, t0 := s.now }
        ((((s.takeTarget t).countAccs m.source ENG.SPILL_CNT).modMig l (fun _ => m')).showMig m').showMover m.source

/-! ### The copy (R365 phase 2) -/

/-- The store with `n` bytes at `sa` copied to `da`: words are read corrected and keep their poison. -/
def Store.moveRange (st : Store) (sa da n : Nat) : Store :=
  let z := st.zero da n
  let z := (st.bytes.filter (fun e => decide (sa ≤ e.1) && decide (e.1 < sa + n))).foldl (fun (x : Store) e => x.setByte (da + (e.1 - sa)) e.2) z
  (st.chk.filter (fun e => decide (sa ≤ 8 * e.1) && decide (8 * e.1 < sa + n))).foldl
    (fun (x : Store) e => let o := st.word e.1; x.putWord ((da + (8 * e.1 - sa)) / 8) o.2 (decide (3 ≤ o.1))) z

/-- Core store of `c` is copied to core `d`. -/
def State.moveCs (s : State) (c d : Nat) : State := { s with cstore := s.cstore.moveRange (csBase c) (csBase d) (2 ^ 25) }

/-- Tiller local SRAM is copied. -/
def State.moveTiller (s : State) (c d : Nat) : State := { s with tsram := s.tsram.moveRange (c * 2 ^ 20) (d * 2 ^ 20) (2 ^ 20) }

def migCopyEffect (s : State) (l : Nat) : State :=
  match s.mig l with
  | none => s
  | some m =>
    if m.phase ≠ 2 then s
    else
      let k := clusPg (m.source / 4) (m.source % 4 / 2)
      let s := (s.moveCs m.source m.target).moveTiller m.source m.target
      let s := (List.range 4).foldl (fun s e => let o := (s.eng m.source e).osets; s.modEng m.target e (fun x => { x with osets := o })) s
      let s := (((s.inc k CLUS.MOVE_CNT).inc k CLUS.MOVE_BYTES 38797312).modMig l (fun x => { x with phase := 3 })).showMover m.source
      s.irq k 0

/-! ### Banks, sets and configuration of the target (R365 phase 3) -/

/-- Fields of one page take their values from another. -/
def State.copyFlds (s : State) (p q : Nat) (l : List Fld) : State := l.foldl (fun s f => s.wr q f (s.rd p f)) s

/-- One bank of the target is written as the source has it. -/
def State.moveBank (s : State) (c d e u v b : Nat) : State :=
  let st := s.bankState c e u b
  if st = 0 then s.emptyBank d e v b
  else
    let img := if st = 2 then s.rdA (engPg c e) (ENG.BANK_STATE_SHADOW (bkey u b)) else s.imgPtr c e u b
    let limit := s.rd (tilePg c e u) (limitF b)
    let old := s.bankPoisoned c e u b
    let (s, _, bad) := s.beginWrite d e v b .fill (s.bankRows c e u b) img (st == 2) limit 63
    match ((s.tile d e v).bank b).wr with
    | none => s
    | some w =>
      let s := (s.endWrite d e v b { w with poisonHit := bad || old } st limit).wrB (tilePg d e v) (sliceF b) (s.twoSlice c e u b)
      if bad && !old then s.emit (engPg d e) 0x1036 (bankAddr e v b) else s

/-- The configuration of a tile that moves with its work. -/
def tileMoves : List Fld :=
  [TILE.CFG_MERGE_EN, TILE.CFG_SKIP_EN, TILE.CFG_SPLIT_EN, TILE.CFG_SLICE_A, TILE.CFG_SLICE_B, TILE.CFG_LIMIT_A, TILE.CFG_LIMIT_B, HDR.IRQ_EN]

/-- Physical tile `u` of the source goes to physical tile `v` of the target. -/
def State.moveTile (s : State) (c d e u v : Nat) : State :=
  let s := (s.copyFlds (tilePg c e u) (tilePg d e v) tileMoves).wr (tilePg d e v) TILE.CFG_COMPUTE_BANK (s.computeBank c e u)
  (s.moveBank c d e u v 0).moveBank c d e u v 1

def engMoves : List Fld :=
  [ENG.REFRESH_CTRL_STALE_LIMIT, ENG.REFRESH_CTRL_MIN_BAND, ENG.REFRESH_CTRL_ENABLE, ENG.WEAR_CTRL_PERIOD, ENG.WEAR_CTRL_ENABLE,
   ENG.ACC_CTRL_P, ENG.ACC_CTRL_HEADROOM_EN, ENG.OUTL_CTRL_REISSUE_EN, ENG.OUTL_CTRL_DYN_EN, ENG.CAL_ROT_PERIOD_MS,
   ENG.CAL_ROT_ROT_WAIT_MS, ENG.CAL_ROT_ENABLE, ENG.CAL_TMO_TIMEOUT_US, ENG.CAL_AGE_AGE_MAX_MS, HDR.IRQ_EN]

def setMoves : List Fld :=
  (List.range 34).flatMap (fun k => [ENG.OUTL_SET_STATE k, ENG.OUTL_SET_SPARSE_N k, ENG.OUTL_SET_STATIC_N k])

/-- An accumulator tile's register, as a RESTORE leaves it. -/
def accMoves : List Fld :=
  (List.range 64).flatMap (fun a => [ENG.ACC_TILE_SAT_N a, ENG.ACC_TILE_SAT_W a, ENG.ACC_TILE_POISON a, ENG.ACC_TILE_ADDS a])

/-- Engine `e` of the target takes banks, sets, configuration and accumulators. -/
def State.moveEngine (s : State) (c d e : Nat) : State :=
  let s := s.copyFlds (engPg c e) (engPg d e) (engMoves ++ setMoves ++ accMoves)
  let accs := (s.eng c e).accs
  let s := (s.modEng d e (fun x => { x with accs := accs })).showBand d e
  let s := (List.range 16).foldl (fun s t => s.moveTile c d e (s.physTile c e t) (s.physTile d e t)) s
  if s.rd (tilePg c e 16) TILE.STAT_STANDIN_FOR = 0x1F ∧ s.rd (tilePg d e 16) TILE.STAT_STANDIN_FOR = 0x1F then s.moveTile c d e 16 16 else s

def coreMoves : List Fld :=
  [CORE.CTRL_START_SRC, CORE.CTRL_ACC_INTERLOCK, CORE.STREAM_ADDR_ADDR, CORE.TILLER_CTRL_T0_RUN, CORE.TILLER_CTRL_T1_RUN, HDR.IRQ_EN]
  ++ (List.range 64).map CORE.SEM_VALUE

def chkMoves : List Fld :=
  [CHK.CTRL_DREF, CHK.CTRL_SUSPECT_ACT, CHK.CTRL_TOL, CHK.CTRL_FRAC, CHK.STAT_FRAC_EFF, CHK.STAT_DREF_ACTIVE, CHK.SEED,
   CHK.LG_SEL_BAND, CHK.LG_SEL_TILE, CHK.LG_SEL_ENGINE, HDR.IRQ_EN]

def attnMoves : List Fld := [ATTN.CTRL_XLATE, ATTN.STAT_XLATE_ACTIVE, ATTN.XLATE_BASE_BASE, HDR.IRQ_EN]

/-- The target takes over what the source holds. -/
def State.moveCore (s : State) (c d : Nat) : State :=
  let s := s.moveCs c d
  let s := ((s.copyFlds (corePg c) (corePg d) coreMoves).copyFlds (chkPg c) (chkPg d) chkMoves).copyFlds (attnPg c) (attnPg d) attnMoves
  let s := (List.range 4).foldl (fun s e => s.moveEngine c d e) s
  let s := (List.range 68).foldl (fun s i => s.modTile d (i / 17) (i % 17) (fun x => { x with lfsr := 0 })) s
  s.countAccs d ENG.RESUME_CNT

/-! ### The end of a migration (R365 phase 5, R366, R336) -/

/-- Steps that have not sent the logical core's record send it to the target. -/
def State.redirectSteps (s : State) (c d : Nat) : State :=
  let f := fun (x : StepS) =>
    if x.unsent.any (fun u => u.1 == c) then
      { x with cores := x.cores.map (fun k => if k.1 == c && !k.2 then (d, false) else k),
               unsent := x.unsent.map (fun u => if u.1 == c then (d, u.2) else u) }
    else x
  s.modSrv (fun y => { y with steps := y.steps.map f })

/-- Core `c` may be put under test: two at once, one per die. -/
def State.testRoom (s : State) (c : Nat) : Bool :=
  decide (s.flt.testing.length < 2) && !s.flt.testing.any (fun k => k / 4 == c / 4)

def State.startTest (s : State) (c : Nat) : State :=
  let s := s.modCore c (fun x => { x with deferredAt := none })
  if s.testRoom c then { s with flt := { s.flt with testing := s.flt.testing ++ [c] } } else s

/-- What becomes of the vacated source, and a per-core reset that has waited for the migration. -/
def State.vacate (s : State) (m : Mig) : State :=
  let s := s.emptyCore m.source
  let s := if m.trigger = 1 then s.startTest m.source else s.retireCore m.source
  if (s.core m.source).resetWaits then
    let keep := (s.core m.source).preserve
    if s.rdB (rstPg (m.source / 4)) (RST.CORE_RST_ASSERT (m.source % 4)) then s.holdReset m.source keep
    else (s.resetCore m.source keep).modCore m.source (fun x => { x with resetWaits := false })
  else s

/-- `CORE_REDIR` is updated, the migration is recorded, and the records held are sent. -/
def State.endMig (s : State) (m : Mig) : State :=
  let us := (s.now - m.t0) / ticksUs
  let addr := m.target + m.logical * 2 ^ 8 + toBit m.rebuild * 2 ^ 16 + min us 0xFFFF * 2 ^ 32
  let s := ((s.wr fltPg (FLT.CORE_REDIR_VALID m.logical) 1).wr fltPg (FLT.CORE_REDIR_PHYS m.logical) m.target).dropMig m.logical
  let s := { s with nvm := { s.nvm with coreState := mput s.nvm.coreState (nvmCore m.target) 0 } }
  let s := ((s.redirectSteps m.source m.target).vacate m).emit (corePg m.source) 0xE031 addr
  let s := if !m.rebuild && decide (800 * ticksUs < s.now - m.t0) then s.emit (corePg m.source) 0xE032 0 else s
  let s := ((s.inc fltPg FLT.MIG_CNT).wr fltPg FLT.MIG_STAT_RESULT 1).showMig m
  ((s.irq fltPg 5).advanceMigs).sendUnsent

def migBanksEffect (s : State) (l : Nat) : State :=
  match s.mig l with
  | none => s
  | some m => if m.phase = 3 then (s.moveCore m.source m.target).endMig m else s

def rebuildEndEffect (s : State) (l : Nat) : State :=
  match s.mig l with
  | none => s
  | some m => if m.phase = 4 ∧ m.left.isEmpty then s.endMig m else s

/-! ### `CORE_REDIR` (R367) -/

def coreRedirEffect (s : State) (l v : Nat) : State :=
  if !s.flt.migs.isEmpty then s.refuse fltPg
  else (s.wrB fltPg (FLT.CORE_REDIR_VALID l) (bit v 31)).wr fltPg (FLT.CORE_REDIR_PHYS l) (v % 256)

/-! ### In-field test (R370, R371) -/

/-- A core holds a logical assignment: a model in the device has a shape that names the logical core it carries. -/
def State.assigned (s : State) (c : Nat) : Bool :=
  match s.logicalOf c with
  | some l => (List.range 64).any (fun m => s.mdlState m != 0 && s.shapeNames m l)
  | none => false

/-- A core in service that is to be tested moves its work away first. -/
def State.moveForTest (s : State) (c : Nat) : State :=
  ((s.modCore c (fun x => { x with deferredAt := none })).emit (corePg c) 0xE043 0).triggerMig c 1 false

def testDueEffect (s : State) (c : Nat) : State :=
  let x := s.core c
  if !s.rdB fltPg FLT.TEST_CTRL_EN || x.retired || s.flt.testing.contains c then s
  else if !s.assigned c then s.startTest c
  else if x.deferredAt.isSome || s.migrating c then s
  else if s.rd fltPg FLT.TEST_CTRL_DEFER_MAX = 0 then s.moveForTest c
  else s.modCore c (fun y => { y with deferredAt := some s.now })

def testDeferEffect (s : State) (c : Nat) : State :=
  if (s.core c).deferredAt.isNone then s else if s.assigned c then s.moveForTest c else s.startTest c

/-- Failed pairs of tile `t` of engine `e`, as (pair, banks). -/
def failedOf (l : List (Nat × Nat × Nat × Nat)) (e t : Nat) : List (Nat × Nat) :=
  (l.filter (fun x => x.1 == e && x.2.1 == t)).map (fun x => (x.2.2.1 % 256, x.2.2.2 % 4))

/-- The test's findings on a tile: its failed pairs are remapped, or it retires with reason 5 of R133. -/
def State.testTile (s : State) (c e t : Nat) (f : List (Nat × Nat)) : State :=
  let (s, ok) := s.remapFailed c e t f
  if ok || s.rdB (tilePg c e t) TILE.STAT_RETIRED then s
  else ((s.retireTile c e t 0x20).emit (tilePg c e t) 0xE041 5).irq fltPg 7

/-- A core retired by its test gives the logical core it carries to a core of the pool, if one is eligible. -/
def State.replaceCore (s : State) (c : Nat) : State :=
  match s.logicalOf c with
  | none => s
  | some l => match s.chooseTarget c with
    | none => s.wr fltPg (FLT.CORE_REDIR_VALID l) 0
    | some d =>
      let s := (s.takeTarget d).wr fltPg (FLT.CORE_REDIR_PHYS l) d
      { s with nvm := { s.nvm with coreState := mput s.nvm.coreState (nvmCore d) 0 } }

def testDoneEffect (s : State) (c : Nat) (bist : Bool) (failed : List (Nat × Nat × Nat × Nat)) : State :=
  if !s.flt.testing.contains c then s
  else
    let s := { s with flt := { s.flt with testing := s.flt.testing.filter (fun k => k != c) } }
    let s := (List.range 68).foldl (fun s i =>
      let f := failedOf failed (i / 17) (i % 17)
      if f.isEmpty then s else s.testTile c (i / 17) (i % 17) f) (s.emptyCore c)
    let s := s.modCore c (fun x => { x with lastTest := s.poweredS, tests := x.tests + 1 })
    let s := s.inc fltPg FLT.TEST_CNT
    if !bist || (List.range 4).any (fun e => !s.engineFits c e) then
      (((s.retireCore c).emit (corePg c) 0xE042 0).irq fltPg 7).replaceCore c
    else if (s.logicalOf c).isSome then s.standTiles c else s.addPool c

/-! ### Meanings -/

def execMigReq (l : Nat) (s : State) : Host.Outcome State Fault Refusal := onWf s (.migReq l) (migReqEffect s l)

def execMigMoveStart (l : Nat) (s : State) : Host.Outcome State Fault Refusal := onWf s (.migMoveStart l) (migStartEffect s l)

def execMigCopyDone (l : Nat) (s : State) : Host.Outcome State Fault Refusal := onWf s (.migCopyDone l) (migCopyEffect s l)

def execMigBanksDone (l : Nat) (s : State) : Host.Outcome State Fault Refusal := onWf s (.migBanksDone l) (migBanksEffect s l)

def execRebuildReloadEnd (l : Nat) (s : State) : Host.Outcome State Fault Refusal := onWf s (.rebuildReloadEnd l) (rebuildEndEffect s l)

def execCoreRedirWrite (l v : Nat) (s : State) : Host.Outcome State Fault Refusal := onWf s (.coreRedirWrite l v) (coreRedirEffect s l v)

def execTestDue (c : Nat) (s : State) : Host.Outcome State Fault Refusal := onWf s (.testDue c) (testDueEffect s c)

def execTestDone (c : Nat) (bist : Bool) (failed : List (Nat × Nat × Nat × Nat)) (s : State) : Host.Outcome State Fault Refusal :=
  onWf s (.testDone c bist failed) (testDoneEffect s c bist failed)

def execTestDeferExpiry (c : Nat) (s : State) : Host.Outcome State Fault Refusal := onWf s (.testDeferExpiry c) (testDeferEffect s c)

end Sys2Proof.Machine
end

