-- ==== Sys2Proof/Machine/Security.lean ====
section
/-! DEFINITION. Firmware slots, measurements, protected items, change records, debug unlock (R378 to R390). -/

namespace Sys2Proof.Machine

/-! ### Pages of a block, protected fields (R384) -/

/-- Every page of a block type. -/
def pagesOf (b : Block) : List Nat :=
  let eng := allCores.flatMap (fun c => (List.range 4).map (fun e => (c, e)))
  match b with
  | .tile => eng.flatMap (fun x => (List.range 17).map (fun t => tilePg x.1 x.2 t))
  | .eng => eng.map (fun x => engPg x.1 x.2)
  | .core => allCores.map corePg
  | .chk => allCores.map chkPg
  | .attn => allCores.map attnPg
  | .clus => computeDies.flatMap (fun d => [clusPg d 0, clusPg d 1])
  | .die => allDies.map diePage
  | .mesh => allDies.map meshPg
  | .therm => allDies.map thermPg
  | .hkadc => allDies.map hkadcPg
  | .ecc => allDies.map eccPg
  | .clk => allDies.map clkPg
  | .rst => allDies.map rstPg
  | .fltd => allDies.map fltdPg
  | .hbmc => (List.range 12).map hbmcPg
  | .plk => (List.range 16).map plkPg
  | .cxl => (List.range 4).map cxlPg
  | .kvp => (List.range 4).map kvpPg
  | .pcie => [pciePg 0, pciePg 1]
  | .ingest => [ingPg]
  | .sync => [syncPg]
  | .life => [lifePg]
  | .srv => [srvPg]
  | .flt => [fltPg]
  | .sec => [secPg]
  | .cfg2p => [cfgPg]
  | .ten => (List.range 256).map tenPg
  | .mdl => (List.range 64).map mdlPg
  | .fnw => (List.range 64).map fnPg
  | .none => []

/-- The protected fields of a block. -/
def blockProt (b : Block) : List Fld := b.fields.filter (fun f => f.acc == .rw2p)

/-- A protected field exists on a page: the remote-copy tenant of a hub is on its lowest port's page. -/
def protOn (p : Nat) (f : Fld) : Bool :=
  !(blockOf p == .plk && f == PLK.RC_TENANT_TENANT && (pageOf p).2 % 4 != 0)

/-- Every protected field with its page, in the order of the items table. -/
def protItems : List (Nat × Fld) :=
  [Block.ten, .pcie, .plk, .mesh, .flt, .chk, .cfg2p].flatMap (fun b =>
    (pagesOf b).flatMap (fun p => ((blockProt b).filter (protOn p)).map (fun f => (p, f))))

/-- An item kept in the flash copies: every one but FW_UPDATE_EN and DEBUG_UNLOCK. -/
def kept (x : Nat × Fld) : Bool := x.1 != cfgPg

/-- The values of the items kept, as the fields that differ from reset. -/
def State.protValues (s : State) : FMap Nat :=
  (protItems.filter kept).foldl (fun m x => if s.rd x.1 x.2 = x.2.reset then m else mput m (fkey x.1 x.2) (s.rd x.1 x.2)) []

/-! ### Measurements (R382) -/

def shakeBytes (l : List Byte) : List Byte := toLe 64 (Config.shake256 l)

def State.setMeas (s : State) (i : Nat) (l : List Byte) : State :=
  { s with sec := { s.sec with meas := mput s.sec.meas i (Config.shake256 l) } }

/-- Measurement 5: every protected item's value. -/
def State.meas5 (s : State) : State := s.setMeas 5 (protItems.flatMap (fun x => toLe 8 (s.rd x.1 x.2)))
def State.meas6 (s : State) : State := s.setMeas 6 (s.sec.ownerKey ++ s.sec.auditorKey)
def State.meas7 (s : State) : State :=
  s.setMeas 7 [byteOf (s.rd cfgPg CFG2P.DEBUG_UNLOCK_EN), byteOf (s.rd secPg SEC.STAT_DEBUG_OPEN)]
def State.meas8 (s : State) : State := s.setMeas 8 (toLe 2 s.sec.minSvn ++ toLe 8 s.sec.changeCnt)

/-! ### Change records (R385, R386) -/

def recHeader : Nat := 64
def keyLen : Nat := 1952
def sigLen : Nat := 3312

/-- The length of a record's body. -/
def bodyLen (kind n : Nat) : Nat := if kind = 0 then 32 * n else 2 * keyLen

/-- An item of a record: target, tenant, address, mask, value. -/
structure ChangeItem where
  target : Nat
  tenant : Nat
  addr : Nat
  mask : Nat
  value : Nat
deriving DecidableEq, Repr

def itemAt (r : List Byte) (i : Nat) : ChangeItem :=
  let a := recHeader + 32 * i
  ⟨leAt r a 1, leAt r (a + 1) 1, leAt r (a + 8) 8, leAt r (a + 16) 8, leAt r (a + 24) 8⟩

def itemsOf (r : List Byte) : List ChangeItem := (List.range (leAt r 2 2)).map (itemAt r)

/-- The register that an address names: page and offset in the page. -/
def regAt (addr : Nat) : Nat × Nat := ((addr - regBase) / 4096, (addr - regBase) % 4096)

/-- The width in bits of the register at an offset of a block's pages; none where no register begins. -/
def regWidth (b : Block) (off : Nat) : Option Nat :=
  if off = 0 ∨ off = 4 ∨ off = 0x10 ∨ off = 0x14 ∨ off = 0x18 ∨ off = 0x1C then some 32
  else match b.regs.find? (fun r => r.off == off) with
    | some r => some r.width
    | none => (b.fields.find? (fun f => f.off == off)).map (fun f => if 32 < f.lsb + f.width then 64 else 32)

/-- An item's fields are in range. -/
def itemFormat (r : List Byte) (i : Nat) : Bool :=
  let x := itemAt r i
  leAt r (recHeader + 32 * i + 2) 6 == 0 &&
    (if x.target = 1 then decide (x.addr < 64)
     else decide (x.target < 3) && x.tenant == 0 && decide (regBase ≤ x.addr) && decide (x.addr < regEnd)
      && x.addr % (if regWidth (blockOf (regAt x.addr).1) (regAt x.addr).2 = some 64 then 8 else 4) == 0)

/-- The pages an item acts on, the byte offset of its mask, and the protected fields it may reach. -/
def ChangeItem.targets (x : ChangeItem) : List Nat × Nat × List Fld :=
  if x.target = 1 then ([tenPg x.tenant], x.addr, blockProt .ten)
  else
    let q := regAt x.addr
    let l := (blockProt (blockOf q.1)).filter (fun f => f.off == q.2)
    if x.target = 0 then ([q.1], q.2, l.filter (protOn q.1)) else (pagesOf (blockOf q.1), q.2, l)

/-- Bit `i` of a mask at byte offset `o` lies in field `f`. -/
def maskIn (f : Fld) (o i : Nat) : Bool := decide (8 * f.off + f.lsb ≤ 8 * o + i) && decide (8 * o + i < 8 * f.off + f.lsb + f.width)

/-- Every masked bit lies in a protected field; a TARGET 2 address names a block that holds one. -/
def ChangeItem.covered (x : ChangeItem) : Bool :=
  let (_, o, l) := x.targets
  (bitsOf x.mask 64).all (fun i => l.any (fun f => maskIn f o i)) && (x.target != 2 || !(blockProt (blockOf (regAt x.addr).1)).isEmpty)

/-- The first item for which `p` fails. -/
def firstItem (r : List Byte) (p : Nat → Bool) : Option Nat := (List.range (leAt r 2 2)).find? (fun i => !p i)

/-- The header, the length and the padding of the signatures are as R385 states. -/
def headerFormat (r : List Byte) : Bool :=
  let kind := leAt r 1 1
  let n := leAt r 2 2
  let b := recHeader + bodyLen kind n
  leAt r 0 1 == 1 && decide (kind < 2) && (if kind = 0 then decide (1 ≤ n) && decide (n ≤ 256) else n == 0)
    && (List.range 52).all (fun i => r.getD (12 + i) 0 == 0) && r.length == b + 2 * sigLen
    && leAt r (b + 3309) 3 == 0 && leAt r (b + sigLen + 3309) 3 == 0

/-- What a party signs, as FIPS 204 forms it with the context string (R385). -/
def State.signedMsg (s : State) (r : List Byte) : List Byte :=
  let ctx := "LANHOINA-CFG2P".toList.map (fun c => byteOf c.toNat)
  let body := r.take (r.length - 2 * sigLen)
  [byteOf 0, byteOf ctx.length] ++ ctx ++ shakeBytes (body ++ toLe 32 s.sec.nonce ++ toLe 8 (Config.serial % 2 ^ 64))

/-- The keys a record is verified against: the enrolled ones, or those the first enrolment carries. -/
def State.recKeys (s : State) (r : List Byte) : List Byte × List Byte :=
  if s.sec.enrolled then (s.sec.ownerKey, s.sec.auditorKey) else ((r.drop recHeader).take keyLen, (r.drop (recHeader + keyLen)).take keyLen)

/-- The checks of R386 from ENROLMENT on, for a record whose format is right: RESULT and item, none where it passes. The first
enrolment is taken over the management port only. -/
def State.recChecks (s : State) (r : List Byte) (mgmt : Bool) : Option (Nat × Nat) :=
  let kind := leAt r 1 1
  let b := r.length - 2 * sigLen
  let keys := s.recKeys r
  let msg := s.signedMsg r
  if !s.sec.enrolled && (kind == 0 || !mgmt) then some (9, 0)
  else if leAt r 4 8 ≠ s.sec.changeCnt + 1 then some (7, 0)
  else if !Config.mlDsaVerify keys.1 msg ((r.drop b).take 3309) then some (4, 0)
  else if !Config.mlDsaVerify keys.2 msg ((r.drop (b + sigLen)).take 3309) then some (5, 0)
  else if kind ≠ 0 then none
  else (firstItem r (fun i => (itemAt r i).covered)).map (fun i => (6, i))

/-- The nonce is replaced. -/
def State.newNonce (s : State) : State :=
  let n := Config.nonce s.sec.nonceNo % 2 ^ 256
  let s := { s with sec := { s.sec with nonce := n, nonceNo := s.sec.nonceNo + 1 } }
  (List.range 8).foldl (fun s i => s.wr cfgPg (CFG2P.NONCE i) (n >>> (32 * i))) s

/-- A record is refused. -/
def State.rejectRec (s : State) (result item : Nat) : State :=
  let s := ((s.wr cfgPg CFG2P.STAT_RESULT result).wr cfgPg CFG2P.STAT_ITEM item).inc cfgPg CFG2P.REJECT_CNT
  let s := if result = 8 then s else s.emit cfgPg 0xD021 (result + item * 256)
  if result = 4 ∨ result = 5 ∨ result = 6 ∨ result = 7 then s.newNonce else s

/-- COMMIT: the record is copied and checked. -/
def cfgCommitEffect (s : State) (mgmt : Bool) : State :=
  let a := s.rdA cfgPg CFG2P.REC_ADDR_ADDR
  let n := s.rd cfgPg CFG2P.REC_LEN_LEN
  if s.power.halted || (s.frozen && !mgmt) then s.send .abort
  else if s.sec.applying.isSome then s.rejectRec 8 0
  else if s.frozen then s.rejectRec 10 0
  else if n < recHeader ∨ 16384 < n ∨ softEnd < a + n then s.rejectRec 2 0
  else
    let bad := s.devBad a n
    let s := s.touch a n
    let r := s.devRead a n
    if bad || !headerFormat r then s.rejectRec 2 0
    else match firstItem r (itemFormat r) with
      | some i => s.rejectRec 2 i
      | none => match s.recChecks r mgmt with
        | some (result, i) => s.rejectRec result i
        | none => ({ s with sec := { s.sec with applying := some r } }).wr cfgPg CFG2P.STAT_BUSY 1

/-! ### Applying a record (R387, R388, R389) -/

/-- The masked bits of one field. -/
def State.putMasked (s : State) (p o mask value : Nat) (f : Fld) : State :=
  let base := 8 * f.off + f.lsb
  let v := (List.range f.width).foldl (fun v j =>
    if 8 * o ≤ base + j ∧ mask.testBit (base + j - 8 * o) then putBit v j (value.testBit (base + j - 8 * o)) else v) (s.rd p f)
  s.set p f v

def State.applyItem (s : State) (x : ChangeItem) : State :=
  let (ps, o, l) := x.targets
  ps.foldl (fun s p => (l.filter (protOn p)).foldl (fun s f => s.putMasked p o x.mask x.value f) s) s

/-- FRAC_EFF is the larger of FRAC and MIN_FRAC (R144). -/
def State.showFrac (s : State) (c : Nat) : State :=
  let p := chkPg c
  s.set p CHK.STAT_FRAC_EFF (max (s.rd p CHK.CTRL_FRAC) (s.rd p CHK.CTRL_MIN_FRAC))

/-- The digests of the enrolled keys. -/
def State.showKeys (s : State) : State :=
  let d := fun (f : Nat → Fld) (k : List Byte) (s : State) =>
    (List.range 16).foldl (fun s i => s.wr cfgPg (f i) (Config.shake256 k % 2 ^ 512 >>> (32 * i))) s
  if s.sec.enrolled then (d CFG2P.AUDITOR_DIGEST s.sec.auditorKey (d CFG2P.OWNER_DIGEST s.sec.ownerKey s)).wr cfgPg CFG2P.STAT_ENROLLED 1 else s

/-- The flash copy with the older CHANGE_CNT is overwritten. -/
def State.saveProt (s : State) : State :=
  let new := (s.sec.changeCnt, s.protValues, true)
  let x := s.sec
  { s with sec := if x.copy1.2.2 ∧ (!x.copy0.2.2 ∨ x.copy0.1 < x.copy1.1) then { x with copy0 := new }
      else if x.copy0.2.2 then { x with copy1 := new } else { x with copy0 := new } }

/-- The mapping of a function: valid, tenant. -/
def State.fnMap (s : State) (f : Nat) : Nat × Nat :=
  (s.rd (pciePg 0) (PCIE.FUNC_MAP_VALID f), s.rd (pciePg 0) (PCIE.FUNC_MAP_TENANT f))

/-- The functions whose mapping was lost or changed against `old` are closed; how many sequences ended. -/
def State.closeRemapped (s : State) (old : State) : State × Nat :=
  (List.range 64).foldl (fun (a : State × Nat) f =>
    if (old.fnMap f).1 = 1 ∧ s.fnMap f ≠ old.fnMap f then
      let (t, n) := a.1.closeFn f
      (t, a.2 + n)
    else a) (s, 0)

/-- DEBUG_UNLOCK has changed: an unlock is recorded. -/
def State.debugChange (s : State) (was : Bool) : State :=
  if !was && s.rdB cfgPg CFG2P.DEBUG_UNLOCK_EN then ((s.emit secPg 0xD031 0).wr secPg SEC.STAT_DEBUG_OPEN 1).meas7
  else if was && !s.rdB cfgPg CFG2P.DEBUG_UNLOCK_EN then s.meas7 else s

def cfgApplyEffect (s : State) : State :=
  match s.sec.applying with
  | none => s
  | some r =>
    if s.frozen then s
    else
      let old := s
      let s := { s with sec := { s.sec with applying := none } }
      let s := if leAt r 1 1 = 0 then (itemsOf r).foldl (fun s x => s.applyItem x) s
        else
          let k := s.sec
          ({ s with sec := { k with enrolled := true, ownerKey := (r.drop recHeader).take keyLen, auditorKey := (r.drop (recHeader + keyLen)).take keyLen } }).showKeys
      let (s, n) := s.closeRemapped old
      let s := allCores.foldl (fun s c => s.showFrac c) s
      let s := s.debugChange (old.rdB cfgPg CFG2P.DEBUG_UNLOCK_EN)
      let s := ({ s with sec := { s.sec with changeCnt := s.sec.changeCnt + 1 } }).newNonce
      let s := ((s.meas5.meas6).meas8).saveProt
      let s := (((s.wr cfgPg CFG2P.STAT_BUSY 0).wr cfgPg CFG2P.STAT_RESULT 1).wr cfgPg CFG2P.STAT_ITEM 0).wr cfgPg CFG2P.CHANGE_CNT s.sec.changeCnt
      s.emitRep cfgPg 0xD022 0 n

/-! ### Firmware slots (R378, R379) -/

/-- An image passes the checks of R378. -/
def State.imagePasses (s : State) (x : FwImage) : Bool := x.keyOk && x.sigOk && decide (s.sec.minSvn ≤ x.svn)

/-- The inactive slot is written while FW_UPDATE_EN is 1, which an image that passes clears. -/
def fwSlotEffect (s : State) (x : FwImage) : State :=
  if !s.rdB cfgPg CFG2P.FW_UPDATE_EN_EN || s.power.halted then s
  else
    let k := s.sec
    let s := { s with sec := if s.rd secPg SEC.STAT_IMAGE = 0 then { k with slotB := some x } else { k with slotA := some x } }
    if s.imagePasses x then (s.wr cfgPg CFG2P.FW_UPDATE_EN_EN 0).meas5 else s

/-! ### Meanings -/

def execCfg2pCommit (mgmt : Bool) (s : State) : Host.Outcome State Fault Refusal := onWf s (.cfg2pCommit mgmt) (cfgCommitEffect s mgmt)

def execCfg2pApply (s : State) : Host.Outcome State Fault Refusal := onWf s .cfg2pApply (cfgApplyEffect s)

def execFwSlotWrite (img : FwImage) (s : State) : Host.Outcome State Fault Refusal := onWf s (.fwSlotWrite img) (fwSlotEffect s img)

end Sys2Proof.Machine
end

