-- ==== Sys2Proof/Machine/Power.lean ====
section
/-! DEFINITION. Power-on and warm resets, PERST#, and start-up stage by stage (R11, R278, R279, R287, R333, R378 to R382, R391 to
R400, R423, R424, R427, R428). -/

namespace Sys2Proof.Machine

/-! ### Resets of the whole package (R333, R392) -/

/-- What the enclave and the flash die keep over a reset; the identity key is kept over a warm one only. -/
def SecS.over (k : SecS) (cold : Bool) : SecS := { k with applying := none, meas := [], idOk := !cold && k.idOk }

/-- What of the power record outlives a reset: the pins, and the housekeeping rounds that powered time is counted in, which begin
anew at power-on. -/
def PowerS.over (w : PowerS) (cold : Bool) : PowerS :=
  { State.reset.power with
    pwrgood := w.pwrgood, perstHost := w.perstHost, perstIngest := w.perstIngest, thermtrip := !cold && w.thermtrip, jtag := w.jtag,
    roundNo := if cold then 0 else w.roundNo, lastFoldRound := if cold then 0 else w.lastFoldRound }

/-- What REFCLK, the PLLs and the cause of the reset show on die `d` after it. -/
def State.showClocks (s : State) (old : State) (cold : Bool) (cause d : Nat) : State :=
  let s := (s.wr (rstPg d) RST.LAST_CAUSE_CAUSE cause).wr (clkPg d) CLK.STAT_REFCLK_OK 1
  if cold then s else s.wr (clkPg d) CLK.STAT_PLL_LOCK (old.rd (clkPg d) CLK.STAT_PLL_LOCK)

/-- A power-on reset (`cold`) or a warm reset: every register and every unit is in its reset record; what lies in memories outside
the package, event NVM and the flash die stays. On-package memories are cleared by start-up. -/
def State.wipe (s : State) (cold : Bool) (cause : Nat) : State :=
  let t := { State.reset with
    now := s.now, sclk0 := s.now, fresh := s.fresh, dev := s.dev, host := s.host, cstore := s.cstore, tsram := s.tsram,
    nvm := { s.nvm with latched := !cold && s.nvm.latched }, sec := s.sec.over cold, power := s.power.over cold, out := s.out, pending := s.pending }
  let t := (List.range 40).foldl (fun t d => t.showClocks s cold cause d) t
  (t.wrB (diePage 16) DIE.BOOT_STAT_WARM (!cold)).wrB fltPg FLT.STAT_LATCHED t.nvm.latched

/-- Start-up is released (R391). -/
def State.release (s : State) : State :=
  { s with power := { s.power with started := true, running := [0], ended := [], release := s.now, warm := false } }

/-- Every rail and REFCLK stand: power-on, and start-up is released at once (R423). -/
def pwrgoodEffect (s : State) (railsOk refclkOk : Bool) : State :=
  if s.power.pwrgood || !railsOk || !refclkOk then s
  else (({ s with power := { s.power with pwrgood := true } }).wipe true 0).release

/-- Removal of power: every core halts and every link goes quiet; no fault is recorded (R424). -/
def pwrgoodOffEffect (s : State) : State :=
  if !s.power.pwrgood then s
  else
    let s := if s.power.halted then s else s.haltAll
    { s with power := { s.power with pwrgood := false, halted := true, hostUp := false, ingestUp := false } }

/-- A warm reset is performed; start-up waits for the release of PERST# where it is asserted. -/
def State.warmNow (s : State) (cause : Nat) (wait : Bool) : State :=
  let s := s.wipe false cause
  if wait then { s with power := { s.power with warm := true } } else s.release

/-- PERST# of the host port is asserted (R428). -/
def perstHostEffect (s : State) : State :=
  let w := s.power
  if w.perstHost then s
  else
    let s := { s with power := { w with perstHost := true } }
    if !w.pwrgood || s.frozen then s else s.warmNow 1 true

def perstHostOffEffect (s : State) : State :=
  let s := { s with power := { s.power with perstHost := false } }
  if s.power.warm then s.release else s

/-- The ingest port's PERST# resets its endpoint's link (R314, R333). -/
def perstIngestEffect (s : State) (v : Bool) : State :=
  let s := { s with power := { s.power with perstIngest := v } }
  if v then ingestDownEffect s else s

/-- A warm reset is requested: cause 1 is PERST#, cause 2 the management die, which asks for one at the end of a recovery or with
no F fault in force (R361, R428). -/
def warmResetEffect (s : State) (cause : Nat) : State :=
  let w := s.power
  if !w.pwrgood || w.halted then s
  else if cause = 1 then (if s.frozen then s else s.warmNow 1 w.perstHost)
  else if s.frozen && s.flt.fCode != 0 then s
  else s.warmNow 2 false

/-! ### Start-up stages 0 to 3 (R278, R327, R378, R379, R381) -/

/-- What a stage did, and whether it ended: start-up stops on an F fault. -/
abbrev StageOut := State × Bool

def stage0 (s : State) : StageOut := (allDies.foldl (fun s d => s.wr (clkPg d) CLK.STAT_PLL_LOCK 1) s, true)

/-- The image a slot holds: one written in the field, or the one it was shipped with. -/
def State.slotImage (s : State) (i : Nat) : FwImage :=
  (if i = 0 then s.sec.slotA else s.sec.slotB).getD ⟨true, true, Config.shippedSvn i % 65536, false⟩

/-- A measurement of bytes that the model does not hold: a free value. -/
def State.freeMeas (s : State) (i : Nat) : State :=
  ({ s with sec := { s.sec with meas := mput s.sec.meas i (s.freeBits 512) } }).takeFree

/-- The first stage runs from slot `i`; RAISE raises MIN_SVN. -/
def State.bootSlot (s : State) (i : Nat) : State :=
  let x := s.slotImage i
  let s := (s.wr secPg SEC.STAT_IMAGE i).wr secPg SEC.STAT_SVN x.svn
  let s := if x.raise then { s with sec := { s.sec with minSvn := max s.sec.minSvn x.svn } } else s
  let s := { s with sec := { s.sec with meas := mput s.sec.meas 1 (Config.romDigest % 2 ^ 512) } }
  (s.freeMeas 2).meas8

def stage1 (s : State) (r : StageResult) : StageOut :=
  let pass := fun i => (if i = 0 then r.slotAOk else r.slotBOk) && s.imagePasses (s.slotImage i)
  let a := s.rd secPg SEC.BOOT_PREFER
  if pass a then (s.bootSlot a, true)
  else
    let s := s.emit secPg 0xD011 0
    if pass (1 - a) then (s.bootSlot (1 - a), true) else ((s.emit secPg 0xD011 0).emit secPg 0xD012 0, false)

def stage2 (s : State) (r : StageResult) : StageOut :=
  let warm := s.rdB (diePage 16) DIE.BOOT_STAT_WARM
  let ok := if warm then s.sec.idOk else r.keyMatch
  let s := { s with sec := { s.sec with idOk := ok } }
  let s := if ok || warm then s else s.emit secPg 0xD014 0
  ((s.wrB secPg SEC.STAT_ID_OK ok).newNonce, true)

/-- An SRAM fails its test. -/
def State.sramFails (s : State) (d id : Nat) : State :=
  let p := eccPg d
  let s := if s.rdB p ECC.STAT_SRAM_FAIL then s else (s.wr p ECC.STAT_SRAM_FAIL 1).wr p ECC.SRAM_FAIL_ID_ID id
  let s := s.emit p 0x6041 0
  if isCompute d then
    let c := 4 * d + Config.sramCore d id % 4
    if (s.core c).retired then s else (s.retireCore c).emit (corePg c) 0xE042 0
  else s

def stage3 (s : State) (r : StageResult) : StageOut :=
  let l := r.failedSrams.filter (fun x => decide (x.1 < 40))
  let s := { s with cstore := ⟨[], []⟩, tsram := ⟨[], []⟩ }
  let s := l.foldl (fun s x => s.sramFails x.1 (x.2 % 65536)) s
  if l.any (fun x => !isCompute x.1) then (s, false)
  else (allDies.foldl (fun s d => s.wr (eccPg d) ECC.STAT_SRAM_TEST_DONE 1) s, true)

/-! ### Stage 4 (R316, R380, R397) -/

/-- The valid flash copy of the protected items with the higher CHANGE_CNT (R384). -/
def State.protCopy (s : State) : Option (FMap Nat) :=
  let a := s.sec.copy0
  let b := s.sec.copy1
  if a.2.2 ∧ (!b.2.2 ∨ b.1 ≤ a.1) then some a.2.1 else if b.2.2 then some b.2.1 else none

/-- The fields marked "fr" on die `d`. -/
def State.loadRecord (s : State) (d : Nat) : State :=
  let p := diePage d
  let s := s.wrB p DIE.INFO_SPARE_FR (d == Config.spare0 || d == Config.spare1)
  let s := ((s.wr p DIE.FR_INFO_SPARE0 Config.spare0).wr p DIE.FR_INFO_SPARE1 Config.spare1).wrB p DIE.FR_INFO_CLASS_E Config.classE
  let s := ((s.wr p DIE.FR_INFO_STEPPING 2).wr p DIE.SERIAL Config.serial).wr p DIE.STAT_FR_LOADED 1
  if !isCompute d then s
  else (List.range 272).foldl (fun s i =>
    let c := 4 * d + i / 68
    s.wr (tilePg c (i / 17 % 4) (i % 17)) TILE.TEMP_COMP_KT (Config.kt c (i / 17 % 4) (i % 17))) s

def stage4 (s : State) (r : StageResult) : StageOut :=
  if !r.factoryOk then (s.emit secPg 0xD013 0, false)
  else
    let s := allDies.foldl (fun s d => s.loadRecord d) s
    let s := match s.protCopy with
      | some m => s.set fltPg FLT.CTRL_COMPAT (mget m FLT.CTRL_COMPAT.reset (fkey fltPg FLT.CTRL_COMPAT))
      | none => s
    let s := (s.showKeys).wr cfgPg CFG2P.CHANGE_CNT s.sec.changeCnt
    let s := { s with sec := { s.sec with meas := mput s.sec.meas 4 (Config.factoryDigest % 2 ^ 512) } }
    let s := (((s.freeMeas 3).meas6).meas7)
    let s := if s.power.hostUp then s.wr (pciePg 0) PCIE.STAT_CFG_READY 1 else s
    (if s.power.ingestUp then s.wr (pciePg 1) PCIE.STAT_CFG_READY 1 else s, true)

/-! ### Stage 5 (R287 to R289, R396) -/

/-- The dies that a set of dies reaches in `n` more hops. -/
def State.reachN (s : State) : Nat → List Nat → List Nat
  | 0, l => l
  | n + 1, l =>
    State.reachN s n (l ++ (allDies.filter (fun d => !l.contains d && (List.range 4).any (fun p =>
      s.portUp d p && (neighbour d p).any (fun e => l.contains e)))))

/-- Firmware's routes around the connections that are down: entries over ports that are up, free otherwise (log 36). -/
def State.bootRoutes (s : State) (down : List (Nat × Nat)) (near : List Nat) : State :=
  allDies.foldl (fun s d =>
    let k := meshPg d
    let up := (List.range 4).filter (fun p => s.portUp d p)
    allDies.foldl (fun s dst =>
      if d = dst then s
      else
        let v := Config.bootRoute down d dst
        let pri := up.getD (v % up.length) (s.rd k (MESH.ROUTE_PRIMARY dst))
        let alt := up.getD (v / 4 % up.length) (s.rd k (MESH.ROUTE_ALT dst))
        (((s.wr k (MESH.ROUTE_PRIMARY dst) pri).wr k (MESH.ROUTE_ALT dst) alt).wrB k (MESH.ROUTE_ALT_VALID dst) (alt != pri)).wrB k
          (MESH.ROUTE_UNREACHABLE dst) (near.contains d != near.contains dst)) s) s

/-- A connection fails training at one end. -/
def State.linkFails (s : State) (d p : Nat) : State :=
  let k := meshPg d
  if !s.portUp d p then s
  else
    let s := (s.wr k MESH.STAT_UP (putBit (s.rd k MESH.STAT_UP) p false)).modDie d (fun x => { x with down := x.down ++ [p] })
    ((s.emit k 0x9012 0).irq k 0).logRetired 4 d p 0x9012

/-- A die that no connection reaches: a compute die's cores are unavailable for this start-up. -/
def State.dieCut (s : State) (d : Nat) : State :=
  let s := s.emitR (faultRec s (fltdPg 16) 0x9013 d 0xFFFF none 1 d)
  s.modDie d (fun x => { x with lost := x.lost || isCompute d })

def stage5 (s : State) (r : StageResult) : StageOut :=
  let ends := (r.downLinks.filter (fun x => decide (x.1 < 40) && decide (x.2 < 4))).flatMap (fun x => linkEnds x.1 x.2)
  if ends.isEmpty then (s, true)
  else
    let s := ends.foldl (fun s x => s.linkFails x.1 x.2) s
    let near := s.reachN 40 [16]
    let cut := allDies.filter (fun d => !near.contains d)
    let s := cut.foldl (fun s d => s.dieCut d) (s.bootRoutes ends near)
    let s := s.modDie 16 (fun x => { x with unreachSaid := cut })
    (s, cut.all isCompute)

/-! ### Stages 6 to 8 (R136, R138, R266, R277, R279, R370, R393, R396) -/

/-- Cores that start-up works with: neither retired nor on a die that is lost. -/
def State.available (s : State) : List Nat := allCores.filter (fun c => !(s.core c).retired && !(s.die (c / 4)).lost)

/-- Restore of one tile from its saved image, or its rejection on content. -/
def State.restoreTile (s : State) (c e t : Nat) (img : List Byte) : State :=
  if imageOk c e t img then s.loadImage c e t img else s.rejectImage c e t 2

/-- Stage 8 begins on one engine: restore where every tile has a saved image, the whole procedure otherwise. -/
def State.startEngine (s : State) (c e : Nat) : State :=
  let imgs := (List.range 17).map (fun t => mfind s.sec.calImages (nvmTile c e t))
  let s := s.wr (engPg c e) ENG.CAL_ROT_STAT_NEXT ((4 * c + e) % 17)
  if imgs.all Option.isSome then imgs.zipIdx.foldl (fun s x => s.restoreTile c e x.2 (x.1.getD [])) s
  else
    let s := (List.range 17).foldl (fun s t => s.setCalPhase c e t 6) s
    s.modEng c e (fun x => { x with rot := { RotS.init with phase := .startup, stage := 1 } })

def stage6 (s : State) (r : StageResult) : StageOut :=
  let s := (r.bistFailed.filter (fun c => s.available.contains c)).eraseDups.foldl (fun s c => (s.retireCore c).emit (corePg c) 0xE042 0) s
  let s := { s with power := { s.power with running := [7, 8] } }
  (s.available.foldl (fun s c => (List.range 4).foldl (fun s e => s.startEngine c e) s) s, true)

/-- One CXL port trains at start-up; what it fits is in the answer. -/
def State.trainCxl (s : State) (p cap : Nat) : State × Nat :=
  let k := cxlPg p
  if !s.rdB k CXL.CTRL_ENABLE then (s, 0)
  else if cap = 0 then (s.emit k 0xA022 0, 0)
  else ((((s.wr k CXL.STAT_UP 1).wr k CXL.STAT_WIDTH 16).wr k CXL.STAT_RATE 6).wr k CXL.CAPACITY cap, min (cap / 4096 * 4096) (2 ^ 40))

def stage7 (s : State) (r : StageResult) : StageOut :=
  let bad := r.hbmFailed.filter (fun k => decide (k < 12))
  if !bad.isEmpty then (bad.foldl (fun s k => s.emit (hbmcPg k) 0x6051 0) s, false)
  else
    let s := (List.range 12).foldl (fun s k => s.modStack k (fun x => { x with remap := mget s.sec.remaps [] k })) s
    let s := { s with dev := s.dev.zero 0 tier1End }
    let (s, fit) := (List.range 4).foldl (fun (a : State × List Nat) p =>
      let (s, n) := a.1.trainCxl p (r.cxlCaps.getD p 0)
      (s, a.2 ++ [n])) (s, [])
    let same := fit.headD 0 != 0 && fit.all (fun n => n == fit.headD 0)
    (({ s with power := { s.power with t2Caps := fit } }).wrB (eccPg 10) ECC.STAT_T2_INTLV same, true)

/-- Every tile of the available cores is in service or retired. -/
def State.calDone (s : State) : Bool := s.available.all (fun c => (List.range 4).all (fun e => s.calibrated c e))

/-! ### Stage 9 (R384, R393 to R395) -/

/-- The protected items are written back. -/
def State.restoreProt (s : State) : State :=
  match s.protCopy with
  | none => s.emit secPg 0xD032 0
  | some m => ((protItems.filter kept).foldl (fun s x => s.set x.1 x.2 (mget m x.2.reset (fkey x.1 x.2))) s).wr secPg SEC.STAT_CFG_RESTORED 1

/-- A tile that event NVM holds as retired is retired again. -/
def State.reretire (s : State) (c e t : Nat) : State :=
  let x := mget s.nvm.tileState (0, 0) (nvmTile c e t)
  let p := tilePg c e t
  if x.1 ≠ 2 ∨ s.rdB p TILE.STAT_RETIRED then s
  else
    let s := (((s.wr p TILE.CTRL_ENABLE 0).wr p TILE.STAT_SUSPECT 1).wr p TILE.STAT_RETIRED 1).wr p TILE.STAT_IN_SERVICE 0
    let s := ((s.modTile c e t (fun y => { y with reason := x.2 })).emptyBank c e t 0).emptyBank c e t 1
    if t = 16 then s.stopRotation c e else s

/-- A core's state in event NVM: 0 service, 1 pool, 2 retired; at shipment the spare dies' cores are the pool (R19, R372). -/
def State.nvmCoreState (s : State) (c : Nat) : Nat :=
  mget s.nvm.coreState (toBit (c / 4 == Config.spare0 || c / 4 == Config.spare1)) (nvmCore c)

/-- Retired tiles and cores of event NVM are retired again (R394). -/
def State.reapply (s : State) : State :=
  let s := allCores.foldl (fun s c => if s.nvmCoreState c = 2 then s.modCore c (fun x => { x with retired := true }) else s) s
  s.available.foldl (fun s c => ((List.range 68).foldl (fun s i => s.reretire c (i / 17) (i % 17)) s).standTiles c) s

/-- The logical cores (R395). -/
def logicalCores : List Nat := allCores.filter (fun c => c / 4 != Config.spare0 && c / 4 != Config.spare1)

/-- Logical core `l` is placed on core `c`. -/
def State.place (s : State) (l c : Nat) : State :=
  let s := (s.wr fltPg (FLT.CORE_REDIR_VALID l) 1).wr fltPg (FLT.CORE_REDIR_PHYS l) c
  if s.nvmCoreState c = 0 then s else { s with nvm := { s.nvm with coreState := mput s.nvm.coreState (nvmCore c) 0 } }

/-- The placement of the logical cores that cannot keep their own: from cores in service that no one claims, then from the pool. -/
def State.placeRest (s : State) : List Nat → List Nat → State × List Nat
  | [], free => (s, free)
  | l :: rest, free =>
    let key := fun c => (if c / 4 = l / 4 then 0 else 1000000) + dieHops (l / 4) (c / 4) * 1000 + c
    let ok := free.filter s.eligible
    match minBy key (ok.filter (fun c => s.nvmCoreState c == 0)) with
    | some c => State.placeRest (s.place l c) rest (free.filter (fun k => k != c))
    | none => match minBy key ok with
      | some c => State.placeRest (s.place l c) rest (free.filter (fun k => k != c))
      | none => State.placeRest s rest free

/-- `FLT.CORE_REDIR` and the pool are filled (R395). -/
def State.fillRedir (s : State) : State :=
  let own := logicalCores.filter (fun l => s.available.contains l && s.nvmCoreState l == 0 && s.eligible l)
  let s := own.foldl (fun s l => s.place l l) s
  let (s, free) := s.placeRest (logicalCores.filter (fun l => !own.contains l)) (s.available.filter (fun c => !own.contains c))
  free.foldl (fun s c => s.addPool c) s

/-- The calibration images of every tile of the cores in use go into the flash die. -/
def State.saveImages (s : State) : State :=
  let l := s.available.flatMap (fun c => (List.range 68).map (fun i => (nvmTile c (i / 17) (i % 17), s.calImage c (i / 17) (i % 17))))
  { s with sec := { s.sec with calImages := l.foldl (fun m x => mput m x.1 x.2) s.sec.calImages } }

/-- The eighth recovery within 24 hours has completed (R361). -/
def State.latchRecovery (s : State) : State :=
  if s.rd (rstPg 16) RST.LAST_CAUSE_CAUSE ≠ 2 ∨ s.recov24h < 8 ∨ s.rdB fltPg FLT.STAT_LATCHED then s
  else (({ s with nvm := { s.nvm with latched := true } }).wr fltPg FLT.STAT_LATCHED 1).emit fltPg 0xE022 0

def stage9 (s : State) : StageOut :=
  let s := allCores.foldl (fun s c => s.showFrac c) s.restoreProt
  let s := ((s.meas5).reapply).fillRedir
  let s := if s.rdB (diePage 16) DIE.BOOT_STAT_FULL_CAL then s.saveImages else s
  let s := ((s.wr (pciePg 0) PCIE.STAT_DEV_READY 1).wr (pciePg 1) PCIE.STAT_DEV_READY 1).wr (diePage 16) DIE.BOOT_STAT_DONE 1
  (s.latchRecovery, true)

/-! ### The end of a stage (R391, R396, R400) -/

def stageWork (s : State) (n : Nat) (r : StageResult) : StageOut :=
  match n with
  | 0 => stage0 s
  | 1 => stage1 s r
  | 2 => stage2 s r
  | 3 => stage3 s r
  | 4 => stage4 s r
  | 5 => stage5 s r
  | 6 => stage6 s r
  | 7 => stage7 s r
  | 8 => (s, s.calDone)
  | _ => stage9 s

/-- The stages that begin when stage `n` has ended. -/
def nextStages (ended : List Nat) (n : Nat) : List Nat :=
  if n < 6 then [n + 1] else if n = 6 then [7, 8]
  else if (n = 7 ∨ n = 8) ∧ ended.contains 7 ∧ ended.contains 8 then [9] else []

/-- Stage `n` ends with the findings `r`. A stage that meets an F fault stops start-up; stage 8 runs on until every tile is
through. -/
def stageEndEffect (s : State) (n : Nat) (r : StageResult) : State :=
  let w := s.power
  if !w.started || !w.running.contains n || s.frozen then s
  else if n = 8 && !s.calDone then s
  else
    let (s, ok) := stageWork s n r
    if !ok then { s with power := { s.power with running := [] } }
    else
      let ended := s.power.ended ++ [n]
      let running := w.running.filter (fun k => k != n) ++ nextStages ended n
      let s := { s with power := { s.power with ended := ended, running := running } }
      let s := s.wr (diePage 16) (DIE.BOOT_T n) ((s.now - w.release) / ticksUs)
      s.wr (diePage 16) DIE.BOOT_STAT_STAGE (if running.isEmpty then n else maxN running)

/-! ### Meanings -/

def execPwrgoodAssert (railsOk refclkOk : Bool) (s : State) : Host.Outcome State Fault Refusal :=
  onWf s (.pwrgoodAssert railsOk refclkOk) (pwrgoodEffect s railsOk refclkOk)

def execPwrgoodDeassert (s : State) : Host.Outcome State Fault Refusal := onWf s .pwrgoodDeassert (pwrgoodOffEffect s)

def execPerstHostAssert (s : State) : Host.Outcome State Fault Refusal := onWf s .perstHostAssert (perstHostEffect s)

def execPerstHostDeassert (s : State) : Host.Outcome State Fault Refusal := onWf s .perstHostDeassert (perstHostOffEffect s)

def execPerstIngest (v : Bool) (s : State) : Host.Outcome State Fault Refusal := onWf s (.perstIngest v) (perstIngestEffect s v)

def execWarmReset (cause : Nat) (s : State) : Host.Outcome State Fault Refusal := onWf s (.warmReset cause) (warmResetEffect s cause)

def execStartupStageEnd (n : Nat) (r : StageResult) (s : State) : Host.Outcome State Fault Refusal :=
  onWf s (.startupStageEnd n r) (stageEndEffect s n r)

end Sys2Proof.Machine
end

