-- ==== Sys2Proof/Machine/Nvm.lean ====
section
/-! DEFINITION. The lifetime record: the hourly fold, and event NVM as the LIFE page reads it (R372, R373, R377). -/

namespace Sys2Proof.Machine

/-! ### The fold (R373) -/

/-- What a tile has counted since the last fold; an hour of stress goes to the compute bank of a tile in service. -/
def State.foldTile (s : State) (c e t : Nat) : State :=
  let x := s.tile c e t
  let p := tilePg c e t
  let i := nvmTile c e t
  let n := s.nvm
  let hot := s.rdB p TILE.STAT_IN_SERVICE
  let b := s.computeBank c e t
  let st := mget n.stress (0, 0) i
  let old := mget n.tileState (0, 0) i
  let k := max old.1 (if s.rdB p TILE.STAT_RETIRED then 2 else s.rd p TILE.STAT_SUSPECT)
  let spares := ((List.range 4).filter (fun j => s.rdB p (TILE.COLMAP_VALID j))).length
  let put := fun (m : FMap Nat) (v : Nat) => if mget m 0 i = v then m else mput m i v
  let n := { n with
    tileWrites := put n.tileWrites (satAdd 48 (mget n.tileWrites 0 i) x.writes),
    stress := if hot then mput n.stress i (if b = 0 then (satAdd 16 st.1 1, st.2) else (st.1, satAdd 16 st.2 1)) else n.stress,
    gainPeak := put n.gainPeak (max (mget n.gainPeak 0 i) x.gainPeak),
    spares := put n.spares (max (mget n.spares 0 i) spares),
    transients := put n.transients (satAdd 16 (mget n.transients 0 i) x.transients),
    tileState := if k = old.1 then n.tileState else mput n.tileState i (k, if k = 2 then x.reason else 0) }
  let s := { s with nvm := n }
  if x.writes = 0 ∧ x.transients = 0 then s else s.modTile c e t (fun y => { y with writes := 0, transients := 0 })

/-- Whole minutes that a die's hottest sensor has spent in each bin: 30,000 rounds of 2 ms. -/
def State.foldHeat (s : State) (d : Nat) : State :=
  let l := (s.die d).heat.filter (fun e => decide (30000 ≤ e.2))
  let m := l.foldl (fun m e => mput m (d * 16 + e.1) (mget m 0 (d * 16 + e.1) + e.2 / 30000)) s.nvm.minutes
  if l.isEmpty then s
  else ({ s with nvm := { s.nvm with minutes := m } }).modDie d (fun x => { x with heat := x.heat.map (fun (e : Nat × Nat) => (e.1, e.2 % 30000)) })

/-- The summary of one band of a core's error ledger: N and MISMATCH grow by what has not been folded, the ratio is that of the
ledger as it stands; where Σe² is 0 the ratio is a free value. -/
def State.foldBand (s : State) (c band : Nat) : State :=
  let l := ((s.core c).ledger.filter (fun e => e.1 % 6 == band)).map (fun e => e.2)
  let n := sumN (l.map (fun x => x.n))
  let mis := sumN (l.map (fun x => x.mismatch))
  let d2 := sumN (l.map (fun x => x.sumD2))
  let e2 := sumN (l.map (fun x => x.sumE2))
  let was := mget (s.core c).folded (0, 0) band
  if n = was.1 ∧ mis = was.2 then s
  else
    let k := nvmCore c * 6 + band
    let old := mget s.nvm.ledger (0, 0, 0) k
    let ppm := if e2 = 0 then s.freeBits 32 else min (isqrt (d2 * 10 ^ 12 / e2)) (2 ^ 32 - 1)
    let s := if e2 = 0 then s.takeFree else s
    let v := (old.1 + (n - was.1), ppm, satAdd 32 old.2.2 (mis - was.2))
    ({ s with nvm := { s.nvm with ledger := mput s.nvm.ledger k v } }).modCore c (fun x => { x with folded := mput x.folded band (n, mis) })

/-- The retirements since the last fold enter the ring. -/
def State.foldRetired (s : State) : State :=
  let n := s.flt.retiredLog.foldl (fun (n : NvmS) x => { n with retired := mput n.retired (n.retiredN % 256) x, retiredN := n.retiredN + 1 }) s.nvm
  { s with nvm := n, flt := { s.flt with retiredLog := [] } }

/-- An hour of powered time has passed. Calibration images are written again after every 24 hours (R393). Power that fails in a
fold leaves it torn. -/
def lifetimeFoldEffect (s : State) : State :=
  if !s.power.pwrgood then (if s.power.started then { s with nvm := { s.nvm with torn := true } } else s)
  else if s.power.halted then s
  else
    let at0 : Nat := s.nvm.poweredS
    let s := allCores.foldl (fun s c => (List.range 68).foldl (fun s i => s.foldTile c (i / 17) (i % 17)) s) s
    let s := allDies.foldl (fun s d => s.foldHeat d) s
    let s := allCores.foldl (fun s c => (List.range 6).foldl (fun s b => s.foldBand c b) s) s
    let s := s.foldRetired
    let p : Nat := s.poweredS
    let s := { s with nvm := { s.nvm with poweredS := p, foldGen := (s.nvm.foldGen + 1) % 2 ^ 32, torn := false },
                      power := { s.power with lastFoldRound := s.power.lastFoldRound + (p - at0) * 500 } }
    let s := (s.inc lifePg LIFE.FOLD_CNT).wr lifePg LIFE.LAST_FOLD s.sclk
    if decide (at0 / 86400 < p / 86400) && s.rdB (diePage 16) DIE.BOOT_STAT_DONE then s.saveImages else s

/-! ### The layout (R372) -/

/-- Header bytes 0 to 4,091. -/
def State.nvmHeader (s : State) : List Byte :=
  let n := s.nvm
  let l := (List.range 8).flatMap (fun i => toLe 8 (n.recoveries.getD i 0))
  let b := toLe 1 1 ++ toLe 1 (toBit n.torn + 2 * toBit n.latched) ++ toLe 2 0 ++ toLe 4 n.foldGen ++ toLe 8 n.poweredS
    ++ toLe 8 (Config.serial % 2 ^ 64) ++ toLe 4 (n.faultN % 1024) ++ toLe 4 (n.thermalN % 64) ++ l ++ allCores.map (fun c => byteOf (s.nvmCoreState c))
  b ++ List.replicate (4092 - b.length) 0

/-- The 16 bytes of tile `i`. -/
def State.nvmTileBytes (s : State) (i : Nat) : List Byte :=
  let n := s.nvm
  let st := mget n.stress (0, 0) i
  let k := mget n.tileState (0, 0) i
  toLe 6 (mget n.tileWrites 0 i) ++ toLe 2 st.1 ++ toLe 2 st.2 ++ toLe 1 (mget n.gainPeak 0 i) ++ toLe 1 (mget n.spares 0 i % 8)
    ++ toLe 2 (mget n.transients 0 i) ++ toLe 1 k.1 ++ toLe 1 k.2

def State.nvmBandBytes (s : State) (k : Nat) : List Byte :=
  let x := mget s.nvm.ledger (0, 0, 0) k
  toLe 8 x.1 ++ toLe 4 x.2.1 ++ toLe 4 x.2.2

def State.nvmRetiredBytes (s : State) (i : Nat) : List Byte :=
  match mfind s.nvm.retired i with
  | some (t, kind, die, unit, code) => toLe 8 t ++ toLe 1 kind ++ toLe 1 die ++ toLe 2 unit ++ toLe 2 code ++ toLe 2 0
  | none => List.replicate 16 0

/-- The check word over the header and the lifetime areas. -/
def State.nvmCrc (s : State) : Nat :=
  crc32 (s.nvmHeader ++ (List.range 9248).flatMap (fun i => s.nvmTileBytes i) ++ (List.range 640).flatMap (fun i => toLe 4 (mget s.nvm.minutes 0 i))
    ++ (List.range 816).flatMap (fun i => s.nvmBandBytes i) ++ (List.range 256).flatMap (fun i => s.nvmRetiredBytes i))

/-- The 8 bytes at an aligned address of event NVM. -/
def State.nvmAt (s : State) (a : Nat) : List Byte :=
  let part := fun (base size : Nat) (f : Nat → List Byte) => ((f ((a - base) / size)).drop ((a - base) % size)).take 8
  if a < 0x1000 then ((s.nvmHeader ++ (if a = 0xFF8 then toLe 4 s.nvmCrc else [])).drop a).take 8
  else if a < 0x2000 then part 0x1000 64 (fun i => mget s.nvm.thermal (List.replicate 64 0) i)
  else if a < 0xA000 then part 0x2000 32 (fun i => match mfind s.nvm.faults i with
    | some r => r.bytes
    | none => List.replicate 32 0)
  else if a < 0x2E200 then part 0xA000 16 (fun i => s.nvmTileBytes i)
  else if a < 0x2EC00 then part 0x2E200 8 (fun i => toLe 4 (mget s.nvm.minutes 0 (2 * i)) ++ toLe 4 (mget s.nvm.minutes 0 (2 * i + 1)))
  else if a < 0x31F00 then part 0x2EC00 16 (fun i => s.nvmBandBytes i)
  else if a < 0x32F00 then part 0x31F00 16 (fun i => s.nvmRetiredBytes i)
  else List.replicate 8 0

/-- A read of NVM_DATA delivers 8 bytes and moves NVM_ADDR on. -/
def nvmReadEffect (s : State) : State :=
  if s.power.halted then s.send .abort
  else
    let a := s.rdA lifePg LIFE.NVM_ADDR_ADDR
    (s.send (.readValue (ofLe (s.nvmAt a)))).wrA lifePg LIFE.NVM_ADDR_ADDR ((a + 8) % 0x40000)

/-! ### Meanings -/

def execLifetimeFold (s : State) : Host.Outcome State Fault Refusal := onWf s .lifetimeFold (lifetimeFoldEffect s)

def execNvmDataRead (s : State) : Host.Outcome State Fault Refusal := onWf s .nvmDataRead (nvmReadEffect s)

end Sys2Proof.Machine
end

