-- ==== Sys2Proof/Machine/Sequencer.lean ====
section
/-! DEFINITION. The core family: the sequencer's commands, DMA, the tiller mailboxes, starts and halts (R172 to R190). -/

namespace Sys2Proof.Machine

/-! ### Sequencer commands (R176, R178, R179, R186) -/

/-- A sequencer command of opcode `op` at the dispatch point finishes once `ready`: it is dispatched with effect `f`, and
dispatch goes on. -/
def State.seqRun (s : State) (c op : Nat) (ready : Desc → Bool) (f : State → Desc → State) : State :=
  match s.seqHead c op with
  | some d => if ready d then (f (s.popDesc c d.addr) d).pump c else s
  | none => s

def streamEndEffect (s : State) (c : Nat) : State :=
  match s.seqHead c 0x01 with
  | none => s
  | some d =>
    if !s.scopeDone c 0xFF then s
    else
      let s := (s.popDesc c d.addr).signal c d.sigSem d.sigCnt
      let s := s.send (.stepEnd c (s.rd (corePg c) CORE.STEP))
      let s := s.irq (corePg c) 1
      if (s.core c).pend.isEmpty then
        (s.wr (corePg c) CORE.STAT_STATE 0).modCore c (fun x => { x with cur := none, buf := [] })
      else s.startPending c

/-- SEM_WAIT: a local wait is decided at once; a global one sends its claim and waits for the grant. -/
def semWaitEffect (s : State) (c : Nat) : State :=
  match s.seqHead c 0x50 with
  | none => s
  | some d =>
    if s.waitOk c 8 d then ((s.popDesc c d.addr).takeWait c 8 d).pump c
    else if 0x40 ≤ d.waitSem ∧ (mfind (s.core c).claims 8).isNone then
      (s.sendClaim (16 * c + 8) d.waitSem d.waitCnt).modCore c (fun x => { x with claims := mput x.claims 8 .sent })
    else s

/-! ### DMA (R182, R263) -/

/-- The 64-byte blocks that a transfer moves before an address is refused. -/
def State.blocksOk (s : State) (a n : Nat) : Nat := ((List.range n).takeWhile (fun i => s.coreMay (a + 64 * i) 64)).length

/-- Move `n` blocks, marks with them. -/
def State.dmaMove (s : State) (c : Nat) (d : Desc) (n : Nat) : State :=
  let a := d.operand
  let k := csBase c + d.cs
  if d.dir then
    let s := s.csTouch c d.cs (64 * n)
    let m := s.dev.copyFrom s.cstore a k n
    ({ s with dev := if tier2Base ≤ a then m.lines2 a (64 * n) else m }).count2 CXL.WR_BYTES a (64 * n)
  else
    let s := s.touch a (64 * n)
    { s with cstore := s.cstore.copyFrom s.dev k a n }

def dmaCopyEffect (s : State) (c : Nat) : State :=
  match s.issuable c 5 0x70 with
  | none => s
  | some d => ((s.issue c 5 d).modCore c (fun x => { x with dmaRun := x.dmaRun ++ [d] })).pump c

def dmaDoneEffect (s : State) (c k : Nat) : State :=
  match (s.core c).dmaRun[k]? with
  | none => s
  | some d =>
    let n := s.blocksOk d.operand d.len64
    let s := (s.dmaMove c d n).modCore c (fun x => { x with dmaRun := x.dmaRun.eraseIdx k })
    if n = d.len64 then s.complete c d
    else s.haltFault c (corePg c) 0x6011 (d.operand + 64 * n) d.addr

/-! ### Tiller mailboxes (R190) -/

/-- The kicks issued to a tiller core, the first of them running. -/
def CoreS.kicks (x : CoreS) (t : Nat) : List Desc := if t = 0 then x.kick0 else x.kick1
def CoreS.setKicks (x : CoreS) (t : Nat) (l : List Desc) : CoreS := if t = 0 then { x with kick0 := l } else { x with kick1 := l }
/-- How many of them have been read from MBOX. -/
def CoreS.kicksRead (x : CoreS) (t : Nat) : Nat := if t = 0 then x.read0 else x.read1
def CoreS.setKicksRead (x : CoreS) (t n : Nat) : CoreS := if t = 0 then { x with read0 := n } else { x with read1 := n }

def tillerKickEffect (s : State) (c t : Nat) : State :=
  match s.issuable c (6 + t) 0x78 with
  | none => s
  | some d => ((s.issue c (6 + t) d).modCore c (fun x => x.setKicks t (x.kicks t ++ [d]))).pump c

/-- The running kick leaves the tiller. -/
def State.endKick (s : State) (c t : Nat) : State :=
  s.modCore c (fun x => (x.setKicks t ((x.kicks t).drop 1)).setKicksRead t (x.kicksRead t - 1))

def tillerDoneEffect (s : State) (c t : Nat) : State :=
  match (s.core c).kicks t with
  | [] => s
  | d :: _ => (s.endKick c t).complete c d

def mboxReadEffect (s : State) (c t : Nat) : State :=
  let x := s.core c
  match (x.kicks t)[x.kicksRead t]? with
  | some d => (s.modCore c (fun x => x.setKicksRead t (x.kicksRead t + 1))).send (.readValue d.operand)
  | none => s.send (.readValue 0xFFFFFFFFFFFFFFFF)

def tillerSemEffect (s : State) (c sem n : Nat) : State := if isSem sem then (s.signal c sem n).pump c else s

/-- The trap bit of tiller core `t`. -/
def trapF (t : Nat) : Fld := if t = 0 then CORE.TILLER_CTRL_T0_TRAP else CORE.TILLER_CTRL_T1_TRAP

def tillerTrapEffect (s : State) (c t cause : Nat) : State :=
  match (s.core c).kicks t with
  | [] => s
  | d :: _ =>
    let s := ((s.endKick c t).wr (corePg c) (trapF t) 1).irq (corePg c) 3
    s.haltFault c (corePg c) 0x1051 (cause % 256 + t * 256) d.addr

/-! ### The prefetch (R183) -/

/-- One 64-byte line arrives: two descriptors with the marks of their words. A line at an address that is refused stops the core
when dispatch reaches it (log 24). -/
def streamFetchEffect (s : State) (c : Nat) : State :=
  let x := s.core c
  let a := x.fetch
  if !running s c || decide (126 < x.buf.length) then s
  else if !s.coreMay a 64 then
    (if x.buf.isEmpty then s.haltFault c (corePg c) 0x6011 a a else s)
  else
    let s := s.touch a 64
    let ent := fun k => (k, (List.range 4).map (fun i => s.devNat (k + 8 * i) 8), s.devBad k 32)
    (s.modCore c (fun x => { x with fetch := a + 64, buf := x.buf ++ [ent a, ent (a + 32)] })).pump c

/-! ### Starts and halts (R183 to R188) -/

def startRecordEffect (s : State) (c : Nat) (r : StartRec) : State :=
  let x := s.core c
  let p := corePg c
  if x.resetAt.isSome then s
  else if s.rdB p CORE.CTRL_START_SRC then (s.refuse p).send (.stepFail c r.step)
  else
    let full := decide (4 ≤ x.pend.length)
    let s := if full then (s.refuse p).send (.startRefused c r.step)
      else (s.modCore c (fun x => { x with pend := x.pend ++ [r] })).showPending c
    if running s c || halting s c then s else s.startPending c

def coreGoEffect (s : State) (c : Nat) : State :=
  let p := corePg c
  if running s c || halting s c then s.refuse p
  else if (s.core c).pend.isEmpty then s.startStream c (s.rdA p CORE.STREAM_ADDR_ADDR) 0 none
  else s.startPending c

/-- A halting core whose issued work is done is HALTED; a pending start record starts at once unless the host halted the core. -/
def State.enterHalted (s : State) (c : Nat) : State :=
  let s := (s.wr (corePg c) CORE.STAT_STATE 3).irq (corePg c) 0
  if (s.core c).waitHost then s else s.startPending c

def coreHaltEffect (s : State) (c : Nat) : State :=
  let idle := coreState s c == 0
  let s := s.haltCore c 2 0 (s.rd (corePg c) CORE.STREAM_PC)
  if idle then s.enterHalted c else s

def stepAbortEffect (s : State) (c step : Nat) : State :=
  let s := (s.modCore c (fun x => { x with pend := x.pend.filter (fun r => r.step != step || r.reload) })).showPending c
  if running s c && (s.core c).cur.any (fun r => r.step == step && !r.reload) then s.haltCore c 3 0 (s.rd (corePg c) CORE.STREAM_PC)
  else s

def haltCompleteEffect (s : State) (c : Nat) : State := if halting s c && s.drained c then s.enterHalted c else s

/-! ### Meanings -/

def execNop (c : Nat) (s : State) : Host.Outcome State Fault Refusal :=
  onWf s (.nop c) (s.seqRun c 0x00 (fun _ => true) (fun s _ => s))

def execStreamEnd (c : Nat) (s : State) : Host.Outcome State Fault Refusal := onWf s (.streamEnd c) (streamEndEffect s c)

def execSemWait (c : Nat) (s : State) : Host.Outcome State Fault Refusal := onWf s (.semWait c) (semWaitEffect s c)

def execSemSignal (c : Nat) (s : State) : Host.Outcome State Fault Refusal :=
  onWf s (.semSignal c) (s.seqRun c 0x51 (fun _ => true) (fun s d => s.signal c d.sigSem d.sigCnt))

def execFence (c : Nat) (s : State) : Host.Outcome State Fault Refusal :=
  onWf s (.fence c) (s.seqRun c 0x52 (fun d => s.scopeDone c d.scope) (fun s d => s.signal c d.sigSem d.sigCnt))

def execDmaCopy (c : Nat) (s : State) : Host.Outcome State Fault Refusal := onWf s (.dmaCopy c) (dmaCopyEffect s c)

def execDmaCopyDone (c k : Nat) (s : State) : Host.Outcome State Fault Refusal := onWf s (.dmaCopyDone c k) (dmaDoneEffect s c k)

def execTillerKick (c t : Nat) (s : State) : Host.Outcome State Fault Refusal := onWf s (.tillerKick c t) (tillerKickEffect s c t)

def execTillerDone (c t : Nat) (s : State) : Host.Outcome State Fault Refusal := onWf s (.tillerDone c t) (tillerDoneEffect s c t)

def execMboxRead (c t : Nat) (s : State) : Host.Outcome State Fault Refusal := onWf s (.mboxRead c t) (mboxReadEffect s c t)

def execTillerSemPortWrite (c t sem n : Nat) (s : State) : Host.Outcome State Fault Refusal :=
  onWf s (.tillerSemPortWrite c t sem n) (tillerSemEffect s c sem n)

def execTillerTrap (c t cause : Nat) (s : State) : Host.Outcome State Fault Refusal :=
  onWf s (.tillerTrap c t cause) (tillerTrapEffect s c t cause)

/-- A tiller core's reset: its local SRAM, its mailbox and its kicks stand; what else a reset touches is the tiller's own
processor state, which no command of the table shows (log 25). -/
def execTillerReset (c t : Nat) (s : State) : Host.Outcome State Fault Refusal := onWf s (.tillerReset c t) s

def execStreamFetch (c : Nat) (s : State) : Host.Outcome State Fault Refusal := onWf s (.streamFetch c) (streamFetchEffect s c)

def execStartRecord (c : Nat) (r : StartRec) (s : State) : Host.Outcome State Fault Refusal :=
  onWf s (.startRecord c r) (startRecordEffect s c r)

def execCoreGo (c : Nat) (s : State) : Host.Outcome State Fault Refusal := onWf s (.coreGo c) (coreGoEffect s c)

def execCoreHalt (c : Nat) (s : State) : Host.Outcome State Fault Refusal := onWf s (.coreHalt c) (coreHaltEffect s c)

def execStepAbort (c step : Nat) (s : State) : Host.Outcome State Fault Refusal := onWf s (.stepAbort c step) (stepAbortEffect s c step)

def execHaltComplete (c : Nat) (s : State) : Host.Outcome State Fault Refusal := onWf s (.haltComplete c) (haltCompleteEffect s c)

end Sys2Proof.Machine
end

