-- ==== Sys2Proof/Machine/Flags.lean ====
section
/-! DEFINITION. The status fields that read from what the units hold: what a read of each register field returns, block by block,
and which registers a page does not have. -/

namespace Sys2Proof.Machine

/-! ### Pages and their units -/

/-- The engine and tile of a page in a core's slots. -/
def engOfPage (p : Nat) : Nat := match blockOf p with
  | .tile => ((p % 1024 - 0x100) % 0xC0 - 0x40) / 32
  | _ => (p % 1024 - 0x100) % 0xC0 - 4
def tileOfPage (p : Nat) : Nat := ((p % 1024 - 0x100) % 0xC0 - 0x40) % 32

/-- Word `i` of a list of bytes. -/
def wordAt (l : List Byte) (i : Nat) : Nat := leAt l (4 * i) 4

/-! ### Views -/

/-- CAL_STAT.AGE_S: seconds since the last APPLY (R139). -/
def State.calAge (s : State) (p : Nat) : Nat := min 0xFFFF ((s.sclk - s.rd p TILE.CAL_TIME) / 25000000)

def tileView (s : State) (p : Nat) (f : Fld) : Nat :=
  let c := coreOfPage p
  let e := engOfPage p
  let t := tileOfPage p
  let x := s.tile c e t
  let set := if s.rdB p TILE.CAL_CTRL_VIEW then x.active else x.shadow
  if f = TILE.STAT_SPLIT_ACTIVE then toBit x.splitting
  else if f = TILE.STAT_PASS_ACTIVE then toBit (s.runnable c e t).isSome
  else if f = TILE.CAL_STAT_AGE_S then s.calAge p
  else if 0x140 ≤ f.off ∧ f.off < 0x2D4 then wordAt set.pairBytes ((f.off - 0x140) / 4)
  else if 0x2D4 ≤ f.off ∧ f.off < 0x4D4 then wordAt set.rowBytes ((f.off - 0x2D4) / 4)
  else s.rd p f

/-- An MVM or MVM_ACC is on the glume path, or in the thresher (R415). -/
def EngineS.glumeBusy (x : EngineS) : Bool := x.ops.any (fun o => (o.d.opcode == 0x10 || o.d.opcode == 0x11) && !o.glumeDone)
def EngineS.thresherBusy (x : EngineS) : Bool := x.ops.any (fun o => (o.d.opcode == 0x10 || o.d.opcode == 0x11) && !o.thresherDone)

def engView (s : State) (p : Nat) (f : Fld) : Nat :=
  let c := coreOfPage p
  let e := engOfPage p
  let x := s.eng c e
  if f = ENG.STAT_QUEUE then x.queue.length
  else if f = ENG.STAT_GLUME_BUSY then toBit x.glumeBusy
  else if f = ENG.STAT_THRESHER_BUSY then toBit x.thresherBusy
  else if f = ENG.STAT_IN_SERVICE then maskOf ((List.range 17).filter (fun t => s.rdB (tilePg c e t) TILE.STAT_IN_SERVICE))
  else if 0x200 ≤ f.off ∧ f.off < 0x310 ∧ f.lsb = 32 then s.ageUs c e ((f.off - 0x200) / 16) ((f.off - 0x200) / 8 % 2)
  else s.rd p f

def coreView (s : State) (p : Nat) (f : Fld) : Nat :=
  let c := coreOfPage p
  let x := s.core c
  if f = CORE.INFLIGHT_TILLER0 then x.mbox0.length + x.kick0.length
  else if f = CORE.INFLIGHT_TILLER1 then x.mbox1.length + x.kick1.length
  else if f = CORE.INFLIGHT_ENG_TAGS then sumN ((List.range 4).map (fun e => (s.eng c e).queue.length + (s.eng c e).ops.length))
  else if f = CORE.INFLIGHT_ATTN then x.attnQ.length + toBit x.attn.isSome
  else if f = CORE.INFLIGHT_DMA then x.dmaQ.length + x.dmaRun.length
  else s.rd p f

def attnView (s : State) (p : Nat) (f : Fld) : Nat :=
  let x := s.core (coreOfPage p)
  if f = ATTN.STAT_XLATE_ACTIVE then s.rd p ATTN.CTRL_XLATE
  else if f = ATTN.STAT_PINS then (match x.attn with
    | some a => a.pins.length
    | none => 0)
  else if f = ATTN.STAT_BUSY then toBit x.attn.isSome
  else s.rd p f

/-- CLK.GATED (R337): the stopped domains of a die. -/
def State.gatedBits (s : State) (d : Nat) : Nat :=
  if isCompute d then
    let stop := fun i => s.coreStopped (4 * d + i)
    let reset := fun i => (s.core (4 * d + i)).resetAt.isSome
    maskOf ((List.range 4).filter stop
      ++ ((List.range 8).filter (fun i => reset (i / 2)
          || !s.rdB (corePg (4 * d + i / 2)) (if i % 2 = 0 then CORE.TILLER_CTRL_T0_RUN else CORE.TILLER_CTRL_T1_RUN))).map (fun i => 4 + i)
      ++ ((List.range 16).filter (fun i => stop (i / 4))).map (fun i => 12 + i))
  else if isHub d then
    let h := hubOrd d
    (if s.power.ended.contains 7 then 0 else 0b111) + 8 * toBit (!s.rdB (cxlPg h) CXL.STAT_UP)
      + maskOf (((List.range 4).filter (fun i => s.rd (plkPg (4 * h + i)) PLK.STAT_STATE == 0)).map (fun i => 4 + i))
      + 256 * toBit ((s.rd (clkPg d) CLK.GATED).testBit 8)
  else 0

/-- The core whose in-field test was longest ago (R375). -/
def State.nextTest (s : State) : Nat :=
  (minBy (fun c => (s.core c).lastTest) (allCores.filter (fun c => !(s.core c).retired && !s.flt.testing.contains c))).getD 0

def fltView (s : State) (p : Nat) (f : Fld) : Nat :=
  if f = FLT.STAT_RECOV_24H then min 8 s.recov24h
  else if f = FLT.STAT_POOL then s.flt.pool.length
  else if f = FLT.MIG_STAT_ACTIVE then (s.flt.migs.filter (fun m => m.phase != 0)).length
  else if f = FLT.TEST_STAT_CORE0 then s.flt.testing.getD 0 0xFF
  else if f = FLT.TEST_STAT_CORE1 then s.flt.testing.getD 1 0xFF
  else if f = FLT.TEST_STAT_NEXT then s.nextTest
  else if f = FLT.TEST_STAT_DEFERRED then (allCores.filter (fun c => (s.core c).deferredAt.isSome)).length
  else if f = FLT.RECOVERY_CNT then s.nvm.recoveryN
  else if 0x100 ≤ f.off ∧ f.off < 0x114 then
    maskOf ((s.flt.pool.filter (fun c => c / 32 == (f.off - 0x100) / 4)).map (fun c => c % 32))
  else if 0x200 ≤ f.off ∧ f.lsb = 30 then toBit (s.flt.migs.any (fun m => m.logical == (f.off - 0x200) / 4 && m.phase != 0))
  else s.rd p f

def hkadcView (s : State) (p : Nat) (f : Fld) : Nat :=
  let x := s.die (pageDie p)
  if f = HKADC.STAT_BUSY then toBit x.converting.isSome
  else if f = HKADC.STAT_CHAN then (match x.converting with
    | some (ch, _, _) => ch
    | none => 0)
  else if f = HKADC.STAT_PENDING then toBit x.swPending
  else s.rd p f

def syncView (s : State) (p : Nat) (f : Fld) : Nat :=
  let sem := s.rd p SYNC.SEM_SEL_SEM
  if f = SYNC.SEM_VIEW_VALUE then s.globalSem sem
  else if f = SYNC.SEM_VIEW_CLAIMS then (s.awn.claims.filter (fun q => q.sem == sem)).length
  else if f = SYNC.CLAIM_Q_N then s.awn.claims.length
  else s.rd p f

def lifeView (s : State) (p : Nat) (f : Fld) : Nat :=
  if f = LIFE.STAT_TORN then toBit s.nvm.torn
  else if f = LIFE.POWERED_S then s.poweredS
  else s.rd p f

def secView (s : State) (p : Nat) (f : Fld) : Nat :=
  if f = SEC.MIN_SVN_SVN then s.sec.minSvn
  else if 0x80 ≤ f.off then field (mget s.sec.meas 0 (s.rd p SEC.MEAS_SEL_IDX)) (8 * (f.off - 0x80)) 32
  else s.rd p f

def kvpView (s : State) (p : Nat) (f : Fld) : Nat :=
  if f = KVP.FREE_PAGES then s.freePages (pageOf p).2
  else if f = KVP.FREE_T1 then s.freeFrames 0
  else if f = KVP.FREE_T2 then s.freeFrames 1
  else s.rd p f

/-! ### Registers that some pages do not have -/

/-- A field that a page's place leaves out: it reads 0, and a write to it counts as refused (R283, R306, R324, R338, R352, R400). -/
def absent (p : Nat) (f : Fld) : Bool :=
  match blockOf p with
  | .die => pageDie p != 16 && decide (0x100 ≤ f.off) && decide (f.off < 0x168)
  | .pcie =>
    if (pageOf p).2 = 1 then (decide (0x40 ≤ f.off) && decide (f.off < 0x60)) || decide (0x100 ≤ f.off)
    else f.off == 0x60 || f == PCIE.CTRL_CREDIT_EN
  | .plk => decide (0x100 ≤ f.off) && (pageOf p).2 % 4 != 0
  | .ecc => !isHub (pageDie p) && (f == ECC.CTRL_TEST_EN || (decide (0x40 ≤ f.off) && decide (f.off < 0x54)))
  | .therm => pageDie p != 16 && decide (0x40 ≤ f.off) && decide (f.off < 0x4C)
  | .rst => !isCompute (pageDie p) && decide (0x40 ≤ f.off) && decide (f.off < 0x50)
  | _ => false

/-- What a read of a field returns. A window of an unmapped function reads 0 (R312). -/
def State.view (s : State) (p : Nat) (f : Fld) : Nat :=
  if f.acc = .wo ∨ absent p f = true then 0
  else match blockOf p with
    | .ten => s.rd p f
    | .mdl => if f = MDL.T then s.mdlT (pageOf p).2 else s.rd p f
    | .fnw => if (s.fnTenant (pageOf p).2).isNone then 0 else s.rd p f
    | b =>
      if f = HDR.IRQ_STAT then s.irqStat p
      else match b with
        | .tile => tileView s p f
        | .eng => engView s p f
        | .core => coreView s p f
        | .attn => attnView s p f
        | .clk => if f = CLK.GATED then s.gatedBits (pageDie p) else if f = CLK.SCLK then s.sclk else s.rd p f
        | .hbmc =>
          let n := (s.stack (pageOf p).2).remap.length
          if f = HBMC.STAT_RETIRED then n else if f = HBMC.STAT_RETIRE_FREE then 2048 - n else s.rd p f
        | .kvp => kvpView s p f
        | .flt => fltView s p f
        | .fltd =>
          if f = FLTD.STAT_POLLED then (s.die (pageDie p)).polledSrc.length
          else if f = FLTD.STAT_BUFFERED then s.bufUsed (pageDie p) else s.rd p f
        | .hkadc => hkadcView s p f
        | .sec => secView s p f
        | .life => lifeView s p f
        | .sync => syncView s p f
        | .pcie => if f = PCIE.PTM_SCLK then s.power.ptmShadow.getD (s.rd p f) else s.rd p f
        | _ => s.rd p f

end Sys2Proof.Machine
end

