-- ==== Sys2Proof/Machine/Regs.lean ====
section
/-! DEFINITION. A register access: widths, access codes, the conditions under which a field may be written, and the registers whose
access acts (R9 to R11, R242, R243, R402 to R412). -/

namespace Sys2Proof.Machine

/-! ### Registers of a page (R406, R408) -/

/-- Tenant and model entries and function windows have no page header. -/
def hasHeader (b : Block) : Bool :=
  match b with
  | .ten => false
  | .mdl => false
  | .fnw => false
  | _ => true

def headerRegs : List Reg := [⟨0, 32⟩, ⟨4, 32⟩, ⟨8, 32⟩, ⟨0xC, 32⟩, ⟨0x10, 32⟩, ⟨0x14, 32⟩, ⟨0x18, 32⟩, ⟨0x1C, 32⟩]

def regsOf (b : Block) : List Reg := if hasHeader b then headerRegs ++ b.regs else b.regs

def fieldsOf (b : Block) : List Fld :=
  if hasHeader b then [HDR.ID, HDR.IRQ_STAT, HDR.IRQ_EN, HDR.IRQ_SET, HDR.ERR_CNT] ++ b.fields else b.fields

/-- Areas whose width is given in bytes take 32-bit and 64-bit accesses. -/
def byteArea (b : Block) (off : Nat) : Bool :=
  match b with
  | .tile => decide (0x140 ≤ off) && decide (off < 0x4D4)
  | .chk => decide (0x200 ≤ off) && decide (off < 0x340)
  | .kvp => decide (0x80 ≤ off) && decide (off < 0x90)
  | .sec => decide (0x80 ≤ off) && decide (off < 0xC0)
  | .flt => decide (0x60 ≤ off) && decide (off < 0x80)
  | .srv => decide (0x100 ≤ off) && decide (off < 0x180)
  | .cfg2p => (decide (0x40 ≤ off) && decide (off < 0x60)) || (decide (0x100 ≤ off) && decide (off < 0x180))
  | .plk => decide (0x80 ≤ off) && decide (off < 0xC0)
  | .ten => true
  | .mdl => true
  | _ => false

/-- An access of `w` bytes is aligned and of its registers' own width. -/
def accessOk (b : Block) (off w : Nat) : Bool :=
  (w == 4 || w == 8) && off % w == 0 &&
    (regsOf b).all (fun r => decide (off + w ≤ r.off) || decide (r.off + r.width / 8 ≤ off) || (r.off == off && r.width == 8 * w) || byteArea b r.off)

/-- The page whose ERR_CNT counts refused accesses: the SRV page for its entries and the function windows. -/
def errPage (p : Nat) : Nat := if hasHeader (blockOf p) then p else srvPg

/-- The SRV page shows the selected tenant and model entry, and PF0's window (R242, R243). -/
def State.subPage (s : State) (p off : Nat) : Nat × Nat :=
  if p ≠ srvPg then (p, off)
  else if 0x180 ≤ off ∧ off < 0x1C0 then (tenPg (s.rd srvPg SRV.TEN_SEL_TENANT), off - 0x180)
  else if 0x200 ≤ off ∧ off < 0x280 then (mdlPg (s.rd srvPg SRV.MDL_SEL_MODEL), off - 0x200)
  else if 0x800 ≤ off ∧ off < 0x8A0 then (fnPg 0, off - 0x800)
  else (p, off)

/-! ### Fields of an access (R9 to R11) -/

/-- A field lies at least in part in the bytes [off, off + w). -/
def fldInside (f : Fld) (off w : Nat) : Bool := decide (8 * off < 8 * f.off + f.lsb + f.width) && decide (8 * f.off + f.lsb < 8 * (off + w))

/-- The value that an access of `w` bytes at `off` with value `v` gives a field that holds `cur`. -/
def fldNew (f : Fld) (off w v cur : Nat) : Nat :=
  let lo := 8 * f.off + f.lsb
  if 8 * off ≤ lo ∧ lo + f.width ≤ 8 * (off + w) then field v (lo - 8 * off) f.width
  else (List.range f.width).foldl (fun x j =>
    if 8 * off ≤ lo + j ∧ lo + j < 8 * (off + w) then putBit x j (v.testBit (lo + j - 8 * off)) else x) cur

/-- What a field contributes to the value read. -/
def fldPart (f : Fld) (off v : Nat) : Nat :=
  let lo := 8 * f.off + f.lsb
  if 8 * off ≤ lo then (v % 2 ^ f.width) <<< (lo - 8 * off) else (v % 2 ^ f.width) >>> (8 * off - lo)

/-- The value that a read returns. -/
def State.regValue (s : State) (p off w : Nat) : Nat :=
  (((fieldsOf (blockOf p)).filter (fun f => fldInside f off w)).foldl (fun a f => a + fldPart f off (s.view p f)) 0) % 256 ^ w

/-- An rw-lk field's lock (R10). -/
def State.locked (s : State) (p : Nat) (f : Fld) : Bool :=
  match blockOf p with
  | .mesh => s.rdB p MESH.CTRL_TC_LOCK
  | .plk => f == PLK.CTRL_LOCAL_ID && (s.port (pageOf p).2).locked
  | _ => false

/-- The fields that only an EMPTY model takes (R242). -/
def emptyOnly : List Fld := [MDL.KVG, MDL.LAYERS, MDL.HEADS_KV, MDL.VOCAB, MDL.MAX_CTX, MDL.SHAPES]

/-- The attention unit's translation may change (R212). -/
def State.xlateFree (s : State) (c : Nat) : Bool :=
  !running s c && !halting s c && (s.core c).attnQ.isEmpty && (s.core c).attn.isNone

/-- An rw field may be written now, with the value `n`. -/
def State.writable (s : State) (p : Nat) (f : Fld) (n : Nat) : Bool :=
  match blockOf p with
  | .core => if f.off = 0x40 ∨ 0x100 ≤ f.off then !running s (coreOfPage p) && !halting s (coreOfPage p) else true
  | .attn => if f.off = 0x40 then s.xlateFree (coreOfPage p) else true
  | .plk => f != PLK.RC_BASE_BASE || !s.rdB p PLK.RC_CFG_ENABLE
  | .ingest => decide (f.off < 0x48) || decide (0x78 ≤ f.off) || !s.rdB p INGEST.CTRL_ENABLE
  | .kvp => decide (f.off < 0x40) || decide (0x6C ≤ f.off) || !s.rdB p KVP.CTRL_ENABLE
  | .srv =>
    if f = SRV.SUM_BASE_BASE then !s.rdB p SRV.SUM_CFG_ENABLE
    else if f = SRV.SUM_CFG_ENTRIES then !s.rdB p SRV.SUM_CFG_ENABLE || n == s.rd p f else true
  | .fnw =>
    if f = FNW.REQ_BASE_BASE then !s.rdB p FNW.REQ_CFG_ENABLE
    else if f = FNW.RES_BASE_BASE then !s.rdB p FNW.RES_CFG_ENABLE else true
  | .flt => f != FLT.LOG_BASE_BASE || (s.rd p FLT.F_CNT == 0 && s.rd p FLT.U_CNT == 0)
  | .hkadc => !(f == HKADC.RING_BASE_BASE || f == HKADC.RING_CFG_ENTRIES) || !s.rdB p HKADC.CTRL_RING_EN
  | .mdl => !emptyOnly.contains f || s.rd p MDL.STATE == 0
  | _ => true

/-- One field of an access, by its access code; the flag says whether the write was refused. -/
def State.writeField (s0 : State) (p off w v : Nat) (a : State × Bool) (f : Fld) : State × Bool :=
  let cur := s0.rd p f
  let n := fldNew f off w v cur
  if absent p f then (a.1, a.2 || f != PCIE.CTRL_CREDIT_EN || n != 0)
  else match f.acc with
    | .rw => if s0.writable p f n then (a.1.wr p f n, a.2) else (a.1, true)
    | .w1c => (a.1.wr p f (cur ^^^ (cur &&& fldNew f off w v 0)), a.2)
    | .w1s => (a.1.wr p f (cur ||| n), a.2)
    | .rwLk => if n = cur then a else if s0.locked p f then (a.1, true) else (a.1.wr p f n, a.2)
    | .rw2p => (a.1, a.2 || n != cur)
    | .r => a
    | .rc => a
    | .wo => a

/-- The fields of an access, and whether any of them was refused. -/
def State.writeFields (s : State) (p : Nat) (l : List Fld) (off w v : Nat) : State × Bool :=
  (l.filter (fun f => fldInside f off w)).foldl (s.writeField p off w v) (s, false)

/-- A write that acts through its fields alone. -/
def State.writeGen (s : State) (p off w v : Nat) : State :=
  let (t, bad) := s.writeFields p (blockOf p).fields off w v
  if bad then t.refuse (errPage p) else t

/-- An access counts at most once in its page's ERR_CNT (R10, R11). -/
def State.capErr (s t : State) (p : Nat) : State :=
  let m := satAdd 32 (s.rd p HDR.ERR_CNT) 1
  if m < t.rd p HDR.ERR_CNT then t.wr p HDR.ERR_CNT m else t

/-! ### The header (R406, R413, R415) -/

/-- IRQ_SET sets bits as events would; a set U or F bit of the fault collector sends its vector (R315). -/
def State.irqSet (s : State) (p v : Nat) : State :=
  let b := blockOf p
  (bitsOf v b.irqBits).foldl (fun s i =>
    if b = .eng ∧ i < 2 then s
    else
      let s := s.irq p i
      if b = .flt ∧ (i = 1 ∨ i = 2) ∧ (s.rd p HDR.IRQ_EN).testBit i then s.sendMsix 0 0 else s) s

def State.writeHeader (s : State) (p off v : Nat) : State :=
  let was := s.irqReq p
  let cur := s.rd p HDR.IRQ_STAT
  if off = 0x10 then (s.wr p HDR.IRQ_STAT (cur ^^^ (cur &&& v))).gather p was
  else if off = 0x14 then (s.wr p HDR.IRQ_EN (v % 2 ^ (blockOf p).irqBits)).gather p was
  else if off = 0x18 then s.irqSet p v
  else if off = 0x1C then s.wr p HDR.ERR_CNT v else s

/-! ### Pages of a core -/

/-- A write into the trim windows: they show the shadow set while VIEW is 0 (R139). -/
def State.writeTrims (s : State) (c e t off w v : Nat) : State :=
  if s.rdB (tilePg c e t) TILE.CAL_CTRL_VIEW || s.calBusy c e t then s.refuse (tilePg c e t)
  else
    let x := (s.tile c e t).shadow
    let l := x.pairBytes ++ x.rowBytes
    let l := l.take (off - 0x140) ++ toLe w v ++ l.drop (off - 0x140 + w)
    s.modTile c e t (fun y => { y with shadow := trimsOf (l.take 404) ((l.drop 404).take 512) })

/-- CAL_CTRL: APPLY, SAVE and LOAD are refused while the sequencer works on the tile (R134, R138). -/
def State.writeCalCtrl (s : State) (c e t v : Nat) : State :=
  let p := tilePg c e t
  let s := (s.wrB p TILE.CAL_CTRL_VIEW (bit v 7)).wrB p TILE.CAL_CTRL_TRACK_EN (bit v 1)
  let s := if bit v 2 then s.toFront c e t else s
  let s := if bit v 0 then calApplyReqEffect s c e t else s
  let s := if bit v 3 then calSaveEffect s c e t else s
  if bit v 4 then calLoadEffect s c e t else s

def State.writeTile (s : State) (p off w v : Nat) : State :=
  let c := coreOfPage p
  let e := engOfPage p
  let t := tileOfPage p
  if off = 8 then tileEnableEffect (if bit v 1 then tileResetEffect s c e t else s) c e t (bit v 0)
  else if off = 0x40 then tileCfgEffect s c e t v
  else if 0x70 ≤ off ∧ off < 0x80 then colmapWriteEffect s c e t ((off - 0x70) / 4) v
  else if off = 0x100 then s.writeCalCtrl c e t v
  else if 0x140 ≤ off ∧ off < 0x4D4 then s.writeTrims c e t off w v
  else s.writeGen p off w v

/-- REFRESH_CTRL: the band follows MIN_BAND, and sweeps resume where ENABLE returns (R62, R66). -/
def State.writeRefresh (s : State) (p v : Nat) : State :=
  let c := coreOfPage p
  let e := engOfPage p
  let was := s.rdB p ENG.REFRESH_CTRL_ENABLE
  let s := (s.writeGen p 0x100 4 v).showBand c e
  if was || !bit v 0 then s
  else (List.range 34).foldl (fun s k => if s.bankState c e (k / 2) (k % 2) = 2 then s.resumeSweep c e (k / 2) (k % 2) else s) s

def State.writeEng (s : State) (p off w v : Nat) : State :=
  if off = 0x100 then s.writeRefresh p v
  else if off = 0x10C then bankReleaseEffect s (coreOfPage p) (engOfPage p) v
  else if off = 0x404 ∨ off = 0x604 then (s.writeGen p off w v).gather p (s.irqReq p)
  else s.writeGen p off w v

def State.writeCore (s : State) (p off w v : Nat) : State :=
  let c := coreOfPage p
  if off = 8 then
    let s := s.writeGen p off w v
    let s := if bit v 2 then coreGoEffect s c else s
    if bit v 3 then coreHaltEffect s c else s
  else s.writeGen p off w v

/-- CHK.CTRL: the fraction in force follows, DREF changes only on a halted core, LG_CLEAR empties the ledger (R144, R153, R154). -/
def State.writeChkCtrl (s : State) (p v : Nat) : State :=
  let c := coreOfPage p
  let (t, bad) := s.writeFields p (CHK.fields.filter (fun f => f != CHK.CTRL_DREF)) 8 4 v
  let t := (if bad then t.refuse p else t).showFrac c
  let t := if bit v 17 = s.rdB p CHK.CTRL_DREF then t else drefEffect t c (bit v 17)
  if bit v 20 then t.modCore c (fun x => { x with ledger := [], folded := [] }) else t

def State.writeChk (s : State) (p off w v : Nat) : State :=
  if off = 8 then s.writeChkCtrl p v
  else if off = 0x40 then chkSeedEffect s (coreOfPage p) v
  else if off = 0x44 then lgSelEffect s (coreOfPage p) v
  else s.writeGen p off w v

/-! ### Hub pages -/

/-- PLK.CTRL: LOCAL_ID, then ENABLE and RETRAIN (R297, R299, R306). -/
def State.writePlkCtrl (s : State) (p v : Nat) : State :=
  let k := (pageOf p).2
  let on := s.rdB p PLK.CTRL_ENABLE
  let (t, bad) := s.writeFields p [PLK.CTRL_LOCAL_ID] 8 4 v
  let t := if bad then t.refuse p else t
  if bit v 0 then (if on then (if bit v 1 then plkTrainEffect t k true else t) else plkTrainEffect t k false)
  else if on then ((t.wr p PLK.CTRL_ENABLE 0).wr p PLK.STAT_STATE 0).reissue k else t

/-- RC_CFG: enabling queues the claim on the doorbell, disabling withdraws it (R302). -/
def State.writeRcCfg (s : State) (p v : Nat) : State :=
  let h := (pageOf p).2 / 4
  let was := s.rdB p PLK.RC_CFG_ENABLE
  let t := s.writeGen p 0x208 4 v
  if absent p PLK.RC_CFG_ENABLE then t
  else if !was && bit v 31 then t.ringClaim h else if was && !bit v 31 then t.withdraw (4096 + h) else t

def State.writePlk (s : State) (p off w v : Nat) : State :=
  if off = 8 then s.writePlkCtrl p v else if off = 0x208 then s.writeRcCfg p v else s.writeGen p off w v

def State.writeIngest (s : State) (p off w v : Nat) : State :=
  if off = 8 then ingestEnableEffect s (bit v 0)
  else if off = 0x54 then s.wr p INGEST.JOB_TAIL_TAIL v
  else s.writeGen p off w v

def State.writeKvp (s : State) (p off w v : Nat) : State :=
  if off = 8 then kvpEnableEffect s (pageOf p).2 v
  else if off = 0x7C then entrySelEffect s (pageOf p).2 v
  else s.writeGen p off w v

/-- The test registers act on hub dies (R280, R283). -/
def State.writeEcc (s : State) (p off w v : Nat) : State :=
  let d := pageDie p
  if off = 8 then eccTestEnEffect s d (bit v 0)
  else if off = 0x50 then
    let s := s.writeGen p off w v
    if !isHub d then s
    else
      let s := if bit v 8 then eccTestWriteEffect s d else s
      if bit v 9 then eccTestReadEffect s d else s
  else s.writeGen p off w v

/-! ### The serving controller's page, entries and windows -/

def State.writeSrv (s : State) (p off w v : Nat) : State :=
  if off = 8 then
    let (t, _) := s.writeFields p [SRV.CTRL_RETRY_MAX, SRV.CTRL_SPEC_EN] off w v
    if s.rdB (pciePg 0) PCIE.STAT_DEV_READY then t.wrB p SRV.CTRL_ENABLE (bit v 0) else t.refuse p
  else if off = 0x80 then seqSelEffect s v
  else s.writeGen p off w v

/-- A model entry: software's rewriting ends a stop for poison, CMD starts a swap or unloads (R215, R241, R242). -/
def State.writeMdl (s : State) (p off w v : Nat) : State :=
  let m := (pageOf p).2
  let s := (s.writeGen p off w v).modMdl m (fun x => { x with stopped := false })
  let cmd := if fldInside MDL.CMD off w then fldNew MDL.CMD off w v 0 else 0
  if cmd = 1 then modelSwapEffect s m else if cmd = 2 then modelUnloadEffect s m else s

def State.writeFnw (s : State) (p off w v : Nat) : State :=
  let f := (pageOf p).2
  if off = 0 then reqTailEffect s f (v % 4096)
  else if off = 0x10 then ringEnableEffect s f false v
  else if off = 0x48 then ringEnableEffect s f true v
  else if off = 0x50 then resHeadEffect s f (v % 65536)
  else s.writeGen p off w v

/-! ### Package pages -/

def State.writeFlt (s : State) (p off w v : Nat) : State :=
  if off = 0x48 then logHeadEffect s v
  else if off = 0x50 then logSelEffect s v
  else if off = 0x80 then (if bit v 31 then migReqEffect s (v % 256) else s.wr p FLT.MIG_CTRL_LOGICAL v)
  else if 0x200 ≤ off ∧ off < 0x480 then coreRedirEffect s ((off - 0x200) / 4) v
  else s.writeGen p off w v

/-- CORE_RST: PRESERVE is sampled as ASSERT becomes 1 (R335, R338). -/
def State.writeRst (s : State) (p off w v : Nat) : State :=
  let i := (off - 0x40) / 4
  let c := 4 * pageDie p + i
  if 0x40 ≤ off ∧ off < 0x50 ∧ isCompute (pageDie p) = true then
    if bit v 0 then coreRstAssertEffect s c (bit v 1)
    else coreRstReleaseEffect (s.wrB p (RST.CORE_RST_PRESERVE i) (bit v 1)) c
  else s.writeGen p off w v

/-- A write reaches its register. -/
def State.writeBlock (s : State) (p off w v : Nat) : State :=
  match blockOf p with
  | .tile => s.writeTile p off w v
  | .eng => s.writeEng p off w v
  | .core => s.writeCore p off w v
  | .chk => s.writeChk p off w v
  | .attn => if off = 8 then xlateWriteEffect s (coreOfPage p) (bit v 0) else s.writeGen p off w v
  | .mesh => if 0x100 ≤ off ∧ off < 0x1A0 then routeWriteEffect s (pageDie p) ((off - 0x100) / 4) v else s.writeGen p off w v
  | .hbmc => if off = 0x80 then rmapSelEffect s (pageOf p).2 v else s.writeGen p off w v
  | .plk => s.writePlk p off w v
  | .ingest => s.writeIngest p off w v
  | .kvp => s.writeKvp p off w v
  | .srv => s.writeSrv p off w v
  | .mdl => s.writeMdl p off w v
  | .fnw => s.writeFnw p off w v
  | .flt => s.writeFlt p off w v
  | .ecc => s.writeEcc p off w v
  | .hkadc =>
    let t := s.writeGen p off w v
    if off = 8 ∧ bit v 0 = true then hkadcTrigEffect t (pageDie p) else t
  | .rst => s.writeRst p off w v
  | .cfg2p => if off = 8 then (if bit v 0 then cfgCommitEffect s false else s) else s.writeGen p off w v
  | .sync => if off = 0x40 then semSelEffect s v else if off = 0x44 then semViewEffect s v else s.writeGen p off w v
  | _ => s.writeGen p off w v

def State.writeReg (s : State) (p off w v : Nat) : State :=
  if hasHeader (blockOf p) = true ∧ 0x10 ≤ off ∧ off < 0x20 then s.writeHeader p off v
  else s.capErr (s.writeBlock p off w v) (errPage p)

/-- A read: rc fields are consumed, PTM_HOST latches its pair (R9, R238, R317). -/
def State.readReg (s : State) (p off w : Nat) : State :=
  if p = lifePg ∧ off = 0x48 then nvmReadEffect s
  else if p = pciePg 0 ∧ off = 0x48 then ptmReadEffect s
  else if p = pciePg 0 ∧ off = 0x50 then
    let t := s.send (.readValue (s.regValue p off w))
    { t with power := { t.power with ptmShadow := none } }
  else if blockOf p = .fnw ∧ off = 0x80 then resPopEffect s (pageOf p).2
  else if blockOf p = .fnw ∧ off = 0x90 then resPeekEffect s (pageOf p).2
  else s.send (.readValue (s.regValue p off w))

/-- An access reaches its page in the register clock: a write of `some v`, or a read. -/
def State.perform (s : State) (p off w : Nat) (v : Option Nat) : State :=
  let q := s.subPage p off
  match v with
  | some v => s.writeReg q.1 q.2 w v
  | none => s.readReg q.1 q.2 w

/-! ### Accesses (R332, R360, R408, R412) -/

/-- The pages that answer while an F fault is in force. -/
def State.answers (s : State) (p : Nat) : Bool := !s.power.halted && (p == fltPg || p == lifePg || blockOf p == .therm)

/-- The two doorbells: a function's REQ_TAIL and the ingest engine's JOB_TAIL. -/
def doorbell (p off : Nat) (v : Option Nat) : Bool := v.isSome && ((p == ingPg && off == 0x54) || (blockOf p == .fnw && off == 0))

/-- An access of `w` bytes to a page; `host` says whether it came by the host port. -/
def State.regAccess (s : State) (host : Bool) (p off w : Nat) (v : Option Nat) : State :=
  let q := s.subPage p off
  if s.frozen && !s.answers p then
    (if doorbell q.1 q.2 v then s.extRefuse 0 0 false else s.send .abort)
  else if blockOf q.1 = .none then (if v.isSome then s else s.send (.readValue 0))
  else if !accessOk (blockOf q.1) q.2 w then
    let t := s.refuse (errPage q.1)
    (if host then t.inc (pciePg 0) PCIE.UR_CNT else t).send .unsupported
  else if s.domainStopped p off then s.holdAccess p off w v
  else s.perform p off w v

end Sys2Proof.Machine
end

