-- ==== Sys2Proof/Machine/Access.lean ====
section
/-! DEFINITION. Accesses to the address map: who may reach what, how a refused access ends, BAR2, register writes, and the accesses
held at a stopped crossing (R9, R262, R263, R289, R310, R311, R316, R332, R406). -/

namespace Sys2Proof.Machine

/-! ### Who may reach what (R262, R289) -/

def mayReach (rq : Requester) (r : Region) (write : Bool) : Bool :=
  let user := r == .soft || r == .tier2
  match rq with
  | .bar2 _ => user || r == .aperture
  | .ingestPort => r == .aperture
  | .peer _ => user || (r == .aperture && write)
  | .coreCmd _ => user
  | .tillerU _ _ => user
  | .tillerM _ _ => user || r == .firm || r == .regs || r == .aperture
  | .hubUnit _ => user || r == .firm || r == .regs || r == .aperture

/-- The die where a requester's packets enter the mesh. -/
def srcDie (rq : Requester) : Nat :=
  match rq with
  | .bar2 _ => 10
  | .ingestPort => 29
  | .peer p => hubDie (p / 4)
  | .coreCmd c => c / 4
  | .tillerU c _ => c / 4
  | .tillerM c _ => c / 4
  | .hubUnit d => d

/-- The die that serves an address. -/
def State.dstDie (s : State) (a : Nat) : Nat :=
  match s.region a with
  | .soft => hubDie (stackOf a / 3)
  | .firm => hubDie (stackOf a / 3)
  | .reserve => hubDie (stackOf a / 3)
  | .tier2 => hubDie (s.t2Port a)
  | .regs => pageDie (regAt a).1
  | .aperture => 29
  | .unmapped => 10

/-- The access is permitted, its die can be reached, it lies in a peer's windows, and BAR2 waits for DEV_READY (R316). -/
def State.mayAccess (s : State) (rq : Requester) (a : Nat) (write : Bool) : Bool :=
  let r := s.region a
  mayReach rq r write
    && !s.rdB (meshPg (srcDie rq)) (MESH.ROUTE_UNREACHABLE (s.dstDie a))
    && (r != .regs || decide (a < regBase + 0x0B000000))
    && (match rq with
      | .bar2 _ => r == .aperture || s.rdB (pciePg 0) PCIE.STAT_DEV_READY
      | .peer p => s.peerMay p a 8 write
      | _ => true)

/-- A refused access ends as R263 states for its requester. -/
def State.refuseAccess (s : State) (rq : Requester) (a : Nat) (write : Bool) : State :=
  match rq with
  | .bar2 _ => s.extRefuse 0 a (!write)
  | .ingestPort => s.extRefuse 1 a (!write)
  | .peer p =>
    let k := plkPg p
    ((((s.inc k PLK.REFUSED_CNT).irq k 4).emitLimited (pageDie k) (0x6012000 + p) ticksMs k 0x6012 a)).send (.refusal p)
  | .coreCmd c => s.haltFault c (corePg c) 0x6011 a (s.rd (corePg c) CORE.STREAM_PC)
  | .tillerU c t => tillerTrapEffect s c t (if write then 7 else 5)
  | .tillerM _ _ => s.send .abort
  | .hubUnit d => (s.emit (diePage d) 0x6011 a).send .abort

/-- Bytes of a peer's request count at its port. -/
def State.countPeer (s : State) (rq : Requester) (write : Bool) : State :=
  match rq with
  | .peer p => s.inc (plkPg p) (if write then PLK.RX_BYTES else PLK.TX_BYTES) 8
  | _ => s

/-- An access of one 64-bit word that is not kept back: refused, or served by what lies at its address. Accesses of a granule that is
being copied wait (R277). -/
def State.serveAccess (s : State) (rq : Requester) (a : Nat) (wr : Option (Nat × Bool)) : State :=
  if !s.mayAccess rq a wr.isSome then s.refuseAccess rq a wr.isSome
  else
    let s := s.countPeer rq wr.isSome
    match s.region a with
    | .regs => s.regAccess false (regAt a).1 (regAt a).2 8 (wr.map (fun x => x.1))
    | .aperture => (match wr with
      | some (v, poison) => s.apertureEffect a (toLe 8 v) poison
      | none => s.send (.completion false 0))
    | _ =>
      if s.granuleHeld a then s.modStack (stackOf a) (fun x => { x with heldAcc := x.heldAcc ++ [(rq, a, wr)] })
      else s.serveWord rq a wr

/-- MEM_ACCESS: while an F fault is in force nothing from outside is served (R360). -/
def memAccessEffect (s : State) (rq : Requester) (a : Nat) (wr : Option (Nat × Bool)) : State :=
  match rq with
  | .bar2 _ => if s.frozen then s.extRefuse 0 a wr.isNone else s.serveAccess rq a wr
  | .ingestPort => if s.frozen then s else s.serveAccess rq a wr
  | .peer p => if s.frozen || !s.plkUp p then s else s.serveAccess rq a wr
  | _ => if s.power.halted then s else s.serveAccess rq a wr

/-- BAR2 is translated with the W2_BASE in force when the request arrives; its stream decides first (R311, R318). -/
def bar2Effect (s : State) (off : Nat) (wr : Option (Nat × Bool)) (stream : Option Nat) : State :=
  let a := s.rdA (pciePg 0) PCIE.W2_BASE_BASE + off
  match s.ide 0 stream with
  | .dropped => s
  | .refused => s.extRefuse 0 a wr.isNone
  | .ok =>
    let bad := match wr with
      | some (_, poison) => poison
      | none => false
    memAccessEffect (if bad then s.inc (pciePg 0) PCIE.POISON_RX_CNT else s) (.bar2 0) a wr

/-! ### Register writes of the host (R9, R310, R402) -/

/-- Function `f` has this many MSI-X vectors (R315). -/
def msixCount (f : Nat) : Nat := if f = 0 then 32 else 2

/-- The dword of an MSI-X table is written: the address is of 4 bytes' alignment, of the last dword only the mask is held. -/
def State.msixPut (s : State) (f i v : Nat) : State :=
  let v := if i % 4 = 0 then v / 4 * 4 else if i % 4 = 3 then v % 2 else v
  { s with msix := { s.msix with table := mput s.msix.table (128 * f + i) v } }

/-- A vector that is no longer masked and is pending is sent. -/
def State.msixLift (s : State) (f v : Nat) : State :=
  let b := mget s.msix.pba 0 f
  if b.testBit v ∧ s.msixDw f v 3 % 2 = 0 then
    ({ s with msix := { s.msix with pba := mput s.msix.pba f (putBit b v false) } }).sendMsix f v
  else s

/-- A write into function `f`'s MSI-X table of one dword or two; a narrower one is refused (R310). -/
def State.msixWrite (s : State) (f o w v : Nat) : State :=
  if msixCount f * 16 ≤ o then s
  else if w < 4 ∨ o % w ≠ 0 then (s.inc (pciePg 0) PCIE.UR_CNT).send .unsupported
  else
    let s := s.msixPut f (o / 4) (v % 2 ^ 32)
    (if w = 8 then s.msixPut f (o / 4 + 1) (v / 2 ^ 32) else s).msixLift f (o / 16)

/-- A write at an offset of a BAR4's 16 KiB of a function's own: its window, its MSI-X table; pending bits are read-only and the rest is
reserved (R310). -/
def State.fnBarWrite (s : State) (f o w v : Nat) : State :=
  if o < 0x1000 then s.regAccess true (fnPg f) o w (some v)
  else if 0x2000 ≤ o ∧ o < 0x3000 then (if s.frozen then s.send .abort else s.msixWrite f (o - 0x2000) w v)
  else s

/-- A write of `w` bytes at an offset of BAR0, or, from 0x1000_0000 on, of PF0's BAR4: what is its own, and the windows of all
functions; from 0x1100_0000 on, of the functions' own BAR4s, 16 KiB each. -/
def registerWriteEffect (s : State) (addr w v : Nat) : State :=
  if addr < 0x10000000 then
    if 0x0B000000 ≤ addr then s.extRefuse 0 (regBase + addr) false else s.regAccess true (addr / 4096) (addr % 4096) w (some v)
  else
    let o := addr - 0x10000000
    if 0x1000000 ≤ o then s.fnBarWrite ((o - 0x1000000) / 0x4000) (o % 0x4000) w v
    else if o < 0x4000 then s.fnBarWrite 0 o w v
    else if 0x100000 ≤ o ∧ o < 0x140000 then s.regAccess true (fnPg ((o - 0x100000) / 4096)) (o % 4096) w (some v)
    else s

/-! ### Held accesses (R332, R336) -/

/-- The first held access of a domain that the watchdog has not ended. -/
def heldBy (dom : Nat) (h : HeldAcc) : Bool := domainOf h.page == dom

def endFirst (p : HeldAcc → Bool) : List HeldAcc → List HeldAcc
  | [] => []
  | h :: l => if p h then { h with ended := true } :: l else h :: endFirst p l

/-- The completion watchdog ends the oldest held access of the page's domain: a completer abort, recorded at hub 10, where the access
entered. -/
def xingTimeoutEffect (s : State) (page : Nat) : State :=
  let open1 := fun (h : HeldAcc) => heldBy (domainOf page) h && !h.ended
  match (s.die (pageDie page)).held.find? open1 with
  | none => s
  | some h =>
    let s := s.modDie (pageDie page) (fun x => { x with held := endFirst open1 x.held })
    ((s.send .abort).inc (clkPg 10) CLK.XING_TMO_CNT).emit (clkPg 10) 0xB021 (regBase + h.page * 4096 + h.off)

/-- A message that answers a read. -/
def OutMsg.isRead (m : OutMsg) : Bool :=
  match m with
  | .readValue _ => true
  | _ => false

/-- A held access is performed: a read that the watchdog has ended is consumed and its data discarded, a TILE_RESET held across a
core's reset is discarded. -/
def State.performHeld (s : State) (h : HeldAcc) : State :=
  match h.value with
  | some v => if blockOf h.page = .tile ∧ h.off = 8 ∧ bit v 1 = true then s.refuse h.page else s.perform h.page h.off h.w (some v)
  | none =>
    let t := s.perform h.page h.off h.w none
    if h.ended then { t with out := s.out ++ (t.out.drop s.out.length).filter (fun m => !m.isRead) } else t

/-- The domain's clock runs again: the held accesses are performed in arrival order. -/
def crossingReleaseEffect (s : State) (page : Nat) : State :=
  let l := (s.die (pageDie page)).held.filter (heldBy (domainOf page))
  if s.frozen || l.any (fun h => s.domainStopped h.page h.off) then s
  else l.foldl (fun s h => s.performHeld h) (s.modDie (pageDie page) (fun x => { x with held := x.held.filter (fun h => !heldBy (domainOf page) h) }))

/-! ### Meanings -/

def execMemAccess (rq : Requester) (addr : Nat) (wr : Option (Nat × Bool)) (s : State) : Host.Outcome State Fault Refusal :=
  onWf s (.memAccess rq addr wr) (memAccessEffect s rq addr wr)

def execBar2Access (off : Nat) (wr : Option (Nat × Bool)) (stream : Option Nat) (s : State) : Host.Outcome State Fault Refusal :=
  onWf s (.bar2Access off wr stream) (bar2Effect s off wr stream)

def execXingTimeout (page : Nat) (s : State) : Host.Outcome State Fault Refusal := onWf s (.xingTimeout page) (xingTimeoutEffect s page)

def execCrossingRelease (page : Nat) (s : State) : Host.Outcome State Fault Refusal :=
  onWf s (.crossingRelease page) (crossingReleaseEffect s page)

def execIrqSetWrite (page v : Nat) (s : State) : Host.Outcome State Fault Refusal :=
  onWf s (.irqSetWrite page v) (s.regAccess true page 0x18 4 (some v))

def execRegisterWrite (addr w v : Nat) (s : State) : Host.Outcome State Fault Refusal :=
  onWf s (.registerWrite addr w v) (registerWriteEffect s addr w v)

end Sys2Proof.Machine
end

