-- ==== Sys2Proof/Machine/Dispatch.lean ====
section
/-! DEFINITION. The dispatch: one arm per command. -/

namespace Sys2Proof.Machine

def exec (i : Instr) (s : State) : Host.Outcome State Fault Refusal :=
  match i with
  | .passEnd c e t dev => Sys2Proof.Machine.execPassEnd c e t dev s
  | .vectorPlan c e t => Sys2Proof.Machine.execVectorPlan c e t s
  | .vectorReissue c e t => Sys2Proof.Machine.execVectorReissue c e t s
  | .tileReset c e t => Sys2Proof.Machine.execTileReset c e t s
  | .tileResetEnd c e t => Sys2Proof.Machine.execTileResetEnd c e t s
  | .tileEnableWrite c e t v => Sys2Proof.Machine.execTileEnableWrite c e t v s
  | .tileDisableEffect c e t => Sys2Proof.Machine.execTileDisableEffect c e t s
  | .colmapWrite c e t k v => Sys2Proof.Machine.execColmapWrite c e t k v s
  | .tileCfgWrite c e t v => Sys2Proof.Machine.execTileCfgWrite c e t v s
  | .calApplyRequest c e t => Sys2Proof.Machine.execCalApplyRequest c e t s
  | .applyEffect c e t => Sys2Proof.Machine.execApplyEffect c e t s
  | .calSave c e t => Sys2Proof.Machine.execCalSave c e t s
  | .calLoad c e t => Sys2Proof.Machine.execCalLoad c e t s
  | .calLoadVerifyDone c e t pass => Sys2Proof.Machine.execCalLoadVerifyDone c e t pass s
  | .calRecal c e t => Sys2Proof.Machine.execCalRecal c e t s
  | .trackWindow c e t => Sys2Proof.Machine.execTrackWindow c e t s
  | .refreshRow c e t b => Sys2Proof.Machine.execRefreshRow c e t b s
  | .refreshSlot c e t => Sys2Proof.Machine.execRefreshSlot c e t s
  | .bankWrite c e => Sys2Proof.Machine.execBankWrite c e s
  | .bankWriteDone c e t b => Sys2Proof.Machine.execBankWriteDone c e t b s
  | .bankSwap c e => Sys2Proof.Machine.execBankSwap c e s
  | .bankSwapJudge c e => Sys2Proof.Machine.execBankSwapJudge c e s
  | .bankSwapEffect c e t => Sys2Proof.Machine.execBankSwapEffect c e t s
  | .wearMoveStart c e t => Sys2Proof.Machine.execWearMoveStart c e t s
  | .wearMoveWriteDone c e t => Sys2Proof.Machine.execWearMoveWriteDone c e t s
  | .wearMoveSwap c e t => Sys2Proof.Machine.execWearMoveSwap c e t s
  | .bankRelease c e v => Sys2Proof.Machine.execBankRelease c e v s
  | .mvm c e => Sys2Proof.Machine.execMvm c e s
  | .mvmAcc c e => Sys2Proof.Machine.execMvmAcc c e s
  | .groupReduce c e => Sys2Proof.Machine.execGroupReduce c e s
  | .glumeRecordDone c e => Sys2Proof.Machine.execGlumeRecordDone c e s
  | .engineOpComplete c e tag => Sys2Proof.Machine.execEngineOpComplete c e tag s
  | .accClear c e => Sys2Proof.Machine.execAccClear c e s
  | .accPromote c e => Sys2Proof.Machine.execAccPromote c e s
  | .accSpillStore c e => Sys2Proof.Machine.execAccSpillStore c e s
  | .accSpillAdd c e => Sys2Proof.Machine.execAccSpillAdd c e s
  | .accSpillSave c e => Sys2Proof.Machine.execAccSpillSave c e s
  | .accResumeLoad c e => Sys2Proof.Machine.execAccResumeLoad c e s
  | .accResumeAdd c e => Sys2Proof.Machine.execAccResumeAdd c e s
  | .accResumeRestore c e => Sys2Proof.Machine.execAccResumeRestore c e s
  | .accRead c e => Sys2Proof.Machine.execAccRead c e s
  | .outlierLoad c e => Sys2Proof.Machine.execOutlierLoad c e s
  | .checkForce c e => Sys2Proof.Machine.execCheckForce c e s
  | .nop c => Sys2Proof.Machine.execNop c s
  | .streamEnd c => Sys2Proof.Machine.execStreamEnd c s
  | .semWait c => Sys2Proof.Machine.execSemWait c s
  | .semSignal c => Sys2Proof.Machine.execSemSignal c s
  | .fence c => Sys2Proof.Machine.execFence c s
  | .dmaCopy c => Sys2Proof.Machine.execDmaCopy c s
  | .dmaCopyDone c k => Sys2Proof.Machine.execDmaCopyDone c k s
  | .tillerKick c t => Sys2Proof.Machine.execTillerKick c t s
  | .tillerDone c t => Sys2Proof.Machine.execTillerDone c t s
  | .mboxRead c t => Sys2Proof.Machine.execMboxRead c t s
  | .tillerSemPortWrite c t sem n => Sys2Proof.Machine.execTillerSemPortWrite c t sem n s
  | .tillerTrap c t cause => Sys2Proof.Machine.execTillerTrap c t cause s
  | .tillerReset c t => Sys2Proof.Machine.execTillerReset c t s
  | .streamFetch c => Sys2Proof.Machine.execStreamFetch c s
  | .startRecord c r => Sys2Proof.Machine.execStartRecord c r s
  | .coreGo c => Sys2Proof.Machine.execCoreGo c s
  | .coreHalt c => Sys2Proof.Machine.execCoreHalt c s
  | .stepAbort c step => Sys2Proof.Machine.execStepAbort c step s
  | .haltComplete c => Sys2Proof.Machine.execHaltComplete c s
  | .stepEndReport c step => Sys2Proof.Machine.execStepEndReport c step s
  | .checkCompare c e t selfDisagree => Sys2Proof.Machine.execCheckCompare c e t selfDisagree s
  | .checkRepeatDone c e t dev => Sys2Proof.Machine.execCheckRepeatDone c e t dev s
  | .checkOutcome c e t => Sys2Proof.Machine.execCheckOutcome c e t s
  | .retireTakeover c e => Sys2Proof.Machine.execRetireTakeover c e s
  | .chkSeedWrite c v => Sys2Proof.Machine.execChkSeedWrite c v s
  | .lgSel c v => Sys2Proof.Machine.execLgSel c v s
  | .lgClear c => Sys2Proof.Machine.execLgClear c s
  | .drefWrite c v => Sys2Proof.Machine.execDrefWrite c v s
  | .stepSum c step => Sys2Proof.Machine.execStepSum c step s
  | .summaryTimeout step => Sys2Proof.Machine.execSummaryTimeout step s
  | .calSlot c e => Sys2Proof.Machine.execCalSlot c e s
  | .calTakeover c e => Sys2Proof.Machine.execCalTakeover c e s
  | .calTakeoverTimeout c e => Sys2Proof.Machine.execCalTakeoverTimeout c e s
  | .calProcedureEnd c e t m => Sys2Proof.Machine.execCalProcedureEnd c e t m s
  | .calTimeout c e => Sys2Proof.Machine.execCalTimeout c e s
  | .calReturn c e => Sys2Proof.Machine.execCalReturn c e s
  | .calOverdue c e t => Sys2Proof.Machine.execCalOverdue c e t s
  | .startupCalSettled c e => Sys2Proof.Machine.execStartupCalSettled c e s
  | .retentionScreenEnd c e lost => Sys2Proof.Machine.execRetentionScreenEnd c e lost s
  | .calUnsettled c e => Sys2Proof.Machine.execCalUnsettled c e s
  | .alloc c tenant slot page frame => Sys2Proof.Machine.execAlloc c tenant slot page frame s
  | .pinR c page tenant slot => Sys2Proof.Machine.execPinR c page tenant slot s
  | .pinW c page tenant slot listAddr q qframe => Sys2Proof.Machine.execPinW c page tenant slot listAddr q qframe s
  | .unpin page => Sys2Proof.Machine.execUnpin page s
  | .share page tenant slot => Sys2Proof.Machine.execShare page tenant slot s
  | .release page slot => Sys2Proof.Machine.execRelease page slot s
  | .trim page n slot => Sys2Proof.Machine.execTrim page n slot s
  | .spill page frame => Sys2Proof.Machine.execSpill page frame s
  | .fill page frame => Sys2Proof.Machine.execFill page frame s
  | .cowCopyDone b => Sys2Proof.Machine.execCowCopyDone b s
  | .tierMoveDone page => Sys2Proof.Machine.execTierMoveDone page s
  | .spillSweep b => Sys2Proof.Machine.execSpillSweep b s
  | .pageNumberRelease page => Sys2Proof.Machine.execPageNumberRelease page s
  | .kvAppend c => Sys2Proof.Machine.execKvAppend c s
  | .attnRun c => Sys2Proof.Machine.execAttnRun c s
  | .walkerPageRead c => Sys2Proof.Machine.execWalkerPageRead c s
  | .attnCmdComplete c => Sys2Proof.Machine.execAttnCmdComplete c s
  | .seqFailReport c slot => Sys2Proof.Machine.execSeqFailReport c slot s
  | .xlateWrite c v => Sys2Proof.Machine.execXlateWrite c v s
  | .kvpEnableWrite b v => Sys2Proof.Machine.execKvpEnableWrite b v s
  | .entrySel b v => Sys2Proof.Machine.execEntrySel b v s
  | .reqTail f v => Sys2Proof.Machine.execReqTail f v s
  | .submit f => Sys2Proof.Machine.execSubmit f s
  | .cancel f => Sys2Proof.Machine.execCancel f s
  | .park f => Sys2Proof.Machine.execPark f s
  | .unpark f => Sys2Proof.Machine.execUnpark f s
  | .stepAssembly m => Sys2Proof.Machine.execStepAssembly m s
  | .draftRoundEnd step => Sys2Proof.Machine.execDraftRoundEnd step s
  | .samplingDone step hub => Sys2Proof.Machine.execSamplingDone step hub s
  | .stepClose step => Sys2Proof.Machine.execStepClose step s
  | .slotFree slot => Sys2Proof.Machine.execSlotFree slot s
  | .resPopLo f => Sys2Proof.Machine.execResPopLo f s
  | .resPeekLo f => Sys2Proof.Machine.execResPeekLo f s
  | .resHeadWrite f v => Sys2Proof.Machine.execResHeadWrite f v s
  | .ringEnableWrite f res v => Sys2Proof.Machine.execRingEnableWrite f res v s
  | .seqSel v => Sys2Proof.Machine.execSeqSel v s
  | .modelSwap m => Sys2Proof.Machine.execModelSwap m s
  | .modelUnload m => Sys2Proof.Machine.execModelUnload m s
  | .barrierDeadlineCheck => Sys2Proof.Machine.execBarrierDeadlineCheck s
  | .swapComplete m ok => Sys2Proof.Machine.execSwapComplete m ok s
  | .apertureWrite addr data poisoned stream => Sys2Proof.Machine.execApertureWrite addr data poisoned stream s
  | .jobTail v => Sys2Proof.Machine.execJobTail v s
  | .jobLoad => Sys2Proof.Machine.execJobLoad s
  | .jobSwap => Sys2Proof.Machine.execJobSwap s
  | .jobExport => Sys2Proof.Machine.execJobExport s
  | .chunkProcess j raw => Sys2Proof.Machine.execChunkProcess j raw s
  | .layerComplete j => Sys2Proof.Machine.execLayerComplete j s
  | .jobEnd j => Sys2Proof.Machine.execJobEnd j s
  | .apertureCreditRequest port peer ch => Sys2Proof.Machine.execApertureCreditRequest port peer ch s
  | .apertureCreditMsg j slots consumed => Sys2Proof.Machine.execApertureCreditMsg j slots consumed s
  | .exportCreditRetry j => Sys2Proof.Machine.execExportCreditRetry j s
  | .exportCreditTimeout j => Sys2Proof.Machine.execExportCreditTimeout j s
  | .ingestEnableWrite v => Sys2Proof.Machine.execIngestEnableWrite v s
  | .memAccess rq addr wr => Sys2Proof.Machine.execMemAccess rq addr wr s
  | .scrubLine st => Sys2Proof.Machine.execScrubLine st s
  | .retireCopyDone st => Sys2Proof.Machine.execRetireCopyDone st s
  | .sramPatrol c word => Sys2Proof.Machine.execSramPatrol c word s
  | .eccTestWrite d => Sys2Proof.Machine.execEccTestWrite d s
  | .eccTestRead d => Sys2Proof.Machine.execEccTestRead d s
  | .eccTestEnWrite d v => Sys2Proof.Machine.execEccTestEnWrite d v s
  | .rmapSel st v => Sys2Proof.Machine.execRmapSel st v s
  | .linkRetrain d p => Sys2Proof.Machine.execLinkRetrain d p s
  | .retrainEnd d p ok => Sys2Proof.Machine.execRetrainEnd d p ok s
  | .laneRepair d p => Sys2Proof.Machine.execLaneRepair d p s
  | .routeWrite d dst v => Sys2Proof.Machine.execRouteWrite d dst v s
  | .awnAdd sem n => Sys2Proof.Machine.execAwnAdd sem n s
  | .awnClaim who sem n => Sys2Proof.Machine.execAwnClaim who sem n s
  | .awnGrant who => Sys2Proof.Machine.execAwnGrant who s
  | .claimWithdraw c => Sys2Proof.Machine.execClaimWithdraw c s
  | .stepStartBroadcast step => Sys2Proof.Machine.execStepStartBroadcast step s
  | .sclkZero => Sys2Proof.Machine.execSclkZero s
  | .plkTrain p retrain => Sys2Proof.Machine.execPlkTrain p retrain s
  | .plkTrainDone p badLanes versions peerId peerPort => Sys2Proof.Machine.execPlkTrainDone p badLanes versions peerId peerPort s
  | .plkLaneError p lane => Sys2Proof.Machine.execPlkLaneError p lane s
  | .peerInbound p addr wr => Sys2Proof.Machine.execPeerInbound p addr wr s
  | .rcopyStart h => Sys2Proof.Machine.execRcopyStart h s
  | .rcopyDone h k data => Sys2Proof.Machine.execRcopyDone h k data s
  | .semSel v => Sys2Proof.Machine.execSemSel v s
  | .semViewWrite v => Sys2Proof.Machine.execSemViewWrite v s
  | .bar2Access off wr stream => Sys2Proof.Machine.execBar2Access off wr stream s
  | .configRequest k => Sys2Proof.Machine.execConfigRequest k s
  | .flr f => Sys2Proof.Machine.execFlr f s
  | .hostLinkDown => Sys2Proof.Machine.execHostLinkDown s
  | .ingestLinkDown => Sys2Proof.Machine.execIngestLinkDown s
  | .ptmDialogue hostNs => Sys2Proof.Machine.execPtmDialogue hostNs s
  | .ptmHostRead => Sys2Proof.Machine.execPtmHostRead s
  | .ideFail k stream => Sys2Proof.Machine.execIdeFail k stream s
  | .cxlDown p => Sys2Proof.Machine.execCxlDown p s
  | .mctpRequest typ => Sys2Proof.Machine.execMctpRequest typ s
  | .spdmRequest mgmt op ide => Sys2Proof.Machine.execSpdmRequest mgmt op ide s
  | .jtagInstruction ir => Sys2Proof.Machine.execJtagInstruction ir s
  | .pllUnlock d => Sys2Proof.Machine.execPllUnlock d s
  | .refclkLoss => Sys2Proof.Machine.execRefclkLoss s
  | .xingTimeout page => Sys2Proof.Machine.execXingTimeout page s
  | .crossingRelease page => Sys2Proof.Machine.execCrossingRelease page s
  | .coreRstAssert c preserve => Sys2Proof.Machine.execCoreRstAssert c preserve s
  | .coreRstRelease c => Sys2Proof.Machine.execCoreRstRelease c s
  | .warmReset cause => Sys2Proof.Machine.execWarmReset cause s
  | .hkRoundTrigger => Sys2Proof.Machine.execHkRoundTrigger s
  | .hkDecision r => Sys2Proof.Machine.execHkDecision r s
  | .orderlyDrainEnd => Sys2Proof.Machine.execOrderlyDrainEnd s
  | .orderlyFlushEnd => Sys2Proof.Machine.execOrderlyFlushEnd s
  | .hkadcConversionEnd d input => Sys2Proof.Machine.execHkadcConversionEnd d input s
  | .hkadcSwTrig d => Sys2Proof.Machine.execHkadcSwTrig d s
  | .lifetimeFold => Sys2Proof.Machine.execLifetimeFold s
  | .classLineStuck d page => Sys2Proof.Machine.execClassLineStuck d page s
  | .recordPoll d page => Sys2Proof.Machine.execRecordPoll d page s
  | .recordWaitTimeout d page => Sys2Proof.Machine.execRecordWaitTimeout d page s
  | .faultRecord d => Sys2Proof.Machine.execFaultRecord d s
  | .coalesceExpiry d => Sys2Proof.Machine.execCoalesceExpiry d s
  | .faultLog => Sys2Proof.Machine.execFaultLog s
  | .containmentComplete seqno => Sys2Proof.Machine.execContainmentComplete seqno s
  | .logHeadWrite v => Sys2Proof.Machine.execLogHeadWrite v s
  | .logSel v => Sys2Proof.Machine.execLogSel v s
  | .compatQuietEnd => Sys2Proof.Machine.execCompatQuietEnd s
  | .migReq logical => Sys2Proof.Machine.execMigReq logical s
  | .migMoveStart logical => Sys2Proof.Machine.execMigMoveStart logical s
  | .migCopyDone logical => Sys2Proof.Machine.execMigCopyDone logical s
  | .migBanksDone logical => Sys2Proof.Machine.execMigBanksDone logical s
  | .rebuildReloadEnd logical => Sys2Proof.Machine.execRebuildReloadEnd logical s
  | .coreRedirWrite l v => Sys2Proof.Machine.execCoreRedirWrite l v s
  | .testDue c => Sys2Proof.Machine.execTestDue c s
  | .testDone c bist failed => Sys2Proof.Machine.execTestDone c bist failed s
  | .testDeferExpiry c => Sys2Proof.Machine.execTestDeferExpiry c s
  | .nvmDataRead => Sys2Proof.Machine.execNvmDataRead s
  | .cfg2pCommit mgmt => Sys2Proof.Machine.execCfg2pCommit mgmt s
  | .cfg2pApply => Sys2Proof.Machine.execCfg2pApply s
  | .fwSlotWrite img => Sys2Proof.Machine.execFwSlotWrite img s
  | .pwrgoodAssert railsOk refclkOk => Sys2Proof.Machine.execPwrgoodAssert railsOk refclkOk s
  | .pwrgoodDeassert => Sys2Proof.Machine.execPwrgoodDeassert s
  | .perstHostAssert => Sys2Proof.Machine.execPerstHostAssert s
  | .perstHostDeassert => Sys2Proof.Machine.execPerstHostDeassert s
  | .perstIngest v => Sys2Proof.Machine.execPerstIngest v s
  | .startupStageEnd n r => Sys2Proof.Machine.execStartupStageEnd n r s
  | .irqSetWrite page v => Sys2Proof.Machine.execIrqSetWrite page v s
  | .registerWrite addr w v => Sys2Proof.Machine.execRegisterWrite addr w v s
  | .stepFailureReport c step discarded => Sys2Proof.Machine.execStepFailureReport c step discarded s
  | .pcieLinkUp k width rate => Sys2Proof.Machine.execPcieLinkUp k width rate s
  | .plkReplayFailure p => Sys2Proof.Machine.execPlkReplayFailure p s
  | .appendPageWrite c => Sys2Proof.Machine.execAppendPageWrite c s

end Sys2Proof.Machine
end

