-- ==== Sys2Proof/Safety.lean ====
section
/-! DEFINITION. What the statements say of a run: when nothing keeps a command from its effect, which parts of the state and
which units a command leaves as they were, and the canonical form of the memories. -/

namespace Sys2Proof.Machine

/-- Nothing keeps command `i` from its effect in `s`: it names units and operands that exist, no F fault or halt holds it back
(R345, R360, R424), and the register it writes is in no stopped domain (R331, R332). -/
def State.lets (s : State) (i : Instr) : Prop :=
  i.wf = true ∧ (gateOf i = .always ∨ s.frozen = false)
    ∧ ∀ x, s.rowWrite i = some x → s.domainStopped x.1 x.2.1 = false

/-- Command `i` executes in `s`, and the state after it satisfies `P`. -/
def Completes (i : Instr) (s : State) (P : State → Prop) : Prop := ∃ t, exec i s = .next t ∧ P t

/-- The parts of the package's state; `out` is what it sends, with the MSI-X tables and pending bits beside it. -/
inductive Part where
  | now | sclk0 | fresh | regs | tiles | engines | cores | dies | hbms | ports | rcopies | dev | host | cstore | tsram | pages
  | srv | ingest | awn | flt | nvm | sec | power | out | pending
deriving DecidableEq, Repr

/-- Part `p` is the same in both states. -/
def Part.same (s t : State) : Part → Prop
  | .now => t.now = s.now
  | .sclk0 => t.sclk0 = s.sclk0
  | .fresh => t.fresh = s.fresh
  | .regs => t.regs = s.regs
  | .tiles => t.tiles = s.tiles
  | .engines => t.engines = s.engines
  | .cores => t.cores = s.cores
  | .dies => t.dies = s.dies
  | .hbms => t.hbms = s.hbms
  | .ports => t.ports = s.ports
  | .rcopies => t.rcopies = s.rcopies
  | .dev => t.dev = s.dev
  | .host => t.host = s.host
  | .cstore => t.cstore = s.cstore
  | .tsram => t.tsram = s.tsram
  | .pages => t.pages = s.pages
  | .srv => t.srv = s.srv
  | .ingest => t.ingest = s.ingest
  | .awn => t.awn = s.awn
  | .flt => t.flt = s.flt
  | .nvm => t.nvm = s.nvm
  | .sec => t.sec = s.sec
  | .power => t.power = s.power
  | .out => (t.out, t.msix) = (s.out, s.msix)
  | .pending => t.pending = s.pending

/-- Every part but those of `ps` is the same in both states. -/
def Keeps (ps : List Part) (s t : State) : Prop := ∀ p, p ∉ ps → p.same s t

/-- The parts of the state command `i` may change, counting what an F fault, a halt or a stopped domain does in its place: every
other part is as it was. -/
def mayChange : Instr → List Part
  | .passEnd .. => [.regs, .tiles, .cores, .out]
  | .vectorPlan .. | .vectorReissue .. => [.regs, .tiles, .out]
  | .tileReset .. | .trackWindow .. | .groupReduce .. | .calSlot .. | .calTakeoverTimeout ..
    => [.regs, .tiles, .engines, .dies, .out]
  | .tileResetEnd .. | .bankWriteDone .. | .wearMoveWriteDone .. | .wearMoveSwap .. | .calTakeover .. | .calReturn ..
    => [.regs, .tiles, .engines, .dies]
  | .tileEnableWrite .. | .calApplyRequest .. | .calLoad .. | .refreshRow .. | .refreshSlot .. | .bankRelease ..
    | .chkSeedWrite .. => [.regs, .tiles, .dies, .out]
  | .tileDisableEffect .. | .applyEffect .. | .checkRepeatDone .. => [.regs, .tiles]
  | .colmapWrite .. | .tileCfgWrite .. | .tillerReset .. | .lgSel .. | .spillSweep .. | .xlateWrite .. | .entrySel ..
    | .reqTail .. | .resPeekLo .. | .seqSel .. | .jobTail .. | .eccTestRead .. | .rmapSel .. | .laneRepair ..
    | .semSel .. | .xingTimeout .. | .hkadcSwTrig .. => [.regs, .dies, .out]
  | .calSave .. => [.regs, .dies, .cstore, .out]
  | .calLoadVerifyDone .. | .wearMoveStart .. => [.regs, .tiles, .dies]
  | .calRecal .. => [.regs, .engines, .dies, .out]
  | .bankWrite .. | .mvm .. | .mvmAcc .. | .engineOpComplete .. => [.regs, .tiles, .engines, .cores, .dies, .awn, .out]
  | .bankSwap .. | .bankSwapJudge .. | .accClear .. | .accPromote .. | .accResumeLoad .. | .accResumeAdd ..
    | .accResumeRestore .. | .outlierLoad .. | .checkForce .. | .nop .. | .streamEnd .. | .semWait .. | .semSignal ..
    | .fence .. | .dmaCopy .. | .tillerKick .. | .tillerDone .. | .tillerSemPortWrite .. | .tillerTrap ..
    | .coreHalt .. | .awnGrant .. => [.regs, .engines, .cores, .dies, .awn, .out]
  | .bankSwapEffect .. => [.regs, .tiles, .engines]
  | .glumeRecordDone .. => [.fresh, .regs, .engines, .dies, .cstore, .out]
  | .accSpillStore .. | .accSpillAdd .. | .accSpillSave .. | .accRead .. | .attnCmdComplete ..
    => [.regs, .engines, .cores, .dies, .cstore, .awn, .out]
  | .dmaCopyDone .. => [.regs, .engines, .cores, .dies, .hbms, .dev, .cstore, .awn, .out]
  | .mboxRead .. => [.cores, .out]
  | .streamFetch .. => [.regs, .engines, .cores, .dies, .hbms, .awn, .out]
  | .startRecord .. | .haltComplete .. => [.regs, .engines, .cores, .out]
  | .coreGo .. => [.regs, .engines, .cores, .dies, .out]
  | .stepAbort .. => [.regs, .engines, .cores, .awn, .out]
  | .stepEndReport .. => [.srv, .ingest, .flt, .out]
  | .checkCompare .. | .checkOutcome .. | .calProcedureEnd .. | .calTimeout .. | .retentionScreenEnd ..
    | .retrainEnd .. | .routeWrite .. | .pllUnlock .. | .migReq .. | .migBanksDone .. | .rebuildReloadEnd ..
    | .testDue .. | .testDeferExpiry ..
    => [.regs, .tiles, .engines, .cores, .dies, .hbms, .dev, .host, .cstore, .pages, .srv, .ingest, .awn, .flt, .nvm, .out]
  | .retireTakeover .. => [.regs, .tiles, .engines, .dies, .flt, .out]
  | .lgClear .. | .drefWrite .. => [.regs, .cores, .dies, .out]
  | .stepSum .. => [.regs, .cores, .dies, .host, .srv, .out]
  | .summaryTimeout .. | .park .. | .unpark .. | .resPopLo .. | .resHeadWrite .. | .ringEnableWrite ..
    => [.regs, .dies, .host, .srv, .out]
  | .calOverdue .. | .classLineStuck .. | .recordWaitTimeout .. => [.regs, .dies]
  | .startupCalSettled .. => [.engines]
  | .calUnsettled .. => [.engines, .dies]
  | .alloc .. | .pinR .. | .pinW .. | .kvAppend .. | .attnRun .. | .walkerPageRead .. | .appendPageWrite ..
    => [.regs, .engines, .cores, .dies, .hbms, .dev, .pages, .srv, .awn, .out]
  | .unpin .. => [.regs, .cores, .dies, .dev, .pages, .srv, .out]
  | .share .. | .release .. | .trim .. | .seqFailReport .. | .cancel .. | .samplingDone .. | .barrierDeadlineCheck ..
    | .flr .. => [.regs, .cores, .dies, .dev, .host, .pages, .srv, .out]
  | .spill .. => [.regs, .dies, .dev, .pages, .out]
  | .fill .. => [.regs, .dev, .pages]
  | .cowCopyDone .. => [.regs, .engines, .cores, .dies, .hbms, .dev, .host, .pages, .srv, .awn, .out]
  | .tierMoveDone .. | .submit .. | .modelUnload .. | .swapComplete ..
    => [.regs, .cores, .dies, .hbms, .dev, .host, .pages, .srv, .out]
  | .pageNumberRelease .. => [.pages]
  | .kvpEnableWrite .. => [.regs, .dies, .pages, .out]
  | .stepAssembly .. => [.regs, .cores, .dies, .dev, .host, .cstore, .pages, .srv, .out]
  | .draftRoundEnd .. => [.regs, .cores, .dies, .dev, .host, .cstore, .pages, .srv, .awn, .out]
  | .stepClose .. => [.regs, .cores, .dies, .dev, .host, .pages, .srv, .ingest, .flt, .out]
  | .slotFree .. => [.srv]
  | .modelSwap .. | .jobEnd .. => [.regs, .cores, .dies, .dev, .host, .pages, .srv, .ingest, .out]
  | .apertureWrite .. | .jobLoad .. | .jobSwap .. | .jobExport .. | .exportCreditTimeout .. | .ingestEnableWrite ..
    => [.regs, .dies, .dev, .ingest, .out]
  | .chunkProcess .. | .peerInbound .. => [.regs, .dies, .hbms, .dev, .ingest, .out]
  | .layerComplete .. => [.fresh, .regs, .dies, .dev, .ingest, .flt, .out]
  | .apertureCreditRequest .. | .exportCreditRetry .. => [.ingest, .out]
  | .apertureCreditMsg .. => [.ingest]
  | .memAccess .. | .bar2Access .. | .crossingRelease .. | .irqSetWrite .. | .registerWrite ..
    => [.regs, .tiles, .engines, .cores, .dies, .hbms, .ports, .rcopies, .dev, .host, .cstore, .pages, .srv, .ingest, .awn,
      .flt, .nvm, .sec, .power, .out]
  | .scrubLine .. => [.regs, .dies, .hbms, .dev, .out]
  | .retireCopyDone .. => [.regs, .dies, .hbms, .dev, .flt, .sec, .out]
  | .sramPatrol .. => [.regs, .cstore, .out]
  | .eccTestWrite .. => [.regs, .dies, .dev, .out]
  | .eccTestEnWrite .. => [.regs, .dies, .hbms, .out]
  | .linkRetrain .. => [.dies]
  | .awnAdd .. => [.regs, .dies, .awn]
  | .awnClaim .. | .claimWithdraw .. => [.regs, .awn]
  | .stepStartBroadcast .. => [.regs, .cores, .srv, .ingest, .awn, .flt, .out]
  | .sclkZero .. => [.sclk0, .regs]
  | .plkTrain .. => [.regs, .ports]
  | .plkTrainDone .. => [.regs, .dies, .ports, .rcopies, .dev, .awn, .out]
  | .plkLaneError .. => [.regs, .dies, .ports, .rcopies, .dev, .awn, .flt, .out]
  | .rcopyStart .. => [.regs, .dies, .hbms, .rcopies, .dev, .awn, .out]
  | .rcopyDone .. => [.regs, .dies, .rcopies, .dev, .awn]
  | .semViewWrite .. => [.regs, .dies, .awn, .out]
  | .configRequest .. | .mctpRequest .. => [.out]
  | .hostLinkDown .. => [.regs, .cores, .dies, .dev, .host, .pages, .srv, .power, .out]
  | .ingestLinkDown .. | .ideFail .. | .refclkLoss .. | .perstIngest .. => [.regs, .dies, .power]
  | .ptmDialogue .. | .pcieLinkUp .. => [.regs, .power]
  | .ptmHostRead .. | .cxlDown .. => [.regs, .dies, .power, .out]
  | .spdmRequest .. => [.power, .out]
  | .jtagInstruction .. | .hkRoundTrigger .. => [.dies, .power]
  | .coreRstAssert .. => [.regs, .tiles, .engines, .cores, .dies, .cstore, .awn, .out]
  | .coreRstRelease .. => [.regs, .tiles, .engines, .cores, .dies, .out]
  | .warmReset .. | .pwrgoodAssert .. | .perstHostAssert ..
    => [.sclk0, .regs, .tiles, .engines, .cores, .dies, .hbms, .ports, .rcopies, .pages, .srv, .ingest, .awn, .flt, .nvm,
      .sec, .power, .out]
  | .hkDecision .. => [.regs, .tiles, .engines, .cores, .dies, .srv, .awn, .nvm, .power, .out]
  | .orderlyDrainEnd .. => [.regs, .cores, .dies, .dev, .host, .pages, .srv, .awn, .power, .out]
  | .orderlyFlushEnd .. | .faultLog ..
    => [.regs, .tiles, .engines, .cores, .dies, .hbms, .dev, .host, .pages, .srv, .ingest, .awn, .flt, .nvm, .power, .out]
  | .hkadcConversionEnd .. => [.regs, .dies, .dev]
  | .lifetimeFold .. => [.fresh, .regs, .tiles, .cores, .dies, .flt, .nvm, .sec, .power]
  | .recordPoll .. | .faultRecord .. | .coalesceExpiry .. | .logHeadWrite .. => [.regs, .dies, .flt]
  | .containmentComplete .. => [.regs, .dev, .flt, .nvm, .out]
  | .logSel .. | .coreRedirWrite .. => [.regs]
  | .compatQuietEnd .. => [.regs, .dies, .flt, .nvm, .power]
  | .migMoveStart .. => [.regs, .tiles, .engines, .cores, .dies, .hbms, .dev, .host, .pages, .srv, .ingest, .flt, .nvm, .out]
  | .migCopyDone .. => [.regs, .engines, .cstore, .tsram, .flt, .out]
  | .testDone .. => [.regs, .tiles, .engines, .cores, .dies, .flt, .nvm, .out]
  | .nvmDataRead .. => [.regs, .out]
  | .cfg2pCommit .. => [.regs, .dies, .hbms, .sec, .out]
  | .cfg2pApply .. => [.regs, .cores, .dies, .dev, .host, .pages, .srv, .sec, .out]
  | .fwSlotWrite .. => [.regs, .sec]
  | .pwrgoodDeassert .. => [.regs, .engines, .cores, .awn, .power, .out]
  | .perstHostDeassert .. => [.power]
  | .startupStageEnd ..
    => [.fresh, .regs, .tiles, .engines, .cores, .dies, .hbms, .dev, .cstore, .tsram, .flt, .nvm, .sec, .power, .out]
  | .stepFailureReport .. => [.regs, .cores, .dies, .dev, .host, .pages, .srv, .ingest, .awn, .flt, .out]
  | .plkReplayFailure .. => [.regs, .dies, .rcopies, .dev, .awn, .out]

/-- Two maps agree at every key but those of `ks`. -/
def AgreeOff {α : Type} (ks : List Nat) (m n : FMap α) : Prop := ∀ k, k ∉ ks → mfind n k = mfind m k

/-- Every register field agrees but those of the pages `ps`. A field's key holds its page above its bit address of 15 bits. -/
def PagesKept (ps : List Nat) (s t : State) : Prop := ∀ k, k / 32768 ∉ ps → mfind t.regs k = mfind s.regs k

/-- The command executes and changes nothing: the event it is cannot happen in this state. -/
def Idle (i : Instr) (s : State) : Prop := exec i s = .next s

/-- What a step may not do to the memories: leave canonical form. -/
abbrev MemoryInv (s : State) : Prop := Memory.wf s = true

/-- Command `i` is requester `rq`'s access of the word at `a`, as a memory access or through the host's window (R311), and nothing
outside memory keeps it from the address map: no F fault, no halt, its port up, its stream in order. -/
def State.accesses (s : State) (i : Instr) (rq : Requester) (a : Nat) (wr : Option (Nat × Bool)) : Bool :=
  (match i with
    | .memAccess q b w => decide (q = rq) && b == a && w == wr
    | .bar2Access off w stream =>
      decide (rq = .bar2 0) && a == s.rdA (pciePg 0) PCIE.W2_BASE_BASE + off && a % 8 == 0 && w == wr && decide (s.ide 0 stream = .ok)
    | _ => false)
  && !s.frozen && !s.power.halted
  && (match rq with
    | .peer p => s.plkUp p
    | _ => true)

/-- Every compute die that die `d` reaches by port `p` it also reaches by an alternative that is valid and up (R288). -/
def State.detours (s : State) (d p : Nat) : Bool :=
  (List.range 40).all (fun dst =>
    !isCompute dst || dst == d || s.rd (meshPg d) (MESH.ROUTE_PRIMARY dst) != p
      || (s.rdB (meshPg d) MESH.CTRL_ALT_EN && s.rdB (meshPg d) (MESH.ROUTE_ALT_VALID dst)
        && s.rd (meshPg d) (MESH.ROUTE_ALT dst) != p && s.portUp d (s.rd (meshPg d) (MESH.ROUTE_ALT dst))))

/-- Nothing of core `c` waits for its release from reset: no bank is RESIDENT, no turn returns, no spare is filled. -/
def State.nothingHeld (s : State) (c : Nat) : Bool :=
  (List.range 4).all (fun e =>
    (List.range 34).all (fun k => s.bankState c e (k / 2) (k % 2) != 2) && decide ((s.eng c e).rot.phase ≠ .ret) && (s.eng c e).fillFor.isNone)

end Sys2Proof.Machine
end

