-- ==== Sys2Proof/Certificates/Slice0/Obligations.lean ====
section
/-! DEFINITION. The statements for the provers, from the numbered rules of the manual. `Completes i s P` says that command `i`
executes in `s` and that the state after it satisfies `P`; `s.lets i` that it names what exists and nothing keeps it back. -/

open Sys2Proof Sys2Proof.Machine

/-! ### The tile (file 02) -/

/-- R57, R31, R49, R431, R47, R73, R95, R333: a write of TILE.CFG that leaves the compute bank's slice bit sets its seven rw fields
and nothing else, any other is refused whole; a COLMAP entry of a disabled tile takes its fields, on an enabled tile the write is
refused; CTRL.ENABLE. A per-tile reset ends every vector on the tile and forgets its samples, and lasts until TILE_RESET_END. -/
def Obligations.TileRegisterWritesAndReset : Prop :=
  (∀ (s : State) (c e t : Nat),
    (∀ v, s.lets (.tileCfgWrite c e t v) →
      bit v (3 + s.computeBank c e t) = s.rdB (tilePg c e t) (sliceF (s.computeBank c e t)) →
      Completes (.tileCfgWrite c e t v) s (fun u =>
        (∀ f ∈ [TILE.CFG_MERGE_EN, TILE.CFG_SKIP_EN, TILE.CFG_SPLIT_EN, TILE.CFG_LIMIT_B, TILE.CFG_LIMIT_A, TILE.CFG_SLICE_B, TILE.CFG_SLICE_A],
          u.rd (tilePg c e t) f = field v f.lsb f.width)
        ∧ u.rd (tilePg c e t) TILE.CFG_COMPUTE_BANK = s.rd (tilePg c e t) TILE.CFG_COMPUTE_BANK
        ∧ PagesKept [tilePg c e t] s u ∧ Keeps [.regs] s u))
    ∧ (∀ v, s.lets (.tileCfgWrite c e t v) →
      bit v (3 + s.computeBank c e t) ≠ s.rdB (tilePg c e t) (sliceF (s.computeBank c e t)) →
      exec (.tileCfgWrite c e t v) s = .next (s.refuse (tilePg c e t)))
    ∧ (∀ i v, s.lets (.colmapWrite c e t i v) → s.rdB (tilePg c e t) TILE.CTRL_ENABLE = false → (s.tile c e t).disablePending = false →
      Completes (.colmapWrite c e t i v) s (fun u =>
        u.rd (tilePg c e t) (TILE.COLMAP_VALID i) = toBit (bit v 31) ∧ u.rd (tilePg c e t) (TILE.COLMAP_BANK i) = field v 16 2
        ∧ u.rd (tilePg c e t) (TILE.COLMAP_COLUMN i) = field v 0 8 ∧ PagesKept [tilePg c e t] s u ∧ Keeps [.regs] s u))
    ∧ (∀ i v, s.lets (.colmapWrite c e t i v) → s.rdB (tilePg c e t) TILE.CTRL_ENABLE = true →
      exec (.colmapWrite c e t i v) s = .next (s.refuse (tilePg c e t)))
    ∧ (s.lets (.tileEnableWrite c e t false) → s.rdB (tilePg c e t) TILE.CTRL_ENABLE = true →
      Completes (.tileEnableWrite c e t false) s (fun u =>
        u.rd (tilePg c e t) TILE.CTRL_ENABLE = 0 ∧ u.tile c e t = { s.tile c e t with disablePending := true }
        ∧ u.rd (tilePg c e t) TILE.STAT_IN_SERVICE = s.rd (tilePg c e t) TILE.STAT_IN_SERVICE
        ∧ AgreeOff [c * 128 + e * 32 + t] s.tiles u.tiles ∧ Keeps [.regs, .tiles] s u))
    ∧ (s.lets (.tileDisableEffect c e t) → (s.tile c e t).disablePending = true → (∀ v ∈ (s.tile c e t).vecs, v.finished = true) →
      Completes (.tileDisableEffect c e t) s (fun u =>
        u.rd (tilePg c e t) TILE.STAT_IN_SERVICE = 0 ∧ u.tile c e t = { s.tile c e t with disablePending := false }
        ∧ AgreeOff [c * 128 + e * 32 + t] s.tiles u.tiles ∧ PagesKept [tilePg c e t] s u ∧ Keeps [.regs, .tiles] s u)))
  ∧ (∀ (s : State) (c e t : Nat),
    (s.lets (.tileReset c e t) →
      Completes (.tileReset c e t) s (fun u =>
        (u.tile c e t).resetAt = some s.now ∧ (u.tile c e t).sampleQ = []
        ∧ (u.tile c e t).vecs.length = (s.tile c e t).vecs.length
        ∧ (∀ v ∈ (u.tile c e t).vecs, v.finished = true ∧ v.passes = [] ∧ v.splits = [])
        ∧ Keeps [.regs, .tiles, .engines, .dies, .out] s u))
    ∧ (s.lets (.tileResetEnd c e t) → (s.tile c e t).resetAt ≠ none →
      Completes (.tileResetEnd c e t) s (fun u =>
        (u.tile c e t).resetAt = none ∧ (u.tile c e t).vecs = (s.tile c e t).vecs ∧ Keeps [.regs, .tiles, .engines, .dies] s u)))

/-- R39, R116, R117, R34, R36, R42, R75: the vector in turn is planned: its rows driven are its elements, those of static and routed
rows and of rows at or above ROWS apart, and each planned pass drives rows of the vector; a re-issued vector drives its halved
elements. A pass of the vector in turn ends: its conversion is delivered with weight 16 or 1, each lane within the guard range with
its code. -/
def Obligations.VectorsArePlannedAndDelivered : Prop :=
  (∀ (s : State) (c e t : Nat) (v : Vec),
    s.vecTile c e v.tag v.named = t →
    (s.lets (.vectorPlan c e t) → s.plannable c e t false = some v → s.dynOn c e v = false →
      Completes (.vectorPlan c e t) s (fun u =>
        (∃ w ∈ (u.tile c e t).vecs, w.tag = v.tag ∧ w.named = v.named ∧ w.planned = true ∧ w.reissued = false ∧ w.routed = []
          ∧ w.driven = (List.range v.elems.length).map (fun r => if s.deadOf c e t v r then 0
              else clampI (-(s.drivenRange c e v : Int)) (s.drivenRange c e v) (v.elems.getD r 0))
          ∧ w.bank = s.computeBank c e t)
        ∧ (u.tile c e t).vecs.length = (s.tile c e t).vecs.length ∧ Keeps [.regs, .tiles, .out] s u))
    ∧ (s.lets (.vectorReissue c e t) → s.plannable c e t true = some v →
      Completes (.vectorReissue c e t) s (fun u =>
        (∃ w ∈ (u.tile c e t).vecs, w.tag = v.tag ∧ w.named = v.named ∧ w.planned = true ∧ w.reissued = true
          ∧ w.routed.length ≤ 16
          ∧ w.driven = (List.range v.elems.length).map (fun r => if s.deadOf c e t v r || w.routed.contains r then 0
              else clampI (-(s.drivenRange c e v : Int)) (s.drivenRange c e v) (halved (v.elems.getD r 0))))
        ∧ (u.tile c e t).vecs.length = (s.tile c e t).vecs.length ∧ Keeps [.regs, .tiles, .out] s u)))
  ∧ (∀ (s : State) (c e t : Nat) (dev : List Int) (v : Vec) (p : Pass) (rows lanes : List Nat),
    s.lets (.passEnd c e t dev) → s.vecTile c e v.tag v.named = t → s.runnable c e t = some v → v.next = some (p, 0, rows, lanes) →
    Completes (.passEnd c e t dev) s (fun u =>
      (∃ w ∈ (u.tile c e t).vecs, w.tag = v.tag ∧ w.named = v.named ∧ w.passes = v.passes.drop 1
        ∧ ∃ o ∈ w.out, w.out = v.out ++ [o] ∧ o.scale = (if p.high then 16 else 1) ∧ o.lanes.length = 256
          ∧ ∀ l ∈ lanes, l < 256 → (((s.convert c e t v p.high rows dev).1.getD l (0, false)).2 = false →
              (o.lanes.getD l LaneCode.zero).code = ((s.convert c e t v p.high rows dev).1.getD l (0, false)).1
                ∧ (o.lanes.getD l LaneCode.zero).sat = false))
      ∧ Keeps [.regs, .tiles, .cores, .out] s u))

/-! ### Banks, refresh, wear levelling (file 03) -/

/-- R54, R55, R74: BANK_WRITE issues, and its operation is under way; the write of a bank that is done leaves the bank RESIDENT or
STREAMED with the rows of the command; BANK_RELEASE makes an idle bank EMPTY, and is refused for the compute bank. -/
def Obligations.BanksAreWrittenAndReleased : Prop := ∀ (s : State) (c e t b : Nat),
  (∀ d, s.lets (.bankWrite c e) → s.issuable c e 0x20 = some d →
    Completes (.bankWrite c e) s (fun u =>
      (∃ o ∈ (u.eng c e).ops, o.d = d ∧ o.tiles = maskTiles d.mask) ∧ (u.eng c e).ops.length = (s.eng c e).ops.length + 1
      ∧ Keeps [.regs, .tiles, .engines, .cores, .dies, .awn, .out] s u))
  ∧ (∀ w, s.lets (.bankWriteDone c e t b) → ((s.tile c e t).bank b).wr = some w → w.kind = .fill →
    Completes (.bankWriteDone c e t b) s (fun u =>
      u.bankState c e t b = (if w.resident then 2 else 1) ∧ u.bankRows c e t b = w.rows % 2 ^ (ENG.BANK_STATE_ROWS (bkey t b)).width
      ∧ ((u.tile c e t).bank b).wr = none ∧ (u.tile c e t).writes = (s.tile c e t).writes + 1
      ∧ AgreeOff [c * 128 + e * 32 + t] s.tiles u.tiles ∧ Keeps [.regs, .tiles, .engines, .dies] s u))
  ∧ (∀ v, s.lets (.bankRelease c e v) → field v 0 5 ≤ 16 → s.computeBank c e (field v 0 5) ≠ field v 8 1 →
    s.rdB (engPg c e) (ENG.BANK_STATE_WRITING (bkey (field v 0 5) (field v 8 1))) = false →
    Completes (.bankRelease c e v) s (fun u =>
      u.bankState c e (field v 0 5) (field v 8 1) = 0 ∧ u.bankRows c e (field v 0 5) (field v 8 1) = 0
      ∧ Keeps [.regs, .tiles, .dies] s u))
  ∧ (∀ v, s.lets (.bankRelease c e v) → s.computeBank c e (field v 0 5) = field v 8 1 →
    exec (.bankRelease c e v) s = .next (s.refuse (engPg c e)))

/-- R58, R59: BANK_SWAP issues; judged with every incoming bank good it stands, with a bad one it is refused and its core halts;
then each tile's compute and idle bank change places at a pass boundary. -/
def Obligations.BankSwapsExchangeComputeAndIdle : Prop := ∀ (s : State) (c e t : Nat),
  (∀ d, s.lets (.bankSwap c e) → s.issuable c e 0x21 = some d →
    Completes (.bankSwap c e) s (fun u =>
      (∃ o ∈ (u.eng c e).ops, o.d = d ∧ o.tiles = maskTiles d.mask ∧ o.judged = false) ∧ Keeps [.regs, .engines, .cores, .dies, .awn, .out] s u))
  ∧ (∀ o, s.lets (.bankSwapJudge c e) → (s.eng c e).ops.find? (fun q => q.d.opcode == 0x21 && !q.judged) = some o →
    swapWaits (s.eng c e).ops o = false → (∀ k ∈ o.left, s.swapBad c e (k / 32) = false) →
    exec (.bankSwapJudge c e) s = .next (s.modOp c e o.d.tag (fun q => { q with judged := true })))
  ∧ (∀ o, s.lets (.bankSwapJudge c e) → (s.eng c e).ops.find? (fun q => q.d.opcode == 0x21 && !q.judged) = some o →
    swapWaits (s.eng c e).ops o = false → (∃ k ∈ o.left, s.swapBad c e (k / 32) = true) → coreState s c = 1 →
    Completes (.bankSwapJudge c e) s (fun u => coreState u c = 2 ∧ u.rd (corePg c) CORE.HALT_INFO_CODE = 0x1034 ∧ u.tiles = s.tiles))
  ∧ (∀ o, s.lets (.bankSwapEffect c e t) → (s.eng c e).ops.find? (fun q => q.d.opcode == 0x21 && q.left.any (fun k => k / 32 == t)) = some o →
    o.judged = true → (s.tile c e t).splitting = false → (∀ v ∈ (s.tile c e t).vecs, v.finished = true) → s.computeBank c e t < 2 →
    Completes (.bankSwapEffect c e t) s (fun u =>
      u.computeBank c e t = 1 - s.computeBank c e t ∧ (u.tile c e t).epoch = (s.tile c e t).epoch + 1
      ∧ AgreeOff [c * 128 + e * 32 + t] s.tiles u.tiles ∧ PagesKept [tilePg c e t] s u ∧ Keeps [.regs, .tiles, .engines] s u))

/-- R61, R63, R66, R70, R71: a row of an idle RESIDENT bank is refreshed at once and the sweep moves on; of a compute bank it falls
due and takes the refresh slot of a pass boundary. A wear-levelling move writes the idle EMPTY bank of a tile whose compute bank is
RESIDENT, and swaps at a pass boundary; the vacated bank is EMPTY and the time of the move stands. -/
def Obligations.RefreshAndWearMovesKeepTheirOrder : Prop :=
  (∀ (s : State) (c e t b : Nat),
    (s.lets (.refreshRow c e t b) → s.bankState c e t b = 2 → ((s.tile c e t).bank b).wr = none → s.bankRows c e t b ≠ 0 →
      s.refreshHeld c e t = false → s.computeBank c e t ≠ b →
      Completes (.refreshRow c e t b) s (fun u =>
        ((u.tile c e t).bank b).sweep =
          (if ((s.tile c e t).bank b).sweep + 1 < s.bankRows c e t b then ((s.tile c e t).bank b).sweep + 1 else 0)
        ∧ mget ((u.tile c e t).bank b).refreshed (0, 0) ((s.tile c e t).bank b).sweep = (s.now, s.intervalUs c e)
        ∧ AgreeOff [c * 128 + e * 32 + t] s.tiles u.tiles ∧ Keeps [.regs, .tiles, .dies, .out] s u))
    ∧ (s.lets (.refreshRow c e t b) → s.bankState c e t b = 2 → ((s.tile c e t).bank b).wr = none → s.bankRows c e t b ≠ 0 →
      s.refreshHeld c e t = false → s.computeBank c e t = b → ((s.tile c e t).bank b).due = none →
      Completes (.refreshRow c e t b) s (fun u =>
        ((u.tile c e t).bank b).due = some ((s.tile c e t).bank b).sweep ∧ u.regs = s.regs
        ∧ AgreeOff [c * 128 + e * 32 + t] s.tiles u.tiles ∧ Keeps [.tiles] s u))
    ∧ (∀ r, s.lets (.refreshSlot c e t) → ((s.tile c e t).bank (s.computeBank c e t)).due = some r → (s.tile c e t).splitting = false →
      s.refreshHeld c e t = false →
      Completes (.refreshSlot c e t) s (fun u =>
        ((u.tile c e t).bank (s.computeBank c e t)).due = none
        ∧ mget ((u.tile c e t).bank (s.computeBank c e t)).refreshed (0, 0) r = (s.now, s.intervalUs c e)
        ∧ AgreeOff [c * 128 + e * 32 + t] s.tiles u.tiles ∧ Keeps [.regs, .tiles, .dies, .out] s u)))
  ∧ (∀ (s : State) (c e t : Nat),
    (s.lets (.wearMoveStart c e t) → s.coreStopped c = false → s.rdB (engPg c e) ENG.WEAR_CTRL_ENABLE = true →
      s.bankState c e t (s.computeBank c e t) = 2 → s.bankState c e t (1 - s.computeBank c e t) = 0 → (s.tile c e t).lastWear = none →
      ((s.tile c e t).bank (1 - s.computeBank c e t)).wr = none → (s.tile c e t).resetAt = none → (s.tile c e t).wearPhase = 0 →
      (s.eng c e).fillFor = none → (s.eng c e).rot.phase = .idle → s.rd (tilePg c e 16) TILE.STAT_STANDIN_FOR ≠ t →
      Completes (.wearMoveStart c e t) s (fun u =>
        (u.tile c e t).wearPhase = 1
        ∧ (∃ w, ((u.tile c e t).bank (1 - s.computeBank c e t)).wr = some w ∧ w.kind = .wear ∧ w.rows = s.bankRows c e t (s.computeBank c e t))
        ∧ u.rd (engPg c e) (ENG.BANK_STATE_WRITING (bkey t (1 - s.computeBank c e t))) = 1 ∧ Keeps [.regs, .tiles, .dies] s u))
    ∧ (∀ w, s.lets (.wearMoveWriteDone c e t) → s.computeBank c e t < 2 →
      ((s.tile c e t).bank (1 - s.computeBank c e t)).wr = some w → w.kind = .wear → (s.tile c e t).wearPhase = 1 →
      Completes (.wearMoveWriteDone c e t) s (fun u =>
        (u.tile c e t).wearPhase = 2 ∧ u.bankState c e t (1 - s.computeBank c e t) = 2
        ∧ ((u.tile c e t).bank (1 - s.computeBank c e t)).wr = none ∧ Keeps [.regs, .tiles, .engines, .dies] s u))
    ∧ (s.lets (.wearMoveSwap c e t) → s.computeBank c e t < 2 → (s.tile c e t).wearPhase = 2 → (s.tile c e t).vecs = [] →
      Completes (.wearMoveSwap c e t) s (fun u =>
        u.computeBank c e t = 1 - s.computeBank c e t ∧ u.bankState c e t (s.computeBank c e t) = 0
        ∧ (u.tile c e t).wearPhase = 0 ∧ (u.tile c e t).lastWear = some s.now ∧ Keeps [.regs, .tiles, .engines, .dies] s u)))

/-! ### The engine and its accumulators (files 04, 05) -/

/-- R77, R84, R92, R93: an MVM or MVM_ACC whose tiles serve, of one slice mode and fresh enough, with a free accumulator tile and a
valid side block, issues: its operation is under way, it owns its accumulator tile, MVM clears that tile and MVM_ACC leaves its
lanes, and each tile of the mask (or its stand-in) has its vector, not yet planned. -/
def Obligations.MatrixCommandsIssue : Prop := ∀ (s : State) (c e : Nat) (d : Desc),
  (∀ t ∈ maskTiles d.mask, s.tileWaits c e t = false ∧ s.tileServes c e t = true
    ∧ ∀ q ∈ maskTiles d.mask, s.twoSlice c e (s.physTile c e t) (s.computeBank c e (s.physTile c e t))
        = s.twoSlice c e (s.physTile c e q) (s.computeBank c e (s.physTile c e q))) →
  d.acc < 64 → s.rdB (engPg c e) (ENG.ACC_TILE_BUSY d.acc) = false → s.worstAge c e (maskTiles d.mask) ≤ s.intervalUs c e →
  s.rd (engPg c e) ENG.REFRESH_CTRL_STALE_LIMIT ≠ 0 → s.sideBad c d.sideOff = false →
  (s.lets (.mvm c e) → s.issuable c e 0x10 = some d →
    Completes (.mvm c e) s (fun u =>
      (∃ o ∈ (u.eng c e).ops, o.d = d ∧ o.tiles = maskTiles d.mask ∧ o.thresherDone = false)
      ∧ (u.acc c e d.acc).lanes = List.replicate 256 .zero
      ∧ u.rd (engPg c e) (ENG.ACC_TILE_BUSY d.acc) = 1 ∧ u.rd (engPg c e) (ENG.ACC_TILE_OWNER d.acc) = d.tag % 64
      ∧ (∀ t ∈ maskTiles d.mask, ∃ v ∈ (u.tile c e (s.physTile c e t)).vecs, v.tag = d.tag ∧ v.named = t ∧ v.planned = false)
      ∧ Keeps [.regs, .tiles, .engines, .cores, .dies, .awn, .out] s u))
  ∧ (s.lets (.mvmAcc c e) → s.issuable c e 0x11 = some d →
    Completes (.mvmAcc c e) s (fun u =>
      (∃ o ∈ (u.eng c e).ops, o.d = d ∧ o.tiles = maskTiles d.mask ∧ o.thresherDone = false)
      ∧ (u.acc c e d.acc).lanes = (s.acc c e d.acc).lanes
      ∧ u.rd (engPg c e) (ENG.ACC_TILE_BUSY d.acc) = 1 ∧ u.rd (engPg c e) (ENG.ACC_TILE_OWNER d.acc) = d.tag % 64
      ∧ (∀ t ∈ maskTiles d.mask, ∃ v ∈ (u.tile c e (s.physTile c e t)).vecs, v.tag = d.tag ∧ v.named = t ∧ v.planned = false)
      ∧ Keeps [.regs, .tiles, .engines, .cores, .dies, .awn, .out] s u))

/-- R78, R92, R112, R113: the next group of a matrix command is reduced, the last one gives the accumulator tile up; the outlier
record of the glume path's oldest command is written to its place in core store; a done operation completes and is gone. -/
def Obligations.MatrixCommandsFinish : Prop := ∀ (s : State) (c e : Nat) (o : EngOp),
  (∀ g rest, s.lets (.groupReduce c e) → (s.eng c e).ops.find? (s.opReady c e) = some o → o.groups = g :: rest → o.d.acc < 64 →
    Completes (.groupReduce c e) s (fun u =>
      (∃ q ∈ (u.eng c e).ops, q.d = o.d ∧ q.groups = rest ∧ (rest = [] → q.thresherDone = true))
      ∧ (rest = [] → u.rd (engPg c e) (ENG.ACC_TILE_BUSY o.d.acc) = 0)
      ∧ (u.eng c e).ops.length = (s.eng c e).ops.length ∧ Keeps [.regs, .tiles, .engines, .dies, .out] s u))
  ∧ (∀ tag rest, s.lets (.glumeRecordDone c e) → (s.eng c e).glume = tag :: rest → s.op c e tag = some o →
    (∀ t ∈ o.tiles, ∀ v, s.vec c e tag t = some v → v.planned = true) →
    Completes (.glumeRecordDone c e) s (fun u =>
      (u.eng c e).glume = rest ∧ (∃ q ∈ (u.eng c e).ops, q.d = o.d ∧ q.glumeDone = true)
      ∧ (∃ lanes flags dyn clip, lanes.length = usedLanes o.two o.d.cols ∧ u.cstore = (s.putRecord c o lanes flags dyn clip).cstore)
      ∧ Keeps [.fresh, .regs, .engines, .dies, .cstore, .out] s u))
  ∧ (∀ tag, s.lets (.engineOpComplete c e tag) → s.op c e tag = some o → o.done = true → (o.d.opcode = 0x21 → o.judged = true) →
    Completes (.engineOpComplete c e tag) s (fun u => u.op c e tag = none
      ∧ (o.d.opcode = 0x20 → u.rd (engPg c e) ENG.BANKWR_CNT = (s.rd (engPg c e) ENG.BANKWR_CNT + 1) % 2 ^ 64)
      ∧ Keeps [.regs, .tiles, .engines, .cores, .dies, .awn, .out] s u))

/-- R84, R80, R88, R91, R87: ACC_CLEAR, ACC_PROMOTE, the three ACC_SPILL modes and ACC_READ on a free accumulator tile: what the
lanes become, and the record written to core store at the descriptor's offset. -/
def Obligations.AccumulatorCommandsStore : Prop := ∀ (s : State) (c e : Nat) (d : Desc),
  d.acc < 64 → s.rdB (engPg c e) (ENG.ACC_TILE_BUSY d.acc) = false →
  (s.lets (.accClear c e) → s.issuable c e 0x30 = some d → d.accMode = 0 →
    Completes (.accClear c e) s (fun u =>
      u.acc c e d.acc = { AccTile.init with p := (s.acc c e d.acc).p } ∧ u.rd (engPg c e) (ENG.ACC_TILE_SAT_N d.acc) = 0
      ∧ u.rd (engPg c e) (ENG.ACC_TILE_SAT_W d.acc) = 0 ∧ u.rd (engPg c e) (ENG.ACC_TILE_POISON d.acc) = 0
      ∧ u.rd (engPg c e) (ENG.ACC_TILE_ADDS d.acc) = 0 ∧ u.rd (engPg c e) (ENG.ACC_TILE_OWNER d.acc) = d.tag % 64
      ∧ Keeps [.regs, .engines, .cores, .dies, .awn, .out] s u))
  ∧ (s.lets (.accPromote c e) → s.issuable c e 0x31 = some d → d.accMode = 0 →
    Completes (.accPromote c e) s (fun u =>
      (u.acc c e d.acc).lanes = (s.acc c e d.acc).lanes.map (fun l => l.promote.1) ∧ u.rd (engPg c e) (ENG.ACC_TILE_ADDS d.acc) = 0
      ∧ Keeps [.regs, .engines, .cores, .dies, .awn, .out] s u))
  ∧ (s.lets (.accSpillStore c e) → s.issuable c e 0x32 = some d → d.accMode = 0 →
    Completes (.accSpillStore c e) s (fun u =>
      (u.acc c e d.acc).lanes = List.replicate 256 .zero
      ∧ u.cstore = (s.putWords c d.cs ((s.acc c e d.acc).lanes.map (fun l =>
          (spillWord l.promote.1.wide l.promote.1.sat l.promote.1.poison l.promote.1.pin, l.promote.1.poison)))).cstore
      ∧ Keeps [.regs, .engines, .cores, .dies, .cstore, .awn, .out] s u))
  ∧ (s.lets (.accSpillAdd c e) → s.issuable c e 0x32 = some d → d.accMode = 1 →
    Completes (.accSpillAdd c e) s (fun u =>
      (u.acc c e d.acc).lanes = List.replicate 256 .zero
      ∧ u.cstore = (s.putWords c d.cs (List.zipWith (fun (l : AccLane) w => ((spillAdd w.1 l.promote.1).1, w.2 || l.promote.1.poison))
          (s.acc c e d.acc).lanes (s.getWords c d.cs 256))).cstore
      ∧ Keeps [.regs, .engines, .cores, .dies, .cstore, .awn, .out] s u))
  ∧ (s.lets (.accSpillSave c e) → s.issuable c e 0x32 = some d → d.accMode = 2 →
    Completes (.accSpillSave c e) s (fun u =>
      u.acc c e d.acc = s.acc c e d.acc
      ∧ (∃ hdr, hdr % 256 = 1 ∧ u.cstore = (s.putWords c d.cs
          ((hdr, false) :: List.replicate 7 (0, false) ++ (s.acc c e d.acc).lanes.map (fun l => (ctxWord l, l.poison)))).cstore)
      ∧ Keeps [.regs, .engines, .cores, .dies, .cstore, .awn, .out] s u))
  ∧ (s.lets (.accRead c e) → s.issuable c e 0x34 = some d → d.accMode = 0 →
    Completes (.accRead c e) s (fun u =>
      (u.acc c e d.acc).lanes = (s.acc c e d.acc).lanes.map (fun l => l.promote.1)
      ∧ (∃ ws : List (Nat × Bool), ws.length = 136 ∧ u.cstore = (s.putWords c d.cs ws).cstore
          ∧ ws.take 128 = (List.range 128).map (fun i =>
              (ofLe (((((s.acc c e d.acc).lanes.map (fun l => l.promote.1)).drop (2 * i)).take 2).flatMap (fun x => toLe 4 (ofSigned 32 x.wide))),
                ((((s.acc c e d.acc).lanes.map (fun l => l.promote.1)).drop (2 * i)).take 2).any (fun x => x.poison))))
      ∧ Keeps [.regs, .engines, .cores, .dies, .cstore, .awn, .out] s u))

/-- R89, R90, R91, R109, R143: ACC_RESUME loads, adds or restores the lanes from a record in core store; OUTLIER_LOAD of one tile
takes the set at its offset; CHECK_FORCE marks the tiles of its mask. -/
def Obligations.EngineCommandsLoad : Prop := ∀ (s : State) (c e : Nat) (d : Desc),
  (d.acc < 64 → s.rdB (engPg c e) (ENG.ACC_TILE_BUSY d.acc) = false → s.issuable c e 0x33 = some d →
    (s.lets (.accResumeLoad c e) → d.accMode = 0 →
      Completes (.accResumeLoad c e) s (fun u =>
        (u.acc c e d.acc).lanes = (s.getWords c d.cs 256).map (fun w => (loadLane w).1)
        ∧ Keeps [.regs, .engines, .cores, .dies, .awn, .out] s u))
    ∧ (s.lets (.accResumeAdd c e) → d.accMode = 1 →
      Completes (.accResumeAdd c e) s (fun u =>
        (u.acc c e d.acc).lanes = List.zipWith (fun (l : AccLane) w => (addLane l.promote.1 w).1) (s.acc c e d.acc).lanes (s.getWords c d.cs 256)
        ∧ Keeps [.regs, .engines, .cores, .dies, .awn, .out] s u))
    ∧ (s.lets (.accResumeRestore c e) → d.accMode = 2 → s.csNat c d.cs 8 % 256 = 1 → s.csBad c d.cs 64 = false →
      Completes (.accResumeRestore c e) s (fun u =>
        u.acc c e d.acc = { lanes := (s.getWords c (d.cs + 64) 256).map ctxLane, p := field (s.csNat c d.cs 8) 24 8 }
        ∧ Keeps [.regs, .engines, .cores, .dies, .awn, .out] s u)))
  ∧ (∀ t set n, s.lets (.outlierLoad c e) → s.issuable c e 0x40 = some d → maskTiles d.mask = [t] → s.readSet c d.cs = some (set, n) →
    (∀ o ∈ (s.eng c e).ops, (o.d.opcode = 0x40 ∨ o.d.opcode = 0x20) → o.left = []) →
    Completes (.outlierLoad c e) s (fun u =>
      u.outSet c e t (1 - s.computeBank c e (s.physTile c e t)) = set
      ∧ u.rd (engPg c e) (ENG.OUTL_SET_STATE (bkey t (1 - s.computeBank c e (s.physTile c e t)))) = 2
      ∧ (∃ o ∈ (u.eng c e).ops, o.d = d ∧ o.left = []) ∧ Keeps [.regs, .engines, .cores, .dies, .awn, .out] s u))
  ∧ (s.lets (.checkForce c e) → s.issuable c e 0x60 = some d →
    Completes (.checkForce c e) s (fun u =>
      (∀ t ∈ maskTiles d.mask, t ∈ (u.eng c e).force) ∧ (∀ t ∈ (s.eng c e).force, t ∈ (u.eng c e).force)
      ∧ Keeps [.regs, .engines, .cores, .dies, .awn, .out] s u))

/-! ### Calibration (file 06) -/

/-- R124, R134, R137, R138, R129, R132: APPLY is requested and refused while the sequencer works on the tile; SAVE stores the image
in core store; LOAD of a good image makes it the shadow set, and of a bad one answers 2; the verification ends in the shadow set's
APPLY or in stages 2 and 4 on the tile; RECAL puts the tile at the front. -/
def Obligations.CalibrationRequests : Prop := ∀ (s : State) (c e t : Nat),
  (s.lets (.calApplyRequest c e t) → s.calBusy c e t = false →
    Completes (.calApplyRequest c e t) s (fun u =>
      u.tile c e t = { s.tile c e t with applyReq := true } ∧ AgreeOff [c * 128 + e * 32 + t] s.tiles u.tiles ∧ Keeps [.tiles] s u))
  ∧ (s.lets (.calApplyRequest c e t) → s.calBusy c e t = true → exec (.calApplyRequest c e t) s = .next (s.refuse (tilePg c e t)))
  ∧ (s.lets (.calSave c e t) → s.calBusy c e t = false →
    Completes (.calSave c e t) s (fun u =>
      u.cstore = s.cstore.put (csBase c + s.rdA (tilePg c e t) TILE.CAL_IMG_ADDR_ADDR) (s.calImage c e t)
      ∧ (s.calImage c e t).length = 1024 ∧ Keeps [.cstore] s u))
  ∧ (s.lets (.calLoad c e t) → s.calBusy c e t = false → s.rdB (tilePg c e t) TILE.STAT_IN_SERVICE = false →
    s.csBad c (s.rdA (tilePg c e t) TILE.CAL_IMG_ADDR_ADDR) 1024 = false →
    imageOk c e t (s.csRead c (s.rdA (tilePg c e t) TILE.CAL_IMG_ADDR_ADDR) 1024) = true →
    Completes (.calLoad c e t) s (fun u =>
      (u.tile c e t).shadow = trimsOf (((s.csRead c (s.rdA (tilePg c e t) TILE.CAL_IMG_ADDR_ADDR) 1024).drop 64).take 404)
          (((s.csRead c (s.rdA (tilePg c e t) TILE.CAL_IMG_ADDR_ADDR) 1024).drop 468).take 512)
      ∧ (u.tile c e t).active = (s.tile c e t).active
      ∧ u.bankState c e t 0 = 0 ∧ u.bankState c e t 1 = 0 ∧ u.rd (tilePg c e t) TILE.CAL_STAT_PHASE = 4
      ∧ u.rd (tilePg c e t) TILE.CAL_STAT_BUSY = 1 ∧ Keeps [.regs, .tiles, .dies] s u))
  ∧ (s.lets (.calLoad c e t) → s.calBusy c e t = false → s.rdB (tilePg c e t) TILE.STAT_IN_SERVICE = false →
    imageOk c e t (s.csRead c (s.rdA (tilePg c e t) TILE.CAL_IMG_ADDR_ADDR) 1024) = false →
    exec (.calLoad c e t) s = .next (s.wr (tilePg c e t) TILE.CAL_STAT_LOAD_RESULT 2))
  ∧ (s.lets (.calLoadVerifyDone c e t true) → s.rd (tilePg c e t) TILE.CAL_STAT_PHASE = 4 →
    Completes (.calLoadVerifyDone c e t true) s (fun u =>
      u.rd (tilePg c e t) TILE.CAL_STAT_LOAD_RESULT = 1 ∧ u.rd (tilePg c e t) TILE.CAL_STAT_BUSY = 0
      ∧ u.tile c e t = { s.tile c e t with applyReq := true } ∧ PagesKept [tilePg c e t] s u ∧ Keeps [.regs, .tiles] s u))
  ∧ (s.lets (.calLoadVerifyDone c e t false) → s.rd (tilePg c e t) TILE.CAL_STAT_PHASE = 4 →
    Completes (.calLoadVerifyDone c e t false) s (fun u =>
      u.rd (tilePg c e t) TILE.CAL_STAT_LOAD_RESULT = 3 ∧ u.tile c e t = { s.tile c e t with calStage := 2 }
      ∧ Keeps [.regs, .tiles, .dies] s u))
  ∧ (s.lets (.calRecal c e t) →
    Completes (.calRecal c e t) s (fun u =>
      t ∈ (u.eng c e).rot.front ∧ (∀ k ∈ (s.eng c e).rot.front, k ∈ (u.eng c e).rot.front) ∧ (u.eng c e).ops = (s.eng c e).ops
      ∧ AgreeOff [c * 4 + e] s.engines u.engines ∧ Keeps [.engines] s u))

/-- R126, R127, R128, R134, R131: at a pass boundary APPLY makes the shadow set active, clears the tracking terms and dates the
calibration; after 256 samples the tracking terms of the compute bank move by a step and stay in range; a late one is marked. -/
def Obligations.TrimsAreAppliedAndTracked : Prop := ∀ (s : State) (c e t : Nat),
  (s.lets (.applyEffect c e t) → (s.tile c e t).applyReq = true → (s.tile c e t).splitting = false →
    Completes (.applyEffect c e t) s (fun u =>
      (u.tile c e t).active = (s.tile c e t).shadow ∧ (u.tile c e t).applyReq = false ∧ (u.tile c e t).vecs = (s.tile c e t).vecs
      ∧ u.rd (tilePg c e t) TILE.CFG_LIMIT_MAX = s.rd (tilePg c e t) TILE.CAL_SET_LIMIT_MAX % 4
      ∧ (∀ b, b < 2 → u.rd (tilePg c e t) (TILE.TRACK_GAIN b) = 0 ∧ u.rd (tilePg c e t) (TILE.TRACK_OFFSET b) = 0)
      ∧ u.rd (tilePg c e t) TILE.CAL_TIME = s.sclk % 2 ^ 64
      ∧ u.rd (tilePg c e t) TILE.CAL_CNT = (s.rd (tilePg c e t) TILE.CAL_CNT + 1) % 2 ^ 64
      ∧ u.rd (tilePg c e t) TILE.CAL_STAT_OVERDUE = 0
      ∧ AgreeOff [c * 128 + e * 32 + t] s.tiles u.tiles ∧ Keeps [.regs, .tiles] s u))
  ∧ (s.lets (.trackWindow c e t) → ((s.tile c e t).track (s.computeBank c e t)).n < 256 → Idle (.trackWindow c e t) s)
  ∧ (s.lets (.trackWindow c e t) → 256 ≤ ((s.tile c e t).track (s.computeBank c e t)).n → s.computeBank c e t < 2 →
    ∀ g o : Int, g = toSigned 8 (s.rd (tilePg c e t) (TILE.TRACK_GAIN (s.computeBank c e t))) →
    o = toSigned 8 (s.rd (tilePg c e t) (TILE.TRACK_OFFSET (s.computeBank c e t))) →
    Completes (.trackWindow c e t) s (fun u =>
      (∃ d ∈ ([-1, 0, 1] : List Int),
        u.rd (tilePg c e t) (TILE.TRACK_GAIN (s.computeBank c e t)) = ofSigned 8 (clampI (-31) 31 (g + d)))
      ∧ u.rd (tilePg c e t) (TILE.TRACK_OFFSET (s.computeBank c e t))
        = ofSigned 8 (clampI (-32) 32 (o + (if 16 < ((s.tile c e t).track (s.computeBank c e t)).off then -1
            else if ((s.tile c e t).track (s.computeBank c e t)).off < -16 then 1 else 0)))
      ∧ (u.tile c e t).track (s.computeBank c e t) = .init ∧ AgreeOff [c * 128 + e * 32 + t] s.tiles u.tiles
      ∧ Keeps [.regs, .tiles, .engines, .dies, .out] s u))
  ∧ (s.lets (.calOverdue c e t) → s.rd (tilePg c e t) TILE.CAL_STAT_OVERDUE = 0 →
    Completes (.calOverdue c e t) s (fun u =>
      u.rd (tilePg c e t) TILE.CAL_STAT_OVERDUE = 1 ∧ PagesKept [tilePg c e t] s u ∧ Keeps [.regs, .dies] s u))

/-- R129, R130, R131, R132, R133, R135, R136, R393: a turn takes the next tile that is not retired, the spare is filled and takes it
over, the procedure ends with the trims found in the shadow set and the return, with none or the tile retired; the return puts the
tile back in service. Start-up calibration: stage 2 begins at tile 0, settled or not; after a retention screen that loses nothing
each tile that is not retired takes its trims and serves, and the rotation starts with a tile of the engine's own. -/
def Obligations.RotationAndStartupCalibration : Prop :=
  (∀ (s : State) (c e t : Nat),
    (s.lets (.calSlot c e) → s.coreStopped c = false → s.rdB (engPg c e) ENG.CAL_ROT_ENABLE = true →
      s.rdB (engPg c e) ENG.CAL_ROT_STAT_STOPPED = false → (s.eng c e).rot.phase = .idle → (s.eng c e).rot.front = [] →
      (s.eng c e).fillFor = none → s.calibrated c e = true → s.rdB (tilePg c e 16) TILE.STAT_RETIRED = false →
      s.rd (tilePg c e 16) TILE.STAT_STANDIN_FOR = 0x1F → s.rd (engPg c e) ENG.CAL_ROT_STAT_NEXT = t → t ≤ 16 →
      s.rdB (tilePg c e t) TILE.STAT_RETIRED = false → (s.tile c e t).wearPhase = 0 →
      Completes (.calSlot c e) s (fun u =>
        u.rd (engPg c e) ENG.CAL_ROT_STAT_CURRENT = t ∧ u.rd (engPg c e) ENG.CAL_ROT_STAT_NEXT = (t + 1) % 17
        ∧ (u.eng c e).rot.tile = t ∧ (u.eng c e).rot.phase = (if t = 16 then .calibrate else .fill)
        ∧ u.rd (tilePg c e t) TILE.CAL_STAT_PHASE = (if t = 16 then 2 else 1) ∧ Keeps [.regs, .tiles, .engines, .dies, .out] s u))
    ∧ (s.lets (.calTakeover c e) → (s.eng c e).rot.phase = .fill → (s.eng c e).rot.tile = t → t < 16 → (s.tile c e t).splitting = false →
      s.spareMatches c e t 0 = true → s.spareMatches c e t 1 = true → s.computeBank c e t < 2 →
      Completes (.calTakeover c e) s (fun u =>
        (u.eng c e).rot.phase = .calibrate ∧ u.rd (tilePg c e 16) TILE.STAT_STANDIN_FOR = t
        ∧ u.computeBank c e 16 = s.computeBank c e t ∧ u.rd (tilePg c e 16) TILE.STAT_IN_SERVICE = 1
        ∧ u.rd (tilePg c e t) TILE.STAT_IN_SERVICE = 0 ∧ (u.tile c e t).vecs = []
        ∧ (u.tile c e 16).vecs = (s.tile c e 16).vecs ++ (s.tile c e t).vecs ∧ Keeps [.regs, .tiles, .engines, .dies] s u))
    ∧ (s.lets (.calTakeoverTimeout c e) → (s.eng c e).rot.phase = .fill →
      Completes (.calTakeoverTimeout c e) s (fun u =>
        (u.eng c e).rot.phase = .idle ∧ (u.eng c e).rot.front = (s.eng c e).rot.front ∧ u.bankState c e 16 0 = 0 ∧ u.bankState c e 16 1 = 0
        ∧ u.rd (engPg c e) ENG.CAL_ROT_STAT_CURRENT = 0x1F ∧ Keeps [.regs, .tiles, .engines, .dies, .out] s u))
    ∧ (∀ m, s.lets (.calProcedureEnd c e t m) → (s.eng c e).rot.phase = .calibrate → (s.eng c e).rot.tile = t → t < 16 →
      (s.tile c e t).calStage = 0 → retireReason m = none → m.failed = [] → m.converged = true →
      Completes (.calProcedureEnd c e t m) s (fun u =>
        (u.tile c e t).shadow = ⟨signedMap (m.ot.map (clampI (-16) 15)), signedMap (m.gt.map (clampI (-60) 60)), signedMap (m.dt.map (clampI (-8) 7))⟩
        ∧ u.rd (tilePg c e t) TILE.CAL_SET_LINEAR_PU = m.linearPu % 2 ^ 32 ∧ u.rd (tilePg c e t) TILE.CAL_SET_LIMIT_MAX = limitFor m.linearPu
        ∧ (u.eng c e).rot.phase = .ret ∧ u.rd (tilePg c e t) TILE.CAL_STAT_PHASE = 3))
    ∧ (∀ m n, s.lets (.calProcedureEnd c e 16 m) → (s.eng c e).rot.phase = .calibrate → (s.eng c e).rot.tile = 16 →
      (s.tile c e 16).calStage = 0 → retireReason m = some n →
      Completes (.calProcedureEnd c e 16 m) s (fun u =>
        u.rd (tilePg c e 16) TILE.STAT_RETIRED = 1 ∧ u.rd (tilePg c e 16) TILE.STAT_IN_SERVICE = 0 ∧ (u.tile c e 16).reason = n
        ∧ u.rdB (engPg c e) ENG.CAL_ROT_STAT_STOPPED = true ∧ (u.eng c e).rot.phase = .idle))
    ∧ (s.lets (.calTimeout c e) → (s.eng c e).rot.phase = .calibrate → (s.eng c e).rot.timedOut = false →
      Completes (.calTimeout c e) s (fun u =>
        u.rd (tilePg c e (s.eng c e).rot.tile) TILE.CAL_STAT_RETRIED = 1 ∧ u.tiles = s.tiles
        ∧ (u.eng c e).rot = { (s.eng c e).rot with timedOut := true, attemptAt := s.now }))
    ∧ (s.lets (.calReturn c e) → (s.eng c e).rot.phase = .ret → (s.eng c e).rot.tile = t → t < 16 → (s.eng c e).rot.noApply = false →
      (s.eng c e).fillFor = none → s.rdB (tilePg c e 16) TILE.STAT_RETIRED = false → (s.tile c e 16).splitting = false →
      s.returnMatches c e t 0 = true → s.returnMatches c e t 1 = true → s.computeBank c e 16 < 2 →
      Completes (.calReturn c e) s (fun u =>
        u.rd (tilePg c e t) TILE.STAT_IN_SERVICE = 1 ∧ u.rd (tilePg c e t) TILE.CTRL_ENABLE = 1 ∧ u.computeBank c e t = s.computeBank c e 16
        ∧ u.rd (tilePg c e 16) TILE.STAT_STANDIN_FOR = 0x1F ∧ (u.tile c e t).active = (s.tile c e t).shadow
        ∧ (u.tile c e t).vecs = (s.tile c e t).vecs ++ (s.tile c e 16).vecs ∧ (u.tile c e 16).vecs = []
        ∧ u.bankState c e 16 0 = 0 ∧ u.bankState c e 16 1 = 0 ∧ (u.eng c e).rot.phase = .idle
        ∧ u.rd (engPg c e) ENG.ROT_CNT = (s.rd (engPg c e) ENG.ROT_CNT + 1) % 2 ^ 64 ∧ Keeps [.regs, .tiles, .engines, .dies] s u)))
  ∧ (∀ (s : State) (c e : Nat), (s.eng c e).rot.phase = .startup →
    (s.lets (.startupCalSettled c e) → (s.eng c e).rot.stage = 1 →
      Completes (.startupCalSettled c e) s (fun u =>
        (u.eng c e).rot = { (s.eng c e).rot with stage := 2, tile := 0 } ∧ AgreeOff [c * 4 + e] s.engines u.engines ∧ Keeps [.engines] s u))
    ∧ (s.lets (.calUnsettled c e) → (s.eng c e).rot.stage = 1 →
      Completes (.calUnsettled c e) s (fun u =>
        (u.eng c e).rot = { (s.eng c e).rot with stage := 2, tile := 0 }
        ∧ (∃ r ∈ (u.die (c / 4)).sources, r.code = 0x4019) ∧ Keeps [.engines, .dies] s u))
    ∧ (s.lets (.retentionScreenEnd c e []) → (s.eng c e).rot.stage = 3 →
      Completes (.retentionScreenEnd c e []) s (fun u =>
        (∀ t, t ≤ 16 → s.rdB (tilePg c e t) TILE.STAT_RETIRED = false →
          u.rd (tilePg c e t) TILE.STAT_IN_SERVICE = 1 ∧ (u.tile c e t).active = (s.tile c e t).shadow)
        ∧ (u.eng c e).rot.phase = .idle ∧ u.rd (engPg c e) ENG.CAL_ROT_STAT_NEXT = (4 * c + e) % 17 ∧ u.cstore = s.cstore)))

/-! ### The cores (file 08) -/

/-- R176, R178, R179, R186: the sequencer command at the dispatch point: NOP; SEM_SIGNAL adds to a local semaphore, which saturates,
or sends the add of a global one; SEM_WAIT takes a met wait or sends its claim; FENCE signals once its classes are done; STREAM_END
ends the step and the core is IDLE, or its oldest pending start record starts. -/
def Obligations.SequencerCommandsRun : Prop := ∀ (s : State) (c : Nat) (d : Desc),
  (s.lets (.nop c) → s.seqHead c 0x00 = some d →
    exec (.nop c) s = .next ((s.popDesc c d.addr).pump c)
    ∧ Completes (.nop c) s (fun u => (∀ i, i < 64 → u.localSem c i = s.localSem c i)))
  ∧ (s.lets (.semSignal c) → s.seqHead c 0x51 = some d → d.sigCnt ≠ 0 → d.sigSem < 0x40 →
    Completes (.semSignal c) s (fun u =>
      u.localSem c d.sigSem = min (s.localSem c d.sigSem + d.sigCnt) 0xFFFF
      ∧ (∀ i, i < 64 → i ≠ d.sigSem → u.localSem c i = s.localSem c i)))
  ∧ (s.lets (.semSignal c) → s.seqHead c 0x51 = some d → d.sigCnt ≠ 0 → 0x40 ≤ d.sigSem →
    Completes (.semSignal c) s (fun u => (d.sigSem, d.sigCnt) ∈ u.awn.adds ∧ (∀ i, i < 64 → u.localSem c i = s.localSem c i)))
  ∧ (s.lets (.semWait c) → s.seqHead c 0x50 = some d → d.waitCnt ≠ 0 → d.waitSem < 0x40 → d.waitCnt ≤ s.localSem c d.waitSem →
    s.localSem c d.waitSem < 2 ^ 16 →
    Completes (.semWait c) s (fun u =>
      u.localSem c d.waitSem = s.localSem c d.waitSem - d.waitCnt
      ∧ (∀ i, i < 64 → i ≠ d.waitSem → u.localSem c i = s.localSem c i)))
  ∧ (s.lets (.semWait c) → s.seqHead c 0x50 = some d → d.waitCnt ≠ 0 → 0x40 ≤ d.waitSem → mfind (s.core c).claims 8 = none →
    Completes (.semWait c) s (fun u =>
      u.awn.sent = s.awn.sent ++ [⟨16 * c + 8, d.waitSem, d.waitCnt⟩] ∧ mfind (u.core c).claims 8 = some .sent
      ∧ (u.core c).buf = (s.core c).buf ∧ Keeps [.cores, .awn] s u))
  ∧ (s.lets (.semWait c) → s.seqHead c 0x50 = some d → d.waitCnt ≠ 0 → 0x40 ≤ d.waitSem → mfind (s.core c).claims 8 = some .granted →
    Completes (.semWait c) s (fun u => mfind (u.core c).claims 8 = none ∧ (∀ i, i < 64 → u.localSem c i = s.localSem c i)))
  ∧ (s.lets (.fence c) → s.seqHead c 0x52 = some d → s.scopeDone c d.scope = true → d.sigCnt ≠ 0 → d.sigSem < 0x40 →
    Completes (.fence c) s (fun u => u.localSem c d.sigSem = min (s.localSem c d.sigSem + d.sigCnt) 0xFFFF))
  ∧ (s.lets (.fence c) → s.seqHead c 0x52 = some d → s.scopeDone c d.scope = false → Idle (.fence c) s)
  ∧ (s.lets (.streamEnd c) → s.seqHead c 0x01 = some d → s.scopeDone c 0xFF = true → (s.core c).pend = [] →
    Completes (.streamEnd c) s (fun u =>
      coreState u c = 0 ∧ (u.core c).cur = none ∧ (u.core c).buf = [] ∧ OutMsg.stepEnd c (s.rd (corePg c) CORE.STEP) ∈ u.out
      ∧ u.rd (corePg c) CORE.STREAM_PC = (d.addr + 32) % 2 ^ 64))
  ∧ (∀ r l, s.lets (.streamEnd c) → s.seqHead c 0x01 = some d → s.scopeDone c 0xFF = true → (s.core c).pend = r :: l →
    Completes (.streamEnd c) s (fun u =>
      coreState u c = 1 ∧ (u.core c).cur = some r ∧ (u.core c).pend = l ∧ OutMsg.stepEnd c (s.rd (corePg c) CORE.STEP) ∈ u.out
      ∧ u.rd (corePg c) CORE.STREAM_PC = r.stream % 2 ^ 64 ∧ u.rd (corePg c) CORE.STEP = r.step % 2 ^ 64
      ∧ (∀ i, i < 64 → u.localSem c i = 0)))

/-- R173, R182, R190, R183: a DMA_COPY issues, and when it ends its blocks have moved with their marks and its signal is applied; a
kick reaches its tiller core, is read through MBOX and ends with its signal or in a trap that halts the core; the tiller signals
through its port; the prefetch brings the next line of the stream. -/
def Obligations.CoreUnitsRun : Prop := ∀ (s : State) (c t k : Nat) (d : Desc),
  (s.lets (.dmaCopy c) → s.issuable c 5 0x70 = some d →
    Completes (.dmaCopy c) s (fun u => (u.core c).dmaRun = (s.core c).dmaRun ++ [d]))
  ∧ (s.lets (.dmaCopyDone c k) → (s.core c).dmaRun[k]? = some d → s.blocksOk d.operand d.len64 = d.len64 → d.dir = false →
    Completes (.dmaCopyDone c k) s (fun u =>
      u.cstore = s.cstore.copyFrom s.dev (csBase c + d.cs) d.operand d.len64 ∧ u.dev = s.dev
      ∧ (u.core c).dmaRun = (s.core c).dmaRun.eraseIdx k
      ∧ (halting s c = false → d.sigCnt ≠ 0 → d.sigSem < 0x40 → u.localSem c d.sigSem = min (s.localSem c d.sigSem + d.sigCnt) 0xFFFF)))
  ∧ (s.lets (.dmaCopyDone c k) → (s.core c).dmaRun[k]? = some d → s.blocksOk d.operand d.len64 = d.len64 → d.dir = true → d.operand < tier2Base →
    Completes (.dmaCopyDone c k) s (fun u =>
      u.dev = s.dev.copyFrom s.cstore d.operand (csBase c + d.cs) d.len64 ∧ u.cstore = s.cstore
      ∧ (u.core c).dmaRun = (s.core c).dmaRun.eraseIdx k))
  ∧ (s.lets (.dmaCopyDone c k) → (s.core c).dmaRun[k]? = some d → s.blocksOk d.operand d.len64 ≠ d.len64 → coreState s c = 1 →
    Completes (.dmaCopyDone c k) s (fun u =>
      coreState u c = 2 ∧ u.rd (corePg c) CORE.STAT_CAUSE = 1 ∧ u.rd (corePg c) CORE.HALT_INFO_CODE = 0x6011))
  ∧ (s.lets (.tillerKick c t) → s.issuable c (6 + t) 0x78 = some d →
    Completes (.tillerKick c t) s (fun u => (u.core c).kicks t = (s.core c).kicks t ++ [d]))
  ∧ (∀ l, s.lets (.tillerDone c t) → (s.core c).kicks t = d :: l → halting s c = false → d.sigCnt ≠ 0 → d.sigSem < 0x40 →
    Completes (.tillerDone c t) s (fun u =>
      (u.core c).kicks t = l ∧ (u.core c).kicksRead t = (s.core c).kicksRead t - 1
      ∧ u.localSem c d.sigSem = min (s.localSem c d.sigSem + d.sigCnt) 0xFFFF))
  ∧ (s.lets (.mboxRead c t) → ((s.core c).kicks t)[(s.core c).kicksRead t]? = some d →
    Completes (.mboxRead c t) s (fun u =>
      u.out = s.out ++ [.readValue d.operand] ∧ (u.core c).kicksRead t = (s.core c).kicksRead t + 1
      ∧ (u.core c).kicks t = (s.core c).kicks t ∧ Keeps [.cores, .out] s u))
  ∧ (s.lets (.mboxRead c t) → ((s.core c).kicks t)[(s.core c).kicksRead t]? = none →
    exec (.mboxRead c t) s = .next (s.send (.readValue 0xFFFFFFFFFFFFFFFF)))
  ∧ (∀ n, s.lets (.tillerSemPortWrite c t k n) → n ≠ 0 → k < 0x40 →
    Completes (.tillerSemPortWrite c t k n) s (fun u => u.localSem c k = min (s.localSem c k + n) 0xFFFF))
  ∧ (∀ l cause, s.lets (.tillerTrap c t cause) → (s.core c).kicks t = d :: l → coreState s c = 1 →
    Completes (.tillerTrap c t cause) s (fun u =>
      (u.core c).kicks t = l ∧ u.rd (corePg c) (trapF t) = 1 ∧ coreState u c = 2 ∧ u.rd (corePg c) CORE.STAT_CAUSE = 1
      ∧ u.rd (corePg c) CORE.HALT_INFO_CODE = 0x1051))
  ∧ (s.lets (.tillerReset c t) → exec (.tillerReset c t) s = .next s)
  ∧ (s.lets (.streamFetch c) → coreState s c = 1 → (s.core c).buf.length ≤ 126 → s.coreMay (s.core c).fetch 64 = true →
    Completes (.streamFetch c) s (fun u =>
      (u.core c).fetch = (s.core c).fetch + 64
      ∧ ∃ n ∈ List.range 129, (u.core c).buf.map (fun b => (b.1, b.2.1)) = ((s.core c).buf.map (fun b => (b.1, b.2.1))
          ++ [(s.core c).fetch, (s.core c).fetch + 32].map (fun a => (a, (List.range 4).map (fun i => s.devNat (a + 8 * i) 8)))).drop n))

/-- R183, R184, R185, R187, R188: a start record is held while the core runs and starts it when idle, four at most; GO starts the
stream at STREAM_ADDR; HALT and the abort of the running step halt the core, its unissued commands discarded; once its issued work
is done it is HALTED, or its next start record starts. -/
def Obligations.CoresStartAndHalt : Prop := ∀ (s : State) (c : Nat),
  (∀ r, s.lets (.startRecord c r) → (s.core c).resetAt = none → s.rdB (corePg c) CORE.CTRL_START_SRC = false → coreState s c = 1 →
    (s.core c).pend.length < 4 →
    Completes (.startRecord c r) s (fun u =>
      (u.core c).pend = (s.core c).pend ++ [r] ∧ u.rd (corePg c) CORE.STAT_PENDING_N = (s.core c).pend.length + 1
      ∧ u.rd (corePg c) CORE.STAT_START_PENDING = 1 ∧ AgreeOff [c] s.cores u.cores ∧ PagesKept [corePg c] s u ∧ Keeps [.regs, .cores] s u))
  ∧ (∀ r, s.lets (.startRecord c r) → (s.core c).resetAt = none → s.rdB (corePg c) CORE.CTRL_START_SRC = false → coreState s c = 1 →
    4 ≤ (s.core c).pend.length → exec (.startRecord c r) s = .next ((s.refuse (corePg c)).send (.startRefused c r.step)))
  ∧ (∀ r, s.lets (.startRecord c r) → (s.core c).resetAt = none → s.rdB (corePg c) CORE.CTRL_START_SRC = false → coreState s c = 0 →
    (s.core c).pend = [] →
    Completes (.startRecord c r) s (fun u =>
      coreState u c = 1 ∧ (u.core c).pend = [] ∧ (u.core c).cur = some r ∧ (u.core c).fetch = r.stream
      ∧ u.rd (corePg c) CORE.STREAM_PC = r.stream % 2 ^ 64 ∧ u.rd (corePg c) CORE.STEP = r.step % 2 ^ 64
      ∧ (∀ i, i < 64 → u.localSem c i = 0) ∧ Keeps [.regs, .engines, .cores] s u))
  ∧ (s.lets (.coreGo c) → coreState s c = 0 → (s.core c).pend = [] →
    Completes (.coreGo c) s (fun u =>
      coreState u c = 1 ∧ (u.core c).fetch = s.rdA (corePg c) CORE.STREAM_ADDR_ADDR ∧ (u.core c).buf = [] ∧ u.rd (corePg c) CORE.STEP = 0
      ∧ (∀ i, i < 64 → u.localSem c i = 0) ∧ Keeps [.regs, .engines, .cores] s u))
  ∧ (s.lets (.coreGo c) → coreState s c = 1 ∨ coreState s c = 2 → exec (.coreGo c) s = .next (s.refuse (corePg c)))
  ∧ (s.lets (.coreHalt c) → coreState s c = 1 →
    Completes (.coreHalt c) s (fun u =>
      coreState u c = 2 ∧ u.rd (corePg c) CORE.STAT_CAUSE = 2 ∧ (∀ e, e < 4 → (u.eng c e).queue = [] ∧ (u.eng c e).ops = (s.eng c e).ops)
      ∧ (u.core c).buf = [] ∧ (u.core c).attnQ = [] ∧ (u.core c).dmaQ = [] ∧ (u.core c).mbox0 = [] ∧ (u.core c).mbox1 = []
      ∧ (u.core c).dmaRun = (s.core c).dmaRun ∧ Keeps [.regs, .engines, .cores, .awn] s u))
  ∧ (s.lets (.coreHalt c) → coreState s c = 0 →
    Completes (.coreHalt c) s (fun u => coreState u c = 3 ∧ u.rd (corePg c) CORE.STAT_CAUSE = 2))
  ∧ (∀ n r, s.lets (.stepAbort c n) → coreState s c = 1 → (s.core c).cur = some r → r.step = n → r.reload = false →
    Completes (.stepAbort c n) s (fun u =>
      coreState u c = 2 ∧ u.rd (corePg c) CORE.STAT_CAUSE = 3 ∧ (∀ q ∈ (u.core c).pend, q.step = n → q.reload = true)
      ∧ OutMsg.stepFail c (s.rd (corePg c) CORE.STEP) ∈ u.out ∧ Keeps [.regs, .engines, .cores, .awn, .out] s u))
  ∧ (s.lets (.haltComplete c) → coreState s c = 2 → s.drained c = true → (s.core c).waitHost = true ∨ (s.core c).pend = [] →
    Completes (.haltComplete c) s (fun u => coreState u c = 3 ∧ u.cores = s.cores ∧ Keeps [.regs, .out] s u))
  ∧ (∀ r l, s.lets (.haltComplete c) → coreState s c = 2 → s.drained c = true → (s.core c).waitHost = false → (s.core c).pend = r :: l →
    Completes (.haltComplete c) s (fun u =>
      coreState u c = 1 ∧ (u.core c).cur = some r ∧ (u.core c).pend = l ∧ u.rd (corePg c) CORE.STREAM_PC = r.stream % 2 ^ 64
      ∧ Keeps [.regs, .engines, .cores, .out] s u))

/-! ### Checking (file 07) -/

/-- R146, R147, R148, R149: a sampled pass is compared over its window: without a mismatch its conversions are released, with one it
waits for its repeat; a repeat is judged where nothing it needs has changed, else the sample is unresolved. -/
def Obligations.SampledPassesAreCompared : Prop := ∀ (s : State) (c e t : Nat) (q : Sample) (v : Vec) (r : CheckRes),
  (∀ dis, s.lets (.checkCompare c e t dis) → (dis = false ∨ ((s.core c).sampleNo + 1) % 1024 ≠ 0) → (s.tile c e t).sampleIn (fun x => x.phase == .slot) = some q → s.vec c e q.tag q.named = some v →
    (∀ d ∈ q.drive, s.csBad c (s.imgPtr c e t q.bank + 128 * d.1 + 16 * q.window) 16 = false) →
    compareWindow (s.tol c) q.pairs (laneSum (q.convs v))
      (fun l => exactCode q.two q.split ((s.imageSums c (s.imgPtr c e t q.bank) q.drive).getD l 0)) = r →
    Completes (.checkCompare c e t dis) s (fun u =>
      u.rd (chkPg c) CHK.SAMPLE_CNT = (s.rd (chkPg c) CHK.SAMPLE_CNT + 1) % 2 ^ 64
      ∧ u.rd (chkPg c) CHK.LANE_CNT = (s.rd (chkPg c) CHK.LANE_CNT + r.diffs.length) % 2 ^ 64
      ∧ (u.core c).sum.samples = (s.core c).sum.samples + 1
      ∧ (r.low = none → (u.tile c e t).sampleQ = (s.tile c e t).sampleQ.filter (fun x => !sampleKey q x)
          ∧ u.rd (chkPg c) CHK.MISMATCH_CNT = s.rd (chkPg c) CHK.MISMATCH_CNT)
      ∧ (∀ p, p < 256 → r.low = some p → (∃ x ∈ (u.tile c e t).sampleQ, sampleKey q x = true ∧ x.phase = .repeatPending ∧ x.lowPair = p)
          ∧ u.rd (chkPg c) CHK.MISMATCH_CNT = (s.rd (chkPg c) CHK.MISMATCH_CNT + 1) % 2 ^ 64)
      ∧ Keeps [.regs, .tiles, .cores, .out] s u))
  ∧ (∀ dev, s.lets (.checkRepeatDone c e t dev) → (s.tile c e t).sampleIn (fun x => x.phase == .repeatPending) = some q →
    s.vec c e q.tag q.named = some v →
    Completes (.checkRepeatDone c e t dev) s (fun u =>
      (s.stale c e t q = false → ∃ x ∈ (u.tile c e t).sampleQ, sampleKey q x = true ∧ x.phase = .repeated)
      ∧ (s.stale c e t q = true → ∃ x ∈ (u.tile c e t).sampleQ, sampleKey q x = true ∧ x.phase = .unresolved)
      ∧ (u.tile c e t).sampleQ.length = (s.tile c e t).sampleQ.length ∧ Keeps [.regs, .tiles] s u))

/-- R149, R151, R150, R73, R143, R153, R154, R155: the outcome of a sample: UNRESOLVED, TRANSIENT or PERMANENT is counted, recorded
and the sample done; a tile with a PERMANENT outcome is disabled and the spare filled for it, which takes it over for good. SEED
reloads every tile's selection register; LG_SEL shows the entry of a tile and band in LG_WINDOW, and a selection that exists nowhere
is refused; LG_CLEAR empties the ledger; DREF is written only while the sequencer is halted. -/
def Obligations.OutcomesAndCheckRegisters : Prop :=
  (∀ (s : State) (c e t : Nat) (q : Sample) (v : Vec),
    ((s.tile c e t).sampleIn (fun x => x.phase == .repeated || x.phase == .unresolved || (x.phase == .repeatPending && s.stale c e t x)) = some q →
      s.vec c e q.tag q.named = some v → s.lets (.checkOutcome c e t) →
      (q.phase = .unresolved →
        Completes (.checkOutcome c e t) s (fun u =>
          u.rd (chkPg c) CHK.UNRESOLVED_CNT = (s.rd (chkPg c) CHK.UNRESOLVED_CNT + 1) % 2 ^ 64
          ∧ (u.core c).sum.unresolved = (s.core c).sum.unresolved + 1
          ∧ (u.tile c e t).sampleQ = (s.tile c e t).sampleQ.filter (fun x => !sampleKey q x)
          ∧ (∃ r ∈ (u.die (c / 4)).sources, r.code = 0x5013 ∧ r.address = tileAddr e t + q.lowPair)))
      ∧ (q.phase = .repeated → q.beyond = false → (s.eng c e).transients = [] → (s.eng c e).permanents = [] →
        Completes (.checkOutcome c e t) s (fun u =>
          u.rd (chkPg c) CHK.TRANSIENT_CNT = (s.rd (chkPg c) CHK.TRANSIENT_CNT + 1) % 2 ^ 64
          ∧ (u.core c).sum.transient = (s.core c).sum.transient + 1 ∧ (u.eng c e).transients = [(t, s.now)]
          ∧ (u.tile c e t).sampleQ = (s.tile c e t).sampleQ.filter (fun x => !sampleKey q x)
          ∧ (∃ r ∈ (u.die (c / 4)).sources, r.code = 0x5011 ∧ r.address = tileAddr e t + q.lowPair)))
      ∧ (q.phase = .repeated → q.beyond = true → (s.eng c e).transients = [] → (s.eng c e).permanents = [] → t < 16 →
        s.spareFree c e = true → (s.eng c e).rot.phase = .idle →
        Completes (.checkOutcome c e t) s (fun u =>
          u.rd (chkPg c) CHK.PERMANENT_CNT = (s.rd (chkPg c) CHK.PERMANENT_CNT + 1) % 2 ^ 64
          ∧ (u.core c).sum.permanent = (s.core c).sum.permanent + 1 ∧ (u.eng c e).fillFor = some t
          ∧ u.rd (tilePg c e t) TILE.CTRL_ENABLE = 0 ∧ u.rd (tilePg c e t) TILE.STAT_SUSPECT = 1
          ∧ (∃ r ∈ (u.die (c / 4)).sources, r.code = 0x5012 ∧ r.address = tileAddr e t + q.lowPair))))
    ∧ (s.lets (.retireTakeover c e) → (s.eng c e).fillFor = some t → t < 16 → (s.eng c e).rot.phase = .idle →
      s.spareMatches c e t 0 = true → s.spareMatches c e t 1 = true → (∀ x ∈ (s.tile c e t).vecs, x.begun = true → x.finished = true) →
      Completes (.retireTakeover c e) s (fun u =>
        u.rd (tilePg c e t) TILE.STAT_RETIRED = 1 ∧ u.rd (tilePg c e t) TILE.STAT_IN_SERVICE = 0
        ∧ u.rd (tilePg c e 16) TILE.STAT_STANDIN_FOR = t ∧ u.rd (tilePg c e 16) TILE.STAT_IN_SERVICE = 1
        ∧ (u.eng c e).fillFor = none ∧ u.rdB (engPg c e) ENG.CAL_ROT_STAT_STOPPED = true
        ∧ u.bankState c e t 0 = 0 ∧ u.bankState c e t 1 = 0
        ∧ (u.tile c e 16).vecs = (s.tile c e 16).vecs ++ (s.tile c e t).vecs.filter (fun x => !x.begun)
        ∧ Keeps [.regs, .tiles, .engines, .dies, .flt, .out] s u)))
  ∧ (∀ (s : State) (c v : Nat),
    (s.lets (.chkSeedWrite c v) →
      Completes (.chkSeedWrite c v) s (fun u =>
        u.rd (chkPg c) CHK.SEED = v % 2 ^ CHK.SEED.width ∧ (∀ e, e < 4 → ∀ t, t < 17 → (u.tile c e t).lfsr = 0)
        ∧ PagesKept [chkPg c] s u ∧ Keeps [.regs, .tiles] s u))
    ∧ (s.lets (.lgSel c v) → field v 16 3 ≤ 5 → field v 8 5 ≤ 16 →
      Completes (.lgSel c v) s (fun u =>
        (∀ i, i < 80 → u.rd (chkPg c) (CHK.LG_WINDOW i)
          = (mget (s.core c).ledger .init (ledgerKey (field v 0 2) (field v 8 5) (field v 16 3))).words.getD i 0 % 2 ^ 32)
        ∧ PagesKept [chkPg c] s u ∧ Keeps [.regs] s u))
    ∧ (s.lets (.lgSel c v) → 5 < field v 16 3 ∨ 16 < field v 8 5 → exec (.lgSel c v) s = .next (s.refuse (chkPg c)))
    ∧ (s.lets (.lgClear c) →
      Completes (.lgClear c) s (fun u =>
        u.core c = { s.core c with ledger := [], folded := [] } ∧ AgreeOff [c] s.cores u.cores ∧ Keeps [.cores] s u))
    ∧ (∀ b, s.lets (.drefWrite c b) → coreState s c = 0 ∨ coreState s c = 3 →
      Completes (.drefWrite c b) s (fun u =>
        u.rd (chkPg c) CHK.CTRL_DREF = toBit b ∧ u.rd (chkPg c) CHK.STAT_DREF_ACTIVE = toBit b
        ∧ (u.core c).sum.dref = ((s.core c).sum.dref || b) ∧ PagesKept [chkPg c] s u ∧ Keeps [.regs, .cores] s u))
    ∧ (∀ b, s.lets (.drefWrite c b) → coreState s c = 1 ∨ coreState s c = 2 → exec (.drefWrite c b) s = .next (s.refuse (chkPg c))))

/-! ### The page engine and the attention units (files 09, 10) -/

/-- R198, R199, R201, R202: with nothing held and no attention command on the core: ALLOC takes a free number and frame and its
entry is ACTIVE with one reference and one pin; PIN_R and PIN_W pin and date the page; UNPIN, SHARE, RELEASE and TRIM change its
counts; the last reference of an unpinned page makes it FREE with its generation advanced; a request of another tenant is refused.
-/
def Obligations.LedgerOperations : Prop := ∀ (s : State) (c p slot tenant : Nat),
  s.pages.held = [] → s.srv.failed = [] → (s.core c).attn = none →
  (∀ k tier want wantF, s.lets (.alloc c tenant slot want wantF) → s.allocBank (slot % 4) = some k → s.allocTier = some tier →
    s.pickNum k want = p → s.pageGate p = none →
    Completes (.alloc c tenant slot want wantF) s (fun u =>
      u.page p = { PageEnt.free with
          gen := (s.page p).gen, lastUse := s.stepUse c, frame := s.pickFrame tier wantF, slot := slot, tenant := tenant, ref := 1, pin := 1,
          tier := tier, state := 1 }
      ∧ AgreeOff [p] s.pages.ledger u.pages.ledger ∧ u.dev = (s.devWrite (s.pageAddr p) (toLe 16 (u.page p).word)).dev
      ∧ Keeps [.regs, .dev, .pages] s u))
  ∧ (∀ want wantF, s.lets (.alloc c tenant slot want wantF) → s.allocTier = none →
    Completes (.alloc c tenant slot want wantF) s (fun u =>
      u.rd (kvpPg (slot % 4)) KVP.REFUSED_CNT = (s.rd (kvpPg (slot % 4)) KVP.REFUSED_CNT + 1) % 2 ^ 64 ∧ Keeps [.regs, .dies, .out] s u))
  ∧ (s.pageGate p = none →
    (s.lets (.pinR c p tenant slot) → (s.page p).state = 1 ∨ (s.page p).state = 2 ∨ (s.page p).state = 4 → (s.page p).tenant = tenant →
      (s.page p).pin < 255 →
      Completes (.pinR c p tenant slot) s (fun u =>
        u.page p = { s.page p with pin := (s.page p).pin + 1, lastUse := s.stepUse c } ∧ AgreeOff [p] s.pages.ledger u.pages.ledger))
    ∧ (s.lets (.pinR c p tenant slot) → (s.page p).state ≠ 0 → (s.page p).tenant ≠ tenant →
      Completes (.pinR c p tenant slot) s (fun u =>
        OutMsg.seqFail c slot ∈ u.out ∧ u.pages.ledger = s.pages.ledger
        ∧ u.rd (kvpPg (bankOf p)) KVP.REFUSED_CNT = (s.rd (kvpPg (bankOf p)) KVP.REFUSED_CNT + 1) % 2 ^ 64))
    ∧ (s.lets (.pinR c p tenant slot) → (s.page p).state = 3 → (s.page p).tenant = tenant →
      Completes (.pinR c p tenant slot) s (fun u => u.pages = { s.pages with held := [.pinR c p tenant slot] } ∧ Keeps [.pages] s u))
    ∧ (∀ a q f, s.lets (.pinW c p tenant slot a q f) → (s.page p).state = 1 → (s.page p).tenant = tenant → (s.page p).pin < 255 →
      Completes (.pinW c p tenant slot a q f) s (fun u =>
        u.page p = { s.page p with pin := (s.page p).pin + 1, lastUse := s.stepUse c } ∧ AgreeOff [p] s.pages.ledger u.pages.ledger))
    ∧ (s.lets (.unpin p) → (s.page p).pin ≠ 0 → (s.page p).pin ≠ 1 ∨ (s.page p).state ≠ 4 →
      Completes (.unpin p) s (fun u => u.page p = { s.page p with pin := (s.page p).pin - 1 } ∧ AgreeOff [p] s.pages.ledger u.pages.ledger))
    ∧ (s.lets (.unpin p) → (s.page p).pin = 1 → (s.page p).state = 4 →
      Completes (.unpin p) s (fun u =>
        u.page p = { PageEnt.free with gen := ((s.page p).gen + 1) % 65536 } ∧ AgreeOff [p] s.pages.ledger u.pages.ledger))
    ∧ (s.lets (.share p tenant slot) → (s.page p).state = 1 ∨ (s.page p).state = 2 → (s.page p).tenant = tenant → (s.page p).ref < 0xFFFF →
      Completes (.share p tenant slot) s (fun u =>
        u.page p = { s.page p with state := 2, ref := (s.page p).ref + 1 } ∧ AgreeOff [p] s.pages.ledger u.pages.ledger))
    ∧ (s.lets (.release p slot) → (s.page p).state ≠ 3 → 1 < (s.page p).ref →
      Completes (.release p slot) s (fun u =>
        u.page p = { s.page p with ref := (s.page p).ref - 1 } ∧ AgreeOff [p] s.pages.ledger u.pages.ledger))
    ∧ (s.lets (.release p slot) → (s.page p).state ≠ 3 → (s.page p).ref = 1 → (s.page p).pin = 0 →
      Completes (.release p slot) s (fun u =>
        u.page p = { PageEnt.free with gen := ((s.page p).gen + 1) % 65536 } ∧ AgreeOff [p] s.pages.ledger u.pages.ledger))
    ∧ (∀ n, s.lets (.trim p n slot) → (s.page p).state = 1 →
      Completes (.trim p n slot) s (fun u =>
        u.page p = { s.page p with fill := min (s.page p).fill n } ∧ AgreeOff [p] s.pages.ledger u.pages.ledger)))

/-- R209, R211, R202, R203, R214: with nothing held: a spill or fill that is due makes its page COPYING, and when the move is done
the page is in its new frame and tier and its frame's bytes are copied; a copy-on-write ends with the writer's reference and pin
given back; a sweep starts below the low watermark; a FREE number returns once no step that was in flight is. A bank comes into
service with its entries from the backing table where the four pages agree on the pools, and leaves it at once; the entry view shows
a page's 128 bits; XLATE changes only while the core rests. -/
def Obligations.PagesMoveAndBanksServe : Prop :=
  (∀ (s : State) (p f : Nat), s.pages.held = [] → s.srv.failed = [] →
    (s.lets (.spill p f) → s.movable p 0 = true →
      (s.slotMoves 3 p || s.rdB (kvpPg (bankOf p)) KVP.STAT_SPILLING && s.sweepNext (bankOf p) == some p) = true → s.freeFrames 1 ≠ 0 →
      Completes (.spill p f) s (fun u =>
        (u.page p).state = 3 ∧ (u.page p).ret = (s.page p).state ∧ (u.page p).frame = (s.page p).frame ∧ ⟨p, s.pickFrame 1 f⟩ ∈ u.pages.moves
        ∧ AgreeOff [p] s.pages.ledger u.pages.ledger ∧ Keeps [.regs, .dev, .pages] s u))
    ∧ (s.lets (.fill p f) → s.movable p 1 = true → s.pages.due.contains p = true → s.freeFrames 0 ≠ 0 →
      Completes (.fill p f) s (fun u =>
        (u.page p).state = 3 ∧ (u.page p).ret = (s.page p).state ∧ u.pages.due = s.pages.due.filter (fun k => k != p)
        ∧ (u.pages.moves.length = s.pages.moves.length + 1) ∧ AgreeOff [p] s.pages.ledger u.pages.ledger ∧ Keeps [.regs, .dev, .pages] s u))
    ∧ (∀ m, s.lets (.tierMoveDone p) → s.pages.moves.find? (fun x => x.page == p) = some m →
      Completes (.tierMoveDone p) s (fun u =>
        u.page p = { s.page p with frame := m.frame, tier := 1 - (s.page p).tier, state := (s.page p).ret, ret := 0 }
        ∧ u.pages.moves = s.pages.moves.filter (fun x => x.page != p) ∧ AgreeOff [p] s.pages.ledger u.pages.ledger
        ∧ u.dev = ((s.devCopy (s.frameAddr (1 - (s.page p).tier) m.frame) (s.frameAddr (s.page p).tier (s.page p).frame) 1024).setPage p (u.page p)).dev))
    ∧ (∀ b, s.lets (.spillSweep b) → s.freeFrames 0 < s.rd (kvpPg b) KVP.WATERMARK_LOW_WM * 64 → s.bankOn b = true →
      s.rdB (kvpPg b) KVP.STAT_SPILLING = false → s.rdB (kvpPg b) KVP.CTRL_SPILL_EN = true → s.freeFrames 1 ≠ 0 →
      Completes (.spillSweep b) s (fun u =>
        u.rd (kvpPg b) KVP.STAT_SPILLING = 1 ∧ u.rd (kvpPg b) KVP.STAT_T2_FULL = 0 ∧ Keeps [.regs, .out] s u))
    ∧ (∀ b x, s.lets (.cowCopyDone b) → s.pages.cows.find? (fun y => y.bank == b) = some x → s.pageGate x.page = none →
      (s.page x.page).state = 2 → 1 < (s.page x.page).ref → 1 < (s.page x.page).pin → x.page ≠ x.q → (s.core x.c).attn = none →
      s.pageAddr x.page + 16 ≤ tier2Base → x.listAddr + 4 ≤ tier2Base →
      s.frameAddr (s.page x.q).tier (s.page x.q).frame + 65536 ≤ s.pageAddr x.page
        ∨ s.pageAddr x.page + 16 ≤ s.frameAddr (s.page x.q).tier (s.page x.q).frame →
      Completes (.cowCopyDone b) s (fun u =>
        (u.page x.page).ref = (s.page x.page).ref - 1 ∧ (u.page x.page).pin = (s.page x.page).pin - 1
        ∧ u.pages.cows = eraseFirst (fun y => y.bank == b) s.pages.cows ∧ AgreeOff [x.page] s.pages.ledger u.pages.ledger))
    ∧ (∀ l, s.lets (.pageNumberRelease p) → mfind s.pages.waiting p = some l → (∀ n ∈ l, n ∉ s.stepsInFlight) →
      Completes (.pageNumberRelease p) s (fun u =>
        u.pages = { s.pages with waiting := mdel s.pages.waiting p } ∧ Keeps [.pages] s u)))
  ∧ (∀ (s : State) (b v : Nat),
    (s.lets (.kvpEnableWrite b v) → bit v 0 = true → s.rdB (kvpPg b) KVP.CTRL_ENABLE = false → s.poolsAlike = true →
      Completes (.kvpEnableWrite b v) s (fun u =>
        u.rd (kvpPg b) KVP.CTRL_ENABLE = 1 ∧ u.rd (kvpPg b) KVP.STAT_READY = 1 ∧ u.rd (kvpPg b) KVP.STAT_POOL_MISMATCH = 0
        ∧ (∀ p ∈ s.tableNumbers b, u.page p = PageEnt.ofWord (s.devNat (s.pageAddr p) 16))
        ∧ (∀ p ∈ s.pages.ledger.map (fun x => x.1), bankOf p ≠ b → u.page p = s.page p) ∧ Keeps [.regs, .pages] s u))
    ∧ (s.lets (.kvpEnableWrite b v) → bit v 0 = true → s.rdB (kvpPg b) KVP.CTRL_ENABLE = false → s.poolsAlike = false →
      Completes (.kvpEnableWrite b v) s (fun u =>
        u.rd (kvpPg b) KVP.STAT_POOL_MISMATCH = 1 ∧ u.rdB (kvpPg b) KVP.CTRL_ENABLE = false ∧ Keeps [.regs] s u))
    ∧ (s.lets (.kvpEnableWrite b v) → bit v 0 = false →
      Completes (.kvpEnableWrite b v) s (fun u =>
        u.rd (kvpPg b) KVP.CTRL_ENABLE = 0 ∧ u.rd (kvpPg b) KVP.STAT_READY = 0 ∧ u.rd (kvpPg b) KVP.CTRL_SPILL_AGE = field v 16 16
        ∧ u.rd (kvpPg b) KVP.CTRL_FILL_ON_READ = toBit (bit v 2) ∧ u.rd (kvpPg b) KVP.CTRL_SPILL_EN = toBit (bit v 1)
        ∧ PagesKept [kvpPg b] s u ∧ Keeps [.regs] s u))
    ∧ (s.lets (.entrySel b v) → bankOf (v % 2 ^ 26) = b →
      Completes (.entrySel b v) s (fun u =>
        u.rd (kvpPg b) KVP.ENTRY_SEL_PAGE = v % 2 ^ 26
        ∧ (∀ i, i < 4 → u.rd (kvpPg b) (KVP.ENTRY_VIEW i) = (s.page (v % 2 ^ 26)).word / 2 ^ (32 * i) % 2 ^ 32)
        ∧ PagesKept [kvpPg b] s u ∧ Keeps [.regs] s u))
    ∧ (s.lets (.entrySel b v) → bankOf (v % 2 ^ 26) ≠ b → exec (.entrySel b v) s = .next (s.refuse (kvpPg b)))
    ∧ (∀ c x, s.lets (.xlateWrite c x) → coreState s c = 0 ∨ coreState s c = 3 → (s.core c).attnQ = [] → (s.core c).attn = none →
      exec (.xlateWrite c x) s = .next (s.wrB (attnPg c) ATTN.CTRL_XLATE x))
    ∧ (∀ c x, s.lets (.xlateWrite c x) → coreState s c = 1 → exec (.xlateWrite c x) s = .next (s.refuse (attnPg c))))

/-- R192, R204, R205, R206, R207, R208: an attention command with a well-formed job block starts with its pages to do, a malformed
one halts the core; each page that has answered its pin is read, or written and its fill raised, and given back; with no page left
the command completes, an ATTN_RUN having written its output rows. -/
def Obligations.AttentionCommandsRun : Prop := ∀ (s : State) (c : Nat) (a : AttnCmd),
  (∀ op d, op = 0x80 ∨ op = 0x81 → s.issuable c 4 op = some d → s.readJob c d = none → s.lets (if op = 0x80 then .kvAppend c else .attnRun c) →
    Completes (if op = 0x80 then .kvAppend c else .attnRun c) s (fun u =>
      coreState u c = 2 ∧ u.rd (corePg c) CORE.HALT_INFO_CODE = 0x7031))
  ∧ (∀ op d, op = 0x80 ∨ op = 0x81 → s.issuable c 4 op = some d → s.readJob c d = some a → s.lets (if op = 0x80 then .kvAppend c else .attnRun c) →
    s.rdB (attnPg c) ATTN.CTRL_XLATE = false → (∀ e ∈ a.ents, e.pos + e.count - 1 < a.maxPages * a.tokens) →
    (∀ x ∈ (AttnCmd.next { a with ents := a.ents.map (fun e => { e with todo := todoOf (d.opcode == 0x80) a.tokens e }) }).toList,
      s.coreMay (a.listAddr x.1 x.2) 4 = true ∧ s.devBad (a.listAddr x.1 x.2) 4 = false
        ∧ (op = 0x81 → (s.devNat (a.listAddr x.1 x.2) 4).testBit 31 = false)) →
    Completes (if op = 0x80 then .kvAppend c else .attnRun c) s (fun u =>
      (u.core c).attn = some { a with ents := a.ents.map (fun e => { e with todo := todoOf (d.opcode == 0x80) a.tokens e }) }))
  ∧ (∀ x i, (s.core c).attn = some a → a.ready = some (x, i) → a.next = none → (a.ent x.ent).failed = false →
    s.coreMay (s.frameAddr x.tier x.frame) 65536 = true → s.lostIn (s.frameAddr x.tier x.frame) 65536 = false →
    s.pages.held = [] → s.pageGate x.page = none → 1 < (s.page x.page).pin →
    (s.lets (.walkerPageRead c) → a.d.opcode = 0x81 →
      s.tokensBad a (s.frameAddr x.tier x.frame) (min a.tokens ((a.ent x.ent).pos + (a.ent x.ent).count - x.idx * a.tokens)) = false →
      Completes (.walkerPageRead c) s (fun u =>
        (u.core c).attn = some { a with
            pins := a.pins.eraseIdx i,
            kv := mput a.kv (x.ent * 2 ^ 21 + x.idx) ((s.readTokens a (s.frameAddr x.tier x.frame) (min a.tokens ((a.ent x.ent).pos + (a.ent x.ent).count - x.idx * a.tokens))).map (fun y => y.1)) }
        ∧ u.page x.page = { s.page x.page with pin := (s.page x.page).pin - 1 } ∧ u.cstore = s.cstore))
    ∧ (s.lets (.appendPageWrite c) → a.d.opcode = 0x80 → x.fresh = false → s.knewBad c a x.ent x.idx = false → s.pageAddr x.page + 16 ≤ tier2Base →
      Completes (.appendPageWrite c) s (fun u =>
        (u.core c).attn = some { a with pins := a.pins.eraseIdx i }
        ∧ u.page x.page = { s.page x.page with fill := maxN (posIn a.tokens x.idx (a.ent x.ent)) % a.tokens + 1, pin := (s.page x.page).pin - 1 })))
  ∧ (s.lets (.attnCmdComplete c) → (s.core c).attn = some a → a.next = none → a.pins = [] →
    Completes (.attnCmdComplete c) s (fun u =>
      (u.core c).attn = none
      ∧ (a.d.opcode = 0x80 → u.cstore = s.cstore ∧ u.rd (attnPg c) ATTN.APPEND_CNT = (s.rd (attnPg c) ATTN.APPEND_CNT + 1) % 2 ^ 64)
      ∧ (a.d.opcode ≠ 0x80 → u.cstore = ((List.range a.ents.length).foldl (fun s k => s.writeRows c a k) s).cstore
          ∧ u.rd (attnPg c) ATTN.RUN_CNT = (s.rd (attnPg c) ATTN.RUN_CNT + 1) % 2 ^ 64)))

/-! ### The serving controller (file 11) -/

/-- R216, R218, R219, R222, R223, R241: a request doorbell of a mapped function moves its ring's tail; a function's next descriptor
is decided: a malformed one gets its REFUSE record in the result ring, one that passes every check takes the lowest free slot;
CANCEL ends the sequence of its handle, PARK and UNPARK move it; the deadline check answers what a swap holds too long; an ENDED
slot is freed once no step that was in flight is. -/
def Obligations.RequestsAreDecided : Prop := ∀ (s : State) (f tenant slot : Nat) (d : List Byte) (poison : Bool),
  (∀ v, s.lets (.reqTail f v) → s.fnTenant f = some tenant → exec (.reqTail f v) s = .next (s.wr (fnPg f) FNW.REQ_TAIL_TAIL v))
  ∧ (∀ v, s.lets (.reqTail f v) → s.fnTenant f = none → Completes (.reqTail f v) s (fun u => Keeps [.dies] s u))
  ∧ (s.lets (.submit f) → s.reqTurn f = true → s.reqHead f = (d, poison) → leAt d 0 1 ≠ 2 → leAt d 0 1 ≠ 3 → leAt d 0 1 ≠ 4 →
    s.fnTenant f = some tenant → s.submitBad f tenant d poison = true → 0 < s.room f → (s.fnx f).waiting = [] →
    Completes (.submit f) s (fun u =>
      u.rd srvPg SRV.REFUSE_CNT = (s.rd srvPg SRV.REFUSE_CNT + 1) % 2 ^ 64
      ∧ u.host = (s.putRec f (record (leAt d 8 8 % 2 ^ 32) (leAt d 8 8 / 2 ^ 32) 0 2 0 0 0x15)).host
      ∧ u.resTail f = (s.resTail f + 1) % s.ringSize f % 2 ^ 16
      ∧ u.rd (fnPg f) FNW.REQ_HEAD_HEAD = (s.rd (fnPg f) FNW.REQ_HEAD_HEAD + 1) % s.rd (fnPg f) FNW.REQ_CFG_ENTRIES % 2 ^ 12
      ∧ u.srv.seqs = s.srv.seqs ∧ u.srv.turn = f))
  ∧ (s.lets (.submit f) → s.reqTurn f = true → s.reqHead f = (d, poison) → leAt d 0 1 = 1 → s.fnTenant f = some tenant →
    s.submitBad f tenant d poison = false → s.mdlState (leAt d 2 1) ≠ 3 → bit (leAt d 1 1) 1 = false → leAt d 3 1 = 0 → s.srv.failed = [] →
    s.admitCode tenant d (s.pagesFor (leAt d 2 1) (leAt d 32 4 + leAt d 36 4) 0) = none →
    (List.range 4096).find? (fun i => (s.seq i).state == 0) = some slot →
    Completes (.submit f) s (fun u =>
      (u.seq slot).state = 1 ∧ (u.seq slot).fn = f ∧ (u.seq slot).tenant = tenant ∧ (u.seq slot).model = leAt d 2 1
      ∧ (u.seq slot).handle = leAt d 8 8 ∧ (u.seq slot).pos = 0 ∧ (u.seq slot).promptLeft = leAt d 32 4
      ∧ (u.seq slot).r = leAt d 32 4 + leAt d 36 4 ∧ (u.seq slot).seed = leAt d 16 8
      ∧ u.rd srvPg SRV.ADMIT_CNT = (s.rd srvPg SRV.ADMIT_CNT + 1) % 2 ^ 64
      ∧ u.rd (fnPg f) FNW.REQ_HEAD_HEAD = (s.rd (fnPg f) FNW.REQ_HEAD_HEAD + 1) % s.rd (fnPg f) FNW.REQ_CFG_ENTRIES % 2 ^ 12
      ∧ AgreeOff [slot] s.srv.seqs u.srv.seqs))
  ∧ (s.reqTurn f = true → s.reqHead f = (d, false) → s.byHandle f (leAt d 8 8) = some slot → (s.seq slot).live = true → leAt d 1 7 = 0 → leAt d 16 48 = 0 →
    (s.lets (.cancel f) → leAt d 0 1 = 2 →
      Completes (.cancel f) s (fun u => (u.seq slot).state = 7 ∧ (u.seq slot).endCode = 5 ∧ (u.seq slot).endedIn = s.stepsInFlight
        ∧ AgreeOff [slot] s.srv.seqs u.srv.seqs))
    ∧ (s.lets (.park f) → leAt d 0 1 = 3 → (s.seq slot).state = 1 ∨ (s.seq slot).state = 2 →
      Completes (.park f) s (fun u =>
        (u.seq slot).state = (if s.inStep slot = false ∧ (∀ p ∈ s.slotPages slot, (s.page p).tier = 1 ∧ (s.page p).state ≠ 3) then 4 else 3)
        ∧ u.pages = s.pages ∧ Keeps [.regs, .srv] s u))
    ∧ (s.lets (.unpark f) → leAt d 0 1 = 4 → (s.seq slot).state = 4 →
      Completes (.unpark f) s (fun u =>
        (u.seq slot).state = (if (∀ p ∈ s.slotPages slot, (s.page p).tier = 0 ∧ (s.page p).state ≠ 3) then (s.seq slot).active else 5)
        ∧ u.pages = s.pages ∧ Keeps [.regs, .srv] s u)))
  ∧ (s.lets .barrierDeadlineCheck →
    Completes .barrierDeadlineCheck s (fun u =>
      u.srv.held = s.srv.held.filter (fun h => !s.expired (leAt h.bytes 40 8))
      ∧ (∀ k ∈ s.liveSlots, (s.seq k).state = 6 → s.expired (s.seq k).deadline = true → (u.seq k).state = 7 ∧ (u.seq k).endCode = 3)))
  ∧ (s.lets (.slotFree slot) → (s.seq slot).state = 7 → (∀ n ∈ (s.seq slot).endedIn, n ∉ s.stepsInFlight) →
    Completes (.slotFree slot) s (fun u => u.srv = { s.srv with seqs := mdel s.srv.seqs slot } ∧ Keeps [.srv] s u))

/-- R225, R227, R228, R229, R232, R233, R186, R187, R208, R234: a step is assembled from the sequences that may run, its draft
rounds sample a token each, its ends and failures are reported, and once it is sampled it closes with its tokens taken; a failed
step aborts on its other cores, and a failed sequence ends. -/
def Obligations.StepsRunToTheirClose : Prop := ∀ (s : State) (m k n : Nat) (x : StepS),
  (∀ sh, s.lets (.stepAssembly m) → s.mayAssemble m = true → s.srv.seqs.map (fun e => e.1) = [k] → (s.seq k).state = 2 → (s.seq k).model = m →
    (s.seq k).deadline = 0 → (s.seq k).kMax = 0 → (s.seq k).tenant < 256 → s.rd (tenPg (s.seq k).tenant) TEN.RATE = 0 →
    2 ≤ s.room (s.seq k).fn → s.shapesOf m = [sh] → 1 ≤ sh.cap → s.devBad (s.rd (mdlPg m) MDL.SHAPES) 64 = false → s.shapeBad sh = false →
    (∀ c ∈ s.shapeCores sh, s.rdB fltPg (FLT.CORE_REDIR_VALID c.logical) = true) →
    Completes (.stepAssembly m) s (fun u =>
      (∃ y ∈ u.srv.steps, y.step = s.srv.nextStep ∧ y.model = m ∧ y.seqs = [newStepSeq k 1 0 false] ∧ y.phase = 0 ∧ y.rounds = 0
        ∧ y.cores = (s.shapeCores sh).map (fun c => (s.physOfCore c.logical, false)))
      ∧ u.srv.nextStep = s.srv.nextStep + 1 ∧ u.srv.steps.length = s.srv.steps.length + 1))
  ∧ (s.stepRec n = some x →
    (∀ y row, s.lets (.draftRoundEnd n) → x.phase = 1 → s.awn.grants.any (fun g => g.who == claimOf x.model) = true → x.seqs = [y] →
      x.round ≤ y.k → y.failed = false → (s.seq y.slot).live = true → x.rounds ≤ x.round →
      s.logitRow (s.rd (mdlPg x.model) MDL.DRAFT) x.dlogits 0 = some row →
      Completes (.draftRoundEnd n) s (fun u =>
        (∃ z ∈ u.srv.steps, z.step = n ∧ z.seqs.map (fun w => w.drafts) = [y.drafts ++ [(s.seq y.slot).sampP.token row ((s.seq y.slot).pos + x.round)]])
        ∧ (x.gsemBase + (x.draftSem + 1), x.cores.length) ∈ u.awn.adds ∧ (∀ g ∈ u.awn.grants, g.who ≠ claimOf x.model)))
    ∧ (∀ hub, s.lets (.samplingDone n hub) → x.phase = 2 →
      Completes (.samplingDone n hub) s (fun u =>
        ∃ z ∈ u.srv.steps, z.step = n ∧ z.seqs.map (fun w => w.slot) = x.seqs.map (fun w => w.slot)
          ∧ (∀ w ∈ z.seqs, w.slot % 4 = hub → w.sampled = true)))
    ∧ (∀ y row, s.lets (.samplingDone n (y.slot % 4)) → x.phase = 2 → x.seqs = [y] → y.prefill = true → y.failed = false → y.sampled = false →
      (s.seq y.slot).live = true → (s.seq y.slot).promptLeft ≤ y.n → s.logitRow x.model x.logits (y.n - 1) = some row →
      Completes (.samplingDone n (y.slot % 4)) s (fun u =>
        (∃ z ∈ u.srv.steps, z.step = n ∧ z.seqs = [{ y with
            sampled := true, toks := [((s.seq y.slot).sampP.token row ((s.seq y.slot).pos + y.n),
              logp row ((s.seq y.slot).sampP.token row ((s.seq y.slot).pos + y.n)))] }])
        ∧ Keeps [.srv] s u))
    ∧ (∀ y t lp, s.lets (.stepClose n) → x.phase = 2 → x.seqs = [y] → y.sampled = true → y.failed = false → y.prefill = false → y.toks = [(t, lp)] →
      y.k = 0 → y.accepted = 0 → (s.seq y.slot).state = 2 → t ≠ (s.seq y.slot).stop → (s.seq y.slot).deadline = 0 →
      (s.seq y.slot).pos + 2 < (s.seq y.slot).r → s.mdlState x.model ≠ 3 → s.srv.failed = [] →
      Completes (.stepClose n) s (fun u =>
        (u.seq y.slot).pos = (s.seq y.slot).pos + 1 ∧ (u.seq y.slot).token = t ∧ (u.seq y.slot).attempts = 0 ∧ (u.seq y.slot).state = 2
        ∧ (∀ z ∈ u.srv.steps, z.step ≠ n)
        ∧ u.rd srvPg SRV.STEP_NS_LAST = min 0xFFFFFFFF ((s.now - x.at0) * 5 / 32)))
    ∧ (∀ c, s.lets (.stepEndReport c n) → n ≠ 0 → x.phase = 1 → (∀ k ∈ x.cores, k.1 ≠ c → k.2 = true) →
      Completes (.stepEndReport c n) s (fun u => ∃ z ∈ u.srv.steps, z.step = n ∧ z.phase = 2 ∧ (∀ k ∈ z.cores, k.2 = true)))
    ∧ (∀ c, s.lets (.stepFailureReport c n false) → n ≠ 0 → x.cores.any (fun k => k.1 == c) = true →
      Completes (.stepFailureReport c n false) s (fun u =>
        (∀ z ∈ u.srv.steps, z.step ≠ n) ∧ u.rd srvPg SRV.ABORT_CNT = (s.rd srvPg SRV.ABORT_CNT + 1) % 2 ^ 64
        ∧ (∀ k ∈ x.cores, k.1 ≠ c → OutMsg.stepAbort k.1 x.step ∈ u.out)))
    ∧ (∀ c y, s.lets (.stepFailureReport c n true) → n ≠ 0 → (s.shapeCores (s.readShape x.shape)).find? (fun k => s.physOfCore k.logical == c) = some y →
      Completes (.stepFailureReport c n true) s (fun u =>
        (∃ z ∈ u.srv.steps, z.step = n ∧ z.unsent.any (fun v => v.1 == c) = true) ∧ Keeps [.srv] s u)))
  ∧ (∀ c, s.lets (.seqFailReport c k) → (s.seq k).live = true →
    Completes (.seqFailReport c k) s (fun u => (u.seq k).state = 7 ∧ (u.seq k).endCode = 6 ∧ AgreeOff [k] s.srv.seqs u.srv.seqs))

/-- R241, R242, R258: a swap closes its model, draining it once no step of it is in flight; its end opens the model in its next
generation or empties it; UNLOAD empties a model with no job, its sequences ended, and is refused with one. -/
def Obligations.ModelsSwapAndUnload : Prop := ∀ (s : State) (m : Nat),
  (s.lets (.modelSwap m) → s.mdlState m = 2 → s.srv.steps.any (fun x => x.model == m) = true →
    Completes (.modelSwap m) s (fun u => u.mdlState m = 3 ∧ (u.mdl m).drained = false ∧ u.srv.seqs = s.srv.seqs ∧ Keeps [.regs, .srv] s u))
  ∧ (s.lets (.modelSwap m) → s.mdlState m = 2 → s.srv.steps.any (fun x => x.model == m) = false → s.ingest.jobs = [] →
    s.rd (mdlPg m) MDL.SWAP_MODE = 1 →
    Completes (.modelSwap m) s (fun u =>
      u.mdlState m = 3 ∧ (u.mdl m).drained = true ∧ (∀ k ∈ s.liveOf m, (s.seq k).state = 1 ∨ (s.seq k).state = 2 → (u.seq k).state = 6)))
  ∧ (s.lets (.modelSwap m) → s.mdlState m = 2 → s.srv.steps.any (fun x => x.model == m) = false → s.ingest.jobs = [] →
    s.rd (mdlPg m) MDL.SWAP_MODE = 0 →
    Completes (.modelSwap m) s (fun u =>
      u.mdlState m = 3 ∧ (u.mdl m).drained = true ∧ (∀ k ∈ s.liveOf m, (s.seq k).live = true → (u.seq k).state = 7 ∧ (u.seq k).endCode = 7)))
  ∧ (s.lets (.swapComplete m true) → s.mdlState m = 3 → s.srv.held = [] →
    Completes (.swapComplete m true) s (fun u =>
      u.mdlState m = 2 ∧ u.rd (mdlPg m) MDL.GEN = (s.rd (mdlPg m) MDL.GEN + 1) % 256
      ∧ (∀ k ∈ s.liveOf m, (u.seq k).newgen = true ∧ ((s.seq k).state = 6 → (u.seq k).state = (s.seq k).active))))
  ∧ (s.lets (.swapComplete m false) → s.mdlState m = 3 → s.srv.held = [] →
    Completes (.swapComplete m false) s (fun u =>
      u.mdlState m = 0 ∧ (∀ k ∈ s.liveOf m, (s.seq k).live = true → (u.seq k).state = 7 ∧ (u.seq k).endCode = 6)))
  ∧ (s.lets (.modelUnload m) → s.ingest.jobs.any (fun j => j.model == m && j.op != 3) = false → s.srv.held = [] →
    Completes (.modelUnload m) s (fun u =>
      u.mdlState m = 0 ∧ (∀ k ∈ s.liveOf m, (s.seq k).live = true → (u.seq k).state = 7 ∧ (u.seq k).endCode = 7)))
  ∧ (s.lets (.modelUnload m) → s.ingest.jobs.any (fun j => j.model == m && j.op != 3) = true → exec (.modelUnload m) s = .next (s.refuse srvPg))

/-- R235, R236, R237, R238, R242, R156, R239: RES_POP takes the record at the head, RES_PEEK shows it, a RES_HEAD inside what was
written stands; a ring is enabled with a power of two of entries in range; SEQ_SEL shows a sequence's 128 bytes; a step's sums add
up core by core and its summary is written when all have reported or the wait is over. -/
def Obligations.ResultRingsAndViews : Prop := ∀ (s : State) (f t : Nat),
  (s.fnTenant f = some t →
    (s.lets (.resPopLo f) → s.resHead f ≠ s.resTail f →
      Completes (.resPopLo f) s (fun u =>
        OutMsg.readValue (mget (s.fnx f).copy (0, 0) (s.resHead f)).2 ∈ u.out
        ∧ u.rd (fnPg f) FNW.RES_POP_HI = (mget (s.fnx f).copy (0, 0) (s.resHead f)).1 % 2 ^ 64
        ∧ u.resHead f = (s.resHead f + 1) % s.ringSize f % 2 ^ 16))
    ∧ (s.lets (.resPopLo f) → s.resHead f = s.resTail f → exec (.resPopLo f) s = .next (s.send (.readValue 0xF0000)))
    ∧ (s.lets (.resPeekLo f) →
      Completes (.resPeekLo f) s (fun u =>
        u.out = s.out ++ [.readValue (putBit (mget (s.fnx f).copy (0, 0) (s.resHead f)).2 62 (s.resHead f != s.resTail f))]
        ∧ u.rd (fnPg f) FNW.RES_PEEK_HI = (mget (s.fnx f).copy (0, 0) (s.resHead f)).1 % 2 ^ 64
        ∧ u.resHead f = s.resHead f ∧ PagesKept [fnPg f] s u ∧ Keeps [.regs, .out] s u))
    ∧ (∀ v, s.lets (.resHeadWrite f v) → v < s.ringSize f → (v + s.ringSize f - s.resHead f) % s.ringSize f ≤ s.resUsed f →
      Completes (.resHeadWrite f v) s (fun u => u.resHead f = v % 2 ^ 16))
    ∧ (∀ v, s.lets (.resHeadWrite f v) → s.ringSize f ≤ v → v ≠ s.resHead f →
      Completes (.resHeadWrite f v) s (fun u =>
        u.resHead f = s.resHead f ∧ u.rd srvPg HDR.ERR_CNT = satAdd 32 (s.rd srvPg HDR.ERR_CNT) 1 % 2 ^ 32
        ∧ PagesKept [srvPg] s u ∧ Keeps [.regs, .dies] s u)))
  ∧ (∀ v, s.lets (.ringEnableWrite f true v) → bit v 63 = true → isPow2 (field v 0 17) 256 65536 = true →
    s.rdB (fnPg f) FNW.RES_CFG_ENABLE = false → (s.fnx f).waiting = [] →
    Completes (.ringEnableWrite f true v) s (fun u =>
      u.rd (fnPg f) FNW.RES_CFG_ENABLE = 1 ∧ u.ringSize f = field v 0 17 ∧ u.resHead f = 0 ∧ u.resTail f = 0 ∧ (u.fnx f).copy = []
      ∧ u.rd (fnPg f) FNW.RES_CFG_IRQ_EN = toBit (bit v 61) ∧ PagesKept [fnPg f] s u ∧ Keeps [.regs, .srv] s u))
  ∧ (∀ v, s.lets (.ringEnableWrite f false v) → bit v 63 = true → isPow2 (field v 0 13) 64 4096 = true →
    s.rdB (fnPg f) FNW.REQ_CFG_ENABLE = false → s.rdB (fnPg f) FNW.RES_CFG_ENABLE = true →
    Completes (.ringEnableWrite f false v) s (fun u =>
      u.rd (fnPg f) FNW.REQ_CFG_ENABLE = 1 ∧ u.rd (fnPg f) FNW.REQ_CFG_ENTRIES = field v 0 13 ∧ u.rd (fnPg f) FNW.REQ_HEAD_HEAD = 0
      ∧ PagesKept [fnPg f] s u ∧ Keeps [.regs] s u))
  ∧ (∀ v, s.lets (.seqSel v) →
    Completes (.seqSel v) s (fun u =>
      u.rd srvPg SRV.SEQ_SEL_SLOT = v % 4096
      ∧ (∀ i, i < 32 → u.rd srvPg (SRV.SEQ_VIEW i) = leAt (s.seq (v % 4096)).bytes (4 * i) 4)
      ∧ PagesKept [srvPg] s u ∧ Keeps [.regs] s u))
  ∧ (∀ c n v, s.lets (.stepSum c n) → mfind (s.core c).sumOut n = some v → s.srv.sums.any (fun x => x.step == n) = true →
    (∃ k ∈ s.sumCores, k ≠ c ∧ k ∉ (s.sumRec n).cores) →
    Completes (.stepSum c n) s (fun u =>
      (∃ x ∈ u.srv.sums, x.step = n ∧ x.sum = (s.sumRec n).sum.plus v ∧ x.cores = (s.sumRec n).cores ++ [c])
      ∧ (u.core c).sumOut = mdel (s.core c).sumOut n ∧ Keeps [.cores, .srv] s u))
  ∧ (s.rdB srvPg SRV.SUM_CFG_ENABLE = true → 1 < s.rd srvPg SRV.SUM_CFG_ENTRIES →
    (s.rd srvPg SRV.SUM_TAIL_TAIL + 1) % s.rd srvPg SRV.SUM_CFG_ENTRIES ≠ s.rd srvPg SRV.SUM_HEAD_HEAD % s.rd srvPg SRV.SUM_CFG_ENTRIES →
    ∀ n, s.srv.sums.any (fun x => x.step == n) = true →
    (∀ c v, s.lets (.stepSum c n) → mfind (s.core c).sumOut n = some v → (∀ k ∈ s.sumCores, k = c ∨ k ∈ (s.sumRec n).cores) →
      Completes (.stepSum c n) s (fun u =>
        (∀ x ∈ u.srv.sums, x.step ≠ n)
        ∧ u.host = s.host.put (s.rdA srvPg SRV.SUM_BASE_BASE + 64 * s.rd srvPg SRV.SUM_TAIL_TAIL) (((s.sumRec n).sum.plus v).bytes n false)
        ∧ u.rd srvPg SRV.SUM_TAIL_TAIL = (s.rd srvPg SRV.SUM_TAIL_TAIL + 1) % s.rd srvPg SRV.SUM_CFG_ENTRIES % 2 ^ 16))
    ∧ (s.lets (.summaryTimeout n) →
      Completes (.summaryTimeout n) s (fun u =>
        (∀ x ∈ u.srv.sums, x.step ≠ n)
        ∧ u.host = s.host.put (s.rdA srvPg SRV.SUM_BASE_BASE + 64 * s.rd srvPg SRV.SUM_TAIL_TAIL) ((s.sumRec n).sum.bytes n true)
        ∧ u.rd srvPg SRV.SUM_TAIL_TAIL = (s.rd srvPg SRV.SUM_TAIL_TAIL + 1) % s.rd srvPg SRV.SUM_CFG_ENTRIES % 2 ^ 16)))

/-! ### Ingest (file 12) -/

/-- R244, R245, R247, R248, R257, R258, R260, R316: the bytes of an aperture write on a bound channel land in its staging slot,
marked where the write was, and are counted; with no job they are dropped and recorded once per window slot; a peer's credit request
registers it and is answered. The ring's tail is written; the job at its head is refused with its reason or accepted, and the head
moves; ENABLE stands once the device is ready, and is refused before; an exporting job takes the credit it is told, asks again after
an answer of none, and fails where none comes. -/
def Obligations.ApertureWritesAndJobs : Prop :=
  (∀ (s : State) (ch : Nat),
    (∀ addr data poisoned stream j, s.lets (.apertureWrite addr data poisoned stream) → s.ide 1 stream = .ok → apBase ≤ addr →
      ch = (addr - apBase) / 2 ^ 30 → data ≠ [] → addr % 2 ^ 20 + data.length ≤ 2 ^ 20 → s.channelJob ch = some j →
      s.slotComplete ch ((addr - apBase) % 2 ^ 30 / 2 ^ 20 % s.rd ingPg INGEST.STAGE_CFG_SLOTS) = false → 12 ≤ addr % 2 ^ 20 →
      (mget s.ingest.counts (0, 0) (slotKey ch ((addr - apBase) % 2 ^ 30 / 2 ^ 20 % s.rd ingPg INGEST.STAGE_CFG_SLOTS))).2 ≠ 15 →
      Completes (.apertureWrite addr data poisoned stream) s (fun u =>
        u.hbms = (s.devWrite (s.stageAddr ch ((addr - apBase) % 2 ^ 30 / 2 ^ 20 % s.rd ingPg INGEST.STAGE_CFG_SLOTS) + addr % 2 ^ 20) data poisoned).hbms
        ∧ u.dev = (s.devWrite (s.stageAddr ch ((addr - apBase) % 2 ^ 30 / 2 ^ 20 % s.rd ingPg INGEST.STAGE_CFG_SLOTS) + addr % 2 ^ 20) data poisoned).dev
        ∧ u.rd ingPg INGEST.BYTES_IN = (s.rd ingPg INGEST.BYTES_IN + data.length) % 2 ^ 64
        ∧ (mget u.ingest.counts (0, 0) (slotKey ch ((addr - apBase) % 2 ^ 30 / 2 ^ 20 % s.rd ingPg INGEST.STAGE_CFG_SLOTS))).1
          = (mget s.ingest.counts (0, 0) (slotKey ch ((addr - apBase) % 2 ^ 30 / 2 ^ 20 % s.rd ingPg INGEST.STAGE_CFG_SLOTS))).1 + data.length
        ∧ u.ingest.jobs = s.ingest.jobs))
    ∧ (∀ addr data poisoned stream, s.lets (.apertureWrite addr data poisoned stream) → s.ide 1 stream = .ok → apBase ≤ addr →
      ch = (addr - apBase) / 2 ^ 30 → data ≠ [] → addr % 2 ^ 20 + data.length ≤ 2 ^ 20 → s.channelJob ch = none →
      s.ingest.stray.contains (slotKey ch ((addr - apBase) % 2 ^ 30 / 2 ^ 20)) = false →
      Completes (.apertureWrite addr data poisoned stream) s (fun u =>
        u.rd ingPg INGEST.STRAY_CNT = (s.rd ingPg INGEST.STRAY_CNT + 1) % 2 ^ 64
        ∧ u.ingest = { s.ingest with stray := s.ingest.stray ++ [slotKey ch ((addr - apBase) % 2 ^ 30 / 2 ^ 20)] } ∧ u.dev = s.dev ∧ u.hbms = s.hbms))
    ∧ (∀ port peer, s.lets (.apertureCreditRequest port peer ch) → s.ingest.jobs.any (fun j => j.bound == some ch) = true →
      Completes (.apertureCreditRequest port peer ch) s (fun u =>
        u.ingest = { s.ingest with exporters := mput s.ingest.exporters ch (port, peer) }
        ∧ u.out = s.out ++ [.credit port ch (s.rd ingPg INGEST.STAGE_CFG_SLOTS) (s.rd ingPg (INGEST.CH_CONSUMED ch))]
        ∧ Keeps [.ingest, .out] s u))
    ∧ (∀ port peer, s.lets (.apertureCreditRequest port peer ch) → s.ingest.jobs.any (fun j => j.bound == some ch) = false →
      exec (.apertureCreditRequest port peer ch) s = .next (s.send (.credit port ch 0 0))))
  ∧ (∀ (s : State),
    (∀ v, s.lets (.jobTail v) → exec (.jobTail v) s = .next (s.wr ingPg INGEST.JOB_TAIL_TAIL v))
    ∧ (∀ i op, (i, op) ∈ [(Instr.jobLoad, 1), (Instr.jobSwap, 2), (Instr.jobExport, 3)] → s.lets i → ∀ h l, s.jobHead = some (h, l) →
      leAt l 0 1 = op →
      (∀ r, s.jobReason h l = some r →
        Completes i s (fun u =>
          u.rd ingPg INGEST.JOB_HEAD_HEAD = (h + 1) % s.rd ingPg INGEST.JOB_CFG_ENTRIES % 2 ^ 8
          ∧ u.rd ingPg INGEST.REFUSED_CNT = (s.rd ingPg INGEST.REFUSED_CNT + 1) % 2 ^ 64 ∧ u.ingest = s.ingest))
      ∧ (s.jobReason h l = none → s.ingest.jobs.all (fun k => !s.mayStart k) = true → 4 ≤ (s.ingest.jobs.filter (fun k => k.running)).length →
        Completes i s (fun u =>
          u.rd ingPg INGEST.JOB_HEAD_HEAD = (h + 1) % s.rd ingPg INGEST.JOB_CFG_ENTRIES % 2 ^ 8
          ∧ ∃ j ∈ u.ingest.jobs, j.idx = h ∧ j.op = op ∧ j.src = leAt l 1 1 ∧ j.channel = leAt l 2 1 ∧ j.model = leAt l 3 1 ∧ j.tag = leAt l 6 1
            ∧ j.srcAddr = leAt l 16 8 ∧ j.srcLen = leAt l 24 8 ∧ j.layer = 0 ∧ j.seq = 0 ∧ j.phase = 0
            ∧ u.ingest.jobs = s.ingest.jobs ++ [j]))
      ∧ (s.jobReason h l = none → s.ingest.jobs = [] → s.rdB ingPg INGEST.CTRL_ENABLE = true → op = 1 →
        Completes i s (fun u => u.ingest.jobs.map (fun j => (j.idx, j.phase)) = [(h, 1)] ∧ u.rd (mdlPg (leAt l 3 1)) MDL.STATE = 1)))
    ∧ (∀ v, s.lets (.ingestEnableWrite v) → s.rdB (pciePg 0) PCIE.STAT_DEV_READY = true → s.ingest.jobs.any (fun j => j.phase == 0) = false →
      Completes (.ingestEnableWrite v) s (fun u => u.rd ingPg INGEST.CTRL_ENABLE = toBit v ∧ u.ingest = s.ingest))
    ∧ (∀ v, s.lets (.ingestEnableWrite v) → s.rdB (pciePg 0) PCIE.STAT_DEV_READY = false → exec (.ingestEnableWrite v) s = .next (s.refuse ingPg))
    ∧ (∀ n j peer ch, s.exporting n = some (j, peer, ch) → s.ingest.jobs = [j] →
      (∀ slots consumed, s.lets (.apertureCreditMsg n slots consumed) →
        Completes (.apertureCreditMsg n slots consumed) s (fun u =>
          u.ingest.jobs = [{ j with slots := slots, consumed := consumed, asking := false }] ∧ Keeps [.ingest] s u))
      ∧ (s.lets (.exportCreditRetry n) → j.asking = false → j.slots = 0 →
        Completes (.exportCreditRetry n) s (fun u =>
          u.ingest.jobs = [{ j with asking := true, askedAt := s.now }] ∧ u.out = s.out ++ [.creditReq peer ch] ∧ Keeps [.ingest, .out] s u))
      ∧ (s.lets (.exportCreditTimeout n) → j.asking = true →
        Completes (.exportCreditTimeout n) s (fun u =>
          u.ingest.jobs = [{ j with phase := 4, failCode := 0x303E }]
          ∧ u.rd ingPg INGEST.REFUSED_CNT = (s.rd ingPg INGEST.REFUSED_CNT + 1) % 2 ^ 64))))

/-- R249, R250, R254, R256, R257, R258: a chunk in host memory with an order that fits and a CRC that is right is taken, one with a
wrong CRC refuses its layer; a layer whose tile loads compute takes effect; a job's end frees it, and a LOAD's opens its model or
empties it. -/
def Obligations.ChunksLayersAndJobsEnd : Prop := ∀ (s : State) (n : Nat) (j : IngJob), s.ingest.jobs = [j] → j.idx = n →
  (∀ body last, s.lets (.chunkProcess n none) → j.op = 1 → j.phase = 1 → j.layerEnd = false → j.src = 1 →
    s.rdB ingPg INGEST.CTRL_ENABLE = true → 0 < j.pos →
    s.hostRead (j.srcAddr + j.srcPos) 64 = (exportChunk j body last).take 64 → s.hostRead (j.srcAddr + j.srcPos + 64) body.length = body →
    s.hostBad (j.srcAddr + j.srcPos) 64 = false → s.hostBad (j.srcAddr + j.srcPos + 64) body.length = false →
    0 < body.length → body.length ≤ 1048512 → j.srcPos + 64 + body.length ≤ j.srcLen → j.pos + body.length ≤ (j.man j.layer).srcBytes →
    last = (j.layer + 1 == j.layers && j.pos + body.length == (j.man j.layer).srcBytes) →
    (last = true → j.srcPos + roundUp (64 + body.length) 64 = j.srcLen) → j.tag < 256 → j.seq < 2 ^ 32 → j.layer < 65536 → j.pos < 2 ^ 64 →
    Completes (.chunkProcess n none) s (fun u =>
      u.ingest.jobs = [{ j with
        seq := j.seq + 1, pos := j.pos + body.length, raw := j.raw ++ body, chunks := j.chunks + 1,
        layerEnd := j.pos + body.length == (j.man j.layer).srcBytes, lastSeen := last, srcPos := j.srcPos + roundUp (64 + body.length) 64 }]
      ∧ u.rd ingPg INGEST.CHUNK_CNT = (s.rd ingPg INGEST.CHUNK_CNT + 1) % 2 ^ 64
      ∧ u.rd ingPg INGEST.BYTES_IN = (s.rd ingPg INGEST.BYTES_IN + (64 + body.length)) % 2 ^ 64
      ∧ u.dev = s.dev ∧ u.host = s.host ∧ PagesKept [ingPg] s u))
  ∧ (∀ body last raw, s.lets (.chunkProcess n raw) → j.op = 1 → j.phase = 1 → j.layerEnd = false → j.src = 1 →
    s.rdB ingPg INGEST.CTRL_ENABLE = true → 0 < j.pos → s.hostRead (j.srcAddr + j.srcPos) 64 = (exportChunk j body last).take 64 →
    s.hostBad (j.srcAddr + j.srcPos) 64 = false → s.hostBad (j.srcAddr + j.srcPos + 64) body.length = false →
    0 < body.length → body.length ≤ 1048512 → j.srcPos + 64 + body.length ≤ j.srcLen → j.pos + body.length ≤ (j.man j.layer).srcBytes →
    last = (j.layer + 1 == j.layers && j.pos + body.length == (j.man j.layer).srcBytes) →
    (last = true → j.srcPos + roundUp (64 + body.length) 64 = j.srcLen) → j.tag < 256 → j.seq < 2 ^ 32 → j.layer < 65536 → j.pos < 2 ^ 64 →
    crc32 (s.hostRead (j.srcAddr + j.srcPos + 64) body.length) ≠ crc32 body →
    Completes (.chunkProcess n raw) s (fun u =>
      u.ingest.jobs = [{ j with phase := 4, failCode := 0x3038 }]
      ∧ u.rd ingPg INGEST.REFUSED_CNT = (s.rd ingPg INGEST.REFUSED_CNT + 1) % 2 ^ 64
      ∧ u.rd ingPg INGEST.CHUNK_CNT = s.rd ingPg INGEST.CHUNK_CNT))
  ∧ (∀ tiles x, s.lets (.layerComplete n) → j.phase = 1 → j.layerEnd = true → j.op = 1 → j.layer + 1 < j.layers →
    ((j.man j.layer).arr = 0 ∨ s.devBad (j.man j.layer).staticList (4 * (j.man j.layer).staticN) = false) →
    s.tileLoads j = .ok (tiles, x) →
    Completes (.layerComplete n) s (fun u =>
      u.ingest.jobs = [{ j with layer := j.layer + 1, pos := 0, raw := [], chunks := 0, layerEnd := false }]
      ∧ u.rd ingPg INGEST.LAYER_CNT = (s.rd ingPg INGEST.LAYER_CNT + 1) % 2 ^ 64
      ∧ u.rd ingPg INGEST.DEGRADED_CNT = (s.rd ingPg INGEST.DEGRADED_CNT + toBit x.degraded) % 2 ^ 64))
  ∧ (∀ code, s.lets (.layerComplete n) → j.phase = 1 → j.layerEnd = true → ((j.man j.layer).arr = 0 ∨ s.devBad (j.man j.layer).staticList (4 * (j.man j.layer).staticN) = false) →
    s.tileLoads j = .error code →
    Completes (.layerComplete n) s (fun u =>
      u.ingest.jobs = [{ j with phase := 4, failCode := code }]
      ∧ u.rd ingPg INGEST.REFUSED_CNT = (s.rd ingPg INGEST.REFUSED_CNT + 1) % 2 ^ 64
      ∧ u.rd ingPg INGEST.LAYER_CNT = s.rd ingPg INGEST.LAYER_CNT))
  ∧ (s.lets (.jobEnd n) → j.op = 1 → j.phase = 3 →
    Completes (.jobEnd n) s (fun u =>
      u.ingest.jobs = [] ∧ u.rd (mdlPg j.model) MDL.STATE = 2 ∧ u.ingest.manifests = mput s.ingest.manifests j.model j.manifest
      ∧ u.rd ingPg INGEST.STAT_RUNNING = 0))
  ∧ (s.lets (.jobEnd n) → j.op = 1 → j.phase = 4 → s.srv.held = [] →
    Completes (.jobEnd n) s (fun u =>
      u.ingest.jobs = [] ∧ u.rd (mdlPg j.model) MDL.STATE = 0 ∧ u.ingest.manifests = s.ingest.manifests))

/-! ### Memory and its controllers (file 13) -/

/-- R262, R263, R268, R269, R270, R271, R311: a permitted access of user memory in tier 1, from its requester or through the host's
window, writes its word with its mark and no other, or is answered with the word as the check bits deliver it, corrected and
uncorrectable words counted; a refused one ends as its requester's do and changes no memory. -/
def Obligations.MemoryIsReadAndWritten : Prop := ∀ (s : State) (i : Instr) (rq : Requester) (a : Nat) (wr : Option (Nat × Bool)),
  MemoryInv s → s.lets i → s.accesses i rq a wr = true → a < softEnd → s.granuleHeld a = false →
  (∀ v poison, wr = some (v, poison) → s.mayAccess rq a true = true →
    Completes i s (fun u =>
      u.dev.word (a / 8) = (if poison then (4, v) else (0, v)) ∧ (∀ w, w ≠ a / 8 → u.dev.word w = s.dev.word w) ∧ Keeps [.dev, .regs] s u))
  ∧ (wr = none → s.mayAccess rq a false = true → (s.dev.word (a / 8)).1 = 0 →
    Completes i s (fun u => u.out = s.out ++ [.completion false (s.dev.raw (a / 8))] ∧ Keeps [.regs, .out] s u))
  ∧ (wr = none → s.mayAccess rq a false = true → (s.dev.word (a / 8)).1 = 1 ∨ (s.dev.word (a / 8)).1 = 2 →
    Completes i s (fun u =>
      OutMsg.completion false (s.dev.word (a / 8)).2 ∈ u.out ∧ u.dev = s.dev
      ∧ u.rd (hbmcPg (stackOf a)) HBMC.CE_CNT = (s.rd (hbmcPg (stackOf a)) HBMC.CE_CNT + 1) % 2 ^ 64
      ∧ u.rd (hbmcPg (stackOf a)) HBMC.UE_CNT = s.rd (hbmcPg (stackOf a)) HBMC.UE_CNT))
  ∧ (wr = none → s.mayAccess rq a false = true → (s.dev.word (a / 8)).1 = 3 →
    Completes i s (fun u =>
      OutMsg.completion true (s.dev.word (a / 8)).2 ∈ u.out ∧ u.dev = s.dev
      ∧ u.rd (hbmcPg (stackOf a)) HBMC.UE_CNT = (s.rd (hbmcPg (stackOf a)) HBMC.UE_CNT + 1) % 2 ^ 64))
  ∧ (s.mayAccess rq a wr.isSome = false →
    (∀ p, rq = .peer p →
      Completes i s (fun u =>
        OutMsg.refusal p ∈ u.out ∧ u.rd (plkPg p) PLK.REFUSED_CNT = (s.rd (plkPg p) PLK.REFUSED_CNT + 1) % 2 ^ 64 ∧ u.dev = s.dev))
    ∧ (∀ f, rq = .bar2 f → wr = none →
      Completes i s (fun u =>
        OutMsg.unsupported ∈ u.out ∧ u.rd (pciePg 0) PCIE.UR_CNT = (s.rd (pciePg 0) PCIE.UR_CNT + 1) % 2 ^ 64 ∧ u.dev = s.dev))
    ∧ (∀ f v, rq = .bar2 f → wr = some v →
      Completes i s (fun u =>
        u.out = s.out ∧ u.rd (pciePg 0) PCIE.UR_CNT = (s.rd (pciePg 0) PCIE.UR_CNT + 1) % 2 ^ 64 ∧ u.dev = s.dev))
    ∧ (rq = .ingestPort →
      Completes i s (fun u => u.rd (pciePg 1) PCIE.UR_CNT = (s.rd (pciePg 1) PCIE.UR_CNT + 1) % 2 ^ 64 ∧ u.dev = s.dev))
    ∧ (∀ c t, rq = .tillerM c t → exec i s = .next (s.send .abort)))

/-- R272, R273, R277, R280, R281, R283: the scrubber's line with nothing wrong moves the position on, with one bit wrong in its
first word it is rewritten corrected and counted; the copy's end puts the spare in the granule's place; the SRAM patrol corrects the
word it meets. A test write stores its word and its check bits as given, a test read shows the raw word, its check bits and what a
read would be given; without TEST_EN both are refused; TEST_EN holds the scrubbers of its hub's stacks; RMAP_SEL shows a spare. -/
def Obligations.ControllersScrubRetireAndTest : Prop :=
  (∀ (s : State) (st l : Nat), MemoryInv s →
    (s.lets (.scrubLine st) → s.rdB (hbmcPg st) HBMC.CTRL_SCRUB_EN = true → s.held st = false → s.rdA (hbmcPg st) HBMC.SCRUB_POS_POS = l →
      (s.stack st).seekLine l = (l, false) → (∀ j, j < 7 → s.dev.chkAt (s.dataAddr st l / 8 + (j + 1)) = 0) →
      mget (s.stack st).tracker 0 (l / 2 ^ 20) + 1 < max 1 (s.rd (hbmcPg st) HBMC.CTRL_CE_THRESH) →
      (s.dev.chkAt (s.dataAddr st l / 8) = 0 →
        Completes (.scrubLine st) s (fun u =>
          u.rdA (hbmcPg st) HBMC.SCRUB_POS_POS = ((s.stack st).seekLine (l + 64)).1 ∧ u.dev = s.dev
          ∧ u.rd (hbmcPg st) HBMC.SCRUB_FIX_CNT = s.rd (hbmcPg st) HBMC.SCRUB_FIX_CNT))
      ∧ ((s.dev.word (s.dataAddr st l / 8)).1 = 1 ∨ (s.dev.word (s.dataAddr st l / 8)).1 = 2 →
        Completes (.scrubLine st) s (fun u =>
          u.dev.word (s.dataAddr st l / 8) = (0, (s.dev.word (s.dataAddr st l / 8)).2)
          ∧ (∀ w, w ≠ s.dataAddr st l / 8 → u.dev.word w = s.dev.word w)
          ∧ u.rd (hbmcPg st) HBMC.SCRUB_FIX_CNT = (s.rd (hbmcPg st) HBMC.SCRUB_FIX_CNT + 1) % 2 ^ 64)))
    ∧ (∀ g sp, s.lets (.retireCopyDone st) → (s.stack st).copying = some (g, sp) → (s.stack st).queue = [] → (s.stack st).heldAcc = [] →
      Completes (.retireCopyDone st) s (fun u =>
        u.stack st = { s.stack st with remap := mput (s.stack st).remap sp g, copying := none, tracker := mdel (s.stack st).tracker g }
        ∧ u.rd (hbmcPg st) HBMC.STAT_COPYING = 0 ∧ mget u.sec.remaps [] st = mput (s.stack st).remap sp g))
    ∧ (∀ c word, s.lets (.sramPatrol c word) →
      ((s.cstore.word (csBase c / 8 + word)).1 = 0 → exec (.sramPatrol c word) s = .next s)
      ∧ ((s.cstore.word (csBase c / 8 + word)).1 = 1 ∨ (s.cstore.word (csBase c / 8 + word)).1 = 2 →
        Completes (.sramPatrol c word) s (fun u =>
          u.cstore.word (csBase c / 8 + word) = (0, (s.cstore.word (csBase c / 8 + word)).2)
          ∧ (∀ w, w ≠ csBase c / 8 + word → u.cstore.word w = s.cstore.word w)
          ∧ u.rd (eccPg (c / 4)) ECC.SRAM_CE_CNT = (s.rd (eccPg (c / 4)) ECC.SRAM_CE_CNT + 1) % 2 ^ 64))))
  ∧ (∀ (s : State) (d : Nat),
    (∀ a, isHub d = true → s.rdB (eccPg d) ECC.CTRL_TEST_EN = true → s.testTarget d (s.rdA (eccPg d) ECC.TADDR_ADDR) = some a → a < tier1End →
      MemoryInv s →
      (s.lets (.eccTestWrite d) →
        Completes (.eccTestWrite d) s (fun u =>
          u.dev.raw (a / 8) = s.rd (eccPg d) ECC.TDATA
          ∧ u.dev.chkAt (a / 8) = checkBits (s.rd (eccPg d) ECC.TDATA) ^^^ s.rd (eccPg d) ECC.TCTRL_TCHECK
          ∧ u.rd (eccPg d) ECC.TRESULT_OUTCOME = 0))
      ∧ (s.lets (.eccTestRead d) →
        Completes (.eccTestRead d) s (fun u =>
          u.rd (eccPg d) ECC.TREAD_DATA = s.dev.raw (a / 8) ∧ u.rd (eccPg d) ECC.TRESULT_SYNDROME = s.dev.chkAt (a / 8) % 256
          ∧ u.rd (eccPg d) ECC.TRESULT_RCHECK = (checkBits (s.dev.raw (a / 8)) ^^^ s.dev.chkAt (a / 8)) % 256
          ∧ u.rd (eccPg d) ECC.TRESULT_OUTCOME = (decode72 (s.dev.raw (a / 8)) (s.dev.chkAt (a / 8))).1 ∧ u.dev = s.dev)))
    ∧ (∀ i, i = .eccTestWrite d ∨ i = .eccTestRead d → s.lets i → isHub d = true → s.rdB (eccPg d) ECC.CTRL_TEST_EN = false →
      Completes i s (fun u => u.rd (eccPg d) ECC.TRESULT_OUTCOME = 5 ∧ u.dev = s.dev))
    ∧ (∀ v, s.lets (.eccTestEnWrite d v) → isHub d = true → (∀ j, j < 3 → (s.stack (3 * hubOrd d + j)).queue = []) →
      Completes (.eccTestEnWrite d v) s (fun u =>
        u.rd (eccPg d) ECC.CTRL_TEST_EN = toBit v ∧ u.rd (eccPg d) ECC.STAT_TEST_ACTIVE = toBit v
        ∧ (∀ j, j < 3 → u.rd (hbmcPg (3 * hubOrd d + j)) HBMC.STAT_SCRUB_HELD = toBit v) ∧ Keeps [.regs] s u))
    ∧ (∀ st v, s.lets (.rmapSel st v) →
      Completes (.rmapSel st v) s (fun u =>
        u.rd (hbmcPg st) HBMC.RMAP_SEL_SPARE = v % 2048
        ∧ u.rd (hbmcPg st) HBMC.RMAP_VIEW_VALID = toBit (mfind (s.stack st).remap (v % 2048)).isSome
        ∧ u.rd (hbmcPg st) HBMC.RMAP_VIEW_GRANULE = ((mfind (s.stack st).remap (v % 2048)).getD 0) % 2 ^ 17
        ∧ PagesKept [hbmcPg st] s u ∧ Keeps [.regs] s u)))

/-! ### Mesh and control networks (file 14) -/

/-- R284 to R289: retraining holds a link at both ends; its success clears that, its failure takes both ends down with a record
each, and routes by the link go to their alternative or become unreachable; a repaired lane is recorded; a ROUTE write gives an
entry. -/
def Obligations.LinksAndRoutes : Prop := ∀ (s : State) (d p : Nat),
  (∀ e, s.lets (.linkRetrain d p) → s.portUp d p = true → neighbour d p = some e →
    Completes (.linkRetrain d p) s (fun u =>
      p ∈ (u.die d).retraining ∧ (p + 2) % 4 ∈ (u.die e).retraining ∧ AgreeOff [d, e] s.dies u.dies ∧ Keeps [.dies] s u))
  ∧ (∀ e, s.lets (.retrainEnd d p true) → (s.die d).retraining.contains p = true → neighbour d p = some e →
    Completes (.retrainEnd d p true) s (fun u =>
      (u.die d).retraining = (s.die d).retraining.filter (fun q => q != p)
      ∧ (u.die e).retraining = (s.die e).retraining.filter (fun q => q != (p + 2) % 4) ∧ Keeps [.dies] s u))
  ∧ (∀ e, s.lets (.retrainEnd d p false) → (s.die d).retraining.contains p = true → neighbour d p = some e →
    s.detours d p = true → s.detours e ((p + 2) % 4) = true →
    Completes (.retrainEnd d p false) s (fun u =>
      u.portUp d p = false ∧ u.portUp e ((p + 2) % 4) = false
      ∧ (∀ q < 4, q ≠ p → u.portUp d q = s.portUp d q)
      ∧ (∀ dst < 40, dst ≠ d → s.rd (meshPg d) (MESH.ROUTE_PRIMARY dst) = p →
          u.rdB (meshPg d) (MESH.ROUTE_UNREACHABLE dst) = true
          ∨ (u.rdB (meshPg d) (MESH.ROUTE_ALT_VALID dst) = true ∧ u.portUp d (u.rd (meshPg d) (MESH.ROUTE_ALT dst)) = true))))
  ∧ (s.lets (.laneRepair d p) → s.portUp d p = true →
    Completes (.laneRepair d p) s (fun u =>
      (u.rd (meshPg d) HDR.IRQ_STAT).testBit 1 = true ∧ (∀ q < 4, u.portUp d q = s.portUp d q) ∧ u.dev = s.dev ∧ u.cores = s.cores))
  ∧ (∀ dst v, s.lets (.routeWrite d dst v) → d ≠ dst → s.portUp d (field v 0 2) = true →
    Completes (.routeWrite d dst v) s (fun u =>
      u.rd (meshPg d) (MESH.ROUTE_PRIMARY dst) = field v 0 2 ∧ u.rd (meshPg d) (MESH.ROUTE_ALT dst) = field v 4 2
      ∧ u.rd (meshPg d) (MESH.ROUTE_ALT_VALID dst) = toBit (bit v 6) ∧ u.rd (meshPg d) (MESH.ROUTE_UNREACHABLE dst) = toBit (bit v 7)
      ∧ PagesKept [meshPg d] s u ∧ Keeps [.regs] s u))

/-- R178, R293, R294, R307: an add message raises its semaphore, saturating at 0xFFFF, and queued claims are then granted in order;
a claim joins the queue; a grant satisfies its core's queue head, or is given back by a core that has withdrawn; a halted core's
withdrawals take its queued claim away; SEM_SEL selects, SEM_VIEW sets a semaphore. -/
def Obligations.SemaphoresAndClaims : Prop := ∀ (s : State) (sem n who : Nat),
  (s.lets (.awnAdd sem n) → (sem, n) ∈ s.awn.adds →
    Completes (.awnAdd sem n) s (fun u =>
      (u.awn.value, u.awn.claims, u.awn.grants)
        = (let g := grantScan (mput s.awn.value sem (min (s.globalSem sem + n) 0xFFFF)) [] s.awn.claims; (g.1, g.2.1, s.awn.grants ++ g.2.2))
      ∧ u.awn.adds.length + 1 = s.awn.adds.length ∧ u.awn.sent = s.awn.sent
      ∧ u.rd syncPg SYNC.SIGNAL_CNT = (s.rd syncPg SYNC.SIGNAL_CNT + 1) % 2 ^ 64
      ∧ u.rd syncPg SYNC.SAT_CNT = (s.rd syncPg SYNC.SAT_CNT + (if 0xFFFF < s.globalSem sem + n then 1 else 0)) % 2 ^ 64))
  ∧ (s.lets (.awnClaim who sem n) → (⟨who, sem, n⟩ : Claim) ∈ s.awn.sent →
    Completes (.awnClaim who sem n) s (fun u =>
      (u.awn.value, u.awn.claims, u.awn.grants)
        = (let g := grantScan s.awn.value [] (s.awn.claims ++ [⟨who, sem, n⟩]); (g.1, g.2.1, s.awn.grants ++ g.2.2))
      ∧ u.awn.sent.length + 1 = s.awn.sent.length ∧ u.awn.adds = s.awn.adds))
  ∧ (s.lets (.awnGrant who) → s.awn.grants.map (fun g => (g.who, g.sem, g.count)) = [(who, sem, n)] → who < 4096 → s.awn.withdrawn.contains who = true →
    Completes (.awnGrant who) s (fun u =>
      u.awn.grants = [] ∧ u.awn.adds = s.awn.adds ++ [(sem, n)] ∧ u.awn.withdrawn.length + 1 = s.awn.withdrawn.length ∧ Keeps [.awn] s u))
  ∧ (∀ q, s.lets (.awnGrant (who * 16 + q)) → q < 9 → who < 256 → s.awn.grants = [⟨who * 16 + q, sem, n⟩] → s.awn.withdrawn = [] →
    (s.core who).buf = [] →
    Completes (.awnGrant (who * 16 + q)) s (fun u =>
      u.awn.grants = [] ∧ mfind (u.core who).claims q = some .granted ∧ u.awn.value = s.awn.value ∧ u.regs = s.regs))
  ∧ (s.lets (.claimWithdraw who) → s.awn.withdrawn = [who * 16] → s.awn.sent = [] → s.awn.grants = [] → s.awn.claims = [⟨who * 16, sem, n⟩] →
    exec (.claimWithdraw who) s = .next { s with awn := { s.awn with withdrawn := [], claims := [] } })
  ∧ (s.lets (.semSel n) → 0x400 ≤ n % 2048 → exec (.semSel n) s = .next (s.wr syncPg SYNC.SEM_SEL_SEM n))
  ∧ (s.lets (.semSel n) → n % 2048 < 0x400 → exec (.semSel n) s = .next (s.refuse syncPg))
  ∧ (s.lets (.semViewWrite n) →
    Completes (.semViewWrite n) s (fun u =>
      (u.awn.value, u.awn.claims, u.awn.grants)
        = (let g := grantScan (mput s.awn.value (s.rd syncPg SYNC.SEM_SEL_SEM) (n % 65536)) [] s.awn.claims; (g.1, g.2.1, s.awn.grants ++ g.2.2))
      ∧ u.awn.adds = s.awn.adds ∧ u.awn.sent = s.awn.sent))

/-- R156, R183, R227, R228, R295: a step that waits starts once its cores have room: its semaphores are zeroed, its start records go
to its cores, the sums of the step before close, and a step with draft rounds claims its grant; it waits while a core has none;
zeroing the system clock restarts the time base. -/
def Obligations.StepsStartTogether : Prop := ∀ (s : State) (n : Nat) (x : StepS), s.stepRec n = some x →
  (s.lets (.stepStartBroadcast n) → x.phase = 0 → x.cores.all (fun k => s.coreRoom k.1) = false → exec (.stepStartBroadcast n) s = .next s)
  ∧ (s.lets (.stepStartBroadcast n) → s.srv.steps = [x] → s.ingest.jobs = [] → s.flt.migs = [] → x.phase = 0 → x.cores.all (fun k => s.coreRoom k.1) = true →
    s.awn.claims = [] →
    Completes (.stepStartBroadcast n) s (fun u =>
      u.srv.lastStart = n ∧ (∃ y ∈ u.srv.steps, y.step = n ∧ y.phase = 1 ∧ y.at0 = s.now ∧ y.cores = x.cores)
      ∧ (∀ i < x.gsemN, u.globalSem (x.gsemBase + i) = 0)
      ∧ u.rd srvPg SRV.STEP_CNT = (s.rd srvPg SRV.STEP_CNT + 1) % 2 ^ 64
      ∧ u.rd syncPg SYNC.BCAST_CNT = (s.rd syncPg SYNC.BCAST_CNT + 1) % 2 ^ 64
      ∧ u.awn.sent = (if x.rounds = 0 then s.awn.sent else s.awn.sent ++ [⟨claimOf x.model, x.gsemBase + x.draftSem, x.cores.length⟩])
      ∧ (s.srv.lastStart ≠ 0 → u.srv.sums = s.srv.sums ++ [⟨s.srv.lastStart, .zero, []⟩])
      ∧ (∀ v ∈ x.unsent, x.unsent.length = 1 → s.coreRoom v.1 = true → OutMsg.startRec v.1 v.2 ∈ u.out)))
  ∧ (s.lets .sclkZero →
    Completes .sclkZero s (fun u =>
      u.sclk0 = s.now ∧ u.rd syncPg SYNC.BCAST_CNT = (s.rd syncPg SYNC.BCAST_CNT + 1) % 2 ^ 64 ∧ PagesKept [syncPg] s u ∧ Keeps [.sclk0, .regs] s u))

/-! ### Peer links and remote copies (file 14) -/

/-- R297, R298, R300, R262, R263: a port's training begins, ends up with at most one lane in the spare's place, up and degraded down
to 8 lanes, or down; a lane that fails once up takes the spare, then degrades or downs the port; flits that replay cannot deliver
down it. -/
def Obligations.PeerPortsTrainAndFail : Prop := ∀ (s : State) (p : Nat), (∀ h < 4, s.copies h = []) →
  (s.lets (.plkTrain p false) →
    Completes (.plkTrain p false) s (fun u =>
      u.rd (plkPg p) PLK.CTRL_ENABLE = 1 ∧ u.rd (plkPg p) PLK.STAT_STATE = 1 ∧ u.port p = { s.port p with locked := true, badLanes := [] }
      ∧ PagesKept [plkPg p] s u ∧ Keeps [.regs, .ports] s u))
  ∧ (s.lets (.plkTrain p true) →
    Completes (.plkTrain p true) s (fun u =>
      u.rd (plkPg p) PLK.STAT_STATE = 1 ∧ u.port p = { s.port p with badLanes := [] } ∧ u.rd (plkPg p) PLK.CTRL_ENABLE = s.rd (plkPg p) PLK.CTRL_ENABLE
      ∧ PagesKept [plkPg p] s u ∧ Keeps [.regs, .ports] s u))
  ∧ (∀ bad versions peer peerPort, s.lets (.plkTrainDone p bad versions peer peerPort) → s.rd (plkPg p) PLK.STAT_STATE = 1 →
    ((bitsOf bad 17).length ≤ 9 → versions &&& s.rd (plkPg p) PLK.CAP_VERSIONS ≠ 0 →
      Completes (.plkTrainDone p bad versions peer peerPort) s (fun u =>
        u.rd (plkPg p) PLK.STAT_STATE = (if (bitsOf bad 17).length < 2 then 2 else 3)
        ∧ u.rd (plkPg p) PLK.STAT_VERSION = (versions &&& s.rd (plkPg p) PLK.CAP_VERSIONS).log2 % 16
        ∧ u.rd (plkPg p) PLK.STAT_PEER_ID = peer ∧ u.rd (plkPg p) PLK.STAT_PEER_PORT = peerPort ∧ (u.port p).badLanes = bitsOf bad 17))
    ∧ (9 < (bitsOf bad 17).length ∨ versions &&& s.rd (plkPg p) PLK.CAP_VERSIONS = 0 →
      Completes (.plkTrainDone p bad versions peer peerPort) s (fun u => u.rd (plkPg p) PLK.STAT_STATE = 0 ∧ (u.port p).badLanes = bitsOf bad 17)))
  ∧ (∀ lane, s.lets (.plkLaneError p lane) → s.plkUp p = true →
    ((s.port p).badLanes = [] → lane < 16 →
      Completes (.plkLaneError p lane) s (fun u =>
        u.rd (plkPg p) PLK.STAT_SPARE_FOR = lane ∧ (u.port p).badLanes = [lane] ∧ u.rd (plkPg p) PLK.STAT_STATE = s.rd (plkPg p) PLK.STAT_STATE))
    ∧ ((s.port p).badLanes = [] → lane = 16 →
      Completes (.plkLaneError p lane) s (fun u => u.port p = { s.port p with badLanes := [16] } ∧ Keeps [.ports] s u))
    ∧ ((s.port p).badLanes ≠ [] → (s.port p).badLanes.contains lane = false →
      Completes (.plkLaneError p lane) s (fun u =>
        u.rd (plkPg p) PLK.STAT_STATE = (if (s.port p).badLanes.length < 9 then 3 else 0) ∧ (u.port p).badLanes = (s.port p).badLanes ++ [lane]))
    ∧ ((s.port p).badLanes.contains lane = true → exec (.plkLaneError p lane) s = .next s))
  ∧ (s.lets (.plkReplayFailure p) → s.plkUp p = true →
    Completes (.plkReplayFailure p) s (fun u => u.rd (plkPg p) PLK.STAT_STATE = 0 ∧ u.port p = s.port p ∧ u.dev = s.dev))

/-- R262, R263, R300, R301, R302, R304: a peer's read inside its windows is answered with the bytes and their marks, its write
stores those bytes and no other; outside the windows it is refused, counted and changes no memory. With its doorbell granted, the
copy engine takes the descriptor at its ring's head: it reads or writes its peer, or the copy fails; a copy's end leaves its data
and STATUS 1 and its signal, a refusal STATUS 2, the count and the signal. -/
def Obligations.PeerRequestsAndRemoteCopies : Prop :=
  (∀ (s : State) (p a : Nat), MemoryInv s → s.plkUp p = true →
    (s.lets (.peerInbound p a none) → s.peerMay p a 64 false = true → s.dev.chk = [] →
      Completes (.peerInbound p a none) s (fun u =>
        OutMsg.peerData p (s.devRead a 64) [] ∈ u.out ∧ u.dev = s.dev
        ∧ (a < tier1End → u.rd (plkPg p) PLK.TX_BYTES = (s.rd (plkPg p) PLK.TX_BYTES + 64) % 2 ^ 64)))
    ∧ (∀ l, s.lets (.peerInbound p a (some (l, []))) → s.peerMay p a l.length true = true → l ≠ [] → a + l.length ≤ softEnd →
      Completes (.peerInbound p a (some (l, []))) s (fun u =>
        (∀ i < l.length, u.dev.byte (a + i) = l.getD i 0) ∧ (∀ b, b < a ∨ a + l.length ≤ b → u.dev.byte b = s.dev.byte b)
        ∧ u.rd (plkPg p) PLK.RX_BYTES = (s.rd (plkPg p) PLK.RX_BYTES + l.length) % 2 ^ 64 ∧ PagesKept [plkPg p] s u ∧ Keeps [.dev, .regs] s u))
    ∧ (∀ l bad, s.lets (.peerInbound p a (some (l, bad))) → s.peerMay p a l.length true = false → l ≠ [] →
      Completes (.peerInbound p a (some (l, bad))) s (fun u =>
        u.dev = s.dev ∧ OutMsg.refusal p ∈ u.out ∧ u.rd (plkPg p) PLK.REFUSED_CNT = (s.rd (plkPg p) PLK.REFUSED_CNT + 1) % 2 ^ 64)))
  ∧ (∀ (s : State) (h : Nat) (l : List Byte), MemoryInv s →
    (∀ r, s.lets (.rcopyStart h) → s.rdB (rcPg h) PLK.RC_CFG_ENABLE = true → s.rd (rcPg h) PLK.RC_CFG_ENTRIES ≠ 0 → s.copies h = [] →
      s.awn.grants = [⟨4096 + h, s.rd (rcPg h) PLK.RC_CFG_DOORBELL_SEM, 1⟩] →
      l = s.devRead (s.rcAddr h (s.rd (rcPg h) PLK.RC_HEAD_HEAD % s.rd (rcPg h) PLK.RC_CFG_ENTRIES)) 64 → s.dev.chk = [] →
      s.rcAddr h (s.rd (rcPg h) PLK.RC_HEAD_HEAD % s.rd (rcPg h) PLK.RC_CFG_ENTRIES) + 64 ≤ softEnd →
      r = rcopyOf (s.rd (rcPg h) PLK.RC_HEAD_HEAD % s.rd (rcPg h) PLK.RC_CFG_ENTRIES) l →
      (rcFieldsOk r l = true → s.rcMay r.loc (64 * r.len64) = true → s.peerUp h r.peer ≠ [] →
        Completes (.rcopyStart h) s (fun u =>
          u.copies h = [r] ∧ u.awn.grants = [] ∧ u.awn.sent = s.awn.sent ++ [⟨4096 + h, s.rd (rcPg h) PLK.RC_CFG_DOORBELL_SEM, 1⟩]
          ∧ u.rd (rcPg h) PLK.RC_HEAD_HEAD
            = (s.rd (rcPg h) PLK.RC_HEAD_HEAD % s.rd (rcPg h) PLK.RC_CFG_ENTRIES + 1) % s.rd (rcPg h) PLK.RC_CFG_ENTRIES % 2 ^ 12
          ∧ (r.op = 1 → OutMsg.remoteRead r.peer r.remote (64 * r.len64) ∈ u.out)
          ∧ (r.op = 2 → OutMsg.remoteWrite r.peer r.remote (s.devRead r.loc (64 * r.len64)) [] ∈ u.out) ∧ u.dev = s.dev))
      ∧ (rcFieldsOk r l = true → s.rcMay r.loc (64 * r.len64) = true → s.peerUp h r.peer = [] →
        Completes (.rcopyStart h) s (fun u =>
          u.copies h = [] ∧ u.awn.grants = [] ∧ u.awn.adds = s.awn.adds ++ [(r.sigSem, r.sigCnt)]
          ∧ u.rd (rcPg h) PLK.RC_FAIL_CNT = (s.rd (rcPg h) PLK.RC_FAIL_CNT + 1) % 2 ^ 64)))
    ∧ (∀ k r, s.copies h = [r] → k = 0 → rcSigOk r = true → s.rcAddr h r.idx + 64 ≤ softEnd → r.loc % 64 = 0 →
      (s.lets (.rcopyDone h k none) →
        Completes (.rcopyDone h k none) s (fun u =>
          u.copies h = [] ∧ u.dev.byte (s.rcAddr h r.idx + 2) = 2 ∧ u.awn.adds = s.awn.adds ++ [(r.sigSem, r.sigCnt)]
          ∧ (r.op = 1 → rcLocOk r = true → s.rcMay r.loc (64 * r.len64) = true → ∀ i < 8 * r.len64, u.dev.wordBad (r.loc / 8 + i) = true)
          ∧ u.rd (rcPg h) PLK.RC_FAIL_CNT = (s.rd (rcPg h) PLK.RC_FAIL_CNT + 1) % 2 ^ 64))
      ∧ (∀ bad, s.lets (.rcopyDone h k (some (l, bad))) → r.op = 2 →
        Completes (.rcopyDone h k (some (l, bad))) s (fun u =>
          u.copies h = [] ∧ u.dev.byte (s.rcAddr h r.idx + 2) = 1 ∧ u.awn.adds = s.awn.adds ++ [(r.sigSem, r.sigCnt)]
          ∧ (∀ b, b ≠ s.rcAddr h r.idx + 2 → u.dev.byte b = s.dev.byte b)
          ∧ u.rd (rcPg h) PLK.RC_CNT = (s.rd (rcPg h) PLK.RC_CNT + 1) % 2 ^ 64))
      ∧ (s.lets (.rcopyDone h k (some (l, []))) → r.op = 1 → l.length = 64 * r.len64 → r.loc + l.length ≤ softEnd →
        Completes (.rcopyDone h k (some (l, []))) s (fun u =>
          u.copies h = [] ∧ u.dev.byte (s.rcAddr h r.idx + 2) = 1 ∧ u.awn.adds = s.awn.adds ++ [(r.sigSem, r.sigCnt)]
          ∧ (∀ i < l.length, r.loc + i ≠ s.rcAddr h r.idx + 2 → u.dev.byte (r.loc + i) = l.getD i 0)
          ∧ (∀ b, b ≠ s.rcAddr h r.idx + 2 → b < r.loc ∨ r.loc + l.length ≤ b → u.dev.byte b = s.dev.byte b)
          ∧ u.rd (rcPg h) PLK.RC_CNT = (s.rd (rcPg h) PLK.RC_CNT + 1) % 2 ^ 64))))

/-! ### Host and board interfaces (file 15) -/

/-- R312, R313, R314, R316, R337: a link that trains shows its width and rate, and configuration requests are answered with Retry
Status until CFG_READY; a link that goes down shows none, the host's ends every function; a function's reset ends its sequences
without records and returns its window to reset, and no other. -/
def Obligations.LinksComeUpAndGoDown : Prop := ∀ (s : State),
  (∀ i width rate, s.lets (.pcieLinkUp i width rate) → s.power.pwrgood = true →
    (if i = 0 then s.power.perstHost || s.power.hostUp else s.power.perstIngest || s.power.ingestUp) = false →
    Completes (.pcieLinkUp i width rate) s (fun u =>
      u.rd (pciePg i) PCIE.STAT_WIDTH = width ∧ u.rd (pciePg i) PCIE.STAT_RATE = rate
      ∧ (i = 0 → u.power = { s.power with hostUp := true }) ∧ (i = 1 → u.power = { s.power with ingestUp := true })
      ∧ (s.power.ended.contains 4 = true → u.rd (pciePg i) PCIE.STAT_CFG_READY = 1) ∧ Keeps [.regs, .power] s u))
  ∧ (∀ i, s.lets (.configRequest i) → (if i = 0 then s.power.hostUp else s.power.ingestUp) = true →
    exec (.configRequest i) s = .next (s.send (if s.rdB (pciePg i) PCIE.STAT_CFG_READY then .configOk else .crs)))
  ∧ (s.lets .ingestLinkDown → s.power.ingestUp = true →
    Completes .ingestLinkDown s (fun u =>
      u.power = { s.power with ingestUp := false } ∧ u.rd (pciePg 1) PCIE.STAT_RATE = 0 ∧ u.rd (pciePg 1) PCIE.STAT_WIDTH = 0
      ∧ u.ingest = s.ingest ∧ u.srv = s.srv))
  ∧ (s.lets .hostLinkDown → s.power.hostUp = true → s.srv.seqs = [] → s.srv.held = [] → s.srv.failed = [] →
    Completes .hostLinkDown s (fun u =>
      u.power.hostUp = false ∧ u.rd (pciePg 0) PCIE.STAT_RATE = 0 ∧ u.rd (pciePg 0) PCIE.STAT_WIDTH = 0
      ∧ (∀ f < 64, ∀ k, k / 32768 = fnPg f → mfind u.regs k = none) ∧ (∀ f < 64, u.fnx f = FnX.init)))
  ∧ (∀ f, s.lets (.flr f) → s.srv.held = [] → s.srv.failed = [] →
    (s.srv.seqs = [] →
      Completes (.flr f) s (fun u =>
        (∀ g < 64, f = 0 ∨ g = f → (∀ k, k / 32768 = fnPg g → mfind u.regs k = none) ∧ u.fnx g = FnX.init)
        ∧ (f ≠ 0 → ∀ g < 64, g ≠ f → u.fnx g = s.fnx g ∧ ∀ k, k / 32768 = fnPg g → mfind u.regs k = mfind s.regs k)
        ∧ u.rd (pciePg 0) PCIE.FLR_CNT = (s.rd (pciePg 0) PCIE.FLR_CNT + 1) % 2 ^ 64))
    ∧ (∀ k, f ≠ 0 → s.liveSlots.filter (fun k => (s.seq k).fn == f) = [k] → s.slotPages k = [] →
      Completes (.flr f) s (fun u => (u.seq k).state = 7 ∧ (u.seq k).endCode = 5)))

/-- R317, R318, R320, R321, R322, R378, R381, R382: a time dialogue stores the host's and the system's time as a pair, and a read of
the one latches the other; a stream whose integrity fails is Insecure from then on; a CXL port that goes down shows it and takes its
memory out of service. A management message is answered, supported types but where no firmware could be booted; an SPDM request is
answered by its identity's state and puts a stream's keys in place; a JTAG instruction the lock forbids selects BYPASS. -/
def Obligations.TimeStreamsCxlAndManagement : Prop :=
  (∀ (s : State),
    (∀ ns, s.lets (.ptmDialogue ns) → s.rdB (pciePg 0) PCIE.PTM_CTRL_ENABLE = true → s.power.hostUp = true →
      Completes (.ptmDialogue ns) s (fun u =>
        u.rd (pciePg 0) PCIE.PTM_HOST = ns ∧ u.rd (pciePg 0) PCIE.PTM_SCLK = s.sclk % 2 ^ 64 ∧ u.rd (pciePg 0) PCIE.PTM_CTRL_VALID = 1
        ∧ u.power = { s.power with ptm := some (ns, s.sclk) } ∧ PagesKept [pciePg 0] s u ∧ Keeps [.regs, .power] s u))
    ∧ (s.lets .ptmHostRead →
      exec .ptmHostRead s = .next
        ({ s with
            power := { s.power with ptmShadow := some (s.rd (pciePg 0) PCIE.PTM_SCLK) },
            out := s.out ++ [.readValue (s.rd (pciePg 0) PCIE.PTM_HOST)] }))
    ∧ (∀ i k, s.lets (.ideFail i k) → s.power.ideBad.contains (8 * i + k) = false →
      Completes (.ideFail i k) s (fun u =>
        u.power = { s.power with ideBad := s.power.ideBad ++ [8 * i + k] } ∧ u.ide i (some k) = .dropped
        ∧ u.rd (pciePg i) PCIE.IDE_FAIL_CNT = (s.rd (pciePg i) PCIE.IDE_FAIL_CNT + 1) % 2 ^ 64))
    ∧ (∀ h, s.lets (.cxlDown h) → s.rdB (cxlPg h) CXL.STAT_UP = true → s.rdB (eccPg 10) ECC.STAT_T2_INTLV = false →
      Completes (.cxlDown h) s (fun u =>
        u.rd (cxlPg h) CXL.STAT_UP = 0 ∧ u.rd (cxlPg h) CXL.STAT_DOWN_LATCHED = 1 ∧ u.rd (cxlPg h) CXL.STAT_WIDTH = 0
        ∧ u.rd (cxlPg h) CXL.STAT_RATE = 0 ∧ u.power = { s.power with cxlDown := s.power.cxlDown ++ [h] } ∧ u.dev = s.dev
        ∧ (∀ a, tier2Base ≤ a → a < tier2End → s.t2Port a = h → u.fitted a = false))))
  ∧ (∀ (s : State),
    (∀ typ, s.lets (.mctpRequest typ) →
      exec (.mctpRequest typ) s = .next (s.send (.mctp typ (typ == 0 || typ == 1 || (!s.noImage && (typ == 5 || typ == 6))))))
    ∧ (∀ mgmt op, s.lets (.spdmRequest mgmt op none) →
      exec (.spdmRequest mgmt op none) s = .next (s.send (.spdm op (!s.noImage && (op == 0 || s.sec.idOk)))))
    ∧ (∀ mgmt op k, s.lets (.spdmRequest mgmt op (some k)) → s.noImage = false → op = 0 ∨ s.sec.idOk = true →
      Completes (.spdmRequest mgmt op (some k)) s (fun u =>
        u.out = s.out ++ [.spdm op true] ∧ u.ide (if mgmt then 1 else 0) (some k) = .ok ∧ (∀ x ∈ u.power.ideBad, x ∈ s.power.ideBad)
        ∧ Keeps [.power, .out] s u))
    ∧ (∀ ir, s.lets (.jtagInstruction ir) → ir < 3 ∨ (ir < 6 ∧ s.power.perstHost = true) ∨ (6 ≤ ir ∧ s.rdB cfgPg CFG2P.DEBUG_UNLOCK_EN = true) →
      exec (.jtagInstruction ir) s = .next { s with power := { s.power with jtag := ir } })
    ∧ (∀ ir, s.lets (.jtagInstruction ir) → (3 ≤ ir ∧ ir < 6 ∧ s.power.perstHost = false) ∨ (6 ≤ ir ∧ s.rdB cfgPg CFG2P.DEBUG_UNLOCK_EN = false) →
      Completes (.jtagInstruction ir) s (fun u => u.power = { s.power with jtag := 0 } ∧ u.sec = s.sec)))

/-! ### Registers (files 02, 17, 23) -/

/-- R9, R10, R11, R406, R408: a register write of its width to a page whose registers act through their fields alone gives each rw
field it holds the bits written, where it is writable, changes no field that is read-only or takes two parties, and no field outside
it but the page's error counter; a write of IRQ_SET sets the bits written, and no other, as events would. -/
def Obligations.RegisterWritesFollowTheirCodes : Prop := ∀ (s : State) (p : Nat), s.frozen = false →
  (∀ off w v, s.lets (.registerWrite (4096 * p + off) w v) → off < 4096 → 4096 * p + off < 0x0B000000 →
    blockOf p ∈ [Block.clus, .die, .cxl, .pcie, .fltd, .therm, .clk, .sec, .life] → 0x20 ≤ off → accessOk (blockOf p) off w = true →
    s.domainStopped p off = false →
    (∀ f ∈ (blockOf p).fields, 8 * off ≤ 8 * f.off + f.lsb → 8 * f.off + f.lsb + f.width ≤ 8 * (off + w) →
      Completes (.registerWrite (4096 * p + off) w v) s (fun u =>
        (f.acc = .rw → absent p f = false → u.rd p f = field v (8 * f.off + f.lsb - 8 * off) f.width)
        ∧ (f.acc = .r ∨ f.acc = .rw2p ∨ absent p f = true → u.rd p f = s.rd p f)
        ∧ (f.acc = .w1s → absent p f = false → u.rd p f = (s.rd p f ||| field v (8 * f.off + f.lsb - 8 * off) f.width) % 2 ^ f.width)))
    ∧ Completes (.registerWrite (4096 * p + off) w v) s (fun u =>
        (∀ f ∈ (blockOf p).fields, fldInside f off w = false → u.rd p f = s.rd p f) ∧ PagesKept [p] s u ∧ Keeps [.regs, .dies] s u))
  ∧ (∀ v, s.lets (.irqSetWrite p v) → hasHeader (blockOf p) = true → blockOf p ≠ .none → blockOf p ≠ .eng → s.domainStopped p 0x18 = false →
    Completes (.irqSetWrite p v) s (fun u =>
      ∀ i < 32, (u.rd p HDR.IRQ_STAT).testBit i
        = ((s.rd p HDR.IRQ_STAT % 2 ^ 32).testBit i || (decide (i < (blockOf p).irqBits) && v.testBit i))))

/-- R331, R332, R336, R408, R412: an access of the wrong width is refused and counted; one that reaches a stopped domain is held;
the watchdog ends the oldest held one with an abort; when the domain's clock runs again a held read is answered, or its data
discarded where the watchdog has ended it. -/
def Obligations.AccessesAreHeldAndReleased : Prop := ∀ (s : State) (p off : Nat), s.frozen = false → off < 4096 → p < 40960 → p ≠ srvPg →
  (∀ w v, s.lets (.registerWrite (4096 * p + off) w v) → 4096 * p + off < 0x0B000000 → blockOf p ≠ .none → accessOk (blockOf p) off w = false →
    Completes (.registerWrite (4096 * p + off) w v) s (fun u =>
      OutMsg.unsupported ∈ u.out ∧ u.rd (errPage p) HDR.ERR_CNT = satAdd 32 (s.rd (errPage p) HDR.ERR_CNT) 1 % 2 ^ 32))
  ∧ (∀ w v, s.lets (.registerWrite (4096 * p + off) w v) → 4096 * p + off < 0x0B000000 → blockOf p ≠ .none → accessOk (blockOf p) off w = true →
    s.domainStopped p off = true → ((s.die (pageDie p)).held.filter (fun h => domainOf h.page == domainOf p)).length < 4 →
    Completes (.registerWrite (4096 * p + off) w v) s (fun u =>
      (u.die (pageDie p)).held = (s.die (pageDie p)).held ++ [⟨p, off, w, some v, false, s.now⟩] ∧ Keeps [.dies] s u))
  ∧ (s.lets (.xingTimeout p) → (∃ h ∈ (s.die (pageDie p)).held, heldBy (domainOf p) h = true ∧ h.ended = false) →
    Completes (.xingTimeout p) s (fun u =>
      OutMsg.abort ∈ u.out ∧ u.rd (clkPg 10) CLK.XING_TMO_CNT = (s.rd (clkPg 10) CLK.XING_TMO_CNT + 1) % 2 ^ 64
      ∧ (u.die (pageDie p)).held.length = (s.die (pageDie p)).held.length))
  ∧ (∀ h, s.lets (.crossingRelease p) → (s.die (pageDie p)).held = [h] → heldBy (domainOf p) h = true → s.domainStopped h.page h.off = false →
    blockOf h.page ∈ [Block.tile, .core, .eng, .attn, .chk] → h.value = none →
    Completes (.crossingRelease p) s (fun u =>
      (u.die (pageDie p)).held = [] ∧ u.out = (if h.ended then s.out else s.out ++ [.readValue (s.regValue h.page h.off h.w)])
      ∧ Keeps [.dies, .out] s u))

/-! ### Clocks, resets and power (files 16, 21, 22) -/

/-- R327, R335, R336, R338: a PLL that loses lock takes its die, and the unassigned cores of a compute die, out of use; a lost
REFCLK is recorded once; a core asserted into reset goes there and its register shows it, unless it is there or its migration comes
first; a released core runs again. -/
def Obligations.ClocksAndCoreResets : Prop := ∀ (s : State) (d c : Nat),
  (s.lets (.pllUnlock d) → (s.die d).lost = false → (isCompute d = true → s.flt.migs = [] ∧ ∀ k < 4, s.logicalOf (4 * d + k) = none) →
    Completes (.pllUnlock d) s (fun u =>
      u.rd (clkPg d) CLK.STAT_PLL_LOCK = 0 ∧ (u.die d).lost = true
      ∧ (isCompute d = true → ∀ k < 4, (u.core (4 * d + k)).retired = true) ∧ u.dev = s.dev ∧ u.srv = s.srv))
  ∧ (s.lets .refclkLoss → s.power.refclkLost = false →
    Completes .refclkLoss s (fun u =>
      u.power = { s.power with refclkLost := true } ∧ u.rd (clkPg 16) CLK.STAT_REFCLK_OK = 0 ∧ PagesKept [clkPg 16] s u
      ∧ Keeps [.regs, .dies, .power] s u))
  ∧ (s.lets .refclkLoss → s.power.refclkLost = true → exec .refclkLoss s = .next s)
  ∧ (∀ preserve, s.lets (.coreRstAssert c preserve) → s.rdB (rstPg (c / 4)) (RST.CORE_RST_ASSERT (c % 4)) = false →
    s.flt.migs.any (fun m => m.source == c) = false → (∀ e < 4, (s.eng c e).rot.phase = .idle) →
    Completes (.coreRstAssert c preserve) s (fun u =>
      (u.core c).resetAt = some s.now ∧ (u.core c).buf = [] ∧ (u.core c).pend = [] ∧ u.rd (corePg c) CORE.STAT_STATE = 0
      ∧ (u.rd (rstPg (c / 4)) RST.STAT_IN_RESET).testBit (c % 4) = true ∧ u.rd (rstPg (c / 4)) (RST.CORE_RST_ASSERT (c % 4)) = 1
      ∧ u.rd (rstPg (c / 4)) RST.CORE_RST_CNT = (s.rd (rstPg (c / 4)) RST.CORE_RST_CNT + 1) % 2 ^ 64))
  ∧ (∀ preserve, s.lets (.coreRstAssert c preserve) → s.rdB (rstPg (c / 4)) (RST.CORE_RST_ASSERT (c % 4)) = false →
    s.flt.migs.any (fun m => m.source == c) = true →
    Completes (.coreRstAssert c preserve) s (fun u =>
      u.core c = { s.core c with resetWaits := true, preserve := preserve } ∧ u.rd (rstPg (c / 4)) (RST.CORE_RST_ASSERT (c % 4)) = 1
      ∧ u.tiles = s.tiles ∧ u.engines = s.engines))
  ∧ (∀ t0, s.lets (.coreRstRelease c) → (s.core c).resetAt = some t0 → s.nothingHeld c = true →
    Completes (.coreRstRelease c) s (fun u =>
      u.core c = { s.core c with resetAt := none } ∧ u.rd (rstPg (c / 4)) (RST.CORE_RST_ASSERT (c % 4)) = 0
      ∧ (u.rd (rstPg (c / 4)) RST.STAT_IN_RESET).testBit (c % 4) = false ∧ u.tiles = s.tiles ∧ Keeps [.regs, .cores] s u))

/-- R314, R333, R361, R391, R392, R423, R424, R428: power that is good, a released PERST# or the management die's request puts the
package in its reset state, with its cause, releases start-up, and keeps memories, event NVM and the flash die; an asserted PERST#
holds it there; the end of power halts it; the ingest port's PERST# takes its link down. -/
def Obligations.PackageResets : Prop := ∀ (s : State),
  (s.lets (.pwrgoodAssert true true) → s.power.pwrgood = false →
    Completes (.pwrgoodAssert true true) s (fun u =>
      u.tiles = [] ∧ u.engines = [] ∧ u.cores = [] ∧ u.srv = State.reset.srv ∧ u.awn = State.reset.awn ∧ u.flt = State.reset.flt
      ∧ u.power.pwrgood = true ∧ u.power.started = true ∧ u.power.running = [0] ∧ u.power.ended = [] ∧ u.power.release = s.now
      ∧ u.nvm = { s.nvm with latched := false } ∧ u.dev = s.dev ∧ u.host = s.host
      ∧ (∀ d < 40, u.rd (rstPg d) RST.LAST_CAUSE_CAUSE = 0) ∧ u.rd (diePage 16) DIE.BOOT_STAT_WARM = 0))
  ∧ (∀ a b, s.lets (.pwrgoodAssert a b) → a = false ∨ b = false ∨ s.power.pwrgood = true → exec (.pwrgoodAssert a b) s = .next s)
  ∧ (s.lets .pwrgoodDeassert → s.power.pwrgood = true →
    Completes .pwrgoodDeassert s (fun u =>
      u.power = { s.power with pwrgood := false, halted := true, hostUp := false, ingestUp := false } ∧ u.nvm = s.nvm ∧ u.sec = s.sec))
  ∧ (∀ i cause, (i, cause) ∈ [(Instr.perstHostAssert, 1), (.warmReset 1, 1), (.warmReset 2, 2)] → s.lets i → s.power.pwrgood = true →
    s.power.halted = false → s.frozen = false → s.power.perstHost = false →
    Completes i s (fun u =>
      u.tiles = [] ∧ u.engines = [] ∧ u.cores = [] ∧ u.srv = State.reset.srv ∧ u.awn = State.reset.awn ∧ u.flt = State.reset.flt
      ∧ u.nvm = s.nvm ∧ u.sec.idOk = s.sec.idOk ∧ u.sec.minSvn = s.sec.minSvn ∧ u.dev = s.dev ∧ u.host = s.host
      ∧ u.power.started = (i != .perstHostAssert) ∧ u.power.warm = (i == .perstHostAssert) ∧ u.power.perstHost = (i == .perstHostAssert)
      ∧ (∀ d < 40, u.rd (rstPg d) RST.LAST_CAUSE_CAUSE = cause) ∧ u.rd (diePage 16) DIE.BOOT_STAT_WARM = 1
      ∧ u.rd fltPg FLT.STAT_LATCHED = toBit s.nvm.latched))
  ∧ (s.lets .perstHostDeassert → s.power.warm = true →
    exec .perstHostDeassert s = .next
      { s with power := { s.power with perstHost := false, started := true, running := [0], ended := [], release := s.now, warm := false } })
  ∧ (s.lets .perstHostDeassert → s.power.warm = false → exec .perstHostDeassert s = .next { s with power := { s.power with perstHost := false } })
  ∧ (∀ v, s.lets (.perstIngest v) → v = false ∨ s.power.ingestUp = false →
    exec (.perstIngest v) s = .next { s with power := { s.power with perstIngest := v } })
  ∧ (s.lets (.perstIngest true) → s.power.ingestUp = true →
    Completes (.perstIngest true) s (fun u =>
      u.power = { s.power with perstIngest := true, ingestUp := false } ∧ u.rd (pciePg 1) PCIE.STAT_RATE = 0
      ∧ u.rd (pciePg 1) PCIE.STAT_WIDTH = 0 ∧ u.tiles = s.tiles ∧ u.cores = s.cores))

/-- R278, R279, R316, R327, R378, R379, R380, R391, R393, R396, R400: start-up's stages end in turn, each beginning the next; stage
0 shows the locked PLLs, stage 2 the identity, stage 3 clears the memories it tests, stage 8 ends once every tile is through, stage
9 makes the device ready; with no image that passes, or no factory record, start-up stops. -/
def Obligations.StartupStagesEnd : Prop := ∀ (s : State) (n : Nat) (r : StageResult),
  s.lets (.startupStageEnd n r) → s.power.started = true → s.power.running = [n] → s.frozen = false →
  (n = 0 →
    Completes (.startupStageEnd n r) s (fun u =>
      (∀ d < 40, u.rd (clkPg d) CLK.STAT_PLL_LOCK = 1) ∧ u.power.running = [1] ∧ u.power.ended = s.power.ended ++ [0]
      ∧ u.rd (diePage 16) DIE.BOOT_STAT_STAGE = 1 ∧ u.rd (diePage 16) (DIE.BOOT_T 0) = ((s.now - s.power.release) / ticksUs) % 2 ^ 32))
  ∧ (n = 1 → r.slotAOk = false → r.slotBOk = false →
    Completes (.startupStageEnd n r) s (fun u => u.power = { s.power with running := [] } ∧ u.sec = s.sec ∧ u.regs = s.regs))
  ∧ (n = 1 → r.slotAOk = true → s.rd secPg SEC.BOOT_PREFER = 0 → s.imagePasses (s.slotImage 0) = true →
    Completes (.startupStageEnd n r) s (fun u =>
      u.rd secPg SEC.STAT_IMAGE = 0 ∧ u.rd secPg SEC.STAT_SVN = (s.slotImage 0).svn % 2 ^ 16 ∧ s.sec.minSvn ≤ u.sec.minSvn
      ∧ u.power.running = [2] ∧ u.power.ended = s.power.ended ++ [1]))
  ∧ (n = 2 →
    Completes (.startupStageEnd n r) s (fun u =>
      u.sec.idOk = (if s.rdB (diePage 16) DIE.BOOT_STAT_WARM then s.sec.idOk else r.keyMatch)
      ∧ u.rd secPg SEC.STAT_ID_OK = toBit u.sec.idOk ∧ u.power.running = [3] ∧ u.power.ended = s.power.ended ++ [2]))
  ∧ (n = 3 → r.failedSrams = [] →
    Completes (.startupStageEnd n r) s (fun u =>
      u.cstore = ⟨[], []⟩ ∧ u.tsram = ⟨[], []⟩ ∧ (∀ d < 40, u.rd (eccPg d) ECC.STAT_SRAM_TEST_DONE = 1) ∧ u.power.running = [4]
      ∧ u.dev = s.dev))
  ∧ (n = 4 → r.factoryOk = false →
    Completes (.startupStageEnd n r) s (fun u => u.power = { s.power with running := [] } ∧ u.sec = s.sec ∧ u.regs = s.regs))
  ∧ (n = 4 → r.factoryOk = true →
    Completes (.startupStageEnd n r) s (fun u =>
      (∀ d < 40, u.rd (diePage d) DIE.STAT_FR_LOADED = 1) ∧ (s.power.hostUp = true → u.rd (pciePg 0) PCIE.STAT_CFG_READY = 1)
      ∧ u.power.running = [5] ∧ u.power.ended = s.power.ended ++ [4]))
  ∧ (n = 5 → r.downLinks = [] →
    Completes (.startupStageEnd n r) s (fun u => u.power = { s.power with running := [6], ended := s.power.ended ++ [5] } ∧ Keeps [.regs, .power] s u))
  ∧ (n = 6 → r.bistFailed = [] →
    Completes (.startupStageEnd n r) s (fun u => u.power.running = [7, 8] ∧ u.power.ended = s.power.ended ++ [6] ∧ u.dev = s.dev))
  ∧ (n = 7 → r.hbmFailed = [] →
    Completes (.startupStageEnd n r) s (fun u =>
      (∀ a, u.dev.byte a = 0 ∨ tier1End ≤ a) ∧ (∀ k < 12, (u.stack k).remap = mget s.sec.remaps [] k)
      ∧ u.power.running = (if s.power.ended.contains 8 then [9] else []) ∧ u.power.ended = s.power.ended ++ [7]))
  ∧ (n = 7 → r.hbmFailed = [0] →
    Completes (.startupStageEnd n r) s (fun u => u.power = { s.power with running := [] } ∧ u.dev = s.dev ∧ u.regs = s.regs))
  ∧ (n = 8 → s.calDone = true → s.power.ended.contains 7 = true →
    Completes (.startupStageEnd n r) s (fun u => u.power = { s.power with running := [9], ended := s.power.ended ++ [8] } ∧ Keeps [.regs, .power] s u))
  ∧ (n = 8 → s.calDone = false → exec (.startupStageEnd n r) s = .next s)
  ∧ (n = 9 →
    Completes (.startupStageEnd n r) s (fun u =>
      u.rd (pciePg 0) PCIE.STAT_DEV_READY = 1 ∧ u.rd (pciePg 1) PCIE.STAT_DEV_READY = 1 ∧ u.rd (diePage 16) DIE.BOOT_STAT_DONE = 1
      ∧ u.power.running = [] ∧ u.power.ended = s.power.ended ++ [9] ∧ u.rd (diePage 16) DIE.BOOT_STAT_STAGE = 9))

/-! ### Housekeeping (file 18) -/

/-- R341, R344, R348, R349, R350, R351, R398, R345, R346, R347: a round's trigger counts and starts every die's scan; its decision
counts on every die and takes the package's power, its mean over the last 16 rounds against the limit moving the power step; a
converter's end latches the code clamped to 12 bits and goes on; a software trigger on the management die reaches every converter,
on another it is refused. At the end of the orderly stop's drain the steps still running are aborted and counted; at the end of its
flush the thermal record with that count goes into event NVM, the trip is asserted and the package halts. -/
def Obligations.HousekeepingAndTheOrderlyStop : Prop :=
  (∀ (s : State) (d : Nat),
    (s.lets .hkRoundTrigger → s.power.ended.contains 4 = true →
      Completes .hkRoundTrigger s (fun u =>
        u.power = { s.power with roundNo := s.power.roundNo + 1 }
        ∧ (∀ k < 40, (s.die k).converting = none → (s.die k).scan = [] → ∀ ch ∈ (bitsOf (s.rd (hkadcPg k) HKADC.SCAN) 32).head?,
            (u.die k).converting = some (ch, false, s.now) ∧ (u.die k).scan = (bitsOf (s.rd (hkadcPg k) HKADC.SCAN) 32).drop 1)
        ∧ (∀ k < 40, (s.die k).converting.isSome = true → (u.die k).scan = (s.die k).scan ++ bitsOf (s.rd (hkadcPg k) HKADC.SCAN) 32)
        ∧ Keeps [.dies, .power] s u))
    ∧ (∀ r, s.lets (.hkDecision r) → s.power.ended.contains 4 = true →
      Completes (.hkDecision r) s (fun u =>
        u.power.powerHist = (s.power.powerHist ++ [r.power]).drop ((s.power.powerHist ++ [r.power]).length - 16) ∧ u.power.roundNo = s.power.roundNo
        ∧ u.dev = s.dev ∧ u.pages = s.pages))
    ∧ (∀ r, s.lets (.hkDecision r) → s.power.ended.contains 4 = true → r.temps = [] → r.rails = [] → r.power < 2 ^ 16 → s.power.powerHist = [] →
      s.power.powerStep = 0 → (∀ k < 40, s.validSensors k = [] ∧ (s.die k).outRounds = [] ∧ (s.die k).railRounds = []) →
      (∀ k < 40, s.rdB (thermPg k) THERM.STAT_SENSOR_LOSS = true ∧ s.rd (thermPg k) THERM.STAT_LEVEL = 1) → s.power.hottest = [] →
      Completes (.hkDecision r) s (fun u =>
        u.rd (thermPg 16) THERM.PKG_POWER_W = r.power
        ∧ u.power.powerStep = (if min (s.rd (thermPg 16) THERM.PWR_LIMIT_W) 1800 < r.power then min s.thrMax 1 else 0)
        ∧ (∀ k < 40, u.rd (thermPg k) THERM.ROUND_CNT = (s.rd (thermPg k) THERM.ROUND_CNT + 1) % 2 ^ 64 ∧ (u.die k).thermStep = s.thrMax)
        ∧ u.power.thermtrip = s.power.thermtrip))
    ∧ (∀ v ch sw t0, s.lets (.hkadcConversionEnd d v) → (s.die d).converting = some (ch, sw, t0) → ch < 32 →
      Completes (.hkadcConversionEnd d v) s (fun u =>
        u.rd (hkadcPg d) HKADC.LAST_CODE = (clampI 0 4095 v).toNat ∧ u.rd (hkadcPg d) HKADC.LAST_CHAN = ch
        ∧ u.rd (hkadcPg d) HKADC.LAST_OVR = toBit (decide (4104 < v)) ∧ u.rd (hkadcPg d) HKADC.LAST_UNDR = toBit (decide (v < -8))
        ∧ u.rd (hkadcPg d) HKADC.CONV_CNT = (s.rd (hkadcPg d) HKADC.CONV_CNT + 1) % 2 ^ 64
        ∧ ((s.die d).scan = [] → (s.die d).swPending = false → (u.die d).converting = none)
        ∧ (∀ next ∈ (s.die d).scan.head?, (u.die d).converting = some (next, false, s.now))))
    ∧ (s.lets (.hkadcSwTrig 16) →
      Completes (.hkadcSwTrig 16) s (fun u =>
        ∀ k < 40, (u.die k).swCount = (s.die k).swCount + 1
          ∧ ((s.die k).converting = none → (s.die k).scan = [] → (u.die k).converting = some (s.rd (hkadcPg k) HKADC.CHSEL_CH, true, s.now))
          ∧ ((s.die k).converting.isSome = true → (u.die k).swPending = true)))
    ∧ (s.lets (.hkadcSwTrig d) → d ≠ 16 → exec (.hkadcSwTrig d) s = .next (s.refuse (hkadcPg d))))
  ∧ (∀ (s : State),
    (s.lets .orderlyDrainEnd → s.power.orderly = 1 →
      Completes .orderlyDrainEnd s (fun u =>
        u.power = { s.power with orderly := 2, aborted := s.srv.steps.length } ∧ u.nvm = s.nvm ∧ u.dev = s.dev ∧ u.flt = s.flt))
    ∧ (s.lets .orderlyFlushEnd → s.power.orderly = 2 → s.srv.fns = [] → s.flt.wire = [] →
      (∀ d < 40, (s.die d).sources = [] ∧ (s.die d).buffer = []) →
      Completes .orderlyFlushEnd s (fun u =>
        u.power = { s.power with thermtrip := true, halted := true, orderly := 0 }
        ∧ mget u.nvm.thermal [] (s.nvm.thermalN % 64)
            = s.power.tripRec.take 19 ++ [byteOf (min s.power.aborted 255)] ++ s.power.tripRec.drop 20
        ∧ u.nvm.thermalN = s.nvm.thermalN + 1
        ∧ (∀ c ∈ allCores, s.coreStopped c = false → u.rd (corePg c) CORE.STAT_STATE ≠ 1) ∧ OutMsg.errFatal ∈ u.out)))

/-! ### Faults (file 17) -/

/-- R355, R357: a die's collector takes the oldest record at its sources: a U or F record goes on at once, a C record is merged with
its like, buffered, or dropped where 56 entries are used; the oldest buffered one goes on; a stuck class line, or a wait with room,
makes its source a polled one and is recorded once, and a poll takes that source's record. -/
def Obligations.CollectorsTakeRecords : Prop := ∀ (s : State) (d page : Nat),
  (∀ r, (s.die d).sources = [r] → r.die = d →
    (∀ i, (i = .faultRecord d ∧ r.polled = false) ∨ (i = .recordPoll d page ∧ r.polled = true ∧ recFrom page r = true) → s.lets i →
      (r.cls ≠ 0 → s.bufUsed d < 64 →
        Completes i s (fun u =>
          u.flt = { s.flt with wire := s.flt.wire ++ [r] } ∧ (u.die d).sources = []
          ∧ u.rd (fltdPg d) FLTD.FWD_CNT = (s.rd (fltdPg d) FLTD.FWD_CNT + 1) % 2 ^ 64 ∧ Keeps [.regs, .dies, .flt] s u))
      ∧ (r.cls = 0 → (s.die d).buffer.any (fun x => sameSource x.1 r) = false → s.bufUsed d < 56 →
        Completes i s (fun u =>
          (u.die d).buffer = (s.die d).buffer ++ [(r, s.now)] ∧ (u.die d).sources = [] ∧ Keeps [.dies] s u))
      ∧ (∀ x t, r.cls = 0 → (s.die d).buffer = [(x, t)] → sameSource x r = true →
        Completes i s (fun u =>
          (u.die d).buffer = [({ x with rep := min (x.rep + r.rep) 0xFFFF, coalesced := true }, t)] ∧ (u.die d).sources = [] ∧ Keeps [.dies] s u))
      ∧ (r.cls = 0 → (s.die d).buffer.any (fun x => sameSource x.1 r) = false → 56 ≤ s.bufUsed d →
        Completes i s (fun u =>
          (u.die d).buffer = (s.die d).buffer ∧ (u.die d).dropped = (s.die d).dropped + 1 ∧ (u.die d).sources = []
          ∧ u.rd (fltdPg d) FLTD.OVF_CNT = (s.rd (fltdPg d) FLTD.OVF_CNT + 1) % 2 ^ 64))))
  ∧ (∀ r t l, s.lets (.coalesceExpiry d) → (s.die d).buffer = (r, t) :: l →
    Completes (.coalesceExpiry d) s (fun u =>
      u.flt = { s.flt with wire := s.flt.wire ++ [r] } ∧ (u.die d).buffer = l
      ∧ u.rd (fltdPg d) FLTD.FWD_CNT = (s.rd (fltdPg d) FLTD.FWD_CNT + 1) % 2 ^ 64 ∧ Keeps [.regs, .dies, .flt] s u))
  ∧ (∀ i, i = .classLineStuck d page ∨ (i = .recordWaitTimeout d page ∧ s.bufUsed d < 64) → s.lets i → page < srvPg → pageDie page = d →
    blockOf page ≠ .none → (s.die d).polledSrc.contains page = false →
    Completes i s (fun u =>
      (u.die d).polledSrc = (s.die d).polledSrc ++ [page]
      ∧ u.rd (fltdPg d) FLTD.LINE_CNT = (s.rd (fltdPg d) FLTD.LINE_CNT + 1) % 2 ^ 64
      ∧ (u.die d).sources.length = (s.die d).sources.length + 1 ∧ Keeps [.regs, .dies] s u))

/-- R357, R358, R360, R361: a record that reaches the package collector is numbered, written at the log's tail and counted; a full
log drops a C record; an F record stops every core and is signalled; a U record's containment closes it; LOG_HEAD moves over
contained records only; LOG_SEL shows a record; a quiet period in compatibility mode counts a recovery. -/
def Obligations.TheLogIsKept : Prop := ∀ (s : State) (r : FaultRec) (l : List FaultRec),
  (s.lets .faultLog → s.flt.wire = r :: l →
    (r.cls = 0 → (s.rd fltPg FLT.LOG_TAIL_TAIL + 1) % 4096 ≠ s.rd fltPg FLT.LOG_HEAD_HEAD →
      Completes .faultLog s (fun u =>
        u.flt.wire = l ∧ u.flt.seqno = (s.flt.seqno + 1) % 2 ^ 32
        ∧ (∃ x, mfind u.flt.log (s.rd fltPg FLT.LOG_TAIL_TAIL) = some x ∧ x.seqno = s.flt.seqno ∧ x.code = r.code ∧ x.address = r.address
          ∧ u.dev = (s.devWrite (s.rdA fltPg FLT.LOG_BASE_BASE + 32 * s.rd fltPg FLT.LOG_TAIL_TAIL) x.bytes).dev)
        ∧ u.rd fltPg FLT.LOG_TAIL_TAIL = (s.rd fltPg FLT.LOG_TAIL_TAIL + 1) % 4096
        ∧ u.rd fltPg FLT.C_CNT = (s.rd fltPg FLT.C_CNT + 1) % 2 ^ 64 ∧ u.nvm = s.nvm))
    ∧ (r.cls = 0 → (s.rd fltPg FLT.LOG_TAIL_TAIL + 1) % 4096 = s.rd fltPg FLT.LOG_HEAD_HEAD →
      Completes .faultLog s (fun u =>
        u.flt.wire = l ∧ u.flt.log = s.flt.log ∧ u.flt.dropped = s.flt.dropped + 1
        ∧ u.rd fltPg FLT.DROP_CNT = (s.rd fltPg FLT.DROP_CNT + 1) % 2 ^ 64 ∧ u.dev = s.dev))
    ∧ (r.cls = 1 → (s.rd fltPg FLT.LOG_TAIL_TAIL + 1) % 4096 ≠ s.rd fltPg FLT.LOG_HEAD_HEAD → s.flt.migs = [] →
      Completes .faultLog s (fun u =>
        u.flt.wire = l ∧ u.rd fltPg FLT.STAT_U_OPEN = min (s.rd fltPg FLT.STAT_U_OPEN + 1) 0xFFFF
        ∧ u.nvm.faultN = s.nvm.faultN + 1 ∧ u.rd fltPg FLT.U_CNT = (s.rd fltPg FLT.U_CNT + 1) % 2 ^ 64))
    ∧ (r.cls = 2 → (s.rd fltPg FLT.LOG_TAIL_TAIL + 1) % 4096 ≠ s.rd fltPg FLT.LOG_HEAD_HEAD →
      Completes .faultLog s (fun u =>
        u.frozen = true ∧ u.flt.lastF = s.now ∧ u.nvm.faultN = s.nvm.faultN + 1
        ∧ (∀ c ∈ allCores, s.coreStopped c = false → u.rd (corePg c) CORE.STAT_STATE ≠ 1) ∧ OutMsg.errFatal ∈ u.out ∧ OutMsg.ibi ∈ u.out)))
  ∧ (∀ i, s.lets (.containmentComplete r.seqno) → s.flt.log = [(i, r)] → r.cls = 1 → r.contained = false →
    Completes (.containmentComplete r.seqno) s (fun u =>
      u.flt.log = [(i, { r with contained := true })] ∧ u.rd fltPg FLT.STAT_U_OPEN = (s.rd fltPg FLT.STAT_U_OPEN - 1) % 2 ^ 16))
  ∧ (∀ v, s.lets (.logHeadWrite v) → s.flt.dropped = 0 →
    (v % 4096 + 4096 - s.rd fltPg FLT.LOG_HEAD_HEAD) % 4096 ≤ s.logIdx.length → s.rd fltPg FLT.LOG_HEAD_HEAD < 4096 →
    ((s.logIdx.take ((v % 4096 + 4096 - s.rd fltPg FLT.LOG_HEAD_HEAD) % 4096)).all (fun i =>
        (mfind s.flt.log i).all (fun x => x.cls != 1 || x.contained)) = true →
      Completes (.logHeadWrite v) s (fun u => u.rd fltPg FLT.LOG_HEAD_HEAD = v % 4096 ∧ u.flt = s.flt ∧ u.dev = s.dev))
    ∧ (∀ i, (s.logIdx.take ((v % 4096 + 4096 - s.rd fltPg FLT.LOG_HEAD_HEAD) % 4096)).find? (fun i =>
        (mfind s.flt.log i).any (fun x => x.cls == 1 && !x.contained)) = some i →
      Completes (.logHeadWrite v) s (fun u => u.rd fltPg FLT.LOG_HEAD_HEAD = i % 4096 ∧ u.flt = s.flt ∧ u.dev = s.dev)))
  ∧ (∀ i, s.lets (.logSel i) → mfind s.flt.log (i % 4096) = some r →
    Completes (.logSel i) s (fun u =>
      u.rd fltPg FLT.LOG_SEL_SEL = i % 4096 ∧ (∀ k < 8, u.rd fltPg (FLT.LOG_VIEW k) = leAt r.bytes (4 * k) 4)
      ∧ PagesKept [fltPg] s u ∧ Keeps [.regs] s u))
  ∧ (s.lets .compatQuietEnd → s.rdB fltPg FLT.STAT_F_ACTIVE = true → s.rdB fltPg FLT.CTRL_COMPAT = true → s.rdB fltPg FLT.STAT_LATCHED = false →
    s.flt.fCode ≠ 0xC013 → s.flt.fCode ≠ 0 → s.power.halted = false →
    Completes .compatQuietEnd s (fun u =>
      u.nvm.recoveryN = s.nvm.recoveryN + 1 ∧ u.flt = { s.flt with fCode := 0 } ∧ s.poweredS ∈ u.nvm.recoveries
      ∧ u.power = { s.power with refclkLost := false } ∧ Keeps [.regs, .dies, .flt, .nvm, .power] s u))

/-! ### Migrations, in-field test, event NVM (files 17, 18) -/

/-- R363, R364, R365, R366, R367, R368: a request for an unplaced logical core is refused, one for a placed core starts a migration;
its move chooses the nearest eligible pool core; the copy hands core store over; the end of a move or of a rebuild places the
logical core on the target; CORE_REDIR is written while nothing migrates. -/
def Obligations.MigrationsMoveACore : Prop := ∀ (s : State) (l : Nat),
  (s.lets (.migReq l) → s.frozen = false → s.rdB fltPg (FLT.CORE_REDIR_VALID l) = false →
    Completes (.migReq l) s (fun u =>
      u.rd fltPg FLT.MIG_STAT_RESULT = 2 ∧ u.rd fltPg FLT.MIG_CTRL_LOGICAL = l ∧ PagesKept [fltPg] s u ∧ Keeps [.regs] s u))
  ∧ (s.lets (.migReq l) → s.frozen = false → s.rdB fltPg (FLT.CORE_REDIR_VALID l) = true → s.logicalOf (s.physOfCore l) = some l → s.flt.migs = [] →
    (s.core (s.physOfCore l)).pend = [] →
    Completes (.migReq l) s (fun u =>
      u.flt.migs = [{ logical := l, source := s.physOfCore l, target := 0, rebuild := false, phase := 1, trigger := 0, t0 := s.now, left := [] }]
      ∧ u.cstore = s.cstore ∧ u.dev = s.dev))
  ∧ (∀ m t, s.lets (.migMoveStart l) → s.flt.migs = [m] → m.logical = l → m.phase = 1 → m.rebuild = false →
    s.rd (corePg m.source) CORE.STAT_STATE = 0 → (s.core m.source).resetAt = none → s.chooseTarget m.source = some t →
    (∀ e < 4, (s.eng t e).rot.phase = .idle) → s.flt.testing = [] →
    Completes (.migMoveStart l) s (fun u =>
      u.flt.migs = [{ m with phase := 2, target := t, t0 := s.now }] ∧ u.flt.pool = s.flt.pool.filter (fun k => k != t)
      ∧ u.rd fltPg FLT.MIG_STAT_TARGET = t % 2 ^ 8 ∧ u.rd fltPg FLT.MIG_STAT_LOGICAL = l % 2 ^ 8
      ∧ u.rdB (clusPg (m.source / 4) (m.source % 4 / 2)) CLUS.STAT_MOVER_BUSY = true ∧ u.cstore = s.cstore))
  ∧ (∀ m, s.lets (.migCopyDone l) → s.flt.migs = [m] → m.logical = l → m.phase = 2 →
    Completes (.migCopyDone l) s (fun u =>
      u.flt.migs = [{ m with phase := 3 }] ∧ u.cstore = s.cstore.moveRange (csBase m.source) (csBase m.target) (2 ^ 25)
      ∧ u.tsram = s.tsram.moveRange (m.source * 2 ^ 20) (m.target * 2 ^ 20) (2 ^ 20)
      ∧ u.rd (clusPg (m.source / 4) (m.source % 4 / 2)) CLUS.MOVE_CNT = (s.rd (clusPg (m.source / 4) (m.source % 4 / 2)) CLUS.MOVE_CNT + 1) % 2 ^ 64
      ∧ u.rdB (clusPg (m.source / 4) (m.source % 4 / 2)) CLUS.STAT_MOVER_BUSY = false))
  ∧ (∀ m i, (i = .migBanksDone l ∧ m.phase = 3) ∨ (i = .rebuildReloadEnd l ∧ m.phase = 4 ∧ m.left = []) → s.lets i → s.flt.migs = [m] →
    m.logical = l → m.trigger = 2 → (s.core m.source).resetWaits = false → m.source ≠ m.target →
    Completes i s (fun u =>
      u.flt.migs = [] ∧ mget u.nvm.coreState 0 (nvmCore m.source) = 2
      ∧ (u.core m.source).retired = true ∧ u.rd fltPg (FLT.CORE_REDIR_VALID l) = 1 ∧ u.rd fltPg (FLT.CORE_REDIR_PHYS l) = m.target % 256
      ∧ u.rd fltPg FLT.MIG_STAT_RESULT = 1))
  ∧ (∀ v, s.lets (.coreRedirWrite l v) → s.flt.migs = [] →
    exec (.coreRedirWrite l v) s
      = .next ((s.wrB fltPg (FLT.CORE_REDIR_VALID l) (bit v 31)).wr fltPg (FLT.CORE_REDIR_PHYS l) (v % 256)))
  ∧ (∀ v, s.lets (.coreRedirWrite l v) → s.flt.migs ≠ [] → exec (.coreRedirWrite l v) s = .next (s.refuse fltPg))

/-- R370, R371, R372, R373, R377: a core that falls due for test is tested at once where nothing is assigned to it, and is deferred
where something is; a deferral that runs out over an idle core starts the test; a test that passes returns the core to the pool, one
that fails retires it. An hour's fold counts powered time, a generation and the retirements into event NVM, and is torn where power
has failed; a read of NVM_DATA delivers eight bytes of it and moves the address on. -/
def Obligations.CoresAreTestedAndFolded : Prop :=
  (∀ (s : State) (c : Nat),
    (s.lets (.testDue c) → s.rdB fltPg FLT.TEST_CTRL_EN = true → (s.core c).retired = false → s.flt.testing = [] → s.assigned c = false →
      Completes (.testDue c) s (fun u =>
        u.flt = { s.flt with testing := [c] } ∧ u.core c = { s.core c with deferredAt := none } ∧ Keeps [.cores, .flt] s u))
    ∧ (s.lets (.testDue c) → s.rdB fltPg FLT.TEST_CTRL_EN = true → (s.core c).retired = false → s.flt.testing.contains c = false →
      s.assigned c = true → (s.core c).deferredAt = none → s.migrating c = false → s.rd fltPg FLT.TEST_CTRL_DEFER_MAX ≠ 0 →
      Completes (.testDue c) s (fun u => u.core c = { s.core c with deferredAt := some s.now } ∧ AgreeOff [c] s.cores u.cores ∧ Keeps [.cores] s u))
    ∧ (s.lets (.testDeferExpiry c) → (s.core c).deferredAt.isSome = true → s.assigned c = false → s.flt.testing = [] →
      Completes (.testDeferExpiry c) s (fun u =>
        u.flt = { s.flt with testing := [c] } ∧ u.core c = { s.core c with deferredAt := none } ∧ Keeps [.cores, .flt] s u))
    ∧ (s.lets (.testDone c true []) → s.flt.testing = [c] → s.logicalOf c = none → (∀ e < 4, s.engineFits c e = true) → s.flt.pool.contains c = false →
      Completes (.testDone c true []) s (fun u =>
        u.flt.testing = [] ∧ u.flt.pool = s.flt.pool ++ [c] ∧ (u.core c).tests = (s.core c).tests + 1 ∧ (u.core c).lastTest = s.poweredS
        ∧ u.rd fltPg FLT.TEST_CNT = (s.rd fltPg FLT.TEST_CNT + 1) % 2 ^ 64 ∧ mget u.nvm.coreState 0 (nvmCore c) = 1))
    ∧ (s.lets (.testDone c false []) → s.flt.testing = [c] → s.logicalOf c = none →
      Completes (.testDone c false []) s (fun u =>
        u.flt.testing = [] ∧ (u.core c).retired = true ∧ u.flt.pool = s.flt.pool.filter (fun k => k != c)
        ∧ mget u.nvm.coreState 0 (nvmCore c) = 2 ∧ u.rd fltPg FLT.TEST_CNT = (s.rd fltPg FLT.TEST_CNT + 1) % 2 ^ 64)))
  ∧ (∀ (s : State),
    (s.lets .lifetimeFold → s.power.pwrgood = true → s.power.halted = false →
      Completes .lifetimeFold s (fun u =>
        u.nvm.foldGen = (s.nvm.foldGen + 1) % 2 ^ 32 ∧ u.nvm.torn = false ∧ u.nvm.poweredS = s.poweredS ∧ u.nvm.faults = s.nvm.faults
        ∧ u.flt = { s.flt with retiredLog := [] } ∧ u.nvm.retiredN = s.nvm.retiredN + s.flt.retiredLog.length
        ∧ u.rd lifePg LIFE.FOLD_CNT = (s.rd lifePg LIFE.FOLD_CNT + 1) % 2 ^ 64 ∧ u.rd lifePg LIFE.LAST_FOLD = s.sclk % 2 ^ 64 ∧ u.dev = s.dev))
    ∧ (s.lets .lifetimeFold → s.power.pwrgood = false → s.power.started = true →
      exec .lifetimeFold s = .next { s with nvm := { s.nvm with torn := true } })
    ∧ (s.lets .nvmDataRead → s.power.halted = false →
      Completes .nvmDataRead s (fun u =>
        u.out = s.out ++ [.readValue (ofLe (s.nvmAt (s.rdA lifePg LIFE.NVM_ADDR_ADDR)))]
        ∧ (s.rdA lifePg LIFE.NVM_ADDR_ADDR < 0x40000 → u.rdA lifePg LIFE.NVM_ADDR_ADDR = (s.rdA lifePg LIFE.NVM_ADDR_ADDR + 8) % 0x40000)
        ∧ u.nvm = s.nvm ∧ PagesKept [lifePg] s u ∧ Keeps [.regs, .out] s u))
    ∧ (s.lets .nvmDataRead → s.power.halted = true → exec .nvmDataRead s = .next (s.send .abort)))

/-! ### Configuration under two parties and firmware slots (file 19) -/

/-- R385, R386, R387, R388, R389, R378, R379: COMMIT copies a record that passes every check and is busy, and refuses any other with
its result; the application gives every masked bit its value, counts the change and shows success; nothing else waits. While the
update is enabled an image goes into the slot that is not running, and one that passes its checks ends the enabling; otherwise
nothing is written. -/
def Obligations.ChangeRecordsAndFirmwareSlots : Prop :=
  (∀ (s : State) (mgmt : Bool),
    (s.lets (.cfg2pCommit mgmt) → s.frozen = false → s.sec.applying.isSome = true →
      Completes (.cfg2pCommit mgmt) s (fun u =>
        u.rd cfgPg CFG2P.STAT_RESULT = 8 ∧ u.rd cfgPg CFG2P.REJECT_CNT = (s.rd cfgPg CFG2P.REJECT_CNT + 1) % 2 ^ 64 ∧ u.sec = s.sec
        ∧ PagesKept [cfgPg] s u ∧ Keeps [.regs] s u))
    ∧ (s.lets (.cfg2pCommit mgmt) → s.frozen = false → s.sec.applying = none → s.rd cfgPg CFG2P.REC_LEN_LEN < 64 →
      Completes (.cfg2pCommit mgmt) s (fun u =>
        u.rd cfgPg CFG2P.STAT_RESULT = 2 ∧ u.rd cfgPg CFG2P.REJECT_CNT = (s.rd cfgPg CFG2P.REJECT_CNT + 1) % 2 ^ 64 ∧ u.sec = s.sec))
    ∧ (s.lets (.cfg2pCommit mgmt) → s.frozen = false → s.sec.applying = none → 64 ≤ s.rd cfgPg CFG2P.REC_LEN_LEN →
      s.rd cfgPg CFG2P.REC_LEN_LEN ≤ 16384 → s.rdA cfgPg CFG2P.REC_ADDR_ADDR + s.rd cfgPg CFG2P.REC_LEN_LEN ≤ softEnd → s.dev.chk = [] →
      s.power.cxlDown = [] →
      (∀ r, r = s.devRead (s.rdA cfgPg CFG2P.REC_ADDR_ADDR) (s.rd cfgPg CFG2P.REC_LEN_LEN) → headerFormat r = true →
        firstItem r (itemFormat r) = none →
        Completes (.cfg2pCommit mgmt) s (fun u =>
          (s.recChecks r mgmt = none →
            u.sec = { s.sec with applying := some r } ∧ u.rd cfgPg CFG2P.STAT_BUSY = 1 ∧ PagesKept [cfgPg] s u ∧ Keeps [.regs, .sec] s u)
          ∧ (∀ x ∈ s.recChecks r mgmt,
            u.rd cfgPg CFG2P.STAT_RESULT = x.1 % 256 ∧ u.rd cfgPg CFG2P.STAT_ITEM = x.2 % 256 ∧ u.sec.changeCnt = s.sec.changeCnt
            ∧ u.sec.applying = none ∧ u.rd cfgPg CFG2P.STAT_BUSY = s.rd cfgPg CFG2P.STAT_BUSY))))
    ∧ (s.lets .cfg2pApply → s.sec.applying = none → exec .cfg2pApply s = .next s)
    ∧ (∀ r x f, s.lets .cfg2pApply → s.frozen = false → s.sec.applying = some r → leAt r 1 1 = 0 → itemsOf r = [x] → x.target = 1 →
      f ∈ blockProt .ten → 8 * x.addr ≤ 8 * f.off + f.lsb → s.srv.held = [] → s.srv.failed = [] → s.srv.seqs = [] →
      Completes .cfg2pApply s (fun u =>
        u.sec.applying = none ∧ u.sec.changeCnt = s.sec.changeCnt + 1 ∧ u.rd cfgPg CFG2P.STAT_BUSY = 0 ∧ u.rd cfgPg CFG2P.STAT_RESULT = 1
        ∧ u.rd cfgPg CFG2P.CHANGE_CNT = (s.sec.changeCnt + 1) % 2 ^ 64
        ∧ (∀ j < f.width, (u.rd (tenPg x.tenant) f).testBit j
            = (if x.mask.testBit (8 * f.off + f.lsb + j - 8 * x.addr) then x.value.testBit (8 * f.off + f.lsb + j - 8 * x.addr)
                else (s.rd (tenPg x.tenant) f).testBit j)))))
  ∧ (∀ (s : State) (x : FwImage), s.lets (.fwSlotWrite x) → s.power.halted = false →
    (s.rdB cfgPg CFG2P.FW_UPDATE_EN_EN = true →
      Completes (.fwSlotWrite x) s (fun u =>
        (s.rd secPg SEC.STAT_IMAGE = 0 → u.sec.slotB = some x ∧ u.sec.slotA = s.sec.slotA)
        ∧ (s.rd secPg SEC.STAT_IMAGE ≠ 0 → u.sec.slotA = some x ∧ u.sec.slotB = s.sec.slotB)
        ∧ u.rdB cfgPg CFG2P.FW_UPDATE_EN_EN = !s.imagePasses x ∧ u.sec.minSvn = s.sec.minSvn))
    ∧ (s.rdB cfgPg CFG2P.FW_UPDATE_EN_EN = false → exec (.fwSlotWrite x) s = .next s))

/-! ### The machine as a whole -/

/-- One step is the command at the front of the queue executed with the queue's rest; with an empty queue one tick of the register
clock passes and nothing else happens, which is the model's choice (log 3). -/
def Obligations.StepRunsTheFrontCommand : Prop := ∀ s : State,
  (∀ i l, s.pending = i :: l → step s = exec i { s with pending := l }) ∧ (s.pending = [] → step s = .next { s with now := s.now + 1 })

/-- After reset no command waits, nothing is halted, the memories are in canonical form and list nothing, every bank is EMPTY, no
tile computes, every page number is FREE, every queue of work and of faults is empty, and a register that holds its factory value or
has no stated value reads 0 (R12, R53, R198). -/
def Obligations.ResetMeetsTheInvariant : Prop :=
  MemoryInv State.reset ∧ State.reset.pending = [] ∧ State.reset.frozen = false ∧ State.reset.dev = ⟨[], []⟩
  ∧ (∀ c e t b, State.reset.bankState c e t b = 0) ∧ (∀ p, State.reset.page p = PageEnt.free)
  ∧ (∀ p f, State.reset.rd p f = posReset p f) ∧ State.reset.awn.claims = [] ∧ State.reset.flt.log = [] ∧ State.reset.out = []

/-- Whatever command executes, the memories keep their canonical form: addresses rise strictly and no entry equals what an unlisted
address reads as, in device memory with its check bits, host memory, core store and tiller SRAM. -/
def Obligations.StepsKeepTheMemories : Prop := ∀ s t, MemoryInv s → step s = .next t → MemoryInv t

/-- Whatever command executes, with or without effect, the parts of the state outside its list in `mayChange` are as they were:
every register, accumulator, queue, status record and byte of memory in them. -/
def Obligations.CommandsKeepTheirFrame : Prop := ∀ i s t, exec i s = .next t → Keeps (mayChange i) s t

/-- Every command that is well-formed executes, in every state; one that names a unit the package does not have, or an operand
outside its field, is refused, which is the model's choice (log 2). -/
def Obligations.WellFormedCommandsExecute : Prop := ∀ i s,
  (i.wf = true → ∃ t, exec i s = .next t) ∧ (i.wf = false → exec i s = .refused .illFormed)

/-! ### Register space -/

/-- R57: a write of TILE.CFG that would change the slice bit of the compute bank has no effect and counts in the tile page's
ERR_CNT; any other gives the idle bank's slice bit the value written, for the BANK_WRITE that follows. -/
def Obligations.ComputeBankKeepsItsSliceBit : Prop := ∀ (s : State) (c e t v : Nat), s.lets (.tileCfgWrite c e t v) →
  (bit v (3 + s.computeBank c e t) ≠ s.rdB (tilePg c e t) (sliceF (s.computeBank c e t)) →
    Completes (.tileCfgWrite c e t v) s (fun u =>
      u.rd (tilePg c e t) HDR.ERR_CNT = min (2 ^ 32 - 1) (s.rd (tilePg c e t) HDR.ERR_CNT + 1)
      ∧ (∀ k, k ≠ fkey (tilePg c e t) HDR.ERR_CNT → mfind u.regs k = mfind s.regs k)
      ∧ Keeps [.regs] s u))
  ∧ (bit v (3 + s.computeBank c e t) = s.rdB (tilePg c e t) (sliceF (s.computeBank c e t)) →
    Completes (.tileCfgWrite c e t v) s (fun u =>
      u.rd (tilePg c e t) (sliceF (1 - s.computeBank c e t)) = toBit (bit v (3 + (1 - s.computeBank c e t)))
      ∧ u.rd (tilePg c e t) HDR.ERR_CNT = s.rd (tilePg c e t) HDR.ERR_CNT))

/-- R405: a slot of the die or global range that holds no page: a write to it completes and changes nothing, whatever its width, and
a read of it, by the tiller cores or the hub units that may read register space, returns 0 and changes nothing else. -/
def Obligations.EmptySlotsReadZeroAndDiscardWrites : Prop := ∀ (s : State) (p off : Nat),
  s.frozen = false → blockOf p = .none → off < 4096 → 4096 * p + off < 0x0B000000 →
  (∀ w v, s.lets (.registerWrite (4096 * p + off) w v) → exec (.registerWrite (4096 * p + off) w v) s = .next s)
  ∧ (∀ rq v, (∃ c t, rq = .tillerM c t) ∨ (∃ d, rq = .hubUnit d) → s.lets (.memAccess rq (regBase + 4096 * p + off) v) →
    s.power.halted = false → s.rdB (meshPg (srcDie rq)) (MESH.ROUTE_UNREACHABLE (pageDie p)) = false →
    exec (.memAccess rq (regBase + 4096 * p + off) v) s = .next (if v.isSome then s else s.send (.readValue 0)))

/-- R12, R406, R409: within every block no two fields share a bit, every field lies in its page, and the value the Reset column
gives fits its field; bits of an access that lie in no field read 0, whatever the registers hold, and those of a field read as it
does. -/
def Obligations.FieldsAreDisjointAndTheRestReadsZero : Prop := ∀ p : Nat,
  (fieldsOf (blockOf p)).Pairwise (fun f g => 8 * f.off + f.lsb + f.width ≤ 8 * g.off + g.lsb ∨ 8 * g.off + g.lsb + g.width ≤ 8 * f.off + f.lsb)
  ∧ (∀ f ∈ fieldsOf (blockOf p), 0 < f.width ∧ 8 * f.off + f.lsb + f.width ≤ 32768 ∧ posReset p f < 2 ^ f.width)
  ∧ (∀ (s : State) (off w i : Nat), off < 4096 → i < 8 * w →
    (∀ f ∈ fieldsOf (blockOf p), 8 * off + i < 8 * f.off + f.lsb ∨ 8 * f.off + f.lsb + f.width ≤ 8 * off + i) →
    (s.regValue p off w).testBit i = false)
  ∧ ∀ (s : State) (off w j : Nat), off < 4096 → ∀ f ∈ fieldsOf (blockOf p), j < f.width → 8 * off ≤ 8 * f.off + f.lsb + j →
    8 * f.off + f.lsb + j < 8 * (off + w) → (s.regValue p off w).testBit (8 * f.off + f.lsb + j - 8 * off) = (s.view p f).testBit j

/-! ### Tables and codes -/

/-- R269: a word is delivered by its syndrome: data as read for 0, with one bit inverted where it is that data bit's column, data as
read for a syndrome of weight 1, and data as read with the poison mark for 0xFF and for every other. The columns are the 56 values
of weight 3 and the first 8 of weight 5, each ascending (R268); so one wrong data bit is corrected, and two are never delivered
unmarked. -/
def Obligations.SyndromesAreDecoded : Prop :=
  dataColumns = (List.range 256).filter (fun v => weight8 v == 3) ++ ((List.range 256).filter (fun v => weight8 v == 5)).take 8
  ∧ (∀ (st : Store) (w : Nat), st.wf = true →
    st.word w = decode72 (st.raw w) (st.chkAt w) ∧ st.bad (8 * w) 8 = decide (3 ≤ (decode72 (st.raw w) (st.chkAt w)).1))
  ∧ ∀ data : Nat,
    decode72 data 0 = (0, data) ∧ decode72 data 0xFF = (4, data)
    ∧ (∀ d, d < 64 → decode72 data (dataColumns.getD d 0) = (1, data ^^^ 2 ^ d))
    ∧ (∀ j, j < 8 → decode72 data (2 ^ j) = (2, data))
    ∧ (∀ syn, syn < 256 → syn ≠ 0 → syn ≠ 0xFF → syn ∉ dataColumns → weight8 syn ≠ 1 → decode72 data syn = (3, data))
    ∧ (∀ d, d < 64 → decode72 (data ^^^ 2 ^ d) (checkBits (data ^^^ 2 ^ d) ^^^ checkBits data) = (1, data))
    ∧ (∀ d e, d < e → e < 64 → 3 ≤ (decode72 (data ^^^ 2 ^ d ^^^ 2 ^ e) (checkBits (data ^^^ 2 ^ d ^^^ 2 ^ e) ^^^ checkBits data)).1)

/-- R264: the 12 stacks share the software and firmware regions in units of 4 KiB and each holds 2 GiB of reserve: every tier-1
address lies at one place of one stack, and every place of a stack is one address. -/
def Obligations.AddressesLieOnOneStack : Prop :=
  (∀ a, a < firmEnd → stackOf a = a / 4096 % 12 ∧ localOf a = a / 4096 / 12 * 4096 + a % 4096 ∧ localOf a < 126 * 2 ^ 30)
  ∧ (∀ a, a < tier1End → stackOf a < 12 ∧ localOf a < 128 * 2 ^ 30 ∧ physOf (stackOf a) (localOf a) = a)
  ∧ (∀ st l, st < 12 → l < 128 * 2 ^ 30 → stackOf (physOf st l) = st ∧ localOf (physOf st l) = l)
  ∧ stackOf 0x12345678 = 9 ∧ localOf 0x12345678 = 0x1845678

/-- R39, R42: the passes planned for a nibble drive every row once and in order; a pass is a group or two adjacent ones that
together do not pass the limit; with skipping, the empty groups are those skipped; the halves of a split are the first half, rounded
up, and the rest. -/
def Obligations.PlannedPassesDriveEveryRow : Prop := ∀ (skip merge : Bool) (limit : Nat) (gs : List (List Nat)),
  (planNibble skip merge limit gs).1.flatten = gs.flatten
  ∧ (planNibble skip merge limit gs).1.length + (planNibble skip merge limit gs).2.1 + (planNibble skip merge limit gs).2.2 = gs.length
  ∧ (∀ q ∈ (planNibble skip merge limit gs).1, q ∈ gs ∨ (merge = true ∧ q.length ≤ limit ∧ ∃ g h, [g, h] <:+: gs ∧ q = g ++ h))
  ∧ (skip = true → (planNibble skip merge limit gs).2.1 = (gs.filter (fun g => g.isEmpty)).length
    ∧ ∀ q ∈ (planNibble skip merge limit gs).1, q ≠ [])
  ∧ (skip = false → (planNibble skip merge limit gs).2.1 = 0)
  ∧ ∀ rows : List Nat, (halves rows).1 ++ (halves rows).2 = rows ∧ (halves rows).1.length = (rows.length + 1) / 2

/-- R143: a loaded selection register is never 0, and stepping it never gives 0 and never gives the same value from two values, so
it never stops; nothing is sampled at fraction 0, and a pass is sampled where the top k bits are 0. -/
def Obligations.SelectionRegistersNeverStop : Prop :=
  (∀ seed e t, seed < 2 ^ 32 → e < 4 → t < 17 → lfsrLoad seed e t ≠ 0 ∧ lfsrLoad seed e t < 2 ^ 32)
  ∧ (∀ v, v < 2 ^ 32 → v ≠ 0 → lfsrNext v ≠ 0 ∧ lfsrNext v < 2 ^ 32)
  ∧ (∀ v w, v < 2 ^ 32 → w < 2 ^ 32 → lfsrNext v = lfsrNext w → v = w)
  ∧ (∀ k n v, (sampleMarks k n v).2.length = n ∧ (sampleMarks k n v).1 = Nat.repeat lfsrNext n v
    ∧ ∀ i, i < n → (sampleMarks k n v).2[i]? = some (match k with
      | some k => Nat.repeat lfsrNext (i + 1) v >>> (32 - k) == 0
      | none => false))

/-- R198: an entry of the page ledger is 128 bits; written to its backing table and read back it is the same entry. -/
def Obligations.LedgerEntriesReadBack : Prop := ∀ e : PageEnt,
  e.gen < 2 ^ 16 → e.lastUse < 2 ^ 16 → e.frame < 2 ^ 26 → e.fill < 2 ^ 12 → e.slot < 2 ^ 12 → e.tenant < 2 ^ 8 → e.ref < 2 ^ 16 →
  e.pin < 2 ^ 8 → e.ret < 2 ^ 3 → e.tier < 2 → e.state < 2 ^ 3 → e.word < 2 ^ 128 ∧ PageEnt.ofWord (ofLe (toLe 16 e.word)) = e

/-- R293: claims on a semaphore are granted in arrival order, the first for which the value does not suffice holds back the later
ones, each grant takes its count from the value, and no claim is lost. -/
def Obligations.ClaimsAreGrantedInOrder : Prop := ∀ (value : FMap Nat) (l : List Claim) (sem : Nat),
  (l.filter (fun q => q.sem == sem)) = ((grantScan value [] l).2.2.filter (fun q => q.sem == sem)) ++ ((grantScan value [] l).2.1.filter (fun q => q.sem == sem))
  ∧ mget (grantScan value [] l).1 0 sem + (((grantScan value [] l).2.2.filter (fun q => q.sem == sem)).map (fun q => q.count)).sum = mget value 0 sem
  ∧ (∀ q, ((grantScan value [] l).2.1.filter (fun q => q.sem == sem)).head? = some q → mget (grantScan value [] l).1 0 sem < q.count)
  ∧ (grantScan value [] l).2.1.Sublist l ∧ (grantScan value [] l).2.2.Sublist l
end

