-- ==== Sys2Proof/Laws/Memory.lean ====
section
/-! SUPPORT. The canonical form of the memories: every operation on a store keeps it, and a store reads back what was put. -/

namespace Sys2Proof.Machine

/-! ### Cells -/

theorem cellsWfFrom_mono {m : List Host.Cell} {lo hi : Nat} (h : cellsWfFrom hi m = true) (hl : lo ≤ hi) : cellsWfFrom lo m = true := by
  cases m with
  | nil => rfl
  | cons x m =>
    simp only [cellsWfFrom, Bool.and_eq_true, decide_eq_true_eq] at h ⊢
    exact ⟨⟨by omega, h.1.2⟩, h.2⟩

theorem cellPut_wfFrom {m : List Host.Cell} {lo a : Nat} {b : Byte} (h : cellsWfFrom lo m = true) (ha : lo ≤ a) :
    cellsWfFrom lo (cellPut m a b) = true := by
  induction m generalizing lo with
  | nil =>
    simp only [cellPut]
    split
    · rfl
    · simp_all [cellsWfFrom]
  | cons x m ih =>
    obtain ⟨k, v⟩ := x
    simp only [cellsWfFrom, Bool.and_eq_true, decide_eq_true_eq] at h
    obtain ⟨⟨hk, hv⟩, hm⟩ := h
    simp only [cellPut]
    split
    · split
      · simp_all [cellsWfFrom]
      · simp only [cellsWfFrom, Bool.and_eq_true, decide_eq_true_eq]
        exact ⟨⟨ha, by simp_all⟩, ⟨by omega, hv⟩, hm⟩
    · split
      · split
        · exact cellsWfFrom_mono hm (by omega)
        · simp only [cellsWfFrom, Bool.and_eq_true, decide_eq_true_eq]
          subst_vars
          exact ⟨⟨ha, by simp_all⟩, hm⟩
      · simp only [cellsWfFrom, Bool.and_eq_true, decide_eq_true_eq]
        exact ⟨⟨hk, hv⟩, ih hm (by omega)⟩

theorem cellPut_wf {m : List Host.Cell} (a : Nat) (b : Byte) (h : cellsWf m = true) : cellsWf (cellPut m a b) = true :=
  cellPut_wfFrom h (Nat.zero_le a)

theorem cellGet_below {m : List Host.Cell} {lo a : Nat} (h : cellsWfFrom lo m = true) (ha : a < lo) : cellGet m a = 0 := by
  induction m generalizing lo with
  | nil => rfl
  | cons x m ih =>
    simp only [cellsWfFrom, Bool.and_eq_true, decide_eq_true_eq] at h
    have : a ≠ x.1 := by omega
    simp only [cellGet, this, if_false]
    exact ih h.2 (by omega)

/-- Read after write of one byte. -/
theorem cellGet_cellPut {m : List Host.Cell} {lo : Nat} (h : cellsWfFrom lo m = true) (a x : Nat) (b : Byte) :
    cellGet (cellPut m a b) x = if x = a then b else cellGet m x := by
  induction m generalizing lo with
  | nil =>
    simp only [cellPut]
    split <;> split <;> simp_all [cellGet]
  | cons y m ih =>
    obtain ⟨k, v⟩ := y
    simp only [cellsWfFrom, Bool.and_eq_true, decide_eq_true_eq] at h
    obtain ⟨⟨hk, hv⟩, hm⟩ := h
    have below : ∀ z, z < k + 1 → cellGet m z = 0 := fun z hz => cellGet_below hm hz
    simp only [cellPut]
    split
    · split <;> by_cases hx : x = a
      · have := below x (by omega)
        have h2 : x ≠ k := by omega
        simp_all [cellGet]
      · simp [hx]
      · simp [cellGet, hx]
      · simp [cellGet, hx]
    · split
      · split <;> by_cases hx : x = a
        · have := below x (by omega)
          simp_all
        · have h2 : x ≠ k := by omega
          simp [hx, cellGet, h2]
        · simp [cellGet, hx]
        · have h2 : x ≠ k := by omega
          simp [hx, cellGet, h2]
      · simp only [cellGet, ih hm]
        by_cases hx : x = k <;> by_cases hy : x = a <;> simp [hx, hy]
        all_goals (intro _; omega)

/-! ### Check-bit differences -/

theorem chkWfFrom_mono {m : FMap Nat} {lo hi : Nat} (h : chkWfFrom hi m = true) (hl : lo ≤ hi) : chkWfFrom lo m = true := by
  cases m with
  | nil => rfl
  | cons x m =>
    simp only [chkWfFrom, Bool.and_eq_true, decide_eq_true_eq] at h ⊢
    exact ⟨⟨by omega, h.1.2⟩, h.2⟩

theorem chkPut_wfFrom {m : FMap Nat} {lo a b : Nat} (h : chkWfFrom lo m = true) (ha : lo ≤ a) : chkWfFrom lo (chkPut m a b) = true := by
  induction m generalizing lo with
  | nil =>
    simp only [chkPut]
    split
    · rfl
    · simp_all [chkWfFrom]
  | cons x m ih =>
    obtain ⟨k, v⟩ := x
    simp only [chkWfFrom, Bool.and_eq_true, decide_eq_true_eq] at h
    obtain ⟨⟨hk, hv⟩, hm⟩ := h
    simp only [chkPut]
    split
    · split
      · simp_all [chkWfFrom]
      · simp only [chkWfFrom, Bool.and_eq_true, decide_eq_true_eq]
        exact ⟨⟨ha, by simp_all⟩, ⟨by omega, hv⟩, hm⟩
    · split
      · split
        · exact chkWfFrom_mono hm (by omega)
        · simp only [chkWfFrom, Bool.and_eq_true, decide_eq_true_eq]
          subst_vars
          exact ⟨⟨ha, by simp_all⟩, hm⟩
      · simp only [chkWfFrom, Bool.and_eq_true, decide_eq_true_eq]
        exact ⟨⟨hk, hv⟩, ih hm (by omega)⟩

theorem chkPut_wf {m : FMap Nat} (a b : Nat) (h : chkWf m = true) : chkWf (chkPut m a b) = true := chkPut_wfFrom h (Nat.zero_le a)

theorem cells_filter_wfFrom {m : List Host.Cell} {lo : Nat} (p : Host.Cell → Bool) (h : cellsWfFrom lo m = true) :
    cellsWfFrom lo (m.filter p) = true := by
  induction m generalizing lo with
  | nil => rfl
  | cons x m ih =>
    simp only [cellsWfFrom, Bool.and_eq_true, decide_eq_true_eq] at h
    have hm := ih h.2
    simp only [List.filter]
    split
    · simp only [cellsWfFrom, Bool.and_eq_true, decide_eq_true_eq]
      exact ⟨h.1, hm⟩
    · exact cellsWfFrom_mono hm (by omega)

theorem chk_filter_wfFrom {m : FMap Nat} {lo : Nat} (p : Nat × Nat → Bool) (h : chkWfFrom lo m = true) :
    chkWfFrom lo (m.filter p) = true := by
  induction m generalizing lo with
  | nil => rfl
  | cons x m ih =>
    simp only [chkWfFrom, Bool.and_eq_true, decide_eq_true_eq] at h
    have hm := ih h.2
    simp only [List.filter]
    split
    · simp only [chkWfFrom, Bool.and_eq_true, decide_eq_true_eq]
      exact ⟨h.1, hm⟩
    · exact chkWfFrom_mono hm (by omega)

/-! ### Stores -/

variable {st : Store}

theorem Store.setByte_wf (a : Nat) (b : Byte) (h : st.wf = true) : (st.setByte a b).wf = true := by
  simp only [Store.wf, Bool.and_eq_true] at h ⊢
  exact ⟨cellPut_wf a b h.1, h.2⟩

theorem Store.setChk_wf (w d : Nat) (h : st.wf = true) : (st.setChk w d).wf = true := by
  simp only [Store.wf, Bool.and_eq_true] at h ⊢
  exact ⟨h.1, chkPut_wf w d h.2⟩

theorem Store.foldl_wf {α : Type} (f : Store → α → Store) (hf : ∀ x a, x.wf = true → (f x a).wf = true) (l : List α) :
    ∀ st : Store, st.wf = true → (l.foldl f st).wf = true := by
  induction l with
  | nil => exact fun _ h => h
  | cons a l ih => exact fun st h => ih _ (hf st a h)

theorem Store.putByte_wf (a : Nat) (b : Byte) (h : st.wf = true) : (st.putByte a b).wf = true := by
  unfold Store.putByte
  dsimp only
  split
  · exact Store.setByte_wf _ _ h
  · exact Store.setByte_wf _ _ (Store.foldl_wf _ (fun x i hx => Store.setByte_wf _ _ hx) _ _ (Store.setChk_wf _ _ h))
  · exact Store.setByte_wf _ _ (Store.setChk_wf _ _ h)
  · exact Store.setByte_wf _ _ h

theorem Store.putWord_wf (w v : Nat) (p : Bool) (h : st.wf = true) : (st.putWord w v p).wf = true :=
  Store.setChk_wf _ _ (Store.foldl_wf _ (fun _ _ hx => Store.setByte_wf _ _ hx) _ _ h)

theorem Store.write_wf (n : Nat) (a : Nat) (l : List Byte) (p : Bool) (h : st.wf = true) : (Store.write n st a l p).wf = true := by
  induction n generalizing st a l with
  | zero => exact h
  | succ n ih =>
    unfold Store.write
    split
    · exact h
    · split
      · exact ih _ _ (Store.putWord_wf _ _ _ h)
      · refine ih _ _ ?_
        split
        · exact Store.setChk_wf _ _ (Store.putByte_wf _ _ h)
        · exact Store.putByte_wf _ _ h

theorem Store.put_wf (a : Nat) (l : List Byte) (p : Bool) (h : st.wf = true) : (st.put a l p).wf = true := Store.write_wf _ _ _ _ h

theorem Store.markWords_wf (w : Nat) (bad : List Bool) (h : st.wf = true) : (st.markWords w bad).wf = true := by
  refine Store.foldl_wf _ (fun x e hx => ?_) _ _ h
  split
  · exact Store.setChk_wf _ _ hx
  · exact hx

theorem Store.copyFrom_wf (src : Store) (da sa n : Nat) (h : st.wf = true) : (st.copyFrom src da sa n).wf = true :=
  Store.markWords_wf _ _ (Store.put_wf _ _ _ h)

theorem Store.lines2_wf (a n : Nat) (h : st.wf = true) : (st.lines2 a n).wf = true := by
  refine Store.foldl_wf _ (fun x i hx => ?_) _ _ h
  dsimp only
  split
  · exact Store.foldl_wf _ (fun _ _ hy => Store.setChk_wf _ _ hy) _ _ hx
  · exact hx

theorem Store.zero_wf (a n : Nat) (h : st.wf = true) : (st.zero a n).wf = true := by
  simp only [Store.wf, Bool.and_eq_true] at h ⊢
  exact ⟨cells_filter_wfFrom _ h.1, chk_filter_wfFrom _ h.2⟩

theorem Store.repair_wf (w : Nat) (h : st.wf = true) : (st.repair w).wf = true := by
  unfold Store.repair
  split
  split
  · exact Store.putWord_wf _ _ _ h
  · split
    · exact Store.setChk_wf _ _ h
    · exact h

theorem Store.moveRange_wf (sa da n : Nat) (h : st.wf = true) : (st.moveRange sa da n).wf = true :=
  Store.foldl_wf _ (fun _ _ hx => Store.putWord_wf _ _ _ hx) _ _
    (Store.foldl_wf _ (fun _ _ hx => Store.setByte_wf _ _ hx) _ _ (Store.zero_wf _ _ h))

/-- Reset's memories have the form. -/
theorem reset_memory_wf : Memory.wf State.reset = true := rfl

end Sys2Proof.Machine
end

