-- ==== Sys2Proof/Laws/State.lean ====
section
/-! SUPPORT. The basic updates field by field: what each leaves of the state, and reading back what it wrote. -/

namespace Sys2Proof.Machine

variable (s : State)

@[simp] theorem wr_now (p : Nat) (f : Fld) (v : Nat) : (s.wr p f v).now = s.now := rfl
@[simp] theorem wr_sclk0 (p : Nat) (f : Fld) (v : Nat) : (s.wr p f v).sclk0 = s.sclk0 := rfl
@[simp] theorem wr_fresh (p : Nat) (f : Fld) (v : Nat) : (s.wr p f v).fresh = s.fresh := rfl
@[simp] theorem wr_tiles (p : Nat) (f : Fld) (v : Nat) : (s.wr p f v).tiles = s.tiles := rfl
@[simp] theorem wr_engines (p : Nat) (f : Fld) (v : Nat) : (s.wr p f v).engines = s.engines := rfl
@[simp] theorem wr_cores (p : Nat) (f : Fld) (v : Nat) : (s.wr p f v).cores = s.cores := rfl
@[simp] theorem wr_dies (p : Nat) (f : Fld) (v : Nat) : (s.wr p f v).dies = s.dies := rfl
@[simp] theorem wr_hbms (p : Nat) (f : Fld) (v : Nat) : (s.wr p f v).hbms = s.hbms := rfl
@[simp] theorem wr_ports (p : Nat) (f : Fld) (v : Nat) : (s.wr p f v).ports = s.ports := rfl
@[simp] theorem wr_rcopies (p : Nat) (f : Fld) (v : Nat) : (s.wr p f v).rcopies = s.rcopies := rfl
@[simp] theorem wr_dev (p : Nat) (f : Fld) (v : Nat) : (s.wr p f v).dev = s.dev := rfl
@[simp] theorem wr_host (p : Nat) (f : Fld) (v : Nat) : (s.wr p f v).host = s.host := rfl
@[simp] theorem wr_cstore (p : Nat) (f : Fld) (v : Nat) : (s.wr p f v).cstore = s.cstore := rfl
@[simp] theorem wr_tsram (p : Nat) (f : Fld) (v : Nat) : (s.wr p f v).tsram = s.tsram := rfl
@[simp] theorem wr_pages (p : Nat) (f : Fld) (v : Nat) : (s.wr p f v).pages = s.pages := rfl
@[simp] theorem wr_srv (p : Nat) (f : Fld) (v : Nat) : (s.wr p f v).srv = s.srv := rfl
@[simp] theorem wr_ingest (p : Nat) (f : Fld) (v : Nat) : (s.wr p f v).ingest = s.ingest := rfl
@[simp] theorem wr_awn (p : Nat) (f : Fld) (v : Nat) : (s.wr p f v).awn = s.awn := rfl
@[simp] theorem wr_flt (p : Nat) (f : Fld) (v : Nat) : (s.wr p f v).flt = s.flt := rfl
@[simp] theorem wr_nvm (p : Nat) (f : Fld) (v : Nat) : (s.wr p f v).nvm = s.nvm := rfl
@[simp] theorem wr_sec (p : Nat) (f : Fld) (v : Nat) : (s.wr p f v).sec = s.sec := rfl
@[simp] theorem wr_power (p : Nat) (f : Fld) (v : Nat) : (s.wr p f v).power = s.power := rfl
@[simp] theorem wr_msix (p : Nat) (f : Fld) (v : Nat) : (s.wr p f v).msix = s.msix := rfl
@[simp] theorem wr_out (p : Nat) (f : Fld) (v : Nat) : (s.wr p f v).out = s.out := rfl
@[simp] theorem wr_pending (p : Nat) (f : Fld) (v : Nat) : (s.wr p f v).pending = s.pending := rfl

@[simp] theorem send_now (m : OutMsg) : (s.send m).now = s.now := rfl
@[simp] theorem send_sclk0 (m : OutMsg) : (s.send m).sclk0 = s.sclk0 := rfl
@[simp] theorem send_fresh (m : OutMsg) : (s.send m).fresh = s.fresh := rfl
@[simp] theorem send_regs (m : OutMsg) : (s.send m).regs = s.regs := rfl
@[simp] theorem send_tiles (m : OutMsg) : (s.send m).tiles = s.tiles := rfl
@[simp] theorem send_engines (m : OutMsg) : (s.send m).engines = s.engines := rfl
@[simp] theorem send_cores (m : OutMsg) : (s.send m).cores = s.cores := rfl
@[simp] theorem send_dies (m : OutMsg) : (s.send m).dies = s.dies := rfl
@[simp] theorem send_hbms (m : OutMsg) : (s.send m).hbms = s.hbms := rfl
@[simp] theorem send_ports (m : OutMsg) : (s.send m).ports = s.ports := rfl
@[simp] theorem send_rcopies (m : OutMsg) : (s.send m).rcopies = s.rcopies := rfl
@[simp] theorem send_dev (m : OutMsg) : (s.send m).dev = s.dev := rfl
@[simp] theorem send_host (m : OutMsg) : (s.send m).host = s.host := rfl
@[simp] theorem send_cstore (m : OutMsg) : (s.send m).cstore = s.cstore := rfl
@[simp] theorem send_tsram (m : OutMsg) : (s.send m).tsram = s.tsram := rfl
@[simp] theorem send_pages (m : OutMsg) : (s.send m).pages = s.pages := rfl
@[simp] theorem send_srv (m : OutMsg) : (s.send m).srv = s.srv := rfl
@[simp] theorem send_ingest (m : OutMsg) : (s.send m).ingest = s.ingest := rfl
@[simp] theorem send_awn (m : OutMsg) : (s.send m).awn = s.awn := rfl
@[simp] theorem send_flt (m : OutMsg) : (s.send m).flt = s.flt := rfl
@[simp] theorem send_nvm (m : OutMsg) : (s.send m).nvm = s.nvm := rfl
@[simp] theorem send_sec (m : OutMsg) : (s.send m).sec = s.sec := rfl
@[simp] theorem send_power (m : OutMsg) : (s.send m).power = s.power := rfl
@[simp] theorem send_msix (m : OutMsg) : (s.send m).msix = s.msix := rfl
@[simp] theorem send_pending (m : OutMsg) : (s.send m).pending = s.pending := rfl

@[simp] theorem takeFree_now : (s.takeFree).now = s.now := rfl
@[simp] theorem takeFree_sclk0 : (s.takeFree).sclk0 = s.sclk0 := rfl
@[simp] theorem takeFree_regs : (s.takeFree).regs = s.regs := rfl
@[simp] theorem takeFree_tiles : (s.takeFree).tiles = s.tiles := rfl
@[simp] theorem takeFree_engines : (s.takeFree).engines = s.engines := rfl
@[simp] theorem takeFree_cores : (s.takeFree).cores = s.cores := rfl
@[simp] theorem takeFree_dies : (s.takeFree).dies = s.dies := rfl
@[simp] theorem takeFree_hbms : (s.takeFree).hbms = s.hbms := rfl
@[simp] theorem takeFree_ports : (s.takeFree).ports = s.ports := rfl
@[simp] theorem takeFree_rcopies : (s.takeFree).rcopies = s.rcopies := rfl
@[simp] theorem takeFree_dev : (s.takeFree).dev = s.dev := rfl
@[simp] theorem takeFree_host : (s.takeFree).host = s.host := rfl
@[simp] theorem takeFree_cstore : (s.takeFree).cstore = s.cstore := rfl
@[simp] theorem takeFree_tsram : (s.takeFree).tsram = s.tsram := rfl
@[simp] theorem takeFree_pages : (s.takeFree).pages = s.pages := rfl
@[simp] theorem takeFree_srv : (s.takeFree).srv = s.srv := rfl
@[simp] theorem takeFree_ingest : (s.takeFree).ingest = s.ingest := rfl
@[simp] theorem takeFree_awn : (s.takeFree).awn = s.awn := rfl
@[simp] theorem takeFree_flt : (s.takeFree).flt = s.flt := rfl
@[simp] theorem takeFree_nvm : (s.takeFree).nvm = s.nvm := rfl
@[simp] theorem takeFree_sec : (s.takeFree).sec = s.sec := rfl
@[simp] theorem takeFree_power : (s.takeFree).power = s.power := rfl
@[simp] theorem takeFree_msix : (s.takeFree).msix = s.msix := rfl
@[simp] theorem takeFree_out : (s.takeFree).out = s.out := rfl
@[simp] theorem takeFree_pending : (s.takeFree).pending = s.pending := rfl

@[simp] theorem setTile_now (c e t : Nat) (x : TileS) : (s.setTile c e t x).now = s.now := rfl
@[simp] theorem setTile_sclk0 (c e t : Nat) (x : TileS) : (s.setTile c e t x).sclk0 = s.sclk0 := rfl
@[simp] theorem setTile_fresh (c e t : Nat) (x : TileS) : (s.setTile c e t x).fresh = s.fresh := rfl
@[simp] theorem setTile_regs (c e t : Nat) (x : TileS) : (s.setTile c e t x).regs = s.regs := rfl
@[simp] theorem setTile_engines (c e t : Nat) (x : TileS) : (s.setTile c e t x).engines = s.engines := rfl
@[simp] theorem setTile_cores (c e t : Nat) (x : TileS) : (s.setTile c e t x).cores = s.cores := rfl
@[simp] theorem setTile_dies (c e t : Nat) (x : TileS) : (s.setTile c e t x).dies = s.dies := rfl
@[simp] theorem setTile_hbms (c e t : Nat) (x : TileS) : (s.setTile c e t x).hbms = s.hbms := rfl
@[simp] theorem setTile_ports (c e t : Nat) (x : TileS) : (s.setTile c e t x).ports = s.ports := rfl
@[simp] theorem setTile_rcopies (c e t : Nat) (x : TileS) : (s.setTile c e t x).rcopies = s.rcopies := rfl
@[simp] theorem setTile_dev (c e t : Nat) (x : TileS) : (s.setTile c e t x).dev = s.dev := rfl
@[simp] theorem setTile_host (c e t : Nat) (x : TileS) : (s.setTile c e t x).host = s.host := rfl
@[simp] theorem setTile_cstore (c e t : Nat) (x : TileS) : (s.setTile c e t x).cstore = s.cstore := rfl
@[simp] theorem setTile_tsram (c e t : Nat) (x : TileS) : (s.setTile c e t x).tsram = s.tsram := rfl
@[simp] theorem setTile_pages (c e t : Nat) (x : TileS) : (s.setTile c e t x).pages = s.pages := rfl
@[simp] theorem setTile_srv (c e t : Nat) (x : TileS) : (s.setTile c e t x).srv = s.srv := rfl
@[simp] theorem setTile_ingest (c e t : Nat) (x : TileS) : (s.setTile c e t x).ingest = s.ingest := rfl
@[simp] theorem setTile_awn (c e t : Nat) (x : TileS) : (s.setTile c e t x).awn = s.awn := rfl
@[simp] theorem setTile_flt (c e t : Nat) (x : TileS) : (s.setTile c e t x).flt = s.flt := rfl
@[simp] theorem setTile_nvm (c e t : Nat) (x : TileS) : (s.setTile c e t x).nvm = s.nvm := rfl
@[simp] theorem setTile_sec (c e t : Nat) (x : TileS) : (s.setTile c e t x).sec = s.sec := rfl
@[simp] theorem setTile_power (c e t : Nat) (x : TileS) : (s.setTile c e t x).power = s.power := rfl
@[simp] theorem setTile_msix (c e t : Nat) (x : TileS) : (s.setTile c e t x).msix = s.msix := rfl
@[simp] theorem setTile_out (c e t : Nat) (x : TileS) : (s.setTile c e t x).out = s.out := rfl
@[simp] theorem setTile_pending (c e t : Nat) (x : TileS) : (s.setTile c e t x).pending = s.pending := rfl

@[simp] theorem setEng_now (c e : Nat) (x : EngineS) : (s.setEng c e x).now = s.now := rfl
@[simp] theorem setEng_sclk0 (c e : Nat) (x : EngineS) : (s.setEng c e x).sclk0 = s.sclk0 := rfl
@[simp] theorem setEng_fresh (c e : Nat) (x : EngineS) : (s.setEng c e x).fresh = s.fresh := rfl
@[simp] theorem setEng_regs (c e : Nat) (x : EngineS) : (s.setEng c e x).regs = s.regs := rfl
@[simp] theorem setEng_tiles (c e : Nat) (x : EngineS) : (s.setEng c e x).tiles = s.tiles := rfl
@[simp] theorem setEng_cores (c e : Nat) (x : EngineS) : (s.setEng c e x).cores = s.cores := rfl
@[simp] theorem setEng_dies (c e : Nat) (x : EngineS) : (s.setEng c e x).dies = s.dies := rfl
@[simp] theorem setEng_hbms (c e : Nat) (x : EngineS) : (s.setEng c e x).hbms = s.hbms := rfl
@[simp] theorem setEng_ports (c e : Nat) (x : EngineS) : (s.setEng c e x).ports = s.ports := rfl
@[simp] theorem setEng_rcopies (c e : Nat) (x : EngineS) : (s.setEng c e x).rcopies = s.rcopies := rfl
@[simp] theorem setEng_dev (c e : Nat) (x : EngineS) : (s.setEng c e x).dev = s.dev := rfl
@[simp] theorem setEng_host (c e : Nat) (x : EngineS) : (s.setEng c e x).host = s.host := rfl
@[simp] theorem setEng_cstore (c e : Nat) (x : EngineS) : (s.setEng c e x).cstore = s.cstore := rfl
@[simp] theorem setEng_tsram (c e : Nat) (x : EngineS) : (s.setEng c e x).tsram = s.tsram := rfl
@[simp] theorem setEng_pages (c e : Nat) (x : EngineS) : (s.setEng c e x).pages = s.pages := rfl
@[simp] theorem setEng_srv (c e : Nat) (x : EngineS) : (s.setEng c e x).srv = s.srv := rfl
@[simp] theorem setEng_ingest (c e : Nat) (x : EngineS) : (s.setEng c e x).ingest = s.ingest := rfl
@[simp] theorem setEng_awn (c e : Nat) (x : EngineS) : (s.setEng c e x).awn = s.awn := rfl
@[simp] theorem setEng_flt (c e : Nat) (x : EngineS) : (s.setEng c e x).flt = s.flt := rfl
@[simp] theorem setEng_nvm (c e : Nat) (x : EngineS) : (s.setEng c e x).nvm = s.nvm := rfl
@[simp] theorem setEng_sec (c e : Nat) (x : EngineS) : (s.setEng c e x).sec = s.sec := rfl
@[simp] theorem setEng_power (c e : Nat) (x : EngineS) : (s.setEng c e x).power = s.power := rfl
@[simp] theorem setEng_msix (c e : Nat) (x : EngineS) : (s.setEng c e x).msix = s.msix := rfl
@[simp] theorem setEng_out (c e : Nat) (x : EngineS) : (s.setEng c e x).out = s.out := rfl
@[simp] theorem setEng_pending (c e : Nat) (x : EngineS) : (s.setEng c e x).pending = s.pending := rfl

@[simp] theorem setCore_now (c : Nat) (x : CoreS) : (s.setCore c x).now = s.now := rfl
@[simp] theorem setCore_sclk0 (c : Nat) (x : CoreS) : (s.setCore c x).sclk0 = s.sclk0 := rfl
@[simp] theorem setCore_fresh (c : Nat) (x : CoreS) : (s.setCore c x).fresh = s.fresh := rfl
@[simp] theorem setCore_regs (c : Nat) (x : CoreS) : (s.setCore c x).regs = s.regs := rfl
@[simp] theorem setCore_tiles (c : Nat) (x : CoreS) : (s.setCore c x).tiles = s.tiles := rfl
@[simp] theorem setCore_engines (c : Nat) (x : CoreS) : (s.setCore c x).engines = s.engines := rfl
@[simp] theorem setCore_dies (c : Nat) (x : CoreS) : (s.setCore c x).dies = s.dies := rfl
@[simp] theorem setCore_hbms (c : Nat) (x : CoreS) : (s.setCore c x).hbms = s.hbms := rfl
@[simp] theorem setCore_ports (c : Nat) (x : CoreS) : (s.setCore c x).ports = s.ports := rfl
@[simp] theorem setCore_rcopies (c : Nat) (x : CoreS) : (s.setCore c x).rcopies = s.rcopies := rfl
@[simp] theorem setCore_dev (c : Nat) (x : CoreS) : (s.setCore c x).dev = s.dev := rfl
@[simp] theorem setCore_host (c : Nat) (x : CoreS) : (s.setCore c x).host = s.host := rfl
@[simp] theorem setCore_cstore (c : Nat) (x : CoreS) : (s.setCore c x).cstore = s.cstore := rfl
@[simp] theorem setCore_tsram (c : Nat) (x : CoreS) : (s.setCore c x).tsram = s.tsram := rfl
@[simp] theorem setCore_pages (c : Nat) (x : CoreS) : (s.setCore c x).pages = s.pages := rfl
@[simp] theorem setCore_srv (c : Nat) (x : CoreS) : (s.setCore c x).srv = s.srv := rfl
@[simp] theorem setCore_ingest (c : Nat) (x : CoreS) : (s.setCore c x).ingest = s.ingest := rfl
@[simp] theorem setCore_awn (c : Nat) (x : CoreS) : (s.setCore c x).awn = s.awn := rfl
@[simp] theorem setCore_flt (c : Nat) (x : CoreS) : (s.setCore c x).flt = s.flt := rfl
@[simp] theorem setCore_nvm (c : Nat) (x : CoreS) : (s.setCore c x).nvm = s.nvm := rfl
@[simp] theorem setCore_sec (c : Nat) (x : CoreS) : (s.setCore c x).sec = s.sec := rfl
@[simp] theorem setCore_power (c : Nat) (x : CoreS) : (s.setCore c x).power = s.power := rfl
@[simp] theorem setCore_msix (c : Nat) (x : CoreS) : (s.setCore c x).msix = s.msix := rfl
@[simp] theorem setCore_out (c : Nat) (x : CoreS) : (s.setCore c x).out = s.out := rfl
@[simp] theorem setCore_pending (c : Nat) (x : CoreS) : (s.setCore c x).pending = s.pending := rfl

@[simp] theorem setDie_now (d : Nat) (x : DieS) : (s.setDie d x).now = s.now := rfl
@[simp] theorem setDie_sclk0 (d : Nat) (x : DieS) : (s.setDie d x).sclk0 = s.sclk0 := rfl
@[simp] theorem setDie_fresh (d : Nat) (x : DieS) : (s.setDie d x).fresh = s.fresh := rfl
@[simp] theorem setDie_regs (d : Nat) (x : DieS) : (s.setDie d x).regs = s.regs := rfl
@[simp] theorem setDie_tiles (d : Nat) (x : DieS) : (s.setDie d x).tiles = s.tiles := rfl
@[simp] theorem setDie_engines (d : Nat) (x : DieS) : (s.setDie d x).engines = s.engines := rfl
@[simp] theorem setDie_cores (d : Nat) (x : DieS) : (s.setDie d x).cores = s.cores := rfl
@[simp] theorem setDie_hbms (d : Nat) (x : DieS) : (s.setDie d x).hbms = s.hbms := rfl
@[simp] theorem setDie_ports (d : Nat) (x : DieS) : (s.setDie d x).ports = s.ports := rfl
@[simp] theorem setDie_rcopies (d : Nat) (x : DieS) : (s.setDie d x).rcopies = s.rcopies := rfl
@[simp] theorem setDie_dev (d : Nat) (x : DieS) : (s.setDie d x).dev = s.dev := rfl
@[simp] theorem setDie_host (d : Nat) (x : DieS) : (s.setDie d x).host = s.host := rfl
@[simp] theorem setDie_cstore (d : Nat) (x : DieS) : (s.setDie d x).cstore = s.cstore := rfl
@[simp] theorem setDie_tsram (d : Nat) (x : DieS) : (s.setDie d x).tsram = s.tsram := rfl
@[simp] theorem setDie_pages (d : Nat) (x : DieS) : (s.setDie d x).pages = s.pages := rfl
@[simp] theorem setDie_srv (d : Nat) (x : DieS) : (s.setDie d x).srv = s.srv := rfl
@[simp] theorem setDie_ingest (d : Nat) (x : DieS) : (s.setDie d x).ingest = s.ingest := rfl
@[simp] theorem setDie_awn (d : Nat) (x : DieS) : (s.setDie d x).awn = s.awn := rfl
@[simp] theorem setDie_flt (d : Nat) (x : DieS) : (s.setDie d x).flt = s.flt := rfl
@[simp] theorem setDie_nvm (d : Nat) (x : DieS) : (s.setDie d x).nvm = s.nvm := rfl
@[simp] theorem setDie_sec (d : Nat) (x : DieS) : (s.setDie d x).sec = s.sec := rfl
@[simp] theorem setDie_power (d : Nat) (x : DieS) : (s.setDie d x).power = s.power := rfl
@[simp] theorem setDie_msix (d : Nat) (x : DieS) : (s.setDie d x).msix = s.msix := rfl
@[simp] theorem setDie_out (d : Nat) (x : DieS) : (s.setDie d x).out = s.out := rfl
@[simp] theorem setDie_pending (d : Nat) (x : DieS) : (s.setDie d x).pending = s.pending := rfl

@[simp] theorem setStack_now (k : Nat) (x : StackS) : (s.setStack k x).now = s.now := rfl
@[simp] theorem setStack_sclk0 (k : Nat) (x : StackS) : (s.setStack k x).sclk0 = s.sclk0 := rfl
@[simp] theorem setStack_fresh (k : Nat) (x : StackS) : (s.setStack k x).fresh = s.fresh := rfl
@[simp] theorem setStack_regs (k : Nat) (x : StackS) : (s.setStack k x).regs = s.regs := rfl
@[simp] theorem setStack_tiles (k : Nat) (x : StackS) : (s.setStack k x).tiles = s.tiles := rfl
@[simp] theorem setStack_engines (k : Nat) (x : StackS) : (s.setStack k x).engines = s.engines := rfl
@[simp] theorem setStack_cores (k : Nat) (x : StackS) : (s.setStack k x).cores = s.cores := rfl
@[simp] theorem setStack_dies (k : Nat) (x : StackS) : (s.setStack k x).dies = s.dies := rfl
@[simp] theorem setStack_ports (k : Nat) (x : StackS) : (s.setStack k x).ports = s.ports := rfl
@[simp] theorem setStack_rcopies (k : Nat) (x : StackS) : (s.setStack k x).rcopies = s.rcopies := rfl
@[simp] theorem setStack_dev (k : Nat) (x : StackS) : (s.setStack k x).dev = s.dev := rfl
@[simp] theorem setStack_host (k : Nat) (x : StackS) : (s.setStack k x).host = s.host := rfl
@[simp] theorem setStack_cstore (k : Nat) (x : StackS) : (s.setStack k x).cstore = s.cstore := rfl
@[simp] theorem setStack_tsram (k : Nat) (x : StackS) : (s.setStack k x).tsram = s.tsram := rfl
@[simp] theorem setStack_pages (k : Nat) (x : StackS) : (s.setStack k x).pages = s.pages := rfl
@[simp] theorem setStack_srv (k : Nat) (x : StackS) : (s.setStack k x).srv = s.srv := rfl
@[simp] theorem setStack_ingest (k : Nat) (x : StackS) : (s.setStack k x).ingest = s.ingest := rfl
@[simp] theorem setStack_awn (k : Nat) (x : StackS) : (s.setStack k x).awn = s.awn := rfl
@[simp] theorem setStack_flt (k : Nat) (x : StackS) : (s.setStack k x).flt = s.flt := rfl
@[simp] theorem setStack_nvm (k : Nat) (x : StackS) : (s.setStack k x).nvm = s.nvm := rfl
@[simp] theorem setStack_sec (k : Nat) (x : StackS) : (s.setStack k x).sec = s.sec := rfl
@[simp] theorem setStack_power (k : Nat) (x : StackS) : (s.setStack k x).power = s.power := rfl
@[simp] theorem setStack_msix (k : Nat) (x : StackS) : (s.setStack k x).msix = s.msix := rfl
@[simp] theorem setStack_out (k : Nat) (x : StackS) : (s.setStack k x).out = s.out := rfl
@[simp] theorem setStack_pending (k : Nat) (x : StackS) : (s.setStack k x).pending = s.pending := rfl

@[simp] theorem setPort_now (k : Nat) (x : PortS) : (s.setPort k x).now = s.now := rfl
@[simp] theorem setPort_sclk0 (k : Nat) (x : PortS) : (s.setPort k x).sclk0 = s.sclk0 := rfl
@[simp] theorem setPort_fresh (k : Nat) (x : PortS) : (s.setPort k x).fresh = s.fresh := rfl
@[simp] theorem setPort_regs (k : Nat) (x : PortS) : (s.setPort k x).regs = s.regs := rfl
@[simp] theorem setPort_tiles (k : Nat) (x : PortS) : (s.setPort k x).tiles = s.tiles := rfl
@[simp] theorem setPort_engines (k : Nat) (x : PortS) : (s.setPort k x).engines = s.engines := rfl
@[simp] theorem setPort_cores (k : Nat) (x : PortS) : (s.setPort k x).cores = s.cores := rfl
@[simp] theorem setPort_dies (k : Nat) (x : PortS) : (s.setPort k x).dies = s.dies := rfl
@[simp] theorem setPort_hbms (k : Nat) (x : PortS) : (s.setPort k x).hbms = s.hbms := rfl
@[simp] theorem setPort_rcopies (k : Nat) (x : PortS) : (s.setPort k x).rcopies = s.rcopies := rfl
@[simp] theorem setPort_dev (k : Nat) (x : PortS) : (s.setPort k x).dev = s.dev := rfl
@[simp] theorem setPort_host (k : Nat) (x : PortS) : (s.setPort k x).host = s.host := rfl
@[simp] theorem setPort_cstore (k : Nat) (x : PortS) : (s.setPort k x).cstore = s.cstore := rfl
@[simp] theorem setPort_tsram (k : Nat) (x : PortS) : (s.setPort k x).tsram = s.tsram := rfl
@[simp] theorem setPort_pages (k : Nat) (x : PortS) : (s.setPort k x).pages = s.pages := rfl
@[simp] theorem setPort_srv (k : Nat) (x : PortS) : (s.setPort k x).srv = s.srv := rfl
@[simp] theorem setPort_ingest (k : Nat) (x : PortS) : (s.setPort k x).ingest = s.ingest := rfl
@[simp] theorem setPort_awn (k : Nat) (x : PortS) : (s.setPort k x).awn = s.awn := rfl
@[simp] theorem setPort_flt (k : Nat) (x : PortS) : (s.setPort k x).flt = s.flt := rfl
@[simp] theorem setPort_nvm (k : Nat) (x : PortS) : (s.setPort k x).nvm = s.nvm := rfl
@[simp] theorem setPort_sec (k : Nat) (x : PortS) : (s.setPort k x).sec = s.sec := rfl
@[simp] theorem setPort_power (k : Nat) (x : PortS) : (s.setPort k x).power = s.power := rfl
@[simp] theorem setPort_msix (k : Nat) (x : PortS) : (s.setPort k x).msix = s.msix := rfl
@[simp] theorem setPort_out (k : Nat) (x : PortS) : (s.setPort k x).out = s.out := rfl
@[simp] theorem setPort_pending (k : Nat) (x : PortS) : (s.setPort k x).pending = s.pending := rfl

@[simp] theorem modTile_now (c e t : Nat) (g : TileS → TileS) : (s.modTile c e t g).now = s.now := rfl
@[simp] theorem modTile_sclk0 (c e t : Nat) (g : TileS → TileS) : (s.modTile c e t g).sclk0 = s.sclk0 := rfl
@[simp] theorem modTile_fresh (c e t : Nat) (g : TileS → TileS) : (s.modTile c e t g).fresh = s.fresh := rfl
@[simp] theorem modTile_regs (c e t : Nat) (g : TileS → TileS) : (s.modTile c e t g).regs = s.regs := rfl
@[simp] theorem modTile_engines (c e t : Nat) (g : TileS → TileS) : (s.modTile c e t g).engines = s.engines := rfl
@[simp] theorem modTile_cores (c e t : Nat) (g : TileS → TileS) : (s.modTile c e t g).cores = s.cores := rfl
@[simp] theorem modTile_dies (c e t : Nat) (g : TileS → TileS) : (s.modTile c e t g).dies = s.dies := rfl
@[simp] theorem modTile_hbms (c e t : Nat) (g : TileS → TileS) : (s.modTile c e t g).hbms = s.hbms := rfl
@[simp] theorem modTile_ports (c e t : Nat) (g : TileS → TileS) : (s.modTile c e t g).ports = s.ports := rfl
@[simp] theorem modTile_rcopies (c e t : Nat) (g : TileS → TileS) : (s.modTile c e t g).rcopies = s.rcopies := rfl
@[simp] theorem modTile_dev (c e t : Nat) (g : TileS → TileS) : (s.modTile c e t g).dev = s.dev := rfl
@[simp] theorem modTile_host (c e t : Nat) (g : TileS → TileS) : (s.modTile c e t g).host = s.host := rfl
@[simp] theorem modTile_cstore (c e t : Nat) (g : TileS → TileS) : (s.modTile c e t g).cstore = s.cstore := rfl
@[simp] theorem modTile_tsram (c e t : Nat) (g : TileS → TileS) : (s.modTile c e t g).tsram = s.tsram := rfl
@[simp] theorem modTile_pages (c e t : Nat) (g : TileS → TileS) : (s.modTile c e t g).pages = s.pages := rfl
@[simp] theorem modTile_srv (c e t : Nat) (g : TileS → TileS) : (s.modTile c e t g).srv = s.srv := rfl
@[simp] theorem modTile_ingest (c e t : Nat) (g : TileS → TileS) : (s.modTile c e t g).ingest = s.ingest := rfl
@[simp] theorem modTile_awn (c e t : Nat) (g : TileS → TileS) : (s.modTile c e t g).awn = s.awn := rfl
@[simp] theorem modTile_flt (c e t : Nat) (g : TileS → TileS) : (s.modTile c e t g).flt = s.flt := rfl
@[simp] theorem modTile_nvm (c e t : Nat) (g : TileS → TileS) : (s.modTile c e t g).nvm = s.nvm := rfl
@[simp] theorem modTile_sec (c e t : Nat) (g : TileS → TileS) : (s.modTile c e t g).sec = s.sec := rfl
@[simp] theorem modTile_power (c e t : Nat) (g : TileS → TileS) : (s.modTile c e t g).power = s.power := rfl
@[simp] theorem modTile_msix (c e t : Nat) (g : TileS → TileS) : (s.modTile c e t g).msix = s.msix := rfl
@[simp] theorem modTile_out (c e t : Nat) (g : TileS → TileS) : (s.modTile c e t g).out = s.out := rfl
@[simp] theorem modTile_pending (c e t : Nat) (g : TileS → TileS) : (s.modTile c e t g).pending = s.pending := rfl

@[simp] theorem modEng_now (c e : Nat) (g : EngineS → EngineS) : (s.modEng c e g).now = s.now := rfl
@[simp] theorem modEng_sclk0 (c e : Nat) (g : EngineS → EngineS) : (s.modEng c e g).sclk0 = s.sclk0 := rfl
@[simp] theorem modEng_fresh (c e : Nat) (g : EngineS → EngineS) : (s.modEng c e g).fresh = s.fresh := rfl
@[simp] theorem modEng_regs (c e : Nat) (g : EngineS → EngineS) : (s.modEng c e g).regs = s.regs := rfl
@[simp] theorem modEng_tiles (c e : Nat) (g : EngineS → EngineS) : (s.modEng c e g).tiles = s.tiles := rfl
@[simp] theorem modEng_cores (c e : Nat) (g : EngineS → EngineS) : (s.modEng c e g).cores = s.cores := rfl
@[simp] theorem modEng_dies (c e : Nat) (g : EngineS → EngineS) : (s.modEng c e g).dies = s.dies := rfl
@[simp] theorem modEng_hbms (c e : Nat) (g : EngineS → EngineS) : (s.modEng c e g).hbms = s.hbms := rfl
@[simp] theorem modEng_ports (c e : Nat) (g : EngineS → EngineS) : (s.modEng c e g).ports = s.ports := rfl
@[simp] theorem modEng_rcopies (c e : Nat) (g : EngineS → EngineS) : (s.modEng c e g).rcopies = s.rcopies := rfl
@[simp] theorem modEng_dev (c e : Nat) (g : EngineS → EngineS) : (s.modEng c e g).dev = s.dev := rfl
@[simp] theorem modEng_host (c e : Nat) (g : EngineS → EngineS) : (s.modEng c e g).host = s.host := rfl
@[simp] theorem modEng_cstore (c e : Nat) (g : EngineS → EngineS) : (s.modEng c e g).cstore = s.cstore := rfl
@[simp] theorem modEng_tsram (c e : Nat) (g : EngineS → EngineS) : (s.modEng c e g).tsram = s.tsram := rfl
@[simp] theorem modEng_pages (c e : Nat) (g : EngineS → EngineS) : (s.modEng c e g).pages = s.pages := rfl
@[simp] theorem modEng_srv (c e : Nat) (g : EngineS → EngineS) : (s.modEng c e g).srv = s.srv := rfl
@[simp] theorem modEng_ingest (c e : Nat) (g : EngineS → EngineS) : (s.modEng c e g).ingest = s.ingest := rfl
@[simp] theorem modEng_awn (c e : Nat) (g : EngineS → EngineS) : (s.modEng c e g).awn = s.awn := rfl
@[simp] theorem modEng_flt (c e : Nat) (g : EngineS → EngineS) : (s.modEng c e g).flt = s.flt := rfl
@[simp] theorem modEng_nvm (c e : Nat) (g : EngineS → EngineS) : (s.modEng c e g).nvm = s.nvm := rfl
@[simp] theorem modEng_sec (c e : Nat) (g : EngineS → EngineS) : (s.modEng c e g).sec = s.sec := rfl
@[simp] theorem modEng_power (c e : Nat) (g : EngineS → EngineS) : (s.modEng c e g).power = s.power := rfl
@[simp] theorem modEng_msix (c e : Nat) (g : EngineS → EngineS) : (s.modEng c e g).msix = s.msix := rfl
@[simp] theorem modEng_out (c e : Nat) (g : EngineS → EngineS) : (s.modEng c e g).out = s.out := rfl
@[simp] theorem modEng_pending (c e : Nat) (g : EngineS → EngineS) : (s.modEng c e g).pending = s.pending := rfl

@[simp] theorem modCore_now (c : Nat) (g : CoreS → CoreS) : (s.modCore c g).now = s.now := rfl
@[simp] theorem modCore_sclk0 (c : Nat) (g : CoreS → CoreS) : (s.modCore c g).sclk0 = s.sclk0 := rfl
@[simp] theorem modCore_fresh (c : Nat) (g : CoreS → CoreS) : (s.modCore c g).fresh = s.fresh := rfl
@[simp] theorem modCore_regs (c : Nat) (g : CoreS → CoreS) : (s.modCore c g).regs = s.regs := rfl
@[simp] theorem modCore_tiles (c : Nat) (g : CoreS → CoreS) : (s.modCore c g).tiles = s.tiles := rfl
@[simp] theorem modCore_engines (c : Nat) (g : CoreS → CoreS) : (s.modCore c g).engines = s.engines := rfl
@[simp] theorem modCore_dies (c : Nat) (g : CoreS → CoreS) : (s.modCore c g).dies = s.dies := rfl
@[simp] theorem modCore_hbms (c : Nat) (g : CoreS → CoreS) : (s.modCore c g).hbms = s.hbms := rfl
@[simp] theorem modCore_ports (c : Nat) (g : CoreS → CoreS) : (s.modCore c g).ports = s.ports := rfl
@[simp] theorem modCore_rcopies (c : Nat) (g : CoreS → CoreS) : (s.modCore c g).rcopies = s.rcopies := rfl
@[simp] theorem modCore_dev (c : Nat) (g : CoreS → CoreS) : (s.modCore c g).dev = s.dev := rfl
@[simp] theorem modCore_host (c : Nat) (g : CoreS → CoreS) : (s.modCore c g).host = s.host := rfl
@[simp] theorem modCore_cstore (c : Nat) (g : CoreS → CoreS) : (s.modCore c g).cstore = s.cstore := rfl
@[simp] theorem modCore_tsram (c : Nat) (g : CoreS → CoreS) : (s.modCore c g).tsram = s.tsram := rfl
@[simp] theorem modCore_pages (c : Nat) (g : CoreS → CoreS) : (s.modCore c g).pages = s.pages := rfl
@[simp] theorem modCore_srv (c : Nat) (g : CoreS → CoreS) : (s.modCore c g).srv = s.srv := rfl
@[simp] theorem modCore_ingest (c : Nat) (g : CoreS → CoreS) : (s.modCore c g).ingest = s.ingest := rfl
@[simp] theorem modCore_awn (c : Nat) (g : CoreS → CoreS) : (s.modCore c g).awn = s.awn := rfl
@[simp] theorem modCore_flt (c : Nat) (g : CoreS → CoreS) : (s.modCore c g).flt = s.flt := rfl
@[simp] theorem modCore_nvm (c : Nat) (g : CoreS → CoreS) : (s.modCore c g).nvm = s.nvm := rfl
@[simp] theorem modCore_sec (c : Nat) (g : CoreS → CoreS) : (s.modCore c g).sec = s.sec := rfl
@[simp] theorem modCore_power (c : Nat) (g : CoreS → CoreS) : (s.modCore c g).power = s.power := rfl
@[simp] theorem modCore_msix (c : Nat) (g : CoreS → CoreS) : (s.modCore c g).msix = s.msix := rfl
@[simp] theorem modCore_out (c : Nat) (g : CoreS → CoreS) : (s.modCore c g).out = s.out := rfl
@[simp] theorem modCore_pending (c : Nat) (g : CoreS → CoreS) : (s.modCore c g).pending = s.pending := rfl

@[simp] theorem modDie_now (d : Nat) (g : DieS → DieS) : (s.modDie d g).now = s.now := rfl
@[simp] theorem modDie_sclk0 (d : Nat) (g : DieS → DieS) : (s.modDie d g).sclk0 = s.sclk0 := rfl
@[simp] theorem modDie_fresh (d : Nat) (g : DieS → DieS) : (s.modDie d g).fresh = s.fresh := rfl
@[simp] theorem modDie_regs (d : Nat) (g : DieS → DieS) : (s.modDie d g).regs = s.regs := rfl
@[simp] theorem modDie_tiles (d : Nat) (g : DieS → DieS) : (s.modDie d g).tiles = s.tiles := rfl
@[simp] theorem modDie_engines (d : Nat) (g : DieS → DieS) : (s.modDie d g).engines = s.engines := rfl
@[simp] theorem modDie_cores (d : Nat) (g : DieS → DieS) : (s.modDie d g).cores = s.cores := rfl
@[simp] theorem modDie_hbms (d : Nat) (g : DieS → DieS) : (s.modDie d g).hbms = s.hbms := rfl
@[simp] theorem modDie_ports (d : Nat) (g : DieS → DieS) : (s.modDie d g).ports = s.ports := rfl
@[simp] theorem modDie_rcopies (d : Nat) (g : DieS → DieS) : (s.modDie d g).rcopies = s.rcopies := rfl
@[simp] theorem modDie_dev (d : Nat) (g : DieS → DieS) : (s.modDie d g).dev = s.dev := rfl
@[simp] theorem modDie_host (d : Nat) (g : DieS → DieS) : (s.modDie d g).host = s.host := rfl
@[simp] theorem modDie_cstore (d : Nat) (g : DieS → DieS) : (s.modDie d g).cstore = s.cstore := rfl
@[simp] theorem modDie_tsram (d : Nat) (g : DieS → DieS) : (s.modDie d g).tsram = s.tsram := rfl
@[simp] theorem modDie_pages (d : Nat) (g : DieS → DieS) : (s.modDie d g).pages = s.pages := rfl
@[simp] theorem modDie_srv (d : Nat) (g : DieS → DieS) : (s.modDie d g).srv = s.srv := rfl
@[simp] theorem modDie_ingest (d : Nat) (g : DieS → DieS) : (s.modDie d g).ingest = s.ingest := rfl
@[simp] theorem modDie_awn (d : Nat) (g : DieS → DieS) : (s.modDie d g).awn = s.awn := rfl
@[simp] theorem modDie_flt (d : Nat) (g : DieS → DieS) : (s.modDie d g).flt = s.flt := rfl
@[simp] theorem modDie_nvm (d : Nat) (g : DieS → DieS) : (s.modDie d g).nvm = s.nvm := rfl
@[simp] theorem modDie_sec (d : Nat) (g : DieS → DieS) : (s.modDie d g).sec = s.sec := rfl
@[simp] theorem modDie_power (d : Nat) (g : DieS → DieS) : (s.modDie d g).power = s.power := rfl
@[simp] theorem modDie_msix (d : Nat) (g : DieS → DieS) : (s.modDie d g).msix = s.msix := rfl
@[simp] theorem modDie_out (d : Nat) (g : DieS → DieS) : (s.modDie d g).out = s.out := rfl
@[simp] theorem modDie_pending (d : Nat) (g : DieS → DieS) : (s.modDie d g).pending = s.pending := rfl

@[simp] theorem modStack_now (k : Nat) (g : StackS → StackS) : (s.modStack k g).now = s.now := rfl
@[simp] theorem modStack_sclk0 (k : Nat) (g : StackS → StackS) : (s.modStack k g).sclk0 = s.sclk0 := rfl
@[simp] theorem modStack_fresh (k : Nat) (g : StackS → StackS) : (s.modStack k g).fresh = s.fresh := rfl
@[simp] theorem modStack_regs (k : Nat) (g : StackS → StackS) : (s.modStack k g).regs = s.regs := rfl
@[simp] theorem modStack_tiles (k : Nat) (g : StackS → StackS) : (s.modStack k g).tiles = s.tiles := rfl
@[simp] theorem modStack_engines (k : Nat) (g : StackS → StackS) : (s.modStack k g).engines = s.engines := rfl
@[simp] theorem modStack_cores (k : Nat) (g : StackS → StackS) : (s.modStack k g).cores = s.cores := rfl
@[simp] theorem modStack_dies (k : Nat) (g : StackS → StackS) : (s.modStack k g).dies = s.dies := rfl
@[simp] theorem modStack_ports (k : Nat) (g : StackS → StackS) : (s.modStack k g).ports = s.ports := rfl
@[simp] theorem modStack_rcopies (k : Nat) (g : StackS → StackS) : (s.modStack k g).rcopies = s.rcopies := rfl
@[simp] theorem modStack_dev (k : Nat) (g : StackS → StackS) : (s.modStack k g).dev = s.dev := rfl
@[simp] theorem modStack_host (k : Nat) (g : StackS → StackS) : (s.modStack k g).host = s.host := rfl
@[simp] theorem modStack_cstore (k : Nat) (g : StackS → StackS) : (s.modStack k g).cstore = s.cstore := rfl
@[simp] theorem modStack_tsram (k : Nat) (g : StackS → StackS) : (s.modStack k g).tsram = s.tsram := rfl
@[simp] theorem modStack_pages (k : Nat) (g : StackS → StackS) : (s.modStack k g).pages = s.pages := rfl
@[simp] theorem modStack_srv (k : Nat) (g : StackS → StackS) : (s.modStack k g).srv = s.srv := rfl
@[simp] theorem modStack_ingest (k : Nat) (g : StackS → StackS) : (s.modStack k g).ingest = s.ingest := rfl
@[simp] theorem modStack_awn (k : Nat) (g : StackS → StackS) : (s.modStack k g).awn = s.awn := rfl
@[simp] theorem modStack_flt (k : Nat) (g : StackS → StackS) : (s.modStack k g).flt = s.flt := rfl
@[simp] theorem modStack_nvm (k : Nat) (g : StackS → StackS) : (s.modStack k g).nvm = s.nvm := rfl
@[simp] theorem modStack_sec (k : Nat) (g : StackS → StackS) : (s.modStack k g).sec = s.sec := rfl
@[simp] theorem modStack_power (k : Nat) (g : StackS → StackS) : (s.modStack k g).power = s.power := rfl
@[simp] theorem modStack_msix (k : Nat) (g : StackS → StackS) : (s.modStack k g).msix = s.msix := rfl
@[simp] theorem modStack_out (k : Nat) (g : StackS → StackS) : (s.modStack k g).out = s.out := rfl
@[simp] theorem modStack_pending (k : Nat) (g : StackS → StackS) : (s.modStack k g).pending = s.pending := rfl

@[simp] theorem modPort_now (k : Nat) (g : PortS → PortS) : (s.modPort k g).now = s.now := rfl
@[simp] theorem modPort_sclk0 (k : Nat) (g : PortS → PortS) : (s.modPort k g).sclk0 = s.sclk0 := rfl
@[simp] theorem modPort_fresh (k : Nat) (g : PortS → PortS) : (s.modPort k g).fresh = s.fresh := rfl
@[simp] theorem modPort_regs (k : Nat) (g : PortS → PortS) : (s.modPort k g).regs = s.regs := rfl
@[simp] theorem modPort_tiles (k : Nat) (g : PortS → PortS) : (s.modPort k g).tiles = s.tiles := rfl
@[simp] theorem modPort_engines (k : Nat) (g : PortS → PortS) : (s.modPort k g).engines = s.engines := rfl
@[simp] theorem modPort_cores (k : Nat) (g : PortS → PortS) : (s.modPort k g).cores = s.cores := rfl
@[simp] theorem modPort_dies (k : Nat) (g : PortS → PortS) : (s.modPort k g).dies = s.dies := rfl
@[simp] theorem modPort_hbms (k : Nat) (g : PortS → PortS) : (s.modPort k g).hbms = s.hbms := rfl
@[simp] theorem modPort_rcopies (k : Nat) (g : PortS → PortS) : (s.modPort k g).rcopies = s.rcopies := rfl
@[simp] theorem modPort_dev (k : Nat) (g : PortS → PortS) : (s.modPort k g).dev = s.dev := rfl
@[simp] theorem modPort_host (k : Nat) (g : PortS → PortS) : (s.modPort k g).host = s.host := rfl
@[simp] theorem modPort_cstore (k : Nat) (g : PortS → PortS) : (s.modPort k g).cstore = s.cstore := rfl
@[simp] theorem modPort_tsram (k : Nat) (g : PortS → PortS) : (s.modPort k g).tsram = s.tsram := rfl
@[simp] theorem modPort_pages (k : Nat) (g : PortS → PortS) : (s.modPort k g).pages = s.pages := rfl
@[simp] theorem modPort_srv (k : Nat) (g : PortS → PortS) : (s.modPort k g).srv = s.srv := rfl
@[simp] theorem modPort_ingest (k : Nat) (g : PortS → PortS) : (s.modPort k g).ingest = s.ingest := rfl
@[simp] theorem modPort_awn (k : Nat) (g : PortS → PortS) : (s.modPort k g).awn = s.awn := rfl
@[simp] theorem modPort_flt (k : Nat) (g : PortS → PortS) : (s.modPort k g).flt = s.flt := rfl
@[simp] theorem modPort_nvm (k : Nat) (g : PortS → PortS) : (s.modPort k g).nvm = s.nvm := rfl
@[simp] theorem modPort_sec (k : Nat) (g : PortS → PortS) : (s.modPort k g).sec = s.sec := rfl
@[simp] theorem modPort_power (k : Nat) (g : PortS → PortS) : (s.modPort k g).power = s.power := rfl
@[simp] theorem modPort_msix (k : Nat) (g : PortS → PortS) : (s.modPort k g).msix = s.msix := rfl
@[simp] theorem modPort_out (k : Nat) (g : PortS → PortS) : (s.modPort k g).out = s.out := rfl
@[simp] theorem modPort_pending (k : Nat) (g : PortS → PortS) : (s.modPort k g).pending = s.pending := rfl

@[simp] theorem emitR_now (r : FaultRec) : (s.emitR r).now = s.now := rfl
@[simp] theorem emitR_sclk0 (r : FaultRec) : (s.emitR r).sclk0 = s.sclk0 := rfl
@[simp] theorem emitR_fresh (r : FaultRec) : (s.emitR r).fresh = s.fresh := rfl
@[simp] theorem emitR_regs (r : FaultRec) : (s.emitR r).regs = s.regs := rfl
@[simp] theorem emitR_tiles (r : FaultRec) : (s.emitR r).tiles = s.tiles := rfl
@[simp] theorem emitR_engines (r : FaultRec) : (s.emitR r).engines = s.engines := rfl
@[simp] theorem emitR_cores (r : FaultRec) : (s.emitR r).cores = s.cores := rfl
@[simp] theorem emitR_hbms (r : FaultRec) : (s.emitR r).hbms = s.hbms := rfl
@[simp] theorem emitR_ports (r : FaultRec) : (s.emitR r).ports = s.ports := rfl
@[simp] theorem emitR_rcopies (r : FaultRec) : (s.emitR r).rcopies = s.rcopies := rfl
@[simp] theorem emitR_dev (r : FaultRec) : (s.emitR r).dev = s.dev := rfl
@[simp] theorem emitR_host (r : FaultRec) : (s.emitR r).host = s.host := rfl
@[simp] theorem emitR_cstore (r : FaultRec) : (s.emitR r).cstore = s.cstore := rfl
@[simp] theorem emitR_tsram (r : FaultRec) : (s.emitR r).tsram = s.tsram := rfl
@[simp] theorem emitR_pages (r : FaultRec) : (s.emitR r).pages = s.pages := rfl
@[simp] theorem emitR_srv (r : FaultRec) : (s.emitR r).srv = s.srv := rfl
@[simp] theorem emitR_ingest (r : FaultRec) : (s.emitR r).ingest = s.ingest := rfl
@[simp] theorem emitR_awn (r : FaultRec) : (s.emitR r).awn = s.awn := rfl
@[simp] theorem emitR_flt (r : FaultRec) : (s.emitR r).flt = s.flt := rfl
@[simp] theorem emitR_nvm (r : FaultRec) : (s.emitR r).nvm = s.nvm := rfl
@[simp] theorem emitR_sec (r : FaultRec) : (s.emitR r).sec = s.sec := rfl
@[simp] theorem emitR_power (r : FaultRec) : (s.emitR r).power = s.power := rfl
@[simp] theorem emitR_msix (r : FaultRec) : (s.emitR r).msix = s.msix := rfl
@[simp] theorem emitR_out (r : FaultRec) : (s.emitR r).out = s.out := rfl
@[simp] theorem emitR_pending (r : FaultRec) : (s.emitR r).pending = s.pending := rfl

/-! ### Register fields and unit records after an update -/

@[simp] theorem rd_send (m : OutMsg) (q : Nat) (h : Fld) : (s.send m).rd q h = s.rd q h := rfl
@[simp] theorem rd_takeFree (q : Nat) (h : Fld) : (s.takeFree).rd q h = s.rd q h := rfl
@[simp] theorem rd_setTile (c e t : Nat) (x : TileS) (q : Nat) (h : Fld) : (s.setTile c e t x).rd q h = s.rd q h := rfl
@[simp] theorem rd_setEng (c e : Nat) (x : EngineS) (q : Nat) (h : Fld) : (s.setEng c e x).rd q h = s.rd q h := rfl
@[simp] theorem rd_setCore (c : Nat) (x : CoreS) (q : Nat) (h : Fld) : (s.setCore c x).rd q h = s.rd q h := rfl
@[simp] theorem rd_setDie (d : Nat) (x : DieS) (q : Nat) (h : Fld) : (s.setDie d x).rd q h = s.rd q h := rfl
@[simp] theorem rd_setStack (k : Nat) (x : StackS) (q : Nat) (h : Fld) : (s.setStack k x).rd q h = s.rd q h := rfl
@[simp] theorem rd_setPort (k : Nat) (x : PortS) (q : Nat) (h : Fld) : (s.setPort k x).rd q h = s.rd q h := rfl
@[simp] theorem rd_modTile (c e t : Nat) (g : TileS → TileS) (q : Nat) (h : Fld) : (s.modTile c e t g).rd q h = s.rd q h := rfl
@[simp] theorem rd_modEng (c e : Nat) (g : EngineS → EngineS) (q : Nat) (h : Fld) : (s.modEng c e g).rd q h = s.rd q h := rfl
@[simp] theorem rd_modCore (c : Nat) (g : CoreS → CoreS) (q : Nat) (h : Fld) : (s.modCore c g).rd q h = s.rd q h := rfl
@[simp] theorem rd_modDie (d : Nat) (g : DieS → DieS) (q : Nat) (h : Fld) : (s.modDie d g).rd q h = s.rd q h := rfl
@[simp] theorem rd_modStack (k : Nat) (g : StackS → StackS) (q : Nat) (h : Fld) : (s.modStack k g).rd q h = s.rd q h := rfl
@[simp] theorem rd_modPort (k : Nat) (g : PortS → PortS) (q : Nat) (h : Fld) : (s.modPort k g).rd q h = s.rd q h := rfl
@[simp] theorem rd_emitR (r : FaultRec) (q : Nat) (h : Fld) : (s.emitR r).rd q h = s.rd q h := rfl
@[simp] theorem tile_wr (p : Nat) (f : Fld) (v : Nat) (q i j : Nat) : (s.wr p f v).tile q i j = s.tile q i j := rfl
@[simp] theorem tile_send (m : OutMsg) (q i j : Nat) : (s.send m).tile q i j = s.tile q i j := rfl
@[simp] theorem tile_takeFree (q i j : Nat) : (s.takeFree).tile q i j = s.tile q i j := rfl
@[simp] theorem tile_setEng (c e : Nat) (x : EngineS) (q i j : Nat) : (s.setEng c e x).tile q i j = s.tile q i j := rfl
@[simp] theorem tile_setCore (c : Nat) (x : CoreS) (q i j : Nat) : (s.setCore c x).tile q i j = s.tile q i j := rfl
@[simp] theorem tile_setDie (d : Nat) (x : DieS) (q i j : Nat) : (s.setDie d x).tile q i j = s.tile q i j := rfl
@[simp] theorem tile_setStack (k : Nat) (x : StackS) (q i j : Nat) : (s.setStack k x).tile q i j = s.tile q i j := rfl
@[simp] theorem tile_setPort (k : Nat) (x : PortS) (q i j : Nat) : (s.setPort k x).tile q i j = s.tile q i j := rfl
@[simp] theorem tile_modEng (c e : Nat) (g : EngineS → EngineS) (q i j : Nat) : (s.modEng c e g).tile q i j = s.tile q i j := rfl
@[simp] theorem tile_modCore (c : Nat) (g : CoreS → CoreS) (q i j : Nat) : (s.modCore c g).tile q i j = s.tile q i j := rfl
@[simp] theorem tile_modDie (d : Nat) (g : DieS → DieS) (q i j : Nat) : (s.modDie d g).tile q i j = s.tile q i j := rfl
@[simp] theorem tile_modStack (k : Nat) (g : StackS → StackS) (q i j : Nat) : (s.modStack k g).tile q i j = s.tile q i j := rfl
@[simp] theorem tile_modPort (k : Nat) (g : PortS → PortS) (q i j : Nat) : (s.modPort k g).tile q i j = s.tile q i j := rfl
@[simp] theorem tile_emitR (r : FaultRec) (q i j : Nat) : (s.emitR r).tile q i j = s.tile q i j := rfl
@[simp] theorem eng_wr (p : Nat) (f : Fld) (v : Nat) (q i : Nat) : (s.wr p f v).eng q i = s.eng q i := rfl
@[simp] theorem eng_send (m : OutMsg) (q i : Nat) : (s.send m).eng q i = s.eng q i := rfl
@[simp] theorem eng_takeFree (q i : Nat) : (s.takeFree).eng q i = s.eng q i := rfl
@[simp] theorem eng_setTile (c e t : Nat) (x : TileS) (q i : Nat) : (s.setTile c e t x).eng q i = s.eng q i := rfl
@[simp] theorem eng_setCore (c : Nat) (x : CoreS) (q i : Nat) : (s.setCore c x).eng q i = s.eng q i := rfl
@[simp] theorem eng_setDie (d : Nat) (x : DieS) (q i : Nat) : (s.setDie d x).eng q i = s.eng q i := rfl
@[simp] theorem eng_setStack (k : Nat) (x : StackS) (q i : Nat) : (s.setStack k x).eng q i = s.eng q i := rfl
@[simp] theorem eng_setPort (k : Nat) (x : PortS) (q i : Nat) : (s.setPort k x).eng q i = s.eng q i := rfl
@[simp] theorem eng_modTile (c e t : Nat) (g : TileS → TileS) (q i : Nat) : (s.modTile c e t g).eng q i = s.eng q i := rfl
@[simp] theorem eng_modCore (c : Nat) (g : CoreS → CoreS) (q i : Nat) : (s.modCore c g).eng q i = s.eng q i := rfl
@[simp] theorem eng_modDie (d : Nat) (g : DieS → DieS) (q i : Nat) : (s.modDie d g).eng q i = s.eng q i := rfl
@[simp] theorem eng_modStack (k : Nat) (g : StackS → StackS) (q i : Nat) : (s.modStack k g).eng q i = s.eng q i := rfl
@[simp] theorem eng_modPort (k : Nat) (g : PortS → PortS) (q i : Nat) : (s.modPort k g).eng q i = s.eng q i := rfl
@[simp] theorem eng_emitR (r : FaultRec) (q i : Nat) : (s.emitR r).eng q i = s.eng q i := rfl
@[simp] theorem core_wr (p : Nat) (f : Fld) (v : Nat) (q : Nat) : (s.wr p f v).core q = s.core q := rfl
@[simp] theorem core_send (m : OutMsg) (q : Nat) : (s.send m).core q = s.core q := rfl
@[simp] theorem core_takeFree (q : Nat) : (s.takeFree).core q = s.core q := rfl
@[simp] theorem core_setTile (c e t : Nat) (x : TileS) (q : Nat) : (s.setTile c e t x).core q = s.core q := rfl
@[simp] theorem core_setEng (c e : Nat) (x : EngineS) (q : Nat) : (s.setEng c e x).core q = s.core q := rfl
@[simp] theorem core_setDie (d : Nat) (x : DieS) (q : Nat) : (s.setDie d x).core q = s.core q := rfl
@[simp] theorem core_setStack (k : Nat) (x : StackS) (q : Nat) : (s.setStack k x).core q = s.core q := rfl
@[simp] theorem core_setPort (k : Nat) (x : PortS) (q : Nat) : (s.setPort k x).core q = s.core q := rfl
@[simp] theorem core_modTile (c e t : Nat) (g : TileS → TileS) (q : Nat) : (s.modTile c e t g).core q = s.core q := rfl
@[simp] theorem core_modEng (c e : Nat) (g : EngineS → EngineS) (q : Nat) : (s.modEng c e g).core q = s.core q := rfl
@[simp] theorem core_modDie (d : Nat) (g : DieS → DieS) (q : Nat) : (s.modDie d g).core q = s.core q := rfl
@[simp] theorem core_modStack (k : Nat) (g : StackS → StackS) (q : Nat) : (s.modStack k g).core q = s.core q := rfl
@[simp] theorem core_modPort (k : Nat) (g : PortS → PortS) (q : Nat) : (s.modPort k g).core q = s.core q := rfl
@[simp] theorem core_emitR (r : FaultRec) (q : Nat) : (s.emitR r).core q = s.core q := rfl
@[simp] theorem die_wr (p : Nat) (f : Fld) (v : Nat) (q : Nat) : (s.wr p f v).die q = s.die q := rfl
@[simp] theorem die_send (m : OutMsg) (q : Nat) : (s.send m).die q = s.die q := rfl
@[simp] theorem die_takeFree (q : Nat) : (s.takeFree).die q = s.die q := rfl
@[simp] theorem die_setTile (c e t : Nat) (x : TileS) (q : Nat) : (s.setTile c e t x).die q = s.die q := rfl
@[simp] theorem die_setEng (c e : Nat) (x : EngineS) (q : Nat) : (s.setEng c e x).die q = s.die q := rfl
@[simp] theorem die_setCore (c : Nat) (x : CoreS) (q : Nat) : (s.setCore c x).die q = s.die q := rfl
@[simp] theorem die_setStack (k : Nat) (x : StackS) (q : Nat) : (s.setStack k x).die q = s.die q := rfl
@[simp] theorem die_setPort (k : Nat) (x : PortS) (q : Nat) : (s.setPort k x).die q = s.die q := rfl
@[simp] theorem die_modTile (c e t : Nat) (g : TileS → TileS) (q : Nat) : (s.modTile c e t g).die q = s.die q := rfl
@[simp] theorem die_modEng (c e : Nat) (g : EngineS → EngineS) (q : Nat) : (s.modEng c e g).die q = s.die q := rfl
@[simp] theorem die_modCore (c : Nat) (g : CoreS → CoreS) (q : Nat) : (s.modCore c g).die q = s.die q := rfl
@[simp] theorem die_modStack (k : Nat) (g : StackS → StackS) (q : Nat) : (s.modStack k g).die q = s.die q := rfl
@[simp] theorem die_modPort (k : Nat) (g : PortS → PortS) (q : Nat) : (s.modPort k g).die q = s.die q := rfl
@[simp] theorem stack_wr (p : Nat) (f : Fld) (v : Nat) (q : Nat) : (s.wr p f v).stack q = s.stack q := rfl
@[simp] theorem stack_send (m : OutMsg) (q : Nat) : (s.send m).stack q = s.stack q := rfl
@[simp] theorem stack_takeFree (q : Nat) : (s.takeFree).stack q = s.stack q := rfl
@[simp] theorem stack_setTile (c e t : Nat) (x : TileS) (q : Nat) : (s.setTile c e t x).stack q = s.stack q := rfl
@[simp] theorem stack_setEng (c e : Nat) (x : EngineS) (q : Nat) : (s.setEng c e x).stack q = s.stack q := rfl
@[simp] theorem stack_setCore (c : Nat) (x : CoreS) (q : Nat) : (s.setCore c x).stack q = s.stack q := rfl
@[simp] theorem stack_setDie (d : Nat) (x : DieS) (q : Nat) : (s.setDie d x).stack q = s.stack q := rfl
@[simp] theorem stack_setPort (k : Nat) (x : PortS) (q : Nat) : (s.setPort k x).stack q = s.stack q := rfl
@[simp] theorem stack_modTile (c e t : Nat) (g : TileS → TileS) (q : Nat) : (s.modTile c e t g).stack q = s.stack q := rfl
@[simp] theorem stack_modEng (c e : Nat) (g : EngineS → EngineS) (q : Nat) : (s.modEng c e g).stack q = s.stack q := rfl
@[simp] theorem stack_modCore (c : Nat) (g : CoreS → CoreS) (q : Nat) : (s.modCore c g).stack q = s.stack q := rfl
@[simp] theorem stack_modDie (d : Nat) (g : DieS → DieS) (q : Nat) : (s.modDie d g).stack q = s.stack q := rfl
@[simp] theorem stack_modPort (k : Nat) (g : PortS → PortS) (q : Nat) : (s.modPort k g).stack q = s.stack q := rfl
@[simp] theorem stack_emitR (r : FaultRec) (q : Nat) : (s.emitR r).stack q = s.stack q := rfl
@[simp] theorem port_wr (p : Nat) (f : Fld) (v : Nat) (q : Nat) : (s.wr p f v).port q = s.port q := rfl
@[simp] theorem port_send (m : OutMsg) (q : Nat) : (s.send m).port q = s.port q := rfl
@[simp] theorem port_takeFree (q : Nat) : (s.takeFree).port q = s.port q := rfl
@[simp] theorem port_setTile (c e t : Nat) (x : TileS) (q : Nat) : (s.setTile c e t x).port q = s.port q := rfl
@[simp] theorem port_setEng (c e : Nat) (x : EngineS) (q : Nat) : (s.setEng c e x).port q = s.port q := rfl
@[simp] theorem port_setCore (c : Nat) (x : CoreS) (q : Nat) : (s.setCore c x).port q = s.port q := rfl
@[simp] theorem port_setDie (d : Nat) (x : DieS) (q : Nat) : (s.setDie d x).port q = s.port q := rfl
@[simp] theorem port_setStack (k : Nat) (x : StackS) (q : Nat) : (s.setStack k x).port q = s.port q := rfl
@[simp] theorem port_modTile (c e t : Nat) (g : TileS → TileS) (q : Nat) : (s.modTile c e t g).port q = s.port q := rfl
@[simp] theorem port_modEng (c e : Nat) (g : EngineS → EngineS) (q : Nat) : (s.modEng c e g).port q = s.port q := rfl
@[simp] theorem port_modCore (c : Nat) (g : CoreS → CoreS) (q : Nat) : (s.modCore c g).port q = s.port q := rfl
@[simp] theorem port_modDie (d : Nat) (g : DieS → DieS) (q : Nat) : (s.modDie d g).port q = s.port q := rfl
@[simp] theorem port_modStack (k : Nat) (g : StackS → StackS) (q : Nat) : (s.modStack k g).port q = s.port q := rfl
@[simp] theorem port_emitR (r : FaultRec) (q : Nat) : (s.emitR r).port q = s.port q := rfl

/-! ### Maps -/

theorem mfind_mput_same {α : Type} (m : FMap α) (k : Nat) (v : α) : mfind (mput m k v) k = some v := by
  induction m with
  | nil => simp [mput, mfind]
  | cons x m ih =>
    simp only [mput]
    split
    · simp [mfind]
    · split
      · simp [mfind]
      · simp [mfind, *]

theorem mfind_mput_other {α : Type} (m : FMap α) (k i : Nat) (v : α) (h : i ≠ k) : mfind (mput m k v) i = mfind m i := by
  induction m with
  | nil => simp [mput, mfind, h]
  | cons x m ih =>
    simp only [mput]
    split
    · simp [mfind, h]
    · split
      · subst_vars; simp [mfind, h]
      · simp only [mfind, ih]

@[simp] theorem mget_mput_same {α : Type} (m : FMap α) (d v : α) (k : Nat) : mget (mput m k v) d k = v := by
  simp [mget, mfind_mput_same]

theorem mget_mput_other {α : Type} (m : FMap α) (d v : α) (k i : Nat) (h : i ≠ k) : mget (mput m k v) d i = mget m d i := by
  simp [mget, mfind_mput_other m k i v h]

@[simp] theorem rd_wr_same (p : Nat) (f : Fld) (v : Nat) : (s.wr p f v).rd p f = v % 2 ^ f.width := by
  simp [State.rd, State.wr]

theorem rd_wr_other (p q : Nat) (f h : Fld) (v : Nat) (hk : fkey q h ≠ fkey p f) : (s.wr p f v).rd q h = s.rd q h := by
  simp [State.rd, State.wr, mget_mput_other _ _ _ _ _ hk]

@[simp] theorem tile_setTile_same (c e t : Nat) (x : TileS) : (s.setTile c e t x).tile c e t = x := by
  simp [State.tile, State.setTile]

@[simp] theorem eng_setEng_same (c e : Nat) (x : EngineS) : (s.setEng c e x).eng c e = x := by
  simp [State.eng, State.setEng]

@[simp] theorem core_setCore_same (c : Nat) (x : CoreS) : (s.setCore c x).core c = x := by
  simp [State.core, State.setCore]

@[simp] theorem die_setDie_same (d : Nat) (x : DieS) : (s.setDie d x).die d = x := by
  simp [State.die, State.setDie]

@[simp] theorem stack_setStack_same (k : Nat) (x : StackS) : (s.setStack k x).stack k = x := by
  simp [State.stack, State.setStack]

@[simp] theorem port_setPort_same (k : Nat) (x : PortS) : (s.setPort k x).port k = x := by
  simp [State.port, State.setPort]

@[simp] theorem tile_modTile_same (c e t : Nat) (g : TileS → TileS) : (s.modTile c e t g).tile c e t = g (s.tile c e t) := by
  simp [State.modTile]

@[simp] theorem eng_modEng_same (c e : Nat) (g : EngineS → EngineS) : (s.modEng c e g).eng c e = g (s.eng c e) := by
  simp [State.modEng]

@[simp] theorem core_modCore_same (c : Nat) (g : CoreS → CoreS) : (s.modCore c g).core c = g (s.core c) := by
  simp [State.modCore]

@[simp] theorem die_modDie_same (d : Nat) (g : DieS → DieS) : (s.modDie d g).die d = g (s.die d) := by
  simp [State.modDie]

@[simp] theorem stack_modStack_same (k : Nat) (g : StackS → StackS) : (s.modStack k g).stack k = g (s.stack k) := by
  simp [State.modStack]

@[simp] theorem port_modPort_same (k : Nat) (g : PortS → PortS) : (s.modPort k g).port k = g (s.port k) := by
  simp [State.modPort]

end Sys2Proof.Machine
end

