-- ==== Sys2Proof/Laws/Ops.lean ====
section
/-! SUPPORT. What the shared operations do: the frame every meaning stands in, interrupts, fault records, counters. -/

namespace Sys2Proof.Machine

/-! ### The frame of a meaning -/

theorem gated_of_lets {s : State} {i : Instr} (h : s.lets i) (t : State) : s.gated i t = t := by
  obtain ⟨-, hg, hd⟩ := h
  unfold State.gated
  cases hf : s.frozen with
  | true =>
    have hw : gateOf i = .always := by simpa [hf] using hg
    simp [hw]
  | false =>
    simp only [Bool.false_eq_true, if_false]
    cases hr : s.rowWrite i with
    | none => rfl
    | some x => simp [hd x hr]

/-- Where nothing keeps a command back, it ends in the state its effect gives. -/
theorem onWf_of_lets {s : State} {i : Instr} (h : s.lets i) (t : State) : onWf s i t = .next t := by
  simp [onWf, h.1, gated_of_lets h]

/-- `State.lets` as a check that evaluates. -/
def State.letsCheck (s : State) (i : Instr) : Bool :=
  i.wf && (decide (gateOf i = .always) || !s.frozen) && (s.rowWrite i).all (fun x => !s.domainStopped x.1 x.2.1)

theorem lets_of_check {s : State} {i : Instr} (h : s.letsCheck i = true) : s.lets i := by
  simp only [State.letsCheck, Bool.and_eq_true, Bool.or_eq_true, decide_eq_true_eq, Bool.not_eq_true', Option.all_eq_true] at h
  exact ⟨h.1.1, h.1.2, fun x hx => h.2 x hx⟩

/-- What a command that executes has done: it is well-formed, and the state is its effect as far as it is let through. -/
theorem onWf_next {s t u : State} {i : Instr} (h : onWf s i t = .next u) : i.wf = true ∧ u = s.gated i t := by
  unfold onWf at h
  split at h
  · next hw => exact ⟨hw, by simpa using h.symm⟩
  · cases h

/-- The outcomes that a gate leaves: the effect, nothing, an access held or refused. -/
theorem gated_cases (s : State) (i : Instr) (t : State) :
    s.gated i t = t ∨ s.gated i t = s ∨ s.gated i t = s.send .abort ∨ s.gated i t = s.extRefuse 0 0 false
      ∨ ∃ x, s.rowWrite i = some x ∧ s.gated i t = s.holdAccess x.1 x.2.1 x.2.2.1 (some x.2.2.2) := by
  unfold State.gated
  split
  · split
    · exact .inl rfl
    · split
      · exact .inr (.inl rfl)
      · exact .inl rfl
    · exact .inr (.inl rfl)
    · exact .inr (.inr (.inl rfl))
    · exact .inr (.inr (.inr (.inl rfl)))
  · split
    · next p off w v he =>
      split
      · exact .inr (.inr (.inr (.inr ⟨(p, off, w, v), he, rfl⟩)))
      · exact .inl rfl
    · exact .inl rfl

theorem completes_of_lets {s t : State} {i : Instr} {P : State → Prop} (h : s.lets i) (he : exec i s = onWf s i t) (hp : P t) :
    Completes i s P := ⟨t, he.trans (onWf_of_lets h t), hp⟩

/-! ### What a statement says a command keeps -/

theorem Keeps.refl (ps : List Part) (s : State) : Keeps ps s s := fun p _ => by cases p <;> rfl

theorem Keeps.mono {P Q : List Part} {s t : State} (h : Keeps P s t) (hq : ∀ p ∈ P, p ∈ Q) : Keeps Q s t :=
  fun p hp => h p fun hm => hp (hq p hm)

theorem PagesKept.refl (ps : List Nat) (s : State) : PagesKept ps s s := fun _ _ => rfl

/-- Only the registers count. -/
theorem PagesKept.of_regs {ps : List Nat} {s t u : State} (h : u.regs = t.regs) (k : PagesKept ps s t) : PagesKept ps s u := by
  intro a ha
  rw [h]
  exact k a ha

theorem PagesKept.wr {ps : List Nat} {s t : State} (p : Nat) (f : Fld) (v : Nat) (hp : fkey p f / 32768 ∈ ps) (h : PagesKept ps s t) :
    PagesKept ps s (t.wr p f v) := by
  intro k hk
  have hne : k ≠ fkey p f := by
    rintro rfl
    exact hk hp
  simp [State.wr, mfind_mput_other _ _ _ _ hne, h k hk]

theorem AgreeOff.refl {α : Type} (ks : List Nat) (m : FMap α) : AgreeOff ks m m := fun _ _ => rfl

theorem AgreeOff.mput {α : Type} (m : FMap α) (k : Nat) (v : α) : AgreeOff [k] m (mput m k v) :=
  fun a ha => mfind_mput_other _ _ _ _ (by simpa using ha)

/-- A register reads what the last write gave it. -/
theorem rd_wr (s : State) (p q : Nat) (f h : Fld) (v : Nat) :
    (s.wr p f v).rd q h = if fkey q h = fkey p f then v % 2 ^ f.width else s.rd q h := by
  by_cases hk : fkey q h = fkey p f
  · simp [hk, State.rd, State.wr]
  · simp [hk, rd_wr_other _ _ _ _ _ _ hk]

/-! ### Interrupts: only registers and messages change -/

variable (s : State)

theorem sendMsix_only (f v : Nat) :
    s.sendMsix f v = { s with msix := (s.sendMsix f v).msix, out := (s.sendMsix f v).out } := by
  unfold State.sendMsix
  split <;> rfl

@[simp] theorem sendMsix_now (f v : Nat) : (s.sendMsix f v).now = s.now := by rw [sendMsix_only]
@[simp] theorem sendMsix_sclk0 (f v : Nat) : (s.sendMsix f v).sclk0 = s.sclk0 := by rw [sendMsix_only]
@[simp] theorem sendMsix_fresh (f v : Nat) : (s.sendMsix f v).fresh = s.fresh := by rw [sendMsix_only]
@[simp] theorem sendMsix_regs (f v : Nat) : (s.sendMsix f v).regs = s.regs := by rw [sendMsix_only]
@[simp] theorem sendMsix_tiles (f v : Nat) : (s.sendMsix f v).tiles = s.tiles := by rw [sendMsix_only]
@[simp] theorem sendMsix_engines (f v : Nat) : (s.sendMsix f v).engines = s.engines := by rw [sendMsix_only]
@[simp] theorem sendMsix_cores (f v : Nat) : (s.sendMsix f v).cores = s.cores := by rw [sendMsix_only]
@[simp] theorem sendMsix_dies (f v : Nat) : (s.sendMsix f v).dies = s.dies := by rw [sendMsix_only]
@[simp] theorem sendMsix_hbms (f v : Nat) : (s.sendMsix f v).hbms = s.hbms := by rw [sendMsix_only]
@[simp] theorem sendMsix_ports (f v : Nat) : (s.sendMsix f v).ports = s.ports := by rw [sendMsix_only]
@[simp] theorem sendMsix_rcopies (f v : Nat) : (s.sendMsix f v).rcopies = s.rcopies := by rw [sendMsix_only]
@[simp] theorem sendMsix_dev (f v : Nat) : (s.sendMsix f v).dev = s.dev := by rw [sendMsix_only]
@[simp] theorem sendMsix_host (f v : Nat) : (s.sendMsix f v).host = s.host := by rw [sendMsix_only]
@[simp] theorem sendMsix_cstore (f v : Nat) : (s.sendMsix f v).cstore = s.cstore := by rw [sendMsix_only]
@[simp] theorem sendMsix_tsram (f v : Nat) : (s.sendMsix f v).tsram = s.tsram := by rw [sendMsix_only]
@[simp] theorem sendMsix_pages (f v : Nat) : (s.sendMsix f v).pages = s.pages := by rw [sendMsix_only]
@[simp] theorem sendMsix_srv (f v : Nat) : (s.sendMsix f v).srv = s.srv := by rw [sendMsix_only]
@[simp] theorem sendMsix_ingest (f v : Nat) : (s.sendMsix f v).ingest = s.ingest := by rw [sendMsix_only]
@[simp] theorem sendMsix_awn (f v : Nat) : (s.sendMsix f v).awn = s.awn := by rw [sendMsix_only]
@[simp] theorem sendMsix_flt (f v : Nat) : (s.sendMsix f v).flt = s.flt := by rw [sendMsix_only]
@[simp] theorem sendMsix_nvm (f v : Nat) : (s.sendMsix f v).nvm = s.nvm := by rw [sendMsix_only]
@[simp] theorem sendMsix_sec (f v : Nat) : (s.sendMsix f v).sec = s.sec := by rw [sendMsix_only]
@[simp] theorem sendMsix_power (f v : Nat) : (s.sendMsix f v).power = s.power := by rw [sendMsix_only]
@[simp] theorem sendMsix_pending (f v : Nat) : (s.sendMsix f v).pending = s.pending := by rw [sendMsix_only]

/-- A vector of a function is sent or, where it is masked, pends: nothing else changes, and no table does. -/
theorem sendMsix_table (f v : Nat) : (s.sendMsix f v).msix.table = s.msix.table := by
  unfold State.sendMsix
  split <;> rfl

theorem gather_only (p : Nat) (b : Bool) :
    s.gather p b = { s with regs := (s.gather p b).regs, msix := (s.gather p b).msix, out := (s.gather p b).out } := by
  unfold State.gather State.sendMsix
  dsimp only
  split <;> (repeat' split) <;> rfl

theorem irq_only (p i : Nat) : s.irq p i = { s with regs := (s.irq p i).regs, msix := (s.irq p i).msix, out := (s.irq p i).out } := by
  unfold State.irq
  rw [gather_only]
  rfl

theorem engEvt_only (p : Nat) (f : Fld) :
    s.engEvt p f = { s with regs := (s.engEvt p f).regs, msix := (s.engEvt p f).msix, out := (s.engEvt p f).out } := by
  unfold State.engEvt
  rw [gather_only]
  rfl

theorem emitLimited_only (d key period p code addr : Nat) :
    s.emitLimited d key period p code addr = { s with dies := (s.emitLimited d key period p code addr).dies } := by
  unfold State.emitLimited
  split
  · split <;> rfl
  · rfl

@[simp] theorem gather_now (p : Nat) (b : Bool) : (s.gather p b).now = s.now := by rw [gather_only]
@[simp] theorem gather_sclk0 (p : Nat) (b : Bool) : (s.gather p b).sclk0 = s.sclk0 := by rw [gather_only]
@[simp] theorem gather_fresh (p : Nat) (b : Bool) : (s.gather p b).fresh = s.fresh := by rw [gather_only]
@[simp] theorem gather_tiles (p : Nat) (b : Bool) : (s.gather p b).tiles = s.tiles := by rw [gather_only]
@[simp] theorem gather_engines (p : Nat) (b : Bool) : (s.gather p b).engines = s.engines := by rw [gather_only]
@[simp] theorem gather_cores (p : Nat) (b : Bool) : (s.gather p b).cores = s.cores := by rw [gather_only]
@[simp] theorem gather_dies (p : Nat) (b : Bool) : (s.gather p b).dies = s.dies := by rw [gather_only]
@[simp] theorem gather_hbms (p : Nat) (b : Bool) : (s.gather p b).hbms = s.hbms := by rw [gather_only]
@[simp] theorem gather_ports (p : Nat) (b : Bool) : (s.gather p b).ports = s.ports := by rw [gather_only]
@[simp] theorem gather_rcopies (p : Nat) (b : Bool) : (s.gather p b).rcopies = s.rcopies := by rw [gather_only]
@[simp] theorem gather_dev (p : Nat) (b : Bool) : (s.gather p b).dev = s.dev := by rw [gather_only]
@[simp] theorem gather_host (p : Nat) (b : Bool) : (s.gather p b).host = s.host := by rw [gather_only]
@[simp] theorem gather_cstore (p : Nat) (b : Bool) : (s.gather p b).cstore = s.cstore := by rw [gather_only]
@[simp] theorem gather_tsram (p : Nat) (b : Bool) : (s.gather p b).tsram = s.tsram := by rw [gather_only]
@[simp] theorem gather_pages (p : Nat) (b : Bool) : (s.gather p b).pages = s.pages := by rw [gather_only]
@[simp] theorem gather_srv (p : Nat) (b : Bool) : (s.gather p b).srv = s.srv := by rw [gather_only]
@[simp] theorem gather_ingest (p : Nat) (b : Bool) : (s.gather p b).ingest = s.ingest := by rw [gather_only]
@[simp] theorem gather_awn (p : Nat) (b : Bool) : (s.gather p b).awn = s.awn := by rw [gather_only]
@[simp] theorem gather_flt (p : Nat) (b : Bool) : (s.gather p b).flt = s.flt := by rw [gather_only]
@[simp] theorem gather_nvm (p : Nat) (b : Bool) : (s.gather p b).nvm = s.nvm := by rw [gather_only]
@[simp] theorem gather_sec (p : Nat) (b : Bool) : (s.gather p b).sec = s.sec := by rw [gather_only]
@[simp] theorem gather_power (p : Nat) (b : Bool) : (s.gather p b).power = s.power := by rw [gather_only]
@[simp] theorem gather_pending (p : Nat) (b : Bool) : (s.gather p b).pending = s.pending := by rw [gather_only]

@[simp] theorem irq_now (p i : Nat) : (s.irq p i).now = s.now := by rw [irq_only]
@[simp] theorem irq_sclk0 (p i : Nat) : (s.irq p i).sclk0 = s.sclk0 := by rw [irq_only]
@[simp] theorem irq_fresh (p i : Nat) : (s.irq p i).fresh = s.fresh := by rw [irq_only]
@[simp] theorem irq_tiles (p i : Nat) : (s.irq p i).tiles = s.tiles := by rw [irq_only]
@[simp] theorem irq_engines (p i : Nat) : (s.irq p i).engines = s.engines := by rw [irq_only]
@[simp] theorem irq_cores (p i : Nat) : (s.irq p i).cores = s.cores := by rw [irq_only]
@[simp] theorem irq_dies (p i : Nat) : (s.irq p i).dies = s.dies := by rw [irq_only]
@[simp] theorem irq_hbms (p i : Nat) : (s.irq p i).hbms = s.hbms := by rw [irq_only]
@[simp] theorem irq_ports (p i : Nat) : (s.irq p i).ports = s.ports := by rw [irq_only]
@[simp] theorem irq_rcopies (p i : Nat) : (s.irq p i).rcopies = s.rcopies := by rw [irq_only]
@[simp] theorem irq_dev (p i : Nat) : (s.irq p i).dev = s.dev := by rw [irq_only]
@[simp] theorem irq_host (p i : Nat) : (s.irq p i).host = s.host := by rw [irq_only]
@[simp] theorem irq_cstore (p i : Nat) : (s.irq p i).cstore = s.cstore := by rw [irq_only]
@[simp] theorem irq_tsram (p i : Nat) : (s.irq p i).tsram = s.tsram := by rw [irq_only]
@[simp] theorem irq_pages (p i : Nat) : (s.irq p i).pages = s.pages := by rw [irq_only]
@[simp] theorem irq_srv (p i : Nat) : (s.irq p i).srv = s.srv := by rw [irq_only]
@[simp] theorem irq_ingest (p i : Nat) : (s.irq p i).ingest = s.ingest := by rw [irq_only]
@[simp] theorem irq_awn (p i : Nat) : (s.irq p i).awn = s.awn := by rw [irq_only]
@[simp] theorem irq_flt (p i : Nat) : (s.irq p i).flt = s.flt := by rw [irq_only]
@[simp] theorem irq_nvm (p i : Nat) : (s.irq p i).nvm = s.nvm := by rw [irq_only]
@[simp] theorem irq_sec (p i : Nat) : (s.irq p i).sec = s.sec := by rw [irq_only]
@[simp] theorem irq_power (p i : Nat) : (s.irq p i).power = s.power := by rw [irq_only]
@[simp] theorem irq_pending (p i : Nat) : (s.irq p i).pending = s.pending := by rw [irq_only]

@[simp] theorem engEvt_now (p : Nat) (f : Fld) : (s.engEvt p f).now = s.now := by rw [engEvt_only]
@[simp] theorem engEvt_sclk0 (p : Nat) (f : Fld) : (s.engEvt p f).sclk0 = s.sclk0 := by rw [engEvt_only]
@[simp] theorem engEvt_fresh (p : Nat) (f : Fld) : (s.engEvt p f).fresh = s.fresh := by rw [engEvt_only]
@[simp] theorem engEvt_tiles (p : Nat) (f : Fld) : (s.engEvt p f).tiles = s.tiles := by rw [engEvt_only]
@[simp] theorem engEvt_engines (p : Nat) (f : Fld) : (s.engEvt p f).engines = s.engines := by rw [engEvt_only]
@[simp] theorem engEvt_cores (p : Nat) (f : Fld) : (s.engEvt p f).cores = s.cores := by rw [engEvt_only]
@[simp] theorem engEvt_dies (p : Nat) (f : Fld) : (s.engEvt p f).dies = s.dies := by rw [engEvt_only]
@[simp] theorem engEvt_hbms (p : Nat) (f : Fld) : (s.engEvt p f).hbms = s.hbms := by rw [engEvt_only]
@[simp] theorem engEvt_ports (p : Nat) (f : Fld) : (s.engEvt p f).ports = s.ports := by rw [engEvt_only]
@[simp] theorem engEvt_rcopies (p : Nat) (f : Fld) : (s.engEvt p f).rcopies = s.rcopies := by rw [engEvt_only]
@[simp] theorem engEvt_dev (p : Nat) (f : Fld) : (s.engEvt p f).dev = s.dev := by rw [engEvt_only]
@[simp] theorem engEvt_host (p : Nat) (f : Fld) : (s.engEvt p f).host = s.host := by rw [engEvt_only]
@[simp] theorem engEvt_cstore (p : Nat) (f : Fld) : (s.engEvt p f).cstore = s.cstore := by rw [engEvt_only]
@[simp] theorem engEvt_tsram (p : Nat) (f : Fld) : (s.engEvt p f).tsram = s.tsram := by rw [engEvt_only]
@[simp] theorem engEvt_pages (p : Nat) (f : Fld) : (s.engEvt p f).pages = s.pages := by rw [engEvt_only]
@[simp] theorem engEvt_srv (p : Nat) (f : Fld) : (s.engEvt p f).srv = s.srv := by rw [engEvt_only]
@[simp] theorem engEvt_ingest (p : Nat) (f : Fld) : (s.engEvt p f).ingest = s.ingest := by rw [engEvt_only]
@[simp] theorem engEvt_awn (p : Nat) (f : Fld) : (s.engEvt p f).awn = s.awn := by rw [engEvt_only]
@[simp] theorem engEvt_flt (p : Nat) (f : Fld) : (s.engEvt p f).flt = s.flt := by rw [engEvt_only]
@[simp] theorem engEvt_nvm (p : Nat) (f : Fld) : (s.engEvt p f).nvm = s.nvm := by rw [engEvt_only]
@[simp] theorem engEvt_sec (p : Nat) (f : Fld) : (s.engEvt p f).sec = s.sec := by rw [engEvt_only]
@[simp] theorem engEvt_power (p : Nat) (f : Fld) : (s.engEvt p f).power = s.power := by rw [engEvt_only]
@[simp] theorem engEvt_pending (p : Nat) (f : Fld) : (s.engEvt p f).pending = s.pending := by rw [engEvt_only]

@[simp] theorem emitLimited_now (d key period p code addr : Nat) : (s.emitLimited d key period p code addr).now = s.now := by rw [emitLimited_only]
@[simp] theorem emitLimited_sclk0 (d key period p code addr : Nat) : (s.emitLimited d key period p code addr).sclk0 = s.sclk0 := by rw [emitLimited_only]
@[simp] theorem emitLimited_fresh (d key period p code addr : Nat) : (s.emitLimited d key period p code addr).fresh = s.fresh := by rw [emitLimited_only]
@[simp] theorem emitLimited_regs (d key period p code addr : Nat) : (s.emitLimited d key period p code addr).regs = s.regs := by rw [emitLimited_only]
@[simp] theorem emitLimited_tiles (d key period p code addr : Nat) : (s.emitLimited d key period p code addr).tiles = s.tiles := by rw [emitLimited_only]
@[simp] theorem emitLimited_engines (d key period p code addr : Nat) : (s.emitLimited d key period p code addr).engines = s.engines := by rw [emitLimited_only]
@[simp] theorem emitLimited_cores (d key period p code addr : Nat) : (s.emitLimited d key period p code addr).cores = s.cores := by rw [emitLimited_only]
@[simp] theorem emitLimited_hbms (d key period p code addr : Nat) : (s.emitLimited d key period p code addr).hbms = s.hbms := by rw [emitLimited_only]
@[simp] theorem emitLimited_ports (d key period p code addr : Nat) : (s.emitLimited d key period p code addr).ports = s.ports := by rw [emitLimited_only]
@[simp] theorem emitLimited_rcopies (d key period p code addr : Nat) : (s.emitLimited d key period p code addr).rcopies = s.rcopies := by rw [emitLimited_only]
@[simp] theorem emitLimited_dev (d key period p code addr : Nat) : (s.emitLimited d key period p code addr).dev = s.dev := by rw [emitLimited_only]
@[simp] theorem emitLimited_host (d key period p code addr : Nat) : (s.emitLimited d key period p code addr).host = s.host := by rw [emitLimited_only]
@[simp] theorem emitLimited_cstore (d key period p code addr : Nat) : (s.emitLimited d key period p code addr).cstore = s.cstore := by rw [emitLimited_only]
@[simp] theorem emitLimited_tsram (d key period p code addr : Nat) : (s.emitLimited d key period p code addr).tsram = s.tsram := by rw [emitLimited_only]
@[simp] theorem emitLimited_pages (d key period p code addr : Nat) : (s.emitLimited d key period p code addr).pages = s.pages := by rw [emitLimited_only]
@[simp] theorem emitLimited_srv (d key period p code addr : Nat) : (s.emitLimited d key period p code addr).srv = s.srv := by rw [emitLimited_only]
@[simp] theorem emitLimited_ingest (d key period p code addr : Nat) : (s.emitLimited d key period p code addr).ingest = s.ingest := by rw [emitLimited_only]
@[simp] theorem emitLimited_awn (d key period p code addr : Nat) : (s.emitLimited d key period p code addr).awn = s.awn := by rw [emitLimited_only]
@[simp] theorem emitLimited_flt (d key period p code addr : Nat) : (s.emitLimited d key period p code addr).flt = s.flt := by rw [emitLimited_only]
@[simp] theorem emitLimited_nvm (d key period p code addr : Nat) : (s.emitLimited d key period p code addr).nvm = s.nvm := by rw [emitLimited_only]
@[simp] theorem emitLimited_sec (d key period p code addr : Nat) : (s.emitLimited d key period p code addr).sec = s.sec := by rw [emitLimited_only]
@[simp] theorem emitLimited_power (d key period p code addr : Nat) : (s.emitLimited d key period p code addr).power = s.power := by rw [emitLimited_only]
@[simp] theorem emitLimited_msix (d key period p code addr : Nat) : (s.emitLimited d key period p code addr).msix = s.msix := by rw [emitLimited_only]
@[simp] theorem emitLimited_out (d key period p code addr : Nat) : (s.emitLimited d key period p code addr).out = s.out := by rw [emitLimited_only]
@[simp] theorem emitLimited_pending (d key period p code addr : Nat) : (s.emitLimited d key period p code addr).pending = s.pending := by rw [emitLimited_only]

@[simp] theorem tile_sendMsix (f v : Nat) (q k l : Nat) : (s.sendMsix f v).tile q k l = s.tile q k l := by simp [State.tile]
@[simp] theorem eng_sendMsix (f v : Nat) (q k : Nat) : (s.sendMsix f v).eng q k = s.eng q k := by simp [State.eng]
@[simp] theorem core_sendMsix (f v : Nat) (q : Nat) : (s.sendMsix f v).core q = s.core q := by simp [State.core]
@[simp] theorem die_sendMsix (f v : Nat) (q : Nat) : (s.sendMsix f v).die q = s.die q := by simp [State.die]
@[simp] theorem stack_sendMsix (f v : Nat) (q : Nat) : (s.sendMsix f v).stack q = s.stack q := by simp [State.stack]
@[simp] theorem port_sendMsix (f v : Nat) (q : Nat) : (s.sendMsix f v).port q = s.port q := by simp [State.port]
@[simp] theorem rd_sendMsix (f v q : Nat) (h : Fld) : (s.sendMsix f v).rd q h = s.rd q h := by simp [State.rd]
@[simp] theorem tile_gather (p : Nat) (b : Bool) (q k l : Nat) : (s.gather p b).tile q k l = s.tile q k l := by simp [State.tile]
@[simp] theorem eng_gather (p : Nat) (b : Bool) (q k : Nat) : (s.gather p b).eng q k = s.eng q k := by simp [State.eng]
@[simp] theorem core_gather (p : Nat) (b : Bool) (q : Nat) : (s.gather p b).core q = s.core q := by simp [State.core]
@[simp] theorem die_gather (p : Nat) (b : Bool) (q : Nat) : (s.gather p b).die q = s.die q := by simp [State.die]
@[simp] theorem stack_gather (p : Nat) (b : Bool) (q : Nat) : (s.gather p b).stack q = s.stack q := by simp [State.stack]
@[simp] theorem port_gather (p : Nat) (b : Bool) (q : Nat) : (s.gather p b).port q = s.port q := by simp [State.port]
@[simp] theorem tile_irq (p i : Nat) (q k l : Nat) : (s.irq p i).tile q k l = s.tile q k l := by simp [State.tile]
@[simp] theorem eng_irq (p i : Nat) (q k : Nat) : (s.irq p i).eng q k = s.eng q k := by simp [State.eng]
@[simp] theorem core_irq (p i : Nat) (q : Nat) : (s.irq p i).core q = s.core q := by simp [State.core]
@[simp] theorem die_irq (p i : Nat) (q : Nat) : (s.irq p i).die q = s.die q := by simp [State.die]
@[simp] theorem stack_irq (p i : Nat) (q : Nat) : (s.irq p i).stack q = s.stack q := by simp [State.stack]
@[simp] theorem port_irq (p i : Nat) (q : Nat) : (s.irq p i).port q = s.port q := by simp [State.port]
@[simp] theorem tile_engEvt (p : Nat) (f : Fld) (q k l : Nat) : (s.engEvt p f).tile q k l = s.tile q k l := by simp [State.tile]
@[simp] theorem eng_engEvt (p : Nat) (f : Fld) (q k : Nat) : (s.engEvt p f).eng q k = s.eng q k := by simp [State.eng]
@[simp] theorem core_engEvt (p : Nat) (f : Fld) (q : Nat) : (s.engEvt p f).core q = s.core q := by simp [State.core]
@[simp] theorem die_engEvt (p : Nat) (f : Fld) (q : Nat) : (s.engEvt p f).die q = s.die q := by simp [State.die]
@[simp] theorem stack_engEvt (p : Nat) (f : Fld) (q : Nat) : (s.engEvt p f).stack q = s.stack q := by simp [State.stack]
@[simp] theorem port_engEvt (p : Nat) (f : Fld) (q : Nat) : (s.engEvt p f).port q = s.port q := by simp [State.port]
@[simp] theorem tile_emitLimited (d key period p code addr : Nat) (q k l : Nat) : (s.emitLimited d key period p code addr).tile q k l = s.tile q k l := by simp [State.tile]
@[simp] theorem eng_emitLimited (d key period p code addr : Nat) (q k : Nat) : (s.emitLimited d key period p code addr).eng q k = s.eng q k := by simp [State.eng]
@[simp] theorem core_emitLimited (d key period p code addr : Nat) (q : Nat) : (s.emitLimited d key period p code addr).core q = s.core q := by simp [State.core]
@[simp] theorem stack_emitLimited (d key period p code addr : Nat) (q : Nat) : (s.emitLimited d key period p code addr).stack q = s.stack q := by simp [State.stack]
@[simp] theorem port_emitLimited (d key period p code addr : Nat) (q : Nat) : (s.emitLimited d key period p code addr).port q = s.port q := by simp [State.port]
@[simp] theorem rd_emitLimited (d key period p code addr q : Nat) (h : Fld) : (s.emitLimited d key period p code addr).rd q h = s.rd q h := by simp [State.rd]

/-! ### Registers after an interrupt: IRQ_STAT of the page, and the summaries of its die and of die 16 -/

/-- A key that no interrupt of page `p` changes. -/
def IrqFree (p k : Nat) : Prop :=
  k ≠ fkey p HDR.IRQ_STAT ∧ (∀ i < 32, k ≠ fkey (diePage (p / 1024)) (DIE.IRQ_PAGES i)) ∧ k ≠ fkey (diePage 16) DIE.IRQ_DIES

theorem rd_gather (p : Nat) (b : Bool) (q : Nat) (h : Fld) (hk : IrqFree p (fkey q h)) : (s.gather p b).rd q h = s.rd q h := by
  obtain ⟨-, h2, h3⟩ := hk
  have h2' := h2 (p % 1024 / 32) (by omega)
  unfold State.gather
  dsimp only
  split
  any_goals rfl
  any_goals (split <;> first | rfl | exact rd_sendMsix _ _ _ _ _)
  · split
    · rw [rd_sendMsix, rd_wr_other _ _ _ _ _ _ h3, rd_wr_other _ _ _ _ _ _ h2']
    · rw [rd_wr_other _ _ _ _ _ _ h3, rd_wr_other _ _ _ _ _ _ h2']

theorem rd_irq (p i q : Nat) (h : Fld) (hk : IrqFree p (fkey q h)) : (s.irq p i).rd q h = s.rd q h := by
  unfold State.irq
  rw [rd_gather _ _ _ _ _ hk, rd_wr_other _ _ _ _ _ _ hk.1]

theorem rd_engEvt (p : Nat) (f : Fld) (q : Nat) (h : Fld) (hf : fkey q h ≠ fkey p f) (hk : IrqFree p (fkey q h)) :
    (s.engEvt p f).rd q h = s.rd q h := by
  unfold State.engEvt
  rw [rd_gather _ _ _ _ _ hk, rd_wr_other _ _ _ _ _ _ hf]

/-- The bit an event sets in its page's IRQ_STAT stands. -/
theorem rd_irq_stat (p i : Nat) :
    (s.irq p i).rd p HDR.IRQ_STAT = putBit (s.rd p HDR.IRQ_STAT) i true % 2 ^ HDR.IRQ_STAT.width := by
  unfold State.irq
  have hk : ∀ i < 32, fkey p HDR.IRQ_STAT ≠ fkey (diePage (p / 1024)) (DIE.IRQ_PAGES i) := by
    intro i hi
    simp [fkey, diePage, diePg, HDR.IRQ_STAT, DIE.IRQ_PAGES]
    omega
  have h16 : fkey p HDR.IRQ_STAT ≠ fkey (diePage 16) DIE.IRQ_DIES := by
    simp [fkey, diePage, diePg, HDR.IRQ_STAT, DIE.IRQ_DIES]
    omega
  have hg : ∀ (t : State) (b : Bool), (t.gather p b).rd p HDR.IRQ_STAT = t.rd p HDR.IRQ_STAT := by
    intro t b
    have h2' := hk (p % 1024 / 32) (by omega)
    unfold State.gather
    dsimp only
    split
    any_goals rfl
    any_goals (split <;> first | rfl | exact rd_sendMsix _ _ _ _ _)
    · split
      · rw [rd_sendMsix, rd_wr_other _ _ _ _ _ _ h16, rd_wr_other _ _ _ _ _ _ h2']
      · rw [rd_wr_other _ _ _ _ _ _ h16, rd_wr_other _ _ _ _ _ _ h2']
  rw [hg, rd_wr_same]

end Sys2Proof.Machine
end

