-- ==== Sys2Proof/Laws/Frame.lean ====
section
/-! SUPPORT. Frames: which parts of the state an operation may change, and that it leaves the memories in canonical form. Every
operation of the model has one such lemma; they compose by `Frame.after`. -/

namespace Sys2Proof.Machine

/-- From `s` to `t` only the parts `P` change, and memories in canonical form stay in it. -/
def Frame (P : List Part) (s t : State) : Prop := Keeps P s t ∧ (Memory.wf s = true → Memory.wf t = true)

theorem Part.same_refl (p : Part) (s : State) : p.same s s := by cases p <;> rfl

theorem Part.same_trans {p : Part} {s t u : State} (h : p.same s t) (k : p.same t u) : p.same s u := by
  cases p <;> exact Eq.trans k h

theorem Frame.refl (P : List Part) (s : State) : Frame P s s := ⟨fun p _ => p.same_refl s, id⟩

theorem Frame.after {P Q : List Part} {s t u : State} (h : Frame Q t u) (hq : ∀ p ∈ Q, p ∈ P) (k : Frame P s t) : Frame P s u :=
  ⟨fun p hp => Part.same_trans (k.1 p hp) (h.1 p fun hm => hp (hq p hm)), fun hw => h.2 (k.2 hw)⟩

theorem Frame.ite {P : List Part} {s a b : State} {c : Prop} [Decidable c] (ha : Frame P s a) (hb : Frame P s b) :
    Frame P s (if c then a else b) := by
  split
  · exact ha
  · exact hb

theorem Frame.foldl {α : Type} {P : List Part} {f : State → α → State} (hf : ∀ x a, Frame P x (f x a)) (l : List α) :
    ∀ {s t : State}, Frame P s t → Frame P s (l.foldl f t) := by
  induction l with
  | nil => exact fun h => h
  | cons a l ih => exact fun h => ih ((hf _ a).after (fun _ hp => hp) h)

theorem Frame.foldl_pair {α β : Type} {P : List Part} {f : State × β → α → State × β} (hf : ∀ x a, Frame P x.1 (f x a).1) (l : List α) :
    ∀ {s : State} {t : State × β}, Frame P s t.1 → Frame P s (l.foldl f t).1 := by
  induction l with
  | nil => exact fun h => h
  | cons a l ih => exact fun h => ih ((hf _ a).after (fun _ hp => hp) h)

theorem Frame.ite_pair {β : Type} {P : List Part} {s : State} {a b : State × β} {c : Prop} [Decidable c] (ha : Frame P s a.1)
    (hb : Frame P s b.1) : Frame P s (if c then a else b).1 := by
  split
  · exact ha
  · exact hb

theorem Frame.of_pair {α : Type} {P : List Part} {s t : State} {x : State × α} {a : α} (h : x = (t, a)) (k : Frame P s x.1) :
    Frame P s t := by
  rw [h] at k
  exact k

theorem Frame.of_some {P : List Part} {s t d : State} {x : Option State} (h : x = some t) (k : Frame P s (x.getD d)) : Frame P s t := by
  rw [h] at k
  exact k

theorem Frame.getD_some {P : List Part} {s t d : State} (k : Frame P s t) : Frame P s ((some t).getD d) := k

theorem Frame.getD_none {P : List Part} {s d : State} (k : Frame P s d) : Frame P s ((none : Option State).getD d) := k

theorem Frame.keeps {P : List Part} {s t : State} (h : Frame P s t) : Keeps P s t := h.1

theorem Frame.memory {P : List Part} {s t : State} (h : Frame P s t) (hs : MemoryInv s) : MemoryInv t := h.2 hs

theorem Frame.upd_now (s : State) (v : Nat) : Frame [.now] s { s with now := v } :=
  ⟨fun p hp => by cases p <;> first | rfl | simp at hp, id⟩

theorem Frame.upd_sclk0 (s : State) (v : Nat) : Frame [.sclk0] s { s with sclk0 := v } :=
  ⟨fun p hp => by cases p <;> first | rfl | simp at hp, id⟩

theorem Frame.upd_fresh (s : State) (v : Nat) : Frame [.fresh] s { s with fresh := v } :=
  ⟨fun p hp => by cases p <;> first | rfl | simp at hp, id⟩

theorem Frame.upd_regs (s : State) (v : FMap Nat) : Frame [.regs] s { s with regs := v } :=
  ⟨fun p hp => by cases p <;> first | rfl | simp at hp, id⟩

theorem Frame.upd_tiles (s : State) (v : FMap TileS) : Frame [.tiles] s { s with tiles := v } :=
  ⟨fun p hp => by cases p <;> first | rfl | simp at hp, id⟩

theorem Frame.upd_engines (s : State) (v : FMap EngineS) : Frame [.engines] s { s with engines := v } :=
  ⟨fun p hp => by cases p <;> first | rfl | simp at hp, id⟩

theorem Frame.upd_cores (s : State) (v : FMap CoreS) : Frame [.cores] s { s with cores := v } :=
  ⟨fun p hp => by cases p <;> first | rfl | simp at hp, id⟩

theorem Frame.upd_dies (s : State) (v : FMap DieS) : Frame [.dies] s { s with dies := v } :=
  ⟨fun p hp => by cases p <;> first | rfl | simp at hp, id⟩

theorem Frame.upd_hbms (s : State) (v : FMap StackS) : Frame [.hbms] s { s with hbms := v } :=
  ⟨fun p hp => by cases p <;> first | rfl | simp at hp, id⟩

theorem Frame.upd_ports (s : State) (v : FMap PortS) : Frame [.ports] s { s with ports := v } :=
  ⟨fun p hp => by cases p <;> first | rfl | simp at hp, id⟩

theorem Frame.upd_rcopies (s : State) (v : FMap (List RCopy)) : Frame [.rcopies] s { s with rcopies := v } :=
  ⟨fun p hp => by cases p <;> first | rfl | simp at hp, id⟩

theorem Frame.dev_wf (s : State) (v : Store) (h : s.dev.wf = true → v.wf = true) : Frame [.dev] s { s with dev := v } :=
  ⟨fun p hp => by cases p <;> first | rfl | simp at hp,
    fun hw => by simp only [Memory.wf, Bool.and_eq_true] at hw ⊢; simp_all⟩

theorem Frame.host_wf (s : State) (v : Store) (h : s.host.wf = true → v.wf = true) : Frame [.host] s { s with host := v } :=
  ⟨fun p hp => by cases p <;> first | rfl | simp at hp,
    fun hw => by simp only [Memory.wf, Bool.and_eq_true] at hw ⊢; simp_all⟩

theorem Frame.cstore_wf (s : State) (v : Store) (h : s.cstore.wf = true → v.wf = true) : Frame [.cstore] s { s with cstore := v } :=
  ⟨fun p hp => by cases p <;> first | rfl | simp at hp,
    fun hw => by simp only [Memory.wf, Bool.and_eq_true] at hw ⊢; simp_all⟩

theorem Frame.tsram_wf (s : State) (v : Store) (h : s.tsram.wf = true → v.wf = true) : Frame [.tsram] s { s with tsram := v } :=
  ⟨fun p hp => by cases p <;> first | rfl | simp at hp,
    fun hw => by simp only [Memory.wf, Bool.and_eq_true] at hw ⊢; simp_all⟩

theorem Frame.upd_pages (s : State) (v : PagesS) : Frame [.pages] s { s with pages := v } :=
  ⟨fun p hp => by cases p <;> first | rfl | simp at hp, id⟩

theorem Frame.upd_srv (s : State) (v : SrvS) : Frame [.srv] s { s with srv := v } :=
  ⟨fun p hp => by cases p <;> first | rfl | simp at hp, id⟩

theorem Frame.upd_ingest (s : State) (v : IngestS) : Frame [.ingest] s { s with ingest := v } :=
  ⟨fun p hp => by cases p <;> first | rfl | simp at hp, id⟩

theorem Frame.upd_awn (s : State) (v : AwnS) : Frame [.awn] s { s with awn := v } :=
  ⟨fun p hp => by cases p <;> first | rfl | simp at hp, id⟩

theorem Frame.upd_flt (s : State) (v : FaultS) : Frame [.flt] s { s with flt := v } :=
  ⟨fun p hp => by cases p <;> first | rfl | simp at hp, id⟩

theorem Frame.upd_nvm (s : State) (v : NvmS) : Frame [.nvm] s { s with nvm := v } :=
  ⟨fun p hp => by cases p <;> first | rfl | simp at hp, id⟩

theorem Frame.upd_sec (s : State) (v : SecS) : Frame [.sec] s { s with sec := v } :=
  ⟨fun p hp => by cases p <;> first | rfl | simp at hp, id⟩

theorem Frame.upd_power (s : State) (v : PowerS) : Frame [.power] s { s with power := v } :=
  ⟨fun p hp => by cases p <;> first | rfl | simp at hp, id⟩

theorem Frame.upd_msix (s : State) (v : MsixS) : Frame [.out] s { s with msix := v } :=
  ⟨fun p hp => by cases p <;> first | rfl | simp at hp, id⟩

theorem Frame.upd_out (s : State) (v : List OutMsg) : Frame [.out] s { s with out := v } :=
  ⟨fun p hp => by cases p <;> first | rfl | simp at hp, id⟩

theorem Frame.upd_pending (s : State) (v : List Instr) : Frame [.pending] s { s with pending := v } :=
  ⟨fun p hp => by cases p <;> first | rfl | simp at hp, id⟩

theorem Frame.upd_srv_ingest (s : State) (u : SrvS) (v : IngestS) : Frame [.srv, .ingest] s { s with srv := u, ingest := v } :=
  ⟨fun p hp => by cases p <;> first | rfl | simp at hp, id⟩

theorem Frame.upd_regs_msix (s : State) (u : FMap Nat) (v : MsixS) : Frame [.regs, .out] s { s with regs := u, msix := v } :=
  ⟨fun p hp => by cases p <;> first | rfl | simp at hp, id⟩

theorem Frame.upd_flt_nvm (s : State) (u : FaultS) (v : NvmS) : Frame [.flt, .nvm] s { s with flt := u, nvm := v } :=
  ⟨fun p hp => by cases p <;> first | rfl | simp at hp, id⟩

theorem Frame.upd_flt_power (s : State) (u : FaultS) (v : PowerS) : Frame [.flt, .power] s { s with flt := u, power := v } :=
  ⟨fun p hp => by cases p <;> first | rfl | simp at hp, id⟩

theorem Frame.upd_nvm_power (s : State) (u : NvmS) (v : PowerS) : Frame [.nvm, .power] s { s with nvm := u, power := v } :=
  ⟨fun p hp => by cases p <;> first | rfl | simp at hp, id⟩

theorem Frame.upd_flt_nvm_power (s : State) (u : FaultS) (v : NvmS) (w : PowerS) : Frame [.flt, .nvm, .power] s { s with flt := u, nvm := v, power := w } :=
  ⟨fun p hp => by cases p <;> first | rfl | simp at hp, id⟩

theorem Frame.clear_sram (s : State) : Frame [.cstore, .tsram] s { s with cstore := ⟨[], []⟩, tsram := ⟨[], []⟩ } :=
  ⟨fun p hp => by cases p <;> first | rfl | simp at hp, fun h => by
    simp only [Memory.wf, Bool.and_eq_true] at h ⊢
    exact ⟨⟨h.1.1, rfl⟩, rfl⟩⟩

end Sys2Proof.Machine
end

