-- ==== Sys2Proof/Laws/FrameOps.lean ====
section
/-! SUPPORT. The frames of the operations of Machine/Ops.lean. -/

namespace Sys2Proof.Machine

set_option linter.unusedTactic false
set_option linter.unreachableTactic false

theorem State.wr_frame s a1 a2 a3 : Frame [.regs] s (State.wr s a1 a2 a3) := by
  unfold State.wr
  try dsimp only
  repeat' first
    | with_reducible exact Frame.refl _ _
    | with_reducible refine (Frame.upd_regs _ _).after (by decide) ?_

theorem State.wrB_frame s a1 a2 a3 : Frame [.regs] s (State.wrB s a1 a2 a3) := by
  unfold State.wrB
  try dsimp only
  repeat' first
    | with_reducible exact Frame.refl _ _
    | with_reducible refine (State.wr_frame _ _ _ _).after (by decide) ?_

theorem State.wrA_frame s a1 a2 a3 : Frame [.regs] s (State.wrA s a1 a2 a3) := by
  unfold State.wrA
  try dsimp only
  repeat' first
    | with_reducible exact Frame.refl _ _
    | with_reducible refine (State.wr_frame _ _ _ _).after (by decide) ?_

theorem State.inc_frame s a1 a2 a3 : Frame [.regs] s (State.inc s a1 a2 a3) := by
  unfold State.inc
  try dsimp only
  repeat' first
    | with_reducible exact Frame.refl _ _
    | with_reducible refine (State.wr_frame _ _ _ _).after (by decide) ?_

theorem State.refuse_frame s a1 : Frame [.regs] s (State.refuse s a1) := by
  unfold State.refuse
  try dsimp only
  repeat' first
    | with_reducible exact Frame.refl _ _
    | with_reducible refine (State.wr_frame _ _ _ _).after (by decide) ?_

theorem State.setTile_frame s a1 a2 a3 a4 : Frame [.tiles] s (State.setTile s a1 a2 a3 a4) := by
  unfold State.setTile
  try dsimp only
  repeat' first
    | with_reducible exact Frame.refl _ _
    | with_reducible refine (Frame.upd_tiles _ _).after (by decide) ?_

theorem State.modTile_frame s a1 a2 a3 a4 : Frame [.tiles] s (State.modTile s a1 a2 a3 a4) := by
  unfold State.modTile
  try dsimp only
  repeat' first
    | with_reducible exact Frame.refl _ _
    | with_reducible refine (State.setTile_frame _ _ _ _ _).after (by decide) ?_

theorem State.setEng_frame s a1 a2 a3 : Frame [.engines] s (State.setEng s a1 a2 a3) := by
  unfold State.setEng
  try dsimp only
  repeat' first
    | with_reducible exact Frame.refl _ _
    | with_reducible refine (Frame.upd_engines _ _).after (by decide) ?_

theorem State.modEng_frame s a1 a2 a3 : Frame [.engines] s (State.modEng s a1 a2 a3) := by
  unfold State.modEng
  try dsimp only
  repeat' first
    | with_reducible exact Frame.refl _ _
    | with_reducible refine (State.setEng_frame _ _ _ _).after (by decide) ?_

theorem State.setCore_frame s a1 a2 : Frame [.cores] s (State.setCore s a1 a2) := by
  unfold State.setCore
  try dsimp only
  repeat' first
    | with_reducible exact Frame.refl _ _
    | with_reducible refine (Frame.upd_cores _ _).after (by decide) ?_

theorem State.modCore_frame s a1 a2 : Frame [.cores] s (State.modCore s a1 a2) := by
  unfold State.modCore
  try dsimp only
  repeat' first
    | with_reducible exact Frame.refl _ _
    | with_reducible refine (State.setCore_frame _ _ _).after (by decide) ?_

theorem State.setDie_frame s a1 a2 : Frame [.dies] s (State.setDie s a1 a2) := by
  unfold State.setDie
  try dsimp only
  repeat' first
    | with_reducible exact Frame.refl _ _
    | with_reducible refine (Frame.upd_dies _ _).after (by decide) ?_

theorem State.modDie_frame s a1 a2 : Frame [.dies] s (State.modDie s a1 a2) := by
  unfold State.modDie
  try dsimp only
  repeat' first
    | with_reducible exact Frame.refl _ _
    | with_reducible refine (State.setDie_frame _ _ _).after (by decide) ?_

theorem State.setStack_frame s a1 a2 : Frame [.hbms] s (State.setStack s a1 a2) := by
  unfold State.setStack
  try dsimp only
  repeat' first
    | with_reducible exact Frame.refl _ _
    | with_reducible refine (Frame.upd_hbms _ _).after (by decide) ?_

theorem State.modStack_frame s a1 a2 : Frame [.hbms] s (State.modStack s a1 a2) := by
  unfold State.modStack
  try dsimp only
  repeat' first
    | with_reducible exact Frame.refl _ _
    | with_reducible refine (State.setStack_frame _ _ _).after (by decide) ?_

theorem State.setPort_frame s a1 a2 : Frame [.ports] s (State.setPort s a1 a2) := by
  unfold State.setPort
  try dsimp only
  repeat' first
    | with_reducible exact Frame.refl _ _
    | with_reducible refine (Frame.upd_ports _ _).after (by decide) ?_

theorem State.modPort_frame s a1 a2 : Frame [.ports] s (State.modPort s a1 a2) := by
  unfold State.modPort
  try dsimp only
  repeat' first
    | with_reducible exact Frame.refl _ _
    | with_reducible refine (State.setPort_frame _ _ _).after (by decide) ?_

theorem State.send_frame s a1 : Frame [.out] s (State.send s a1) := by
  unfold State.send
  try dsimp only
  repeat' first
    | with_reducible exact Frame.refl _ _
    | with_reducible refine (Frame.upd_out _ _).after (by decide) ?_

theorem State.sendMsix_frame s a1 a2 : Frame [.out] s (State.sendMsix s a1 a2) := by
  unfold State.sendMsix
  split
  · exact Frame.upd_msix _ _
  · exact State.send_frame _ _

theorem State.takeFree_frame s : Frame [.fresh] s (State.takeFree s) := by
  unfold State.takeFree
  try dsimp only
  repeat' first
    | with_reducible exact Frame.refl _ _
    | with_reducible refine (Frame.upd_fresh _ _).after (by decide) ?_

theorem State.gather_frame s a1 a2 : Frame [.regs, .out] s (State.gather s a1 a2) := by
  unfold State.gather
  try dsimp only
  repeat' first
    | with_reducible exact Frame.refl _ _
    | with_reducible refine (State.sendMsix_frame _ _ _).after (by decide) ?_
    | with_reducible refine (State.wr_frame _ _ _ _).after (by decide) ?_
    | with_reducible refine Frame.ite ?_ ?_
    | split

theorem State.irq_frame s a1 a2 : Frame [.regs, .out] s (State.irq s a1 a2) := by
  unfold State.irq
  try dsimp only
  repeat' first
    | with_reducible exact Frame.refl _ _
    | with_reducible refine (State.gather_frame _ _ _).after (by decide) ?_
    | with_reducible refine (State.wr_frame _ _ _ _).after (by decide) ?_

theorem State.engEvt_frame s a1 a2 : Frame [.regs, .out] s (State.engEvt s a1 a2) := by
  unfold State.engEvt
  try dsimp only
  repeat' first
    | with_reducible exact Frame.refl _ _
    | with_reducible refine (State.gather_frame _ _ _).after (by decide) ?_
    | with_reducible refine (State.wr_frame _ _ _ _).after (by decide) ?_

theorem State.emitR_frame s a1 : Frame [.dies] s (State.emitR s a1) := by
  unfold State.emitR
  try dsimp only
  repeat' first
    | with_reducible exact Frame.refl _ _
    | with_reducible refine (State.modDie_frame _ _ _).after (by decide) ?_

theorem State.emit_frame s a1 a2 a3 : Frame [.dies] s (State.emit s a1 a2 a3) := by
  unfold State.emit
  try dsimp only
  repeat' first
    | with_reducible exact Frame.refl _ _
    | with_reducible refine (State.emitR_frame _ _).after (by decide) ?_

theorem State.emitSeq_frame s a1 a2 a3 a4 a5 : Frame [.dies] s (State.emitSeq s a1 a2 a3 a4 a5) := by
  unfold State.emitSeq
  try dsimp only
  repeat' first
    | with_reducible exact Frame.refl _ _
    | with_reducible refine (State.emitR_frame _ _).after (by decide) ?_

theorem State.emitRep_frame s a1 a2 a3 a4 : Frame [.dies] s (State.emitRep s a1 a2 a3 a4) := by
  unfold State.emitRep
  try dsimp only
  repeat' first
    | with_reducible exact Frame.refl _ _
    | with_reducible refine (State.emitR_frame _ _).after (by decide) ?_

theorem State.emitLimited_frame s a1 a2 a3 a4 a5 a6 : Frame [.dies] s (State.emitLimited s a1 a2 a3 a4 a5 a6) := by
  unfold State.emitLimited
  try dsimp only
  repeat' first
    | with_reducible exact Frame.refl _ _
    | with_reducible refine (State.modDie_frame _ _ _).after (by decide) ?_
    | with_reducible refine (State.emit_frame _ _ _ _).after (by decide) ?_
    | with_reducible refine Frame.ite ?_ ?_
    | split

theorem State.logRetired_frame s a1 a2 a3 a4 : Frame [.flt] s (State.logRetired s a1 a2 a3 a4) := by
  unfold State.logRetired
  try dsimp only
  repeat' first
    | with_reducible exact Frame.refl _ _
    | with_reducible refine (Frame.upd_flt _ _).after (by decide) ?_

end Sys2Proof.Machine
end

