-- ==== Sys2Proof/Laws/FrameMem.lean ====
section
/-! SUPPORT. The frames of the operations of Machine/Mem.lean. -/

namespace Sys2Proof.Machine

set_option linter.unusedTactic false
set_option linter.unreachableTactic false

theorem State.startRetire_frame s a1 a2 : Frame [.regs, .dies, .hbms, .out] s (State.startRetire s a1 a2) := by
  unfold State.startRetire
  try dsimp only
  repeat' first
    | with_reducible exact Frame.refl _ _
    | with_reducible refine (State.modStack_frame _ _ _).after (by decide) ?_
    | with_reducible refine (State.irq_frame _ _ _).after (by decide) ?_
    | with_reducible refine (State.emit_frame _ _ _ _).after (by decide) ?_
    | with_reducible refine (State.wr_frame _ _ _ _).after (by decide) ?_
    | with_reducible refine Frame.ite ?_ ?_
    | split

theorem State.retireGranule_frame s a1 a2 : Frame [.regs, .dies, .hbms, .out] s (State.retireGranule s a1 a2) := by
  unfold State.retireGranule
  try dsimp only
  repeat' first
    | with_reducible exact Frame.refl _ _
    | with_reducible refine (State.modStack_frame _ _ _).after (by decide) ?_
    | with_reducible refine (State.startRetire_frame _ _ _).after (by decide) ?_
    | with_reducible refine Frame.ite ?_ ?_
    | split

theorem State.recordCe_frame s a1 a2 : Frame [.dies, .hbms] s (State.recordCe s a1 a2) := by
  unfold State.recordCe
  try dsimp only
  repeat' first
    | with_reducible exact Frame.refl _ _
    | with_reducible refine (State.modStack_frame _ _ _).after (by decide) ?_
    | with_reducible refine (State.emitRep_frame _ _ _ _ _).after (by decide) ?_
    | with_reducible refine Frame.ite ?_ ?_
    | split

theorem State.noteWord_frame s a1 a2 a3 : Frame [.regs, .dies, .hbms, .out] s (State.noteWord s a1 a2 a3) := by
  unfold State.noteWord
  try dsimp only
  repeat' first
    | with_reducible exact Frame.refl _ _
    | with_reducible refine (State.recordCe_frame _ _ _).after (by decide) ?_
    | with_reducible refine (State.irq_frame _ _ _).after (by decide) ?_
    | with_reducible refine (State.wrA_frame _ _ _ _).after (by decide) ?_
    | with_reducible refine (State.inc_frame _ _ _ _).after (by decide) ?_
    | with_reducible refine (State.emit_frame _ _ _ _).after (by decide) ?_
    | with_reducible refine (State.modStack_frame _ _ _).after (by decide) ?_
    | with_reducible refine (State.retireGranule_frame _ _ _).after (by decide) ?_
    | with_reducible refine Frame.ite ?_ ?_
    | split

theorem State.count2_frame s a1 a2 a3 : Frame [.regs] s (State.count2 s a1 a2 a3) := by
  unfold State.count2
  try dsimp only
  repeat' first
    | with_reducible exact Frame.refl _ _
    | with_reducible refine (State.inc_frame _ _ _ _).after (by decide) ?_
    | with_reducible refine Frame.ite ?_ ?_
    | with_reducible refine Frame.foldl (fun _ _ => ?_) _ ?_
    | split

theorem State.touch2_frame s a1 a2 : Frame [.regs] s (State.touch2 s a1 a2) := by
  unfold State.touch2
  try dsimp only
  repeat' first
    | with_reducible exact Frame.refl _ _
    | with_reducible refine (State.inc_frame _ _ _ _).after (by decide) ?_
    | with_reducible refine Frame.ite ?_ ?_
    | with_reducible refine Frame.foldl (fun _ _ => ?_) _ ?_
    | split

theorem State.touch_frame s a1 a2 : Frame [.regs, .dies, .hbms, .out] s (State.touch s a1 a2) := by
  unfold State.touch
  try dsimp only
  repeat' first
    | with_reducible exact Frame.refl _ _
    | with_reducible refine (State.count2_frame _ _ _ _).after (by decide) ?_
    | with_reducible refine (State.touch2_frame _ _ _).after (by decide) ?_
    | with_reducible refine (State.noteWord_frame _ _ _ _).after (by decide) ?_
    | with_reducible refine Frame.ite ?_ ?_
    | with_reducible refine Frame.foldl (fun _ _ => ?_) _ ?_
    | split

theorem State.devWrite_frame s a1 a2 a3 : Frame [.regs, .dev] s (State.devWrite s a1 a2 a3) := by
  unfold State.devWrite
  try dsimp only
  repeat' first
    | with_reducible exact Frame.refl _ _
    | with_reducible refine (State.count2_frame _ _ _ _).after (by decide) ?_
    | with_reducible refine Frame.ite ?_ ?_
    | split
    | with_reducible refine (Frame.dev_wf _ _ ?_).after (by decide) ?_
    | intro _
    | with_reducible assumption
    | with_reducible refine Store.put_wf _ _ _ ?_
    | with_reducible refine Store.lines2_wf _ _ ?_
    | with_reducible refine Store.markWords_wf _ _ ?_
    | with_reducible refine Store.copyFrom_wf _ _ _ _ ?_
    | with_reducible refine Store.setChk_wf _ _ ?_
    | with_reducible refine Store.putWord_wf _ _ _ ?_
    | with_reducible refine Store.repair_wf _ ?_
    | with_reducible refine Store.zero_wf _ _ ?_
    | with_reducible refine Store.moveRange_wf _ _ _ ?_

theorem State.csWrite_frame s a1 a2 a3 a4 : Frame [.cstore] s (State.csWrite s a1 a2 a3 a4) := by
  unfold State.csWrite
  try dsimp only
  repeat' first
    | with_reducible exact Frame.refl _ _
    | with_reducible refine (Frame.cstore_wf _ _ ?_).after (by decide) ?_
    | intro _
    | with_reducible assumption
    | with_reducible refine Store.put_wf _ _ _ ?_
    | with_reducible refine Store.lines2_wf _ _ ?_
    | with_reducible refine Store.markWords_wf _ _ ?_
    | with_reducible refine Store.copyFrom_wf _ _ _ _ ?_
    | with_reducible refine Store.setChk_wf _ _ ?_
    | with_reducible refine Store.putWord_wf _ _ _ ?_
    | with_reducible refine Store.repair_wf _ ?_
    | with_reducible refine Store.zero_wf _ _ ?_
    | with_reducible refine Store.moveRange_wf _ _ _ ?_

theorem State.csTouch_frame s a1 a2 a3 : Frame [.regs, .out] s (State.csTouch s a1 a2 a3) := by
  unfold State.csTouch
  try dsimp only
  repeat' first
    | with_reducible exact Frame.refl _ _
    | with_reducible refine (State.irq_frame _ _ _).after (by decide) ?_
    | with_reducible refine (State.inc_frame _ _ _ _).after (by decide) ?_
    | with_reducible refine Frame.ite ?_ ?_
    | with_reducible refine Frame.foldl (fun _ _ => ?_) _ ?_
    | split

theorem State.extRefuse_frame s a1 a2 a3 : Frame [.regs, .dies, .out] s (State.extRefuse s a1 a2 a3) := by
  unfold State.extRefuse
  try dsimp only
  repeat' first
    | with_reducible exact Frame.refl _ _
    | with_reducible refine (State.emitLimited_frame _ _ _ _ _ _ _).after (by decide) ?_
    | with_reducible refine (State.inc_frame _ _ _ _).after (by decide) ?_
    | with_reducible refine (State.send_frame _ _).after (by decide) ?_
    | with_reducible refine Frame.ite ?_ ?_
    | split

theorem State.hostWrite_frame s a1 a2 a3 a4 : Frame [.regs, .dies, .host] s (State.hostWrite s a1 a2 a3 a4) := by
  unfold State.hostWrite
  try dsimp only
  repeat' first
    | with_reducible exact Frame.refl _ _
    | with_reducible refine (State.emit_frame _ _ _ _).after (by decide) ?_
    | with_reducible refine (State.inc_frame _ _ _ _).after (by decide) ?_
    | with_reducible refine Frame.ite ?_ ?_
    | split
    | with_reducible refine (Frame.host_wf _ _ ?_).after (by decide) ?_
    | intro _
    | with_reducible assumption
    | with_reducible refine Store.put_wf _ _ _ ?_
    | with_reducible refine Store.lines2_wf _ _ ?_
    | with_reducible refine Store.markWords_wf _ _ ?_
    | with_reducible refine Store.copyFrom_wf _ _ _ _ ?_
    | with_reducible refine Store.setChk_wf _ _ ?_
    | with_reducible refine Store.putWord_wf _ _ _ ?_
    | with_reducible refine Store.repair_wf _ ?_
    | with_reducible refine Store.zero_wf _ _ ?_
    | with_reducible refine Store.moveRange_wf _ _ _ ?_

end Sys2Proof.Machine
end

