-- ==== Sys2Proof/Laws/FrameCoreOps.lean ====
section
/-! SUPPORT. The frames of the operations of Machine/CoreOps.lean. -/

namespace Sys2Proof.Machine

set_option linter.unusedTactic false
set_option linter.unreachableTactic false

theorem State.localSignal_frame s a1 a2 a3 : Frame [.regs, .dies, .out] s (State.localSignal s a1 a2 a3) := by
  unfold State.localSignal
  try dsimp only
  repeat' first
    | with_reducible exact Frame.refl _ _
    | with_reducible refine (State.wr_frame _ _ _ _).after (by decide) ?_
    | with_reducible refine (State.emit_frame _ _ _ _).after (by decide) ?_
    | with_reducible refine (State.irq_frame _ _ _).after (by decide) ?_
    | with_reducible refine Frame.ite ?_ ?_
    | split

theorem State.sendAdd_frame s a1 a2 : Frame [.awn] s (State.sendAdd s a1 a2) := by
  unfold State.sendAdd
  try dsimp only
  repeat' first
    | with_reducible exact Frame.refl _ _
    | with_reducible refine (Frame.upd_awn _ _).after (by decide) ?_

theorem State.sendClaim_frame s a1 a2 a3 : Frame [.awn] s (State.sendClaim s a1 a2 a3) := by
  unfold State.sendClaim
  try dsimp only
  repeat' first
    | with_reducible exact Frame.refl _ _
    | with_reducible refine (Frame.upd_awn _ _).after (by decide) ?_

theorem State.signal_frame s a1 a2 a3 : Frame [.regs, .dies, .awn, .out] s (State.signal s a1 a2 a3) := by
  unfold State.signal
  try dsimp only
  repeat' first
    | with_reducible exact Frame.refl _ _
    | with_reducible refine (State.localSignal_frame _ _ _ _).after (by decide) ?_
    | with_reducible refine (State.sendAdd_frame _ _ _).after (by decide) ?_
    | with_reducible refine Frame.ite ?_ ?_
    | split

theorem State.evalClaims_frame s : Frame [.regs, .awn] s (State.evalClaims s) := by
  unfold State.evalClaims
  try dsimp only
  repeat' first
    | with_reducible exact Frame.refl _ _
    | with_reducible refine (State.inc_frame _ _ _ _).after (by decide) ?_
    | with_reducible refine Frame.ite ?_ ?_
    | split
    | with_reducible refine (Frame.upd_awn _ _).after (by decide) ?_

theorem State.withdraw_frame s a1 : Frame [.regs, .awn] s (State.withdraw s a1) := by
  unfold State.withdraw
  try dsimp only
  repeat' first
    | with_reducible exact Frame.refl _ _
    | with_reducible refine (State.evalClaims_frame _).after (by decide) ?_
    | with_reducible refine (State.sendAdd_frame _ _ _).after (by decide) ?_
    | with_reducible refine Frame.ite ?_ ?_
    | split
    | with_reducible refine (Frame.upd_awn _ _).after (by decide) ?_

theorem State.enqueue_frame s a1 a2 a3 : Frame [.engines, .cores] s (State.enqueue s a1 a2 a3) := by
  unfold State.enqueue
  try dsimp only
  repeat' first
    | with_reducible exact Frame.refl _ _
    | with_reducible refine (State.modEng_frame _ _ _ _).after (by decide) ?_
    | with_reducible refine (State.modCore_frame _ _ _).after (by decide) ?_
    | with_reducible refine Frame.ite ?_ ?_
    | split

theorem State.dequeue_frame s a1 a2 a3 : Frame [.engines, .cores] s (State.dequeue s a1 a2 a3) := by
  unfold State.dequeue
  try dsimp only
  repeat' first
    | with_reducible exact Frame.refl _ _
    | with_reducible refine (State.modEng_frame _ _ _ _).after (by decide) ?_
    | with_reducible refine (State.modCore_frame _ _ _).after (by decide) ?_
    | with_reducible refine Frame.ite ?_ ?_
    | split

theorem State.takeWait_frame s a1 a2 a3 : Frame [.regs, .cores] s (State.takeWait s a1 a2 a3) := by
  unfold State.takeWait
  try dsimp only
  repeat' first
    | with_reducible exact Frame.refl _ _
    | with_reducible refine (State.wr_frame _ _ _ _).after (by decide) ?_
    | with_reducible refine (State.modCore_frame _ _ _).after (by decide) ?_
    | with_reducible refine Frame.ite ?_ ?_
    | split

theorem State.issue_frame s a1 a2 a3 : Frame [.regs, .engines, .cores] s (State.issue s a1 a2 a3) := by
  unfold State.issue
  try dsimp only
  repeat' first
    | with_reducible exact Frame.refl _ _
    | with_reducible refine (State.dequeue_frame _ _ _ _).after (by decide) ?_
    | with_reducible refine (State.takeWait_frame _ _ _ _).after (by decide) ?_

theorem State.headClaims_frame s a1 : Frame [.cores, .awn] s (State.headClaims s a1) := by
  unfold State.headClaims
  try dsimp only
  repeat' first
    | with_reducible exact Frame.refl _ _
    | with_reducible refine (State.modCore_frame _ _ _).after (by decide) ?_
    | with_reducible refine (State.sendClaim_frame _ _ _ _).after (by decide) ?_
    | with_reducible refine Frame.ite ?_ ?_
    | with_reducible refine Frame.foldl (fun _ _ => ?_) _ ?_
    | split

theorem State.dropClaims_frame s a1 : Frame [.cores, .awn] s (State.dropClaims s a1) := by
  unfold State.dropClaims
  try dsimp only
  repeat' first
    | with_reducible exact Frame.refl _ _
    | with_reducible refine (State.sendAdd_frame _ _ _).after (by decide) ?_
    | with_reducible refine (State.modCore_frame _ _ _).after (by decide) ?_
    | with_reducible refine Frame.ite ?_ ?_
    | with_reducible refine Frame.foldl (fun _ _ => ?_) _ ?_
    | split
    | with_reducible refine (Frame.upd_awn _ _).after (by decide) ?_

theorem State.haltCore_frame s a1 a2 a3 a4 : Frame [.regs, .engines, .cores, .awn, .out] s (State.haltCore s a1 a2 a3 a4) := by
  unfold State.haltCore
  try dsimp only
  repeat' first
    | with_reducible exact Frame.refl _ _
    | with_reducible refine (State.dropClaims_frame _ _).after (by decide) ?_
    | with_reducible refine (State.modEng_frame _ _ _ _).after (by decide) ?_
    | with_reducible refine (State.modCore_frame _ _ _).after (by decide) ?_
    | with_reducible refine (State.wr_frame _ _ _ _).after (by decide) ?_
    | with_reducible refine (State.send_frame _ _).after (by decide) ?_
    | with_reducible refine Frame.ite ?_ ?_
    | with_reducible refine Frame.foldl (fun _ _ => ?_) _ ?_
    | split

theorem State.haltFault_frame s a1 a2 a3 a4 a5 : Frame [.regs, .engines, .cores, .dies, .awn, .out] s (State.haltFault s a1 a2 a3 a4 a5) := by
  unfold State.haltFault
  try dsimp only
  repeat' first
    | with_reducible exact Frame.refl _ _
    | with_reducible refine (State.haltCore_frame _ _ _ _ _).after (by decide) ?_
    | with_reducible refine (State.emit_frame _ _ _ _).after (by decide) ?_

theorem State.popDesc_frame s a1 a2 : Frame [.regs, .cores] s (State.popDesc s a1 a2) := by
  unfold State.popDesc
  try dsimp only
  repeat' first
    | with_reducible exact Frame.refl _ _
    | with_reducible refine (State.inc_frame _ _ _ _).after (by decide) ?_
    | with_reducible refine (State.wr_frame _ _ _ _).after (by decide) ?_
    | with_reducible refine (State.modCore_frame _ _ _).after (by decide) ?_

theorem State.dispatchOne_frame s a1 : Frame [.regs, .engines, .cores, .dies, .awn, .out] s ((State.dispatchOne s a1).getD s) := by
  unfold State.dispatchOne
  try dsimp only
  repeat' first
    | with_reducible exact Frame.refl _ _
    | with_reducible refine Frame.getD_none ?_
    | with_reducible refine Frame.getD_some ?_
    | with_reducible refine (State.haltFault_frame _ _ _ _ _ _).after (by decide) ?_
    | with_reducible refine (State.enqueue_frame _ _ _ _).after (by decide) ?_
    | with_reducible refine (State.popDesc_frame _ _ _).after (by decide) ?_
    | with_reducible refine Frame.ite ?_ ?_
    | split

theorem State.dispatchOne_some {s a1 t} (h : State.dispatchOne s a1 = some t) : Frame [.regs, .engines, .cores, .dies, .awn, .out] s t :=
  Frame.of_some h (State.dispatchOne_frame s a1)

theorem State.pumpN_frame a0 s a2 : Frame [.regs, .engines, .cores, .dies, .awn, .out] s (State.pumpN a0 s a2) := by
  induction a0 generalizing s with
  | zero => exact Frame.refl _ _
  | succ n ih =>
    unfold State.pumpN
    split
    · exact (ih _).after (by decide) ((State.dispatchOne_some (by assumption)))
    · exact Frame.refl _ _

theorem State.pump_frame s a1 : Frame [.regs, .engines, .cores, .dies, .awn, .out] s (State.pump s a1) := by
  unfold State.pump
  try dsimp only
  repeat' first
    | with_reducible exact Frame.refl _ _
    | with_reducible refine (State.headClaims_frame _ _).after (by decide) ?_
    | with_reducible refine (State.pumpN_frame _ _ _).after (by decide) ?_

theorem State.complete_frame s a1 a2 : Frame [.regs, .engines, .cores, .dies, .awn, .out] s (State.complete s a1 a2) := by
  unfold State.complete
  try dsimp only
  repeat' first
    | with_reducible exact Frame.refl _ _
    | with_reducible refine (State.pump_frame _ _).after (by decide) ?_
    | with_reducible refine (State.signal_frame _ _ _ _).after (by decide) ?_
    | with_reducible refine Frame.ite ?_ ?_
    | split

theorem State.startStream_frame s a1 a2 a3 a4 : Frame [.regs, .engines, .cores] s (State.startStream s a1 a2 a3 a4) := by
  unfold State.startStream
  try dsimp only
  repeat' first
    | with_reducible exact Frame.refl _ _
    | with_reducible refine (State.wr_frame _ _ _ _).after (by decide) ?_
    | with_reducible refine (State.modEng_frame _ _ _ _).after (by decide) ?_
    | with_reducible refine (State.modCore_frame _ _ _).after (by decide) ?_
    | with_reducible refine Frame.foldl (fun _ _ => ?_) _ ?_

theorem State.showPending_frame s a1 : Frame [.regs] s (State.showPending s a1) := by
  unfold State.showPending
  try dsimp only
  repeat' first
    | with_reducible exact Frame.refl _ _
    | with_reducible refine (State.wrB_frame _ _ _ _).after (by decide) ?_
    | with_reducible refine (State.wr_frame _ _ _ _).after (by decide) ?_

theorem State.startPending_frame s a1 : Frame [.regs, .engines, .cores] s (State.startPending s a1) := by
  unfold State.startPending
  try dsimp only
  repeat' first
    | with_reducible exact Frame.refl _ _
    | with_reducible refine (State.startStream_frame _ _ _ _ _).after (by decide) ?_
    | with_reducible refine (State.showPending_frame _ _).after (by decide) ?_
    | with_reducible refine (State.modCore_frame _ _ _).after (by decide) ?_
    | split

end Sys2Proof.Machine
end

