-- ==== Sys2Proof/Laws/FrameEngOps.lean ====
section
/-! SUPPORT. The frames of the operations of Machine/EngOps.lean. -/

namespace Sys2Proof.Machine

set_option linter.unusedTactic false
set_option linter.unreachableTactic false

theorem State.tcount_frame s a1 a2 a3 : Frame [.regs, .out] s (State.tcount s a1 a2 a3) := by
  unfold State.tcount
  try dsimp only
  repeat' first
    | with_reducible exact Frame.refl _ _
    | with_reducible refine (State.inc_frame _ _ _ _).after (by decide) ?_
    | with_reducible refine (State.irq_frame _ _ _).after (by decide) ?_
    | with_reducible refine Frame.ite ?_ ?_
    | split

theorem State.flushLate_frame s a1 a2 a3 a4 : Frame [.tiles, .dies] s (State.flushLate s a1 a2 a3 a4) := by
  unfold State.flushLate
  try dsimp only
  repeat' first
    | with_reducible exact Frame.refl _ _
    | with_reducible refine (State.modTile_frame _ _ _ _ _).after (by decide) ?_
    | with_reducible refine (State.emitRep_frame _ _ _ _ _).after (by decide) ?_
    | with_reducible refine Frame.ite ?_ ?_
    | split

theorem State.emptyBank_frame s a1 a2 a3 a4 : Frame [.regs, .tiles, .dies] s (State.emptyBank s a1 a2 a3 a4) := by
  unfold State.emptyBank
  try dsimp only
  repeat' first
    | with_reducible exact Frame.refl _ _
    | with_reducible refine (State.flushLate_frame _ _ _ _ _).after (by decide) ?_
    | with_reducible refine (State.wr_frame _ _ _ _).after (by decide) ?_
    | with_reducible refine (State.modTile_frame _ _ _ _ _).after (by decide) ?_

theorem State.emptySet_frame s a1 a2 a3 a4 : Frame [.regs, .engines] s (State.emptySet s a1 a2 a3 a4) := by
  unfold State.emptySet
  try dsimp only
  repeat' first
    | with_reducible exact Frame.refl _ _
    | with_reducible refine (State.modEng_frame _ _ _ _).after (by decide) ?_
    | with_reducible refine (State.wr_frame _ _ _ _).after (by decide) ?_

theorem State.modVec_frame s a1 a2 a3 a4 a5 : Frame [.tiles] s (State.modVec s a1 a2 a3 a4 a5) := by
  unfold State.modVec
  try dsimp only
  repeat' first
    | with_reducible exact Frame.refl _ _
    | with_reducible refine (State.modTile_frame _ _ _ _ _).after (by decide) ?_

theorem State.modOp_frame s a1 a2 a3 a4 : Frame [.engines] s (State.modOp s a1 a2 a3 a4) := by
  unfold State.modOp
  try dsimp only
  repeat' first
    | with_reducible exact Frame.refl _ _
    | with_reducible refine (State.modEng_frame _ _ _ _).after (by decide) ?_

theorem State.dropOp_frame s a1 a2 a3 : Frame [.engines] s (State.dropOp s a1 a2 a3) := by
  unfold State.dropOp
  try dsimp only
  repeat' first
    | with_reducible exact Frame.refl _ _
    | with_reducible refine (State.modEng_frame _ _ _ _).after (by decide) ?_

theorem State.addOp_frame s a1 a2 a3 : Frame [.engines] s (State.addOp s a1 a2 a3) := by
  unfold State.addOp
  try dsimp only
  repeat' first
    | with_reducible exact Frame.refl _ _
    | with_reducible refine (State.modEng_frame _ _ _ _).after (by decide) ?_

theorem State.refuseOp_frame s a1 a2 a3 a4 a5 : Frame [.regs, .engines, .cores, .dies, .awn, .out] s (State.refuseOp s a1 a2 a3 a4 a5) := by
  unfold State.refuseOp
  try dsimp only
  repeat' first
    | with_reducible exact Frame.refl _ _
    | with_reducible refine (State.haltFault_frame _ _ _ _ _ _).after (by decide) ?_

theorem State.beginWrite_frame s a1 a2 a3 a4 a5 a6 a7 a8 a9 a10 : Frame [.regs, .tiles, .dies] s (State.beginWrite s a1 a2 a3 a4 a5 a6 a7 a8 a9 a10).1 := by
  unfold State.beginWrite
  try dsimp only
  repeat' first
    | with_reducible exact Frame.refl _ _
    | with_reducible refine (State.flushLate_frame _ _ _ _ _).after (by decide) ?_
    | with_reducible refine (State.modTile_frame _ _ _ _ _).after (by decide) ?_
    | with_reducible refine (State.wr_frame _ _ _ _).after (by decide) ?_

theorem State.endWrite_frame s a1 a2 a3 a4 a5 a6 a7 : Frame [.regs, .tiles] s (State.endWrite s a1 a2 a3 a4 a5 a6 a7) := by
  unfold State.endWrite
  try dsimp only
  repeat' first
    | with_reducible exact Frame.refl _ _
    | with_reducible refine (State.wr_frame _ _ _ _).after (by decide) ?_
    | with_reducible refine (State.wrB_frame _ _ _ _).after (by decide) ?_
    | with_reducible refine (State.wrA_frame _ _ _ _).after (by decide) ?_
    | with_reducible refine (State.modTile_frame _ _ _ _ _).after (by decide) ?_
    | with_reducible refine Frame.ite ?_ ?_
    | split

theorem State.startQueued_frame s a1 a2 a3 : Frame [.regs, .tiles, .engines, .dies] s (State.startQueued s a1 a2 a3) := by
  unfold State.startQueued
  try dsimp only
  repeat' first
    | with_reducible exact Frame.refl _ _
    | with_reducible refine (State.modTile_frame _ _ _ _ _).after (by decide) ?_
    | with_reducible refine (State.emptySet_frame _ _ _ _ _).after (by decide) ?_
    | with_reducible refine (State.beginWrite_frame _ _ _ _ _ _ _ _ _ _ _).after (by decide) ?_
    | with_reducible refine (State.modOp_frame _ _ _ _ _).after (by decide) ?_
    | with_reducible refine Frame.ite ?_ ?_
    | split
    | with_reducible refine Frame.of_pair (by assumption) ?_

theorem State.refreshRowNow_frame s a1 a2 a3 a4 a5 : Frame [.regs, .tiles, .dies, .out] s (State.refreshRowNow s a1 a2 a3 a4 a5) := by
  unfold State.refreshRowNow
  try dsimp only
  repeat' first
    | with_reducible exact Frame.refl _ _
    | with_reducible refine (State.emit_frame _ _ _ _).after (by decide) ?_
    | with_reducible refine (State.wr_frame _ _ _ _).after (by decide) ?_
    | with_reducible refine (State.modTile_frame _ _ _ _ _).after (by decide) ?_
    | with_reducible refine (State.inc_frame _ _ _ _).after (by decide) ?_
    | with_reducible refine (State.irq_frame _ _ _).after (by decide) ?_
    | with_reducible refine (State.flushLate_frame _ _ _ _ _).after (by decide) ?_
    | with_reducible refine Frame.ite ?_ ?_
    | split

theorem State.resumeSweep_frame s a1 a2 a3 a4 : Frame [.tiles] s (State.resumeSweep s a1 a2 a3 a4) := by
  unfold State.resumeSweep
  try dsimp only
  repeat' first
    | with_reducible exact Frame.refl _ _
    | with_reducible refine (State.modTile_frame _ _ _ _ _).after (by decide) ?_
    | split

theorem State.setAcc_frame s a1 a2 a3 a4 : Frame [.engines] s (State.setAcc s a1 a2 a3 a4) := by
  unfold State.setAcc
  try dsimp only
  repeat' first
    | with_reducible exact Frame.refl _ _
    | with_reducible refine (State.modEng_frame _ _ _ _).after (by decide) ?_

theorem State.accRefuse_frame s a1 a2 a3 : Frame [.regs, .engines, .cores, .dies, .awn, .out] s (State.accRefuse s a1 a2 a3) := by
  unfold State.accRefuse
  try dsimp only
  repeat' first
    | with_reducible exact Frame.refl _ _
    | with_reducible refine (State.refuseOp_frame _ _ _ _ _ _).after (by decide) ?_
    | with_reducible refine (State.engEvt_frame _ _ _).after (by decide) ?_
    | with_reducible refine (State.inc_frame _ _ _ _).after (by decide) ?_

theorem State.own_frame s a1 a2 a3 : Frame [.regs] s (State.own s a1 a2 a3) := by
  unfold State.own
  try dsimp only
  repeat' first
    | with_reducible exact Frame.refl _ _
    | with_reducible refine (State.wr_frame _ _ _ _).after (by decide) ?_

theorem State.disown_frame s a1 a2 a3 : Frame [.regs] s (State.disown s a1 a2 a3) := by
  unfold State.disown
  try dsimp only
  repeat' first
    | with_reducible exact Frame.refl _ _
    | with_reducible refine (State.wr_frame _ _ _ _).after (by decide) ?_

end Sys2Proof.Machine
end

