-- ==== Sys2Proof/Laws/FrameGate.lean ====
section
/-! SUPPORT. The frames of the operations of Machine/Gate.lean. -/

namespace Sys2Proof.Machine

set_option linter.unusedTactic false
set_option linter.unreachableTactic false

theorem State.holdAccess_frame s a1 a2 a3 a4 : Frame [.regs, .dies, .out] s (State.holdAccess s a1 a2 a3 a4) := by
  unfold State.holdAccess
  try dsimp only
  repeat' first
    | with_reducible exact Frame.refl _ _
    | with_reducible refine (State.emit_frame _ _ _ _).after (by decide) ?_
    | with_reducible refine (State.inc_frame _ _ _ _).after (by decide) ?_
    | with_reducible refine (State.send_frame _ _).after (by decide) ?_
    | with_reducible refine (State.modDie_frame _ _ _).after (by decide) ?_
    | with_reducible refine Frame.ite ?_ ?_
    | split

theorem State.gated_frame {P : List Part} (s : State) (i : Instr) (t : State) (hp : ∀ p ∈ [Part.regs, .dies, .out], p ∈ P)
    (h : Frame P s t) : Frame P s (s.gated i t) := by
  rcases gated_cases s i t with e | e | e | e | ⟨x, -, e⟩ <;> rw [e]
  · exact h
  · exact Frame.refl _ _
  · exact (State.send_frame _ _).after (fun p hq => hp p (by simp at hq; simp [hq])) (Frame.refl _ _)
  · exact (State.extRefuse_frame _ _ _ _).after hp (Frame.refl _ _)
  · exact (State.holdAccess_frame _ _ _ _ _).after hp (Frame.refl _ _)

end Sys2Proof.Machine
end

