-- ==== Sys2Proof/Laws/FrameTile.lean ====
section
/-! SUPPORT. The frames of the operations of Machine/Tile.lean. -/

namespace Sys2Proof.Machine

set_option linter.unusedTactic false
set_option linter.unreachableTactic false

theorem State.planWith_frame s a1 a2 a3 a4 a5 a6 a7 a8 a9 : Frame [.regs, .tiles, .out] s (State.planWith s a1 a2 a3 a4 a5 a6 a7 a8 a9) := by
  unfold State.planWith
  try dsimp only
  repeat' first
    | with_reducible exact Frame.refl _ _
    | with_reducible refine (State.modTile_frame _ _ _ _ _).after (by decide) ?_
    | with_reducible refine (State.modVec_frame _ _ _ _ _ _).after (by decide) ?_
    | with_reducible refine (State.inc_frame _ _ _ _).after (by decide) ?_
    | with_reducible refine (State.tcount_frame _ _ _ _).after (by decide) ?_
    | with_reducible refine (State.irq_frame _ _ _).after (by decide) ?_
    | with_reducible refine (State.engEvt_frame _ _ _).after (by decide) ?_
    | with_reducible refine Frame.ite ?_ ?_
    | split

theorem vectorPlanEffect_frame s a1 a2 a3 : Frame [.regs, .tiles, .out] s (vectorPlanEffect s a1 a2 a3) := by
  unfold vectorPlanEffect
  try dsimp only
  repeat' first
    | with_reducible exact Frame.refl _ _
    | with_reducible refine (State.planWith_frame _ _ _ _ _ _ _ _ _ _).after (by decide) ?_
    | with_reducible refine (State.modVec_frame _ _ _ _ _ _).after (by decide) ?_
    | with_reducible refine Frame.ite ?_ ?_
    | split

theorem vectorReissueEffect_frame s a1 a2 a3 : Frame [.regs, .tiles, .out] s (vectorReissueEffect s a1 a2 a3) := by
  unfold vectorReissueEffect
  try dsimp only
  repeat' first
    | with_reducible exact Frame.refl _ _
    | with_reducible refine (State.planWith_frame _ _ _ _ _ _ _ _ _ _).after (by decide) ?_
    | with_reducible refine Frame.ite ?_ ?_
    | split

theorem State.estimate_frame s a1 a2 a3 a4 a5 a6 : Frame [.tiles] s (State.estimate s a1 a2 a3 a4 a5 a6) := by
  unfold State.estimate
  try dsimp only
  repeat' first
    | with_reducible exact Frame.refl _ _
    | with_reducible refine (State.modTile_frame _ _ _ _ _).after (by decide) ?_
    | with_reducible refine Frame.ite ?_ ?_
    | split

theorem State.boundary_frame s a1 a2 a3 a4 : Frame [.regs, .tiles] s (State.boundary s a1 a2 a3 a4) := by
  unfold State.boundary
  try dsimp only
  repeat' first
    | with_reducible exact Frame.refl _ _
    | with_reducible refine (State.inc_frame _ _ _ _).after (by decide) ?_
    | with_reducible refine (State.wr_frame _ _ _ _).after (by decide) ?_
    | with_reducible refine (State.modTile_frame _ _ _ _ _).after (by decide) ?_
    | with_reducible refine Frame.ite ?_ ?_
    | split

theorem passEndEffect_frame s a1 a2 a3 a4 : Frame [.regs, .tiles, .cores, .out] s (passEndEffect s a1 a2 a3 a4) := by
  unfold passEndEffect
  try dsimp only
  repeat' first
    | with_reducible exact Frame.refl _ _
    | with_reducible refine (State.modVec_frame _ _ _ _ _ _).after (by decide) ?_
    | with_reducible refine (State.inc_frame _ _ _ _).after (by decide) ?_
    | with_reducible refine (State.modCore_frame _ _ _).after (by decide) ?_
    | with_reducible refine (State.tcount_frame _ _ _ _).after (by decide) ?_
    | with_reducible refine (State.irq_frame _ _ _).after (by decide) ?_
    | with_reducible refine (State.wr_frame _ _ _ _).after (by decide) ?_
    | with_reducible refine (State.wrB_frame _ _ _ _).after (by decide) ?_
    | with_reducible refine (State.estimate_frame _ _ _ _ _ _ _).after (by decide) ?_
    | with_reducible refine (State.modTile_frame _ _ _ _ _).after (by decide) ?_
    | with_reducible refine (State.boundary_frame _ _ _ _ _).after (by decide) ?_
    | with_reducible refine Frame.ite ?_ ?_
    | split

theorem State.setCalPhase_frame s a1 a2 a3 a4 : Frame [.regs] s (State.setCalPhase s a1 a2 a3 a4) := by
  unfold State.setCalPhase
  try dsimp only
  repeat' first
    | with_reducible exact Frame.refl _ _
    | with_reducible refine (State.wrB_frame _ _ _ _).after (by decide) ?_
    | with_reducible refine (State.wr_frame _ _ _ _).after (by decide) ?_

theorem State.endTurn_frame s a1 a2 a3 : Frame [.regs, .engines] s (State.endTurn s a1 a2 a3) := by
  unfold State.endTurn
  try dsimp only
  repeat' first
    | with_reducible exact Frame.refl _ _
    | with_reducible refine (State.wr_frame _ _ _ _).after (by decide) ?_
    | with_reducible refine (State.setCalPhase_frame _ _ _ _ _).after (by decide) ?_
    | with_reducible refine (State.modEng_frame _ _ _ _).after (by decide) ?_

theorem State.fillSpare_frame s a1 a2 a3 : Frame [.regs, .tiles, .dies] s (State.fillSpare s a1 a2 a3) := by
  unfold State.fillSpare
  try dsimp only
  repeat' first
    | with_reducible exact Frame.refl _ _
    | with_reducible refine (State.emptyBank_frame _ _ _ _ _).after (by decide) ?_
    | with_reducible refine (State.beginWrite_frame _ _ _ _ _ _ _ _ _ _ _).after (by decide) ?_
    | with_reducible refine Frame.ite ?_ ?_
    | with_reducible refine Frame.foldl (fun _ _ => ?_) _ ?_
    | split

theorem State.beginReturn_frame s a1 a2 a3 a4 : Frame [.regs, .tiles, .engines, .dies] s (State.beginReturn s a1 a2 a3 a4) := by
  unfold State.beginReturn
  try dsimp only
  repeat' first
    | with_reducible exact Frame.refl _ _
    | with_reducible refine (State.emptyBank_frame _ _ _ _ _).after (by decide) ?_
    | with_reducible refine (State.beginWrite_frame _ _ _ _ _ _ _ _ _ _ _).after (by decide) ?_
    | with_reducible refine (State.wr_frame _ _ _ _).after (by decide) ?_
    | with_reducible refine (State.modEng_frame _ _ _ _).after (by decide) ?_
    | with_reducible refine Frame.ite ?_ ?_
    | with_reducible refine Frame.foldl (fun _ _ => ?_) _ ?_
    | split

theorem State.dropFill_frame s a1 a2 : Frame [.regs, .tiles, .engines, .dies, .out] s (State.dropFill s a1 a2) := by
  unfold State.dropFill
  try dsimp only
  repeat' first
    | with_reducible exact Frame.refl _ _
    | with_reducible refine (State.endTurn_frame _ _ _ _).after (by decide) ?_
    | with_reducible refine (State.tcount_frame _ _ _ _).after (by decide) ?_
    | with_reducible refine (State.emptyBank_frame _ _ _ _ _).after (by decide) ?_

theorem State.skipTurn_frame s a1 a2 a3 : Frame [.regs, .engines, .out] s (State.skipTurn s a1 a2 a3) := by
  unfold State.skipTurn
  try dsimp only
  repeat' first
    | with_reducible exact Frame.refl _ _
    | with_reducible refine (State.tcount_frame _ _ _ _).after (by decide) ?_
    | with_reducible refine (State.endTurn_frame _ _ _ _).after (by decide) ?_
    | with_reducible refine (State.wr_frame _ _ _ _).after (by decide) ?_
    | with_reducible refine (State.modEng_frame _ _ _ _).after (by decide) ?_
    | with_reducible refine Frame.ite ?_ ?_
    | split

theorem State.resetTile_frame s a1 a2 a3 : Frame [.regs, .tiles, .engines, .dies, .out] s (State.resetTile s a1 a2 a3) := by
  unfold State.resetTile
  try dsimp only
  repeat' first
    | with_reducible exact Frame.refl _ _
    | with_reducible refine (State.emptyBank_frame _ _ _ _ _).after (by decide) ?_
    | with_reducible refine (State.modTile_frame _ _ _ _ _).after (by decide) ?_
    | with_reducible refine (State.modEng_frame _ _ _ _).after (by decide) ?_
    | with_reducible refine (State.skipTurn_frame _ _ _ _).after (by decide) ?_
    | with_reducible refine Frame.ite ?_ ?_
    | with_reducible refine Frame.foldl (fun _ _ => ?_) _ ?_
    | split

theorem tileResetEffect_frame s a1 a2 a3 : Frame [.regs, .tiles, .engines, .dies, .out] s (tileResetEffect s a1 a2 a3) := by
  unfold tileResetEffect
  try dsimp only
  repeat' first
    | with_reducible exact Frame.refl _ _
    | with_reducible refine (State.resetTile_frame _ _ _ _).after (by decide) ?_

theorem tileEnableEffect_frame s a1 a2 a3 a4 : Frame [.regs, .tiles] s (tileEnableEffect s a1 a2 a3 a4) := by
  unfold tileEnableEffect
  try dsimp only
  repeat' first
    | with_reducible exact Frame.refl _ _
    | with_reducible refine (State.refuse_frame _ _).after (by decide) ?_
    | with_reducible refine (State.modTile_frame _ _ _ _ _).after (by decide) ?_
    | with_reducible refine (State.wr_frame _ _ _ _).after (by decide) ?_
    | with_reducible refine Frame.ite ?_ ?_
    | split

theorem tileDisableEffect_frame s a1 a2 a3 : Frame [.regs, .tiles] s (tileDisableEffect s a1 a2 a3) := by
  unfold tileDisableEffect
  try dsimp only
  repeat' first
    | with_reducible exact Frame.refl _ _
    | with_reducible refine (State.modTile_frame _ _ _ _ _).after (by decide) ?_
    | with_reducible refine (State.wr_frame _ _ _ _).after (by decide) ?_
    | with_reducible refine Frame.ite ?_ ?_
    | split

theorem State.showColmap_frame s a1 a2 a3 : Frame [.regs] s (State.showColmap s a1 a2 a3) := by
  unfold State.showColmap
  try dsimp only
  repeat' first
    | with_reducible exact Frame.refl _ _
    | with_reducible refine (State.wrB_frame _ _ _ _).after (by decide) ?_

theorem State.putColmap_frame s a1 a2 a3 a4 a5 a6 a7 : Frame [.regs] s (State.putColmap s a1 a2 a3 a4 a5 a6 a7) := by
  unfold State.putColmap
  try dsimp only
  repeat' first
    | with_reducible exact Frame.refl _ _
    | with_reducible refine (State.showColmap_frame _ _ _ _).after (by decide) ?_
    | with_reducible refine (State.wr_frame _ _ _ _).after (by decide) ?_
    | with_reducible refine (State.wrB_frame _ _ _ _).after (by decide) ?_

theorem colmapWriteEffect_frame s a1 a2 a3 a4 a5 : Frame [.regs] s (colmapWriteEffect s a1 a2 a3 a4 a5) := by
  unfold colmapWriteEffect
  try dsimp only
  repeat' first
    | with_reducible exact Frame.refl _ _
    | with_reducible refine (State.refuse_frame _ _).after (by decide) ?_
    | with_reducible refine (State.putColmap_frame _ _ _ _ _ _ _ _).after (by decide) ?_
    | with_reducible refine Frame.ite ?_ ?_
    | split

theorem tileCfgEffect_frame s a1 a2 a3 a4 : Frame [.regs] s (tileCfgEffect s a1 a2 a3 a4) := by
  unfold tileCfgEffect
  try dsimp only
  repeat' first
    | with_reducible exact Frame.refl _ _
    | with_reducible refine (State.refuse_frame _ _).after (by decide) ?_
    | with_reducible refine (State.wr_frame _ _ _ _).after (by decide) ?_
    | with_reducible refine Frame.ite ?_ ?_
    | with_reducible refine Frame.foldl (fun _ _ => ?_) _ ?_
    | split

end Sys2Proof.Machine
end

