-- ==== Sys2Proof/Laws/FrameBank.lean ====
section
/-! SUPPORT. The frames of the operations of Machine/Bank.lean. -/

namespace Sys2Proof.Machine

set_option linter.unusedTactic false
set_option linter.unreachableTactic false

theorem refreshRowEffect_frame s a1 a2 a3 a4 : Frame [.regs, .tiles, .dies, .out] s (refreshRowEffect s a1 a2 a3 a4) := by
  unfold refreshRowEffect
  try dsimp only
  repeat' first
    | with_reducible exact Frame.refl _ _
    | with_reducible refine (State.modTile_frame _ _ _ _ _).after (by decide) ?_
    | with_reducible refine (State.refreshRowNow_frame _ _ _ _ _ _).after (by decide) ?_
    | with_reducible refine Frame.ite ?_ ?_
    | split

theorem refreshSlotEffect_frame s a1 a2 a3 : Frame [.regs, .tiles, .dies, .out] s (refreshSlotEffect s a1 a2 a3) := by
  unfold refreshSlotEffect
  try dsimp only
  repeat' first
    | with_reducible exact Frame.refl _ _
    | with_reducible refine (State.refreshRowNow_frame _ _ _ _ _ _).after (by decide) ?_
    | with_reducible refine (State.inc_frame _ _ _ _).after (by decide) ?_
    | with_reducible refine Frame.ite ?_ ?_
    | split

theorem bankWriteEffect_frame s a1 a2 : Frame [.regs, .tiles, .engines, .cores, .dies, .awn, .out] s (bankWriteEffect s a1 a2) := by
  unfold bankWriteEffect
  try dsimp only
  repeat' first
    | with_reducible exact Frame.refl _ _
    | with_reducible refine (State.addOp_frame _ _ _ _).after (by decide) ?_
    | with_reducible refine (State.issue_frame _ _ _ _).after (by decide) ?_
    | with_reducible refine (State.pump_frame _ _).after (by decide) ?_
    | with_reducible refine (State.startQueued_frame _ _ _ _).after (by decide) ?_
    | with_reducible refine Frame.foldl (fun _ _ => ?_) _ ?_
    | split

theorem State.compiledDone_frame s a1 a2 a3 a4 a5 : Frame [.regs, .tiles, .engines, .dies] s (State.compiledDone s a1 a2 a3 a4 a5) := by
  unfold State.compiledDone
  try dsimp only
  repeat' first
    | with_reducible exact Frame.refl _ _
    | with_reducible refine (State.wrB_frame _ _ _ _).after (by decide) ?_
    | with_reducible refine (State.endWrite_frame _ _ _ _ _ _ _ _).after (by decide) ?_
    | with_reducible refine (State.modOp_frame _ _ _ _ _).after (by decide) ?_
    | with_reducible refine (State.emitRep_frame _ _ _ _ _).after (by decide) ?_
    | with_reducible refine (State.emit_frame _ _ _ _).after (by decide) ?_
    | with_reducible refine (State.startQueued_frame _ _ _ _).after (by decide) ?_
    | with_reducible refine Frame.ite ?_ ?_
    | split

theorem State.fillDone_frame s a1 a2 a3 a4 a5 : Frame [.regs, .tiles, .dies] s (State.fillDone s a1 a2 a3 a4 a5) := by
  unfold State.fillDone
  try dsimp only
  repeat' first
    | with_reducible exact Frame.refl _ _
    | with_reducible refine (State.wrB_frame _ _ _ _).after (by decide) ?_
    | with_reducible refine (State.endWrite_frame _ _ _ _ _ _ _ _).after (by decide) ?_
    | with_reducible refine (State.emit_frame _ _ _ _).after (by decide) ?_
    | with_reducible refine Frame.ite ?_ ?_
    | split

theorem bankWriteDoneEffect_frame s a1 a2 a3 a4 : Frame [.regs, .tiles, .engines, .dies] s (bankWriteDoneEffect s a1 a2 a3 a4) := by
  unfold bankWriteDoneEffect
  try dsimp only
  repeat' first
    | with_reducible exact Frame.refl _ _
    | with_reducible refine (State.compiledDone_frame _ _ _ _ _ _).after (by decide) ?_
    | with_reducible refine (State.fillDone_frame _ _ _ _ _ _).after (by decide) ?_
    | with_reducible refine Frame.ite ?_ ?_
    | split

theorem bankSwapIssueEffect_frame s a1 a2 : Frame [.regs, .engines, .cores, .dies, .awn, .out] s (bankSwapIssueEffect s a1 a2) := by
  unfold bankSwapIssueEffect
  try dsimp only
  repeat' first
    | with_reducible exact Frame.refl _ _
    | with_reducible refine (State.pump_frame _ _).after (by decide) ?_
    | with_reducible refine (State.addOp_frame _ _ _ _).after (by decide) ?_
    | with_reducible refine (State.issue_frame _ _ _ _).after (by decide) ?_
    | split

theorem bankSwapJudgeEffect_frame s a1 a2 : Frame [.regs, .engines, .cores, .dies, .awn, .out] s (bankSwapJudgeEffect s a1 a2) := by
  unfold bankSwapJudgeEffect
  try dsimp only
  repeat' first
    | with_reducible exact Frame.refl _ _
    | with_reducible refine (State.haltFault_frame _ _ _ _ _ _).after (by decide) ?_
    | with_reducible refine (State.irq_frame _ _ _).after (by decide) ?_
    | with_reducible refine (State.dropOp_frame _ _ _ _).after (by decide) ?_
    | with_reducible refine (State.modOp_frame _ _ _ _ _).after (by decide) ?_
    | with_reducible refine Frame.ite ?_ ?_
    | split

theorem State.flipBank_frame s a1 a2 a3 : Frame [.regs, .tiles] s (State.flipBank s a1 a2 a3) := by
  unfold State.flipBank
  try dsimp only
  repeat' first
    | with_reducible exact Frame.refl _ _
    | with_reducible refine (State.modTile_frame _ _ _ _ _).after (by decide) ?_
    | with_reducible refine (State.wr_frame _ _ _ _).after (by decide) ?_

theorem bankSwapTileEffect_frame s a1 a2 a3 : Frame [.regs, .tiles, .engines] s (bankSwapTileEffect s a1 a2 a3) := by
  unfold bankSwapTileEffect
  try dsimp only
  repeat' first
    | with_reducible exact Frame.refl _ _
    | with_reducible refine (State.modOp_frame _ _ _ _ _).after (by decide) ?_
    | with_reducible refine (State.flipBank_frame _ _ _ _).after (by decide) ?_
    | with_reducible refine Frame.ite ?_ ?_
    | split

theorem wearStartEffect_frame s a1 a2 a3 : Frame [.regs, .tiles, .dies] s (wearStartEffect s a1 a2 a3) := by
  unfold wearStartEffect
  try dsimp only
  repeat' first
    | with_reducible exact Frame.refl _ _
    | with_reducible refine (State.beginWrite_frame _ _ _ _ _ _ _ _ _ _ _).after (by decide) ?_
    | with_reducible refine (State.modTile_frame _ _ _ _ _).after (by decide) ?_
    | with_reducible refine Frame.ite ?_ ?_
    | split
    | with_reducible refine Frame.of_pair (by assumption) ?_

theorem wearWriteDoneEffect_frame s a1 a2 a3 : Frame [.regs, .tiles, .engines, .dies] s (wearWriteDoneEffect s a1 a2 a3) := by
  unfold wearWriteDoneEffect
  try dsimp only
  repeat' first
    | with_reducible exact Frame.refl _ _
    | with_reducible refine (State.wrB_frame _ _ _ _).after (by decide) ?_
    | with_reducible refine (State.endWrite_frame _ _ _ _ _ _ _ _).after (by decide) ?_
    | with_reducible refine (State.wr_frame _ _ _ _).after (by decide) ?_
    | with_reducible refine (State.modTile_frame _ _ _ _ _).after (by decide) ?_
    | with_reducible refine (State.modEng_frame _ _ _ _).after (by decide) ?_
    | with_reducible refine (State.emit_frame _ _ _ _).after (by decide) ?_
    | with_reducible refine Frame.ite ?_ ?_
    | split

theorem wearSwapEffect_frame s a1 a2 a3 : Frame [.regs, .tiles, .engines, .dies] s (wearSwapEffect s a1 a2 a3) := by
  unfold wearSwapEffect
  try dsimp only
  repeat' first
    | with_reducible exact Frame.refl _ _
    | with_reducible refine (State.emptySet_frame _ _ _ _ _).after (by decide) ?_
    | with_reducible refine (State.emptyBank_frame _ _ _ _ _).after (by decide) ?_
    | with_reducible refine (State.flipBank_frame _ _ _ _).after (by decide) ?_
    | with_reducible refine (State.modTile_frame _ _ _ _ _).after (by decide) ?_
    | with_reducible refine (State.inc_frame _ _ _ _).after (by decide) ?_
    | with_reducible refine Frame.ite ?_ ?_
    | split

theorem bankReleaseEffect_frame s a1 a2 a3 : Frame [.regs, .tiles, .dies] s (bankReleaseEffect s a1 a2 a3) := by
  unfold bankReleaseEffect
  try dsimp only
  repeat' first
    | with_reducible exact Frame.refl _ _
    | with_reducible refine (State.refuse_frame _ _).after (by decide) ?_
    | with_reducible refine (State.emptyBank_frame _ _ _ _ _).after (by decide) ?_
    | with_reducible refine (State.modTile_frame _ _ _ _ _).after (by decide) ?_
    | with_reducible refine Frame.ite ?_ ?_
    | split

theorem tileResetEndEffect_frame s a1 a2 a3 : Frame [.regs, .tiles, .engines, .dies] s (tileResetEndEffect s a1 a2 a3) := by
  unfold tileResetEndEffect
  try dsimp only
  repeat' first
    | with_reducible exact Frame.refl _ _
    | with_reducible refine (State.startQueued_frame _ _ _ _).after (by decide) ?_
    | with_reducible refine (State.modTile_frame _ _ _ _ _).after (by decide) ?_
    | with_reducible refine Frame.ite ?_ ?_
    | split

end Sys2Proof.Machine
end

