-- ==== Sys2Proof/Laws/FrameEngine.lean ====
section
/-! SUPPORT. The frames of the operations of Machine/Engine.lean. -/

namespace Sys2Proof.Machine

set_option linter.unusedTactic false
set_option linter.unreachableTactic false

theorem State.laneEvents_frame s a1 a2 a3 a4 a5 a6 : Frame [.regs, .out] s (State.laneEvents s a1 a2 a3 a4 a5 a6) := by
  unfold State.laneEvents
  try dsimp only
  repeat' first
    | with_reducible exact Frame.refl _ _
    | with_reducible refine (State.engEvt_frame _ _ _).after (by decide) ?_
    | with_reducible refine (State.wr_frame _ _ _ _).after (by decide) ?_
    | with_reducible refine (State.inc_frame _ _ _ _).after (by decide) ?_
    | with_reducible refine Frame.ite ?_ ?_
    | split

theorem State.satRecord_frame s a1 a2 a3 : Frame [.dies] s (State.satRecord s a1 a2 a3) := by
  unfold State.satRecord
  try dsimp only
  repeat' first
    | with_reducible exact Frame.refl _ _
    | with_reducible refine (State.emitRep_frame _ _ _ _ _).after (by decide) ?_
    | with_reducible refine Frame.ite ?_ ?_
    | split

theorem State.clearAcc_frame s a1 a2 a3 : Frame [.regs, .engines] s (State.clearAcc s a1 a2 a3) := by
  unfold State.clearAcc
  try dsimp only
  repeat' first
    | with_reducible exact Frame.refl _ _
    | with_reducible refine (State.wr_frame _ _ _ _).after (by decide) ?_
    | with_reducible refine (State.setAcc_frame _ _ _ _ _).after (by decide) ?_

theorem State.startMvm_frame s a1 a2 a3 a4 a5 : Frame [.regs, .tiles, .engines, .out] s (State.startMvm s a1 a2 a3 a4 a5) := by
  unfold State.startMvm
  try dsimp only
  repeat' first
    | with_reducible exact Frame.refl _ _
    | with_reducible refine (State.own_frame _ _ _ _).after (by decide) ?_
    | with_reducible refine (State.clearAcc_frame _ _ _ _).after (by decide) ?_
    | with_reducible refine (State.setAcc_frame _ _ _ _ _).after (by decide) ?_
    | with_reducible refine (State.csTouch_frame _ _ _ _).after (by decide) ?_
    | with_reducible refine (State.modTile_frame _ _ _ _ _).after (by decide) ?_
    | with_reducible refine (State.modEng_frame _ _ _ _).after (by decide) ?_
    | with_reducible refine (State.addOp_frame _ _ _ _).after (by decide) ?_
    | with_reducible refine Frame.ite ?_ ?_
    | with_reducible refine Frame.foldl (fun _ _ => ?_) _ ?_
    | split

theorem mvmEffect_frame s a1 a2 a3 a4 : Frame [.regs, .tiles, .engines, .cores, .dies, .awn, .out] s (mvmEffect s a1 a2 a3 a4) := by
  unfold mvmEffect
  try dsimp only
  repeat' first
    | with_reducible exact Frame.refl _ _
    | with_reducible refine (State.issue_frame _ _ _ _).after (by decide) ?_
    | with_reducible refine (State.accRefuse_frame _ _ _ _).after (by decide) ?_
    | with_reducible refine (State.refuseOp_frame _ _ _ _ _ _).after (by decide) ?_
    | with_reducible refine (State.irq_frame _ _ _).after (by decide) ?_
    | with_reducible refine (State.engEvt_frame _ _ _).after (by decide) ?_
    | with_reducible refine (State.emit_frame _ _ _ _).after (by decide) ?_
    | with_reducible refine (State.inc_frame _ _ _ _).after (by decide) ?_
    | with_reducible refine (State.pump_frame _ _).after (by decide) ?_
    | with_reducible refine (State.startMvm_frame _ _ _ _ _ _).after (by decide) ?_
    | with_reducible refine Frame.ite ?_ ?_
    | split

theorem State.thresherEnd_frame s a1 a2 a3 : Frame [.regs, .engines, .dies, .out] s (State.thresherEnd s a1 a2 a3) := by
  unfold State.thresherEnd
  try dsimp only
  repeat' first
    | with_reducible exact Frame.refl _ _
    | with_reducible refine (State.laneEvents_frame _ _ _ _ _ _ _).after (by decide) ?_
    | with_reducible refine (State.setAcc_frame _ _ _ _ _).after (by decide) ?_
    | with_reducible refine (State.disown_frame _ _ _ _).after (by decide) ?_
    | with_reducible refine (State.satRecord_frame _ _ _ _).after (by decide) ?_
    | with_reducible refine (State.modOp_frame _ _ _ _ _).after (by decide) ?_
    | with_reducible refine Frame.ite ?_ ?_
    | split

theorem groupReduceEffect_frame s a1 a2 : Frame [.regs, .tiles, .engines, .dies, .out] s (groupReduceEffect s a1 a2) := by
  unfold groupReduceEffect
  try dsimp only
  repeat' first
    | with_reducible exact Frame.refl _ _
    | with_reducible refine (State.wr_frame _ _ _ _).after (by decide) ?_
    | with_reducible refine (State.setAcc_frame _ _ _ _ _).after (by decide) ?_
    | with_reducible refine (State.inc_frame _ _ _ _).after (by decide) ?_
    | with_reducible refine (State.laneEvents_frame _ _ _ _ _ _ _).after (by decide) ?_
    | with_reducible refine (State.modVec_frame _ _ _ _ _ _).after (by decide) ?_
    | with_reducible refine (State.modOp_frame _ _ _ _ _).after (by decide) ?_
    | with_reducible refine (State.thresherEnd_frame _ _ _ _).after (by decide) ?_
    | with_reducible refine Frame.ite ?_ ?_
    | with_reducible refine Frame.foldl (fun _ _ => ?_) _ ?_
    | split

theorem State.putRecord_frame s a1 a2 a3 a4 a5 a6 : Frame [.cstore] s (State.putRecord s a1 a2 a3 a4 a5 a6) := by
  unfold State.putRecord
  try dsimp only
  repeat' first
    | with_reducible exact Frame.refl _ _
    | with_reducible refine (State.csWrite_frame _ _ _ _ _).after (by decide) ?_
    | with_reducible refine Frame.ite ?_ ?_
    | split
    | with_reducible refine (Frame.cstore_wf _ _ ?_).after (by decide) ?_
    | intro _
    | with_reducible assumption
    | with_reducible refine Store.put_wf _ _ _ ?_
    | with_reducible refine Store.lines2_wf _ _ ?_
    | with_reducible refine Store.markWords_wf _ _ ?_
    | with_reducible refine Store.copyFrom_wf _ _ _ _ ?_
    | with_reducible refine Store.setChk_wf _ _ ?_
    | with_reducible refine Store.putWord_wf _ _ _ ?_
    | with_reducible refine Store.repair_wf _ ?_
    | with_reducible refine Store.zero_wf _ _ ?_
    | with_reducible refine Store.moveRange_wf _ _ _ ?_

theorem glumeDoneEffect_frame s a1 a2 : Frame [.fresh, .regs, .engines, .dies, .cstore, .out] s (glumeDoneEffect s a1 a2) := by
  unfold glumeDoneEffect
  try dsimp only
  repeat' first
    | with_reducible exact Frame.refl _ _
    | with_reducible refine (State.modEng_frame _ _ _ _).after (by decide) ?_
    | with_reducible refine (State.putRecord_frame _ _ _ _ _ _ _).after (by decide) ?_
    | with_reducible refine (State.takeFree_frame _).after (by decide) ?_
    | with_reducible refine (State.engEvt_frame _ _ _).after (by decide) ?_
    | with_reducible refine (State.emitRep_frame _ _ _ _ _).after (by decide) ?_
    | with_reducible refine (State.inc_frame _ _ _ _).after (by decide) ?_
    | with_reducible refine (State.modOp_frame _ _ _ _ _).after (by decide) ?_
    | with_reducible refine Frame.ite ?_ ?_
    | with_reducible refine Frame.foldl (fun _ _ => ?_) _ ?_
    | split

theorem opCompleteEffect_frame s a1 a2 a3 : Frame [.regs, .tiles, .engines, .cores, .dies, .awn, .out] s (opCompleteEffect s a1 a2 a3) := by
  unfold opCompleteEffect
  try dsimp only
  repeat' first
    | with_reducible exact Frame.refl _ _
    | with_reducible refine (State.inc_frame _ _ _ _).after (by decide) ?_
    | with_reducible refine (State.disown_frame _ _ _ _).after (by decide) ?_
    | with_reducible refine (State.modTile_frame _ _ _ _ _).after (by decide) ?_
    | with_reducible refine (State.complete_frame _ _ _).after (by decide) ?_
    | with_reducible refine (State.dropOp_frame _ _ _ _).after (by decide) ?_
    | with_reducible refine Frame.ite ?_ ?_
    | with_reducible refine Frame.foldl (fun _ _ => ?_) _ ?_
    | split

theorem State.loadSets_frame s a1 a2 a3 a4 : Frame [.regs, .engines, .out] s (State.loadSets s a1 a2 a3 a4).1 := by
  induction a3 generalizing s a4 with
  | nil => exact Frame.refl _ _
  | cons x l ih =>
    unfold State.loadSets
    try dsimp only
    repeat' first
      | with_reducible exact Frame.refl _ _
      | with_reducible refine (State.engEvt_frame _ _ _).after (by decide) ?_
      | with_reducible refine (State.emptySet_frame _ _ _ _ _).after (by decide) ?_
      | with_reducible refine (State.csTouch_frame _ _ _ _).after (by decide) ?_
      | with_reducible refine (State.wr_frame _ _ _ _).after (by decide) ?_
      | with_reducible refine (State.modEng_frame _ _ _ _).after (by decide) ?_
      | with_reducible refine (State.inc_frame _ _ _ _).after (by decide) ?_
      | split
      | with_reducible refine (ih _ _).after (by decide) ?_

theorem State.tryLoad_frame s a1 a2 : Frame [.regs, .engines, .cores, .dies, .awn, .out] s (State.tryLoad s a1 a2) := by
  unfold State.tryLoad
  try dsimp only
  repeat' first
    | with_reducible exact Frame.refl _ _
    | with_reducible refine (State.loadSets_frame _ _ _ _ _).after (by decide) ?_
    | with_reducible refine (State.modOp_frame _ _ _ _ _).after (by decide) ?_
    | with_reducible refine (State.haltFault_frame _ _ _ _ _ _).after (by decide) ?_
    | with_reducible refine (State.dropOp_frame _ _ _ _).after (by decide) ?_
    | with_reducible refine Frame.ite ?_ ?_
    | split
    | with_reducible refine Frame.of_pair (by assumption) ?_

theorem outlierLoadEffect_frame s a1 a2 : Frame [.regs, .engines, .cores, .dies, .awn, .out] s (outlierLoadEffect s a1 a2) := by
  unfold outlierLoadEffect
  try dsimp only
  repeat' first
    | with_reducible exact Frame.refl _ _
    | with_reducible refine (State.tryLoad_frame _ _ _).after (by decide) ?_
    | with_reducible refine (State.addOp_frame _ _ _ _).after (by decide) ?_
    | with_reducible refine (State.issue_frame _ _ _ _).after (by decide) ?_
    | with_reducible refine (State.pump_frame _ _).after (by decide) ?_
    | split

theorem checkForceEffect_frame s a1 a2 : Frame [.regs, .engines, .cores, .dies, .awn, .out] s (checkForceEffect s a1 a2) := by
  unfold checkForceEffect
  try dsimp only
  repeat' first
    | with_reducible exact Frame.refl _ _
    | with_reducible refine (State.complete_frame _ _ _).after (by decide) ?_
    | with_reducible refine (State.modEng_frame _ _ _ _).after (by decide) ?_
    | with_reducible refine (State.issue_frame _ _ _ _).after (by decide) ?_
    | split

end Sys2Proof.Machine
end

