-- ==== Sys2Proof/Laws/FrameAcc.lean ====
section
/-! SUPPORT. The frames of the operations of Machine/Acc.lean. -/

namespace Sys2Proof.Machine

set_option linter.unusedTactic false
set_option linter.unreachableTactic false

theorem State.accOp_frame {P : List Part} {s0 : State} s a1 a2 a3 a4 a5 (hp : ∀ p ∈ ([.regs, .engines, .cores, .dies, .awn, .out] : List Part), p ∈ P) (h5 : ∀ x y0, Frame P x (a5 x y0)) (k : Frame P s0 s) : Frame P s0 (State.accOp s a1 a2 a3 a4 a5) := by
  unfold State.accOp
  try dsimp only
  repeat' first
    | with_reducible exact k
    | with_reducible refine (h5 _ _ ).after (fun _ h => h) ?_
    | with_reducible exact Frame.refl _ _
    | with_reducible refine (State.issue_frame _ _ _ _).after (fun p hq => hp p ((by decide : ∀ p ∈ _, p ∈ ([.regs, .engines, .cores, .dies, .awn, .out] : List Part)) p hq)) ?_
    | with_reducible refine (State.accRefuse_frame _ _ _ _).after (fun p hq => hp p ((by decide : ∀ p ∈ _, p ∈ ([.regs, .engines, .cores, .dies, .awn, .out] : List Part)) p hq)) ?_
    | with_reducible refine (State.pump_frame _ _).after (fun p hq => hp p ((by decide : ∀ p ∈ _, p ∈ ([.regs, .engines, .cores, .dies, .awn, .out] : List Part)) p hq)) ?_
    | with_reducible refine (State.addOp_frame _ _ _ _).after (fun p hq => hp p ((by decide : ∀ p ∈ _, p ∈ ([.regs, .engines, .cores, .dies, .awn, .out] : List Part)) p hq)) ?_
    | with_reducible refine (State.own_frame _ _ _ _).after (fun p hq => hp p ((by decide : ∀ p ∈ _, p ∈ ([.regs, .engines, .cores, .dies, .awn, .out] : List Part)) p hq)) ?_
    | with_reducible refine Frame.ite ?_ ?_
    | split

theorem State.promoteAcc_frame s a1 a2 a3 : Frame [.regs, .engines, .out] s (State.promoteAcc s a1 a2 a3).1 := by
  unfold State.promoteAcc
  try dsimp only
  repeat' first
    | with_reducible exact Frame.refl _ _
    | with_reducible refine (State.inc_frame _ _ _ _).after (by decide) ?_
    | with_reducible refine (State.wr_frame _ _ _ _).after (by decide) ?_
    | with_reducible refine (State.setAcc_frame _ _ _ _ _).after (by decide) ?_
    | with_reducible refine (State.laneEvents_frame _ _ _ _ _ _ _).after (by decide) ?_

theorem State.putWords_frame s a1 a2 a3 : Frame [.cstore] s (State.putWords s a1 a2 a3) := by
  unfold State.putWords
  try dsimp only
  repeat' first
    | with_reducible exact Frame.refl _ _
    | with_reducible refine (State.csWrite_frame _ _ _ _ _).after (by decide) ?_
    | with_reducible refine (Frame.cstore_wf _ _ ?_).after (by decide) ?_
    | intro _
    | with_reducible assumption
    | with_reducible refine Store.put_wf _ _ _ ?_
    | with_reducible refine Store.lines2_wf _ _ ?_
    | with_reducible refine Store.markWords_wf _ _ ?_
    | with_reducible refine Store.copyFrom_wf _ _ _ _ ?_
    | with_reducible refine Store.setChk_wf _ _ ?_
    | with_reducible refine Store.putWord_wf _ _ _ ?_
    | with_reducible refine Store.repair_wf _ ?_
    | with_reducible refine Store.zero_wf _ _ ?_
    | with_reducible refine Store.moveRange_wf _ _ _ ?_

theorem State.flagsFromMarks_frame s a1 a2 a3 a4 a5 : Frame [.regs, .out] s (State.flagsFromMarks s a1 a2 a3 a4 a5) := by
  unfold State.flagsFromMarks
  try dsimp only
  repeat' first
    | with_reducible exact Frame.refl _ _
    | with_reducible refine (State.wr_frame _ _ _ _).after (by decide) ?_
    | with_reducible refine (State.laneEvents_frame _ _ _ _ _ _ _).after (by decide) ?_
    | with_reducible refine Frame.ite ?_ ?_
    | split

theorem accPromoteEffect_frame s a1 a2 : Frame [.regs, .engines, .cores, .dies, .awn, .out] s (accPromoteEffect s a1 a2) := by
  unfold accPromoteEffect
  try dsimp only
  repeat' first
    | with_reducible exact Frame.refl _ _
    | with_reducible refine (State.promoteAcc_frame _ _ _ _).after (by decide) ?_
    | with_reducible refine (State.satRecord_frame _ _ _ _).after (by decide) ?_
    | split
    | with_reducible refine Frame.of_pair (by assumption) ?_
    | with_reducible refine State.accOp_frame _ _ _ _ _ _ (by decide) (fun _ _ => ?_) ?_

theorem spillStore_frame a0 a1 s a3 : Frame [.regs, .engines, .dies, .cstore, .out] s (spillStore a0 a1 s a3) := by
  unfold spillStore
  try dsimp only
  repeat' first
    | with_reducible exact Frame.refl _ _
    | with_reducible refine (State.promoteAcc_frame _ _ _ _).after (by decide) ?_
    | with_reducible refine (State.putWords_frame _ _ _ _).after (by decide) ?_
    | with_reducible refine (State.clearAcc_frame _ _ _ _).after (by decide) ?_
    | with_reducible refine (State.satRecord_frame _ _ _ _).after (by decide) ?_
    | split
    | with_reducible refine Frame.of_pair (by assumption) ?_

theorem spillAddEffect_frame a0 a1 s a3 : Frame [.regs, .engines, .dies, .cstore, .out] s (spillAddEffect a0 a1 s a3) := by
  unfold spillAddEffect
  try dsimp only
  repeat' first
    | with_reducible exact Frame.refl _ _
    | with_reducible refine (State.promoteAcc_frame _ _ _ _).after (by decide) ?_
    | with_reducible refine (State.csTouch_frame _ _ _ _).after (by decide) ?_
    | with_reducible refine (State.putWords_frame _ _ _ _).after (by decide) ?_
    | with_reducible refine (State.engEvt_frame _ _ _).after (by decide) ?_
    | with_reducible refine (State.inc_frame _ _ _ _).after (by decide) ?_
    | with_reducible refine (State.clearAcc_frame _ _ _ _).after (by decide) ?_
    | with_reducible refine (State.satRecord_frame _ _ _ _).after (by decide) ?_
    | with_reducible refine Frame.ite ?_ ?_
    | split
    | with_reducible refine Frame.of_pair (by assumption) ?_

theorem spillSave_frame a0 a1 s a3 : Frame [.cstore] s (spillSave a0 a1 s a3) := by
  unfold spillSave
  try dsimp only
  repeat' first
    | with_reducible exact Frame.refl _ _
    | with_reducible refine (State.putWords_frame _ _ _ _).after (by decide) ?_

theorem resumeLoad_frame a0 a1 s a3 : Frame [.regs, .engines, .dies, .out] s (resumeLoad a0 a1 s a3) := by
  unfold resumeLoad
  try dsimp only
  repeat' first
    | with_reducible exact Frame.refl _ _
    | with_reducible refine (State.csTouch_frame _ _ _ _).after (by decide) ?_
    | with_reducible refine (State.clearAcc_frame _ _ _ _).after (by decide) ?_
    | with_reducible refine (State.setAcc_frame _ _ _ _ _).after (by decide) ?_
    | with_reducible refine (State.satRecord_frame _ _ _ _).after (by decide) ?_
    | with_reducible refine (State.flagsFromMarks_frame _ _ _ _ _ _).after (by decide) ?_

theorem resumeAdd_frame a0 a1 s a3 : Frame [.regs, .engines, .dies, .out] s (resumeAdd a0 a1 s a3) := by
  unfold resumeAdd
  try dsimp only
  repeat' first
    | with_reducible exact Frame.refl _ _
    | with_reducible refine (State.promoteAcc_frame _ _ _ _).after (by decide) ?_
    | with_reducible refine (State.csTouch_frame _ _ _ _).after (by decide) ?_
    | with_reducible refine (State.setAcc_frame _ _ _ _ _).after (by decide) ?_
    | with_reducible refine (State.satRecord_frame _ _ _ _).after (by decide) ?_
    | with_reducible refine (State.flagsFromMarks_frame _ _ _ _ _ _).after (by decide) ?_
    | split
    | with_reducible refine Frame.of_pair (by assumption) ?_

theorem resumeRestore_frame a0 a1 s a3 : Frame [.regs, .engines, .cores, .dies, .awn, .out] s (resumeRestore a0 a1 s a3) := by
  unfold resumeRestore
  try dsimp only
  repeat' first
    | with_reducible exact Frame.refl _ _
    | with_reducible refine (State.refuseOp_frame _ _ _ _ _ _).after (by decide) ?_
    | with_reducible refine (State.dropOp_frame _ _ _ _).after (by decide) ?_
    | with_reducible refine (State.disown_frame _ _ _ _).after (by decide) ?_
    | with_reducible refine (State.csTouch_frame _ _ _ _).after (by decide) ?_
    | with_reducible refine (State.setAcc_frame _ _ _ _ _).after (by decide) ?_
    | with_reducible refine (State.wr_frame _ _ _ _).after (by decide) ?_
    | with_reducible refine (State.engEvt_frame _ _ _).after (by decide) ?_
    | with_reducible refine (State.inc_frame _ _ _ _).after (by decide) ?_
    | with_reducible refine Frame.ite ?_ ?_
    | split

theorem accReadEffect_frame a0 a1 s a3 : Frame [.regs, .engines, .dies, .cstore, .out] s (accReadEffect a0 a1 s a3) := by
  unfold accReadEffect
  try dsimp only
  repeat' first
    | with_reducible exact Frame.refl _ _
    | with_reducible refine (State.promoteAcc_frame _ _ _ _).after (by decide) ?_
    | with_reducible refine (State.satRecord_frame _ _ _ _).after (by decide) ?_
    | with_reducible refine (State.putWords_frame _ _ _ _).after (by decide) ?_
    | split
    | with_reducible refine Frame.of_pair (by assumption) ?_

end Sys2Proof.Machine
end

