-- ==== Sys2Proof/Laws/FramePageOps.lean ====
section
/-! SUPPORT. The frames of the operations of Machine/PageOps.lean. -/

namespace Sys2Proof.Machine

set_option linter.unusedTactic false
set_option linter.unreachableTactic false

theorem State.modPages_frame s a1 : Frame [.pages] s (State.modPages s a1) := by
  unfold State.modPages
  try dsimp only
  repeat' first
    | with_reducible exact Frame.refl _ _
    | with_reducible refine (Frame.upd_pages _ _).after (by decide) ?_

theorem State.setPage_frame s a1 a2 : Frame [.regs, .dev, .pages] s (State.setPage s a1 a2) := by
  unfold State.setPage
  try dsimp only
  repeat' first
    | with_reducible exact Frame.refl _ _
    | with_reducible refine (State.devWrite_frame _ _ _ _).after (by decide) ?_
    | with_reducible refine (State.modPages_frame _ _).after (by decide) ?_

theorem State.pageOp_frame s a1 : Frame [.regs] s (State.pageOp s a1) := by
  unfold State.pageOp
  try dsimp only
  repeat' first
    | with_reducible exact Frame.refl _ _
    | with_reducible refine (State.inc_frame _ _ _ _).after (by decide) ?_

theorem State.pageRefused_frame s a1 : Frame [.regs] s (State.pageRefused s a1) := by
  unfold State.pageRefused
  try dsimp only
  repeat' first
    | with_reducible exact Frame.refl _ _
    | with_reducible refine (State.inc_frame _ _ _ _).after (by decide) ?_

theorem State.devCopy_frame s a1 a2 a3 : Frame [.regs, .dies, .hbms, .dev, .out] s (State.devCopy s a1 a2 a3) := by
  unfold State.devCopy
  try dsimp only
  repeat' first
    | with_reducible exact Frame.refl _ _
    | with_reducible refine (State.touch_frame _ _ _).after (by decide) ?_
    | with_reducible refine (State.count2_frame _ _ _ _).after (by decide) ?_
    | with_reducible refine Frame.ite ?_ ?_
    | split
    | with_reducible refine (Frame.dev_wf _ _ ?_).after (by decide) ?_
    | intro _
    | with_reducible assumption
    | with_reducible refine Store.put_wf _ _ _ ?_
    | with_reducible refine Store.lines2_wf _ _ ?_
    | with_reducible refine Store.markWords_wf _ _ ?_
    | with_reducible refine Store.copyFrom_wf _ _ _ _ ?_
    | with_reducible refine Store.setChk_wf _ _ ?_
    | with_reducible refine Store.putWord_wf _ _ _ ?_
    | with_reducible refine Store.repair_wf _ ?_
    | with_reducible refine Store.zero_wf _ _ ?_
    | with_reducible refine Store.moveRange_wf _ _ _ ?_

theorem State.attnFail_frame s a1 a2 a3 a4 a5 a6 : Frame [.regs, .dies, .out] s (State.attnFail s a1 a2 a3 a4 a5 a6) := by
  unfold State.attnFail
  try dsimp only
  repeat' first
    | with_reducible exact Frame.refl _ _
    | with_reducible refine (State.send_frame _ _).after (by decide) ?_
    | with_reducible refine (State.irq_frame _ _ _).after (by decide) ?_
    | with_reducible refine (State.inc_frame _ _ _ _).after (by decide) ?_
    | with_reducible refine (State.emitSeq_frame _ _ _ _ _ _).after (by decide) ?_
    | with_reducible refine Frame.ite ?_ ?_
    | split

theorem State.gateRefuse_frame s a1 a2 a3 a4 : Frame [.regs, .dies, .pages, .out] s (State.gateRefuse s a1 a2 a3 a4) := by
  unfold State.gateRefuse
  try dsimp only
  repeat' first
    | with_reducible exact Frame.refl _ _
    | with_reducible refine (State.pageRefused_frame _ _).after (by decide) ?_
    | with_reducible refine (State.modPages_frame _ _).after (by decide) ?_
    | with_reducible refine (State.irq_frame _ _ _).after (by decide) ?_
    | with_reducible refine (State.emitSeq_frame _ _ _ _ _ _).after (by decide) ?_
    | with_reducible refine Frame.ite ?_ ?_
    | split

theorem State.failSlot_frame s a1 : Frame [.srv] s (State.failSlot s a1) := by
  unfold State.failSlot
  try dsimp only
  repeat' first
    | with_reducible exact Frame.refl _ _
    | with_reducible refine Frame.ite ?_ ?_
    | split
    | with_reducible refine (Frame.upd_srv _ _).after (by decide) ?_

theorem State.srvGate_frame s a1 a2 a3 : Frame [.regs, .dies, .pages, .srv, .out] s (State.srvGate s a1 a2 a3) := by
  unfold State.srvGate
  try dsimp only
  repeat' first
    | with_reducible exact Frame.refl _ _
    | with_reducible refine (State.failSlot_frame _ _).after (by decide) ?_
    | with_reducible refine (State.gateRefuse_frame _ _ _ _ _).after (by decide) ?_
    | with_reducible refine (State.emitSeq_frame _ _ _ _ _ _).after (by decide) ?_
    | with_reducible refine Frame.ite ?_ ?_
    | split

theorem State.alloc_frame s a1 a2 a3 a4 a5 a6 : Frame [.regs, .dies, .dev, .pages, .out] s (State.alloc s a1 a2 a3 a4 a5 a6).1 := by
  unfold State.alloc
  try dsimp only
  repeat' first
    | with_reducible exact Frame.refl _ _
    | with_reducible refine (State.gateRefuse_frame _ _ _ _ _).after (by decide) ?_
    | with_reducible refine (State.pageOp_frame _ _).after (by decide) ?_
    | with_reducible refine (State.setPage_frame _ _ _).after (by decide) ?_
    | with_reducible refine (State.irq_frame _ _ _).after (by decide) ?_
    | with_reducible refine (State.pageRefused_frame _ _).after (by decide) ?_
    | with_reducible refine (State.emitSeq_frame _ _ _ _ _ _).after (by decide) ?_
    | with_reducible refine Frame.ite ?_ ?_
    | split

theorem State.modAttn_frame s a1 a2 : Frame [.cores] s (State.modAttn s a1 a2) := by
  unfold State.modAttn
  try dsimp only
  repeat' first
    | with_reducible exact Frame.refl _ _
    | with_reducible refine (State.modCore_frame _ _ _).after (by decide) ?_

theorem State.attnAsk_frame s a1 a2 a3 a4 : Frame [.cores] s (State.attnAsk s a1 a2 a3 a4) := by
  unfold State.attnAsk
  try dsimp only
  repeat' first
    | with_reducible exact Frame.refl _ _
    | with_reducible refine (State.modAttn_frame _ _ _).after (by decide) ?_
    | with_reducible refine Frame.ite ?_ ?_
    | split

theorem State.attnGot_frame s a1 a2 a3 a4 a5 : Frame [.cores] s (State.attnGot s a1 a2 a3 a4 a5) := by
  unfold State.attnGot
  try dsimp only
  repeat' first
    | with_reducible exact Frame.refl _ _
    | with_reducible refine (State.modAttn_frame _ _ _).after (by decide) ?_

theorem State.attnUnask_frame s a1 a2 : Frame [.cores] s (State.attnUnask s a1 a2) := by
  unfold State.attnUnask
  try dsimp only
  repeat' first
    | with_reducible exact Frame.refl _ _
    | with_reducible refine (State.modAttn_frame _ _ _).after (by decide) ?_

theorem State.attnPinFail_frame s a1 a2 a3 a4 a5 a6 : Frame [.regs, .cores, .dies, .out] s (State.attnPinFail s a1 a2 a3 a4 a5 a6) := by
  unfold State.attnPinFail
  try dsimp only
  repeat' first
    | with_reducible exact Frame.refl _ _
    | with_reducible refine (State.modAttn_frame _ _ _).after (by decide) ?_
    | with_reducible refine (State.attnFail_frame _ _ _ _ _ _ _).after (by decide) ?_
    | with_reducible refine (State.attnUnask_frame _ _ _).after (by decide) ?_
    | split

theorem State.pageFree_frame s a1 : Frame [.regs, .dev, .pages] s (State.pageFree s a1) := by
  unfold State.pageFree
  try dsimp only
  repeat' first
    | with_reducible exact Frame.refl _ _
    | with_reducible refine (State.setPage_frame _ _ _).after (by decide) ?_
    | with_reducible refine (State.modPages_frame _ _).after (by decide) ?_
    | with_reducible refine Frame.ite ?_ ?_
    | split

theorem State.unpinPage_frame s a1 : Frame [.regs, .dev, .pages] s (State.unpinPage s a1) := by
  unfold State.unpinPage
  try dsimp only
  repeat' first
    | with_reducible exact Frame.refl _ _
    | with_reducible refine (State.pageRefused_frame _ _).after (by decide) ?_
    | with_reducible refine (State.pageOp_frame _ _).after (by decide) ?_
    | with_reducible refine (State.setPage_frame _ _ _).after (by decide) ?_
    | with_reducible refine (State.pageFree_frame _ _).after (by decide) ?_
    | with_reducible refine (State.modPages_frame _ _).after (by decide) ?_
    | with_reducible refine Frame.ite ?_ ?_
    | split

theorem State.dropRef_frame s a1 : Frame [.regs, .dev, .pages] s (State.dropRef s a1) := by
  unfold State.dropRef
  try dsimp only
  repeat' first
    | with_reducible exact Frame.refl _ _
    | with_reducible refine (State.pageOp_frame _ _).after (by decide) ?_
    | with_reducible refine (State.setPage_frame _ _ _).after (by decide) ?_
    | with_reducible refine (State.pageFree_frame _ _).after (by decide) ?_
    | with_reducible refine (State.inc_frame _ _ _ _).after (by decide) ?_
    | with_reducible refine Frame.ite ?_ ?_
    | split

theorem State.startCow_frame s a1 a2 a3 a4 a5 a6 a7 : Frame [.regs, .cores, .dies, .dev, .pages, .out] s (State.startCow s a1 a2 a3 a4 a5 a6 a7) := by
  unfold State.startCow
  try dsimp only
  repeat' first
    | with_reducible exact Frame.refl _ _
    | with_reducible refine (State.setPage_frame _ _ _).after (by decide) ?_
    | with_reducible refine (State.alloc_frame _ _ _ _ _ _ _).after (by decide) ?_
    | with_reducible refine (State.modPages_frame _ _).after (by decide) ?_
    | with_reducible refine (State.attnPinFail_frame _ _ _ _ _ _ _).after (by decide) ?_
    | with_reducible refine (State.unpinPage_frame _ _).after (by decide) ?_
    | split
    | with_reducible refine Frame.of_pair (by assumption) ?_

theorem State.tryReq_frame s a1 : Frame [.regs, .cores, .dies, .dev, .pages, .srv, .out] s ((State.tryReq s a1).getD s) := by
  unfold State.tryReq
  try dsimp only
  repeat' first
    | with_reducible exact Frame.refl _ _
    | with_reducible refine Frame.getD_none ?_
    | with_reducible refine Frame.getD_some ?_
    | with_reducible refine (State.attnPinFail_frame _ _ _ _ _ _ _).after (by decide) ?_
    | with_reducible refine (State.gateRefuse_frame _ _ _ _ _).after (by decide) ?_
    | with_reducible refine (State.pageRefused_frame _ _).after (by decide) ?_
    | with_reducible refine (State.attnGot_frame _ _ _ _ _ _).after (by decide) ?_
    | with_reducible refine (State.inc_frame _ _ _ _).after (by decide) ?_
    | with_reducible refine (State.pageOp_frame _ _).after (by decide) ?_
    | with_reducible refine (State.setPage_frame _ _ _).after (by decide) ?_
    | with_reducible refine (State.startCow_frame _ _ _ _ _ _ _ _).after (by decide) ?_
    | with_reducible refine (State.srvGate_frame _ _ _ _).after (by decide) ?_
    | with_reducible refine (State.irq_frame _ _ _).after (by decide) ?_
    | with_reducible refine (State.emitSeq_frame _ _ _ _ _ _).after (by decide) ?_
    | with_reducible refine (State.failSlot_frame _ _).after (by decide) ?_
    | with_reducible refine (State.dropRef_frame _ _).after (by decide) ?_
    | with_reducible refine Frame.ite ?_ ?_
    | split

theorem State.tryReq_some {s a1 t} (h : State.tryReq s a1 = some t) : Frame [.regs, .cores, .dies, .dev, .pages, .srv, .out] s t :=
  Frame.of_some h (State.tryReq_frame s a1)

theorem State.retryHeld_frame s a1 : Frame [.regs, .cores, .dies, .dev, .pages, .srv, .out] s (State.retryHeld s a1) := by
  unfold State.retryHeld
  try dsimp only
  repeat' first
    | with_reducible exact Frame.refl _ _
    | with_reducible refine (State.modPages_frame _ _).after (by decide) ?_
    | with_reducible refine Frame.ite ?_ ?_
    | with_reducible refine Frame.foldl (fun _ _ => ?_) _ ?_
    | split
    | with_reducible refine (State.tryReq_some (by with_reducible assumption)).after (by decide) ?_

theorem State.runReq_frame s a1 : Frame [.regs, .cores, .dies, .dev, .pages, .srv, .out] s (State.runReq s a1) := by
  unfold State.runReq
  try dsimp only
  repeat' first
    | with_reducible exact Frame.refl _ _
    | with_reducible refine (State.retryHeld_frame _ _).after (by decide) ?_
    | with_reducible refine (State.modPages_frame _ _).after (by decide) ?_
    | split
    | with_reducible refine (State.tryReq_some (by with_reducible assumption)).after (by decide) ?_

theorem State.unpin_frame s a1 : Frame [.regs, .cores, .dies, .dev, .pages, .srv, .out] s (State.unpin s a1) := by
  unfold State.unpin
  try dsimp only
  repeat' first
    | with_reducible exact Frame.refl _ _
    | with_reducible refine (State.retryHeld_frame _ _).after (by decide) ?_
    | with_reducible refine (State.unpinPage_frame _ _).after (by decide) ?_

theorem State.attnRefused_frame s a1 a2 : Frame [.regs, .engines, .cores, .dies, .dev, .pages, .srv, .awn, .out] s (State.attnRefused s a1 a2) := by
  unfold State.attnRefused
  try dsimp only
  repeat' first
    | with_reducible exact Frame.refl _ _
    | with_reducible refine (State.unpin_frame _ _).after (by decide) ?_
    | with_reducible refine (State.haltFault_frame _ _ _ _ _ _).after (by decide) ?_
    | with_reducible refine (State.modCore_frame _ _ _).after (by decide) ?_
    | with_reducible refine Frame.ite ?_ ?_
    | with_reducible refine Frame.foldl (fun _ _ => ?_) _ ?_
    | split

theorem State.walkN_frame a0 s a2 : Frame [.regs, .engines, .cores, .dies, .hbms, .dev, .pages, .srv, .awn, .out] s (State.walkN a0 s a2) := by
  induction a0 generalizing s with
  | zero => exact Frame.refl _ _
  | succ n ih =>
    unfold State.walkN
    try dsimp only
    repeat' first
      | with_reducible exact Frame.refl _ _
      | with_reducible refine (State.attnFail_frame _ _ _ _ _ _ _).after (by decide) ?_
      | with_reducible refine (State.modAttn_frame _ _ _).after (by decide) ?_
      | with_reducible refine (State.attnRefused_frame _ _ _).after (by decide) ?_
      | with_reducible refine (State.touch_frame _ _ _).after (by decide) ?_
      | with_reducible refine Frame.ite ?_ ?_
      | split
      | with_reducible refine (ih _).after (by decide) ?_

theorem State.walk_frame s a1 : Frame [.regs, .engines, .cores, .dies, .hbms, .dev, .pages, .srv, .awn, .out] s (State.walk s a1) := by
  unfold State.walk
  try dsimp only
  repeat' first
    | with_reducible exact Frame.refl _ _
    | with_reducible refine (State.walkN_frame _ _ _).after (by decide) ?_

end Sys2Proof.Machine
end

