-- ==== Sys2Proof/Laws/FrameAttention.lean ====
section
/-! SUPPORT. The frames of the operations of Machine/Attention.lean. -/

namespace Sys2Proof.Machine

set_option linter.unusedTactic false
set_option linter.unreachableTactic false

theorem State.fp8Sat_frame s a1 a2 : Frame [.regs, .out] s (State.fp8Sat s a1 a2) := by
  unfold State.fp8Sat
  try dsimp only
  repeat' first
    | with_reducible exact Frame.refl _ _
    | with_reducible refine (State.irq_frame _ _ _).after (by decide) ?_
    | with_reducible refine (State.inc_frame _ _ _ _).after (by decide) ?_
    | with_reducible refine Frame.ite ?_ ?_
    | split

theorem State.touchTokens_frame s a1 a2 a3 : Frame [.regs, .dies, .hbms, .out] s (State.touchTokens s a1 a2 a3) := by
  unfold State.touchTokens
  try dsimp only
  repeat' first
    | with_reducible exact Frame.refl _ _
    | with_reducible refine (State.touch_frame _ _ _).after (by decide) ?_
    | with_reducible refine Frame.foldl (fun _ _ => ?_) _ ?_

theorem State.writeToken_frame s a1 a2 a3 a4 a5 : Frame [.regs, .dev] s (State.writeToken s a1 a2 a3 a4 a5).1 := by
  unfold State.writeToken
  try dsimp only
  repeat' first
    | with_reducible exact Frame.refl _ _
    | with_reducible refine (State.devWrite_frame _ _ _ _).after (by decide) ?_
    | with_reducible refine Frame.ite ?_ ?_
    | with_reducible refine Frame.foldl (fun _ _ => ?_) _ ?_
    | split

theorem State.appendTokens_frame s a1 a2 a3 a4 a5 : Frame [.regs, .dev, .out] s (State.appendTokens s a1 a2 a3 a4 a5) := by
  unfold State.appendTokens
  try dsimp only
  repeat' first
    | with_reducible exact Frame.refl _ _
    | with_reducible refine (State.writeToken_frame _ _ _ _ _ _).after (by decide) ?_
    | with_reducible refine (State.csTouch_frame _ _ _ _).after (by decide) ?_
    | with_reducible refine (State.fp8Sat_frame _ _ _).after (by decide) ?_
    | with_reducible refine Frame.foldl (fun _ _ => ?_) _ ?_

theorem State.xlatePage_frame s a1 a2 a3 : Frame [.regs, .engines, .cores, .dies, .hbms, .dev, .pages, .srv, .awn, .out] s (State.xlatePage s a1 a2 a3) := by
  unfold State.xlatePage
  try dsimp only
  repeat' first
    | with_reducible exact Frame.refl _ _
    | with_reducible refine (State.attnFail_frame _ _ _ _ _ _ _).after (by decide) ?_
    | with_reducible refine (State.modAttn_frame _ _ _).after (by decide) ?_
    | with_reducible refine (State.attnRefused_frame _ _ _).after (by decide) ?_
    | with_reducible refine (State.appendTokens_frame _ _ _ _ _ _).after (by decide) ?_
    | with_reducible refine (State.touchTokens_frame _ _ _ _).after (by decide) ?_
    | with_reducible refine (State.inc_frame _ _ _ _).after (by decide) ?_
    | with_reducible refine (State.fp8Sat_frame _ _ _).after (by decide) ?_
    | with_reducible refine Frame.ite ?_ ?_
    | split

theorem State.xlateAll_frame s a1 a2 : Frame [.regs, .engines, .cores, .dies, .hbms, .dev, .pages, .srv, .awn, .out] s (State.xlateAll s a1 a2) := by
  unfold State.xlateAll
  try dsimp only
  repeat' first
    | with_reducible exact Frame.refl _ _
    | with_reducible refine (State.xlatePage_frame _ _ _ _).after (by decide) ?_
    | with_reducible refine (State.modAttn_frame _ _ _).after (by decide) ?_
    | with_reducible refine Frame.foldl (fun _ _ => ?_) _ ?_

theorem State.attnStart_frame s a1 a2 : Frame [.regs, .engines, .cores, .dies, .hbms, .dev, .pages, .srv, .awn, .out] s (State.attnStart s a1 a2) := by
  unfold State.attnStart
  try dsimp only
  repeat' first
    | with_reducible exact Frame.refl _ _
    | with_reducible refine (State.csTouch_frame _ _ _ _).after (by decide) ?_
    | with_reducible refine (State.haltFault_frame _ _ _ _ _ _).after (by decide) ?_
    | with_reducible refine (State.irq_frame _ _ _).after (by decide) ?_
    | with_reducible refine (State.modCore_frame _ _ _).after (by decide) ?_
    | with_reducible refine (State.attnFail_frame _ _ _ _ _ _ _).after (by decide) ?_
    | with_reducible refine (State.xlateAll_frame _ _ _).after (by decide) ?_
    | with_reducible refine (State.walk_frame _ _).after (by decide) ?_
    | with_reducible refine Frame.ite ?_ ?_
    | with_reducible refine Frame.foldl (fun _ _ => ?_) _ ?_
    | split

theorem attnIssueEffect_frame s a1 a2 : Frame [.regs, .engines, .cores, .dies, .hbms, .dev, .pages, .srv, .awn, .out] s (attnIssueEffect s a1 a2) := by
  unfold attnIssueEffect
  try dsimp only
  repeat' first
    | with_reducible exact Frame.refl _ _
    | with_reducible refine (State.pump_frame _ _).after (by decide) ?_
    | with_reducible refine (State.attnStart_frame _ _ _).after (by decide) ?_
    | with_reducible refine (State.issue_frame _ _ _ _).after (by decide) ?_
    | split

theorem State.dropPin_frame s a1 a2 : Frame [.cores] s (State.dropPin s a1 a2) := by
  unfold State.dropPin
  try dsimp only
  repeat' first
    | with_reducible exact Frame.refl _ _
    | with_reducible refine (State.modAttn_frame _ _ _).after (by decide) ?_

theorem walkerReadEffect_frame s a1 : Frame [.regs, .engines, .cores, .dies, .hbms, .dev, .pages, .srv, .awn, .out] s (walkerReadEffect s a1) := by
  unfold walkerReadEffect
  try dsimp only
  repeat' first
    | with_reducible exact Frame.refl _ _
    | with_reducible refine (State.dropPin_frame _ _ _).after (by decide) ?_
    | with_reducible refine (State.walk_frame _ _).after (by decide) ?_
    | with_reducible refine (State.unpin_frame _ _).after (by decide) ?_
    | with_reducible refine (State.attnRefused_frame _ _ _).after (by decide) ?_
    | with_reducible refine (State.touchTokens_frame _ _ _ _).after (by decide) ?_
    | with_reducible refine (State.attnFail_frame _ _ _ _ _ _ _).after (by decide) ?_
    | with_reducible refine (State.modAttn_frame _ _ _).after (by decide) ?_
    | with_reducible refine (State.inc_frame _ _ _ _).after (by decide) ?_
    | with_reducible refine (State.fp8Sat_frame _ _ _).after (by decide) ?_
    | with_reducible refine Frame.ite ?_ ?_
    | split

theorem appendWriteEffect_frame s a1 : Frame [.regs, .engines, .cores, .dies, .hbms, .dev, .pages, .srv, .awn, .out] s (appendWriteEffect s a1) := by
  unfold appendWriteEffect
  try dsimp only
  repeat' first
    | with_reducible exact Frame.refl _ _
    | with_reducible refine (State.dropPin_frame _ _ _).after (by decide) ?_
    | with_reducible refine (State.walk_frame _ _).after (by decide) ?_
    | with_reducible refine (State.unpin_frame _ _).after (by decide) ?_
    | with_reducible refine (State.attnRefused_frame _ _ _).after (by decide) ?_
    | with_reducible refine (State.devWrite_frame _ _ _ _).after (by decide) ?_
    | with_reducible refine (State.attnFail_frame _ _ _ _ _ _ _).after (by decide) ?_
    | with_reducible refine (State.modAttn_frame _ _ _).after (by decide) ?_
    | with_reducible refine (State.appendTokens_frame _ _ _ _ _ _).after (by decide) ?_
    | with_reducible refine (State.setPage_frame _ _ _).after (by decide) ?_
    | with_reducible refine Frame.ite ?_ ?_
    | split

theorem State.writeRows_frame s a1 a2 a3 : Frame [.regs, .cstore, .out] s (State.writeRows s a1 a2 a3) := by
  unfold State.writeRows
  try dsimp only
  repeat' first
    | with_reducible exact Frame.refl _ _
    | with_reducible refine (State.csTouch_frame _ _ _ _).after (by decide) ?_
    | with_reducible refine (State.csWrite_frame _ _ _ _ _).after (by decide) ?_
    | with_reducible refine Frame.ite ?_ ?_
    | with_reducible refine Frame.foldl (fun _ _ => ?_) _ ?_
    | split
    | with_reducible refine (Frame.cstore_wf _ _ ?_).after (by decide) ?_
    | intro _
    | with_reducible assumption
    | with_reducible refine Store.put_wf _ _ _ ?_
    | with_reducible refine Store.lines2_wf _ _ ?_
    | with_reducible refine Store.markWords_wf _ _ ?_
    | with_reducible refine Store.copyFrom_wf _ _ _ _ ?_
    | with_reducible refine Store.setChk_wf _ _ ?_
    | with_reducible refine Store.putWord_wf _ _ _ ?_
    | with_reducible refine Store.repair_wf _ ?_
    | with_reducible refine Store.zero_wf _ _ ?_
    | with_reducible refine Store.moveRange_wf _ _ _ ?_

theorem attnCompleteEffect_frame s a1 : Frame [.regs, .engines, .cores, .dies, .cstore, .awn, .out] s (attnCompleteEffect s a1) := by
  unfold attnCompleteEffect
  try dsimp only
  repeat' first
    | with_reducible exact Frame.refl _ _
    | with_reducible refine (State.writeRows_frame _ _ _ _).after (by decide) ?_
    | with_reducible refine (State.inc_frame _ _ _ _).after (by decide) ?_
    | with_reducible refine (State.complete_frame _ _ _).after (by decide) ?_
    | with_reducible refine (State.modCore_frame _ _ _).after (by decide) ?_
    | with_reducible refine Frame.ite ?_ ?_
    | with_reducible refine Frame.foldl (fun _ _ => ?_) _ ?_
    | split

theorem xlateWriteEffect_frame s a1 a2 : Frame [.regs] s (xlateWriteEffect s a1 a2) := by
  unfold xlateWriteEffect
  try dsimp only
  repeat' first
    | with_reducible exact Frame.refl _ _
    | with_reducible refine (State.wrB_frame _ _ _ _).after (by decide) ?_
    | with_reducible refine (State.refuse_frame _ _).after (by decide) ?_
    | with_reducible refine Frame.ite ?_ ?_
    | split

end Sys2Proof.Machine
end

