-- ==== Sys2Proof/Laws/FrameServOps.lean ====
section
/-! SUPPORT. The frames of the operations of Machine/ServOps.lean. -/

namespace Sys2Proof.Machine

set_option linter.unusedTactic false
set_option linter.unreachableTactic false

theorem State.modSrv_frame s a1 : Frame [.srv] s (State.modSrv s a1) := by
  unfold State.modSrv
  try dsimp only
  repeat' first
    | with_reducible exact Frame.refl _ _
    | with_reducible refine (Frame.upd_srv _ _).after (by decide) ?_

theorem State.setSeq_frame s a1 a2 : Frame [.srv] s (State.setSeq s a1 a2) := by
  unfold State.setSeq
  try dsimp only
  repeat' first
    | with_reducible exact Frame.refl _ _
    | with_reducible refine (State.modSrv_frame _ _).after (by decide) ?_

theorem State.modSeq_frame s a1 a2 : Frame [.srv] s (State.modSeq s a1 a2) := by
  unfold State.modSeq
  try dsimp only
  repeat' first
    | with_reducible exact Frame.refl _ _
    | with_reducible refine (State.setSeq_frame _ _ _).after (by decide) ?_

theorem State.modTen_frame s a1 a2 : Frame [.srv] s (State.modTen s a1 a2) := by
  unfold State.modTen
  try dsimp only
  repeat' first
    | with_reducible exact Frame.refl _ _
    | with_reducible refine (State.modSrv_frame _ _).after (by decide) ?_

theorem State.modMdl_frame s a1 a2 : Frame [.srv] s (State.modMdl s a1 a2) := by
  unfold State.modMdl
  try dsimp only
  repeat' first
    | with_reducible exact Frame.refl _ _
    | with_reducible refine (State.modSrv_frame _ _).after (by decide) ?_

theorem State.modFnx_frame s a1 a2 : Frame [.srv] s (State.modFnx s a1 a2) := by
  unfold State.modFnx
  try dsimp only
  repeat' first
    | with_reducible exact Frame.refl _ _
    | with_reducible refine (State.modSrv_frame _ _).after (by decide) ?_

theorem State.releaseSeq_frame s a1 : Frame [.regs, .cores, .dies, .dev, .pages, .srv, .out] s (State.releaseSeq s a1) := by
  unfold State.releaseSeq
  try dsimp only
  repeat' first
    | with_reducible exact Frame.refl _ _
    | with_reducible refine (State.runReq_frame _ _).after (by decide) ?_
    | with_reducible refine Frame.foldl (fun _ _ => ?_) _ ?_

theorem State.putRec_frame s a1 a2 : Frame [.regs, .dies, .host, .srv, .out] s (State.putRec s a1 a2) := by
  unfold State.putRec
  try dsimp only
  repeat' first
    | with_reducible exact Frame.refl _ _
    | with_reducible refine (State.hostWrite_frame _ _ _ _ _).after (by decide) ?_
    | with_reducible refine (State.modFnx_frame _ _ _).after (by decide) ?_
    | with_reducible refine (State.wr_frame _ _ _ _).after (by decide) ?_
    | with_reducible refine (State.inc_frame _ _ _ _).after (by decide) ?_
    | with_reducible refine (State.send_frame _ _).after (by decide) ?_
    | with_reducible refine (State.sendMsix_frame _ _ _).after (by decide) ?_
    | with_reducible refine Frame.ite ?_ ?_
    | split

theorem State.writeRec_frame s a1 a2 : Frame [.regs, .dies, .host, .srv, .out] s (State.writeRec s a1 a2) := by
  unfold State.writeRec
  try dsimp only
  repeat' first
    | with_reducible exact Frame.refl _ _
    | with_reducible refine (State.putRec_frame _ _ _).after (by decide) ?_
    | with_reducible refine (State.modFnx_frame _ _ _).after (by decide) ?_
    | with_reducible refine Frame.ite ?_ ?_
    | split

theorem State.flushRecN_frame a0 s a2 : Frame [.regs, .dies, .host, .srv, .out] s (State.flushRecN a0 s a2) := by
  induction a0 generalizing s with
  | zero => exact Frame.refl _ _
  | succ n ih =>
    unfold State.flushRecN
    try dsimp only
    repeat' first
      | with_reducible exact Frame.refl _ _
      | with_reducible refine (State.modFnx_frame _ _ _).after (by decide) ?_
      | with_reducible refine (State.putRec_frame _ _ _).after (by decide) ?_
      | with_reducible refine Frame.ite ?_ ?_
      | split
      | with_reducible refine (ih _).after (by decide) ?_

theorem State.flushRec_frame s a1 : Frame [.regs, .dies, .host, .srv, .out] s (State.flushRec s a1) := by
  unfold State.flushRec
  try dsimp only
  repeat' first
    | with_reducible exact Frame.refl _ _
    | with_reducible refine (State.flushRecN_frame _ _ _).after (by decide) ?_

theorem State.ringIrq_frame s a1 : Frame [.out] s (State.ringIrq s a1) := by
  unfold State.ringIrq
  try dsimp only
  repeat' first
    | with_reducible exact Frame.refl _ _
    | with_reducible refine (State.send_frame _ _).after (by decide) ?_
    | with_reducible refine (State.sendMsix_frame _ _ _).after (by decide) ?_
    | with_reducible refine Frame.ite ?_ ?_
    | split

theorem State.closeSeq_frame s a1 a2 : Frame [.regs, .cores, .dies, .dev, .pages, .srv, .out] s (State.closeSeq s a1 a2) := by
  unfold State.closeSeq
  try dsimp only
  repeat' first
    | with_reducible exact Frame.refl _ _
    | with_reducible refine (State.setSeq_frame _ _ _).after (by decide) ?_
    | with_reducible refine (State.wr_frame _ _ _ _).after (by decide) ?_
    | with_reducible refine (State.releaseSeq_frame _ _).after (by decide) ?_

theorem State.endSeq_frame s a1 a2 a3 : Frame [.regs, .cores, .dies, .dev, .host, .pages, .srv, .out] s (State.endSeq s a1 a2 a3) := by
  unfold State.endSeq
  try dsimp only
  repeat' first
    | with_reducible exact Frame.refl _ _
    | with_reducible refine (State.writeRec_frame _ _ _).after (by decide) ?_
    | with_reducible refine (State.closeSeq_frame _ _ _).after (by decide) ?_
    | with_reducible refine Frame.ite ?_ ?_
    | split

theorem State.settleFailed_frame s : Frame [.regs, .cores, .dies, .dev, .host, .pages, .srv, .out] s (State.settleFailed s) := by
  unfold State.settleFailed
  try dsimp only
  repeat' first
    | with_reducible exact Frame.refl _ _
    | with_reducible refine (State.modSrv_frame _ _).after (by decide) ?_
    | with_reducible refine (State.endSeq_frame _ _ _ _).after (by decide) ?_
    | with_reducible refine Frame.foldl (fun _ _ => ?_) _ ?_

theorem State.poisonSeq_frame s a1 a2 : Frame [.regs, .cores, .dies, .dev, .host, .pages, .srv, .out] s (State.poisonSeq s a1 a2) := by
  unfold State.poisonSeq
  try dsimp only
  repeat' first
    | with_reducible exact Frame.refl _ _
    | with_reducible refine (State.endSeq_frame _ _ _ _).after (by decide) ?_
    | with_reducible refine (State.irq_frame _ _ _).after (by decide) ?_
    | with_reducible refine (State.emitSeq_frame _ _ _ _ _ _).after (by decide) ?_

theorem State.emptyModel_frame s a1 a2 : Frame [.regs, .cores, .dies, .dev, .host, .pages, .srv, .out] s (State.emptyModel s a1 a2) := by
  unfold State.emptyModel
  try dsimp only
  repeat' first
    | with_reducible exact Frame.refl _ _
    | with_reducible refine (State.endSeq_frame _ _ _ _).after (by decide) ?_
    | with_reducible refine (State.wr_frame _ _ _ _).after (by decide) ?_
    | with_reducible refine Frame.foldl (fun _ _ => ?_) _ ?_

theorem State.settleMoves_frame s : Frame [.srv] s (State.settleMoves s) := by
  unfold State.settleMoves
  try dsimp only
  repeat' first
    | with_reducible exact Frame.refl _ _
    | with_reducible refine (State.setSeq_frame _ _ _).after (by decide) ?_
    | with_reducible refine Frame.ite ?_ ?_
    | with_reducible refine Frame.foldl (fun _ _ => ?_) _ ?_
    | split

theorem State.writeGroups_frame s a1 a2 a3 a4 : Frame [.cstore] s (State.writeGroups s a1 a2 a3 a4) := by
  unfold State.writeGroups
  try dsimp only
  repeat' first
    | with_reducible exact Frame.refl _ _
    | with_reducible refine (State.csWrite_frame _ _ _ _ _).after (by decide) ?_
    | with_reducible refine Frame.ite ?_ ?_
    | with_reducible refine Frame.foldl (fun _ _ => ?_) _ ?_
    | split

theorem State.writeJobs_frame s a1 a2 a3 : Frame [.cstore] s (State.writeJobs s a1 a2 a3) := by
  unfold State.writeJobs
  try dsimp only
  repeat' first
    | with_reducible exact Frame.refl _ _
    | with_reducible refine (State.writeGroups_frame _ _ _ _ _).after (by decide) ?_
    | with_reducible refine Frame.foldl (fun _ _ => ?_) _ ?_

theorem State.modStep_frame s a1 a2 : Frame [.srv] s (State.modStep s a1 a2) := by
  unfold State.modStep
  try dsimp only
  repeat' first
    | with_reducible exact Frame.refl _ _
    | with_reducible refine (State.modSrv_frame _ _).after (by decide) ?_

theorem State.modJob_frame s a1 a2 : Frame [.ingest] s (State.modJob s a1 a2) := by
  unfold State.modJob
  try dsimp only
  repeat' first
    | with_reducible exact Frame.refl _ _
    | with_reducible refine (Frame.upd_ingest _ _).after (by decide) ?_

theorem State.modMig_frame s a1 a2 : Frame [.flt] s (State.modMig s a1 a2) := by
  unfold State.modMig
  try dsimp only
  repeat' first
    | with_reducible exact Frame.refl _ _
    | with_reducible refine (Frame.upd_flt _ _).after (by decide) ?_

theorem State.sendReloads_frame s : Frame [.ingest, .flt, .out] s (State.sendReloads s) := by
  unfold State.sendReloads
  try dsimp only
  repeat' first
    | with_reducible exact Frame.refl _ _
    | with_reducible refine (State.send_frame _ _).after (by decide) ?_
    | with_reducible refine (State.modJob_frame _ _ _).after (by decide) ?_
    | with_reducible refine (State.modMig_frame _ _ _).after (by decide) ?_
    | with_reducible refine Frame.ite ?_ ?_
    | with_reducible refine Frame.foldl (fun _ _ => ?_) _ ?_
    | split

theorem State.sendUnsent_frame s : Frame [.srv, .ingest, .flt, .out] s (State.sendUnsent s) := by
  unfold State.sendUnsent
  try dsimp only
  repeat' first
    | with_reducible exact Frame.refl _ _
    | with_reducible refine (State.send_frame _ _).after (by decide) ?_
    | with_reducible refine (State.modStep_frame _ _ _).after (by decide) ?_
    | with_reducible refine (State.sendReloads_frame _).after (by decide) ?_
    | with_reducible refine Frame.ite ?_ ?_
    | with_reducible refine Frame.foldl (fun _ _ => ?_) _ ?_
    | split

theorem State.dropStep_frame s a1 : Frame [.srv] s (State.dropStep s a1) := by
  unfold State.dropStep
  try dsimp only
  repeat' first
    | with_reducible exact Frame.refl _ _
    | with_reducible refine (State.modSrv_frame _ _).after (by decide) ?_

end Sys2Proof.Machine
end

