-- ==== Sys2Proof/Laws/FrameAdmission.lean ====
section
/-! SUPPORT. The frames of the operations of Machine/Admission.lean. -/

namespace Sys2Proof.Machine

set_option linter.unusedTactic false
set_option linter.unreachableTactic false

theorem State.reqDone_frame s a1 : Frame [.regs, .srv] s (State.reqDone s a1) := by
  unfold State.reqDone
  try dsimp only
  repeat' first
    | with_reducible exact Frame.refl _ _
    | with_reducible refine (State.wr_frame _ _ _ _).after (by decide) ?_
    | with_reducible refine (State.modSrv_frame _ _).after (by decide) ?_

theorem State.takeReq_frame {P : List Part} {s0 : State} s a1 a2 a3 (hp : ∀ p ∈ ([.regs, .srv] : List Part), p ∈ P) (h3 : ∀ x y0 y1, Frame P x (a3 x y0 y1)) (k : Frame P s0 s) : Frame P s0 (State.takeReq s a1 a2 a3) := by
  unfold State.takeReq
  try dsimp only
  repeat' first
    | with_reducible exact k
    | with_reducible refine (h3 _ _ _ ).after (fun _ h => h) ?_
    | with_reducible exact Frame.refl _ _
    | with_reducible refine (State.reqDone_frame _ _).after (fun p hq => hp p ((by decide : ∀ p ∈ _, p ∈ ([.regs, .srv] : List Part)) p hq)) ?_
    | with_reducible refine Frame.ite ?_ ?_
    | split

theorem State.refuseReq_frame s a1 a2 a3 : Frame [.regs, .dies, .host, .srv, .out] s (State.refuseReq s a1 a2 a3) := by
  unfold State.refuseReq
  try dsimp only
  repeat' first
    | with_reducible exact Frame.refl _ _
    | with_reducible refine (State.emit_frame _ _ _ _).after (by decide) ?_
    | with_reducible refine (State.writeRec_frame _ _ _).after (by decide) ?_
    | with_reducible refine (State.inc_frame _ _ _ _).after (by decide) ?_
    | with_reducible refine Frame.ite ?_ ?_
    | split

theorem State.shareOne_frame s a1 a2 a3 a4 : Frame [.regs, .cores, .dies, .hbms, .dev, .pages, .srv, .out] s (State.shareOne s a1 a2 a3 a4) := by
  unfold State.shareOne
  try dsimp only
  repeat' first
    | with_reducible exact Frame.refl _ _
    | with_reducible refine (State.devWrite_frame _ _ _ _).after (by decide) ?_
    | with_reducible refine (State.runReq_frame _ _).after (by decide) ?_
    | with_reducible refine (State.alloc_frame _ _ _ _ _ _ _).after (by decide) ?_
    | with_reducible refine (State.unpin_frame _ _).after (by decide) ?_
    | with_reducible refine (State.devCopy_frame _ _ _ _).after (by decide) ?_
    | with_reducible refine (State.failSlot_frame _ _).after (by decide) ?_
    | with_reducible refine Frame.ite ?_ ?_
    | split
    | with_reducible refine Frame.of_pair (by assumption) ?_

theorem State.sharePrefix_frame s a1 a2 a3 : Frame [.regs, .cores, .dies, .hbms, .dev, .pages, .srv, .out] s (State.sharePrefix s a1 a2 a3) := by
  unfold State.sharePrefix
  try dsimp only
  repeat' first
    | with_reducible exact Frame.refl _ _
    | with_reducible refine (State.shareOne_frame _ _ _ _ _).after (by decide) ?_
    | with_reducible refine Frame.ite ?_ ?_
    | with_reducible refine Frame.foldl (fun _ _ => ?_) _ ?_
    | split

theorem State.admitSeq_frame s a1 a2 a3 a4 : Frame [.regs, .cores, .dies, .hbms, .dev, .host, .pages, .srv, .out] s (State.admitSeq s a1 a2 a3 a4) := by
  unfold State.admitSeq
  try dsimp only
  repeat' first
    | with_reducible exact Frame.refl _ _
    | with_reducible refine (State.modSrv_frame _ _).after (by decide) ?_
    | with_reducible refine (State.setSeq_frame _ _ _).after (by decide) ?_
    | with_reducible refine (State.wr_frame _ _ _ _).after (by decide) ?_
    | with_reducible refine (State.inc_frame _ _ _ _).after (by decide) ?_
    | with_reducible refine (State.devWrite_frame _ _ _ _).after (by decide) ?_
    | with_reducible refine (State.sharePrefix_frame _ _ _ _).after (by decide) ?_
    | with_reducible refine (State.settleFailed_frame _).after (by decide) ?_
    | with_reducible refine (State.writeRec_frame _ _ _).after (by decide) ?_
    | with_reducible refine Frame.ite ?_ ?_
    | with_reducible refine Frame.foldl (fun _ _ => ?_) _ ?_
    | split

theorem State.decideSubmit_frame s a1 a2 a3 a4 : Frame [.regs, .cores, .dies, .hbms, .dev, .host, .pages, .srv, .out] s (State.decideSubmit s a1 a2 a3 a4) := by
  unfold State.decideSubmit
  try dsimp only
  repeat' first
    | with_reducible exact Frame.refl _ _
    | with_reducible refine (State.refuseReq_frame _ _ _ _).after (by decide) ?_
    | with_reducible refine (State.wr_frame _ _ _ _).after (by decide) ?_
    | with_reducible refine (State.inc_frame _ _ _ _).after (by decide) ?_
    | with_reducible refine (State.modSrv_frame _ _).after (by decide) ?_
    | with_reducible refine (State.admitSeq_frame _ _ _ _ _).after (by decide) ?_
    | with_reducible refine Frame.ite ?_ ?_
    | split

theorem State.takeHeld_frame {P : List Part} {s0 : State} s a1 a2 (hp : ∀ p ∈ ([.regs, .srv] : List Part), p ∈ P) (h2 : ∀ x y0, Frame P x (a2 x y0)) (k : Frame P s0 s) : Frame P s0 (State.takeHeld s a1 a2) := by
  unfold State.takeHeld
  try dsimp only
  repeat' first
    | with_reducible exact k
    | with_reducible refine (h2 _ _ ).after (fun _ h => h) ?_
    | with_reducible exact Frame.refl _ _
    | with_reducible refine (State.wr_frame _ _ _ _).after (fun p hq => hp p ((by decide : ∀ p ∈ _, p ∈ ([.regs, .srv] : List Part)) p hq)) ?_
    | with_reducible refine (State.modSrv_frame _ _).after (fun p hq => hp p ((by decide : ∀ p ∈ _, p ∈ ([.regs, .srv] : List Part)) p hq)) ?_
    | with_reducible refine Frame.foldl (fun _ _ => ?_) _ ?_

theorem State.handleReq_frame {P : List Part} {s0 : State} s a1 a2 a3 a4 (hp : ∀ p ∈ ([.regs, .dies, .host, .srv, .out] : List Part), p ∈ P) (h4 : ∀ x y0, Frame P x (a4 x y0)) (k : Frame P s0 s) : Frame P s0 (State.handleReq s a1 a2 a3 a4) := by
  unfold State.handleReq
  try dsimp only
  repeat' first
    | with_reducible exact k
    | with_reducible refine (h4 _ _ ).after (fun _ h => h) ?_
    | with_reducible exact Frame.refl _ _
    | with_reducible refine (State.refuseReq_frame _ _ _ _).after (fun p hq => hp p ((by decide : ∀ p ∈ _, p ∈ ([.regs, .dies, .host, .srv, .out] : List Part)) p hq)) ?_
    | with_reducible refine Frame.ite ?_ ?_
    | split

theorem State.parkSeq_frame s a1 : Frame [.srv] s (State.parkSeq s a1) := by
  unfold State.parkSeq
  try dsimp only
  repeat' first
    | with_reducible exact Frame.refl _ _
    | with_reducible refine (State.settleMoves_frame _).after (by decide) ?_
    | with_reducible refine (State.setSeq_frame _ _ _).after (by decide) ?_
    | with_reducible refine Frame.ite ?_ ?_
    | split

theorem State.unparkSeq_frame s a1 : Frame [.srv] s (State.unparkSeq s a1) := by
  unfold State.unparkSeq
  try dsimp only
  repeat' first
    | with_reducible exact Frame.refl _ _
    | with_reducible refine (State.settleMoves_frame _).after (by decide) ?_
    | with_reducible refine (State.setSeq_frame _ _ _).after (by decide) ?_
    | with_reducible refine Frame.ite ?_ ?_
    | split

end Sys2Proof.Machine
end

