-- ==== Sys2Proof/Laws/FrameMigOps.lean ====
section
/-! SUPPORT. The frames of the operations of Machine/MigOps.lean. -/

namespace Sys2Proof.Machine

set_option linter.unusedTactic false
set_option linter.unreachableTactic false

theorem State.turnReset_frame s a1 a2 : Frame [.regs, .tiles, .engines, .dies, .out] s (State.turnReset s a1 a2) := by
  unfold State.turnReset
  try dsimp only
  repeat' first
    | with_reducible exact Frame.refl _ _
    | with_reducible refine (State.skipTurn_frame _ _ _ _).after (by decide) ?_
    | with_reducible refine (State.dropFill_frame _ _ _).after (by decide) ?_
    | with_reducible refine (State.modEng_frame _ _ _ _).after (by decide) ?_
    | with_reducible refine (State.tcount_frame _ _ _ _).after (by decide) ?_
    | with_reducible refine Frame.ite ?_ ?_
    | split

theorem State.dropTileWork_frame s a1 a2 a3 : Frame [.regs, .tiles, .dies] s (State.dropTileWork s a1 a2 a3) := by
  unfold State.dropTileWork
  try dsimp only
  repeat' first
    | with_reducible exact Frame.refl _ _
    | with_reducible refine (State.emptyBank_frame _ _ _ _ _).after (by decide) ?_
    | with_reducible refine (State.modTile_frame _ _ _ _ _).after (by decide) ?_
    | with_reducible refine Frame.ite ?_ ?_
    | with_reducible refine Frame.foldl (fun _ _ => ?_) _ ?_
    | split

theorem State.wipeAccReg_frame s a1 a2 a3 : Frame [.regs] s (State.wipeAccReg s a1 a2 a3) := by
  unfold State.wipeAccReg
  try dsimp only
  repeat' first
    | with_reducible exact Frame.refl _ _
    | with_reducible refine (State.wr_frame _ _ _ _).after (by decide) ?_
    | with_reducible refine Frame.foldl (fun _ _ => ?_) _ ?_

theorem State.wipeEngine_frame s a1 a2 : Frame [.regs, .tiles, .engines, .dies] s (State.wipeEngine s a1 a2) := by
  unfold State.wipeEngine
  try dsimp only
  repeat' first
    | with_reducible exact Frame.refl _ _
    | with_reducible refine (State.emptySet_frame _ _ _ _ _).after (by decide) ?_
    | with_reducible refine (State.emptyBank_frame _ _ _ _ _).after (by decide) ?_
    | with_reducible refine (State.modTile_frame _ _ _ _ _).after (by decide) ?_
    | with_reducible refine Frame.foldl (fun _ _ => ?_) _ ?_

theorem State.resetEngine_frame s a1 a2 a3 : Frame [.regs, .tiles, .engines, .dies, .out] s (State.resetEngine s a1 a2 a3) := by
  unfold State.resetEngine
  try dsimp only
  repeat' first
    | with_reducible exact Frame.refl _ _
    | with_reducible refine (State.turnReset_frame _ _ _).after (by decide) ?_
    | with_reducible refine (State.dropTileWork_frame _ _ _ _).after (by decide) ?_
    | with_reducible refine (State.modEng_frame _ _ _ _).after (by decide) ?_
    | with_reducible refine (State.wipeAccReg_frame _ _ _ _).after (by decide) ?_
    | with_reducible refine (State.wipeEngine_frame _ _ _).after (by decide) ?_
    | with_reducible refine Frame.ite ?_ ?_
    | with_reducible refine Frame.foldl (fun _ _ => ?_) _ ?_
    | split

theorem State.resetCore_frame s a1 a2 : Frame [.regs, .tiles, .engines, .cores, .dies, .cstore, .awn, .out] s (State.resetCore s a1 a2) := by
  unfold State.resetCore
  try dsimp only
  repeat' first
    | with_reducible exact Frame.refl _ _
    | with_reducible refine (State.send_frame _ _).after (by decide) ?_
    | with_reducible refine (State.dropClaims_frame _ _).after (by decide) ?_
    | with_reducible refine (State.resetEngine_frame _ _ _ _).after (by decide) ?_
    | with_reducible refine (State.modCore_frame _ _ _).after (by decide) ?_
    | with_reducible refine (State.wr_frame _ _ _ _).after (by decide) ?_
    | with_reducible refine (State.showPending_frame _ _).after (by decide) ?_
    | with_reducible refine (State.inc_frame _ _ _ _).after (by decide) ?_
    | with_reducible refine Frame.ite ?_ ?_
    | with_reducible refine Frame.foldl (fun _ _ => ?_) _ ?_
    | split
    | with_reducible refine (Frame.cstore_wf _ _ ?_).after (by decide) ?_
    | intro _
    | with_reducible assumption
    | with_reducible refine Store.put_wf _ _ _ ?_
    | with_reducible refine Store.lines2_wf _ _ ?_
    | with_reducible refine Store.markWords_wf _ _ ?_
    | with_reducible refine Store.copyFrom_wf _ _ _ _ ?_
    | with_reducible refine Store.setChk_wf _ _ ?_
    | with_reducible refine Store.putWord_wf _ _ _ ?_
    | with_reducible refine Store.repair_wf _ ?_
    | with_reducible refine Store.zero_wf _ _ ?_
    | with_reducible refine Store.moveRange_wf _ _ _ ?_

theorem State.emptyCore_frame s a1 : Frame [.regs, .tiles, .dies] s (State.emptyCore s a1) := by
  unfold State.emptyCore
  try dsimp only
  repeat' first
    | with_reducible exact Frame.refl _ _
    | with_reducible refine (State.emptyBank_frame _ _ _ _ _).after (by decide) ?_
    | with_reducible refine Frame.foldl (fun _ _ => ?_) _ ?_

theorem State.dropPool_frame s a1 : Frame [.flt] s (State.dropPool s a1) := by
  unfold State.dropPool
  try dsimp only
  repeat' first
    | with_reducible exact Frame.refl _ _
    | with_reducible refine (Frame.upd_flt _ _).after (by decide) ?_

theorem State.retireCore_frame s a1 : Frame [.cores, .flt, .nvm] s (State.retireCore s a1) := by
  unfold State.retireCore
  try dsimp only
  repeat' first
    | with_reducible exact Frame.refl _ _
    | with_reducible refine (State.dropPool_frame _ _).after (by decide) ?_
    | with_reducible refine (State.modCore_frame _ _ _).after (by decide) ?_
    | with_reducible refine (State.logRetired_frame _ _ _ _ _).after (by decide) ?_
    | with_reducible refine (Frame.upd_nvm _ _).after (by decide) ?_

theorem State.addPool_frame s a1 : Frame [.flt, .nvm] s (State.addPool s a1) := by
  unfold State.addPool
  try dsimp only
  repeat' first
    | with_reducible exact Frame.refl _ _
    | with_reducible refine Frame.ite ?_ ?_
    | split
    | with_reducible refine (Frame.upd_flt_nvm _ _ _ ).after (by decide) ?_
    | with_reducible refine (Frame.upd_flt _ _).after (by decide) ?_
    | with_reducible refine (Frame.upd_nvm _ _).after (by decide) ?_

theorem State.abandonTurn_frame s a1 a2 : Frame [.regs, .tiles, .engines, .dies, .out] s (State.abandonTurn s a1 a2) := by
  unfold State.abandonTurn
  try dsimp only
  repeat' first
    | with_reducible exact Frame.refl _ _
    | with_reducible refine (State.dropFill_frame _ _ _).after (by decide) ?_
    | with_reducible refine (State.tcount_frame _ _ _ _).after (by decide) ?_
    | with_reducible refine (State.wr_frame _ _ _ _).after (by decide) ?_
    | with_reducible refine (State.endTurn_frame _ _ _ _).after (by decide) ?_
    | with_reducible refine (State.modEng_frame _ _ _ _).after (by decide) ?_
    | with_reducible refine (State.emptyCore_frame _ _).after (by decide) ?_
    | with_reducible refine Frame.ite ?_ ?_
    | split

theorem State.stopRotation_frame s a1 a2 : Frame [.regs, .engines, .dies, .out] s (State.stopRotation s a1 a2) := by
  unfold State.stopRotation
  try dsimp only
  repeat' first
    | with_reducible exact Frame.refl _ _
    | with_reducible refine (State.irq_frame _ _ _).after (by decide) ?_
    | with_reducible refine (State.wr_frame _ _ _ _).after (by decide) ?_
    | with_reducible refine (State.modEng_frame _ _ _ _).after (by decide) ?_
    | with_reducible refine (State.emit_frame _ _ _ _).after (by decide) ?_
    | with_reducible refine Frame.ite ?_ ?_
    | split

theorem State.standTiles_frame s a1 : Frame [.regs, .engines, .dies, .out] s (State.standTiles s a1) := by
  unfold State.standTiles
  try dsimp only
  repeat' first
    | with_reducible exact Frame.refl _ _
    | with_reducible refine (State.stopRotation_frame _ _ _).after (by decide) ?_
    | with_reducible refine (State.modEng_frame _ _ _ _).after (by decide) ?_
    | with_reducible refine (State.wr_frame _ _ _ _).after (by decide) ?_
    | with_reducible refine Frame.ite ?_ ?_
    | with_reducible refine Frame.foldl (fun _ _ => ?_) _ ?_
    | split

theorem State.takeTarget_frame s a1 : Frame [.regs, .tiles, .engines, .dies, .flt, .out] s (State.takeTarget s a1) := by
  unfold State.takeTarget
  try dsimp only
  repeat' first
    | with_reducible exact Frame.refl _ _
    | with_reducible refine (State.dropPool_frame _ _).after (by decide) ?_
    | with_reducible refine (State.emptyCore_frame _ _).after (by decide) ?_
    | with_reducible refine (State.standTiles_frame _ _).after (by decide) ?_
    | with_reducible refine (State.abandonTurn_frame _ _ _).after (by decide) ?_
    | with_reducible refine Frame.ite ?_ ?_
    | with_reducible refine Frame.foldl (fun _ _ => ?_) _ ?_
    | split
    | with_reducible refine (Frame.upd_flt _ _).after (by decide) ?_

theorem State.showMover_frame s a1 : Frame [.regs] s (State.showMover s a1) := by
  unfold State.showMover
  try dsimp only
  repeat' first
    | with_reducible exact Frame.refl _ _
    | with_reducible refine (State.wrB_frame _ _ _ _).after (by decide) ?_

theorem State.dropMig_frame s a1 : Frame [.flt] s (State.dropMig s a1) := by
  unfold State.dropMig
  try dsimp only
  repeat' first
    | with_reducible exact Frame.refl _ _
    | with_reducible refine (Frame.upd_flt _ _).after (by decide) ?_

theorem State.showMig_frame s a1 : Frame [.regs] s (State.showMig s a1) := by
  unfold State.showMig
  try dsimp only
  repeat' first
    | with_reducible exact Frame.refl _ _
    | with_reducible refine (State.wr_frame _ _ _ _).after (by decide) ?_

theorem State.unplace_frame s a1 : Frame [.regs, .cores, .dies, .hbms, .dev, .host, .pages, .srv, .out] s (State.unplace s a1) := by
  unfold State.unplace
  try dsimp only
  repeat' first
    | with_reducible exact Frame.refl _ _
    | with_reducible refine (State.wr_frame _ _ _ _).after (by decide) ?_
    | with_reducible refine (State.emptyModel_frame _ _ _).after (by decide) ?_
    | with_reducible refine (State.decideSubmit_frame _ _ _ _ _).after (by decide) ?_
    | with_reducible refine Frame.foldl (fun _ _ => ?_) _ ?_
    | with_reducible refine State.takeHeld_frame _ _ _ (by decide) (fun _ _ => ?_) ?_

theorem State.failUnsent_frame s a1 : Frame [.out] s (State.failUnsent s a1) := by
  unfold State.failUnsent
  try dsimp only
  repeat' first
    | with_reducible exact Frame.refl _ _
    | with_reducible refine (State.send_frame _ _).after (by decide) ?_
    | with_reducible refine Frame.foldl (fun _ _ => ?_) _ ?_

theorem State.noTarget_frame s a1 : Frame [.regs, .cores, .dies, .hbms, .dev, .host, .pages, .srv, .ingest, .flt, .nvm, .out] s (State.noTarget s a1) := by
  unfold State.noTarget
  try dsimp only
  repeat' first
    | with_reducible exact Frame.refl _ _
    | with_reducible refine (State.showMig_frame _ _).after (by decide) ?_
    | with_reducible refine (State.dropMig_frame _ _).after (by decide) ?_
    | with_reducible refine (State.sendUnsent_frame _).after (by decide) ?_
    | with_reducible refine (State.wr_frame _ _ _ _).after (by decide) ?_
    | with_reducible refine (State.modCore_frame _ _ _).after (by decide) ?_
    | with_reducible refine (State.emit_frame _ _ _ _).after (by decide) ?_
    | with_reducible refine (State.unplace_frame _ _).after (by decide) ?_
    | with_reducible refine (State.failUnsent_frame _ _).after (by decide) ?_
    | with_reducible refine (State.retireCore_frame _ _).after (by decide) ?_
    | with_reducible refine (State.irq_frame _ _ _).after (by decide) ?_
    | with_reducible refine Frame.ite ?_ ?_
    | split

theorem State.startRebuild_frame s a1 : Frame [.regs, .tiles, .engines, .cores, .dies, .hbms, .dev, .host, .pages, .srv, .ingest, .flt, .nvm, .out] s (State.startRebuild s a1) := by
  unfold State.startRebuild
  try dsimp only
  repeat' first
    | with_reducible exact Frame.refl _ _
    | with_reducible refine (State.noTarget_frame _ _).after (by decide) ?_
    | with_reducible refine (State.sendReloads_frame _).after (by decide) ?_
    | with_reducible refine (State.showMig_frame _ _).after (by decide) ?_
    | with_reducible refine (State.modMig_frame _ _ _).after (by decide) ?_
    | with_reducible refine (State.takeTarget_frame _ _).after (by decide) ?_
    | split

theorem State.advanceMigsN_frame a0 s : Frame [.regs, .tiles, .engines, .cores, .dies, .hbms, .dev, .host, .pages, .srv, .ingest, .flt, .nvm, .out] s (State.advanceMigsN a0 s) := by
  induction a0 generalizing s with
  | zero => exact Frame.refl _ _
  | succ n ih =>
    unfold State.advanceMigsN
    try dsimp only
    repeat' first
      | with_reducible exact Frame.refl _ _
      | with_reducible refine (State.modMig_frame _ _ _).after (by decide) ?_
      | with_reducible refine (State.startRebuild_frame _ _).after (by decide) ?_
      | with_reducible refine Frame.ite ?_ ?_
      | split
      | with_reducible refine (ih _).after (by decide) ?_

theorem State.advanceMigs_frame s : Frame [.regs, .tiles, .engines, .cores, .dies, .hbms, .dev, .host, .pages, .srv, .ingest, .flt, .nvm, .out] s (State.advanceMigs s) := by
  unfold State.advanceMigs
  try dsimp only
  repeat' first
    | with_reducible exact Frame.refl _ _
    | with_reducible refine (State.advanceMigsN_frame _ _).after (by decide) ?_

theorem State.withdrawPend_frame s a1 a2 : Frame [.regs, .cores, .srv, .ingest] s (State.withdrawPend s a1 a2) := by
  unfold State.withdrawPend
  try dsimp only
  repeat' first
    | with_reducible exact Frame.refl _ _
    | with_reducible refine (State.showPending_frame _ _).after (by decide) ?_
    | with_reducible refine (State.modCore_frame _ _ _).after (by decide) ?_
    | with_reducible refine Frame.ite ?_ ?_
    | split
    | with_reducible refine (Frame.upd_srv_ingest _ _ _ ).after (by decide) ?_
    | with_reducible refine (Frame.upd_srv _ _).after (by decide) ?_
    | with_reducible refine (Frame.upd_ingest _ _).after (by decide) ?_

theorem State.retarget_frame s a1 : Frame [.regs, .tiles, .engines, .cores, .dies, .hbms, .dev, .host, .pages, .srv, .ingest, .flt, .nvm, .out] s (State.retarget s a1) := by
  unfold State.retarget
  try dsimp only
  repeat' first
    | with_reducible exact Frame.refl _ _
    | with_reducible refine (State.emit_frame _ _ _ _).after (by decide) ?_
    | with_reducible refine (State.startRebuild_frame _ _).after (by decide) ?_
    | with_reducible refine (State.showMover_frame _ _).after (by decide) ?_
    | with_reducible refine (State.modMig_frame _ _ _).after (by decide) ?_
    | with_reducible refine Frame.ite ?_ ?_
    | split

theorem State.targetFails_frame s a1 : Frame [.regs, .tiles, .engines, .cores, .dies, .hbms, .dev, .host, .pages, .srv, .ingest, .flt, .nvm, .out] s (State.targetFails s a1) := by
  unfold State.targetFails
  try dsimp only
  repeat' first
    | with_reducible exact Frame.refl _ _
    | with_reducible refine (State.advanceMigs_frame _).after (by decide) ?_
    | with_reducible refine (State.retarget_frame _ _).after (by decide) ?_
    | with_reducible refine Frame.ite ?_ ?_
    | split

theorem State.triggerMig_frame s a1 a2 a3 : Frame [.regs, .tiles, .engines, .cores, .dies, .hbms, .dev, .host, .cstore, .pages, .srv, .ingest, .awn, .flt, .nvm, .out] s (State.triggerMig s a1 a2 a3) := by
  unfold State.triggerMig
  try dsimp only
  repeat' first
    | with_reducible exact Frame.refl _ _
    | with_reducible refine (State.retireCore_frame _ _).after (by decide) ?_
    | with_reducible refine (State.advanceMigs_frame _).after (by decide) ?_
    | with_reducible refine (State.retarget_frame _ _).after (by decide) ?_
    | with_reducible refine (State.resetCore_frame _ _ _).after (by decide) ?_
    | with_reducible refine (State.startRebuild_frame _ _).after (by decide) ?_
    | with_reducible refine (State.addPool_frame _ _).after (by decide) ?_
    | with_reducible refine (State.modMig_frame _ _ _).after (by decide) ?_
    | with_reducible refine (State.withdrawPend_frame _ _ _).after (by decide) ?_
    | with_reducible refine Frame.ite ?_ ?_
    | split
    | with_reducible refine (Frame.upd_flt _ _).after (by decide) ?_

end Sys2Proof.Machine
end

