-- ==== Sys2Proof/Laws/FrameCheck.lean ====
section
/-! SUPPORT. The frames of the operations of Machine/Check.lean. -/

namespace Sys2Proof.Machine

set_option linter.unusedTactic false
set_option linter.unreachableTactic false

theorem State.modSample_frame s a1 a2 a3 a4 a5 : Frame [.tiles] s (State.modSample s a1 a2 a3 a4 a5) := by
  unfold State.modSample
  try dsimp only
  repeat' first
    | with_reducible exact Frame.refl _ _
    | with_reducible refine (State.modTile_frame _ _ _ _ _).after (by decide) ?_

theorem State.modConvs_frame s a1 a2 a3 a4 : Frame [.tiles] s (State.modConvs s a1 a2 a3 a4) := by
  unfold State.modConvs
  try dsimp only
  repeat' first
    | with_reducible exact Frame.refl _ _
    | with_reducible refine (State.modVec_frame _ _ _ _ _ _).after (by decide) ?_
    | with_reducible refine Frame.ite ?_ ?_
    | split

theorem State.releaseSample_frame s a1 a2 a3 a4 : Frame [.tiles] s (State.releaseSample s a1 a2 a3 a4) := by
  unfold State.releaseSample
  try dsimp only
  repeat' first
    | with_reducible exact Frame.refl _ _
    | with_reducible refine (State.modTile_frame _ _ _ _ _).after (by decide) ?_
    | with_reducible refine (State.modConvs_frame _ _ _ _ _).after (by decide) ?_

theorem State.modLedger_frame s a1 a2 a3 : Frame [.cores] s (State.modLedger s a1 a2 a3) := by
  unfold State.modLedger
  try dsimp only
  repeat' first
    | with_reducible exact Frame.refl _ _
    | with_reducible refine (State.modCore_frame _ _ _).after (by decide) ?_

theorem State.modSum_frame s a1 a2 : Frame [.cores] s (State.modSum s a1 a2) := by
  unfold State.modSum
  try dsimp only
  repeat' first
    | with_reducible exact Frame.refl _ _
    | with_reducible refine (State.modCore_frame _ _ _).after (by decide) ?_

theorem State.suspectAct_frame s a1 : Frame [.regs, .tiles, .engines, .cores, .dies, .hbms, .dev, .host, .cstore, .pages, .srv, .ingest, .awn, .flt, .nvm, .out] s (State.suspectAct s a1) := by
  unfold State.suspectAct
  try dsimp only
  repeat' first
    | with_reducible exact Frame.refl _ _
    | with_reducible refine (State.modSum_frame _ _ _).after (by decide) ?_
    | with_reducible refine (State.irq_frame _ _ _).after (by decide) ?_
    | with_reducible refine (State.modCore_frame _ _ _).after (by decide) ?_
    | with_reducible refine (State.inc_frame _ _ _ _).after (by decide) ?_
    | with_reducible refine (State.triggerMig_frame _ _ _ _).after (by decide) ?_
    | with_reducible refine (State.emit_frame _ _ _ _).after (by decide) ?_
    | with_reducible refine Frame.ite ?_ ?_
    | split

theorem State.suspectTrack_frame s a1 a2 a3 a4 : Frame [.regs, .tiles, .engines, .cores, .dies, .hbms, .dev, .host, .cstore, .pages, .srv, .ingest, .awn, .flt, .nvm, .out] s (State.suspectTrack s a1 a2 a3 a4) := by
  unfold State.suspectTrack
  try dsimp only
  repeat' first
    | with_reducible exact Frame.refl _ _
    | with_reducible refine (State.modEng_frame _ _ _ _).after (by decide) ?_
    | with_reducible refine (State.emit_frame _ _ _ _).after (by decide) ?_
    | with_reducible refine (State.wr_frame _ _ _ _).after (by decide) ?_
    | with_reducible refine (State.suspectAct_frame _ _).after (by decide) ?_
    | with_reducible refine Frame.ite ?_ ?_
    | split

theorem checkCompareEffect_frame s a1 a2 a3 a4 : Frame [.regs, .tiles, .engines, .cores, .dies, .hbms, .dev, .host, .cstore, .pages, .srv, .ingest, .awn, .flt, .nvm, .out] s (checkCompareEffect s a1 a2 a3 a4) := by
  unfold checkCompareEffect
  try dsimp only
  repeat' first
    | with_reducible exact Frame.refl _ _
    | with_reducible refine (State.modCore_frame _ _ _).after (by decide) ?_
    | with_reducible refine (State.inc_frame _ _ _ _).after (by decide) ?_
    | with_reducible refine (State.modLedger_frame _ _ _ _).after (by decide) ?_
    | with_reducible refine (State.irq_frame _ _ _).after (by decide) ?_
    | with_reducible refine (State.releaseSample_frame _ _ _ _ _).after (by decide) ?_
    | with_reducible refine (State.modSum_frame _ _ _).after (by decide) ?_
    | with_reducible refine (State.emit_frame _ _ _ _).after (by decide) ?_
    | with_reducible refine (State.wr_frame _ _ _ _).after (by decide) ?_
    | with_reducible refine (State.suspectAct_frame _ _).after (by decide) ?_
    | with_reducible refine (State.modSample_frame _ _ _ _ _ _).after (by decide) ?_
    | with_reducible refine Frame.ite ?_ ?_
    | with_reducible refine Frame.foldl (fun _ _ => ?_) _ ?_
    | split

theorem checkRepeatEffect_frame s a1 a2 a3 a4 : Frame [.regs, .tiles] s (checkRepeatEffect s a1 a2 a3 a4) := by
  unfold checkRepeatEffect
  try dsimp only
  repeat' first
    | with_reducible exact Frame.refl _ _
    | with_reducible refine (State.modSample_frame _ _ _ _ _ _).after (by decide) ?_
    | with_reducible refine (State.inc_frame _ _ _ _).after (by decide) ?_
    | with_reducible refine Frame.ite ?_ ?_
    | split

theorem State.retireTile_frame s a1 a2 a3 a4 : Frame [.regs, .tiles, .dies, .flt] s (State.retireTile s a1 a2 a3 a4) := by
  unfold State.retireTile
  try dsimp only
  repeat' first
    | with_reducible exact Frame.refl _ _
    | with_reducible refine (State.wr_frame _ _ _ _).after (by decide) ?_
    | with_reducible refine (State.logRetired_frame _ _ _ _ _).after (by decide) ?_
    | with_reducible refine (State.modTile_frame _ _ _ _ _).after (by decide) ?_
    | with_reducible refine (State.emptyBank_frame _ _ _ _ _).after (by decide) ?_

theorem State.replaceTile_frame s a1 a2 a3 : Frame [.regs, .tiles, .engines, .dies, .out] s (State.replaceTile s a1 a2 a3) := by
  unfold State.replaceTile
  try dsimp only
  repeat' first
    | with_reducible exact Frame.refl _ _
    | with_reducible refine (State.modEng_frame _ _ _ _).after (by decide) ?_
    | with_reducible refine (State.fillSpare_frame _ _ _ _).after (by decide) ?_
    | with_reducible refine (State.skipTurn_frame _ _ _ _).after (by decide) ?_
    | with_reducible refine (State.beginReturn_frame _ _ _ _ _).after (by decide) ?_
    | with_reducible refine (State.dropFill_frame _ _ _).after (by decide) ?_
    | with_reducible refine Frame.ite ?_ ?_
    | split

theorem State.permanentOn_frame s a1 a2 a3 : Frame [.regs, .tiles, .engines, .cores, .dies, .hbms, .dev, .host, .cstore, .pages, .srv, .ingest, .awn, .flt, .nvm, .out] s (State.permanentOn s a1 a2 a3) := by
  unfold State.permanentOn
  try dsimp only
  repeat' first
    | with_reducible exact Frame.refl _ _
    | with_reducible refine (State.wr_frame _ _ _ _).after (by decide) ?_
    | with_reducible refine (State.logRetired_frame _ _ _ _ _).after (by decide) ?_
    | with_reducible refine (State.modTile_frame _ _ _ _ _).after (by decide) ?_
    | with_reducible refine (State.modEng_frame _ _ _ _).after (by decide) ?_
    | with_reducible refine (State.beginReturn_frame _ _ _ _ _).after (by decide) ?_
    | with_reducible refine (State.stopRotation_frame _ _ _).after (by decide) ?_
    | with_reducible refine (State.triggerMig_frame _ _ _ _).after (by decide) ?_
    | with_reducible refine (State.replaceTile_frame _ _ _ _).after (by decide) ?_
    | with_reducible refine Frame.ite ?_ ?_
    | split

theorem State.standIn_frame s a1 a2 a3 a4 : Frame [.regs, .tiles, .engines] s (State.standIn s a1 a2 a3 a4) := by
  unfold State.standIn
  try dsimp only
  repeat' first
    | with_reducible exact Frame.refl _ _
    | with_reducible refine (State.wr_frame _ _ _ _).after (by decide) ?_
    | with_reducible refine (State.modTile_frame _ _ _ _ _).after (by decide) ?_
    | with_reducible refine (State.modEng_frame _ _ _ _).after (by decide) ?_
    | with_reducible refine Frame.ite ?_ ?_
    | split

theorem retireTakeoverEffect_frame s a1 a2 : Frame [.regs, .tiles, .engines, .dies, .flt, .out] s (retireTakeoverEffect s a1 a2) := by
  unfold retireTakeoverEffect
  try dsimp only
  repeat' first
    | with_reducible exact Frame.refl _ _
    | with_reducible refine (State.standIn_frame _ _ _ _ _).after (by decide) ?_
    | with_reducible refine (State.stopRotation_frame _ _ _).after (by decide) ?_
    | with_reducible refine (State.modEng_frame _ _ _ _).after (by decide) ?_
    | with_reducible refine (State.retireTile_frame _ _ _ _ _).after (by decide) ?_
    | with_reducible refine Frame.ite ?_ ?_
    | split

theorem State.putExact_frame s a1 a2 a3 a4 a5 : Frame [.tiles] s (State.putExact s a1 a2 a3 a4 a5) := by
  unfold State.putExact
  try dsimp only
  repeat' first
    | with_reducible exact Frame.refl _ _
    | with_reducible refine (State.modConvs_frame _ _ _ _ _).after (by decide) ?_
    | with_reducible refine Frame.ite ?_ ?_
    | split

theorem checkOutcomeEffect_frame s a1 a2 a3 : Frame [.regs, .tiles, .engines, .cores, .dies, .hbms, .dev, .host, .cstore, .pages, .srv, .ingest, .awn, .flt, .nvm, .out] s (checkOutcomeEffect s a1 a2 a3) := by
  unfold checkOutcomeEffect
  try dsimp only
  repeat' first
    | with_reducible exact Frame.refl _ _
    | with_reducible refine (State.releaseSample_frame _ _ _ _ _).after (by decide) ?_
    | with_reducible refine (State.putExact_frame _ _ _ _ _ _).after (by decide) ?_
    | with_reducible refine (State.modSum_frame _ _ _).after (by decide) ?_
    | with_reducible refine (State.emit_frame _ _ _ _).after (by decide) ?_
    | with_reducible refine (State.irq_frame _ _ _).after (by decide) ?_
    | with_reducible refine (State.inc_frame _ _ _ _).after (by decide) ?_
    | with_reducible refine (State.modTile_frame _ _ _ _ _).after (by decide) ?_
    | with_reducible refine (State.suspectTrack_frame _ _ _ _ _).after (by decide) ?_
    | with_reducible refine (State.permanentOn_frame _ _ _ _).after (by decide) ?_
    | with_reducible refine Frame.ite ?_ ?_
    | split

theorem chkSeedEffect_frame s a1 a2 : Frame [.regs, .tiles] s (chkSeedEffect s a1 a2) := by
  unfold chkSeedEffect
  try dsimp only
  repeat' first
    | with_reducible exact Frame.refl _ _
    | with_reducible refine (State.modTile_frame _ _ _ _ _).after (by decide) ?_
    | with_reducible refine (State.wr_frame _ _ _ _).after (by decide) ?_
    | with_reducible refine Frame.foldl (fun _ _ => ?_) _ ?_

theorem lgSelEffect_frame s a1 a2 : Frame [.regs] s (lgSelEffect s a1 a2) := by
  unfold lgSelEffect
  try dsimp only
  repeat' first
    | with_reducible exact Frame.refl _ _
    | with_reducible refine (State.refuse_frame _ _).after (by decide) ?_
    | with_reducible refine (State.wr_frame _ _ _ _).after (by decide) ?_
    | with_reducible refine Frame.ite ?_ ?_
    | with_reducible refine Frame.foldl (fun _ _ => ?_) _ ?_
    | split

theorem drefEffect_frame s a1 a2 : Frame [.regs, .cores] s (drefEffect s a1 a2) := by
  unfold drefEffect
  try dsimp only
  repeat' first
    | with_reducible exact Frame.refl _ _
    | with_reducible refine (State.refuse_frame _ _).after (by decide) ?_
    | with_reducible refine (State.modSum_frame _ _ _).after (by decide) ?_
    | with_reducible refine (State.wrB_frame _ _ _ _).after (by decide) ?_
    | with_reducible refine Frame.ite ?_ ?_
    | split

end Sys2Proof.Machine
end

