-- ==== Sys2Proof/Laws/FrameCal.lean ====
section
/-! SUPPORT. The frames of the operations of Machine/Cal.lean. -/

namespace Sys2Proof.Machine

set_option linter.unusedTactic false
set_option linter.unreachableTactic false

theorem State.clearTracks_frame s a1 a2 a3 : Frame [.regs, .tiles] s (State.clearTracks s a1 a2 a3) := by
  unfold State.clearTracks
  try dsimp only
  repeat' first
    | with_reducible exact Frame.refl _ _
    | with_reducible refine (State.wr_frame _ _ _ _).after (by decide) ?_
    | with_reducible refine (State.modTile_frame _ _ _ _ _).after (by decide) ?_
    | with_reducible refine Frame.foldl (fun _ _ => ?_) _ ?_

theorem State.doApply_frame s a1 a2 a3 : Frame [.regs, .tiles] s (State.doApply s a1 a2 a3) := by
  unfold State.doApply
  try dsimp only
  repeat' first
    | with_reducible exact Frame.refl _ _
    | with_reducible refine (State.modTile_frame _ _ _ _ _).after (by decide) ?_
    | with_reducible refine (State.clearTracks_frame _ _ _ _).after (by decide) ?_
    | with_reducible refine (State.wr_frame _ _ _ _).after (by decide) ?_
    | with_reducible refine (State.inc_frame _ _ _ _).after (by decide) ?_

theorem calApplyReqEffect_frame s a1 a2 a3 : Frame [.regs, .tiles] s (calApplyReqEffect s a1 a2 a3) := by
  unfold calApplyReqEffect
  try dsimp only
  repeat' first
    | with_reducible exact Frame.refl _ _
    | with_reducible refine (State.refuse_frame _ _).after (by decide) ?_
    | with_reducible refine (State.modTile_frame _ _ _ _ _).after (by decide) ?_
    | with_reducible refine Frame.ite ?_ ?_
    | split

theorem State.countFull_frame s a1 : Frame [.regs] s (State.countFull s a1) := by
  unfold State.countFull
  try dsimp only
  repeat' first
    | with_reducible exact Frame.refl _ _
    | with_reducible refine (State.wr_frame _ _ _ _).after (by decide) ?_
    | with_reducible refine (State.inc_frame _ _ _ _).after (by decide) ?_
    | with_reducible refine Frame.ite ?_ ?_
    | split

theorem State.startTile_frame s a1 a2 a3 : Frame [.regs] s (State.startTile s a1 a2 a3) := by
  unfold State.startTile
  try dsimp only
  repeat' first
    | with_reducible exact Frame.refl _ _
    | with_reducible refine (State.wr_frame _ _ _ _).after (by decide) ?_
    | with_reducible refine (State.inc_frame _ _ _ _).after (by decide) ?_
    | with_reducible refine (State.countFull_frame _ _).after (by decide) ?_
    | with_reducible refine Frame.ite ?_ ?_
    | split

theorem applyEffectEffect_frame s a1 a2 a3 : Frame [.regs, .tiles] s (applyEffectEffect s a1 a2 a3) := by
  unfold applyEffectEffect
  try dsimp only
  repeat' first
    | with_reducible exact Frame.refl _ _
    | with_reducible refine (State.startTile_frame _ _ _ _).after (by decide) ?_
    | with_reducible refine (State.doApply_frame _ _ _ _).after (by decide) ?_
    | with_reducible refine Frame.ite ?_ ?_
    | split

theorem calSaveEffect_frame s a1 a2 a3 : Frame [.regs, .cstore] s (calSaveEffect s a1 a2 a3) := by
  unfold calSaveEffect
  try dsimp only
  repeat' first
    | with_reducible exact Frame.refl _ _
    | with_reducible refine (State.refuse_frame _ _).after (by decide) ?_
    | with_reducible refine (State.csWrite_frame _ _ _ _ _).after (by decide) ?_
    | with_reducible refine Frame.ite ?_ ?_
    | split

theorem State.loadImage_frame s a1 a2 a3 a4 : Frame [.regs, .tiles, .dies] s (State.loadImage s a1 a2 a3 a4) := by
  unfold State.loadImage
  try dsimp only
  repeat' first
    | with_reducible exact Frame.refl _ _
    | with_reducible refine (State.modTile_frame _ _ _ _ _).after (by decide) ?_
    | with_reducible refine (State.wr_frame _ _ _ _).after (by decide) ?_
    | with_reducible refine (State.putColmap_frame _ _ _ _ _ _ _ _).after (by decide) ?_
    | with_reducible refine (State.setCalPhase_frame _ _ _ _ _).after (by decide) ?_
    | with_reducible refine (State.emptyBank_frame _ _ _ _ _).after (by decide) ?_
    | with_reducible refine Frame.foldl (fun _ _ => ?_) _ ?_

theorem State.rejectImage_frame s a1 a2 a3 a4 : Frame [.regs, .tiles, .dies] s (State.rejectImage s a1 a2 a3 a4) := by
  unfold State.rejectImage
  try dsimp only
  repeat' first
    | with_reducible exact Frame.refl _ _
    | with_reducible refine (State.inc_frame _ _ _ _).after (by decide) ?_
    | with_reducible refine (State.modTile_frame _ _ _ _ _).after (by decide) ?_
    | with_reducible refine (State.setCalPhase_frame _ _ _ _ _).after (by decide) ?_
    | with_reducible refine (State.emit_frame _ _ _ _).after (by decide) ?_
    | with_reducible refine (State.wr_frame _ _ _ _).after (by decide) ?_
    | with_reducible refine Frame.ite ?_ ?_
    | split

theorem calLoadEffect_frame s a1 a2 a3 : Frame [.regs, .tiles, .dies] s (calLoadEffect s a1 a2 a3) := by
  unfold calLoadEffect
  try dsimp only
  repeat' first
    | with_reducible exact Frame.refl _ _
    | with_reducible refine (State.refuse_frame _ _).after (by decide) ?_
    | with_reducible refine (State.wr_frame _ _ _ _).after (by decide) ?_
    | with_reducible refine (State.loadImage_frame _ _ _ _ _).after (by decide) ?_
    | with_reducible refine Frame.ite ?_ ?_
    | split

theorem calVerifyEffect_frame s a1 a2 a3 a4 : Frame [.regs, .tiles, .dies] s (calVerifyEffect s a1 a2 a3 a4) := by
  unfold calVerifyEffect
  try dsimp only
  repeat' first
    | with_reducible exact Frame.refl _ _
    | with_reducible refine (State.modTile_frame _ _ _ _ _).after (by decide) ?_
    | with_reducible refine (State.setCalPhase_frame _ _ _ _ _).after (by decide) ?_
    | with_reducible refine (State.wr_frame _ _ _ _).after (by decide) ?_
    | with_reducible refine (State.rejectImage_frame _ _ _ _ _).after (by decide) ?_
    | with_reducible refine Frame.ite ?_ ?_
    | split

theorem State.toFront_frame s a1 a2 a3 : Frame [.engines] s (State.toFront s a1 a2 a3) := by
  unfold State.toFront
  try dsimp only
  repeat' first
    | with_reducible exact Frame.refl _ _
    | with_reducible refine (State.modEng_frame _ _ _ _).after (by decide) ?_

theorem trackWindowEffect_frame s a1 a2 a3 : Frame [.regs, .tiles, .engines, .dies, .out] s (trackWindowEffect s a1 a2 a3) := by
  unfold trackWindowEffect
  try dsimp only
  repeat' first
    | with_reducible exact Frame.refl _ _
    | with_reducible refine (State.wr_frame _ _ _ _).after (by decide) ?_
    | with_reducible refine (State.modTile_frame _ _ _ _ _).after (by decide) ?_
    | with_reducible refine (State.toFront_frame _ _ _ _).after (by decide) ?_
    | with_reducible refine (State.emit_frame _ _ _ _).after (by decide) ?_
    | with_reducible refine (State.tcount_frame _ _ _ _).after (by decide) ?_
    | with_reducible refine Frame.ite ?_ ?_
    | split

theorem State.beginCalibrate_frame s a1 a2 a3 : Frame [.regs, .tiles, .engines] s (State.beginCalibrate s a1 a2 a3) := by
  unfold State.beginCalibrate
  try dsimp only
  repeat' first
    | with_reducible exact Frame.refl _ _
    | with_reducible refine (State.modTile_frame _ _ _ _ _).after (by decide) ?_
    | with_reducible refine (State.setCalPhase_frame _ _ _ _ _).after (by decide) ?_
    | with_reducible refine (State.modEng_frame _ _ _ _).after (by decide) ?_

theorem State.fillForTurn_frame s a1 a2 a3 : Frame [.regs, .tiles, .dies] s (State.fillForTurn s a1 a2 a3) := by
  unfold State.fillForTurn
  try dsimp only
  repeat' first
    | with_reducible exact Frame.refl _ _
    | with_reducible refine (State.emptyBank_frame _ _ _ _ _).after (by decide) ?_
    | with_reducible refine (State.beginWrite_frame _ _ _ _ _ _ _ _ _ _ _).after (by decide) ?_
    | with_reducible refine Frame.ite ?_ ?_
    | with_reducible refine Frame.foldl (fun _ _ => ?_) _ ?_
    | split

theorem calSlotEffect_frame s a1 a2 : Frame [.regs, .tiles, .engines, .dies, .out] s (calSlotEffect s a1 a2) := by
  unfold calSlotEffect
  try dsimp only
  repeat' first
    | with_reducible exact Frame.refl _ _
    | with_reducible refine (State.stopRotation_frame _ _ _).after (by decide) ?_
    | with_reducible refine (State.modEng_frame _ _ _ _).after (by decide) ?_
    | with_reducible refine (State.wr_frame _ _ _ _).after (by decide) ?_
    | with_reducible refine (State.beginCalibrate_frame _ _ _ _).after (by decide) ?_
    | with_reducible refine (State.setCalPhase_frame _ _ _ _ _).after (by decide) ?_
    | with_reducible refine (State.fillForTurn_frame _ _ _ _).after (by decide) ?_
    | with_reducible refine Frame.ite ?_ ?_
    | split

theorem calTakeoverEffect_frame s a1 a2 : Frame [.regs, .tiles, .engines, .dies] s (calTakeoverEffect s a1 a2) := by
  unfold calTakeoverEffect
  try dsimp only
  repeat' first
    | with_reducible exact Frame.refl _ _
    | with_reducible refine (State.emptyBank_frame _ _ _ _ _).after (by decide) ?_
    | with_reducible refine (State.wr_frame _ _ _ _).after (by decide) ?_
    | with_reducible refine (State.beginCalibrate_frame _ _ _ _).after (by decide) ?_
    | with_reducible refine (State.standIn_frame _ _ _ _ _).after (by decide) ?_
    | with_reducible refine Frame.ite ?_ ?_
    | split

theorem calTakeoverTimeoutEffect_frame s a1 a2 : Frame [.regs, .tiles, .engines, .dies, .out] s (calTakeoverTimeoutEffect s a1 a2) := by
  unfold calTakeoverTimeoutEffect
  try dsimp only
  repeat' first
    | with_reducible exact Frame.refl _ _
    | with_reducible refine (State.dropFill_frame _ _ _).after (by decide) ?_
    | with_reducible refine Frame.ite ?_ ?_
    | split

theorem State.retireInCal_frame s a1 a2 a3 a4 : Frame [.regs, .tiles, .engines, .cores, .dies, .hbms, .dev, .host, .cstore, .pages, .srv, .ingest, .awn, .flt, .nvm, .out] s (State.retireInCal s a1 a2 a3 a4) := by
  unfold State.retireInCal
  try dsimp only
  repeat' first
    | with_reducible exact Frame.refl _ _
    | with_reducible refine (State.stopRotation_frame _ _ _).after (by decide) ?_
    | with_reducible refine (State.retireTile_frame _ _ _ _ _).after (by decide) ?_
    | with_reducible refine (State.emit_frame _ _ _ _).after (by decide) ?_
    | with_reducible refine (State.triggerMig_frame _ _ _ _).after (by decide) ?_
    | with_reducible refine (State.standIn_frame _ _ _ _ _).after (by decide) ?_
    | with_reducible refine Frame.ite ?_ ?_
    | split

theorem State.remapFailed_frame s a1 a2 a3 a4 : Frame [.regs, .dies] s (State.remapFailed s a1 a2 a3 a4).1 := by
  induction a4 generalizing s with
  | nil => exact Frame.refl _ _
  | cons x l ih =>
    unfold State.remapFailed
    try dsimp only
    repeat' first
      | with_reducible exact Frame.refl _ _
      | with_reducible refine (State.emit_frame _ _ _ _).after (by decide) ?_
      | with_reducible refine (State.putColmap_frame _ _ _ _ _ _ _ _).after (by decide) ?_
      | split
      | with_reducible refine (ih _).after (by decide) ?_

theorem State.putMeas_frame s a1 a2 a3 a4 : Frame [.regs, .tiles, .dies] s (State.putMeas s a1 a2 a3 a4) := by
  unfold State.putMeas
  try dsimp only
  repeat' first
    | with_reducible exact Frame.refl _ _
    | with_reducible refine (State.modTile_frame _ _ _ _ _).after (by decide) ?_
    | with_reducible refine (State.wr_frame _ _ _ _).after (by decide) ?_
    | with_reducible refine (State.emit_frame _ _ _ _).after (by decide) ?_
    | with_reducible refine Frame.ite ?_ ?_
    | split

theorem State.finishStartup_frame s a1 a2 : Frame [.regs, .tiles, .engines] s (State.finishStartup s a1 a2) := by
  unfold State.finishStartup
  try dsimp only
  repeat' first
    | with_reducible exact Frame.refl _ _
    | with_reducible refine (State.countFull_frame _ _).after (by decide) ?_
    | with_reducible refine (State.setCalPhase_frame _ _ _ _ _).after (by decide) ?_
    | with_reducible refine (State.wr_frame _ _ _ _).after (by decide) ?_
    | with_reducible refine (State.doApply_frame _ _ _ _).after (by decide) ?_
    | with_reducible refine (State.modEng_frame _ _ _ _).after (by decide) ?_
    | with_reducible refine Frame.foldl (fun _ _ => ?_) _ ?_

theorem State.startupNext_frame s a1 a2 a3 : Frame [.regs, .tiles, .engines] s (State.startupNext s a1 a2 a3) := by
  unfold State.startupNext
  try dsimp only
  repeat' first
    | with_reducible exact Frame.refl _ _
    | with_reducible refine (State.modEng_frame _ _ _ _).after (by decide) ?_
    | with_reducible refine (State.finishStartup_frame _ _ _).after (by decide) ?_
    | with_reducible refine Frame.ite ?_ ?_
    | split

theorem calProcedureEffect_frame s a1 a2 a3 a4 : Frame [.regs, .tiles, .engines, .cores, .dies, .hbms, .dev, .host, .cstore, .pages, .srv, .ingest, .awn, .flt, .nvm, .out] s (calProcedureEffect s a1 a2 a3 a4) := by
  unfold calProcedureEffect
  try dsimp only
  repeat' first
    | with_reducible exact Frame.refl _ _
    | with_reducible refine (State.retireInCal_frame _ _ _ _ _).after (by decide) ?_
    | with_reducible refine (State.modTile_frame _ _ _ _ _).after (by decide) ?_
    | with_reducible refine (State.setCalPhase_frame _ _ _ _ _).after (by decide) ?_
    | with_reducible refine (State.startupNext_frame _ _ _ _).after (by decide) ?_
    | with_reducible refine (State.endTurn_frame _ _ _ _).after (by decide) ?_
    | with_reducible refine (State.remapFailed_frame _ _ _ _ _).after (by decide) ?_
    | with_reducible refine (State.modEng_frame _ _ _ _).after (by decide) ?_
    | with_reducible refine (State.putMeas_frame _ _ _ _ _).after (by decide) ?_
    | with_reducible refine (State.inc_frame _ _ _ _).after (by decide) ?_
    | with_reducible refine (State.doApply_frame _ _ _ _).after (by decide) ?_
    | with_reducible refine (State.beginReturn_frame _ _ _ _ _).after (by decide) ?_
    | with_reducible refine Frame.ite ?_ ?_
    | split
    | with_reducible refine Frame.of_pair (by assumption) ?_

theorem calTimeoutEffect_frame s a1 a2 : Frame [.regs, .tiles, .engines, .cores, .dies, .hbms, .dev, .host, .cstore, .pages, .srv, .ingest, .awn, .flt, .nvm, .out] s (calTimeoutEffect s a1 a2) := by
  unfold calTimeoutEffect
  try dsimp only
  repeat' first
    | with_reducible exact Frame.refl _ _
    | with_reducible refine (State.emit_frame _ _ _ _).after (by decide) ?_
    | with_reducible refine (State.tcount_frame _ _ _ _).after (by decide) ?_
    | with_reducible refine (State.endTurn_frame _ _ _ _).after (by decide) ?_
    | with_reducible refine (State.retireInCal_frame _ _ _ _ _).after (by decide) ?_
    | with_reducible refine (State.modEng_frame _ _ _ _).after (by decide) ?_
    | with_reducible refine (State.wr_frame _ _ _ _).after (by decide) ?_
    | with_reducible refine Frame.ite ?_ ?_
    | split

theorem calReturnEffect_frame s a1 a2 : Frame [.regs, .tiles, .engines, .dies] s (calReturnEffect s a1 a2) := by
  unfold calReturnEffect
  try dsimp only
  repeat' first
    | with_reducible exact Frame.refl _ _
    | with_reducible refine (State.emptyBank_frame _ _ _ _ _).after (by decide) ?_
    | with_reducible refine (State.inc_frame _ _ _ _).after (by decide) ?_
    | with_reducible refine (State.doApply_frame _ _ _ _).after (by decide) ?_
    | with_reducible refine (State.wr_frame _ _ _ _).after (by decide) ?_
    | with_reducible refine (State.modTile_frame _ _ _ _ _).after (by decide) ?_
    | with_reducible refine (State.modEng_frame _ _ _ _).after (by decide) ?_
    | with_reducible refine (State.endTurn_frame _ _ _ _).after (by decide) ?_
    | with_reducible refine (State.fillSpare_frame _ _ _ _).after (by decide) ?_
    | with_reducible refine Frame.ite ?_ ?_
    | split

theorem calOverdueEffect_frame s a1 a2 a3 : Frame [.regs, .dies] s (calOverdueEffect s a1 a2 a3) := by
  unfold calOverdueEffect
  try dsimp only
  repeat' first
    | with_reducible exact Frame.refl _ _
    | with_reducible refine (State.emit_frame _ _ _ _).after (by decide) ?_
    | with_reducible refine (State.wr_frame _ _ _ _).after (by decide) ?_
    | with_reducible refine Frame.ite ?_ ?_
    | split

theorem startupSettledEffect_frame s a1 a2 : Frame [.engines] s (startupSettledEffect s a1 a2) := by
  unfold startupSettledEffect
  try dsimp only
  repeat' first
    | with_reducible exact Frame.refl _ _
    | with_reducible refine (State.modEng_frame _ _ _ _).after (by decide) ?_
    | with_reducible refine Frame.ite ?_ ?_
    | split

theorem calUnsettledEffect_frame s a1 a2 : Frame [.engines, .dies] s (calUnsettledEffect s a1 a2) := by
  unfold calUnsettledEffect
  try dsimp only
  repeat' first
    | with_reducible exact Frame.refl _ _
    | with_reducible refine (startupSettledEffect_frame _ _ _).after (by decide) ?_
    | with_reducible refine (State.emit_frame _ _ _ _).after (by decide) ?_
    | with_reducible refine Frame.ite ?_ ?_
    | split

theorem retentionEffect_frame s a1 a2 a3 : Frame [.regs, .tiles, .engines, .cores, .dies, .hbms, .dev, .host, .cstore, .pages, .srv, .ingest, .awn, .flt, .nvm, .out] s (retentionEffect s a1 a2 a3) := by
  unfold retentionEffect
  try dsimp only
  repeat' first
    | with_reducible exact Frame.refl _ _
    | with_reducible refine (State.remapFailed_frame _ _ _ _ _).after (by decide) ?_
    | with_reducible refine (State.retireInCal_frame _ _ _ _ _).after (by decide) ?_
    | with_reducible refine (State.modEng_frame _ _ _ _).after (by decide) ?_
    | with_reducible refine (State.finishStartup_frame _ _ _).after (by decide) ?_
    | with_reducible refine Frame.ite ?_ ?_
    | with_reducible refine Frame.foldl (fun _ _ => ?_) _ ?_
    | with_reducible refine Frame.foldl_pair (fun _ _ => ?_) _ ?_
    | with_reducible refine Frame.ite_pair ?_ ?_
    | split
    | with_reducible refine Frame.of_pair (by assumption) ?_

end Sys2Proof.Machine
end

