-- ==== Sys2Proof/Laws/FrameIngOps.lean ====
section
/-! SUPPORT. The frames of the operations of Machine/IngOps.lean. -/

namespace Sys2Proof.Machine

set_option linter.unusedTactic false
set_option linter.unreachableTactic false

theorem State.modIng_frame s a1 : Frame [.ingest] s (State.modIng s a1) := by
  unfold State.modIng
  try dsimp only
  repeat' first
    | with_reducible exact Frame.refl _ _
    | with_reducible refine (Frame.upd_ingest _ _).after (by decide) ?_

theorem State.writeBack_frame s a1 a2 a3 a4 : Frame [.regs, .dev] s (State.writeBack s a1 a2 a3 a4) := by
  unfold State.writeBack
  try dsimp only
  repeat' first
    | with_reducible exact Frame.refl _ _
    | with_reducible refine (State.devWrite_frame _ _ _ _).after (by decide) ?_

theorem State.showJobs_frame s : Frame [.regs] s (State.showJobs s) := by
  unfold State.showJobs
  try dsimp only
  repeat' first
    | with_reducible exact Frame.refl _ _
    | with_reducible refine (State.wr_frame _ _ _ _).after (by decide) ?_

theorem State.jobFault_frame s a1 a2 : Frame [.dies, .ingest] s (State.jobFault s a1 a2) := by
  unfold State.jobFault
  try dsimp only
  repeat' first
    | with_reducible exact Frame.refl _ _
    | with_reducible refine (State.modJob_frame _ _ _).after (by decide) ?_
    | with_reducible refine (State.emit_frame _ _ _ _).after (by decide) ?_

theorem State.startJob_frame s a1 : Frame [.regs, .dies, .dev, .ingest, .out] s (State.startJob s a1) := by
  unfold State.startJob
  try dsimp only
  repeat' first
    | with_reducible exact Frame.refl _ _
    | with_reducible refine (State.writeBack_frame _ _ _ _ _).after (by decide) ?_
    | with_reducible refine (State.modJob_frame _ _ _).after (by decide) ?_
    | with_reducible refine (State.wr_frame _ _ _ _).after (by decide) ?_
    | with_reducible refine (State.jobFault_frame _ _ _).after (by decide) ?_
    | with_reducible refine (State.send_frame _ _).after (by decide) ?_
    | with_reducible refine Frame.ite ?_ ?_
    | split

theorem State.startJobs_frame s : Frame [.regs, .dies, .dev, .ingest, .out] s (State.startJobs s) := by
  unfold State.startJobs
  try dsimp only
  repeat' first
    | with_reducible exact Frame.refl _ _
    | with_reducible refine (State.showJobs_frame _).after (by decide) ?_
    | with_reducible refine (State.startJob_frame _ _).after (by decide) ?_
    | with_reducible refine Frame.ite ?_ ?_
    | with_reducible refine Frame.foldl (fun _ _ => ?_) _ ?_
    | split

end Sys2Proof.Machine
end

