-- ==== Sys2Proof/Laws/FrameIngest.lean ====
section
/-! SUPPORT. The frames of the operations of Machine/Ingest.lean. -/

namespace Sys2Proof.Machine

set_option linter.unusedTactic false
set_option linter.unreachableTactic false

theorem State.writeReport_frame s a1 a2 a3 a4 a5 a6 : Frame [.regs, .dev] s (State.writeReport s a1 a2 a3 a4 a5 a6) := by
  unfold State.writeReport
  try dsimp only
  repeat' first
    | with_reducible exact Frame.refl _ _
    | with_reducible refine (State.devWrite_frame _ _ _ _).after (by decide) ?_
    | with_reducible refine Frame.ite ?_ ?_
    | split

theorem State.layerRefuse_frame s a1 a2 : Frame [.regs, .dies, .dev, .ingest, .out] s (State.layerRefuse s a1 a2) := by
  unfold State.layerRefuse
  try dsimp only
  repeat' first
    | with_reducible exact Frame.refl _ _
    | with_reducible refine (State.irq_frame _ _ _).after (by decide) ?_
    | with_reducible refine (State.inc_frame _ _ _ _).after (by decide) ?_
    | with_reducible refine (State.jobFault_frame _ _ _).after (by decide) ?_
    | with_reducible refine (State.writeReport_frame _ _ _ _ _ _ _).after (by decide) ?_
    | with_reducible refine Frame.ite ?_ ?_
    | split

theorem State.strayWrite_frame s a1 a2 : Frame [.regs, .dies, .ingest] s (State.strayWrite s a1 a2) := by
  unfold State.strayWrite
  try dsimp only
  repeat' first
    | with_reducible exact Frame.refl _ _
    | with_reducible refine (State.emit_frame _ _ _ _).after (by decide) ?_
    | with_reducible refine (State.inc_frame _ _ _ _).after (by decide) ?_
    | with_reducible refine (State.modIng_frame _ _).after (by decide) ?_
    | with_reducible refine Frame.ite ?_ ?_
    | split

theorem State.overrun_frame s a1 : Frame [.regs, .dies, .dev, .ingest, .out] s (State.overrun s a1) := by
  unfold State.overrun
  try dsimp only
  repeat' first
    | with_reducible exact Frame.refl _ _
    | with_reducible refine (State.irq_frame _ _ _).after (by decide) ?_
    | with_reducible refine (State.inc_frame _ _ _ _).after (by decide) ?_
    | with_reducible refine (State.jobFault_frame _ _ _).after (by decide) ?_
    | with_reducible refine (State.writeReport_frame _ _ _ _ _ _ _).after (by decide) ?_
    | with_reducible refine Frame.ite ?_ ?_
    | split

theorem State.aperturePiece_frame s a1 a2 a3 : Frame [.regs, .dies, .dev, .ingest, .out] s (State.aperturePiece s a1 a2 a3) := by
  unfold State.aperturePiece
  try dsimp only
  repeat' first
    | with_reducible exact Frame.refl _ _
    | with_reducible refine (State.strayWrite_frame _ _ _).after (by decide) ?_
    | with_reducible refine (State.overrun_frame _ _).after (by decide) ?_
    | with_reducible refine (State.inc_frame _ _ _ _).after (by decide) ?_
    | with_reducible refine (State.devWrite_frame _ _ _ _).after (by decide) ?_
    | with_reducible refine (State.modIng_frame _ _).after (by decide) ?_
    | with_reducible refine Frame.ite ?_ ?_
    | with_reducible refine Frame.foldl (fun _ _ => ?_) _ ?_
    | split

theorem State.apertureEffect_frame s a1 a2 a3 : Frame [.regs, .dies, .dev, .ingest, .out] s (State.apertureEffect s a1 a2 a3) := by
  unfold State.apertureEffect
  try dsimp only
  repeat' first
    | with_reducible exact Frame.refl _ _
    | with_reducible refine (State.aperturePiece_frame _ _ _ _).after (by decide) ?_

theorem State.creditBlock_frame s : Frame [.out] s (State.creditBlock s) := by
  unfold State.creditBlock
  try dsimp only
  repeat' first
    | with_reducible exact Frame.refl _ _
    | with_reducible refine (State.send_frame _ _).after (by decide) ?_
    | with_reducible refine Frame.ite ?_ ?_
    | split

theorem State.setConsumed_frame s a1 a2 : Frame [.regs, .out] s (State.setConsumed s a1 a2) := by
  unfold State.setConsumed
  try dsimp only
  repeat' first
    | with_reducible exact Frame.refl _ _
    | with_reducible refine (State.wr_frame _ _ _ _).after (by decide) ?_
    | with_reducible refine (State.creditBlock_frame _).after (by decide) ?_
    | with_reducible refine Frame.ite ?_ ?_
    | split

theorem jobEffect_frame s a1 : Frame [.regs, .dies, .dev, .ingest, .out] s (jobEffect s a1) := by
  unfold jobEffect
  try dsimp only
  repeat' first
    | with_reducible exact Frame.refl _ _
    | with_reducible refine (State.wr_frame _ _ _ _).after (by decide) ?_
    | with_reducible refine (State.irq_frame _ _ _).after (by decide) ?_
    | with_reducible refine (State.inc_frame _ _ _ _).after (by decide) ?_
    | with_reducible refine (State.emit_frame _ _ _ _).after (by decide) ?_
    | with_reducible refine (State.writeBack_frame _ _ _ _ _).after (by decide) ?_
    | with_reducible refine (State.modIng_frame _ _).after (by decide) ?_
    | with_reducible refine (State.setConsumed_frame _ _ _).after (by decide) ?_
    | with_reducible refine (State.startJobs_frame _).after (by decide) ?_
    | with_reducible refine Frame.ite ?_ ?_
    | split

theorem State.consume_frame s a1 a2 a3 : Frame [.regs, .ingest, .out] s (State.consume s a1 a2 a3) := by
  unfold State.consume
  try dsimp only
  repeat' first
    | with_reducible exact Frame.refl _ _
    | with_reducible refine (State.modIng_frame _ _).after (by decide) ?_
    | with_reducible refine (State.setConsumed_frame _ _ _).after (by decide) ?_
    | with_reducible refine (State.send_frame _ _).after (by decide) ?_
    | split

theorem State.takeChunk_frame s a1 a2 a3 a4 : Frame [.regs, .dies, .dev, .ingest, .out] s (State.takeChunk s a1 a2 a3 a4) := by
  unfold State.takeChunk
  try dsimp only
  repeat' first
    | with_reducible exact Frame.refl _ _
    | with_reducible refine (State.writeReport_frame _ _ _ _ _ _ _).after (by decide) ?_
    | with_reducible refine (State.modJob_frame _ _ _).after (by decide) ?_
    | with_reducible refine (State.layerRefuse_frame _ _ _).after (by decide) ?_
    | with_reducible refine (State.inc_frame _ _ _ _).after (by decide) ?_
    | with_reducible refine (State.consume_frame _ _ _ _).after (by decide) ?_
    | with_reducible refine Frame.ite ?_ ?_
    | split

theorem State.exportNext_frame s a1 : Frame [.regs, .dies, .dev, .ingest, .out] s (State.exportNext s a1) := by
  unfold State.exportNext
  try dsimp only
  repeat' first
    | with_reducible exact Frame.refl _ _
    | with_reducible refine (State.layerRefuse_frame _ _ _).after (by decide) ?_
    | with_reducible refine (State.inc_frame _ _ _ _).after (by decide) ?_
    | with_reducible refine (State.modJob_frame _ _ _).after (by decide) ?_
    | with_reducible refine (State.writeBack_frame _ _ _ _ _).after (by decide) ?_
    | with_reducible refine (State.send_frame _ _).after (by decide) ?_
    | with_reducible refine (State.devWrite_frame _ _ _ _).after (by decide) ?_
    | with_reducible refine (State.emit_frame _ _ _ _).after (by decide) ?_
    | with_reducible refine Frame.ite ?_ ?_
    | split

theorem chunkEffect_frame s a1 a2 : Frame [.regs, .dies, .hbms, .dev, .ingest, .out] s (chunkEffect s a1 a2) := by
  unfold chunkEffect
  try dsimp only
  repeat' first
    | with_reducible exact Frame.refl _ _
    | with_reducible refine (State.exportNext_frame _ _).after (by decide) ?_
    | with_reducible refine (State.takeChunk_frame _ _ _ _ _).after (by decide) ?_
    | with_reducible refine (State.touch_frame _ _ _).after (by decide) ?_
    | with_reducible refine (State.layerRefuse_frame _ _ _).after (by decide) ?_
    | with_reducible refine Frame.ite ?_ ?_
    | split

theorem State.layerNext_frame s a1 : Frame [.regs, .dies, .dev, .ingest, .flt, .out] s (State.layerNext s a1) := by
  unfold State.layerNext
  try dsimp only
  repeat' first
    | with_reducible exact Frame.refl _ _
    | with_reducible refine (State.modJob_frame _ _ _).after (by decide) ?_
    | with_reducible refine (State.writeBack_frame _ _ _ _ _).after (by decide) ?_
    | with_reducible refine (State.jobFault_frame _ _ _).after (by decide) ?_
    | with_reducible refine (State.sendReloads_frame _).after (by decide) ?_
    | with_reducible refine Frame.ite ?_ ?_
    | split

theorem layerEffect_frame s a1 : Frame [.fresh, .regs, .dies, .dev, .ingest, .flt, .out] s (layerEffect s a1) := by
  unfold layerEffect
  try dsimp only
  repeat' first
    | with_reducible exact Frame.refl _ _
    | with_reducible refine (State.layerRefuse_frame _ _ _).after (by decide) ?_
    | with_reducible refine (State.devWrite_frame _ _ _ _).after (by decide) ?_
    | with_reducible refine (State.inc_frame _ _ _ _).after (by decide) ?_
    | with_reducible refine (State.takeFree_frame _).after (by decide) ?_
    | with_reducible refine (State.emit_frame _ _ _ _).after (by decide) ?_
    | with_reducible refine (State.emitRep_frame _ _ _ _ _).after (by decide) ?_
    | with_reducible refine (State.irq_frame _ _ _).after (by decide) ?_
    | with_reducible refine (State.writeReport_frame _ _ _ _ _ _ _).after (by decide) ?_
    | with_reducible refine (State.layerNext_frame _ _).after (by decide) ?_
    | with_reducible refine Frame.ite ?_ ?_
    | with_reducible refine Frame.foldl (fun _ _ => ?_) _ ?_
    | split

theorem jobEndEffect_frame s a1 : Frame [.regs, .cores, .dies, .dev, .host, .pages, .srv, .ingest, .out] s (jobEndEffect s a1) := by
  unfold jobEndEffect
  try dsimp only
  repeat' first
    | with_reducible exact Frame.refl _ _
    | with_reducible refine (State.modIng_frame _ _).after (by decide) ?_
    | with_reducible refine (State.writeBack_frame _ _ _ _ _).after (by decide) ?_
    | with_reducible refine (State.irq_frame _ _ _).after (by decide) ?_
    | with_reducible refine (State.wr_frame _ _ _ _).after (by decide) ?_
    | with_reducible refine (State.emptyModel_frame _ _ _).after (by decide) ?_
    | with_reducible refine (State.send_frame _ _).after (by decide) ?_
    | with_reducible refine (State.modMdl_frame _ _ _).after (by decide) ?_
    | with_reducible refine (State.startJobs_frame _).after (by decide) ?_
    | with_reducible refine Frame.ite ?_ ?_
    | split

theorem creditRequestEffect_frame s a1 a2 a3 : Frame [.ingest, .out] s (creditRequestEffect s a1 a2 a3) := by
  unfold creditRequestEffect
  try dsimp only
  repeat' first
    | with_reducible exact Frame.refl _ _
    | with_reducible refine (State.send_frame _ _).after (by decide) ?_
    | with_reducible refine (State.modIng_frame _ _).after (by decide) ?_
    | with_reducible refine Frame.ite ?_ ?_
    | split

theorem creditMsgEffect_frame s a1 a2 a3 : Frame [.ingest] s (creditMsgEffect s a1 a2 a3) := by
  unfold creditMsgEffect
  try dsimp only
  repeat' first
    | with_reducible exact Frame.refl _ _
    | with_reducible refine (State.modJob_frame _ _ _).after (by decide) ?_
    | with_reducible refine Frame.ite ?_ ?_
    | split

theorem creditRetryEffect_frame s a1 : Frame [.ingest, .out] s (creditRetryEffect s a1) := by
  unfold creditRetryEffect
  try dsimp only
  repeat' first
    | with_reducible exact Frame.refl _ _
    | with_reducible refine (State.send_frame _ _).after (by decide) ?_
    | with_reducible refine (State.modJob_frame _ _ _).after (by decide) ?_
    | with_reducible refine Frame.ite ?_ ?_
    | split

theorem creditTimeoutEffect_frame s a1 : Frame [.regs, .dies, .dev, .ingest, .out] s (creditTimeoutEffect s a1) := by
  unfold creditTimeoutEffect
  try dsimp only
  repeat' first
    | with_reducible exact Frame.refl _ _
    | with_reducible refine (State.layerRefuse_frame _ _ _).after (by decide) ?_
    | with_reducible refine Frame.ite ?_ ?_
    | split

theorem ingestEnableEffect_frame s a1 : Frame [.regs, .dies, .dev, .ingest, .out] s (ingestEnableEffect s a1) := by
  unfold ingestEnableEffect
  try dsimp only
  repeat' first
    | with_reducible exact Frame.refl _ _
    | with_reducible refine (State.refuse_frame _ _).after (by decide) ?_
    | with_reducible refine (State.startJobs_frame _).after (by decide) ?_
    | with_reducible refine (State.wrB_frame _ _ _ _).after (by decide) ?_
    | with_reducible refine Frame.ite ?_ ?_
    | split

theorem ingestWriteEffect_frame s a1 a2 a3 a4 : Frame [.regs, .dies, .dev, .ingest, .out] s (ingestWriteEffect s a1 a2 a3 a4) := by
  unfold ingestWriteEffect
  try dsimp only
  repeat' first
    | with_reducible exact Frame.refl _ _
    | with_reducible refine (State.extRefuse_frame _ _ _ _).after (by decide) ?_
    | with_reducible refine (State.apertureEffect_frame _ _ _ _).after (by decide) ?_
    | with_reducible refine (State.inc_frame _ _ _ _).after (by decide) ?_
    | with_reducible refine Frame.ite ?_ ?_
    | split

end Sys2Proof.Machine
end

