-- ==== Sys2Proof/Laws/FrameLink.lean ====
section
/-! SUPPORT. The frames of the operations of Machine/Link.lean. -/

namespace Sys2Proof.Machine

set_option linter.unusedTactic false
set_option linter.unreachableTactic false

theorem State.setCopies_frame s a1 a2 : Frame [.rcopies] s (State.setCopies s a1 a2) := by
  unfold State.setCopies
  try dsimp only
  repeat' first
    | with_reducible exact Frame.refl _ _
    | with_reducible refine (Frame.upd_rcopies _ _).after (by decide) ?_

theorem State.rcopyFail_frame s a1 a2 : Frame [.regs, .dies, .dev, .awn] s (State.rcopyFail s a1 a2) := by
  unfold State.rcopyFail
  try dsimp only
  repeat' first
    | with_reducible exact Frame.refl _ _
    | with_reducible refine (State.devWrite_frame _ _ _ _).after (by decide) ?_
    | with_reducible refine (State.sendAdd_frame _ _ _).after (by decide) ?_
    | with_reducible refine (State.emit_frame _ _ _ _).after (by decide) ?_
    | with_reducible refine (State.inc_frame _ _ _ _).after (by decide) ?_
    | with_reducible refine Frame.ite ?_ ?_
    | split
    | with_reducible refine (Frame.dev_wf _ _ ?_).after (by decide) ?_
    | intro _
    | with_reducible assumption
    | with_reducible refine Store.put_wf _ _ _ ?_
    | with_reducible refine Store.lines2_wf _ _ ?_
    | with_reducible refine Store.markWords_wf _ _ ?_
    | with_reducible refine Store.copyFrom_wf _ _ _ _ ?_
    | with_reducible refine Store.setChk_wf _ _ ?_
    | with_reducible refine Store.putWord_wf _ _ _ ?_
    | with_reducible refine Store.repair_wf _ ?_
    | with_reducible refine Store.zero_wf _ _ ?_
    | with_reducible refine Store.moveRange_wf _ _ _ ?_

theorem State.rcopyEnd_frame s a1 a2 : Frame [.regs, .dev, .awn] s (State.rcopyEnd s a1 a2) := by
  unfold State.rcopyEnd
  try dsimp only
  repeat' first
    | with_reducible exact Frame.refl _ _
    | with_reducible refine (State.inc_frame _ _ _ _).after (by decide) ?_
    | with_reducible refine (State.sendAdd_frame _ _ _).after (by decide) ?_
    | with_reducible refine (State.devWrite_frame _ _ _ _).after (by decide) ?_

theorem State.countPorts_frame s a1 a2 a3 a4 : Frame [.regs] s (State.countPorts s a1 a2 a3 a4) := by
  unfold State.countPorts
  try dsimp only
  repeat' first
    | with_reducible exact Frame.refl _ _
    | with_reducible refine (State.inc_frame _ _ _ _).after (by decide) ?_
    | with_reducible refine Frame.foldl (fun _ _ => ?_) _ ?_

theorem State.ringClaim_frame s a1 : Frame [.awn] s (State.ringClaim s a1) := by
  unfold State.ringClaim
  try dsimp only
  repeat' first
    | with_reducible exact Frame.refl _ _
    | with_reducible refine (State.sendClaim_frame _ _ _ _).after (by decide) ?_

theorem rcopyStartEffect_frame s a1 : Frame [.regs, .dies, .hbms, .rcopies, .dev, .awn, .out] s (rcopyStartEffect s a1) := by
  unfold rcopyStartEffect
  try dsimp only
  repeat' first
    | with_reducible exact Frame.refl _ _
    | with_reducible refine (State.ringClaim_frame _ _).after (by decide) ?_
    | with_reducible refine (State.wr_frame _ _ _ _).after (by decide) ?_
    | with_reducible refine (State.touch_frame _ _ _).after (by decide) ?_
    | with_reducible refine (State.rcopyFail_frame _ _ _).after (by decide) ?_
    | with_reducible refine (State.emit_frame _ _ _ _).after (by decide) ?_
    | with_reducible refine (State.setCopies_frame _ _ _).after (by decide) ?_
    | with_reducible refine (State.send_frame _ _).after (by decide) ?_
    | with_reducible refine (State.countPorts_frame _ _ _ _ _).after (by decide) ?_
    | with_reducible refine Frame.ite ?_ ?_
    | split
    | with_reducible refine (Frame.upd_awn _ _).after (by decide) ?_

theorem rcopyDoneEffect_frame s a1 a2 a3 : Frame [.regs, .dies, .rcopies, .dev, .awn] s (rcopyDoneEffect s a1 a2 a3) := by
  unfold rcopyDoneEffect
  try dsimp only
  repeat' first
    | with_reducible exact Frame.refl _ _
    | with_reducible refine (State.setCopies_frame _ _ _).after (by decide) ?_
    | with_reducible refine (State.rcopyFail_frame _ _ _).after (by decide) ?_
    | with_reducible refine (State.rcopyEnd_frame _ _ _).after (by decide) ?_
    | with_reducible refine (State.countPorts_frame _ _ _ _ _).after (by decide) ?_
    | with_reducible refine (State.devWrite_frame _ _ _ _).after (by decide) ?_
    | with_reducible refine Frame.ite ?_ ?_
    | split
    | with_reducible refine (Frame.dev_wf _ _ ?_).after (by decide) ?_
    | intro _
    | with_reducible assumption
    | with_reducible refine Store.put_wf _ _ _ ?_
    | with_reducible refine Store.lines2_wf _ _ ?_
    | with_reducible refine Store.markWords_wf _ _ ?_
    | with_reducible refine Store.copyFrom_wf _ _ _ _ ?_
    | with_reducible refine Store.setChk_wf _ _ ?_
    | with_reducible refine Store.putWord_wf _ _ _ ?_
    | with_reducible refine Store.repair_wf _ ?_
    | with_reducible refine Store.zero_wf _ _ ?_
    | with_reducible refine Store.moveRange_wf _ _ _ ?_

theorem State.reissue_frame s a1 : Frame [.regs, .dies, .rcopies, .dev, .awn] s (State.reissue s a1) := by
  unfold State.reissue
  try dsimp only
  repeat' first
    | with_reducible exact Frame.refl _ _
    | with_reducible refine (State.setCopies_frame _ _ _).after (by decide) ?_
    | with_reducible refine (State.rcopyFail_frame _ _ _).after (by decide) ?_
    | with_reducible refine Frame.foldl (fun _ _ => ?_) _ ?_

theorem State.plkDown_frame s a1 : Frame [.regs, .dies, .rcopies, .dev, .awn, .out] s (State.plkDown s a1) := by
  unfold State.plkDown
  try dsimp only
  repeat' first
    | with_reducible exact Frame.refl _ _
    | with_reducible refine (State.reissue_frame _ _).after (by decide) ?_
    | with_reducible refine (State.irq_frame _ _ _).after (by decide) ?_
    | with_reducible refine (State.emit_frame _ _ _ _).after (by decide) ?_
    | with_reducible refine (State.wr_frame _ _ _ _).after (by decide) ?_

theorem plkTrainEffect_frame s a1 a2 : Frame [.regs, .ports] s (plkTrainEffect s a1 a2) := by
  unfold plkTrainEffect
  try dsimp only
  repeat' first
    | with_reducible exact Frame.refl _ _
    | with_reducible refine (State.modPort_frame _ _ _).after (by decide) ?_
    | with_reducible refine (State.wr_frame _ _ _ _).after (by decide) ?_
    | with_reducible refine Frame.ite ?_ ?_
    | split

theorem plkTrainDoneEffect_frame s a1 a2 a3 a4 a5 : Frame [.regs, .dies, .ports, .rcopies, .dev, .awn, .out] s (plkTrainDoneEffect s a1 a2 a3 a4 a5) := by
  unfold plkTrainDoneEffect
  try dsimp only
  repeat' first
    | with_reducible exact Frame.refl _ _
    | with_reducible refine (State.wr_frame _ _ _ _).after (by decide) ?_
    | with_reducible refine (State.modPort_frame _ _ _).after (by decide) ?_
    | with_reducible refine (State.plkDown_frame _ _).after (by decide) ?_
    | with_reducible refine (State.irq_frame _ _ _).after (by decide) ?_
    | with_reducible refine (State.emit_frame _ _ _ _).after (by decide) ?_
    | with_reducible refine Frame.ite ?_ ?_
    | split

theorem plkLaneErrorEffect_frame s a1 a2 : Frame [.regs, .dies, .ports, .rcopies, .dev, .awn, .flt, .out] s (plkLaneErrorEffect s a1 a2) := by
  unfold plkLaneErrorEffect
  try dsimp only
  repeat' first
    | with_reducible exact Frame.refl _ _
    | with_reducible refine (State.modPort_frame _ _ _).after (by decide) ?_
    | with_reducible refine (State.logRetired_frame _ _ _ _ _).after (by decide) ?_
    | with_reducible refine (State.irq_frame _ _ _).after (by decide) ?_
    | with_reducible refine (State.emit_frame _ _ _ _).after (by decide) ?_
    | with_reducible refine (State.wr_frame _ _ _ _).after (by decide) ?_
    | with_reducible refine (State.plkDown_frame _ _).after (by decide) ?_
    | with_reducible refine Frame.ite ?_ ?_
    | split

theorem peerInboundEffect_frame s a1 a2 a3 : Frame [.regs, .dies, .hbms, .dev, .ingest, .out] s (peerInboundEffect s a1 a2 a3) := by
  unfold peerInboundEffect
  try dsimp only
  repeat' first
    | with_reducible exact Frame.refl _ _
    | with_reducible refine (State.send_frame _ _).after (by decide) ?_
    | with_reducible refine (State.emitLimited_frame _ _ _ _ _ _ _).after (by decide) ?_
    | with_reducible refine (State.irq_frame _ _ _).after (by decide) ?_
    | with_reducible refine (State.inc_frame _ _ _ _).after (by decide) ?_
    | with_reducible refine (State.apertureEffect_frame _ _ _ _).after (by decide) ?_
    | with_reducible refine (State.devWrite_frame _ _ _ _).after (by decide) ?_
    | with_reducible refine (State.touch_frame _ _ _).after (by decide) ?_
    | with_reducible refine Frame.ite ?_ ?_
    | split
    | with_reducible refine (Frame.dev_wf _ _ ?_).after (by decide) ?_
    | intro _
    | with_reducible assumption
    | with_reducible refine Store.put_wf _ _ _ ?_
    | with_reducible refine Store.lines2_wf _ _ ?_
    | with_reducible refine Store.markWords_wf _ _ ?_
    | with_reducible refine Store.copyFrom_wf _ _ _ _ ?_
    | with_reducible refine Store.setChk_wf _ _ ?_
    | with_reducible refine Store.putWord_wf _ _ _ ?_
    | with_reducible refine Store.repair_wf _ ?_
    | with_reducible refine Store.zero_wf _ _ ?_
    | with_reducible refine Store.moveRange_wf _ _ _ ?_

end Sys2Proof.Machine
end

