-- ==== Sys2Proof/Laws/FrameMemCmds.lean ====
section
/-! SUPPORT. The frames of the operations of Machine/MemCmds.lean. -/

namespace Sys2Proof.Machine

set_option linter.unusedTactic false
set_option linter.unreachableTactic false

theorem State.scrubWord_frame s a1 a2 a3 : Frame [.regs, .dies, .hbms, .dev, .out] s (State.scrubWord s a1 a2 a3) := by
  unfold State.scrubWord
  try dsimp only
  repeat' first
    | with_reducible exact Frame.refl _ _
    | with_reducible refine (State.noteWord_frame _ _ _ _).after (by decide) ?_
    | with_reducible refine (State.modStack_frame _ _ _).after (by decide) ?_
    | with_reducible refine (State.inc_frame _ _ _ _).after (by decide) ?_
    | with_reducible refine Frame.ite ?_ ?_
    | split
    | with_reducible refine (Frame.dev_wf _ _ ?_).after (by decide) ?_
    | intro _
    | with_reducible assumption
    | with_reducible refine Store.put_wf _ _ _ ?_
    | with_reducible refine Store.lines2_wf _ _ ?_
    | with_reducible refine Store.markWords_wf _ _ ?_
    | with_reducible refine Store.copyFrom_wf _ _ _ _ ?_
    | with_reducible refine Store.setChk_wf _ _ ?_
    | with_reducible refine Store.putWord_wf _ _ _ ?_
    | with_reducible refine Store.repair_wf _ ?_
    | with_reducible refine Store.zero_wf _ _ ?_
    | with_reducible refine Store.moveRange_wf _ _ _ ?_

theorem State.scrubTo_frame s a1 a2 : Frame [.regs, .hbms, .out] s (State.scrubTo s a1 a2) := by
  unfold State.scrubTo
  try dsimp only
  repeat' first
    | with_reducible exact Frame.refl _ _
    | with_reducible refine (State.wrA_frame _ _ _ _).after (by decide) ?_
    | with_reducible refine (State.modStack_frame _ _ _).after (by decide) ?_
    | with_reducible refine (State.irq_frame _ _ _).after (by decide) ?_
    | with_reducible refine (State.inc_frame _ _ _ _).after (by decide) ?_
    | with_reducible refine Frame.ite ?_ ?_
    | split

theorem scrubLineEffect_frame s a1 : Frame [.regs, .dies, .hbms, .dev, .out] s (scrubLineEffect s a1) := by
  unfold scrubLineEffect
  try dsimp only
  repeat' first
    | with_reducible exact Frame.refl _ _
    | with_reducible refine (State.scrubTo_frame _ _ _).after (by decide) ?_
    | with_reducible refine (State.scrubWord_frame _ _ _ _).after (by decide) ?_
    | with_reducible refine (State.retireGranule_frame _ _ _).after (by decide) ?_
    | with_reducible refine Frame.ite ?_ ?_
    | with_reducible refine Frame.foldl (fun _ _ => ?_) _ ?_
    | split

theorem State.serveWord_frame s a1 a2 a3 : Frame [.regs, .dies, .hbms, .dev, .out] s (State.serveWord s a1 a2 a3) := by
  unfold State.serveWord
  try dsimp only
  repeat' first
    | with_reducible exact Frame.refl _ _
    | with_reducible refine (State.devWrite_frame _ _ _ _).after (by decide) ?_
    | with_reducible refine (State.send_frame _ _).after (by decide) ?_
    | with_reducible refine (State.touch_frame _ _ _).after (by decide) ?_
    | with_reducible refine (State.emit_frame _ _ _ _).after (by decide) ?_
    | with_reducible refine (State.inc_frame _ _ _ _).after (by decide) ?_
    | with_reducible refine Frame.ite ?_ ?_
    | split

theorem State.nextRetire_frame s a1 : Frame [.regs, .dies, .hbms, .out] s (State.nextRetire s a1) := by
  unfold State.nextRetire
  try dsimp only
  repeat' first
    | with_reducible exact Frame.refl _ _
    | with_reducible refine (State.startRetire_frame _ _ _).after (by decide) ?_
    | with_reducible refine (State.modStack_frame _ _ _).after (by decide) ?_
    | with_reducible refine Frame.ite ?_ ?_
    | split

theorem retireCopyEffect_frame s a1 : Frame [.regs, .dies, .hbms, .dev, .flt, .sec, .out] s (retireCopyEffect s a1) := by
  unfold retireCopyEffect
  try dsimp only
  repeat' first
    | with_reducible exact Frame.refl _ _
    | with_reducible refine (State.modStack_frame _ _ _).after (by decide) ?_
    | with_reducible refine (State.logRetired_frame _ _ _ _ _).after (by decide) ?_
    | with_reducible refine (State.irq_frame _ _ _).after (by decide) ?_
    | with_reducible refine (State.emit_frame _ _ _ _).after (by decide) ?_
    | with_reducible refine (State.wr_frame _ _ _ _).after (by decide) ?_
    | with_reducible refine (State.serveWord_frame _ _ _ _).after (by decide) ?_
    | with_reducible refine (State.nextRetire_frame _ _).after (by decide) ?_
    | with_reducible refine Frame.foldl (fun _ _ => ?_) _ ?_
    | split
    | with_reducible refine (Frame.dev_wf _ _ ?_).after (by decide) ?_
    | with_reducible refine (Frame.upd_sec _ _).after (by decide) ?_
    | intro _
    | with_reducible assumption
    | with_reducible refine Store.put_wf _ _ _ ?_
    | with_reducible refine Store.lines2_wf _ _ ?_
    | with_reducible refine Store.markWords_wf _ _ ?_
    | with_reducible refine Store.copyFrom_wf _ _ _ _ ?_
    | with_reducible refine Store.setChk_wf _ _ ?_
    | with_reducible refine Store.putWord_wf _ _ _ ?_
    | with_reducible refine Store.repair_wf _ ?_
    | with_reducible refine Store.zero_wf _ _ ?_
    | with_reducible refine Store.moveRange_wf _ _ _ ?_

theorem sramPatrolEffect_frame s a1 a2 : Frame [.regs, .cstore, .out] s (sramPatrolEffect s a1 a2) := by
  unfold sramPatrolEffect
  try dsimp only
  repeat' first
    | with_reducible exact Frame.refl _ _
    | with_reducible refine (State.csTouch_frame _ _ _ _).after (by decide) ?_
    | with_reducible refine (Frame.cstore_wf _ _ ?_).after (by decide) ?_
    | intro _
    | with_reducible assumption
    | with_reducible refine Store.put_wf _ _ _ ?_
    | with_reducible refine Store.lines2_wf _ _ ?_
    | with_reducible refine Store.markWords_wf _ _ ?_
    | with_reducible refine Store.copyFrom_wf _ _ _ _ ?_
    | with_reducible refine Store.setChk_wf _ _ ?_
    | with_reducible refine Store.putWord_wf _ _ _ ?_
    | with_reducible refine Store.repair_wf _ ?_
    | with_reducible refine Store.zero_wf _ _ ?_
    | with_reducible refine Store.moveRange_wf _ _ _ ?_

theorem State.testRefuse_frame s a1 : Frame [.regs] s (State.testRefuse s a1) := by
  unfold State.testRefuse
  try dsimp only
  repeat' first
    | with_reducible exact Frame.refl _ _
    | with_reducible refine (State.refuse_frame _ _).after (by decide) ?_
    | with_reducible refine (State.wr_frame _ _ _ _).after (by decide) ?_

theorem State.testResult_frame s a1 a2 a3 a4 : Frame [.regs, .out] s (State.testResult s a1 a2 a3 a4) := by
  unfold State.testResult
  try dsimp only
  repeat' first
    | with_reducible exact Frame.refl _ _
    | with_reducible refine (State.irq_frame _ _ _).after (by decide) ?_
    | with_reducible refine (State.wr_frame _ _ _ _).after (by decide) ?_

theorem State.testAccess_frame {P : List Part} {s0 : State} s a1 a2 (hp : ∀ p ∈ ([.regs] : List Part), p ∈ P) (h2 : ∀ x y0, Frame P x (a2 x y0)) (k : Frame P s0 s) : Frame P s0 (State.testAccess s a1 a2) := by
  unfold State.testAccess
  try dsimp only
  repeat' first
    | with_reducible exact k
    | with_reducible refine (h2 _ _ ).after (fun _ h => h) ?_
    | with_reducible exact Frame.refl _ _
    | with_reducible refine (State.refuse_frame _ _).after (fun p hq => hp p ((by decide : ∀ p ∈ _, p ∈ ([.regs] : List Part)) p hq)) ?_
    | with_reducible refine (State.testRefuse_frame _ _).after (fun p hq => hp p ((by decide : ∀ p ∈ _, p ∈ ([.regs] : List Part)) p hq)) ?_
    | with_reducible refine Frame.ite ?_ ?_
    | split

theorem eccTestWriteEffect_frame s a1 : Frame [.regs, .dev, .out] s (eccTestWriteEffect s a1) := by
  unfold eccTestWriteEffect
  try dsimp only
  repeat' first
    | with_reducible exact Frame.refl _ _
    | with_reducible refine (State.devWrite_frame _ _ _ _).after (by decide) ?_
    | with_reducible refine (State.testResult_frame _ _ _ _ _).after (by decide) ?_
    | with_reducible refine Frame.ite ?_ ?_
    | split
    | with_reducible refine State.testAccess_frame _ _ _ (by decide) (fun _ _ => ?_) ?_
    | with_reducible refine (Frame.dev_wf _ _ ?_).after (by decide) ?_
    | intro _
    | with_reducible assumption
    | with_reducible refine Store.put_wf _ _ _ ?_
    | with_reducible refine Store.lines2_wf _ _ ?_
    | with_reducible refine Store.markWords_wf _ _ ?_
    | with_reducible refine Store.copyFrom_wf _ _ _ _ ?_
    | with_reducible refine Store.setChk_wf _ _ ?_
    | with_reducible refine Store.putWord_wf _ _ _ ?_
    | with_reducible refine Store.repair_wf _ ?_
    | with_reducible refine Store.zero_wf _ _ ?_
    | with_reducible refine Store.moveRange_wf _ _ _ ?_

theorem eccTestReadEffect_frame s a1 : Frame [.regs, .out] s (eccTestReadEffect s a1) := by
  unfold eccTestReadEffect
  try dsimp only
  repeat' first
    | with_reducible exact Frame.refl _ _
    | with_reducible refine (State.wr_frame _ _ _ _).after (by decide) ?_
    | with_reducible refine (State.testResult_frame _ _ _ _ _).after (by decide) ?_
    | with_reducible refine Frame.ite ?_ ?_
    | split
    | with_reducible refine State.testAccess_frame _ _ _ (by decide) (fun _ _ => ?_) ?_

theorem eccTestEnEffect_frame s a1 a2 : Frame [.regs, .dies, .hbms, .out] s (eccTestEnEffect s a1 a2) := by
  unfold eccTestEnEffect
  try dsimp only
  repeat' first
    | with_reducible exact Frame.refl _ _
    | with_reducible refine (State.refuse_frame _ _).after (by decide) ?_
    | with_reducible refine (State.wrB_frame _ _ _ _).after (by decide) ?_
    | with_reducible refine (State.nextRetire_frame _ _).after (by decide) ?_
    | with_reducible refine Frame.ite ?_ ?_
    | with_reducible refine Frame.foldl (fun _ _ => ?_) _ ?_
    | split

theorem rmapSelEffect_frame s a1 a2 : Frame [.regs] s (rmapSelEffect s a1 a2) := by
  unfold rmapSelEffect
  try dsimp only
  repeat' first
    | with_reducible exact Frame.refl _ _
    | with_reducible refine (State.wr_frame _ _ _ _).after (by decide) ?_
    | with_reducible refine (State.wrB_frame _ _ _ _).after (by decide) ?_

end Sys2Proof.Machine
end

