-- ==== Sys2Proof/Laws/FrameNet.lean ====
section
/-! SUPPORT. The frames of the operations of Machine/Net.lean. -/

namespace Sys2Proof.Machine

set_option linter.unusedTactic false
set_option linter.unreachableTactic false

theorem linkRetrainEffect_frame s a1 a2 : Frame [.dies] s (linkRetrainEffect s a1 a2) := by
  unfold linkRetrainEffect
  try dsimp only
  repeat' first
    | with_reducible exact Frame.refl _ _
    | with_reducible refine (State.modDie_frame _ _ _).after (by decide) ?_
    | with_reducible refine Frame.ite ?_ ?_
    | with_reducible refine Frame.foldl (fun _ _ => ?_) _ ?_
    | split

theorem State.unreachable_frame s a1 : Frame [.regs, .tiles, .engines, .cores, .dies, .hbms, .dev, .host, .cstore, .pages, .srv, .ingest, .awn, .flt, .nvm, .out] s (State.unreachable s a1) := by
  unfold State.unreachable
  try dsimp only
  repeat' first
    | with_reducible exact Frame.refl _ _
    | with_reducible refine (State.modDie_frame _ _ _).after (by decide) ?_
    | with_reducible refine (State.emitR_frame _ _).after (by decide) ?_
    | with_reducible refine (State.triggerMig_frame _ _ _ _).after (by decide) ?_
    | with_reducible refine Frame.ite ?_ ?_
    | with_reducible refine Frame.foldl (fun _ _ => ?_) _ ?_
    | split

theorem State.checkRoute_frame s a1 a2 : Frame [.regs, .tiles, .engines, .cores, .dies, .hbms, .dev, .host, .cstore, .pages, .srv, .ingest, .awn, .flt, .nvm, .out] s (State.checkRoute s a1 a2) := by
  unfold State.checkRoute
  try dsimp only
  repeat' first
    | with_reducible exact Frame.refl _ _
    | with_reducible refine (State.wr_frame _ _ _ _).after (by decide) ?_
    | with_reducible refine (State.unreachable_frame _ _).after (by decide) ?_
    | with_reducible refine (State.irq_frame _ _ _).after (by decide) ?_
    | with_reducible refine Frame.ite ?_ ?_
    | split

theorem State.endDown_frame s a1 a2 : Frame [.regs, .tiles, .engines, .cores, .dies, .hbms, .dev, .host, .cstore, .pages, .srv, .ingest, .awn, .flt, .nvm, .out] s (State.endDown s a1 a2) := by
  unfold State.endDown
  try dsimp only
  repeat' first
    | with_reducible exact Frame.refl _ _
    | with_reducible refine (State.modDie_frame _ _ _).after (by decide) ?_
    | with_reducible refine (State.wr_frame _ _ _ _).after (by decide) ?_
    | with_reducible refine (State.logRetired_frame _ _ _ _ _).after (by decide) ?_
    | with_reducible refine (State.irq_frame _ _ _).after (by decide) ?_
    | with_reducible refine (State.emit_frame _ _ _ _).after (by decide) ?_
    | with_reducible refine (State.checkRoute_frame _ _ _).after (by decide) ?_
    | with_reducible refine Frame.ite ?_ ?_
    | with_reducible refine Frame.foldl (fun _ _ => ?_) _ ?_
    | split

theorem retrainEndEffect_frame s a1 a2 a3 : Frame [.regs, .tiles, .engines, .cores, .dies, .hbms, .dev, .host, .cstore, .pages, .srv, .ingest, .awn, .flt, .nvm, .out] s (retrainEndEffect s a1 a2 a3) := by
  unfold retrainEndEffect
  try dsimp only
  repeat' first
    | with_reducible exact Frame.refl _ _
    | with_reducible refine (State.modDie_frame _ _ _).after (by decide) ?_
    | with_reducible refine (State.endDown_frame _ _ _).after (by decide) ?_
    | with_reducible refine Frame.ite ?_ ?_
    | with_reducible refine Frame.foldl (fun _ _ => ?_) _ ?_
    | split

theorem laneRepairEffect_frame s a1 a2 : Frame [.regs, .dies, .out] s (laneRepairEffect s a1 a2) := by
  unfold laneRepairEffect
  try dsimp only
  repeat' first
    | with_reducible exact Frame.refl _ _
    | with_reducible refine (State.irq_frame _ _ _).after (by decide) ?_
    | with_reducible refine (State.emit_frame _ _ _ _).after (by decide) ?_
    | with_reducible refine Frame.ite ?_ ?_
    | split

theorem routeWriteEffect_frame s a1 a2 a3 : Frame [.regs, .tiles, .engines, .cores, .dies, .hbms, .dev, .host, .cstore, .pages, .srv, .ingest, .awn, .flt, .nvm, .out] s (routeWriteEffect s a1 a2 a3) := by
  unfold routeWriteEffect
  try dsimp only
  repeat' first
    | with_reducible exact Frame.refl _ _
    | with_reducible refine (State.checkRoute_frame _ _ _).after (by decide) ?_
    | with_reducible refine (State.wr_frame _ _ _ _).after (by decide) ?_
    | with_reducible refine (State.wrB_frame _ _ _ _).after (by decide) ?_

theorem awnAddEffect_frame s a1 a2 : Frame [.regs, .dies, .awn] s (awnAddEffect s a1 a2) := by
  unfold awnAddEffect
  try dsimp only
  repeat' first
    | with_reducible exact Frame.refl _ _
    | with_reducible refine (State.inc_frame _ _ _ _).after (by decide) ?_
    | with_reducible refine (State.emit_frame _ _ _ _).after (by decide) ?_
    | with_reducible refine (State.evalClaims_frame _).after (by decide) ?_
    | with_reducible refine Frame.ite ?_ ?_
    | split
    | with_reducible refine (Frame.upd_awn _ _).after (by decide) ?_

theorem awnClaimEffect_frame s a1 a2 a3 : Frame [.regs, .awn] s (awnClaimEffect s a1 a2 a3) := by
  unfold awnClaimEffect
  try dsimp only
  repeat' first
    | with_reducible exact Frame.refl _ _
    | with_reducible refine (State.evalClaims_frame _).after (by decide) ?_
    | with_reducible refine Frame.ite ?_ ?_
    | split
    | with_reducible refine (Frame.upd_awn _ _).after (by decide) ?_

theorem awnGrantEffect_frame s a1 : Frame [.regs, .engines, .cores, .dies, .awn, .out] s (awnGrantEffect s a1) := by
  unfold awnGrantEffect
  try dsimp only
  repeat' first
    | with_reducible exact Frame.refl _ _
    | with_reducible refine (State.sendAdd_frame _ _ _).after (by decide) ?_
    | with_reducible refine (State.pump_frame _ _).after (by decide) ?_
    | with_reducible refine (State.modCore_frame _ _ _).after (by decide) ?_
    | with_reducible refine Frame.ite ?_ ?_
    | split
    | with_reducible refine (Frame.upd_awn _ _).after (by decide) ?_

theorem claimWithdrawEffect_frame s a1 : Frame [.regs, .awn] s (claimWithdrawEffect s a1) := by
  unfold claimWithdrawEffect
  try dsimp only
  repeat' first
    | with_reducible exact Frame.refl _ _
    | with_reducible refine (State.withdraw_frame _ _).after (by decide) ?_
    | with_reducible refine Frame.foldl (fun _ _ => ?_) _ ?_
    | with_reducible refine (Frame.upd_awn _ _).after (by decide) ?_

theorem State.zeroSem_frame s a1 : Frame [.regs, .awn] s (State.zeroSem s a1) := by
  unfold State.zeroSem
  try dsimp only
  repeat' first
    | with_reducible exact Frame.refl _ _
    | with_reducible refine (State.inc_frame _ _ _ _).after (by decide) ?_
    | with_reducible refine (Frame.upd_awn _ _).after (by decide) ?_

theorem State.closeSums_frame s : Frame [.cores, .srv] s (State.closeSums s) := by
  unfold State.closeSums
  try dsimp only
  repeat' first
    | with_reducible exact Frame.refl _ _
    | with_reducible refine (State.modCore_frame _ _ _).after (by decide) ?_
    | with_reducible refine (State.modSrv_frame _ _).after (by decide) ?_
    | with_reducible refine Frame.ite ?_ ?_
    | with_reducible refine Frame.foldl (fun _ _ => ?_) _ ?_
    | split

theorem stepStartEffect_frame s a1 : Frame [.regs, .cores, .srv, .ingest, .awn, .flt, .out] s (stepStartEffect s a1) := by
  unfold stepStartEffect
  try dsimp only
  repeat' first
    | with_reducible exact Frame.refl _ _
    | with_reducible refine (State.zeroSem_frame _ _).after (by decide) ?_
    | with_reducible refine (State.inc_frame _ _ _ _).after (by decide) ?_
    | with_reducible refine (State.modSrv_frame _ _).after (by decide) ?_
    | with_reducible refine (State.closeSums_frame _).after (by decide) ?_
    | with_reducible refine (State.modStep_frame _ _ _).after (by decide) ?_
    | with_reducible refine (State.sendUnsent_frame _).after (by decide) ?_
    | with_reducible refine (State.sendClaim_frame _ _ _ _).after (by decide) ?_
    | with_reducible refine Frame.ite ?_ ?_
    | with_reducible refine Frame.foldl (fun _ _ => ?_) _ ?_
    | split

theorem sclkZeroEffect_frame s : Frame [.sclk0, .regs] s (sclkZeroEffect s) := by
  unfold sclkZeroEffect
  try dsimp only
  repeat' first
    | with_reducible exact Frame.refl _ _
    | with_reducible refine (State.inc_frame _ _ _ _).after (by decide) ?_
    | with_reducible refine (Frame.upd_sclk0 _ _).after (by decide) ?_

theorem semSelEffect_frame s a1 : Frame [.regs] s (semSelEffect s a1) := by
  unfold semSelEffect
  try dsimp only
  repeat' first
    | with_reducible exact Frame.refl _ _
    | with_reducible refine (State.refuse_frame _ _).after (by decide) ?_
    | with_reducible refine (State.wr_frame _ _ _ _).after (by decide) ?_
    | with_reducible refine Frame.ite ?_ ?_
    | split

theorem semViewEffect_frame s a1 : Frame [.regs, .awn] s (semViewEffect s a1) := by
  unfold semViewEffect
  try dsimp only
  repeat' first
    | with_reducible exact Frame.refl _ _
    | with_reducible refine (State.evalClaims_frame _).after (by decide) ?_
    | with_reducible refine (Frame.upd_awn _ _).after (by decide) ?_

end Sys2Proof.Machine
end

