-- ==== Sys2Proof/Laws/FramePages.lean ====
section
/-! SUPPORT. The frames of the operations of Machine/Pages.lean. -/

namespace Sys2Proof.Machine

set_option linter.unusedTactic false
set_option linter.unreachableTactic false

theorem allocEffect_frame s a1 a2 a3 a4 a5 : Frame [.regs, .engines, .cores, .dies, .hbms, .dev, .pages, .srv, .awn, .out] s (allocEffect s a1 a2 a3 a4 a5) := by
  unfold allocEffect
  try dsimp only
  repeat' first
    | with_reducible exact Frame.refl _ _
    | with_reducible refine (State.alloc_frame _ _ _ _ _ _ _).after (by decide) ?_
    | with_reducible refine (State.walk_frame _ _).after (by decide) ?_
    | with_reducible refine (State.modAttn_frame _ _ _).after (by decide) ?_
    | with_reducible refine (State.attnFail_frame _ _ _ _ _ _ _).after (by decide) ?_
    | with_reducible refine Frame.ite ?_ ?_
    | split
    | with_reducible refine Frame.of_pair (by assumption) ?_

theorem pinREffect_frame s a1 a2 a3 a4 : Frame [.regs, .engines, .cores, .dies, .hbms, .dev, .pages, .srv, .awn, .out] s (pinREffect s a1 a2 a3 a4) := by
  unfold pinREffect
  try dsimp only
  repeat' first
    | with_reducible exact Frame.refl _ _
    | with_reducible refine (State.walk_frame _ _).after (by decide) ?_
    | with_reducible refine (State.runReq_frame _ _).after (by decide) ?_
    | with_reducible refine (State.attnAsk_frame _ _ _ _ _).after (by decide) ?_

theorem pinWEffect_frame s a1 a2 a3 a4 a5 a6 a7 : Frame [.regs, .engines, .cores, .dies, .hbms, .dev, .pages, .srv, .awn, .out] s (pinWEffect s a1 a2 a3 a4 a5 a6 a7) := by
  unfold pinWEffect
  try dsimp only
  repeat' first
    | with_reducible exact Frame.refl _ _
    | with_reducible refine (State.walk_frame _ _).after (by decide) ?_
    | with_reducible refine (State.runReq_frame _ _).after (by decide) ?_
    | with_reducible refine (State.attnAsk_frame _ _ _ _ _).after (by decide) ?_
    | with_reducible refine Frame.ite ?_ ?_
    | split

theorem shareEffect_frame s a1 a2 a3 : Frame [.regs, .cores, .dies, .dev, .host, .pages, .srv, .out] s (shareEffect s a1 a2 a3) := by
  unfold shareEffect
  try dsimp only
  repeat' first
    | with_reducible exact Frame.refl _ _
    | with_reducible refine (State.settleFailed_frame _).after (by decide) ?_
    | with_reducible refine (State.runReq_frame _ _).after (by decide) ?_

theorem releaseEffect_frame s a1 a2 : Frame [.regs, .cores, .dies, .dev, .host, .pages, .srv, .out] s (releaseEffect s a1 a2) := by
  unfold releaseEffect
  try dsimp only
  repeat' first
    | with_reducible exact Frame.refl _ _
    | with_reducible refine (State.settleFailed_frame _).after (by decide) ?_
    | with_reducible refine (State.runReq_frame _ _).after (by decide) ?_

theorem trimEffect_frame s a1 a2 a3 : Frame [.regs, .cores, .dies, .dev, .host, .pages, .srv, .out] s (trimEffect s a1 a2 a3) := by
  unfold trimEffect
  try dsimp only
  repeat' first
    | with_reducible exact Frame.refl _ _
    | with_reducible refine (State.settleFailed_frame _).after (by decide) ?_
    | with_reducible refine (State.runReq_frame _ _).after (by decide) ?_

theorem State.startMove_frame s a1 a2 : Frame [.regs, .dev, .pages] s (State.startMove s a1 a2) := by
  unfold State.startMove
  try dsimp only
  repeat' first
    | with_reducible exact Frame.refl _ _
    | with_reducible refine (State.modPages_frame _ _).after (by decide) ?_
    | with_reducible refine (State.pageOp_frame _ _).after (by decide) ?_
    | with_reducible refine (State.setPage_frame _ _ _).after (by decide) ?_

theorem State.t2Full_frame s a1 : Frame [.regs, .dies, .out] s (State.t2Full s a1) := by
  unfold State.t2Full
  try dsimp only
  repeat' first
    | with_reducible exact Frame.refl _ _
    | with_reducible refine (State.wr_frame _ _ _ _).after (by decide) ?_
    | with_reducible refine (State.irq_frame _ _ _).after (by decide) ?_
    | with_reducible refine (State.emit_frame _ _ _ _).after (by decide) ?_
    | with_reducible refine Frame.ite ?_ ?_
    | split

theorem spillEffect_frame s a1 a2 : Frame [.regs, .dies, .dev, .pages, .out] s (spillEffect s a1 a2) := by
  unfold spillEffect
  try dsimp only
  repeat' first
    | with_reducible exact Frame.refl _ _
    | with_reducible refine (State.t2Full_frame _ _).after (by decide) ?_
    | with_reducible refine (State.modPages_frame _ _).after (by decide) ?_
    | with_reducible refine (State.startMove_frame _ _ _).after (by decide) ?_
    | with_reducible refine (State.wr_frame _ _ _ _).after (by decide) ?_
    | with_reducible refine Frame.ite ?_ ?_
    | split

theorem fillEffect_frame s a1 a2 : Frame [.regs, .dev, .pages] s (fillEffect s a1 a2) := by
  unfold fillEffect
  try dsimp only
  repeat' first
    | with_reducible exact Frame.refl _ _
    | with_reducible refine (State.startMove_frame _ _ _).after (by decide) ?_
    | with_reducible refine (State.modPages_frame _ _).after (by decide) ?_
    | with_reducible refine Frame.ite ?_ ?_
    | split

theorem State.endSweeps_frame s : Frame [.regs] s (State.endSweeps s) := by
  unfold State.endSweeps
  try dsimp only
  repeat' first
    | with_reducible exact Frame.refl _ _
    | with_reducible refine (State.wr_frame _ _ _ _).after (by decide) ?_
    | with_reducible refine Frame.ite ?_ ?_
    | with_reducible refine Frame.foldl (fun _ _ => ?_) _ ?_
    | split

theorem tierMoveEffect_frame s a1 : Frame [.regs, .cores, .dies, .hbms, .dev, .host, .pages, .srv, .out] s (tierMoveEffect s a1) := by
  unfold tierMoveEffect
  try dsimp only
  repeat' first
    | with_reducible exact Frame.refl _ _
    | with_reducible refine (State.devCopy_frame _ _ _ _).after (by decide) ?_
    | with_reducible refine (State.setPage_frame _ _ _).after (by decide) ?_
    | with_reducible refine (State.modPages_frame _ _).after (by decide) ?_
    | with_reducible refine (State.inc_frame _ _ _ _).after (by decide) ?_
    | with_reducible refine (State.endSweeps_frame _).after (by decide) ?_
    | with_reducible refine (State.settleMoves_frame _).after (by decide) ?_
    | with_reducible refine (State.settleFailed_frame _).after (by decide) ?_
    | with_reducible refine (State.retryHeld_frame _ _).after (by decide) ?_
    | with_reducible refine Frame.ite ?_ ?_
    | split

theorem spillSweepEffect_frame s a1 : Frame [.regs, .dies, .out] s (spillSweepEffect s a1) := by
  unfold spillSweepEffect
  try dsimp only
  repeat' first
    | with_reducible exact Frame.refl _ _
    | with_reducible refine (State.irq_frame _ _ _).after (by decide) ?_
    | with_reducible refine (State.t2Full_frame _ _).after (by decide) ?_
    | with_reducible refine (State.wr_frame _ _ _ _).after (by decide) ?_
    | with_reducible refine Frame.ite ?_ ?_
    | split

theorem cowDoneEffect_frame s a1 : Frame [.regs, .engines, .cores, .dies, .hbms, .dev, .host, .pages, .srv, .awn, .out] s (cowDoneEffect s a1) := by
  unfold cowDoneEffect
  try dsimp only
  repeat' first
    | with_reducible exact Frame.refl _ _
    | with_reducible refine (State.modPages_frame _ _).after (by decide) ?_
    | with_reducible refine (State.devCopy_frame _ _ _ _).after (by decide) ?_
    | with_reducible refine (State.devWrite_frame _ _ _ _).after (by decide) ?_
    | with_reducible refine (State.inc_frame _ _ _ _).after (by decide) ?_
    | with_reducible refine (State.attnGot_frame _ _ _ _ _ _).after (by decide) ?_
    | with_reducible refine (State.walk_frame _ _).after (by decide) ?_
    | with_reducible refine (State.settleFailed_frame _).after (by decide) ?_
    | with_reducible refine (State.unpin_frame _ _).after (by decide) ?_
    | with_reducible refine (State.runReq_frame _ _).after (by decide) ?_
    | split

theorem numberReleaseEffect_frame s a1 : Frame [.pages] s (numberReleaseEffect s a1) := by
  unfold numberReleaseEffect
  try dsimp only
  repeat' first
    | with_reducible exact Frame.refl _ _
    | with_reducible refine (State.modPages_frame _ _).after (by decide) ?_
    | with_reducible refine Frame.ite ?_ ?_
    | split

theorem State.loadLedger_frame s a1 : Frame [.pages] s (State.loadLedger s a1) := by
  unfold State.loadLedger
  try dsimp only
  repeat' first
    | with_reducible exact Frame.refl _ _
    | with_reducible refine (State.modPages_frame _ _).after (by decide) ?_
    | with_reducible refine Frame.foldl (fun _ _ => ?_) _ ?_

theorem kvpEnableEffect_frame s a1 a2 : Frame [.regs, .pages] s (kvpEnableEffect s a1 a2) := by
  unfold kvpEnableEffect
  try dsimp only
  repeat' first
    | with_reducible exact Frame.refl _ _
    | with_reducible refine (State.wrB_frame _ _ _ _).after (by decide) ?_
    | with_reducible refine (State.wr_frame _ _ _ _).after (by decide) ?_
    | with_reducible refine (State.loadLedger_frame _ _).after (by decide) ?_
    | with_reducible refine Frame.ite ?_ ?_
    | split

theorem entrySelEffect_frame s a1 a2 : Frame [.regs] s (entrySelEffect s a1 a2) := by
  unfold entrySelEffect
  try dsimp only
  repeat' first
    | with_reducible exact Frame.refl _ _
    | with_reducible refine (State.refuse_frame _ _).after (by decide) ?_
    | with_reducible refine (State.wr_frame _ _ _ _).after (by decide) ?_
    | with_reducible refine Frame.ite ?_ ?_
    | with_reducible refine Frame.foldl (fun _ _ => ?_) _ ?_
    | split

end Sys2Proof.Machine
end

