-- ==== Sys2Proof/Laws/FrameHostPort.lean ====
section
/-! SUPPORT. The frames of the operations of Machine/HostPort.lean. -/

namespace Sys2Proof.Machine

set_option linter.unusedTactic false
set_option linter.unreachableTactic false

theorem State.closeFn_frame s a1 : Frame [.regs, .cores, .dies, .dev, .host, .pages, .srv, .out] s (State.closeFn s a1).1 := by
  unfold State.closeFn
  try dsimp only
  repeat' first
    | with_reducible exact Frame.refl _ _
    | with_reducible refine (State.closeSeq_frame _ _ _).after (by decide) ?_
    | with_reducible refine (State.settleFailed_frame _).after (by decide) ?_
    | with_reducible refine Frame.foldl (fun _ _ => ?_) _ ?_
    | with_reducible refine State.takeHeld_frame _ _ _ (by decide) (fun _ _ => ?_) ?_

theorem State.resetFn_frame s a1 : Frame [.regs, .cores, .dies, .dev, .host, .pages, .srv, .out] s (State.resetFn s a1) := by
  unfold State.resetFn
  try dsimp only
  repeat' first
    | with_reducible exact Frame.refl _ _
    | with_reducible refine (State.closeFn_frame _ _).after (by decide) ?_
    | with_reducible refine (State.modSrv_frame _ _).after (by decide) ?_
    | with_reducible refine (State.emitRep_frame _ _ _ _ _).after (by decide) ?_
    | with_reducible refine Frame.ite ?_ ?_
    | split
    | with_reducible refine Frame.of_pair (by assumption) ?_
    | with_reducible refine (Frame.upd_regs_msix _ _ _).after (by decide) ?_

theorem State.resetFns_frame s : Frame [.regs, .cores, .dies, .dev, .host, .pages, .srv, .out] s (State.resetFns s) := by
  unfold State.resetFns
  try dsimp only
  repeat' first
    | with_reducible exact Frame.refl _ _
    | with_reducible refine (State.resetFn_frame _ _).after (by decide) ?_
    | with_reducible refine Frame.foldl (fun _ _ => ?_) _ ?_

theorem flrEffect_frame s a1 : Frame [.regs, .cores, .dies, .dev, .host, .pages, .srv, .out] s (flrEffect s a1) := by
  unfold flrEffect
  try dsimp only
  repeat' first
    | with_reducible exact Frame.refl _ _
    | with_reducible refine (State.inc_frame _ _ _ _).after (by decide) ?_
    | with_reducible refine (State.resetFns_frame _).after (by decide) ?_
    | with_reducible refine (State.resetFn_frame _ _).after (by decide) ?_
    | with_reducible refine Frame.ite ?_ ?_
    | split

theorem State.linkOff_frame s a1 : Frame [.regs] s (State.linkOff s a1) := by
  unfold State.linkOff
  try dsimp only
  repeat' first
    | with_reducible exact Frame.refl _ _
    | with_reducible refine (State.wr_frame _ _ _ _).after (by decide) ?_

theorem hostDownEffect_frame s : Frame [.regs, .cores, .dies, .dev, .host, .pages, .srv, .power, .out] s (hostDownEffect s) := by
  unfold hostDownEffect
  try dsimp only
  repeat' first
    | with_reducible exact Frame.refl _ _
    | with_reducible refine (State.emit_frame _ _ _ _).after (by decide) ?_
    | with_reducible refine (State.resetFns_frame _).after (by decide) ?_
    | with_reducible refine (State.linkOff_frame _ _).after (by decide) ?_
    | with_reducible refine Frame.ite ?_ ?_
    | split
    | with_reducible refine (Frame.upd_power _ _).after (by decide) ?_

theorem ingestDownEffect_frame s : Frame [.regs, .dies, .power] s (ingestDownEffect s) := by
  unfold ingestDownEffect
  try dsimp only
  repeat' first
    | with_reducible exact Frame.refl _ _
    | with_reducible refine (State.emit_frame _ _ _ _).after (by decide) ?_
    | with_reducible refine (State.linkOff_frame _ _).after (by decide) ?_
    | with_reducible refine Frame.ite ?_ ?_
    | split
    | with_reducible refine (Frame.upd_power _ _).after (by decide) ?_

theorem linkUpEffect_frame s a1 a2 a3 : Frame [.regs, .power] s (linkUpEffect s a1 a2 a3) := by
  unfold linkUpEffect
  try dsimp only
  repeat' first
    | with_reducible exact Frame.refl _ _
    | with_reducible refine (State.wr_frame _ _ _ _).after (by decide) ?_
    | with_reducible refine Frame.ite ?_ ?_
    | split
    | with_reducible refine (Frame.upd_power _ _).after (by decide) ?_

theorem configEffect_frame s a1 : Frame [.out] s (configEffect s a1) := by
  unfold configEffect
  try dsimp only
  repeat' first
    | with_reducible exact Frame.refl _ _
    | with_reducible refine (State.send_frame _ _).after (by decide) ?_
    | with_reducible refine Frame.ite ?_ ?_
    | split

theorem ptmEffect_frame s a1 : Frame [.regs, .power] s (ptmEffect s a1) := by
  unfold ptmEffect
  try dsimp only
  repeat' first
    | with_reducible exact Frame.refl _ _
    | with_reducible refine (State.wr_frame _ _ _ _).after (by decide) ?_
    | with_reducible refine Frame.ite ?_ ?_
    | split
    | with_reducible refine (Frame.upd_power _ _).after (by decide) ?_

theorem ptmReadEffect_frame s : Frame [.power, .out] s (ptmReadEffect s) := by
  unfold ptmReadEffect
  try dsimp only
  repeat' first
    | with_reducible exact Frame.refl _ _
    | with_reducible refine (State.send_frame _ _).after (by decide) ?_
    | with_reducible refine (Frame.upd_power _ _).after (by decide) ?_

theorem ideFailEffect_frame s a1 a2 : Frame [.regs, .dies, .power] s (ideFailEffect s a1 a2) := by
  unfold ideFailEffect
  try dsimp only
  repeat' first
    | with_reducible exact Frame.refl _ _
    | with_reducible refine (State.emit_frame _ _ _ _).after (by decide) ?_
    | with_reducible refine (State.inc_frame _ _ _ _).after (by decide) ?_
    | with_reducible refine Frame.ite ?_ ?_
    | split
    | with_reducible refine (Frame.upd_power _ _).after (by decide) ?_

theorem cxlDownEffect_frame s a1 : Frame [.regs, .dies, .power, .out] s (cxlDownEffect s a1) := by
  unfold cxlDownEffect
  try dsimp only
  repeat' first
    | with_reducible exact Frame.refl _ _
    | with_reducible refine (State.wr_frame _ _ _ _).after (by decide) ?_
    | with_reducible refine (State.emit_frame _ _ _ _).after (by decide) ?_
    | with_reducible refine (State.t2Full_frame _ _).after (by decide) ?_
    | with_reducible refine Frame.ite ?_ ?_
    | with_reducible refine Frame.foldl (fun _ _ => ?_) _ ?_
    | split
    | with_reducible refine (Frame.upd_power _ _).after (by decide) ?_

theorem mctpEffect_frame s a1 : Frame [.out] s (mctpEffect s a1) := by
  unfold mctpEffect
  try dsimp only
  repeat' first
    | with_reducible exact Frame.refl _ _
    | with_reducible refine (State.send_frame _ _).after (by decide) ?_

theorem spdmEffect_frame s a1 a2 a3 : Frame [.power, .out] s (spdmEffect s a1 a2 a3) := by
  unfold spdmEffect
  try dsimp only
  repeat' first
    | with_reducible exact Frame.refl _ _
    | with_reducible refine (State.send_frame _ _).after (by decide) ?_
    | with_reducible refine Frame.ite ?_ ?_
    | split
    | with_reducible refine (Frame.upd_power _ _).after (by decide) ?_

theorem jtagEffect_frame s a1 : Frame [.dies, .power] s (jtagEffect s a1) := by
  unfold jtagEffect
  try dsimp only
  repeat' first
    | with_reducible exact Frame.refl _ _
    | with_reducible refine (State.emit_frame _ _ _ _).after (by decide) ?_
    | with_reducible refine Frame.ite ?_ ?_
    | split
    | with_reducible refine (Frame.upd_power _ _).after (by decide) ?_

end Sys2Proof.Machine
end

