-- ==== Sys2Proof/Laws/FrameClock.lean ====
section
/-! SUPPORT. The frames of the operations of Machine/Clock.lean. -/

namespace Sys2Proof.Machine

set_option linter.unusedTactic false
set_option linter.unreachableTactic false

theorem pllEffect_frame s a1 : Frame [.regs, .tiles, .engines, .cores, .dies, .hbms, .dev, .host, .cstore, .pages, .srv, .ingest, .awn, .flt, .nvm, .out] s (pllEffect s a1) := by
  unfold pllEffect
  try dsimp only
  repeat' first
    | with_reducible exact Frame.refl _ _
    | with_reducible refine (State.emit_frame _ _ _ _).after (by decide) ?_
    | with_reducible refine (State.modDie_frame _ _ _).after (by decide) ?_
    | with_reducible refine (State.wr_frame _ _ _ _).after (by decide) ?_
    | with_reducible refine (State.triggerMig_frame _ _ _ _).after (by decide) ?_
    | with_reducible refine Frame.ite ?_ ?_
    | with_reducible refine Frame.foldl (fun _ _ => ?_) _ ?_
    | split

theorem refclkEffect_frame s : Frame [.regs, .dies, .power] s (refclkEffect s) := by
  unfold refclkEffect
  try dsimp only
  repeat' first
    | with_reducible exact Frame.refl _ _
    | with_reducible refine (State.emit_frame _ _ _ _).after (by decide) ?_
    | with_reducible refine (State.wr_frame _ _ _ _).after (by decide) ?_
    | with_reducible refine Frame.ite ?_ ?_
    | split
    | with_reducible refine (Frame.upd_power _ _).after (by decide) ?_

theorem State.showReset_frame s a1 a2 : Frame [.regs] s (State.showReset s a1 a2) := by
  unfold State.showReset
  try dsimp only
  repeat' first
    | with_reducible exact Frame.refl _ _
    | with_reducible refine (State.wrB_frame _ _ _ _).after (by decide) ?_
    | with_reducible refine (State.wr_frame _ _ _ _).after (by decide) ?_

theorem State.holdReset_frame s a1 a2 : Frame [.regs, .tiles, .engines, .cores, .dies, .cstore, .awn, .out] s (State.holdReset s a1 a2) := by
  unfold State.holdReset
  try dsimp only
  repeat' first
    | with_reducible exact Frame.refl _ _
    | with_reducible refine (State.showReset_frame _ _ _).after (by decide) ?_
    | with_reducible refine (State.modCore_frame _ _ _).after (by decide) ?_
    | with_reducible refine (State.resetCore_frame _ _ _).after (by decide) ?_

theorem coreRstAssertEffect_frame s a1 a2 : Frame [.regs, .tiles, .engines, .cores, .dies, .cstore, .awn, .out] s (coreRstAssertEffect s a1 a2) := by
  unfold coreRstAssertEffect
  try dsimp only
  repeat' first
    | with_reducible exact Frame.refl _ _
    | with_reducible refine (State.wr_frame _ _ _ _).after (by decide) ?_
    | with_reducible refine (State.wrB_frame _ _ _ _).after (by decide) ?_
    | with_reducible refine (State.modCore_frame _ _ _).after (by decide) ?_
    | with_reducible refine (State.holdReset_frame _ _ _).after (by decide) ?_
    | with_reducible refine Frame.ite ?_ ?_
    | split

theorem State.loseBanks_frame s a1 a2 : Frame [.regs, .tiles, .dies] s (State.loseBanks s a1 a2).1 := by
  unfold State.loseBanks
  try dsimp only
  repeat' first
    | with_reducible exact Frame.refl _ _
    | with_reducible refine (State.emptyBank_frame _ _ _ _ _).after (by decide) ?_
    | with_reducible refine Frame.ite ?_ ?_
    | with_reducible refine Frame.foldl (fun _ _ => ?_) _ ?_
    | split

theorem State.resumeCore_frame s a1 : Frame [.regs, .tiles, .engines, .dies] s (State.resumeCore s a1) := by
  unfold State.resumeCore
  try dsimp only
  repeat' first
    | with_reducible exact Frame.refl _ _
    | with_reducible refine (State.resumeSweep_frame _ _ _ _ _).after (by decide) ?_
    | with_reducible refine (State.beginReturn_frame _ _ _ _ _).after (by decide) ?_
    | with_reducible refine (State.fillSpare_frame _ _ _ _).after (by decide) ?_
    | with_reducible refine Frame.ite ?_ ?_
    | with_reducible refine Frame.foldl (fun _ _ => ?_) _ ?_
    | split

theorem coreRstReleaseEffect_frame s a1 : Frame [.regs, .tiles, .engines, .cores, .dies, .out] s (coreRstReleaseEffect s a1) := by
  unfold coreRstReleaseEffect
  try dsimp only
  repeat' first
    | with_reducible exact Frame.refl _ _
    | with_reducible refine (State.wr_frame _ _ _ _).after (by decide) ?_
    | with_reducible refine (State.loseBanks_frame _ _ _).after (by decide) ?_
    | with_reducible refine (State.irq_frame _ _ _).after (by decide) ?_
    | with_reducible refine (State.emit_frame _ _ _ _).after (by decide) ?_
    | with_reducible refine (State.resumeCore_frame _ _).after (by decide) ?_
    | with_reducible refine (State.showReset_frame _ _ _).after (by decide) ?_
    | with_reducible refine (State.modCore_frame _ _ _).after (by decide) ?_
    | with_reducible refine Frame.ite ?_ ?_
    | split
    | with_reducible refine Frame.of_pair (by assumption) ?_

end Sys2Proof.Machine
end

