-- ==== Sys2Proof/Laws/FrameFaults.lean ====
section
/-! SUPPORT. The frames of the operations of Machine/Faults.lean. -/

namespace Sys2Proof.Machine

set_option linter.unusedTactic false
set_option linter.unreachableTactic false

theorem State.forward_frame s a1 a2 : Frame [.regs, .flt] s (State.forward s a1 a2) := by
  unfold State.forward
  try dsimp only
  repeat' first
    | with_reducible exact Frame.refl _ _
    | with_reducible refine (State.inc_frame _ _ _ _).after (by decide) ?_
    | with_reducible refine (Frame.upd_flt _ _).after (by decide) ?_

theorem State.forwardOldest_frame s a1 : Frame [.regs, .dies, .flt] s (State.forwardOldest s a1) := by
  unfold State.forwardOldest
  try dsimp only
  repeat' first
    | with_reducible exact Frame.refl _ _
    | with_reducible refine (State.forward_frame _ _ _).after (by decide) ?_
    | with_reducible refine (State.modDie_frame _ _ _).after (by decide) ?_
    | split

theorem State.reportDrops_frame s a1 : Frame [.dies] s (State.reportDrops s a1) := by
  unfold State.reportDrops
  try dsimp only
  repeat' first
    | with_reducible exact Frame.refl _ _
    | with_reducible refine (State.modDie_frame _ _ _).after (by decide) ?_
    | with_reducible refine (State.emitRep_frame _ _ _ _ _).after (by decide) ?_
    | with_reducible refine Frame.ite ?_ ?_
    | split

theorem State.collect_frame s a1 a2 : Frame [.regs, .dies, .flt] s ((State.collect s a1 a2).getD s) := by
  unfold State.collect
  try dsimp only
  repeat' first
    | with_reducible exact Frame.refl _ _
    | with_reducible refine Frame.getD_none ?_
    | with_reducible refine Frame.getD_some ?_
    | with_reducible refine (State.forward_frame _ _ _).after (by decide) ?_
    | with_reducible refine (State.modDie_frame _ _ _).after (by decide) ?_
    | with_reducible refine (State.inc_frame _ _ _ _).after (by decide) ?_
    | with_reducible refine Frame.ite ?_ ?_
    | split

theorem State.collect_some {s a1 a2 t} (h : State.collect s a1 a2 = some t) : Frame [.regs, .dies, .flt] s t :=
  Frame.of_some h (State.collect_frame s a1 a2)

theorem State.collectFirst_frame s a1 a2 : Frame [.regs, .dies, .flt] s (State.collectFirst s a1 a2) := by
  unfold State.collectFirst
  try dsimp only
  repeat' first
    | with_reducible exact Frame.refl _ _
    | with_reducible refine (State.modDie_frame _ _ _).after (by decide) ?_
    | with_reducible refine (State.forwardOldest_frame _ _).after (by decide) ?_
    | split
    | with_reducible refine (State.collect_some (by with_reducible assumption)).after (by decide) ?_

theorem State.lineFault_frame s a1 a2 : Frame [.regs, .dies] s (State.lineFault s a1 a2) := by
  unfold State.lineFault
  try dsimp only
  repeat' first
    | with_reducible exact Frame.refl _ _
    | with_reducible refine (State.emit_frame _ _ _ _).after (by decide) ?_
    | with_reducible refine (State.inc_frame _ _ _ _).after (by decide) ?_
    | with_reducible refine (State.modDie_frame _ _ _).after (by decide) ?_
    | with_reducible refine Frame.ite ?_ ?_
    | split

theorem recordWaitEffect_frame s a1 a2 : Frame [.regs, .dies] s (recordWaitEffect s a1 a2) := by
  unfold recordWaitEffect
  try dsimp only
  repeat' first
    | with_reducible exact Frame.refl _ _
    | with_reducible refine (State.lineFault_frame _ _ _).after (by decide) ?_
    | with_reducible refine Frame.ite ?_ ?_
    | split

theorem State.putLog_frame s a1 a2 : Frame [.regs, .dev, .flt] s (State.putLog s a1 a2) := by
  unfold State.putLog
  try dsimp only
  repeat' first
    | with_reducible exact Frame.refl _ _
    | with_reducible refine (State.devWrite_frame _ _ _ _).after (by decide) ?_
    | with_reducible refine (Frame.upd_flt _ _).after (by decide) ?_

theorem State.countDrop_frame s : Frame [.regs, .flt, .out] s (State.countDrop s) := by
  unfold State.countDrop
  try dsimp only
  repeat' first
    | with_reducible exact Frame.refl _ _
    | with_reducible refine (State.irq_frame _ _ _).after (by decide) ?_
    | with_reducible refine (State.inc_frame _ _ _ _).after (by decide) ?_
    | with_reducible refine (Frame.upd_flt _ _).after (by decide) ?_

theorem State.logged_frame s a1 : Frame [.regs, .out] s (State.logged s a1) := by
  unfold State.logged
  try dsimp only
  repeat' first
    | with_reducible exact Frame.refl _ _
    | with_reducible refine (State.irq_frame _ _ _).after (by decide) ?_
    | with_reducible refine (State.inc_frame _ _ _ _).after (by decide) ?_
    | with_reducible refine (State.send_frame _ _).after (by decide) ?_
    | with_reducible refine (State.sendMsix_frame _ _ _).after (by decide) ?_
    | with_reducible refine Frame.ite ?_ ?_
    | split

theorem State.enterLog_frame s a1 : Frame [.regs, .dev, .flt, .out] s (State.enterLog s a1) := by
  unfold State.enterLog
  try dsimp only
  repeat' first
    | with_reducible exact Frame.refl _ _
    | with_reducible refine (State.logged_frame _ _).after (by decide) ?_
    | with_reducible refine (State.wr_frame _ _ _ _).after (by decide) ?_
    | with_reducible refine (State.putLog_frame _ _ _).after (by decide) ?_
    | with_reducible refine (State.countDrop_frame _).after (by decide) ?_
    | with_reducible refine Frame.ite ?_ ?_
    | split

theorem State.nvmFault_frame s a1 : Frame [.nvm] s (State.nvmFault s a1) := by
  unfold State.nvmFault
  try dsimp only
  repeat' first
    | with_reducible exact Frame.refl _ _
    | with_reducible refine (Frame.upd_nvm _ _).after (by decide) ?_

theorem State.haltAll_frame s : Frame [.regs, .engines, .cores, .awn, .out] s (State.haltAll s) := by
  unfold State.haltAll
  try dsimp only
  repeat' first
    | with_reducible exact Frame.refl _ _
    | with_reducible refine (State.haltCore_frame _ _ _ _ _).after (by decide) ?_
    | with_reducible refine Frame.ite ?_ ?_
    | with_reducible refine Frame.foldl (fun _ _ => ?_) _ ?_
    | split

theorem State.bootFails_frame s a1 : Frame [.regs, .power] s (State.bootFails s a1) := by
  unfold State.bootFails
  try dsimp only
  repeat' first
    | with_reducible exact Frame.refl _ _
    | with_reducible refine (State.wr_frame _ _ _ _).after (by decide) ?_
    | with_reducible refine Frame.ite ?_ ?_
    | split
    | with_reducible refine (Frame.upd_power _ _).after (by decide) ?_

theorem State.fatal_frame s a1 : Frame [.regs, .engines, .cores, .awn, .flt, .power, .out] s (State.fatal s a1) := by
  unfold State.fatal
  try dsimp only
  repeat' first
    | with_reducible exact Frame.refl _ _
    | with_reducible refine (State.bootFails_frame _ _).after (by decide) ?_
    | with_reducible refine (State.haltAll_frame _).after (by decide) ?_
    | with_reducible refine (State.wr_frame _ _ _ _).after (by decide) ?_
    | with_reducible refine (State.send_frame _ _).after (by decide) ?_
    | with_reducible refine Frame.ite ?_ ?_
    | split
    | with_reducible refine (Frame.upd_flt _ _).after (by decide) ?_

theorem faultLogEffect_frame s : Frame [.regs, .tiles, .engines, .cores, .dies, .hbms, .dev, .host, .pages, .srv, .ingest, .awn, .flt, .nvm, .power, .out] s (faultLogEffect s) := by
  unfold faultLogEffect
  try dsimp only
  repeat' first
    | with_reducible exact Frame.refl _ _
    | with_reducible refine (State.reportDrops_frame _ _).after (by decide) ?_
    | with_reducible refine (State.enterLog_frame _ _).after (by decide) ?_
    | with_reducible refine (State.nvmFault_frame _ _).after (by decide) ?_
    | with_reducible refine (State.wr_frame _ _ _ _).after (by decide) ?_
    | with_reducible refine (State.fatal_frame _ _).after (by decide) ?_
    | with_reducible refine (State.targetFails_frame _ _).after (by decide) ?_
    | with_reducible refine Frame.ite ?_ ?_
    | split
    | with_reducible refine (Frame.upd_flt _ _).after (by decide) ?_

theorem containmentEffect_frame s a1 : Frame [.regs, .dev, .flt, .nvm, .out] s (containmentEffect s a1) := by
  unfold containmentEffect
  try dsimp only
  repeat' first
    | with_reducible exact Frame.refl _ _
    | with_reducible refine (State.irq_frame _ _ _).after (by decide) ?_
    | with_reducible refine (State.wr_frame _ _ _ _).after (by decide) ?_
    | with_reducible refine (State.putLog_frame _ _ _).after (by decide) ?_
    | split
    | with_reducible refine (Frame.upd_nvm _ _).after (by decide) ?_

theorem State.reportLogFull_frame s : Frame [.dies, .flt] s (State.reportLogFull s) := by
  unfold State.reportLogFull
  try dsimp only
  repeat' first
    | with_reducible exact Frame.refl _ _
    | with_reducible refine (State.emitRep_frame _ _ _ _ _).after (by decide) ?_
    | with_reducible refine Frame.ite ?_ ?_
    | split
    | with_reducible refine (Frame.upd_flt _ _).after (by decide) ?_

theorem logHeadEffect_frame s a1 : Frame [.regs, .dies, .flt] s (logHeadEffect s a1) := by
  unfold logHeadEffect
  try dsimp only
  repeat' first
    | with_reducible exact Frame.refl _ _
    | with_reducible refine (State.refuse_frame _ _).after (by decide) ?_
    | with_reducible refine (State.wr_frame _ _ _ _).after (by decide) ?_
    | with_reducible refine (State.reportLogFull_frame _).after (by decide) ?_
    | with_reducible refine Frame.ite ?_ ?_
    | split

theorem logSelEffect_frame s a1 : Frame [.regs] s (logSelEffect s a1) := by
  unfold logSelEffect
  try dsimp only
  repeat' first
    | with_reducible exact Frame.refl _ _
    | with_reducible refine (State.wr_frame _ _ _ _).after (by decide) ?_
    | with_reducible refine Frame.foldl (fun _ _ => ?_) _ ?_
    | split

theorem compatEffect_frame s : Frame [.regs, .dies, .flt, .nvm, .power] s (compatEffect s) := by
  unfold compatEffect
  try dsimp only
  repeat' first
    | with_reducible exact Frame.refl _ _
    | with_reducible refine (State.emit_frame _ _ _ _).after (by decide) ?_
    | with_reducible refine (State.wr_frame _ _ _ _).after (by decide) ?_
    | with_reducible refine Frame.ite ?_ ?_
    | split
    | with_reducible refine (Frame.upd_flt_nvm_power _ _ _ _ ).after (by decide) ?_
    | with_reducible refine (Frame.upd_nvm_power _ _ _ ).after (by decide) ?_
    | with_reducible refine (Frame.upd_flt_power _ _ _ ).after (by decide) ?_
    | with_reducible refine (Frame.upd_flt_nvm _ _ _ ).after (by decide) ?_
    | with_reducible refine (Frame.upd_nvm _ _).after (by decide) ?_
    | with_reducible refine (Frame.upd_flt _ _).after (by decide) ?_
    | with_reducible refine (Frame.upd_power _ _).after (by decide) ?_

end Sys2Proof.Machine
end

