-- ==== Sys2Proof/Laws/FrameAssembly.lean ====
section
/-! SUPPORT. The frames of the operations of Machine/Assembly.lean. -/

namespace Sys2Proof.Machine

set_option linter.unusedTactic false
set_option linter.unreachableTactic false

theorem State.expire_frame s a1 : Frame [.regs, .cores, .dies, .dev, .host, .pages, .srv, .out] s (State.expire s a1) := by
  unfold State.expire
  try dsimp only
  repeat' first
    | with_reducible exact Frame.refl _ _
    | with_reducible refine (State.endSeq_frame _ _ _ _).after (by decide) ?_
    | with_reducible refine (State.inc_frame _ _ _ _).after (by decide) ?_
    | with_reducible refine Frame.foldl (fun _ _ => ?_) _ ?_

theorem State.refill_frame s a1 : Frame [.regs, .srv] s (State.refill s a1) := by
  unfold State.refill
  try dsimp only
  repeat' first
    | with_reducible exact Frame.refl _ _
    | with_reducible refine (State.modTen_frame _ _ _).after (by decide) ?_
    | with_reducible refine (State.wr_frame _ _ _ _).after (by decide) ?_
    | with_reducible refine Frame.ite ?_ ?_
    | split

theorem drrTenant_frame a0 a1 a2 a3 a4 a5 s a7 : Frame [.regs, .srv] s (drrTenant a0 a1 a2 a3 a4 a5 s a7).1 := by
  induction a5 generalizing s a7 with
  | nil => exact Frame.refl _ _
  | cons x l ih =>
    unfold drrTenant
    try dsimp only
    repeat' first
      | with_reducible exact Frame.refl _ _
      | with_reducible refine (State.modTen_frame _ _ _).after (by decide) ?_
      | with_reducible refine (State.wr_frame _ _ _ _).after (by decide) ?_
      | with_reducible refine Frame.ite ?_ ?_
      | split
      | with_reducible refine (ih _ _).after (by decide) ?_

theorem drrRound_frame a0 a1 a2 a3 a4 s a6 : Frame [.regs, .srv] s (drrRound a0 a1 a2 a3 a4 s a6).1 := by
  induction a4 generalizing s a6 with
  | nil => exact Frame.refl _ _
  | cons x l ih =>
    unfold drrRound
    try dsimp only
    repeat' first
      | with_reducible exact Frame.refl _ _
      | with_reducible refine (State.modTen_frame _ _ _).after (by decide) ?_
      | with_reducible refine (drrTenant_frame _ _ _ _ _ _ _ _).after (by decide) ?_
      | with_reducible refine Frame.ite ?_ ?_
      | split
      | with_reducible refine Frame.of_pair (by assumption) ?_
      | with_reducible refine (ih _ _).after (by decide) ?_

theorem drrRounds_frame a0 a1 a2 a3 a4 a5 s a7 : Frame [.regs, .srv] s (drrRounds a0 a1 a2 a3 a4 a5 s a7).1 := by
  induction a4 generalizing a5 s a7 with
  | zero => exact Frame.refl _ _
  | succ n ih =>
    unfold drrRounds
    try dsimp only
    repeat' first
      | with_reducible exact Frame.refl _ _
      | with_reducible refine (drrRound_frame _ _ _ _ _ _ _).after (by decide) ?_
      | with_reducible refine Frame.ite ?_ ?_
      | split
      | with_reducible refine Frame.of_pair (by assumption) ?_
      | with_reducible refine (ih _ _ _).after (by decide) ?_

theorem State.drr_frame s a1 a2 a3 a4 a5 : Frame [.regs, .srv] s (State.drr s a1 a2 a3 a4 a5).1 := by
  unfold State.drr
  try dsimp only
  repeat' first
    | with_reducible exact Frame.refl _ _
    | with_reducible refine (drrRounds_frame _ _ _ _ _ _ _ _).after (by decide) ?_

theorem State.writeRound_frame s a1 a2 : Frame [.regs, .dev, .cstore] s (State.writeRound s a1 a2) := by
  unfold State.writeRound
  try dsimp only
  repeat' first
    | with_reducible exact Frame.refl _ _
    | with_reducible refine (State.devWrite_frame _ _ _ _).after (by decide) ?_
    | with_reducible refine (State.writeJobs_frame _ _ _ _).after (by decide) ?_
    | with_reducible refine Frame.ite ?_ ?_
    | split

theorem State.startStep_frame s a1 a2 a3 : Frame [.regs, .dev, .cstore, .srv] s (State.startStep s a1 a2 a3) := by
  unfold State.startStep
  try dsimp only
  repeat' first
    | with_reducible exact Frame.refl _ _
    | with_reducible refine (State.modSrv_frame _ _).after (by decide) ?_
    | with_reducible refine (State.modSeq_frame _ _ _).after (by decide) ?_
    | with_reducible refine (State.writeJobs_frame _ _ _ _).after (by decide) ?_
    | with_reducible refine (State.devWrite_frame _ _ _ _).after (by decide) ?_
    | with_reducible refine (State.writeRound_frame _ _ _).after (by decide) ?_
    | with_reducible refine Frame.ite ?_ ?_
    | with_reducible refine Frame.foldl (fun _ _ => ?_) _ ?_
    | split

theorem stepAssemblyEffect_frame s a1 : Frame [.regs, .cores, .dies, .dev, .host, .cstore, .pages, .srv, .out] s (stepAssemblyEffect s a1) := by
  unfold stepAssemblyEffect
  try dsimp only
  repeat' first
    | with_reducible exact Frame.refl _ _
    | with_reducible refine (State.expire_frame _ _).after (by decide) ?_
    | with_reducible refine (State.modMdl_frame _ _ _).after (by decide) ?_
    | with_reducible refine (State.irq_frame _ _ _).after (by decide) ?_
    | with_reducible refine (State.emit_frame _ _ _ _).after (by decide) ?_
    | with_reducible refine (State.refill_frame _ _).after (by decide) ?_
    | with_reducible refine (State.drr_frame _ _ _ _ _ _).after (by decide) ?_
    | with_reducible refine (State.inc_frame _ _ _ _).after (by decide) ?_
    | with_reducible refine (State.startStep_frame _ _ _ _).after (by decide) ?_
    | with_reducible refine Frame.ite ?_ ?_
    | with_reducible refine Frame.foldl (fun _ _ => ?_) _ ?_
    | split
    | with_reducible refine Frame.of_pair (by assumption) ?_

end Sys2Proof.Machine
end

