-- ==== Sys2Proof/Laws/FrameServing.lean ====
section
/-! SUPPORT. The frames of the operations of Machine/Serving.lean. -/

namespace Sys2Proof.Machine

set_option linter.unusedTactic false
set_option linter.unreachableTactic false

theorem State.stepSignal_frame s a1 a2 a3 : Frame [.awn] s (State.stepSignal s a1 a2 a3) := by
  unfold State.stepSignal
  try dsimp only
  repeat' first
    | with_reducible exact Frame.refl _ _
    | with_reducible refine (State.sendAdd_frame _ _ _).after (by decide) ?_

theorem State.draftClaim_frame s a1 : Frame [.awn] s (State.draftClaim s a1) := by
  unfold State.draftClaim
  try dsimp only
  repeat' first
    | with_reducible exact Frame.refl _ _
    | with_reducible refine (State.sendClaim_frame _ _ _ _).after (by decide) ?_

theorem State.sampleDraft_frame s a1 a2 a3 : Frame [.regs, .cores, .dies, .dev, .host, .pages, .srv, .out] s (State.sampleDraft s a1 a2 a3) := by
  unfold State.sampleDraft
  try dsimp only
  repeat' first
    | with_reducible exact Frame.refl _ _
    | with_reducible refine (State.poisonSeq_frame _ _ _).after (by decide) ?_
    | with_reducible refine (State.modStep_frame _ _ _).after (by decide) ?_
    | split

theorem State.writeDrafts_frame s a1 : Frame [.regs, .dev] s (State.writeDrafts s a1) := by
  unfold State.writeDrafts
  try dsimp only
  repeat' first
    | with_reducible exact Frame.refl _ _
    | with_reducible refine (State.devWrite_frame _ _ _ _).after (by decide) ?_
    | with_reducible refine Frame.ite ?_ ?_
    | with_reducible refine Frame.foldl (fun _ _ => ?_) _ ?_
    | split

theorem draftRoundEffect_frame s a1 : Frame [.regs, .cores, .dies, .dev, .host, .cstore, .pages, .srv, .awn, .out] s (draftRoundEffect s a1) := by
  unfold draftRoundEffect
  try dsimp only
  repeat' first
    | with_reducible exact Frame.refl _ _
    | with_reducible refine (State.sampleDraft_frame _ _ _ _).after (by decide) ?_
    | with_reducible refine (State.draftClaim_frame _ _).after (by decide) ?_
    | with_reducible refine (State.stepSignal_frame _ _ _ _).after (by decide) ?_
    | with_reducible refine (State.writeRound_frame _ _ _).after (by decide) ?_
    | with_reducible refine (State.modStep_frame _ _ _).after (by decide) ?_
    | with_reducible refine (State.writeDrafts_frame _ _).after (by decide) ?_
    | with_reducible refine Frame.ite ?_ ?_
    | with_reducible refine Frame.foldl (fun _ _ => ?_) _ ?_
    | split
    | with_reducible refine (Frame.upd_awn _ _).after (by decide) ?_

theorem State.reloadReport_frame s a1 a2 a3 : Frame [.ingest, .flt] s (State.reloadReport s a1 a2 a3) := by
  unfold State.reloadReport
  try dsimp only
  repeat' first
    | with_reducible exact Frame.refl _ _
    | with_reducible refine (State.modJob_frame _ _ _).after (by decide) ?_
    | with_reducible refine (State.modMig_frame _ _ _).after (by decide) ?_
    | split

theorem State.reloadEnd_frame s a1 : Frame [.srv, .ingest, .flt, .out] s (State.reloadEnd s a1) := by
  unfold State.reloadEnd
  try dsimp only
  repeat' first
    | with_reducible exact Frame.refl _ _
    | with_reducible refine (State.sendUnsent_frame _).after (by decide) ?_
    | with_reducible refine (State.reloadReport_frame _ _ _ _).after (by decide) ?_
    | with_reducible refine Frame.ite ?_ ?_
    | split

theorem State.reloadHalt_frame s a1 : Frame [.regs, .cores, .dies, .dev, .host, .pages, .srv, .ingest, .flt, .out] s (State.reloadHalt s a1) := by
  unfold State.reloadHalt
  try dsimp only
  repeat' first
    | with_reducible exact Frame.refl _ _
    | with_reducible refine (State.reloadReport_frame _ _ _ _).after (by decide) ?_
    | with_reducible refine (State.emptyModel_frame _ _ _).after (by decide) ?_
    | with_reducible refine Frame.ite ?_ ?_
    | split

theorem stepEndReportEffect_frame s a1 a2 : Frame [.srv, .ingest, .flt, .out] s (stepEndReportEffect s a1 a2) := by
  unfold stepEndReportEffect
  try dsimp only
  repeat' first
    | with_reducible exact Frame.refl _ _
    | with_reducible refine (State.reloadEnd_frame _ _).after (by decide) ?_
    | with_reducible refine (State.modStep_frame _ _ _).after (by decide) ?_
    | with_reducible refine (State.sendUnsent_frame _).after (by decide) ?_
    | with_reducible refine Frame.ite ?_ ?_
    | split

theorem State.abortStep_frame s a1 a2 : Frame [.regs, .cores, .dies, .dev, .host, .pages, .srv, .awn, .out] s (State.abortStep s a1 a2) := by
  unfold State.abortStep
  try dsimp only
  repeat' first
    | with_reducible exact Frame.refl _ _
    | with_reducible refine (State.dropStep_frame _ _).after (by decide) ?_
    | with_reducible refine (State.irq_frame _ _ _).after (by decide) ?_
    | with_reducible refine (State.inc_frame _ _ _ _).after (by decide) ?_
    | with_reducible refine (State.emit_frame _ _ _ _).after (by decide) ?_
    | with_reducible refine (State.send_frame _ _).after (by decide) ?_
    | with_reducible refine (State.sendMsix_frame _ _ _).after (by decide) ?_
    | with_reducible refine (State.withdraw_frame _ _).after (by decide) ?_
    | with_reducible refine (State.setSeq_frame _ _ _).after (by decide) ?_
    | with_reducible refine (State.endSeq_frame _ _ _ _).after (by decide) ?_
    | with_reducible refine (State.emitSeq_frame _ _ _ _ _ _).after (by decide) ?_
    | with_reducible refine (State.settleMoves_frame _).after (by decide) ?_
    | with_reducible refine Frame.ite ?_ ?_
    | with_reducible refine Frame.foldl (fun _ _ => ?_) _ ?_
    | split

theorem stepFailureEffect_frame s a1 a2 a3 : Frame [.regs, .cores, .dies, .dev, .host, .pages, .srv, .ingest, .awn, .flt, .out] s (stepFailureEffect s a1 a2 a3) := by
  unfold stepFailureEffect
  try dsimp only
  repeat' first
    | with_reducible exact Frame.refl _ _
    | with_reducible refine (State.reloadReport_frame _ _ _ _).after (by decide) ?_
    | with_reducible refine (State.reloadHalt_frame _ _).after (by decide) ?_
    | with_reducible refine (State.modStep_frame _ _ _).after (by decide) ?_
    | with_reducible refine (State.abortStep_frame _ _ _).after (by decide) ?_
    | with_reducible refine Frame.ite ?_ ?_
    | split

theorem seqFailEffect_frame s a1 : Frame [.regs, .cores, .dies, .dev, .host, .pages, .srv, .out] s (seqFailEffect s a1) := by
  unfold seqFailEffect
  try dsimp only
  repeat' first
    | with_reducible exact Frame.refl _ _
    | with_reducible refine (State.modSrv_frame _ _).after (by decide) ?_
    | with_reducible refine (State.endSeq_frame _ _ _ _).after (by decide) ?_

theorem State.sampleMain_frame s a1 a2 : Frame [.regs, .cores, .dies, .dev, .host, .pages, .srv, .out] s (State.sampleMain s a1 a2) := by
  unfold State.sampleMain
  try dsimp only
  repeat' first
    | with_reducible exact Frame.refl _ _
    | with_reducible refine (State.modStep_frame _ _ _).after (by decide) ?_
    | with_reducible refine (State.poisonSeq_frame _ _ _).after (by decide) ?_
    | with_reducible refine Frame.ite ?_ ?_
    | split

theorem samplingEffect_frame s a1 a2 : Frame [.regs, .cores, .dies, .dev, .host, .pages, .srv, .out] s (samplingEffect s a1 a2) := by
  unfold samplingEffect
  try dsimp only
  repeat' first
    | with_reducible exact Frame.refl _ _
    | with_reducible refine (State.sampleMain_frame _ _ _).after (by decide) ?_
    | with_reducible refine Frame.ite ?_ ?_
    | with_reducible refine Frame.foldl (fun _ _ => ?_) _ ?_
    | split

theorem State.trimSeq_frame s a1 a2 a3 : Frame [.regs, .cores, .dies, .dev, .pages, .srv, .out] s (State.trimSeq s a1 a2 a3) := by
  unfold State.trimSeq
  try dsimp only
  repeat' first
    | with_reducible exact Frame.refl _ _
    | with_reducible refine (State.runReq_frame _ _).after (by decide) ?_
    | with_reducible refine (State.devWrite_frame _ _ _ _).after (by decide) ?_
    | with_reducible refine Frame.ite ?_ ?_
    | with_reducible refine Frame.foldl (fun _ _ => ?_) _ ?_
    | split

theorem State.closeOne_frame s a1 : Frame [.regs, .cores, .dies, .dev, .host, .pages, .srv, .out] s (State.closeOne s a1).1 := by
  unfold State.closeOne
  try dsimp only
  repeat' first
    | with_reducible exact Frame.refl _ _
    | with_reducible refine (State.setSeq_frame _ _ _).after (by decide) ?_
    | with_reducible refine (State.inc_frame _ _ _ _).after (by decide) ?_
    | with_reducible refine (State.trimSeq_frame _ _ _ _).after (by decide) ?_
    | with_reducible refine (State.writeRec_frame _ _ _).after (by decide) ?_
    | with_reducible refine (State.endSeq_frame _ _ _ _).after (by decide) ?_
    | with_reducible refine Frame.ite ?_ ?_
    | with_reducible refine Frame.foldl (fun _ _ => ?_) _ ?_
    | with_reducible refine Frame.foldl_pair (fun _ _ => ?_) _ ?_
    | with_reducible refine Frame.ite_pair ?_ ?_
    | split
    | with_reducible refine Frame.of_pair (by assumption) ?_

theorem State.drainModel_frame s a1 : Frame [.regs, .cores, .dies, .dev, .host, .pages, .srv, .ingest, .out] s (State.drainModel s a1) := by
  unfold State.drainModel
  try dsimp only
  repeat' first
    | with_reducible exact Frame.refl _ _
    | with_reducible refine (State.modSeq_frame _ _ _).after (by decide) ?_
    | with_reducible refine (State.endSeq_frame _ _ _ _).after (by decide) ?_
    | with_reducible refine (State.startJobs_frame _).after (by decide) ?_
    | with_reducible refine (State.modMdl_frame _ _ _).after (by decide) ?_
    | with_reducible refine Frame.ite ?_ ?_
    | with_reducible refine Frame.foldl (fun _ _ => ?_) _ ?_
    | split

theorem stepCloseEffect_frame s a1 : Frame [.regs, .cores, .dies, .dev, .host, .pages, .srv, .ingest, .flt, .out] s (stepCloseEffect s a1) := by
  unfold stepCloseEffect
  try dsimp only
  repeat' first
    | with_reducible exact Frame.refl _ _
    | with_reducible refine (State.wr_frame _ _ _ _).after (by decide) ?_
    | with_reducible refine (State.closeOne_frame _ _).after (by decide) ?_
    | with_reducible refine (State.ringIrq_frame _ _).after (by decide) ?_
    | with_reducible refine (State.sendUnsent_frame _).after (by decide) ?_
    | with_reducible refine (State.drainModel_frame _ _).after (by decide) ?_
    | with_reducible refine (State.settleMoves_frame _).after (by decide) ?_
    | with_reducible refine (State.settleFailed_frame _).after (by decide) ?_
    | with_reducible refine (State.dropStep_frame _ _).after (by decide) ?_
    | with_reducible refine Frame.ite ?_ ?_
    | with_reducible refine Frame.foldl (fun _ _ => ?_) _ ?_
    | with_reducible refine Frame.foldl_pair (fun _ _ => ?_) _ ?_
    | with_reducible refine Frame.ite_pair ?_ ?_
    | split
    | with_reducible refine Frame.of_pair (by assumption) ?_

theorem slotFreeEffect_frame s a1 : Frame [.srv] s (slotFreeEffect s a1) := by
  unfold slotFreeEffect
  try dsimp only
  repeat' first
    | with_reducible exact Frame.refl _ _
    | with_reducible refine (State.modSrv_frame _ _).after (by decide) ?_
    | with_reducible refine Frame.ite ?_ ?_
    | split

theorem modelSwapEffect_frame s a1 : Frame [.regs, .cores, .dies, .dev, .host, .pages, .srv, .ingest, .out] s (modelSwapEffect s a1) := by
  unfold modelSwapEffect
  try dsimp only
  repeat' first
    | with_reducible exact Frame.refl _ _
    | with_reducible refine (State.drainModel_frame _ _).after (by decide) ?_
    | with_reducible refine (State.modMdl_frame _ _ _).after (by decide) ?_
    | with_reducible refine (State.wr_frame _ _ _ _).after (by decide) ?_
    | with_reducible refine Frame.ite ?_ ?_
    | split

theorem modelUnloadEffect_frame s a1 : Frame [.regs, .cores, .dies, .hbms, .dev, .host, .pages, .srv, .out] s (modelUnloadEffect s a1) := by
  unfold modelUnloadEffect
  try dsimp only
  repeat' first
    | with_reducible exact Frame.refl _ _
    | with_reducible refine (State.refuse_frame _ _).after (by decide) ?_
    | with_reducible refine (State.emptyModel_frame _ _ _).after (by decide) ?_
    | with_reducible refine (State.decideSubmit_frame _ _ _ _ _).after (by decide) ?_
    | with_reducible refine Frame.ite ?_ ?_
    | split
    | with_reducible refine State.takeHeld_frame _ _ _ (by decide) (fun _ _ => ?_) ?_

theorem barrierCheckEffect_frame s : Frame [.regs, .cores, .dies, .dev, .host, .pages, .srv, .out] s (barrierCheckEffect s) := by
  unfold barrierCheckEffect
  try dsimp only
  repeat' first
    | with_reducible exact Frame.refl _ _
    | with_reducible refine (State.refuseReq_frame _ _ _ _).after (by decide) ?_
    | with_reducible refine (State.endSeq_frame _ _ _ _).after (by decide) ?_
    | with_reducible refine (State.inc_frame _ _ _ _).after (by decide) ?_
    | with_reducible refine Frame.foldl (fun _ _ => ?_) _ ?_
    | with_reducible refine State.takeHeld_frame _ _ _ (by decide) (fun _ _ => ?_) ?_

theorem State.swapEnd_frame s a1 a2 : Frame [.regs, .cores, .dies, .hbms, .dev, .host, .pages, .srv, .out] s (State.swapEnd s a1 a2) := by
  unfold State.swapEnd
  try dsimp only
  repeat' first
    | with_reducible exact Frame.refl _ _
    | with_reducible refine (State.irq_frame _ _ _).after (by decide) ?_
    | with_reducible refine (State.modMdl_frame _ _ _).after (by decide) ?_
    | with_reducible refine (State.inc_frame _ _ _ _).after (by decide) ?_
    | with_reducible refine (State.wr_frame _ _ _ _).after (by decide) ?_
    | with_reducible refine (State.modSeq_frame _ _ _).after (by decide) ?_
    | with_reducible refine (State.emptyModel_frame _ _ _).after (by decide) ?_
    | with_reducible refine (State.decideSubmit_frame _ _ _ _ _).after (by decide) ?_
    | with_reducible refine Frame.ite ?_ ?_
    | with_reducible refine Frame.foldl (fun _ _ => ?_) _ ?_
    | split
    | with_reducible refine State.takeHeld_frame _ _ _ (by decide) (fun _ _ => ?_) ?_

theorem swapCompleteEffect_frame s a1 a2 : Frame [.regs, .cores, .dies, .hbms, .dev, .host, .pages, .srv, .out] s (swapCompleteEffect s a1 a2) := by
  unfold swapCompleteEffect
  try dsimp only
  repeat' first
    | with_reducible exact Frame.refl _ _
    | with_reducible refine (State.swapEnd_frame _ _ _).after (by decide) ?_
    | with_reducible refine Frame.ite ?_ ?_
    | split

theorem reqTailEffect_frame s a1 a2 : Frame [.regs, .dies] s (reqTailEffect s a1 a2) := by
  unfold reqTailEffect
  try dsimp only
  repeat' first
    | with_reducible exact Frame.refl _ _
    | with_reducible refine (State.wr_frame _ _ _ _).after (by decide) ?_
    | with_reducible refine (State.emitLimited_frame _ _ _ _ _ _ _).after (by decide) ?_
    | with_reducible refine Frame.ite ?_ ?_
    | split

theorem resPopEffect_frame s a1 : Frame [.regs, .dies, .host, .srv, .out] s (resPopEffect s a1) := by
  unfold resPopEffect
  try dsimp only
  repeat' first
    | with_reducible exact Frame.refl _ _
    | with_reducible refine (State.send_frame _ _).after (by decide) ?_
    | with_reducible refine (State.sendMsix_frame _ _ _).after (by decide) ?_
    | with_reducible refine (State.wr_frame _ _ _ _).after (by decide) ?_
    | with_reducible refine (State.flushRec_frame _ _).after (by decide) ?_
    | with_reducible refine Frame.ite ?_ ?_
    | split

theorem resPeekEffect_frame s a1 : Frame [.regs, .out] s (resPeekEffect s a1) := by
  unfold resPeekEffect
  try dsimp only
  repeat' first
    | with_reducible exact Frame.refl _ _
    | with_reducible refine (State.send_frame _ _).after (by decide) ?_
    | with_reducible refine (State.sendMsix_frame _ _ _).after (by decide) ?_
    | with_reducible refine (State.wr_frame _ _ _ _).after (by decide) ?_
    | with_reducible refine Frame.ite ?_ ?_
    | split

theorem resHeadEffect_frame s a1 a2 : Frame [.regs, .dies, .host, .srv, .out] s (resHeadEffect s a1 a2) := by
  unfold resHeadEffect
  try dsimp only
  repeat' first
    | with_reducible exact Frame.refl _ _
    | with_reducible refine (State.flushRec_frame _ _).after (by decide) ?_
    | with_reducible refine (State.wr_frame _ _ _ _).after (by decide) ?_
    | with_reducible refine (State.emit_frame _ _ _ _).after (by decide) ?_
    | with_reducible refine (State.refuse_frame _ _).after (by decide) ?_
    | with_reducible refine Frame.ite ?_ ?_
    | split

theorem ringEnableEffect_frame s a1 a2 a3 : Frame [.regs, .dies, .host, .srv, .out] s (ringEnableEffect s a1 a2 a3) := by
  unfold ringEnableEffect
  try dsimp only
  repeat' first
    | with_reducible exact Frame.refl _ _
    | with_reducible refine (State.wrB_frame _ _ _ _).after (by decide) ?_
    | with_reducible refine (State.refuse_frame _ _).after (by decide) ?_
    | with_reducible refine (State.wr_frame _ _ _ _).after (by decide) ?_
    | with_reducible refine (State.flushRec_frame _ _).after (by decide) ?_
    | with_reducible refine (State.modFnx_frame _ _ _).after (by decide) ?_
    | with_reducible refine Frame.ite ?_ ?_
    | split

theorem seqSelEffect_frame s a1 : Frame [.regs] s (seqSelEffect s a1) := by
  unfold seqSelEffect
  try dsimp only
  repeat' first
    | with_reducible exact Frame.refl _ _
    | with_reducible refine (State.wr_frame _ _ _ _).after (by decide) ?_
    | with_reducible refine Frame.foldl (fun _ _ => ?_) _ ?_

theorem State.writeSummary_frame s a1 : Frame [.regs, .dies, .host, .out] s (State.writeSummary s a1) := by
  unfold State.writeSummary
  try dsimp only
  repeat' first
    | with_reducible exact Frame.refl _ _
    | with_reducible refine (State.send_frame _ _).after (by decide) ?_
    | with_reducible refine (State.sendMsix_frame _ _ _).after (by decide) ?_
    | with_reducible refine (State.irq_frame _ _ _).after (by decide) ?_
    | with_reducible refine (State.inc_frame _ _ _ _).after (by decide) ?_
    | with_reducible refine (State.wr_frame _ _ _ _).after (by decide) ?_
    | with_reducible refine (State.hostWrite_frame _ _ _ _ _).after (by decide) ?_
    | with_reducible refine Frame.ite ?_ ?_
    | split

theorem State.putSum_frame s a1 : Frame [.srv] s (State.putSum s a1) := by
  unfold State.putSum
  try dsimp only
  repeat' first
    | with_reducible exact Frame.refl _ _
    | with_reducible refine (State.modSrv_frame _ _).after (by decide) ?_

theorem State.dropSum_frame s a1 : Frame [.srv] s (State.dropSum s a1) := by
  unfold State.dropSum
  try dsimp only
  repeat' first
    | with_reducible exact Frame.refl _ _
    | with_reducible refine (State.modSrv_frame _ _).after (by decide) ?_

theorem stepSumEffect_frame s a1 a2 : Frame [.regs, .cores, .dies, .host, .srv, .out] s (stepSumEffect s a1 a2) := by
  unfold stepSumEffect
  try dsimp only
  repeat' first
    | with_reducible exact Frame.refl _ _
    | with_reducible refine (State.modCore_frame _ _ _).after (by decide) ?_
    | with_reducible refine (State.writeSummary_frame _ _).after (by decide) ?_
    | with_reducible refine (State.dropSum_frame _ _).after (by decide) ?_
    | with_reducible refine (State.putSum_frame _ _).after (by decide) ?_
    | with_reducible refine Frame.ite ?_ ?_
    | split

theorem summaryTimeoutEffect_frame s a1 : Frame [.regs, .dies, .host, .srv, .out] s (summaryTimeoutEffect s a1) := by
  unfold summaryTimeoutEffect
  try dsimp only
  repeat' first
    | with_reducible exact Frame.refl _ _
    | with_reducible refine (State.writeSummary_frame _ _).after (by decide) ?_
    | with_reducible refine (State.dropSum_frame _ _).after (by decide) ?_
    | with_reducible refine Frame.ite ?_ ?_
    | split

end Sys2Proof.Machine
end

