-- ==== Sys2Proof/Laws/FrameTherm.lean ====
section
/-! SUPPORT. The frames of the operations of Machine/Therm.lean. -/

namespace Sys2Proof.Machine

set_option linter.unusedTactic false
set_option linter.unreachableTactic false

theorem State.set_frame s a1 a2 a3 : Frame [.regs] s (State.set s a1 a2 a3) := by
  unfold State.set
  try dsimp only
  repeat' first
    | with_reducible exact Frame.refl _ _
    | with_reducible refine (State.wr_frame _ _ _ _).after (by decide) ?_
    | with_reducible refine Frame.ite ?_ ?_
    | split

theorem State.takeReadings_frame s a1 : Frame [.regs] s (State.takeReadings s a1) := by
  unfold State.takeReadings
  try dsimp only
  repeat' first
    | with_reducible exact Frame.refl _ _
    | with_reducible refine (State.set_frame _ _ _ _).after (by decide) ?_
    | with_reducible refine Frame.ite ?_ ?_
    | with_reducible refine Frame.foldl (fun _ _ => ?_) _ ?_
    | split

theorem State.excludeSensors_frame s a1 a2 : Frame [.regs, .dies, .out] s (State.excludeSensors s a1 a2) := by
  unfold State.excludeSensors
  try dsimp only
  repeat' first
    | with_reducible exact Frame.refl _ _
    | with_reducible refine (State.modDie_frame _ _ _).after (by decide) ?_
    | with_reducible refine (State.irq_frame _ _ _).after (by decide) ?_
    | with_reducible refine (State.emit_frame _ _ _ _).after (by decide) ?_
    | with_reducible refine (State.wr_frame _ _ _ _).after (by decide) ?_
    | with_reducible refine Frame.ite ?_ ?_
    | with_reducible refine Frame.foldl (fun _ _ => ?_) _ ?_
    | split

theorem State.sensorLoss_frame s a1 : Frame [.regs, .dies] s (State.sensorLoss s a1) := by
  unfold State.sensorLoss
  try dsimp only
  repeat' first
    | with_reducible exact Frame.refl _ _
    | with_reducible refine (State.emit_frame _ _ _ _).after (by decide) ?_
    | with_reducible refine (State.wr_frame _ _ _ _).after (by decide) ?_
    | with_reducible refine Frame.ite ?_ ?_
    | split

theorem State.setLevel_frame s a1 a2 a3 : Frame [.regs, .dies, .out] s (State.setLevel s a1 a2 a3) := by
  unfold State.setLevel
  try dsimp only
  repeat' first
    | with_reducible exact Frame.refl _ _
    | with_reducible refine (State.wr_frame _ _ _ _).after (by decide) ?_
    | with_reducible refine (State.irq_frame _ _ _).after (by decide) ?_
    | with_reducible refine (State.emit_frame _ _ _ _).after (by decide) ?_
    | with_reducible refine (State.send_frame _ _).after (by decide) ?_
    | with_reducible refine Frame.ite ?_ ?_
    | split

theorem State.thermDie_frame s a1 : Frame [.regs, .dies, .out] s (State.thermDie s a1) := by
  unfold State.thermDie
  try dsimp only
  repeat' first
    | with_reducible exact Frame.refl _ _
    | with_reducible refine (State.setLevel_frame _ _ _ _).after (by decide) ?_
    | with_reducible refine (State.modDie_frame _ _ _).after (by decide) ?_
    | with_reducible refine (State.set_frame _ _ _ _).after (by decide) ?_
    | with_reducible refine Frame.ite ?_ ?_
    | split

theorem State.powerRound_frame s a1 : Frame [.regs, .dies, .power, .out] s (State.powerRound s a1) := by
  unfold State.powerRound
  try dsimp only
  repeat' first
    | with_reducible exact Frame.refl _ _
    | with_reducible refine (State.set_frame _ _ _ _).after (by decide) ?_
    | with_reducible refine (State.irq_frame _ _ _).after (by decide) ?_
    | with_reducible refine (State.emit_frame _ _ _ _).after (by decide) ?_
    | with_reducible refine Frame.ite ?_ ?_
    | split
    | with_reducible refine (Frame.upd_power _ _).after (by decide) ?_

theorem State.showSteps_frame s : Frame [.regs] s (State.showSteps s) := by
  unfold State.showSteps
  try dsimp only
  repeat' first
    | with_reducible exact Frame.refl _ _
    | with_reducible refine (State.set_frame _ _ _ _).after (by decide) ?_
    | with_reducible refine Frame.foldl (fun _ _ => ?_) _ ?_

theorem State.showBand_frame s a1 a2 : Frame [.regs] s (State.showBand s a1 a2) := by
  unfold State.showBand
  try dsimp only
  repeat' first
    | with_reducible exact Frame.refl _ _
    | with_reducible refine (State.set_frame _ _ _ _).after (by decide) ?_

theorem State.setBand_frame s a1 a2 a3 : Frame [.regs, .dies] s (State.setBand s a1 a2 a3) := by
  unfold State.setBand
  try dsimp only
  repeat' first
    | with_reducible exact Frame.refl _ _
    | with_reducible refine (State.modDie_frame _ _ _).after (by decide) ?_
    | with_reducible refine (State.showBand_frame _ _ _).after (by decide) ?_
    | with_reducible refine Frame.ite ?_ ?_
    | with_reducible refine Frame.foldl (fun _ _ => ?_) _ ?_
    | split

theorem State.bandDie_frame s a1 : Frame [.regs, .dies] s (State.bandDie s a1) := by
  unfold State.bandDie
  try dsimp only
  repeat' first
    | with_reducible exact Frame.refl _ _
    | with_reducible refine (State.setBand_frame _ _ _ _).after (by decide) ?_
    | with_reducible refine Frame.ite ?_ ?_
    | split

theorem State.termsDie_frame s a1 : Frame [.tiles] s (State.termsDie s a1) := by
  unfold State.termsDie
  try dsimp only
  repeat' first
    | with_reducible exact Frame.refl _ _
    | with_reducible refine (State.modTile_frame _ _ _ _ _).after (by decide) ?_
    | with_reducible refine Frame.ite ?_ ?_
    | with_reducible refine Frame.foldl (fun _ _ => ?_) _ ?_
    | split

theorem State.heatDie_frame s a1 : Frame [.dies] s (State.heatDie s a1) := by
  unfold State.heatDie
  try dsimp only
  repeat' first
    | with_reducible exact Frame.refl _ _
    | with_reducible refine (State.modDie_frame _ _ _).after (by decide) ?_
    | split

theorem State.railsDie_frame s a1 a2 : Frame [.dies] s (State.railsDie s a1 a2) := by
  unfold State.railsDie
  try dsimp only
  repeat' first
    | with_reducible exact Frame.refl _ _
    | with_reducible refine (State.emit_frame _ _ _ _).after (by decide) ?_
    | with_reducible refine (State.modDie_frame _ _ _).after (by decide) ?_
    | with_reducible refine Frame.ite ?_ ?_
    | with_reducible refine Frame.foldl (fun _ _ => ?_) _ ?_
    | split

theorem State.trip_frame s a1 a2 : Frame [.regs, .engines, .cores, .dies, .awn, .nvm, .power, .out] s (State.trip s a1 a2) := by
  unfold State.trip
  try dsimp only
  repeat' first
    | with_reducible exact Frame.refl _ _
    | with_reducible refine (State.emit_frame _ _ _ _).after (by decide) ?_
    | with_reducible refine (State.send_frame _ _).after (by decide) ?_
    | with_reducible refine (State.haltAll_frame _).after (by decide) ?_
    | with_reducible refine (Frame.upd_nvm_power _ _ _ ).after (by decide) ?_
    | with_reducible refine (Frame.upd_nvm _ _).after (by decide) ?_
    | with_reducible refine (Frame.upd_power _ _).after (by decide) ?_

theorem State.startStop_frame s : Frame [.regs, .srv, .power] s (State.startStop s) := by
  unfold State.startStop
  try dsimp only
  repeat' first
    | with_reducible exact Frame.refl _ _
    | with_reducible refine (State.modSrv_frame _ _).after (by decide) ?_
    | with_reducible refine (State.wr_frame _ _ _ _).after (by decide) ?_
    | with_reducible refine (Frame.upd_power _ _).after (by decide) ?_

theorem State.stopRound_frame s : Frame [.regs, .engines, .cores, .dies, .srv, .awn, .nvm, .power, .out] s (State.stopRound s) := by
  unfold State.stopRound
  try dsimp only
  repeat' first
    | with_reducible exact Frame.refl _ _
    | with_reducible refine (State.trip_frame _ _ _).after (by decide) ?_
    | with_reducible refine (State.startStop_frame _).after (by decide) ?_
    | with_reducible refine Frame.ite ?_ ?_
    | split
    | with_reducible refine (Frame.upd_power _ _).after (by decide) ?_

theorem State.startConv_frame s a1 a2 a3 : Frame [.dies] s (State.startConv s a1 a2 a3) := by
  unfold State.startConv
  try dsimp only
  repeat' first
    | with_reducible exact Frame.refl _ _
    | with_reducible refine (State.modDie_frame _ _ _).after (by decide) ?_

theorem State.nextConversion_frame s a1 : Frame [.dies] s (State.nextConversion s a1) := by
  unfold State.nextConversion
  try dsimp only
  repeat' first
    | with_reducible exact Frame.refl _ _
    | with_reducible refine (State.startConv_frame _ _ _ _).after (by decide) ?_
    | with_reducible refine (State.modDie_frame _ _ _).after (by decide) ?_
    | with_reducible refine Frame.ite ?_ ?_
    | split

theorem hkTriggerEffect_frame s : Frame [.dies, .power] s (hkTriggerEffect s) := by
  unfold hkTriggerEffect
  try dsimp only
  repeat' first
    | with_reducible exact Frame.refl _ _
    | with_reducible refine (State.nextConversion_frame _ _).after (by decide) ?_
    | with_reducible refine (State.modDie_frame _ _ _).after (by decide) ?_
    | with_reducible refine Frame.ite ?_ ?_
    | with_reducible refine Frame.foldl (fun _ _ => ?_) _ ?_
    | split
    | with_reducible refine (Frame.upd_power _ _).after (by decide) ?_

theorem hkDecisionEffect_frame s a1 : Frame [.regs, .tiles, .engines, .cores, .dies, .srv, .awn, .nvm, .power, .out] s (hkDecisionEffect s a1) := by
  unfold hkDecisionEffect
  try dsimp only
  repeat' first
    | with_reducible exact Frame.refl _ _
    | with_reducible refine (State.takeReadings_frame _ _).after (by decide) ?_
    | with_reducible refine (State.bandDie_frame _ _).after (by decide) ?_
    | with_reducible refine (State.thermDie_frame _ _).after (by decide) ?_
    | with_reducible refine (State.sensorLoss_frame _ _).after (by decide) ?_
    | with_reducible refine (State.excludeSensors_frame _ _ _).after (by decide) ?_
    | with_reducible refine (State.showSteps_frame _).after (by decide) ?_
    | with_reducible refine (State.powerRound_frame _ _).after (by decide) ?_
    | with_reducible refine (State.inc_frame _ _ _ _).after (by decide) ?_
    | with_reducible refine (State.railsDie_frame _ _ _).after (by decide) ?_
    | with_reducible refine (State.heatDie_frame _ _).after (by decide) ?_
    | with_reducible refine (State.termsDie_frame _ _).after (by decide) ?_
    | with_reducible refine (State.stopRound_frame _).after (by decide) ?_
    | with_reducible refine Frame.ite ?_ ?_
    | with_reducible refine Frame.foldl (fun _ _ => ?_) _ ?_
    | split

theorem orderlyDrainEffect_frame s : Frame [.regs, .cores, .dies, .dev, .host, .pages, .srv, .awn, .power, .out] s (orderlyDrainEffect s) := by
  unfold orderlyDrainEffect
  try dsimp only
  repeat' first
    | with_reducible exact Frame.refl _ _
    | with_reducible refine (State.abortStep_frame _ _ _).after (by decide) ?_
    | with_reducible refine Frame.ite ?_ ?_
    | with_reducible refine Frame.foldl (fun _ _ => ?_) _ ?_
    | split
    | with_reducible refine (Frame.upd_power _ _).after (by decide) ?_

theorem State.flushDieN_frame a0 s a2 : Frame [.regs, .dies, .flt] s (State.flushDieN a0 s a2) := by
  induction a0 generalizing s with
  | zero => exact Frame.refl _ _
  | succ n ih =>
    unfold State.flushDieN
    try dsimp only
    repeat' first
      | with_reducible exact Frame.refl _ _
      | with_reducible refine (State.forwardOldest_frame _ _).after (by decide) ?_
      | with_reducible refine (State.collectFirst_frame _ _ _).after (by decide) ?_
      | with_reducible refine Frame.ite ?_ ?_
      | split
      | with_reducible refine (ih _).after (by decide) ?_

theorem State.flushLogN_frame a0 s : Frame [.regs, .tiles, .engines, .cores, .dies, .hbms, .dev, .host, .pages, .srv, .ingest, .awn, .flt, .nvm, .power, .out] s (State.flushLogN a0 s) := by
  induction a0 generalizing s with
  | zero => exact Frame.refl _ _
  | succ n ih =>
    unfold State.flushLogN
    try dsimp only
    repeat' first
      | with_reducible exact Frame.refl _ _
      | with_reducible refine (faultLogEffect_frame _).after (by decide) ?_
      | with_reducible refine Frame.ite ?_ ?_
      | split
      | with_reducible refine (ih _).after (by decide) ?_

theorem State.flushFaults_frame s : Frame [.regs, .tiles, .engines, .cores, .dies, .hbms, .dev, .host, .pages, .srv, .ingest, .awn, .flt, .nvm, .power, .out] s (State.flushFaults s) := by
  unfold State.flushFaults
  try dsimp only
  repeat' first
    | with_reducible exact Frame.refl _ _
    | with_reducible refine (State.flushDieN_frame _ _ _).after (by decide) ?_
    | with_reducible refine (State.flushLogN_frame _ _).after (by decide) ?_
    | with_reducible refine Frame.foldl (fun _ _ => ?_) _ ?_

theorem orderlyFlushEffect_frame s : Frame [.regs, .tiles, .engines, .cores, .dies, .hbms, .dev, .host, .pages, .srv, .ingest, .awn, .flt, .nvm, .power, .out] s (orderlyFlushEffect s) := by
  unfold orderlyFlushEffect
  try dsimp only
  repeat' first
    | with_reducible exact Frame.refl _ _
    | with_reducible refine (State.flushRec_frame _ _).after (by decide) ?_
    | with_reducible refine (State.flushFaults_frame _).after (by decide) ?_
    | with_reducible refine (State.trip_frame _ _ _).after (by decide) ?_
    | with_reducible refine Frame.ite ?_ ?_
    | with_reducible refine Frame.foldl (fun _ _ => ?_) _ ?_
    | split

theorem State.putResult_frame s a1 a2 : Frame [.regs, .dev] s (State.putResult s a1 a2) := by
  unfold State.putResult
  try dsimp only
  repeat' first
    | with_reducible exact Frame.refl _ _
    | with_reducible refine (State.inc_frame _ _ _ _).after (by decide) ?_
    | with_reducible refine (State.wr_frame _ _ _ _).after (by decide) ?_
    | with_reducible refine (State.devWrite_frame _ _ _ _).after (by decide) ?_
    | with_reducible refine Frame.ite ?_ ?_
    | split

theorem hkadcEndEffect_frame s a1 a2 : Frame [.regs, .dies, .dev] s (hkadcEndEffect s a1 a2) := by
  unfold hkadcEndEffect
  try dsimp only
  repeat' first
    | with_reducible exact Frame.refl _ _
    | with_reducible refine (State.inc_frame _ _ _ _).after (by decide) ?_
    | with_reducible refine (State.wr_frame _ _ _ _).after (by decide) ?_
    | with_reducible refine (State.wrB_frame _ _ _ _).after (by decide) ?_
    | with_reducible refine (State.modDie_frame _ _ _).after (by decide) ?_
    | with_reducible refine (State.emit_frame _ _ _ _).after (by decide) ?_
    | with_reducible refine (State.putResult_frame _ _ _).after (by decide) ?_
    | with_reducible refine (State.nextConversion_frame _ _).after (by decide) ?_
    | with_reducible refine Frame.ite ?_ ?_
    | split

theorem State.swTrigger_frame s a1 : Frame [.regs, .dies] s (State.swTrigger s a1) := by
  unfold State.swTrigger
  try dsimp only
  repeat' first
    | with_reducible exact Frame.refl _ _
    | with_reducible refine (State.modDie_frame _ _ _).after (by decide) ?_
    | with_reducible refine (State.startConv_frame _ _ _ _).after (by decide) ?_
    | with_reducible refine (State.inc_frame _ _ _ _).after (by decide) ?_
    | with_reducible refine Frame.ite ?_ ?_
    | split

theorem hkadcTrigEffect_frame s a1 : Frame [.regs, .dies] s (hkadcTrigEffect s a1) := by
  unfold hkadcTrigEffect
  try dsimp only
  repeat' first
    | with_reducible exact Frame.refl _ _
    | with_reducible refine (State.swTrigger_frame _ _).after (by decide) ?_
    | with_reducible refine (State.refuse_frame _ _).after (by decide) ?_
    | with_reducible refine Frame.ite ?_ ?_
    | with_reducible refine Frame.foldl (fun _ _ => ?_) _ ?_
    | split

end Sys2Proof.Machine
end

