-- ==== Sys2Proof/Laws/FrameMigrate.lean ====
section
/-! SUPPORT. The frames of the operations of Machine/Migrate.lean. -/

namespace Sys2Proof.Machine

set_option linter.unusedTactic false
set_option linter.unreachableTactic false

theorem migReqEffect_frame s a1 : Frame [.regs, .tiles, .engines, .cores, .dies, .hbms, .dev, .host, .cstore, .pages, .srv, .ingest, .awn, .flt, .nvm, .out] s (migReqEffect s a1) := by
  unfold migReqEffect
  try dsimp only
  repeat' first
    | with_reducible exact Frame.refl _ _
    | with_reducible refine (State.wr_frame _ _ _ _).after (by decide) ?_
    | with_reducible refine (State.triggerMig_frame _ _ _ _).after (by decide) ?_
    | with_reducible refine Frame.ite ?_ ?_
    | split

theorem State.countAccs_frame s a1 a2 : Frame [.regs] s (State.countAccs s a1 a2) := by
  unfold State.countAccs
  try dsimp only
  repeat' first
    | with_reducible exact Frame.refl _ _
    | with_reducible refine (State.inc_frame _ _ _ _).after (by decide) ?_
    | with_reducible refine Frame.foldl (fun _ _ => ?_) _ ?_

theorem migStartEffect_frame s a1 : Frame [.regs, .tiles, .engines, .cores, .dies, .hbms, .dev, .host, .pages, .srv, .ingest, .flt, .nvm, .out] s (migStartEffect s a1) := by
  unfold migStartEffect
  try dsimp only
  repeat' first
    | with_reducible exact Frame.refl _ _
    | with_reducible refine (State.advanceMigs_frame _).after (by decide) ?_
    | with_reducible refine (State.noTarget_frame _ _).after (by decide) ?_
    | with_reducible refine (State.showMover_frame _ _).after (by decide) ?_
    | with_reducible refine (State.showMig_frame _ _).after (by decide) ?_
    | with_reducible refine (State.modMig_frame _ _ _).after (by decide) ?_
    | with_reducible refine (State.countAccs_frame _ _ _).after (by decide) ?_
    | with_reducible refine (State.takeTarget_frame _ _).after (by decide) ?_
    | with_reducible refine Frame.ite ?_ ?_
    | split

theorem State.moveCs_frame s a1 a2 : Frame [.cstore] s (State.moveCs s a1 a2) := by
  unfold State.moveCs
  try dsimp only
  repeat' first
    | with_reducible exact Frame.refl _ _
    | with_reducible refine (Frame.cstore_wf _ _ ?_).after (by decide) ?_
    | intro _
    | with_reducible assumption
    | with_reducible refine Store.put_wf _ _ _ ?_
    | with_reducible refine Store.lines2_wf _ _ ?_
    | with_reducible refine Store.markWords_wf _ _ ?_
    | with_reducible refine Store.copyFrom_wf _ _ _ _ ?_
    | with_reducible refine Store.setChk_wf _ _ ?_
    | with_reducible refine Store.putWord_wf _ _ _ ?_
    | with_reducible refine Store.repair_wf _ ?_
    | with_reducible refine Store.zero_wf _ _ ?_
    | with_reducible refine Store.moveRange_wf _ _ _ ?_

theorem State.moveTiller_frame s a1 a2 : Frame [.tsram] s (State.moveTiller s a1 a2) := by
  unfold State.moveTiller
  try dsimp only
  repeat' first
    | with_reducible exact Frame.refl _ _
    | with_reducible refine (Frame.tsram_wf _ _ ?_).after (by decide) ?_
    | intro _
    | with_reducible assumption
    | with_reducible refine Store.put_wf _ _ _ ?_
    | with_reducible refine Store.lines2_wf _ _ ?_
    | with_reducible refine Store.markWords_wf _ _ ?_
    | with_reducible refine Store.copyFrom_wf _ _ _ _ ?_
    | with_reducible refine Store.setChk_wf _ _ ?_
    | with_reducible refine Store.putWord_wf _ _ _ ?_
    | with_reducible refine Store.repair_wf _ ?_
    | with_reducible refine Store.zero_wf _ _ ?_
    | with_reducible refine Store.moveRange_wf _ _ _ ?_

theorem migCopyEffect_frame s a1 : Frame [.regs, .engines, .cstore, .tsram, .flt, .out] s (migCopyEffect s a1) := by
  unfold migCopyEffect
  try dsimp only
  repeat' first
    | with_reducible exact Frame.refl _ _
    | with_reducible refine (State.moveTiller_frame _ _ _).after (by decide) ?_
    | with_reducible refine (State.moveCs_frame _ _ _).after (by decide) ?_
    | with_reducible refine (State.modEng_frame _ _ _ _).after (by decide) ?_
    | with_reducible refine (State.showMover_frame _ _).after (by decide) ?_
    | with_reducible refine (State.modMig_frame _ _ _).after (by decide) ?_
    | with_reducible refine (State.inc_frame _ _ _ _).after (by decide) ?_
    | with_reducible refine (State.irq_frame _ _ _).after (by decide) ?_
    | with_reducible refine Frame.ite ?_ ?_
    | with_reducible refine Frame.foldl (fun _ _ => ?_) _ ?_
    | split

theorem State.copyFlds_frame s a1 a2 a3 : Frame [.regs] s (State.copyFlds s a1 a2 a3) := by
  unfold State.copyFlds
  try dsimp only
  repeat' first
    | with_reducible exact Frame.refl _ _
    | with_reducible refine (State.wr_frame _ _ _ _).after (by decide) ?_
    | with_reducible refine Frame.foldl (fun _ _ => ?_) _ ?_

theorem State.moveBank_frame s a1 a2 a3 a4 a5 a6 : Frame [.regs, .tiles, .dies] s (State.moveBank s a1 a2 a3 a4 a5 a6) := by
  unfold State.moveBank
  try dsimp only
  repeat' first
    | with_reducible exact Frame.refl _ _
    | with_reducible refine (State.emptyBank_frame _ _ _ _ _).after (by decide) ?_
    | with_reducible refine (State.beginWrite_frame _ _ _ _ _ _ _ _ _ _ _).after (by decide) ?_
    | with_reducible refine (State.wrB_frame _ _ _ _).after (by decide) ?_
    | with_reducible refine (State.endWrite_frame _ _ _ _ _ _ _ _).after (by decide) ?_
    | with_reducible refine (State.emit_frame _ _ _ _).after (by decide) ?_
    | with_reducible refine Frame.ite ?_ ?_
    | split
    | with_reducible refine Frame.of_pair (by assumption) ?_

theorem State.moveTile_frame s a1 a2 a3 a4 a5 : Frame [.regs, .tiles, .dies] s (State.moveTile s a1 a2 a3 a4 a5) := by
  unfold State.moveTile
  try dsimp only
  repeat' first
    | with_reducible exact Frame.refl _ _
    | with_reducible refine (State.wr_frame _ _ _ _).after (by decide) ?_
    | with_reducible refine (State.copyFlds_frame _ _ _ _).after (by decide) ?_
    | with_reducible refine (State.moveBank_frame _ _ _ _ _ _ _).after (by decide) ?_

theorem State.moveEngine_frame s a1 a2 a3 : Frame [.regs, .tiles, .engines, .dies] s (State.moveEngine s a1 a2 a3) := by
  unfold State.moveEngine
  try dsimp only
  repeat' first
    | with_reducible exact Frame.refl _ _
    | with_reducible refine (State.copyFlds_frame _ _ _ _).after (by decide) ?_
    | with_reducible refine (State.showBand_frame _ _ _).after (by decide) ?_
    | with_reducible refine (State.modEng_frame _ _ _ _).after (by decide) ?_
    | with_reducible refine (State.moveTile_frame _ _ _ _ _ _).after (by decide) ?_
    | with_reducible refine Frame.ite ?_ ?_
    | with_reducible refine Frame.foldl (fun _ _ => ?_) _ ?_
    | split

theorem State.moveCore_frame s a1 a2 : Frame [.regs, .tiles, .engines, .dies, .cstore] s (State.moveCore s a1 a2) := by
  unfold State.moveCore
  try dsimp only
  repeat' first
    | with_reducible exact Frame.refl _ _
    | with_reducible refine (State.moveCs_frame _ _ _).after (by decide) ?_
    | with_reducible refine (State.copyFlds_frame _ _ _ _).after (by decide) ?_
    | with_reducible refine (State.moveEngine_frame _ _ _ _).after (by decide) ?_
    | with_reducible refine (State.modTile_frame _ _ _ _ _).after (by decide) ?_
    | with_reducible refine (State.countAccs_frame _ _ _).after (by decide) ?_
    | with_reducible refine Frame.foldl (fun _ _ => ?_) _ ?_

theorem State.redirectSteps_frame s a1 a2 : Frame [.srv] s (State.redirectSteps s a1 a2) := by
  unfold State.redirectSteps
  try dsimp only
  repeat' first
    | with_reducible exact Frame.refl _ _
    | with_reducible refine (State.modSrv_frame _ _).after (by decide) ?_
    | with_reducible refine Frame.ite ?_ ?_
    | split

theorem State.startTest_frame s a1 : Frame [.cores, .flt] s (State.startTest s a1) := by
  unfold State.startTest
  try dsimp only
  repeat' first
    | with_reducible exact Frame.refl _ _
    | with_reducible refine (State.modCore_frame _ _ _).after (by decide) ?_
    | with_reducible refine Frame.ite ?_ ?_
    | split
    | with_reducible refine (Frame.upd_flt _ _).after (by decide) ?_

theorem State.vacate_frame s a1 : Frame [.regs, .tiles, .engines, .cores, .dies, .cstore, .awn, .flt, .nvm, .out] s (State.vacate s a1) := by
  unfold State.vacate
  try dsimp only
  repeat' first
    | with_reducible exact Frame.refl _ _
    | with_reducible refine (State.emptyCore_frame _ _).after (by decide) ?_
    | with_reducible refine (State.startTest_frame _ _).after (by decide) ?_
    | with_reducible refine (State.retireCore_frame _ _).after (by decide) ?_
    | with_reducible refine (State.holdReset_frame _ _ _).after (by decide) ?_
    | with_reducible refine (State.modCore_frame _ _ _).after (by decide) ?_
    | with_reducible refine (State.resetCore_frame _ _ _).after (by decide) ?_
    | with_reducible refine Frame.ite ?_ ?_
    | split

theorem State.endMig_frame s a1 : Frame [.regs, .tiles, .engines, .cores, .dies, .hbms, .dev, .host, .cstore, .pages, .srv, .ingest, .awn, .flt, .nvm, .out] s (State.endMig s a1) := by
  unfold State.endMig
  try dsimp only
  repeat' first
    | with_reducible exact Frame.refl _ _
    | with_reducible refine (State.dropMig_frame _ _).after (by decide) ?_
    | with_reducible refine (State.wr_frame _ _ _ _).after (by decide) ?_
    | with_reducible refine (State.emit_frame _ _ _ _).after (by decide) ?_
    | with_reducible refine (State.vacate_frame _ _).after (by decide) ?_
    | with_reducible refine (State.redirectSteps_frame _ _ _).after (by decide) ?_
    | with_reducible refine (State.showMig_frame _ _).after (by decide) ?_
    | with_reducible refine (State.inc_frame _ _ _ _).after (by decide) ?_
    | with_reducible refine (State.sendUnsent_frame _).after (by decide) ?_
    | with_reducible refine (State.advanceMigs_frame _).after (by decide) ?_
    | with_reducible refine (State.irq_frame _ _ _).after (by decide) ?_
    | with_reducible refine Frame.ite ?_ ?_
    | split
    | with_reducible refine (Frame.upd_nvm _ _).after (by decide) ?_

theorem migBanksEffect_frame s a1 : Frame [.regs, .tiles, .engines, .cores, .dies, .hbms, .dev, .host, .cstore, .pages, .srv, .ingest, .awn, .flt, .nvm, .out] s (migBanksEffect s a1) := by
  unfold migBanksEffect
  try dsimp only
  repeat' first
    | with_reducible exact Frame.refl _ _
    | with_reducible refine (State.endMig_frame _ _).after (by decide) ?_
    | with_reducible refine (State.moveCore_frame _ _ _).after (by decide) ?_
    | with_reducible refine Frame.ite ?_ ?_
    | split

theorem rebuildEndEffect_frame s a1 : Frame [.regs, .tiles, .engines, .cores, .dies, .hbms, .dev, .host, .cstore, .pages, .srv, .ingest, .awn, .flt, .nvm, .out] s (rebuildEndEffect s a1) := by
  unfold rebuildEndEffect
  try dsimp only
  repeat' first
    | with_reducible exact Frame.refl _ _
    | with_reducible refine (State.endMig_frame _ _).after (by decide) ?_
    | with_reducible refine Frame.ite ?_ ?_
    | split

theorem coreRedirEffect_frame s a1 a2 : Frame [.regs] s (coreRedirEffect s a1 a2) := by
  unfold coreRedirEffect
  try dsimp only
  repeat' first
    | with_reducible exact Frame.refl _ _
    | with_reducible refine (State.refuse_frame _ _).after (by decide) ?_
    | with_reducible refine (State.wr_frame _ _ _ _).after (by decide) ?_
    | with_reducible refine (State.wrB_frame _ _ _ _).after (by decide) ?_
    | with_reducible refine Frame.ite ?_ ?_
    | split

theorem State.moveForTest_frame s a1 : Frame [.regs, .tiles, .engines, .cores, .dies, .hbms, .dev, .host, .cstore, .pages, .srv, .ingest, .awn, .flt, .nvm, .out] s (State.moveForTest s a1) := by
  unfold State.moveForTest
  try dsimp only
  repeat' first
    | with_reducible exact Frame.refl _ _
    | with_reducible refine (State.triggerMig_frame _ _ _ _).after (by decide) ?_
    | with_reducible refine (State.emit_frame _ _ _ _).after (by decide) ?_
    | with_reducible refine (State.modCore_frame _ _ _).after (by decide) ?_

theorem testDueEffect_frame s a1 : Frame [.regs, .tiles, .engines, .cores, .dies, .hbms, .dev, .host, .cstore, .pages, .srv, .ingest, .awn, .flt, .nvm, .out] s (testDueEffect s a1) := by
  unfold testDueEffect
  try dsimp only
  repeat' first
    | with_reducible exact Frame.refl _ _
    | with_reducible refine (State.startTest_frame _ _).after (by decide) ?_
    | with_reducible refine (State.moveForTest_frame _ _).after (by decide) ?_
    | with_reducible refine (State.modCore_frame _ _ _).after (by decide) ?_
    | with_reducible refine Frame.ite ?_ ?_
    | split

theorem testDeferEffect_frame s a1 : Frame [.regs, .tiles, .engines, .cores, .dies, .hbms, .dev, .host, .cstore, .pages, .srv, .ingest, .awn, .flt, .nvm, .out] s (testDeferEffect s a1) := by
  unfold testDeferEffect
  try dsimp only
  repeat' first
    | with_reducible exact Frame.refl _ _
    | with_reducible refine (State.moveForTest_frame _ _).after (by decide) ?_
    | with_reducible refine (State.startTest_frame _ _).after (by decide) ?_
    | with_reducible refine Frame.ite ?_ ?_
    | split

theorem State.testTile_frame s a1 a2 a3 a4 : Frame [.regs, .tiles, .dies, .flt, .out] s (State.testTile s a1 a2 a3 a4) := by
  unfold State.testTile
  try dsimp only
  repeat' first
    | with_reducible exact Frame.refl _ _
    | with_reducible refine (State.remapFailed_frame _ _ _ _ _).after (by decide) ?_
    | with_reducible refine (State.irq_frame _ _ _).after (by decide) ?_
    | with_reducible refine (State.emit_frame _ _ _ _).after (by decide) ?_
    | with_reducible refine (State.retireTile_frame _ _ _ _ _).after (by decide) ?_
    | with_reducible refine Frame.ite ?_ ?_
    | split
    | with_reducible refine Frame.of_pair (by assumption) ?_

theorem State.replaceCore_frame s a1 : Frame [.regs, .tiles, .engines, .dies, .flt, .nvm, .out] s (State.replaceCore s a1) := by
  unfold State.replaceCore
  try dsimp only
  repeat' first
    | with_reducible exact Frame.refl _ _
    | with_reducible refine (State.wr_frame _ _ _ _).after (by decide) ?_
    | with_reducible refine (State.takeTarget_frame _ _).after (by decide) ?_
    | split
    | with_reducible refine (Frame.upd_nvm _ _).after (by decide) ?_

theorem testDoneEffect_frame s a1 a2 a3 : Frame [.regs, .tiles, .engines, .cores, .dies, .flt, .nvm, .out] s (testDoneEffect s a1 a2 a3) := by
  unfold testDoneEffect
  try dsimp only
  repeat' first
    | with_reducible exact Frame.refl _ _
    | with_reducible refine (State.testTile_frame _ _ _ _ _).after (by decide) ?_
    | with_reducible refine (State.emptyCore_frame _ _).after (by decide) ?_
    | with_reducible refine (State.modCore_frame _ _ _).after (by decide) ?_
    | with_reducible refine (State.inc_frame _ _ _ _).after (by decide) ?_
    | with_reducible refine (State.replaceCore_frame _ _).after (by decide) ?_
    | with_reducible refine (State.irq_frame _ _ _).after (by decide) ?_
    | with_reducible refine (State.emit_frame _ _ _ _).after (by decide) ?_
    | with_reducible refine (State.retireCore_frame _ _).after (by decide) ?_
    | with_reducible refine (State.standTiles_frame _ _).after (by decide) ?_
    | with_reducible refine (State.addPool_frame _ _).after (by decide) ?_
    | with_reducible refine Frame.ite ?_ ?_
    | with_reducible refine Frame.foldl (fun _ _ => ?_) _ ?_
    | split
    | with_reducible refine (Frame.upd_flt _ _).after (by decide) ?_

end Sys2Proof.Machine
end

