-- ==== Sys2Proof/Laws/FrameSecurity.lean ====
section
/-! SUPPORT. The frames of the operations of Machine/Security.lean. -/

namespace Sys2Proof.Machine

set_option linter.unusedTactic false
set_option linter.unreachableTactic false

theorem State.setMeas_frame s a1 a2 : Frame [.sec] s (State.setMeas s a1 a2) := by
  unfold State.setMeas
  try dsimp only
  repeat' first
    | with_reducible exact Frame.refl _ _
    | with_reducible refine (Frame.upd_sec _ _).after (by decide) ?_

theorem State.meas5_frame s : Frame [.sec] s (State.meas5 s) := by
  unfold State.meas5
  try dsimp only
  repeat' first
    | with_reducible exact Frame.refl _ _
    | with_reducible refine (State.setMeas_frame _ _ _).after (by decide) ?_

theorem State.meas6_frame s : Frame [.sec] s (State.meas6 s) := by
  unfold State.meas6
  try dsimp only
  repeat' first
    | with_reducible exact Frame.refl _ _
    | with_reducible refine (State.setMeas_frame _ _ _).after (by decide) ?_

theorem State.meas7_frame s : Frame [.sec] s (State.meas7 s) := by
  unfold State.meas7
  try dsimp only
  repeat' first
    | with_reducible exact Frame.refl _ _
    | with_reducible refine (State.setMeas_frame _ _ _).after (by decide) ?_

theorem State.meas8_frame s : Frame [.sec] s (State.meas8 s) := by
  unfold State.meas8
  try dsimp only
  repeat' first
    | with_reducible exact Frame.refl _ _
    | with_reducible refine (State.setMeas_frame _ _ _).after (by decide) ?_

theorem State.newNonce_frame s : Frame [.regs, .sec] s (State.newNonce s) := by
  unfold State.newNonce
  try dsimp only
  repeat' first
    | with_reducible exact Frame.refl _ _
    | with_reducible refine (State.wr_frame _ _ _ _).after (by decide) ?_
    | with_reducible refine Frame.foldl (fun _ _ => ?_) _ ?_
    | with_reducible refine (Frame.upd_sec _ _).after (by decide) ?_

theorem State.rejectRec_frame s a1 a2 : Frame [.regs, .dies, .sec] s (State.rejectRec s a1 a2) := by
  unfold State.rejectRec
  try dsimp only
  repeat' first
    | with_reducible exact Frame.refl _ _
    | with_reducible refine (State.inc_frame _ _ _ _).after (by decide) ?_
    | with_reducible refine (State.wr_frame _ _ _ _).after (by decide) ?_
    | with_reducible refine (State.emit_frame _ _ _ _).after (by decide) ?_
    | with_reducible refine (State.newNonce_frame _).after (by decide) ?_
    | with_reducible refine Frame.ite ?_ ?_
    | split

theorem cfgCommitEffect_frame s a1 : Frame [.regs, .dies, .hbms, .sec, .out] s (cfgCommitEffect s a1) := by
  unfold cfgCommitEffect
  try dsimp only
  repeat' first
    | with_reducible exact Frame.refl _ _
    | with_reducible refine (State.send_frame _ _).after (by decide) ?_
    | with_reducible refine (State.rejectRec_frame _ _ _).after (by decide) ?_
    | with_reducible refine (State.touch_frame _ _ _).after (by decide) ?_
    | with_reducible refine (State.wr_frame _ _ _ _).after (by decide) ?_
    | with_reducible refine Frame.ite ?_ ?_
    | split
    | with_reducible refine (Frame.upd_sec _ _).after (by decide) ?_

theorem State.putMasked_frame s a1 a2 a3 a4 a5 : Frame [.regs] s (State.putMasked s a1 a2 a3 a4 a5) := by
  unfold State.putMasked
  try dsimp only
  repeat' first
    | with_reducible exact Frame.refl _ _
    | with_reducible refine (State.set_frame _ _ _ _).after (by decide) ?_
    | with_reducible refine Frame.ite ?_ ?_
    | with_reducible refine Frame.foldl (fun _ _ => ?_) _ ?_
    | split

theorem State.applyItem_frame s a1 : Frame [.regs] s (State.applyItem s a1) := by
  unfold State.applyItem
  try dsimp only
  repeat' first
    | with_reducible exact Frame.refl _ _
    | with_reducible refine (State.putMasked_frame _ _ _ _ _ _).after (by decide) ?_
    | with_reducible refine Frame.foldl (fun _ _ => ?_) _ ?_
    | split

theorem State.showFrac_frame s a1 : Frame [.regs] s (State.showFrac s a1) := by
  unfold State.showFrac
  try dsimp only
  repeat' first
    | with_reducible exact Frame.refl _ _
    | with_reducible refine (State.set_frame _ _ _ _).after (by decide) ?_

theorem State.showKeys_frame s : Frame [.regs] s (State.showKeys s) := by
  unfold State.showKeys
  try dsimp only
  repeat' first
    | with_reducible exact Frame.refl _ _
    | with_reducible refine (State.wr_frame _ _ _ _).after (by decide) ?_
    | with_reducible refine Frame.ite ?_ ?_
    | with_reducible refine Frame.foldl (fun _ _ => ?_) _ ?_
    | split

theorem State.saveProt_frame s : Frame [.sec] s (State.saveProt s) := by
  unfold State.saveProt
  try dsimp only
  repeat' first
    | with_reducible exact Frame.refl _ _
    | with_reducible refine Frame.ite ?_ ?_
    | split
    | with_reducible refine (Frame.upd_sec _ _).after (by decide) ?_

theorem State.closeRemapped_frame s a1 : Frame [.regs, .cores, .dies, .dev, .host, .pages, .srv, .out] s (State.closeRemapped s a1).1 := by
  unfold State.closeRemapped
  try dsimp only
  repeat' first
    | with_reducible exact Frame.refl _ _
    | with_reducible refine (State.closeFn_frame _ _).after (by decide) ?_
    | with_reducible refine Frame.ite ?_ ?_
    | with_reducible refine Frame.foldl (fun _ _ => ?_) _ ?_
    | with_reducible refine Frame.foldl_pair (fun _ _ => ?_) _ ?_
    | with_reducible refine Frame.ite_pair ?_ ?_
    | split
    | with_reducible refine Frame.of_pair (by assumption) ?_

theorem State.debugChange_frame s a1 : Frame [.regs, .dies, .sec] s (State.debugChange s a1) := by
  unfold State.debugChange
  try dsimp only
  repeat' first
    | with_reducible exact Frame.refl _ _
    | with_reducible refine (State.meas7_frame _).after (by decide) ?_
    | with_reducible refine (State.wr_frame _ _ _ _).after (by decide) ?_
    | with_reducible refine (State.emit_frame _ _ _ _).after (by decide) ?_
    | with_reducible refine Frame.ite ?_ ?_
    | split

theorem cfgApplyEffect_frame s : Frame [.regs, .cores, .dies, .dev, .host, .pages, .srv, .sec, .out] s (cfgApplyEffect s) := by
  unfold cfgApplyEffect
  try dsimp only
  repeat' first
    | with_reducible exact Frame.refl _ _
    | with_reducible refine (State.applyItem_frame _ _).after (by decide) ?_
    | with_reducible refine (State.showKeys_frame _).after (by decide) ?_
    | with_reducible refine (State.closeRemapped_frame _ _).after (by decide) ?_
    | with_reducible refine (State.showFrac_frame _ _).after (by decide) ?_
    | with_reducible refine (State.debugChange_frame _ _).after (by decide) ?_
    | with_reducible refine (State.newNonce_frame _).after (by decide) ?_
    | with_reducible refine (State.saveProt_frame _).after (by decide) ?_
    | with_reducible refine (State.meas8_frame _).after (by decide) ?_
    | with_reducible refine (State.meas6_frame _).after (by decide) ?_
    | with_reducible refine (State.meas5_frame _).after (by decide) ?_
    | with_reducible refine (State.wr_frame _ _ _ _).after (by decide) ?_
    | with_reducible refine (State.emitRep_frame _ _ _ _ _).after (by decide) ?_
    | with_reducible refine Frame.ite ?_ ?_
    | with_reducible refine Frame.foldl (fun _ _ => ?_) _ ?_
    | split
    | with_reducible refine Frame.of_pair (by assumption) ?_
    | with_reducible refine (Frame.upd_sec _ _).after (by decide) ?_

theorem fwSlotEffect_frame s a1 : Frame [.regs, .sec] s (fwSlotEffect s a1) := by
  unfold fwSlotEffect
  try dsimp only
  repeat' first
    | with_reducible exact Frame.refl _ _
    | with_reducible refine (State.meas5_frame _).after (by decide) ?_
    | with_reducible refine (State.wr_frame _ _ _ _).after (by decide) ?_
    | with_reducible refine Frame.ite ?_ ?_
    | split
    | with_reducible refine (Frame.upd_sec _ _).after (by decide) ?_

end Sys2Proof.Machine
end

