-- ==== Sys2Proof/Laws/FramePower.lean ====
section
/-! SUPPORT. The frames of the operations of Machine/Power.lean. -/

namespace Sys2Proof.Machine

set_option linter.unusedTactic false
set_option linter.unreachableTactic false

theorem State.showClocks_frame s a1 a2 a3 a4 : Frame [.regs] s (State.showClocks s a1 a2 a3 a4) := by
  unfold State.showClocks
  try dsimp only
  repeat' first
    | with_reducible exact Frame.refl _ _
    | with_reducible refine (State.wr_frame _ _ _ _).after (by decide) ?_
    | with_reducible refine Frame.ite ?_ ?_
    | split

theorem State.wipe_frame s a1 a2 : Frame [.sclk0, .regs, .tiles, .engines, .cores, .dies, .hbms, .ports, .rcopies, .pages, .srv, .ingest, .awn, .flt, .nvm, .sec, .power, .out] s (State.wipe s a1 a2) := by
  unfold State.wipe
  refine (State.wrB_frame _ _ _ _).after (by decide) ?_
  refine (State.wrB_frame _ _ _ _).after (by decide) ?_
  refine Frame.foldl (fun x d => (State.showClocks_frame _ _ _ _ _).after (by decide) (Frame.refl _ _)) _ ?_
  exact ⟨fun p hp => by cases p <;> first | rfl | simp at hp, fun h => by simpa [Memory.wf] using h⟩

theorem State.release_frame s : Frame [.power] s (State.release s) := by
  unfold State.release
  try dsimp only
  repeat' first
    | with_reducible exact Frame.refl _ _
    | with_reducible refine (Frame.upd_power _ _).after (by decide) ?_

theorem pwrgoodEffect_frame s a1 a2 : Frame [.sclk0, .regs, .tiles, .engines, .cores, .dies, .hbms, .ports, .rcopies, .pages, .srv, .ingest, .awn, .flt, .nvm, .sec, .power, .out] s (pwrgoodEffect s a1 a2) := by
  unfold pwrgoodEffect
  try dsimp only
  repeat' first
    | with_reducible exact Frame.refl _ _
    | with_reducible refine (State.release_frame _).after (by decide) ?_
    | with_reducible refine (State.wipe_frame _ _ _).after (by decide) ?_
    | with_reducible refine Frame.ite ?_ ?_
    | split
    | with_reducible refine (Frame.upd_power _ _).after (by decide) ?_

theorem pwrgoodOffEffect_frame s : Frame [.regs, .engines, .cores, .awn, .power, .out] s (pwrgoodOffEffect s) := by
  unfold pwrgoodOffEffect
  try dsimp only
  repeat' first
    | with_reducible exact Frame.refl _ _
    | with_reducible refine (State.haltAll_frame _).after (by decide) ?_
    | with_reducible refine Frame.ite ?_ ?_
    | split
    | with_reducible refine (Frame.upd_power _ _).after (by decide) ?_

theorem State.warmNow_frame s a1 a2 : Frame [.sclk0, .regs, .tiles, .engines, .cores, .dies, .hbms, .ports, .rcopies, .pages, .srv, .ingest, .awn, .flt, .nvm, .sec, .power, .out] s (State.warmNow s a1 a2) := by
  unfold State.warmNow
  try dsimp only
  repeat' first
    | with_reducible exact Frame.refl _ _
    | with_reducible refine (State.wipe_frame _ _ _).after (by decide) ?_
    | with_reducible refine (State.release_frame _).after (by decide) ?_
    | with_reducible refine Frame.ite ?_ ?_
    | split
    | with_reducible refine (Frame.upd_power _ _).after (by decide) ?_

theorem perstHostEffect_frame s : Frame [.sclk0, .regs, .tiles, .engines, .cores, .dies, .hbms, .ports, .rcopies, .pages, .srv, .ingest, .awn, .flt, .nvm, .sec, .power, .out] s (perstHostEffect s) := by
  unfold perstHostEffect
  try dsimp only
  repeat' first
    | with_reducible exact Frame.refl _ _
    | with_reducible refine (State.warmNow_frame _ _ _).after (by decide) ?_
    | with_reducible refine Frame.ite ?_ ?_
    | split
    | with_reducible refine (Frame.upd_power _ _).after (by decide) ?_

theorem perstHostOffEffect_frame s : Frame [.power] s (perstHostOffEffect s) := by
  unfold perstHostOffEffect
  try dsimp only
  repeat' first
    | with_reducible exact Frame.refl _ _
    | with_reducible refine (State.release_frame _).after (by decide) ?_
    | with_reducible refine Frame.ite ?_ ?_
    | split
    | with_reducible refine (Frame.upd_power _ _).after (by decide) ?_

theorem perstIngestEffect_frame s a1 : Frame [.regs, .dies, .power] s (perstIngestEffect s a1) := by
  unfold perstIngestEffect
  try dsimp only
  repeat' first
    | with_reducible exact Frame.refl _ _
    | with_reducible refine (ingestDownEffect_frame _).after (by decide) ?_
    | with_reducible refine Frame.ite ?_ ?_
    | split
    | with_reducible refine (Frame.upd_power _ _).after (by decide) ?_

theorem warmResetEffect_frame s a1 : Frame [.sclk0, .regs, .tiles, .engines, .cores, .dies, .hbms, .ports, .rcopies, .pages, .srv, .ingest, .awn, .flt, .nvm, .sec, .power, .out] s (warmResetEffect s a1) := by
  unfold warmResetEffect
  try dsimp only
  repeat' first
    | with_reducible exact Frame.refl _ _
    | with_reducible refine (State.warmNow_frame _ _ _).after (by decide) ?_
    | with_reducible refine Frame.ite ?_ ?_
    | split

theorem stage0_frame s : Frame [.regs] s (stage0 s).1 := by
  unfold stage0
  try dsimp only
  repeat' first
    | with_reducible exact Frame.refl _ _
    | with_reducible refine (State.wr_frame _ _ _ _).after (by decide) ?_
    | with_reducible refine Frame.foldl (fun _ _ => ?_) _ ?_

theorem State.freeMeas_frame s a1 : Frame [.fresh, .sec] s (State.freeMeas s a1) := by
  unfold State.freeMeas
  try dsimp only
  repeat' first
    | with_reducible exact Frame.refl _ _
    | with_reducible refine (State.takeFree_frame _).after (by decide) ?_
    | with_reducible refine (Frame.upd_sec _ _).after (by decide) ?_

theorem State.bootSlot_frame s a1 : Frame [.fresh, .regs, .sec] s (State.bootSlot s a1) := by
  unfold State.bootSlot
  try dsimp only
  repeat' first
    | with_reducible exact Frame.refl _ _
    | with_reducible refine (State.wr_frame _ _ _ _).after (by decide) ?_
    | with_reducible refine (State.meas8_frame _).after (by decide) ?_
    | with_reducible refine (State.freeMeas_frame _ _).after (by decide) ?_
    | with_reducible refine Frame.ite ?_ ?_
    | split
    | with_reducible refine (Frame.upd_sec _ _).after (by decide) ?_

theorem stage1_frame s a1 : Frame [.fresh, .regs, .dies, .sec] s (stage1 s a1).1 := by
  unfold stage1
  try dsimp only
  repeat' first
    | with_reducible exact Frame.refl _ _
    | with_reducible refine (State.bootSlot_frame _ _).after (by decide) ?_
    | with_reducible refine (State.emit_frame _ _ _ _).after (by decide) ?_
    | with_reducible refine Frame.ite ?_ ?_
    | split

theorem stage2_frame s a1 : Frame [.regs, .dies, .sec] s (stage2 s a1).1 := by
  unfold stage2
  try dsimp only
  repeat' first
    | with_reducible exact Frame.refl _ _
    | with_reducible refine (State.emit_frame _ _ _ _).after (by decide) ?_
    | with_reducible refine (State.newNonce_frame _).after (by decide) ?_
    | with_reducible refine (State.wrB_frame _ _ _ _).after (by decide) ?_
    | with_reducible refine Frame.ite ?_ ?_
    | split
    | with_reducible refine (Frame.upd_sec _ _).after (by decide) ?_

theorem State.sramFails_frame s a1 a2 : Frame [.regs, .cores, .dies, .flt, .nvm] s (State.sramFails s a1 a2) := by
  unfold State.sramFails
  try dsimp only
  repeat' first
    | with_reducible exact Frame.refl _ _
    | with_reducible refine (State.wr_frame _ _ _ _).after (by decide) ?_
    | with_reducible refine (State.emit_frame _ _ _ _).after (by decide) ?_
    | with_reducible refine (State.retireCore_frame _ _).after (by decide) ?_
    | with_reducible refine Frame.ite ?_ ?_
    | split

theorem stage3_frame s a1 : Frame [.regs, .cores, .dies, .cstore, .tsram, .flt, .nvm] s (stage3 s a1).1 := by
  unfold stage3
  try dsimp only
  repeat' first
    | with_reducible exact Frame.refl _ _
    | with_reducible refine (State.sramFails_frame _ _ _).after (by decide) ?_
    | with_reducible refine (State.wr_frame _ _ _ _).after (by decide) ?_
    | with_reducible refine Frame.ite ?_ ?_
    | with_reducible refine Frame.foldl (fun _ _ => ?_) _ ?_
    | split
    | with_reducible refine (Frame.clear_sram _).after (by decide) ?_
    | with_reducible refine (Frame.cstore_wf _ _ ?_).after (by decide) ?_
    | with_reducible refine (Frame.tsram_wf _ _ ?_).after (by decide) ?_
    | intro _
    | with_reducible assumption
    | with_reducible refine Store.put_wf _ _ _ ?_
    | with_reducible refine Store.lines2_wf _ _ ?_
    | with_reducible refine Store.markWords_wf _ _ ?_
    | with_reducible refine Store.copyFrom_wf _ _ _ _ ?_
    | with_reducible refine Store.setChk_wf _ _ ?_
    | with_reducible refine Store.putWord_wf _ _ _ ?_
    | with_reducible refine Store.repair_wf _ ?_
    | with_reducible refine Store.zero_wf _ _ ?_
    | with_reducible refine Store.moveRange_wf _ _ _ ?_

theorem State.loadRecord_frame s a1 : Frame [.regs] s (State.loadRecord s a1) := by
  unfold State.loadRecord
  try dsimp only
  repeat' first
    | with_reducible exact Frame.refl _ _
    | with_reducible refine (State.wrB_frame _ _ _ _).after (by decide) ?_
    | with_reducible refine (State.wr_frame _ _ _ _).after (by decide) ?_
    | with_reducible refine Frame.ite ?_ ?_
    | with_reducible refine Frame.foldl (fun _ _ => ?_) _ ?_
    | split

theorem stage4_frame s a1 : Frame [.fresh, .regs, .dies, .sec] s (stage4 s a1).1 := by
  unfold stage4
  try dsimp only
  repeat' first
    | with_reducible exact Frame.refl _ _
    | with_reducible refine (State.emit_frame _ _ _ _).after (by decide) ?_
    | with_reducible refine (State.loadRecord_frame _ _).after (by decide) ?_
    | with_reducible refine (State.set_frame _ _ _ _).after (by decide) ?_
    | with_reducible refine (State.wr_frame _ _ _ _).after (by decide) ?_
    | with_reducible refine (State.showKeys_frame _).after (by decide) ?_
    | with_reducible refine (State.meas7_frame _).after (by decide) ?_
    | with_reducible refine (State.meas6_frame _).after (by decide) ?_
    | with_reducible refine (State.freeMeas_frame _ _).after (by decide) ?_
    | with_reducible refine Frame.ite ?_ ?_
    | with_reducible refine Frame.foldl (fun _ _ => ?_) _ ?_
    | split
    | with_reducible refine (Frame.upd_sec _ _).after (by decide) ?_

theorem State.bootRoutes_frame s a1 a2 : Frame [.regs] s (State.bootRoutes s a1 a2) := by
  unfold State.bootRoutes
  try dsimp only
  repeat' first
    | with_reducible exact Frame.refl _ _
    | with_reducible refine (State.wrB_frame _ _ _ _).after (by decide) ?_
    | with_reducible refine (State.wr_frame _ _ _ _).after (by decide) ?_
    | with_reducible refine Frame.ite ?_ ?_
    | with_reducible refine Frame.foldl (fun _ _ => ?_) _ ?_
    | split

theorem State.linkFails_frame s a1 a2 : Frame [.regs, .dies, .flt, .out] s (State.linkFails s a1 a2) := by
  unfold State.linkFails
  try dsimp only
  repeat' first
    | with_reducible exact Frame.refl _ _
    | with_reducible refine (State.modDie_frame _ _ _).after (by decide) ?_
    | with_reducible refine (State.wr_frame _ _ _ _).after (by decide) ?_
    | with_reducible refine (State.logRetired_frame _ _ _ _ _).after (by decide) ?_
    | with_reducible refine (State.irq_frame _ _ _).after (by decide) ?_
    | with_reducible refine (State.emit_frame _ _ _ _).after (by decide) ?_
    | with_reducible refine Frame.ite ?_ ?_
    | split

theorem State.dieCut_frame s a1 : Frame [.dies] s (State.dieCut s a1) := by
  unfold State.dieCut
  try dsimp only
  repeat' first
    | with_reducible exact Frame.refl _ _
    | with_reducible refine (State.emitR_frame _ _).after (by decide) ?_
    | with_reducible refine (State.modDie_frame _ _ _).after (by decide) ?_

theorem stage5_frame s a1 : Frame [.regs, .dies, .flt, .out] s (stage5 s a1).1 := by
  unfold stage5
  try dsimp only
  repeat' first
    | with_reducible exact Frame.refl _ _
    | with_reducible refine (State.linkFails_frame _ _ _).after (by decide) ?_
    | with_reducible refine (State.dieCut_frame _ _).after (by decide) ?_
    | with_reducible refine (State.bootRoutes_frame _ _ _).after (by decide) ?_
    | with_reducible refine (State.modDie_frame _ _ _).after (by decide) ?_
    | with_reducible refine Frame.ite ?_ ?_
    | with_reducible refine Frame.foldl (fun _ _ => ?_) _ ?_
    | split

theorem State.restoreTile_frame s a1 a2 a3 a4 : Frame [.regs, .tiles, .dies] s (State.restoreTile s a1 a2 a3 a4) := by
  unfold State.restoreTile
  try dsimp only
  repeat' first
    | with_reducible exact Frame.refl _ _
    | with_reducible refine (State.loadImage_frame _ _ _ _ _).after (by decide) ?_
    | with_reducible refine (State.rejectImage_frame _ _ _ _ _).after (by decide) ?_
    | with_reducible refine Frame.ite ?_ ?_
    | split

theorem State.startEngine_frame s a1 a2 : Frame [.regs, .tiles, .engines, .dies] s (State.startEngine s a1 a2) := by
  unfold State.startEngine
  try dsimp only
  repeat' first
    | with_reducible exact Frame.refl _ _
    | with_reducible refine (State.wr_frame _ _ _ _).after (by decide) ?_
    | with_reducible refine (State.restoreTile_frame _ _ _ _ _).after (by decide) ?_
    | with_reducible refine (State.setCalPhase_frame _ _ _ _ _).after (by decide) ?_
    | with_reducible refine (State.modEng_frame _ _ _ _).after (by decide) ?_
    | with_reducible refine Frame.ite ?_ ?_
    | with_reducible refine Frame.foldl (fun _ _ => ?_) _ ?_
    | split

theorem stage6_frame s a1 : Frame [.regs, .tiles, .engines, .cores, .dies, .flt, .nvm, .power] s (stage6 s a1).1 := by
  unfold stage6
  try dsimp only
  repeat' first
    | with_reducible exact Frame.refl _ _
    | with_reducible refine (State.emit_frame _ _ _ _).after (by decide) ?_
    | with_reducible refine (State.retireCore_frame _ _).after (by decide) ?_
    | with_reducible refine (State.startEngine_frame _ _ _).after (by decide) ?_
    | with_reducible refine Frame.foldl (fun _ _ => ?_) _ ?_
    | with_reducible refine (Frame.upd_power _ _).after (by decide) ?_

theorem State.trainCxl_frame s a1 a2 : Frame [.regs, .dies] s (State.trainCxl s a1 a2).1 := by
  unfold State.trainCxl
  try dsimp only
  repeat' first
    | with_reducible exact Frame.refl _ _
    | with_reducible refine (State.emit_frame _ _ _ _).after (by decide) ?_
    | with_reducible refine (State.wr_frame _ _ _ _).after (by decide) ?_
    | with_reducible refine Frame.ite ?_ ?_
    | split

theorem stage7_frame s a1 : Frame [.regs, .dies, .hbms, .dev, .power] s (stage7 s a1).1 := by
  unfold stage7
  dsimp only
  with_reducible refine Frame.ite_pair (Frame.foldl (fun _ _ => (State.emit_frame _ _ _ _).after (by decide) (Frame.refl _ _)) _ (Frame.refl _ _)) ?_
  with_reducible refine (State.wrB_frame _ _ _ _).after (by decide) ?_
  with_reducible refine (Frame.upd_power _ _).after (by decide) ?_
  with_reducible refine Frame.foldl_pair (fun _ _ => ?_) _ ?_
  · with_reducible exact (State.trainCxl_frame _ _ _).after (by decide) (Frame.refl _ _)
  with_reducible refine (Frame.dev_wf _ _ ?_).after (by decide) ?_
  · exact Store.zero_wf _ _
  with_reducible exact Frame.foldl (fun _ _ => (State.modStack_frame _ _ _).after (by decide) (Frame.refl _ _)) _ (Frame.refl _ _)

theorem State.restoreProt_frame s : Frame [.regs, .dies] s (State.restoreProt s) := by
  unfold State.restoreProt
  try dsimp only
  repeat' first
    | with_reducible exact Frame.refl _ _
    | with_reducible refine (State.emit_frame _ _ _ _).after (by decide) ?_
    | with_reducible refine (State.wr_frame _ _ _ _).after (by decide) ?_
    | with_reducible refine (State.set_frame _ _ _ _).after (by decide) ?_
    | with_reducible refine Frame.foldl (fun _ _ => ?_) _ ?_
    | split

theorem State.reretire_frame s a1 a2 a3 : Frame [.regs, .tiles, .engines, .dies, .out] s (State.reretire s a1 a2 a3) := by
  unfold State.reretire
  try dsimp only
  repeat' first
    | with_reducible exact Frame.refl _ _
    | with_reducible refine (State.wr_frame _ _ _ _).after (by decide) ?_
    | with_reducible refine (State.emptyBank_frame _ _ _ _ _).after (by decide) ?_
    | with_reducible refine (State.modTile_frame _ _ _ _ _).after (by decide) ?_
    | with_reducible refine (State.stopRotation_frame _ _ _).after (by decide) ?_
    | with_reducible refine Frame.ite ?_ ?_
    | split

theorem State.reapply_frame s : Frame [.regs, .tiles, .engines, .cores, .dies, .out] s (State.reapply s) := by
  unfold State.reapply
  try dsimp only
  repeat' first
    | with_reducible exact Frame.refl _ _
    | with_reducible refine (State.modCore_frame _ _ _).after (by decide) ?_
    | with_reducible refine (State.standTiles_frame _ _).after (by decide) ?_
    | with_reducible refine (State.reretire_frame _ _ _ _).after (by decide) ?_
    | with_reducible refine Frame.ite ?_ ?_
    | with_reducible refine Frame.foldl (fun _ _ => ?_) _ ?_
    | split

theorem State.place_frame s a1 a2 : Frame [.regs, .nvm] s (State.place s a1 a2) := by
  unfold State.place
  try dsimp only
  repeat' first
    | with_reducible exact Frame.refl _ _
    | with_reducible refine (State.wr_frame _ _ _ _).after (by decide) ?_
    | with_reducible refine Frame.ite ?_ ?_
    | split
    | with_reducible refine (Frame.upd_nvm _ _).after (by decide) ?_

theorem State.placeRest_frame s a1 a2 : Frame [.regs, .nvm] s (State.placeRest s a1 a2).1 := by
  induction a1 generalizing s a2 with
  | nil => exact Frame.refl _ _
  | cons x l ih =>
    unfold State.placeRest
    try dsimp only
    repeat' first
      | with_reducible exact Frame.refl _ _
      | with_reducible refine (State.place_frame _ _ _).after (by decide) ?_
      | with_reducible refine Frame.ite ?_ ?_
      | split
      | with_reducible refine (ih _ _).after (by decide) ?_

theorem State.fillRedir_frame s : Frame [.regs, .flt, .nvm] s (State.fillRedir s) := by
  unfold State.fillRedir
  try dsimp only
  repeat' first
    | with_reducible exact Frame.refl _ _
    | with_reducible refine (State.place_frame _ _ _).after (by decide) ?_
    | with_reducible refine (State.placeRest_frame _ _ _).after (by decide) ?_
    | with_reducible refine (State.addPool_frame _ _).after (by decide) ?_
    | with_reducible refine Frame.foldl (fun _ _ => ?_) _ ?_
    | split
    | with_reducible refine Frame.of_pair (by assumption) ?_

theorem State.saveImages_frame s : Frame [.sec] s (State.saveImages s) := by
  unfold State.saveImages
  try dsimp only
  repeat' first
    | with_reducible exact Frame.refl _ _
    | with_reducible refine Frame.foldl (fun _ _ => ?_) _ ?_
    | with_reducible refine (Frame.upd_sec _ _).after (by decide) ?_

theorem State.latchRecovery_frame s : Frame [.regs, .dies, .nvm] s (State.latchRecovery s) := by
  unfold State.latchRecovery
  try dsimp only
  repeat' first
    | with_reducible exact Frame.refl _ _
    | with_reducible refine (State.emit_frame _ _ _ _).after (by decide) ?_
    | with_reducible refine (State.wr_frame _ _ _ _).after (by decide) ?_
    | with_reducible refine Frame.ite ?_ ?_
    | split
    | with_reducible refine (Frame.upd_nvm _ _).after (by decide) ?_

theorem stage9_frame s : Frame [.regs, .tiles, .engines, .cores, .dies, .flt, .nvm, .sec, .out] s (stage9 s).1 := by
  unfold stage9
  try dsimp only
  repeat' first
    | with_reducible exact Frame.refl _ _
    | with_reducible refine (State.showFrac_frame _ _).after (by decide) ?_
    | with_reducible refine (State.restoreProt_frame _).after (by decide) ?_
    | with_reducible refine (State.fillRedir_frame _).after (by decide) ?_
    | with_reducible refine (State.reapply_frame _).after (by decide) ?_
    | with_reducible refine (State.meas5_frame _).after (by decide) ?_
    | with_reducible refine (State.saveImages_frame _).after (by decide) ?_
    | with_reducible refine (State.wr_frame _ _ _ _).after (by decide) ?_
    | with_reducible refine (State.latchRecovery_frame _).after (by decide) ?_
    | with_reducible refine Frame.ite ?_ ?_
    | with_reducible refine Frame.foldl (fun _ _ => ?_) _ ?_
    | split

theorem stageWork_frame s a1 a2 : Frame [.fresh, .regs, .tiles, .engines, .cores, .dies, .hbms, .dev, .cstore, .tsram, .flt, .nvm, .sec, .power, .out] s (stageWork s a1 a2).1 := by
  unfold stageWork
  try dsimp only
  repeat' first
    | with_reducible exact Frame.refl _ _
    | with_reducible refine (stage0_frame _).after (by decide) ?_
    | with_reducible refine (stage1_frame _ _).after (by decide) ?_
    | with_reducible refine (stage2_frame _ _).after (by decide) ?_
    | with_reducible refine (stage3_frame _ _).after (by decide) ?_
    | with_reducible refine (stage4_frame _ _).after (by decide) ?_
    | with_reducible refine (stage5_frame _ _).after (by decide) ?_
    | with_reducible refine (stage6_frame _ _).after (by decide) ?_
    | with_reducible refine (stage7_frame _ _).after (by decide) ?_
    | with_reducible refine (stage9_frame _).after (by decide) ?_
    | split
    | with_reducible refine Frame.of_pair (by assumption) ?_

theorem stageEndEffect_frame s a1 a2 : Frame [.fresh, .regs, .tiles, .engines, .cores, .dies, .hbms, .dev, .cstore, .tsram, .flt, .nvm, .sec, .power, .out] s (stageEndEffect s a1 a2) := by
  unfold stageEndEffect
  try dsimp only
  repeat' first
    | with_reducible exact Frame.refl _ _
    | with_reducible refine (stageWork_frame _ _ _).after (by decide) ?_
    | with_reducible refine (State.wr_frame _ _ _ _).after (by decide) ?_
    | with_reducible refine Frame.ite ?_ ?_
    | split
    | with_reducible refine Frame.of_pair (by assumption) ?_
    | with_reducible refine (Frame.upd_power _ _).after (by decide) ?_

end Sys2Proof.Machine
end

