-- ==== Sys2Proof/Laws/FrameNvm.lean ====
section
/-! SUPPORT. The frames of the operations of Machine/Nvm.lean. -/

namespace Sys2Proof.Machine

set_option linter.unusedTactic false
set_option linter.unreachableTactic false

theorem State.foldTile_frame s a1 a2 a3 : Frame [.tiles, .nvm] s (State.foldTile s a1 a2 a3) := by
  unfold State.foldTile
  dsimp only
  refine Frame.ite ?_ ((State.modTile_frame _ _ _ _ _).after (by decide) ?_) <;>
    exact (Frame.upd_nvm _ _).after (by decide) (Frame.refl _ _)

theorem State.foldHeat_frame s a1 : Frame [.dies, .nvm] s (State.foldHeat s a1) := by
  unfold State.foldHeat
  try dsimp only
  repeat' first
    | with_reducible exact Frame.refl _ _
    | with_reducible refine (State.modDie_frame _ _ _).after (by decide) ?_
    | with_reducible refine Frame.ite ?_ ?_
    | with_reducible refine Frame.foldl (fun _ _ => ?_) _ ?_
    | split
    | with_reducible refine (Frame.upd_nvm _ _).after (by decide) ?_

theorem State.foldBand_frame s a1 a2 : Frame [.fresh, .cores, .nvm] s (State.foldBand s a1 a2) := by
  unfold State.foldBand
  try dsimp only
  repeat' first
    | with_reducible exact Frame.refl _ _
    | with_reducible refine (State.takeFree_frame _).after (by decide) ?_
    | with_reducible refine (State.modCore_frame _ _ _).after (by decide) ?_
    | with_reducible refine Frame.ite ?_ ?_
    | split
    | with_reducible refine (Frame.upd_nvm _ _).after (by decide) ?_

theorem State.foldRetired_frame s : Frame [.flt, .nvm] s (State.foldRetired s) := by
  unfold State.foldRetired
  try dsimp only
  repeat' first
    | with_reducible exact Frame.refl _ _
    | with_reducible refine Frame.foldl (fun _ _ => ?_) _ ?_
    | with_reducible refine (Frame.upd_flt_nvm _ _ _ ).after (by decide) ?_
    | with_reducible refine (Frame.upd_flt _ _).after (by decide) ?_
    | with_reducible refine (Frame.upd_nvm _ _).after (by decide) ?_

theorem lifetimeFoldEffect_frame s : Frame [.fresh, .regs, .tiles, .cores, .dies, .flt, .nvm, .sec, .power] s (lifetimeFoldEffect s) := by
  unfold lifetimeFoldEffect
  try dsimp only
  repeat' first
    | with_reducible exact Frame.refl _ _
    | with_reducible refine (State.foldTile_frame _ _ _ _).after (by decide) ?_
    | with_reducible refine (State.foldHeat_frame _ _).after (by decide) ?_
    | with_reducible refine (State.foldBand_frame _ _ _).after (by decide) ?_
    | with_reducible refine (State.foldRetired_frame _).after (by decide) ?_
    | with_reducible refine (State.wr_frame _ _ _ _).after (by decide) ?_
    | with_reducible refine (State.inc_frame _ _ _ _).after (by decide) ?_
    | with_reducible refine (State.saveImages_frame _).after (by decide) ?_
    | with_reducible refine Frame.ite ?_ ?_
    | with_reducible refine Frame.foldl (fun _ _ => ?_) _ ?_
    | split
    | with_reducible refine (Frame.upd_nvm_power _ _ _ ).after (by decide) ?_
    | with_reducible refine (Frame.upd_nvm _ _).after (by decide) ?_
    | with_reducible refine (Frame.upd_power _ _).after (by decide) ?_

theorem nvmReadEffect_frame s : Frame [.regs, .out] s (nvmReadEffect s) := by
  unfold nvmReadEffect
  try dsimp only
  repeat' first
    | with_reducible exact Frame.refl _ _
    | with_reducible refine (State.send_frame _ _).after (by decide) ?_
    | with_reducible refine (State.wrA_frame _ _ _ _).after (by decide) ?_
    | with_reducible refine Frame.ite ?_ ?_
    | split

end Sys2Proof.Machine
end

