-- ==== Sys2Proof/Laws/FrameSequencer.lean ====
section
/-! SUPPORT. The frames of the operations of Machine/Sequencer.lean. -/

namespace Sys2Proof.Machine

set_option linter.unusedTactic false
set_option linter.unreachableTactic false

theorem State.seqRun_frame {P : List Part} {s0 : State} s a1 a2 a3 a4 (hp : ∀ p ∈ ([.regs, .engines, .cores, .dies, .awn, .out] : List Part), p ∈ P) (h4 : ∀ x y0, Frame P x (a4 x y0)) (k : Frame P s0 s) : Frame P s0 (State.seqRun s a1 a2 a3 a4) := by
  unfold State.seqRun
  try dsimp only
  repeat' first
    | with_reducible exact k
    | with_reducible refine (h4 _ _ ).after (fun _ h => h) ?_
    | with_reducible exact Frame.refl _ _
    | with_reducible refine (State.pump_frame _ _).after (fun p hq => hp p ((by decide : ∀ p ∈ _, p ∈ ([.regs, .engines, .cores, .dies, .awn, .out] : List Part)) p hq)) ?_
    | with_reducible refine (State.popDesc_frame _ _ _).after (fun p hq => hp p ((by decide : ∀ p ∈ _, p ∈ ([.regs, .engines, .cores, .dies, .awn, .out] : List Part)) p hq)) ?_
    | with_reducible refine Frame.ite ?_ ?_
    | split

theorem streamEndEffect_frame s a1 : Frame [.regs, .engines, .cores, .dies, .awn, .out] s (streamEndEffect s a1) := by
  unfold streamEndEffect
  try dsimp only
  repeat' first
    | with_reducible exact Frame.refl _ _
    | with_reducible refine (State.signal_frame _ _ _ _).after (by decide) ?_
    | with_reducible refine (State.popDesc_frame _ _ _).after (by decide) ?_
    | with_reducible refine (State.send_frame _ _).after (by decide) ?_
    | with_reducible refine (State.irq_frame _ _ _).after (by decide) ?_
    | with_reducible refine (State.modCore_frame _ _ _).after (by decide) ?_
    | with_reducible refine (State.wr_frame _ _ _ _).after (by decide) ?_
    | with_reducible refine (State.startPending_frame _ _).after (by decide) ?_
    | with_reducible refine Frame.ite ?_ ?_
    | split

theorem semWaitEffect_frame s a1 : Frame [.regs, .engines, .cores, .dies, .awn, .out] s (semWaitEffect s a1) := by
  unfold semWaitEffect
  try dsimp only
  repeat' first
    | with_reducible exact Frame.refl _ _
    | with_reducible refine (State.pump_frame _ _).after (by decide) ?_
    | with_reducible refine (State.takeWait_frame _ _ _ _).after (by decide) ?_
    | with_reducible refine (State.popDesc_frame _ _ _).after (by decide) ?_
    | with_reducible refine (State.modCore_frame _ _ _).after (by decide) ?_
    | with_reducible refine (State.sendClaim_frame _ _ _ _).after (by decide) ?_
    | with_reducible refine Frame.ite ?_ ?_
    | split

theorem State.dmaMove_frame s a1 a2 a3 : Frame [.regs, .dies, .hbms, .dev, .cstore, .out] s (State.dmaMove s a1 a2 a3) := by
  unfold State.dmaMove
  try dsimp only
  repeat' first
    | with_reducible exact Frame.refl _ _
    | with_reducible refine (State.csTouch_frame _ _ _ _).after (by decide) ?_
    | with_reducible refine (State.count2_frame _ _ _ _).after (by decide) ?_
    | with_reducible refine (State.touch_frame _ _ _).after (by decide) ?_
    | with_reducible refine Frame.ite ?_ ?_
    | split
    | with_reducible refine (Frame.dev_wf _ _ ?_).after (by decide) ?_
    | with_reducible refine (Frame.cstore_wf _ _ ?_).after (by decide) ?_
    | intro _
    | with_reducible assumption
    | with_reducible refine Store.put_wf _ _ _ ?_
    | with_reducible refine Store.lines2_wf _ _ ?_
    | with_reducible refine Store.markWords_wf _ _ ?_
    | with_reducible refine Store.copyFrom_wf _ _ _ _ ?_
    | with_reducible refine Store.setChk_wf _ _ ?_
    | with_reducible refine Store.putWord_wf _ _ _ ?_
    | with_reducible refine Store.repair_wf _ ?_
    | with_reducible refine Store.zero_wf _ _ ?_
    | with_reducible refine Store.moveRange_wf _ _ _ ?_

theorem dmaCopyEffect_frame s a1 : Frame [.regs, .engines, .cores, .dies, .awn, .out] s (dmaCopyEffect s a1) := by
  unfold dmaCopyEffect
  try dsimp only
  repeat' first
    | with_reducible exact Frame.refl _ _
    | with_reducible refine (State.pump_frame _ _).after (by decide) ?_
    | with_reducible refine (State.modCore_frame _ _ _).after (by decide) ?_
    | with_reducible refine (State.issue_frame _ _ _ _).after (by decide) ?_
    | split

theorem dmaDoneEffect_frame s a1 a2 : Frame [.regs, .engines, .cores, .dies, .hbms, .dev, .cstore, .awn, .out] s (dmaDoneEffect s a1 a2) := by
  unfold dmaDoneEffect
  try dsimp only
  repeat' first
    | with_reducible exact Frame.refl _ _
    | with_reducible refine (State.modCore_frame _ _ _).after (by decide) ?_
    | with_reducible refine (State.dmaMove_frame _ _ _ _).after (by decide) ?_
    | with_reducible refine (State.complete_frame _ _ _).after (by decide) ?_
    | with_reducible refine (State.haltFault_frame _ _ _ _ _ _).after (by decide) ?_
    | with_reducible refine Frame.ite ?_ ?_
    | split

theorem tillerKickEffect_frame s a1 a2 : Frame [.regs, .engines, .cores, .dies, .awn, .out] s (tillerKickEffect s a1 a2) := by
  unfold tillerKickEffect
  try dsimp only
  repeat' first
    | with_reducible exact Frame.refl _ _
    | with_reducible refine (State.pump_frame _ _).after (by decide) ?_
    | with_reducible refine (State.modCore_frame _ _ _).after (by decide) ?_
    | with_reducible refine (State.issue_frame _ _ _ _).after (by decide) ?_
    | split

theorem State.endKick_frame s a1 a2 : Frame [.cores] s (State.endKick s a1 a2) := by
  unfold State.endKick
  try dsimp only
  repeat' first
    | with_reducible exact Frame.refl _ _
    | with_reducible refine (State.modCore_frame _ _ _).after (by decide) ?_

theorem tillerDoneEffect_frame s a1 a2 : Frame [.regs, .engines, .cores, .dies, .awn, .out] s (tillerDoneEffect s a1 a2) := by
  unfold tillerDoneEffect
  try dsimp only
  repeat' first
    | with_reducible exact Frame.refl _ _
    | with_reducible refine (State.complete_frame _ _ _).after (by decide) ?_
    | with_reducible refine (State.endKick_frame _ _ _).after (by decide) ?_
    | split

theorem mboxReadEffect_frame s a1 a2 : Frame [.cores, .out] s (mboxReadEffect s a1 a2) := by
  unfold mboxReadEffect
  try dsimp only
  repeat' first
    | with_reducible exact Frame.refl _ _
    | with_reducible refine (State.send_frame _ _).after (by decide) ?_
    | with_reducible refine (State.modCore_frame _ _ _).after (by decide) ?_
    | split

theorem tillerSemEffect_frame s a1 a2 a3 : Frame [.regs, .engines, .cores, .dies, .awn, .out] s (tillerSemEffect s a1 a2 a3) := by
  unfold tillerSemEffect
  try dsimp only
  repeat' first
    | with_reducible exact Frame.refl _ _
    | with_reducible refine (State.pump_frame _ _).after (by decide) ?_
    | with_reducible refine (State.signal_frame _ _ _ _).after (by decide) ?_
    | with_reducible refine Frame.ite ?_ ?_
    | split

theorem tillerTrapEffect_frame s a1 a2 a3 : Frame [.regs, .engines, .cores, .dies, .awn, .out] s (tillerTrapEffect s a1 a2 a3) := by
  unfold tillerTrapEffect
  try dsimp only
  repeat' first
    | with_reducible exact Frame.refl _ _
    | with_reducible refine (State.irq_frame _ _ _).after (by decide) ?_
    | with_reducible refine (State.wr_frame _ _ _ _).after (by decide) ?_
    | with_reducible refine (State.endKick_frame _ _ _).after (by decide) ?_
    | with_reducible refine (State.haltFault_frame _ _ _ _ _ _).after (by decide) ?_
    | split

theorem streamFetchEffect_frame s a1 : Frame [.regs, .engines, .cores, .dies, .hbms, .awn, .out] s (streamFetchEffect s a1) := by
  unfold streamFetchEffect
  try dsimp only
  repeat' first
    | with_reducible exact Frame.refl _ _
    | with_reducible refine (State.haltFault_frame _ _ _ _ _ _).after (by decide) ?_
    | with_reducible refine (State.touch_frame _ _ _).after (by decide) ?_
    | with_reducible refine (State.pump_frame _ _).after (by decide) ?_
    | with_reducible refine (State.modCore_frame _ _ _).after (by decide) ?_
    | with_reducible refine Frame.ite ?_ ?_
    | split

theorem startRecordEffect_frame s a1 a2 : Frame [.regs, .engines, .cores, .out] s (startRecordEffect s a1 a2) := by
  unfold startRecordEffect
  try dsimp only
  repeat' first
    | with_reducible exact Frame.refl _ _
    | with_reducible refine (State.send_frame _ _).after (by decide) ?_
    | with_reducible refine (State.refuse_frame _ _).after (by decide) ?_
    | with_reducible refine (State.showPending_frame _ _).after (by decide) ?_
    | with_reducible refine (State.modCore_frame _ _ _).after (by decide) ?_
    | with_reducible refine (State.startPending_frame _ _).after (by decide) ?_
    | with_reducible refine Frame.ite ?_ ?_
    | split

theorem coreGoEffect_frame s a1 : Frame [.regs, .engines, .cores] s (coreGoEffect s a1) := by
  unfold coreGoEffect
  try dsimp only
  repeat' first
    | with_reducible exact Frame.refl _ _
    | with_reducible refine (State.refuse_frame _ _).after (by decide) ?_
    | with_reducible refine (State.startStream_frame _ _ _ _ _).after (by decide) ?_
    | with_reducible refine (State.startPending_frame _ _).after (by decide) ?_
    | with_reducible refine Frame.ite ?_ ?_
    | split

theorem State.enterHalted_frame s a1 : Frame [.regs, .engines, .cores, .out] s (State.enterHalted s a1) := by
  unfold State.enterHalted
  try dsimp only
  repeat' first
    | with_reducible exact Frame.refl _ _
    | with_reducible refine (State.irq_frame _ _ _).after (by decide) ?_
    | with_reducible refine (State.wr_frame _ _ _ _).after (by decide) ?_
    | with_reducible refine (State.startPending_frame _ _).after (by decide) ?_
    | with_reducible refine Frame.ite ?_ ?_
    | split

theorem coreHaltEffect_frame s a1 : Frame [.regs, .engines, .cores, .awn, .out] s (coreHaltEffect s a1) := by
  unfold coreHaltEffect
  try dsimp only
  repeat' first
    | with_reducible exact Frame.refl _ _
    | with_reducible refine (State.haltCore_frame _ _ _ _ _).after (by decide) ?_
    | with_reducible refine (State.enterHalted_frame _ _).after (by decide) ?_
    | with_reducible refine Frame.ite ?_ ?_
    | split

theorem stepAbortEffect_frame s a1 a2 : Frame [.regs, .engines, .cores, .awn, .out] s (stepAbortEffect s a1 a2) := by
  unfold stepAbortEffect
  try dsimp only
  repeat' first
    | with_reducible exact Frame.refl _ _
    | with_reducible refine (State.showPending_frame _ _).after (by decide) ?_
    | with_reducible refine (State.modCore_frame _ _ _).after (by decide) ?_
    | with_reducible refine (State.haltCore_frame _ _ _ _ _).after (by decide) ?_
    | with_reducible refine Frame.ite ?_ ?_
    | split

theorem haltCompleteEffect_frame s a1 : Frame [.regs, .engines, .cores, .out] s (haltCompleteEffect s a1) := by
  unfold haltCompleteEffect
  try dsimp only
  repeat' first
    | with_reducible exact Frame.refl _ _
    | with_reducible refine (State.enterHalted_frame _ _).after (by decide) ?_
    | with_reducible refine Frame.ite ?_ ?_
    | split

end Sys2Proof.Machine
end

