-- ==== Sys2Proof/Laws/FrameRegs.lean ====
section
/-! SUPPORT. The frames of the operations of Machine/Regs.lean. -/

namespace Sys2Proof.Machine

set_option linter.unusedTactic false
set_option linter.unreachableTactic false

theorem State.writeField_frame s a1 a2 a3 a4 a5 a6 : Frame [.regs] a5.1 (State.writeField s a1 a2 a3 a4 a5 a6).1 := by
  unfold State.writeField
  try dsimp only
  repeat' first
    | with_reducible exact Frame.refl _ _
    | with_reducible refine (State.wr_frame _ _ _ _).after (by decide) ?_
    | with_reducible refine Frame.ite ?_ ?_
    | split

theorem State.writeFields_frame s a1 a2 a3 a4 a5 : Frame [.regs] s (State.writeFields s a1 a2 a3 a4 a5).1 := by
  unfold State.writeFields
  exact Frame.foldl_pair (fun x f => State.writeField_frame _ _ _ _ _ x f) _ (Frame.refl _ _)

theorem State.writeGen_frame s a1 a2 a3 a4 : Frame [.regs] s (State.writeGen s a1 a2 a3 a4) := by
  unfold State.writeGen
  try dsimp only
  repeat' first
    | with_reducible exact Frame.refl _ _
    | with_reducible refine (State.writeFields_frame _ _ _ _ _ _).after (by decide) ?_
    | with_reducible refine (State.refuse_frame _ _).after (by decide) ?_
    | with_reducible refine Frame.ite ?_ ?_
    | split
    | with_reducible refine Frame.of_pair (by assumption) ?_

theorem State.capErr_frame s a1 a2 : Frame [.regs] a1 (State.capErr s a1 a2) := by
  unfold State.capErr
  try dsimp only
  repeat' first
    | with_reducible exact Frame.refl _ _
    | with_reducible refine (State.wr_frame _ _ _ _).after (by decide) ?_
    | with_reducible refine Frame.ite ?_ ?_
    | split

theorem State.irqSet_frame s a1 a2 : Frame [.regs, .out] s (State.irqSet s a1 a2) := by
  unfold State.irqSet
  try dsimp only
  repeat' first
    | with_reducible exact Frame.refl _ _
    | with_reducible refine (State.irq_frame _ _ _).after (by decide) ?_
    | with_reducible refine (State.send_frame _ _).after (by decide) ?_
    | with_reducible refine (State.sendMsix_frame _ _ _).after (by decide) ?_
    | with_reducible refine Frame.ite ?_ ?_
    | with_reducible refine Frame.foldl (fun _ _ => ?_) _ ?_
    | split

theorem State.writeHeader_frame s a1 a2 a3 : Frame [.regs, .out] s (State.writeHeader s a1 a2 a3) := by
  unfold State.writeHeader
  try dsimp only
  repeat' first
    | with_reducible exact Frame.refl _ _
    | with_reducible refine (State.gather_frame _ _ _).after (by decide) ?_
    | with_reducible refine (State.wr_frame _ _ _ _).after (by decide) ?_
    | with_reducible refine (State.irqSet_frame _ _ _).after (by decide) ?_
    | with_reducible refine Frame.ite ?_ ?_
    | split

theorem State.writeTrims_frame s a1 a2 a3 a4 a5 a6 : Frame [.regs, .tiles] s (State.writeTrims s a1 a2 a3 a4 a5 a6) := by
  unfold State.writeTrims
  try dsimp only
  repeat' first
    | with_reducible exact Frame.refl _ _
    | with_reducible refine (State.refuse_frame _ _).after (by decide) ?_
    | with_reducible refine (State.modTile_frame _ _ _ _ _).after (by decide) ?_
    | with_reducible refine Frame.ite ?_ ?_
    | split

theorem State.writeCalCtrl_frame s a1 a2 a3 a4 : Frame [.regs, .tiles, .engines, .dies, .cstore] s (State.writeCalCtrl s a1 a2 a3 a4) := by
  unfold State.writeCalCtrl
  try dsimp only
  repeat' first
    | with_reducible exact Frame.refl _ _
    | with_reducible refine (State.wrB_frame _ _ _ _).after (by decide) ?_
    | with_reducible refine (State.toFront_frame _ _ _ _).after (by decide) ?_
    | with_reducible refine (calApplyReqEffect_frame _ _ _ _).after (by decide) ?_
    | with_reducible refine (calSaveEffect_frame _ _ _ _).after (by decide) ?_
    | with_reducible refine (calLoadEffect_frame _ _ _ _).after (by decide) ?_
    | with_reducible refine Frame.ite ?_ ?_
    | split

theorem State.writeTile_frame s a1 a2 a3 a4 : Frame [.regs, .tiles, .engines, .dies, .cstore, .out] s (State.writeTile s a1 a2 a3 a4) := by
  unfold State.writeTile
  try dsimp only
  repeat' first
    | with_reducible exact Frame.refl _ _
    | with_reducible refine (tileEnableEffect_frame _ _ _ _ _).after (by decide) ?_
    | with_reducible refine (tileResetEffect_frame _ _ _ _).after (by decide) ?_
    | with_reducible refine (tileCfgEffect_frame _ _ _ _ _).after (by decide) ?_
    | with_reducible refine (colmapWriteEffect_frame _ _ _ _ _ _).after (by decide) ?_
    | with_reducible refine (State.writeCalCtrl_frame _ _ _ _ _).after (by decide) ?_
    | with_reducible refine (State.writeTrims_frame _ _ _ _ _ _ _).after (by decide) ?_
    | with_reducible refine (State.writeGen_frame _ _ _ _ _).after (by decide) ?_
    | with_reducible refine Frame.ite ?_ ?_
    | split

theorem State.writeRefresh_frame s a1 a2 : Frame [.regs, .tiles] s (State.writeRefresh s a1 a2) := by
  unfold State.writeRefresh
  try dsimp only
  repeat' first
    | with_reducible exact Frame.refl _ _
    | with_reducible refine (State.showBand_frame _ _ _).after (by decide) ?_
    | with_reducible refine (State.writeGen_frame _ _ _ _ _).after (by decide) ?_
    | with_reducible refine (State.resumeSweep_frame _ _ _ _ _).after (by decide) ?_
    | with_reducible refine Frame.ite ?_ ?_
    | with_reducible refine Frame.foldl (fun _ _ => ?_) _ ?_
    | split

theorem State.writeEng_frame s a1 a2 a3 a4 : Frame [.regs, .tiles, .dies, .out] s (State.writeEng s a1 a2 a3 a4) := by
  unfold State.writeEng
  try dsimp only
  repeat' first
    | with_reducible exact Frame.refl _ _
    | with_reducible refine (State.writeRefresh_frame _ _ _).after (by decide) ?_
    | with_reducible refine (bankReleaseEffect_frame _ _ _ _).after (by decide) ?_
    | with_reducible refine (State.gather_frame _ _ _).after (by decide) ?_
    | with_reducible refine (State.writeGen_frame _ _ _ _ _).after (by decide) ?_
    | with_reducible refine Frame.ite ?_ ?_
    | split

theorem State.writeCore_frame s a1 a2 a3 a4 : Frame [.regs, .engines, .cores, .awn, .out] s (State.writeCore s a1 a2 a3 a4) := by
  unfold State.writeCore
  try dsimp only
  repeat' first
    | with_reducible exact Frame.refl _ _
    | with_reducible refine (State.writeGen_frame _ _ _ _ _).after (by decide) ?_
    | with_reducible refine (coreGoEffect_frame _ _).after (by decide) ?_
    | with_reducible refine (coreHaltEffect_frame _ _).after (by decide) ?_
    | with_reducible refine Frame.ite ?_ ?_
    | split

theorem State.writeChkCtrl_frame s a1 a2 : Frame [.regs, .cores] s (State.writeChkCtrl s a1 a2) := by
  unfold State.writeChkCtrl
  try dsimp only
  repeat' first
    | with_reducible exact Frame.refl _ _
    | with_reducible refine (State.writeFields_frame _ _ _ _ _ _).after (by decide) ?_
    | with_reducible refine (State.showFrac_frame _ _).after (by decide) ?_
    | with_reducible refine (State.refuse_frame _ _).after (by decide) ?_
    | with_reducible refine (drefEffect_frame _ _ _).after (by decide) ?_
    | with_reducible refine (State.modCore_frame _ _ _).after (by decide) ?_
    | with_reducible refine Frame.ite ?_ ?_
    | split
    | with_reducible refine Frame.of_pair (by assumption) ?_

theorem State.writeChk_frame s a1 a2 a3 a4 : Frame [.regs, .tiles, .cores] s (State.writeChk s a1 a2 a3 a4) := by
  unfold State.writeChk
  try dsimp only
  repeat' first
    | with_reducible exact Frame.refl _ _
    | with_reducible refine (State.writeChkCtrl_frame _ _ _).after (by decide) ?_
    | with_reducible refine (chkSeedEffect_frame _ _ _).after (by decide) ?_
    | with_reducible refine (lgSelEffect_frame _ _ _).after (by decide) ?_
    | with_reducible refine (State.writeGen_frame _ _ _ _ _).after (by decide) ?_
    | with_reducible refine Frame.ite ?_ ?_
    | split

theorem State.writePlkCtrl_frame s a1 a2 : Frame [.regs, .dies, .ports, .rcopies, .dev, .awn] s (State.writePlkCtrl s a1 a2) := by
  unfold State.writePlkCtrl
  try dsimp only
  repeat' first
    | with_reducible exact Frame.refl _ _
    | with_reducible refine (State.writeFields_frame _ _ _ _ _ _).after (by decide) ?_
    | with_reducible refine (State.refuse_frame _ _).after (by decide) ?_
    | with_reducible refine (plkTrainEffect_frame _ _ _).after (by decide) ?_
    | with_reducible refine (State.reissue_frame _ _).after (by decide) ?_
    | with_reducible refine (State.wr_frame _ _ _ _).after (by decide) ?_
    | with_reducible refine Frame.ite ?_ ?_
    | split
    | with_reducible refine Frame.of_pair (by assumption) ?_

theorem State.writeRcCfg_frame s a1 a2 : Frame [.regs, .awn] s (State.writeRcCfg s a1 a2) := by
  unfold State.writeRcCfg
  try dsimp only
  repeat' first
    | with_reducible exact Frame.refl _ _
    | with_reducible refine (State.writeGen_frame _ _ _ _ _).after (by decide) ?_
    | with_reducible refine (State.ringClaim_frame _ _).after (by decide) ?_
    | with_reducible refine (State.withdraw_frame _ _).after (by decide) ?_
    | with_reducible refine Frame.ite ?_ ?_
    | split

theorem State.writePlk_frame s a1 a2 a3 a4 : Frame [.regs, .dies, .ports, .rcopies, .dev, .awn] s (State.writePlk s a1 a2 a3 a4) := by
  unfold State.writePlk
  try dsimp only
  repeat' first
    | with_reducible exact Frame.refl _ _
    | with_reducible refine (State.writePlkCtrl_frame _ _ _).after (by decide) ?_
    | with_reducible refine (State.writeRcCfg_frame _ _ _).after (by decide) ?_
    | with_reducible refine (State.writeGen_frame _ _ _ _ _).after (by decide) ?_
    | with_reducible refine Frame.ite ?_ ?_
    | split

theorem State.writeIngest_frame s a1 a2 a3 a4 : Frame [.regs, .dies, .dev, .ingest, .out] s (State.writeIngest s a1 a2 a3 a4) := by
  unfold State.writeIngest
  try dsimp only
  repeat' first
    | with_reducible exact Frame.refl _ _
    | with_reducible refine (ingestEnableEffect_frame _ _).after (by decide) ?_
    | with_reducible refine (State.wr_frame _ _ _ _).after (by decide) ?_
    | with_reducible refine (State.writeGen_frame _ _ _ _ _).after (by decide) ?_
    | with_reducible refine Frame.ite ?_ ?_
    | split

theorem State.writeKvp_frame s a1 a2 a3 a4 : Frame [.regs, .pages] s (State.writeKvp s a1 a2 a3 a4) := by
  unfold State.writeKvp
  try dsimp only
  repeat' first
    | with_reducible exact Frame.refl _ _
    | with_reducible refine (kvpEnableEffect_frame _ _ _).after (by decide) ?_
    | with_reducible refine (entrySelEffect_frame _ _ _).after (by decide) ?_
    | with_reducible refine (State.writeGen_frame _ _ _ _ _).after (by decide) ?_
    | with_reducible refine Frame.ite ?_ ?_
    | split

theorem State.writeEcc_frame s a1 a2 a3 a4 : Frame [.regs, .dies, .hbms, .dev, .out] s (State.writeEcc s a1 a2 a3 a4) := by
  unfold State.writeEcc
  try dsimp only
  repeat' first
    | with_reducible exact Frame.refl _ _
    | with_reducible refine (eccTestEnEffect_frame _ _ _).after (by decide) ?_
    | with_reducible refine (State.writeGen_frame _ _ _ _ _).after (by decide) ?_
    | with_reducible refine (eccTestWriteEffect_frame _ _).after (by decide) ?_
    | with_reducible refine (eccTestReadEffect_frame _ _).after (by decide) ?_
    | with_reducible refine Frame.ite ?_ ?_
    | split

theorem State.writeSrv_frame s a1 a2 a3 a4 : Frame [.regs] s (State.writeSrv s a1 a2 a3 a4) := by
  unfold State.writeSrv
  try dsimp only
  repeat' first
    | with_reducible exact Frame.refl _ _
    | with_reducible refine (State.writeFields_frame _ _ _ _ _ _).after (by decide) ?_
    | with_reducible refine (State.wrB_frame _ _ _ _).after (by decide) ?_
    | with_reducible refine (State.refuse_frame _ _).after (by decide) ?_
    | with_reducible refine (seqSelEffect_frame _ _).after (by decide) ?_
    | with_reducible refine (State.writeGen_frame _ _ _ _ _).after (by decide) ?_
    | with_reducible refine Frame.ite ?_ ?_
    | split
    | with_reducible refine Frame.of_pair (by assumption) ?_

theorem State.writeMdl_frame s a1 a2 a3 a4 : Frame [.regs, .cores, .dies, .hbms, .dev, .host, .pages, .srv, .ingest, .out] s (State.writeMdl s a1 a2 a3 a4) := by
  unfold State.writeMdl
  try dsimp only
  repeat' first
    | with_reducible exact Frame.refl _ _
    | with_reducible refine (State.modMdl_frame _ _ _).after (by decide) ?_
    | with_reducible refine (State.writeGen_frame _ _ _ _ _).after (by decide) ?_
    | with_reducible refine (modelSwapEffect_frame _ _).after (by decide) ?_
    | with_reducible refine (modelUnloadEffect_frame _ _).after (by decide) ?_
    | with_reducible refine Frame.ite ?_ ?_
    | split

theorem State.writeFnw_frame s a1 a2 a3 a4 : Frame [.regs, .dies, .host, .srv, .out] s (State.writeFnw s a1 a2 a3 a4) := by
  unfold State.writeFnw
  try dsimp only
  repeat' first
    | with_reducible exact Frame.refl _ _
    | with_reducible refine (reqTailEffect_frame _ _ _).after (by decide) ?_
    | with_reducible refine (ringEnableEffect_frame _ _ _ _).after (by decide) ?_
    | with_reducible refine (resHeadEffect_frame _ _ _).after (by decide) ?_
    | with_reducible refine (State.writeGen_frame _ _ _ _ _).after (by decide) ?_
    | with_reducible refine Frame.ite ?_ ?_
    | split

theorem State.writeFlt_frame s a1 a2 a3 a4 : Frame [.regs, .tiles, .engines, .cores, .dies, .hbms, .dev, .host, .cstore, .pages, .srv, .ingest, .awn, .flt, .nvm, .out] s (State.writeFlt s a1 a2 a3 a4) := by
  unfold State.writeFlt
  try dsimp only
  repeat' first
    | with_reducible exact Frame.refl _ _
    | with_reducible refine (logHeadEffect_frame _ _).after (by decide) ?_
    | with_reducible refine (logSelEffect_frame _ _).after (by decide) ?_
    | with_reducible refine (migReqEffect_frame _ _).after (by decide) ?_
    | with_reducible refine (State.wr_frame _ _ _ _).after (by decide) ?_
    | with_reducible refine (coreRedirEffect_frame _ _ _).after (by decide) ?_
    | with_reducible refine (State.writeGen_frame _ _ _ _ _).after (by decide) ?_
    | with_reducible refine Frame.ite ?_ ?_
    | split

theorem State.writeRst_frame s a1 a2 a3 a4 : Frame [.regs, .tiles, .engines, .cores, .dies, .cstore, .awn, .out] s (State.writeRst s a1 a2 a3 a4) := by
  unfold State.writeRst
  try dsimp only
  repeat' first
    | with_reducible exact Frame.refl _ _
    | with_reducible refine (coreRstAssertEffect_frame _ _ _).after (by decide) ?_
    | with_reducible refine (coreRstReleaseEffect_frame _ _).after (by decide) ?_
    | with_reducible refine (State.wrB_frame _ _ _ _).after (by decide) ?_
    | with_reducible refine (State.writeGen_frame _ _ _ _ _).after (by decide) ?_
    | with_reducible refine Frame.ite ?_ ?_
    | split

theorem State.writeBlock_frame s a1 a2 a3 a4 : Frame [.regs, .tiles, .engines, .cores, .dies, .hbms, .ports, .rcopies, .dev, .host, .cstore, .pages, .srv, .ingest, .awn, .flt, .nvm, .sec, .out] s (State.writeBlock s a1 a2 a3 a4) := by
  unfold State.writeBlock
  try dsimp only
  repeat' first
    | with_reducible exact Frame.refl _ _
    | with_reducible refine (State.writeTile_frame _ _ _ _ _).after (by decide) ?_
    | with_reducible refine (State.writeEng_frame _ _ _ _ _).after (by decide) ?_
    | with_reducible refine (State.writeCore_frame _ _ _ _ _).after (by decide) ?_
    | with_reducible refine (State.writeChk_frame _ _ _ _ _).after (by decide) ?_
    | with_reducible refine (xlateWriteEffect_frame _ _ _).after (by decide) ?_
    | with_reducible refine (State.writeGen_frame _ _ _ _ _).after (by decide) ?_
    | with_reducible refine (routeWriteEffect_frame _ _ _ _).after (by decide) ?_
    | with_reducible refine (rmapSelEffect_frame _ _ _).after (by decide) ?_
    | with_reducible refine (State.writePlk_frame _ _ _ _ _).after (by decide) ?_
    | with_reducible refine (State.writeIngest_frame _ _ _ _ _).after (by decide) ?_
    | with_reducible refine (State.writeKvp_frame _ _ _ _ _).after (by decide) ?_
    | with_reducible refine (State.writeSrv_frame _ _ _ _ _).after (by decide) ?_
    | with_reducible refine (State.writeMdl_frame _ _ _ _ _).after (by decide) ?_
    | with_reducible refine (State.writeFnw_frame _ _ _ _ _).after (by decide) ?_
    | with_reducible refine (State.writeFlt_frame _ _ _ _ _).after (by decide) ?_
    | with_reducible refine (State.writeEcc_frame _ _ _ _ _).after (by decide) ?_
    | with_reducible refine (hkadcTrigEffect_frame _ _).after (by decide) ?_
    | with_reducible refine (State.writeRst_frame _ _ _ _ _).after (by decide) ?_
    | with_reducible refine (cfgCommitEffect_frame _ _).after (by decide) ?_
    | with_reducible refine (semSelEffect_frame _ _).after (by decide) ?_
    | with_reducible refine (semViewEffect_frame _ _).after (by decide) ?_
    | with_reducible refine Frame.ite ?_ ?_
    | split

theorem State.writeReg_frame s a1 a2 a3 a4 : Frame [.regs, .tiles, .engines, .cores, .dies, .hbms, .ports, .rcopies, .dev, .host, .cstore, .pages, .srv, .ingest, .awn, .flt, .nvm, .sec, .out] s (State.writeReg s a1 a2 a3 a4) := by
  unfold State.writeReg
  try dsimp only
  repeat' first
    | with_reducible exact Frame.refl _ _
    | with_reducible refine (State.writeHeader_frame _ _ _ _).after (by decide) ?_
    | with_reducible refine (State.capErr_frame _ _ _).after (by decide) ?_
    | with_reducible refine (State.writeBlock_frame _ _ _ _ _).after (by decide) ?_
    | with_reducible refine Frame.ite ?_ ?_
    | split

theorem State.readReg_frame s a1 a2 a3 : Frame [.regs, .dies, .host, .srv, .power, .out] s (State.readReg s a1 a2 a3) := by
  unfold State.readReg
  try dsimp only
  repeat' first
    | with_reducible exact Frame.refl _ _
    | with_reducible refine (nvmReadEffect_frame _).after (by decide) ?_
    | with_reducible refine (ptmReadEffect_frame _).after (by decide) ?_
    | with_reducible refine (State.send_frame _ _).after (by decide) ?_
    | with_reducible refine (resPopEffect_frame _ _).after (by decide) ?_
    | with_reducible refine (resPeekEffect_frame _ _).after (by decide) ?_
    | with_reducible refine Frame.ite ?_ ?_
    | split
    | with_reducible refine (Frame.upd_power _ _).after (by decide) ?_

theorem State.perform_frame s a1 a2 a3 a4 : Frame [.regs, .tiles, .engines, .cores, .dies, .hbms, .ports, .rcopies, .dev, .host, .cstore, .pages, .srv, .ingest, .awn, .flt, .nvm, .sec, .power, .out] s (State.perform s a1 a2 a3 a4) := by
  unfold State.perform
  try dsimp only
  repeat' first
    | with_reducible exact Frame.refl _ _
    | with_reducible refine (State.writeReg_frame _ _ _ _ _).after (by decide) ?_
    | with_reducible refine (State.readReg_frame _ _ _ _).after (by decide) ?_
    | split

theorem State.regAccess_frame s a1 a2 a3 a4 a5 : Frame [.regs, .tiles, .engines, .cores, .dies, .hbms, .ports, .rcopies, .dev, .host, .cstore, .pages, .srv, .ingest, .awn, .flt, .nvm, .sec, .power, .out] s (State.regAccess s a1 a2 a3 a4 a5) := by
  unfold State.regAccess
  try dsimp only
  repeat' first
    | with_reducible exact Frame.refl _ _
    | with_reducible refine (State.extRefuse_frame _ _ _ _).after (by decide) ?_
    | with_reducible refine (State.send_frame _ _).after (by decide) ?_
    | with_reducible refine (State.refuse_frame _ _).after (by decide) ?_
    | with_reducible refine (State.inc_frame _ _ _ _).after (by decide) ?_
    | with_reducible refine (State.holdAccess_frame _ _ _ _ _).after (by decide) ?_
    | with_reducible refine (State.perform_frame _ _ _ _ _).after (by decide) ?_
    | with_reducible refine Frame.ite ?_ ?_
    | split

end Sys2Proof.Machine
end

