-- ==== Sys2Proof/Laws/FrameAccess.lean ====
section
/-! SUPPORT. The frames of the operations of Machine/Access.lean. -/

namespace Sys2Proof.Machine

set_option linter.unusedTactic false
set_option linter.unreachableTactic false

theorem State.refuseAccess_frame s a1 a2 a3 : Frame [.regs, .engines, .cores, .dies, .awn, .out] s (State.refuseAccess s a1 a2 a3) := by
  unfold State.refuseAccess
  try dsimp only
  repeat' first
    | with_reducible exact Frame.refl _ _
    | with_reducible refine (State.extRefuse_frame _ _ _ _).after (by decide) ?_
    | with_reducible refine (State.send_frame _ _).after (by decide) ?_
    | with_reducible refine (State.emitLimited_frame _ _ _ _ _ _ _).after (by decide) ?_
    | with_reducible refine (State.irq_frame _ _ _).after (by decide) ?_
    | with_reducible refine (State.inc_frame _ _ _ _).after (by decide) ?_
    | with_reducible refine (State.haltFault_frame _ _ _ _ _ _).after (by decide) ?_
    | with_reducible refine (tillerTrapEffect_frame _ _ _ _).after (by decide) ?_
    | with_reducible refine (State.emit_frame _ _ _ _).after (by decide) ?_
    | with_reducible refine Frame.ite ?_ ?_
    | split

theorem State.countPeer_frame s a1 a2 : Frame [.regs] s (State.countPeer s a1 a2) := by
  unfold State.countPeer
  try dsimp only
  repeat' first
    | with_reducible exact Frame.refl _ _
    | with_reducible refine (State.inc_frame _ _ _ _).after (by decide) ?_
    | with_reducible refine Frame.ite ?_ ?_
    | split

theorem State.serveAccess_frame s a1 a2 a3 : Frame [.regs, .tiles, .engines, .cores, .dies, .hbms, .ports, .rcopies, .dev, .host, .cstore, .pages, .srv, .ingest, .awn, .flt, .nvm, .sec, .power, .out] s (State.serveAccess s a1 a2 a3) := by
  unfold State.serveAccess
  try dsimp only
  repeat' first
    | with_reducible exact Frame.refl _ _
    | with_reducible refine (State.refuseAccess_frame _ _ _ _).after (by decide) ?_
    | with_reducible refine (State.countPeer_frame _ _ _).after (by decide) ?_
    | with_reducible refine (State.regAccess_frame _ _ _ _ _ _).after (by decide) ?_
    | with_reducible refine (State.apertureEffect_frame _ _ _ _).after (by decide) ?_
    | with_reducible refine (State.send_frame _ _).after (by decide) ?_
    | with_reducible refine (State.modStack_frame _ _ _).after (by decide) ?_
    | with_reducible refine (State.serveWord_frame _ _ _ _).after (by decide) ?_
    | with_reducible refine Frame.ite ?_ ?_
    | split

theorem memAccessEffect_frame s a1 a2 a3 : Frame [.regs, .tiles, .engines, .cores, .dies, .hbms, .ports, .rcopies, .dev, .host, .cstore, .pages, .srv, .ingest, .awn, .flt, .nvm, .sec, .power, .out] s (memAccessEffect s a1 a2 a3) := by
  unfold memAccessEffect
  try dsimp only
  repeat' first
    | with_reducible exact Frame.refl _ _
    | with_reducible refine (State.extRefuse_frame _ _ _ _).after (by decide) ?_
    | with_reducible refine (State.serveAccess_frame _ _ _ _).after (by decide) ?_
    | with_reducible refine Frame.ite ?_ ?_
    | split

theorem bar2Effect_frame s a1 a2 a3 : Frame [.regs, .tiles, .engines, .cores, .dies, .hbms, .ports, .rcopies, .dev, .host, .cstore, .pages, .srv, .ingest, .awn, .flt, .nvm, .sec, .power, .out] s (bar2Effect s a1 a2 a3) := by
  unfold bar2Effect
  try dsimp only
  repeat' first
    | with_reducible exact Frame.refl _ _
    | with_reducible refine (State.extRefuse_frame _ _ _ _).after (by decide) ?_
    | with_reducible refine (memAccessEffect_frame _ _ _ _).after (by decide) ?_
    | with_reducible refine (State.inc_frame _ _ _ _).after (by decide) ?_
    | with_reducible refine Frame.ite ?_ ?_
    | split

theorem State.msixPut_frame s a1 a2 a3 : Frame [.out] s (State.msixPut s a1 a2 a3) := Frame.upd_msix _ _

theorem State.msixLift_frame s a1 a2 : Frame [.out] s (State.msixLift s a1 a2) := by
  unfold State.msixLift
  dsimp only
  split
  · exact (State.sendMsix_frame _ _ _).after (by decide) (Frame.upd_msix _ _)
  · exact Frame.refl _ _

theorem State.msixWrite_frame s a1 a2 a3 a4 : Frame [.regs, .out] s (State.msixWrite s a1 a2 a3 a4) := by
  unfold State.msixWrite
  try dsimp only
  repeat' first
    | with_reducible exact Frame.refl _ _
    | with_reducible refine (State.msixLift_frame _ _ _).after (by decide) ?_
    | with_reducible refine (State.msixPut_frame _ _ _ _).after (by decide) ?_
    | with_reducible refine (State.send_frame _ _).after (by decide) ?_
    | with_reducible refine (State.inc_frame _ _ _ _).after (by decide) ?_
    | with_reducible refine Frame.ite ?_ ?_
    | split

theorem State.fnBarWrite_frame s a1 a2 a3 a4 : Frame [.regs, .tiles, .engines, .cores, .dies, .hbms, .ports, .rcopies, .dev, .host, .cstore, .pages, .srv, .ingest, .awn, .flt, .nvm, .sec, .power, .out] s (State.fnBarWrite s a1 a2 a3 a4) := by
  unfold State.fnBarWrite
  repeat' first
    | with_reducible exact Frame.refl _ _
    | with_reducible refine (State.regAccess_frame _ _ _ _ _ _).after (by decide) ?_
    | with_reducible refine (State.msixWrite_frame _ _ _ _ _).after (by decide) ?_
    | with_reducible refine (State.send_frame _ _).after (by decide) ?_
    | with_reducible refine Frame.ite ?_ ?_
    | split

theorem registerWriteEffect_frame s a1 a2 a3 : Frame [.regs, .tiles, .engines, .cores, .dies, .hbms, .ports, .rcopies, .dev, .host, .cstore, .pages, .srv, .ingest, .awn, .flt, .nvm, .sec, .power, .out] s (registerWriteEffect s a1 a2 a3) := by
  unfold registerWriteEffect
  try dsimp only
  repeat' first
    | with_reducible exact Frame.refl _ _
    | with_reducible refine (State.extRefuse_frame _ _ _ _).after (by decide) ?_
    | with_reducible refine (State.fnBarWrite_frame _ _ _ _ _).after (by decide) ?_
    | with_reducible refine (State.regAccess_frame _ _ _ _ _ _).after (by decide) ?_
    | with_reducible refine Frame.ite ?_ ?_
    | split

theorem xingTimeoutEffect_frame s a1 : Frame [.regs, .dies, .out] s (xingTimeoutEffect s a1) := by
  unfold xingTimeoutEffect
  try dsimp only
  repeat' first
    | with_reducible exact Frame.refl _ _
    | with_reducible refine (State.modDie_frame _ _ _).after (by decide) ?_
    | with_reducible refine (State.emit_frame _ _ _ _).after (by decide) ?_
    | with_reducible refine (State.inc_frame _ _ _ _).after (by decide) ?_
    | with_reducible refine (State.send_frame _ _).after (by decide) ?_
    | split

theorem State.performHeld_frame s a1 : Frame [.regs, .tiles, .engines, .cores, .dies, .hbms, .ports, .rcopies, .dev, .host, .cstore, .pages, .srv, .ingest, .awn, .flt, .nvm, .sec, .power, .out] s (State.performHeld s a1) := by
  unfold State.performHeld
  try dsimp only
  repeat' first
    | with_reducible exact Frame.refl _ _
    | with_reducible refine (State.refuse_frame _ _).after (by decide) ?_
    | with_reducible refine (State.perform_frame _ _ _ _ _).after (by decide) ?_
    | with_reducible refine Frame.ite ?_ ?_
    | split
    | with_reducible refine (Frame.upd_out _ _).after (by decide) ?_

theorem crossingReleaseEffect_frame s a1 : Frame [.regs, .tiles, .engines, .cores, .dies, .hbms, .ports, .rcopies, .dev, .host, .cstore, .pages, .srv, .ingest, .awn, .flt, .nvm, .sec, .power, .out] s (crossingReleaseEffect s a1) := by
  unfold crossingReleaseEffect
  try dsimp only
  repeat' first
    | with_reducible exact Frame.refl _ _
    | with_reducible refine (State.performHeld_frame _ _).after (by decide) ?_
    | with_reducible refine (State.modDie_frame _ _ _).after (by decide) ?_
    | with_reducible refine Frame.ite ?_ ?_
    | with_reducible refine Frame.foldl (fun _ _ => ?_) _ ?_
    | split

end Sys2Proof.Machine
end

