-- ==== Sys2Proof/Laws/FrameExec.lean ====
section
/-! SUPPORT. The frame of every meaning: where it executes, only the parts `mayChange` lists change, and memories in canonical
form stay in it. -/

namespace Sys2Proof.Machine

set_option linter.unusedTactic false
set_option linter.unreachableTactic false

theorem Frame.of_onWf {P : List Part} {s t' t : State} {i : Instr} (hg : ∀ p ∈ [Part.regs, .dies, .out], p ∈ P)
    (h : onWf s i t' = .next t) (hp : Frame P s t') : Frame P s t := by
  unfold onWf at h
  split at h
  · cases h
    exact State.gated_frame s i t' hg hp
  · cases h

theorem Frame.of_onWf_work {P : List Part} {s t' t : State} {i : Instr} (hn : ∀ s : State, s.rowWrite i = none)
    (hk : gateOf i = .work ∨ gateOf i = .stops ∨ gateOf i = .always) (h : onWf s i t' = .next t) (hp : Frame P s t') :
    Frame P s t := by
  unfold onWf at h
  split at h
  · cases h
    unfold State.gated
    rw [hn]
    split
    · rcases hk with e | e | e <;> rw [e] <;> dsimp only
      · exact Frame.ite (Frame.refl _ _) hp
      · exact Frame.refl _ _
      · exact hp
    · exact hp
  · cases h

theorem execPassEnd_frame {c e t dev s T} (h : execPassEnd c e t dev s = .next T) :
    Frame [.regs, .tiles, .cores, .out] s T := by
  unfold execPassEnd at h
  refine Frame.of_onWf_work (fun _ => rfl) (.inl rfl) h ?_
  repeat' first
    | with_reducible exact Frame.refl _ _
    | with_reducible refine (passEndEffect_frame _ _ _ _ _).after (by decide) ?_
    | split

theorem execVectorPlan_frame {c e t s T} (h : execVectorPlan c e t s = .next T) :
    Frame [.regs, .tiles, .out] s T := by
  unfold execVectorPlan at h
  refine Frame.of_onWf_work (fun _ => rfl) (.inl rfl) h ?_
  repeat' first
    | with_reducible exact Frame.refl _ _
    | with_reducible refine (vectorPlanEffect_frame _ _ _ _).after (by decide) ?_
    | split

theorem execVectorReissue_frame {c e t s T} (h : execVectorReissue c e t s = .next T) :
    Frame [.regs, .tiles, .out] s T := by
  unfold execVectorReissue at h
  refine Frame.of_onWf_work (fun _ => rfl) (.inl rfl) h ?_
  repeat' first
    | with_reducible exact Frame.refl _ _
    | with_reducible refine (vectorReissueEffect_frame _ _ _ _).after (by decide) ?_
    | split

theorem execTileReset_frame {c e t s T} (h : execTileReset c e t s = .next T) :
    Frame [.regs, .tiles, .engines, .dies, .out] s T := by
  unfold execTileReset at h
  refine Frame.of_onWf (by decide) h ?_
  repeat' first
    | with_reducible exact Frame.refl _ _
    | with_reducible refine (tileResetEffect_frame _ _ _ _).after (by decide) ?_
    | split

theorem execTileResetEnd_frame {c e t s T} (h : execTileResetEnd c e t s = .next T) :
    Frame [.regs, .tiles, .engines, .dies] s T := by
  unfold execTileResetEnd at h
  refine Frame.of_onWf_work (fun _ => rfl) (.inl rfl) h ?_
  repeat' first
    | with_reducible exact Frame.refl _ _
    | with_reducible refine (tileResetEndEffect_frame _ _ _ _).after (by decide) ?_
    | split

theorem execTileEnableWrite_frame {c e t v s T} (h : execTileEnableWrite c e t v s = .next T) :
    Frame [.regs, .tiles, .dies, .out] s T := by
  unfold execTileEnableWrite at h
  refine Frame.of_onWf (by decide) h ?_
  repeat' first
    | with_reducible exact Frame.refl _ _
    | with_reducible refine (tileEnableEffect_frame _ _ _ _ _).after (by decide) ?_
    | split

theorem execTileDisableEffect_frame {c e t s T} (h : execTileDisableEffect c e t s = .next T) :
    Frame [.regs, .tiles] s T := by
  unfold execTileDisableEffect at h
  refine Frame.of_onWf_work (fun _ => rfl) (.inl rfl) h ?_
  repeat' first
    | with_reducible exact Frame.refl _ _
    | with_reducible refine (tileDisableEffect_frame _ _ _ _).after (by decide) ?_
    | split

theorem execColmapWrite_frame {c e t i v s T} (h : execColmapWrite c e t i v s = .next T) :
    Frame [.regs, .dies, .out] s T := by
  unfold execColmapWrite at h
  refine Frame.of_onWf (by decide) h ?_
  repeat' first
    | with_reducible exact Frame.refl _ _
    | with_reducible refine (colmapWriteEffect_frame _ _ _ _ _ _).after (by decide) ?_
    | split

theorem execTileCfgWrite_frame {c e t v s T} (h : execTileCfgWrite c e t v s = .next T) :
    Frame [.regs, .dies, .out] s T := by
  unfold execTileCfgWrite at h
  refine Frame.of_onWf (by decide) h ?_
  repeat' first
    | with_reducible exact Frame.refl _ _
    | with_reducible refine (tileCfgEffect_frame _ _ _ _ _).after (by decide) ?_
    | split

theorem execCalApplyRequest_frame {c e t s T} (h : execCalApplyRequest c e t s = .next T) :
    Frame [.regs, .tiles, .dies, .out] s T := by
  unfold execCalApplyRequest at h
  refine Frame.of_onWf (by decide) h ?_
  repeat' first
    | with_reducible exact Frame.refl _ _
    | with_reducible refine (calApplyReqEffect_frame _ _ _ _).after (by decide) ?_
    | split

theorem execApplyEffect_frame {c e t s T} (h : execApplyEffect c e t s = .next T) :
    Frame [.regs, .tiles] s T := by
  unfold execApplyEffect at h
  refine Frame.of_onWf_work (fun _ => rfl) (.inl rfl) h ?_
  repeat' first
    | with_reducible exact Frame.refl _ _
    | with_reducible refine (applyEffectEffect_frame _ _ _ _).after (by decide) ?_
    | split

theorem execCalSave_frame {c e t s T} (h : execCalSave c e t s = .next T) :
    Frame [.regs, .dies, .cstore, .out] s T := by
  unfold execCalSave at h
  refine Frame.of_onWf (by decide) h ?_
  repeat' first
    | with_reducible exact Frame.refl _ _
    | with_reducible refine (calSaveEffect_frame _ _ _ _).after (by decide) ?_
    | split

theorem execCalLoad_frame {c e t s T} (h : execCalLoad c e t s = .next T) :
    Frame [.regs, .tiles, .dies, .out] s T := by
  unfold execCalLoad at h
  refine Frame.of_onWf (by decide) h ?_
  repeat' first
    | with_reducible exact Frame.refl _ _
    | with_reducible refine (calLoadEffect_frame _ _ _ _).after (by decide) ?_
    | split

theorem execCalLoadVerifyDone_frame {c e t pass s T} (h : execCalLoadVerifyDone c e t pass s = .next T) :
    Frame [.regs, .tiles, .dies] s T := by
  unfold execCalLoadVerifyDone at h
  refine Frame.of_onWf_work (fun _ => rfl) (.inl rfl) h ?_
  repeat' first
    | with_reducible exact Frame.refl _ _
    | with_reducible refine (calVerifyEffect_frame _ _ _ _ _).after (by decide) ?_
    | split

theorem execCalRecal_frame {c e t s T} (h : execCalRecal c e t s = .next T) :
    Frame [.regs, .engines, .dies, .out] s T := by
  unfold execCalRecal at h
  refine Frame.of_onWf (by decide) h ?_
  repeat' first
    | with_reducible exact Frame.refl _ _
    | with_reducible refine (State.toFront_frame _ _ _ _).after (by decide) ?_
    | split

theorem execTrackWindow_frame {c e t s T} (h : execTrackWindow c e t s = .next T) :
    Frame [.regs, .tiles, .engines, .dies, .out] s T := by
  unfold execTrackWindow at h
  refine Frame.of_onWf_work (fun _ => rfl) (.inl rfl) h ?_
  repeat' first
    | with_reducible exact Frame.refl _ _
    | with_reducible refine (trackWindowEffect_frame _ _ _ _).after (by decide) ?_
    | split

theorem execRefreshRow_frame {c e t b s T} (h : execRefreshRow c e t b s = .next T) :
    Frame [.regs, .tiles, .dies, .out] s T := by
  unfold execRefreshRow at h
  refine Frame.of_onWf_work (fun _ => rfl) (.inl rfl) h ?_
  repeat' first
    | with_reducible exact Frame.refl _ _
    | with_reducible refine (refreshRowEffect_frame _ _ _ _ _).after (by decide) ?_
    | split

theorem execRefreshSlot_frame {c e t s T} (h : execRefreshSlot c e t s = .next T) :
    Frame [.regs, .tiles, .dies, .out] s T := by
  unfold execRefreshSlot at h
  refine Frame.of_onWf_work (fun _ => rfl) (.inl rfl) h ?_
  repeat' first
    | with_reducible exact Frame.refl _ _
    | with_reducible refine (refreshSlotEffect_frame _ _ _ _).after (by decide) ?_
    | split

theorem execBankWrite_frame {c e s T} (h : execBankWrite c e s = .next T) :
    Frame [.regs, .tiles, .engines, .cores, .dies, .awn, .out] s T := by
  unfold execBankWrite at h
  refine Frame.of_onWf_work (fun _ => rfl) (.inl rfl) h ?_
  repeat' first
    | with_reducible exact Frame.refl _ _
    | with_reducible refine (bankWriteEffect_frame _ _ _).after (by decide) ?_
    | split

theorem execBankWriteDone_frame {c e t b s T} (h : execBankWriteDone c e t b s = .next T) :
    Frame [.regs, .tiles, .engines, .dies] s T := by
  unfold execBankWriteDone at h
  refine Frame.of_onWf_work (fun _ => rfl) (.inl rfl) h ?_
  repeat' first
    | with_reducible exact Frame.refl _ _
    | with_reducible refine (bankWriteDoneEffect_frame _ _ _ _ _).after (by decide) ?_
    | split

theorem execBankSwap_frame {c e s T} (h : execBankSwap c e s = .next T) :
    Frame [.regs, .engines, .cores, .dies, .awn, .out] s T := by
  unfold execBankSwap at h
  refine Frame.of_onWf_work (fun _ => rfl) (.inl rfl) h ?_
  repeat' first
    | with_reducible exact Frame.refl _ _
    | with_reducible refine (bankSwapIssueEffect_frame _ _ _).after (by decide) ?_
    | split

theorem execBankSwapJudge_frame {c e s T} (h : execBankSwapJudge c e s = .next T) :
    Frame [.regs, .engines, .cores, .dies, .awn, .out] s T := by
  unfold execBankSwapJudge at h
  refine Frame.of_onWf_work (fun _ => rfl) (.inl rfl) h ?_
  repeat' first
    | with_reducible exact Frame.refl _ _
    | with_reducible refine (bankSwapJudgeEffect_frame _ _ _).after (by decide) ?_
    | split

theorem execBankSwapEffect_frame {c e t s T} (h : execBankSwapEffect c e t s = .next T) :
    Frame [.regs, .tiles, .engines] s T := by
  unfold execBankSwapEffect at h
  refine Frame.of_onWf_work (fun _ => rfl) (.inl rfl) h ?_
  repeat' first
    | with_reducible exact Frame.refl _ _
    | with_reducible refine (bankSwapTileEffect_frame _ _ _ _).after (by decide) ?_
    | split

theorem execWearMoveStart_frame {c e t s T} (h : execWearMoveStart c e t s = .next T) :
    Frame [.regs, .tiles, .dies] s T := by
  unfold execWearMoveStart at h
  refine Frame.of_onWf_work (fun _ => rfl) (.inl rfl) h ?_
  repeat' first
    | with_reducible exact Frame.refl _ _
    | with_reducible refine (wearStartEffect_frame _ _ _ _).after (by decide) ?_
    | split

theorem execWearMoveWriteDone_frame {c e t s T} (h : execWearMoveWriteDone c e t s = .next T) :
    Frame [.regs, .tiles, .engines, .dies] s T := by
  unfold execWearMoveWriteDone at h
  refine Frame.of_onWf_work (fun _ => rfl) (.inl rfl) h ?_
  repeat' first
    | with_reducible exact Frame.refl _ _
    | with_reducible refine (wearWriteDoneEffect_frame _ _ _ _).after (by decide) ?_
    | split

theorem execWearMoveSwap_frame {c e t s T} (h : execWearMoveSwap c e t s = .next T) :
    Frame [.regs, .tiles, .engines, .dies] s T := by
  unfold execWearMoveSwap at h
  refine Frame.of_onWf_work (fun _ => rfl) (.inl rfl) h ?_
  repeat' first
    | with_reducible exact Frame.refl _ _
    | with_reducible refine (wearSwapEffect_frame _ _ _ _).after (by decide) ?_
    | split

theorem execBankRelease_frame {c e v s T} (h : execBankRelease c e v s = .next T) :
    Frame [.regs, .tiles, .dies, .out] s T := by
  unfold execBankRelease at h
  refine Frame.of_onWf (by decide) h ?_
  repeat' first
    | with_reducible exact Frame.refl _ _
    | with_reducible refine (bankReleaseEffect_frame _ _ _ _).after (by decide) ?_
    | split

theorem execMvm_frame {c e s T} (h : execMvm c e s = .next T) :
    Frame [.regs, .tiles, .engines, .cores, .dies, .awn, .out] s T := by
  unfold execMvm at h
  refine Frame.of_onWf_work (fun _ => rfl) (.inl rfl) h ?_
  repeat' first
    | with_reducible exact Frame.refl _ _
    | with_reducible refine (mvmEffect_frame _ _ _ _ _).after (by decide) ?_
    | split

theorem execMvmAcc_frame {c e s T} (h : execMvmAcc c e s = .next T) :
    Frame [.regs, .tiles, .engines, .cores, .dies, .awn, .out] s T := by
  unfold execMvmAcc at h
  refine Frame.of_onWf_work (fun _ => rfl) (.inl rfl) h ?_
  repeat' first
    | with_reducible exact Frame.refl _ _
    | with_reducible refine (mvmEffect_frame _ _ _ _ _).after (by decide) ?_
    | split

theorem execGroupReduce_frame {c e s T} (h : execGroupReduce c e s = .next T) :
    Frame [.regs, .tiles, .engines, .dies, .out] s T := by
  unfold execGroupReduce at h
  refine Frame.of_onWf_work (fun _ => rfl) (.inl rfl) h ?_
  repeat' first
    | with_reducible exact Frame.refl _ _
    | with_reducible refine (groupReduceEffect_frame _ _ _).after (by decide) ?_
    | split

theorem execGlumeRecordDone_frame {c e s T} (h : execGlumeRecordDone c e s = .next T) :
    Frame [.fresh, .regs, .engines, .dies, .cstore, .out] s T := by
  unfold execGlumeRecordDone at h
  refine Frame.of_onWf_work (fun _ => rfl) (.inl rfl) h ?_
  repeat' first
    | with_reducible exact Frame.refl _ _
    | with_reducible refine (glumeDoneEffect_frame _ _ _).after (by decide) ?_
    | split

theorem execEngineOpComplete_frame {c e tag s T} (h : execEngineOpComplete c e tag s = .next T) :
    Frame [.regs, .tiles, .engines, .cores, .dies, .awn, .out] s T := by
  unfold execEngineOpComplete at h
  refine Frame.of_onWf_work (fun _ => rfl) (.inl rfl) h ?_
  repeat' first
    | with_reducible exact Frame.refl _ _
    | with_reducible refine (opCompleteEffect_frame _ _ _ _).after (by decide) ?_
    | split

theorem execAccClear_frame {c e s T} (h : execAccClear c e s = .next T) :
    Frame [.regs, .engines, .cores, .dies, .awn, .out] s T := by
  unfold execAccClear at h
  refine Frame.of_onWf_work (fun _ => rfl) (.inl rfl) h ?_
  repeat' first
    | with_reducible exact Frame.refl _ _
    | with_reducible refine (State.clearAcc_frame _ _ _ _).after (by decide) ?_
    | split
    | with_reducible refine State.accOp_frame _ _ _ _ _ _ (by decide) (fun _ _ => ?_) ?_

theorem execAccPromote_frame {c e s T} (h : execAccPromote c e s = .next T) :
    Frame [.regs, .engines, .cores, .dies, .awn, .out] s T := by
  unfold execAccPromote at h
  refine Frame.of_onWf_work (fun _ => rfl) (.inl rfl) h ?_
  repeat' first
    | with_reducible exact Frame.refl _ _
    | with_reducible refine (accPromoteEffect_frame _ _ _).after (by decide) ?_
    | split

theorem execAccSpillStore_frame {c e s T} (h : execAccSpillStore c e s = .next T) :
    Frame [.regs, .engines, .cores, .dies, .cstore, .awn, .out] s T := by
  unfold execAccSpillStore at h
  refine Frame.of_onWf_work (fun _ => rfl) (.inl rfl) h ?_
  repeat' first
    | with_reducible exact Frame.refl _ _
    | with_reducible refine (spillStore_frame _ _ _ _).after (by decide) ?_
    | split
    | with_reducible refine State.accOp_frame _ _ _ _ _ _ (by decide) (fun _ _ => ?_) ?_

theorem execAccSpillAdd_frame {c e s T} (h : execAccSpillAdd c e s = .next T) :
    Frame [.regs, .engines, .cores, .dies, .cstore, .awn, .out] s T := by
  unfold execAccSpillAdd at h
  refine Frame.of_onWf_work (fun _ => rfl) (.inl rfl) h ?_
  repeat' first
    | with_reducible exact Frame.refl _ _
    | with_reducible refine (spillAddEffect_frame _ _ _ _).after (by decide) ?_
    | split
    | with_reducible refine State.accOp_frame _ _ _ _ _ _ (by decide) (fun _ _ => ?_) ?_

theorem execAccSpillSave_frame {c e s T} (h : execAccSpillSave c e s = .next T) :
    Frame [.regs, .engines, .cores, .dies, .cstore, .awn, .out] s T := by
  unfold execAccSpillSave at h
  refine Frame.of_onWf_work (fun _ => rfl) (.inl rfl) h ?_
  repeat' first
    | with_reducible exact Frame.refl _ _
    | with_reducible refine (spillSave_frame _ _ _ _).after (by decide) ?_
    | split
    | with_reducible refine State.accOp_frame _ _ _ _ _ _ (by decide) (fun _ _ => ?_) ?_

theorem execAccResumeLoad_frame {c e s T} (h : execAccResumeLoad c e s = .next T) :
    Frame [.regs, .engines, .cores, .dies, .awn, .out] s T := by
  unfold execAccResumeLoad at h
  refine Frame.of_onWf_work (fun _ => rfl) (.inl rfl) h ?_
  repeat' first
    | with_reducible exact Frame.refl _ _
    | with_reducible refine (resumeLoad_frame _ _ _ _).after (by decide) ?_
    | split
    | with_reducible refine State.accOp_frame _ _ _ _ _ _ (by decide) (fun _ _ => ?_) ?_

theorem execAccResumeAdd_frame {c e s T} (h : execAccResumeAdd c e s = .next T) :
    Frame [.regs, .engines, .cores, .dies, .awn, .out] s T := by
  unfold execAccResumeAdd at h
  refine Frame.of_onWf_work (fun _ => rfl) (.inl rfl) h ?_
  repeat' first
    | with_reducible exact Frame.refl _ _
    | with_reducible refine (resumeAdd_frame _ _ _ _).after (by decide) ?_
    | split
    | with_reducible refine State.accOp_frame _ _ _ _ _ _ (by decide) (fun _ _ => ?_) ?_

theorem execAccResumeRestore_frame {c e s T} (h : execAccResumeRestore c e s = .next T) :
    Frame [.regs, .engines, .cores, .dies, .awn, .out] s T := by
  unfold execAccResumeRestore at h
  refine Frame.of_onWf_work (fun _ => rfl) (.inl rfl) h ?_
  repeat' first
    | with_reducible exact Frame.refl _ _
    | with_reducible refine (resumeRestore_frame _ _ _ _).after (by decide) ?_
    | split
    | with_reducible refine State.accOp_frame _ _ _ _ _ _ (by decide) (fun _ _ => ?_) ?_

theorem execAccRead_frame {c e s T} (h : execAccRead c e s = .next T) :
    Frame [.regs, .engines, .cores, .dies, .cstore, .awn, .out] s T := by
  unfold execAccRead at h
  refine Frame.of_onWf_work (fun _ => rfl) (.inl rfl) h ?_
  repeat' first
    | with_reducible exact Frame.refl _ _
    | with_reducible refine (accReadEffect_frame _ _ _ _).after (by decide) ?_
    | split
    | with_reducible refine State.accOp_frame _ _ _ _ _ _ (by decide) (fun _ _ => ?_) ?_

theorem execOutlierLoad_frame {c e s T} (h : execOutlierLoad c e s = .next T) :
    Frame [.regs, .engines, .cores, .dies, .awn, .out] s T := by
  unfold execOutlierLoad at h
  refine Frame.of_onWf_work (fun _ => rfl) (.inl rfl) h ?_
  repeat' first
    | with_reducible exact Frame.refl _ _
    | with_reducible refine (outlierLoadEffect_frame _ _ _).after (by decide) ?_
    | split

theorem execCheckForce_frame {c e s T} (h : execCheckForce c e s = .next T) :
    Frame [.regs, .engines, .cores, .dies, .awn, .out] s T := by
  unfold execCheckForce at h
  refine Frame.of_onWf_work (fun _ => rfl) (.inl rfl) h ?_
  repeat' first
    | with_reducible exact Frame.refl _ _
    | with_reducible refine (checkForceEffect_frame _ _ _).after (by decide) ?_
    | split

theorem execNop_frame {c s T} (h : execNop c s = .next T) :
    Frame [.regs, .engines, .cores, .dies, .awn, .out] s T := by
  unfold execNop at h
  refine Frame.of_onWf_work (fun _ => rfl) (.inl rfl) h ?_
  repeat' first
    | with_reducible exact Frame.refl _ _
    | split
    | with_reducible refine State.seqRun_frame _ _ _ _ _ (by decide) (fun _ _ => ?_) ?_

theorem execStreamEnd_frame {c s T} (h : execStreamEnd c s = .next T) :
    Frame [.regs, .engines, .cores, .dies, .awn, .out] s T := by
  unfold execStreamEnd at h
  refine Frame.of_onWf_work (fun _ => rfl) (.inl rfl) h ?_
  repeat' first
    | with_reducible exact Frame.refl _ _
    | with_reducible refine (streamEndEffect_frame _ _).after (by decide) ?_
    | split

theorem execSemWait_frame {c s T} (h : execSemWait c s = .next T) :
    Frame [.regs, .engines, .cores, .dies, .awn, .out] s T := by
  unfold execSemWait at h
  refine Frame.of_onWf_work (fun _ => rfl) (.inl rfl) h ?_
  repeat' first
    | with_reducible exact Frame.refl _ _
    | with_reducible refine (semWaitEffect_frame _ _).after (by decide) ?_
    | split

theorem execSemSignal_frame {c s T} (h : execSemSignal c s = .next T) :
    Frame [.regs, .engines, .cores, .dies, .awn, .out] s T := by
  unfold execSemSignal at h
  refine Frame.of_onWf_work (fun _ => rfl) (.inl rfl) h ?_
  repeat' first
    | with_reducible exact Frame.refl _ _
    | with_reducible refine (State.signal_frame _ _ _ _).after (by decide) ?_
    | split
    | with_reducible refine State.seqRun_frame _ _ _ _ _ (by decide) (fun _ _ => ?_) ?_

theorem execFence_frame {c s T} (h : execFence c s = .next T) :
    Frame [.regs, .engines, .cores, .dies, .awn, .out] s T := by
  unfold execFence at h
  refine Frame.of_onWf_work (fun _ => rfl) (.inl rfl) h ?_
  repeat' first
    | with_reducible exact Frame.refl _ _
    | with_reducible refine (State.signal_frame _ _ _ _).after (by decide) ?_
    | split
    | with_reducible refine State.seqRun_frame _ _ _ _ _ (by decide) (fun _ _ => ?_) ?_

theorem execDmaCopy_frame {c s T} (h : execDmaCopy c s = .next T) :
    Frame [.regs, .engines, .cores, .dies, .awn, .out] s T := by
  unfold execDmaCopy at h
  refine Frame.of_onWf_work (fun _ => rfl) (.inl rfl) h ?_
  repeat' first
    | with_reducible exact Frame.refl _ _
    | with_reducible refine (dmaCopyEffect_frame _ _).after (by decide) ?_
    | split

theorem execDmaCopyDone_frame {c k s T} (h : execDmaCopyDone c k s = .next T) :
    Frame [.regs, .engines, .cores, .dies, .hbms, .dev, .cstore, .awn, .out] s T := by
  unfold execDmaCopyDone at h
  refine Frame.of_onWf_work (fun _ => rfl) (.inl rfl) h ?_
  repeat' first
    | with_reducible exact Frame.refl _ _
    | with_reducible refine (dmaDoneEffect_frame _ _ _).after (by decide) ?_
    | split

theorem execTillerKick_frame {c t s T} (h : execTillerKick c t s = .next T) :
    Frame [.regs, .engines, .cores, .dies, .awn, .out] s T := by
  unfold execTillerKick at h
  refine Frame.of_onWf_work (fun _ => rfl) (.inl rfl) h ?_
  repeat' first
    | with_reducible exact Frame.refl _ _
    | with_reducible refine (tillerKickEffect_frame _ _ _).after (by decide) ?_
    | split

theorem execTillerDone_frame {c t s T} (h : execTillerDone c t s = .next T) :
    Frame [.regs, .engines, .cores, .dies, .awn, .out] s T := by
  unfold execTillerDone at h
  refine Frame.of_onWf_work (fun _ => rfl) (.inl rfl) h ?_
  repeat' first
    | with_reducible exact Frame.refl _ _
    | with_reducible refine (tillerDoneEffect_frame _ _ _).after (by decide) ?_
    | split

theorem execMboxRead_frame {c t s T} (h : execMboxRead c t s = .next T) :
    Frame [.cores, .out] s T := by
  unfold execMboxRead at h
  refine Frame.of_onWf_work (fun _ => rfl) (.inl rfl) h ?_
  repeat' first
    | with_reducible exact Frame.refl _ _
    | with_reducible refine (mboxReadEffect_frame _ _ _).after (by decide) ?_
    | split

theorem execTillerSemPortWrite_frame {c t sem n s T} (h : execTillerSemPortWrite c t sem n s = .next T) :
    Frame [.regs, .engines, .cores, .dies, .awn, .out] s T := by
  unfold execTillerSemPortWrite at h
  refine Frame.of_onWf_work (fun _ => rfl) (.inl rfl) h ?_
  repeat' first
    | with_reducible exact Frame.refl _ _
    | with_reducible refine (tillerSemEffect_frame _ _ _ _).after (by decide) ?_
    | split

theorem execTillerTrap_frame {c t cause s T} (h : execTillerTrap c t cause s = .next T) :
    Frame [.regs, .engines, .cores, .dies, .awn, .out] s T := by
  unfold execTillerTrap at h
  refine Frame.of_onWf_work (fun _ => rfl) (.inl rfl) h ?_
  repeat' first
    | with_reducible exact Frame.refl _ _
    | with_reducible refine (tillerTrapEffect_frame _ _ _ _).after (by decide) ?_
    | split

theorem execTillerReset_frame {c t s T} (h : execTillerReset c t s = .next T) :
    Frame [.regs, .dies, .out] s T := by
  unfold execTillerReset at h
  refine Frame.of_onWf (by decide) h ?_
  repeat' first
    | with_reducible exact Frame.refl _ _
    | split

theorem execStreamFetch_frame {c s T} (h : execStreamFetch c s = .next T) :
    Frame [.regs, .engines, .cores, .dies, .hbms, .awn, .out] s T := by
  unfold execStreamFetch at h
  refine Frame.of_onWf_work (fun _ => rfl) (.inl rfl) h ?_
  repeat' first
    | with_reducible exact Frame.refl _ _
    | with_reducible refine (streamFetchEffect_frame _ _).after (by decide) ?_
    | split

theorem execStartRecord_frame {c r s T} (h : execStartRecord c r s = .next T) :
    Frame [.regs, .engines, .cores, .out] s T := by
  unfold execStartRecord at h
  refine Frame.of_onWf_work (fun _ => rfl) (.inr (.inl rfl)) h ?_
  repeat' first
    | with_reducible exact Frame.refl _ _
    | with_reducible refine (startRecordEffect_frame _ _ _).after (by decide) ?_
    | split

theorem execCoreGo_frame {c s T} (h : execCoreGo c s = .next T) :
    Frame [.regs, .engines, .cores, .dies, .out] s T := by
  unfold execCoreGo at h
  refine Frame.of_onWf (by decide) h ?_
  repeat' first
    | with_reducible exact Frame.refl _ _
    | with_reducible refine (coreGoEffect_frame _ _).after (by decide) ?_
    | split

theorem execCoreHalt_frame {c s T} (h : execCoreHalt c s = .next T) :
    Frame [.regs, .engines, .cores, .dies, .awn, .out] s T := by
  unfold execCoreHalt at h
  refine Frame.of_onWf (by decide) h ?_
  repeat' first
    | with_reducible exact Frame.refl _ _
    | with_reducible refine (coreHaltEffect_frame _ _).after (by decide) ?_
    | split

theorem execStepAbort_frame {c step s T} (h : execStepAbort c step s = .next T) :
    Frame [.regs, .engines, .cores, .awn, .out] s T := by
  unfold execStepAbort at h
  refine Frame.of_onWf_work (fun _ => rfl) (.inl rfl) h ?_
  repeat' first
    | with_reducible exact Frame.refl _ _
    | with_reducible refine (stepAbortEffect_frame _ _ _).after (by decide) ?_
    | split

theorem execHaltComplete_frame {c s T} (h : execHaltComplete c s = .next T) :
    Frame [.regs, .engines, .cores, .out] s T := by
  unfold execHaltComplete at h
  refine Frame.of_onWf_work (fun _ => rfl) (.inl rfl) h ?_
  repeat' first
    | with_reducible exact Frame.refl _ _
    | with_reducible refine (haltCompleteEffect_frame _ _).after (by decide) ?_
    | split

theorem execStepEndReport_frame {c step s T} (h : execStepEndReport c step s = .next T) :
    Frame [.srv, .ingest, .flt, .out] s T := by
  unfold execStepEndReport at h
  refine Frame.of_onWf_work (fun _ => rfl) (.inr (.inl rfl)) h ?_
  repeat' first
    | with_reducible exact Frame.refl _ _
    | with_reducible refine (stepEndReportEffect_frame _ _ _).after (by decide) ?_
    | split

theorem execCheckCompare_frame {c e t selfDisagree s T} (h : execCheckCompare c e t selfDisagree s = .next T) :
    Frame [.regs, .tiles, .engines, .cores, .dies, .hbms, .dev, .host, .cstore, .pages, .srv, .ingest, .awn, .flt, .nvm, .out] s T := by
  unfold execCheckCompare at h
  refine Frame.of_onWf_work (fun _ => rfl) (.inl rfl) h ?_
  repeat' first
    | with_reducible exact Frame.refl _ _
    | with_reducible refine (checkCompareEffect_frame _ _ _ _ _).after (by decide) ?_
    | split

theorem execCheckRepeatDone_frame {c e t dev s T} (h : execCheckRepeatDone c e t dev s = .next T) :
    Frame [.regs, .tiles] s T := by
  unfold execCheckRepeatDone at h
  refine Frame.of_onWf_work (fun _ => rfl) (.inl rfl) h ?_
  repeat' first
    | with_reducible exact Frame.refl _ _
    | with_reducible refine (checkRepeatEffect_frame _ _ _ _ _).after (by decide) ?_
    | split

theorem execCheckOutcome_frame {c e t s T} (h : execCheckOutcome c e t s = .next T) :
    Frame [.regs, .tiles, .engines, .cores, .dies, .hbms, .dev, .host, .cstore, .pages, .srv, .ingest, .awn, .flt, .nvm, .out] s T := by
  unfold execCheckOutcome at h
  refine Frame.of_onWf_work (fun _ => rfl) (.inl rfl) h ?_
  repeat' first
    | with_reducible exact Frame.refl _ _
    | with_reducible refine (checkOutcomeEffect_frame _ _ _ _).after (by decide) ?_
    | split

theorem execRetireTakeover_frame {c e s T} (h : execRetireTakeover c e s = .next T) :
    Frame [.regs, .tiles, .engines, .dies, .flt, .out] s T := by
  unfold execRetireTakeover at h
  refine Frame.of_onWf_work (fun _ => rfl) (.inl rfl) h ?_
  repeat' first
    | with_reducible exact Frame.refl _ _
    | with_reducible refine (retireTakeoverEffect_frame _ _ _).after (by decide) ?_
    | split

theorem execChkSeedWrite_frame {c v s T} (h : execChkSeedWrite c v s = .next T) :
    Frame [.regs, .tiles, .dies, .out] s T := by
  unfold execChkSeedWrite at h
  refine Frame.of_onWf (by decide) h ?_
  repeat' first
    | with_reducible exact Frame.refl _ _
    | with_reducible refine (chkSeedEffect_frame _ _ _).after (by decide) ?_
    | split

theorem execLgSel_frame {c v s T} (h : execLgSel c v s = .next T) :
    Frame [.regs, .dies, .out] s T := by
  unfold execLgSel at h
  refine Frame.of_onWf (by decide) h ?_
  repeat' first
    | with_reducible exact Frame.refl _ _
    | with_reducible refine (lgSelEffect_frame _ _ _).after (by decide) ?_
    | split

theorem execLgClear_frame {c s T} (h : execLgClear c s = .next T) :
    Frame [.regs, .cores, .dies, .out] s T := by
  unfold execLgClear at h
  refine Frame.of_onWf (by decide) h ?_
  repeat' first
    | with_reducible exact Frame.refl _ _
    | with_reducible refine (State.modCore_frame _ _ _).after (by decide) ?_
    | split

theorem execDrefWrite_frame {c v s T} (h : execDrefWrite c v s = .next T) :
    Frame [.regs, .cores, .dies, .out] s T := by
  unfold execDrefWrite at h
  refine Frame.of_onWf (by decide) h ?_
  repeat' first
    | with_reducible exact Frame.refl _ _
    | with_reducible refine (drefEffect_frame _ _ _).after (by decide) ?_
    | split

theorem execStepSum_frame {c step s T} (h : execStepSum c step s = .next T) :
    Frame [.regs, .cores, .dies, .host, .srv, .out] s T := by
  unfold execStepSum at h
  refine Frame.of_onWf_work (fun _ => rfl) (.inr (.inl rfl)) h ?_
  repeat' first
    | with_reducible exact Frame.refl _ _
    | with_reducible refine (stepSumEffect_frame _ _ _).after (by decide) ?_
    | split

theorem execSummaryTimeout_frame {step s T} (h : execSummaryTimeout step s = .next T) :
    Frame [.regs, .dies, .host, .srv, .out] s T := by
  unfold execSummaryTimeout at h
  refine Frame.of_onWf_work (fun _ => rfl) (.inr (.inl rfl)) h ?_
  repeat' first
    | with_reducible exact Frame.refl _ _
    | with_reducible refine (summaryTimeoutEffect_frame _ _).after (by decide) ?_
    | split

theorem execCalSlot_frame {c e s T} (h : execCalSlot c e s = .next T) :
    Frame [.regs, .tiles, .engines, .dies, .out] s T := by
  unfold execCalSlot at h
  refine Frame.of_onWf_work (fun _ => rfl) (.inl rfl) h ?_
  repeat' first
    | with_reducible exact Frame.refl _ _
    | with_reducible refine (calSlotEffect_frame _ _ _).after (by decide) ?_
    | split

theorem execCalTakeover_frame {c e s T} (h : execCalTakeover c e s = .next T) :
    Frame [.regs, .tiles, .engines, .dies] s T := by
  unfold execCalTakeover at h
  refine Frame.of_onWf_work (fun _ => rfl) (.inl rfl) h ?_
  repeat' first
    | with_reducible exact Frame.refl _ _
    | with_reducible refine (calTakeoverEffect_frame _ _ _).after (by decide) ?_
    | split

theorem execCalTakeoverTimeout_frame {c e s T} (h : execCalTakeoverTimeout c e s = .next T) :
    Frame [.regs, .tiles, .engines, .dies, .out] s T := by
  unfold execCalTakeoverTimeout at h
  refine Frame.of_onWf_work (fun _ => rfl) (.inl rfl) h ?_
  repeat' first
    | with_reducible exact Frame.refl _ _
    | with_reducible refine (calTakeoverTimeoutEffect_frame _ _ _).after (by decide) ?_
    | split

theorem execCalProcedureEnd_frame {c e t m s T} (h : execCalProcedureEnd c e t m s = .next T) :
    Frame [.regs, .tiles, .engines, .cores, .dies, .hbms, .dev, .host, .cstore, .pages, .srv, .ingest, .awn, .flt, .nvm, .out] s T := by
  unfold execCalProcedureEnd at h
  refine Frame.of_onWf_work (fun _ => rfl) (.inl rfl) h ?_
  repeat' first
    | with_reducible exact Frame.refl _ _
    | with_reducible refine (calProcedureEffect_frame _ _ _ _ _).after (by decide) ?_
    | split

theorem execCalTimeout_frame {c e s T} (h : execCalTimeout c e s = .next T) :
    Frame [.regs, .tiles, .engines, .cores, .dies, .hbms, .dev, .host, .cstore, .pages, .srv, .ingest, .awn, .flt, .nvm, .out] s T := by
  unfold execCalTimeout at h
  refine Frame.of_onWf_work (fun _ => rfl) (.inl rfl) h ?_
  repeat' first
    | with_reducible exact Frame.refl _ _
    | with_reducible refine (calTimeoutEffect_frame _ _ _).after (by decide) ?_
    | split

theorem execCalReturn_frame {c e s T} (h : execCalReturn c e s = .next T) :
    Frame [.regs, .tiles, .engines, .dies] s T := by
  unfold execCalReturn at h
  refine Frame.of_onWf_work (fun _ => rfl) (.inl rfl) h ?_
  repeat' first
    | with_reducible exact Frame.refl _ _
    | with_reducible refine (calReturnEffect_frame _ _ _).after (by decide) ?_
    | split

theorem execCalOverdue_frame {c e t s T} (h : execCalOverdue c e t s = .next T) :
    Frame [.regs, .dies] s T := by
  unfold execCalOverdue at h
  refine Frame.of_onWf_work (fun _ => rfl) (.inl rfl) h ?_
  repeat' first
    | with_reducible exact Frame.refl _ _
    | with_reducible refine (calOverdueEffect_frame _ _ _ _).after (by decide) ?_
    | split

theorem execStartupCalSettled_frame {c e s T} (h : execStartupCalSettled c e s = .next T) :
    Frame [.engines] s T := by
  unfold execStartupCalSettled at h
  refine Frame.of_onWf_work (fun _ => rfl) (.inl rfl) h ?_
  repeat' first
    | with_reducible exact Frame.refl _ _
    | with_reducible refine (startupSettledEffect_frame _ _ _).after (by decide) ?_
    | split

theorem execRetentionScreenEnd_frame {c e lost s T} (h : execRetentionScreenEnd c e lost s = .next T) :
    Frame [.regs, .tiles, .engines, .cores, .dies, .hbms, .dev, .host, .cstore, .pages, .srv, .ingest, .awn, .flt, .nvm, .out] s T := by
  unfold execRetentionScreenEnd at h
  refine Frame.of_onWf_work (fun _ => rfl) (.inl rfl) h ?_
  repeat' first
    | with_reducible exact Frame.refl _ _
    | with_reducible refine (retentionEffect_frame _ _ _ _).after (by decide) ?_
    | split

theorem execCalUnsettled_frame {c e s T} (h : execCalUnsettled c e s = .next T) :
    Frame [.engines, .dies] s T := by
  unfold execCalUnsettled at h
  refine Frame.of_onWf_work (fun _ => rfl) (.inl rfl) h ?_
  repeat' first
    | with_reducible exact Frame.refl _ _
    | with_reducible refine (calUnsettledEffect_frame _ _ _).after (by decide) ?_
    | split

theorem execAlloc_frame {c tenant slot page frame s T} (h : execAlloc c tenant slot page frame s = .next T) :
    Frame [.regs, .engines, .cores, .dies, .hbms, .dev, .pages, .srv, .awn, .out] s T := by
  unfold execAlloc at h
  refine Frame.of_onWf_work (fun _ => rfl) (.inr (.inl rfl)) h ?_
  repeat' first
    | with_reducible exact Frame.refl _ _
    | with_reducible refine (allocEffect_frame _ _ _ _ _ _).after (by decide) ?_
    | split

theorem execPinR_frame {c page tenant slot s T} (h : execPinR c page tenant slot s = .next T) :
    Frame [.regs, .engines, .cores, .dies, .hbms, .dev, .pages, .srv, .awn, .out] s T := by
  unfold execPinR at h
  refine Frame.of_onWf_work (fun _ => rfl) (.inr (.inl rfl)) h ?_
  repeat' first
    | with_reducible exact Frame.refl _ _
    | with_reducible refine (pinREffect_frame _ _ _ _ _).after (by decide) ?_
    | split

theorem execPinW_frame {c page tenant slot listAddr q qframe s T} (h : execPinW c page tenant slot listAddr q qframe s = .next T) :
    Frame [.regs, .engines, .cores, .dies, .hbms, .dev, .pages, .srv, .awn, .out] s T := by
  unfold execPinW at h
  refine Frame.of_onWf_work (fun _ => rfl) (.inr (.inl rfl)) h ?_
  repeat' first
    | with_reducible exact Frame.refl _ _
    | with_reducible refine (pinWEffect_frame _ _ _ _ _ _ _ _).after (by decide) ?_
    | split

theorem execUnpin_frame {page s T} (h : execUnpin page s = .next T) :
    Frame [.regs, .cores, .dies, .dev, .pages, .srv, .out] s T := by
  unfold execUnpin at h
  refine Frame.of_onWf_work (fun _ => rfl) (.inr (.inl rfl)) h ?_
  repeat' first
    | with_reducible exact Frame.refl _ _
    | with_reducible refine (State.unpin_frame _ _).after (by decide) ?_
    | split

theorem execShare_frame {page tenant slot s T} (h : execShare page tenant slot s = .next T) :
    Frame [.regs, .cores, .dies, .dev, .host, .pages, .srv, .out] s T := by
  unfold execShare at h
  refine Frame.of_onWf_work (fun _ => rfl) (.inr (.inl rfl)) h ?_
  repeat' first
    | with_reducible exact Frame.refl _ _
    | with_reducible refine (shareEffect_frame _ _ _ _).after (by decide) ?_
    | split

theorem execRelease_frame {page slot s T} (h : execRelease page slot s = .next T) :
    Frame [.regs, .cores, .dies, .dev, .host, .pages, .srv, .out] s T := by
  unfold execRelease at h
  refine Frame.of_onWf_work (fun _ => rfl) (.inr (.inl rfl)) h ?_
  repeat' first
    | with_reducible exact Frame.refl _ _
    | with_reducible refine (releaseEffect_frame _ _ _).after (by decide) ?_
    | split

theorem execTrim_frame {page n slot s T} (h : execTrim page n slot s = .next T) :
    Frame [.regs, .cores, .dies, .dev, .host, .pages, .srv, .out] s T := by
  unfold execTrim at h
  refine Frame.of_onWf_work (fun _ => rfl) (.inr (.inl rfl)) h ?_
  repeat' first
    | with_reducible exact Frame.refl _ _
    | with_reducible refine (trimEffect_frame _ _ _ _).after (by decide) ?_
    | split

theorem execSpill_frame {page frame s T} (h : execSpill page frame s = .next T) :
    Frame [.regs, .dies, .dev, .pages, .out] s T := by
  unfold execSpill at h
  refine Frame.of_onWf_work (fun _ => rfl) (.inr (.inl rfl)) h ?_
  repeat' first
    | with_reducible exact Frame.refl _ _
    | with_reducible refine (spillEffect_frame _ _ _).after (by decide) ?_
    | split

theorem execFill_frame {page frame s T} (h : execFill page frame s = .next T) :
    Frame [.regs, .dev, .pages] s T := by
  unfold execFill at h
  refine Frame.of_onWf_work (fun _ => rfl) (.inr (.inl rfl)) h ?_
  repeat' first
    | with_reducible exact Frame.refl _ _
    | with_reducible refine (fillEffect_frame _ _ _).after (by decide) ?_
    | split

theorem execCowCopyDone_frame {b s T} (h : execCowCopyDone b s = .next T) :
    Frame [.regs, .engines, .cores, .dies, .hbms, .dev, .host, .pages, .srv, .awn, .out] s T := by
  unfold execCowCopyDone at h
  refine Frame.of_onWf_work (fun _ => rfl) (.inr (.inl rfl)) h ?_
  repeat' first
    | with_reducible exact Frame.refl _ _
    | with_reducible refine (cowDoneEffect_frame _ _).after (by decide) ?_
    | split

theorem execTierMoveDone_frame {page s T} (h : execTierMoveDone page s = .next T) :
    Frame [.regs, .cores, .dies, .hbms, .dev, .host, .pages, .srv, .out] s T := by
  unfold execTierMoveDone at h
  refine Frame.of_onWf_work (fun _ => rfl) (.inr (.inl rfl)) h ?_
  repeat' first
    | with_reducible exact Frame.refl _ _
    | with_reducible refine (tierMoveEffect_frame _ _).after (by decide) ?_
    | split

theorem execSpillSweep_frame {b s T} (h : execSpillSweep b s = .next T) :
    Frame [.regs, .dies, .out] s T := by
  unfold execSpillSweep at h
  refine Frame.of_onWf_work (fun _ => rfl) (.inr (.inl rfl)) h ?_
  repeat' first
    | with_reducible exact Frame.refl _ _
    | with_reducible refine (spillSweepEffect_frame _ _).after (by decide) ?_
    | split

theorem execPageNumberRelease_frame {page s T} (h : execPageNumberRelease page s = .next T) :
    Frame [.pages] s T := by
  unfold execPageNumberRelease at h
  refine Frame.of_onWf_work (fun _ => rfl) (.inr (.inl rfl)) h ?_
  repeat' first
    | with_reducible exact Frame.refl _ _
    | with_reducible refine (numberReleaseEffect_frame _ _).after (by decide) ?_
    | split

theorem execKvAppend_frame {c s T} (h : execKvAppend c s = .next T) :
    Frame [.regs, .engines, .cores, .dies, .hbms, .dev, .pages, .srv, .awn, .out] s T := by
  unfold execKvAppend at h
  refine Frame.of_onWf_work (fun _ => rfl) (.inl rfl) h ?_
  repeat' first
    | with_reducible exact Frame.refl _ _
    | with_reducible refine (attnIssueEffect_frame _ _ _).after (by decide) ?_
    | split

theorem execAttnRun_frame {c s T} (h : execAttnRun c s = .next T) :
    Frame [.regs, .engines, .cores, .dies, .hbms, .dev, .pages, .srv, .awn, .out] s T := by
  unfold execAttnRun at h
  refine Frame.of_onWf_work (fun _ => rfl) (.inl rfl) h ?_
  repeat' first
    | with_reducible exact Frame.refl _ _
    | with_reducible refine (attnIssueEffect_frame _ _ _).after (by decide) ?_
    | split

theorem execWalkerPageRead_frame {c s T} (h : execWalkerPageRead c s = .next T) :
    Frame [.regs, .engines, .cores, .dies, .hbms, .dev, .pages, .srv, .awn, .out] s T := by
  unfold execWalkerPageRead at h
  refine Frame.of_onWf_work (fun _ => rfl) (.inl rfl) h ?_
  repeat' first
    | with_reducible exact Frame.refl _ _
    | with_reducible refine (walkerReadEffect_frame _ _).after (by decide) ?_
    | split

theorem execAttnCmdComplete_frame {c s T} (h : execAttnCmdComplete c s = .next T) :
    Frame [.regs, .engines, .cores, .dies, .cstore, .awn, .out] s T := by
  unfold execAttnCmdComplete at h
  refine Frame.of_onWf_work (fun _ => rfl) (.inl rfl) h ?_
  repeat' first
    | with_reducible exact Frame.refl _ _
    | with_reducible refine (attnCompleteEffect_frame _ _).after (by decide) ?_
    | split

theorem execSeqFailReport_frame {c slot s T} (h : execSeqFailReport c slot s = .next T) :
    Frame [.regs, .cores, .dies, .dev, .host, .pages, .srv, .out] s T := by
  unfold execSeqFailReport at h
  refine Frame.of_onWf_work (fun _ => rfl) (.inr (.inl rfl)) h ?_
  repeat' first
    | with_reducible exact Frame.refl _ _
    | with_reducible refine (seqFailEffect_frame _ _).after (by decide) ?_
    | split

theorem execXlateWrite_frame {c v s T} (h : execXlateWrite c v s = .next T) :
    Frame [.regs, .dies, .out] s T := by
  unfold execXlateWrite at h
  refine Frame.of_onWf (by decide) h ?_
  repeat' first
    | with_reducible exact Frame.refl _ _
    | with_reducible refine (xlateWriteEffect_frame _ _ _).after (by decide) ?_
    | split

theorem execKvpEnableWrite_frame {b v s T} (h : execKvpEnableWrite b v s = .next T) :
    Frame [.regs, .dies, .pages, .out] s T := by
  unfold execKvpEnableWrite at h
  refine Frame.of_onWf (by decide) h ?_
  repeat' first
    | with_reducible exact Frame.refl _ _
    | with_reducible refine (kvpEnableEffect_frame _ _ _).after (by decide) ?_
    | split

theorem execEntrySel_frame {b v s T} (h : execEntrySel b v s = .next T) :
    Frame [.regs, .dies, .out] s T := by
  unfold execEntrySel at h
  refine Frame.of_onWf (by decide) h ?_
  repeat' first
    | with_reducible exact Frame.refl _ _
    | with_reducible refine (entrySelEffect_frame _ _ _).after (by decide) ?_
    | split

theorem execReqTail_frame {f v s T} (h : execReqTail f v s = .next T) :
    Frame [.regs, .dies, .out] s T := by
  unfold execReqTail at h
  refine Frame.of_onWf (by decide) h ?_
  repeat' first
    | with_reducible exact Frame.refl _ _
    | with_reducible refine (reqTailEffect_frame _ _ _).after (by decide) ?_
    | split

theorem execSubmit_frame {f s T} (h : execSubmit f s = .next T) :
    Frame [.regs, .cores, .dies, .hbms, .dev, .host, .pages, .srv, .out] s T := by
  unfold execSubmit at h
  refine Frame.of_onWf_work (fun _ => rfl) (.inr (.inl rfl)) h ?_
  repeat' first
    | with_reducible exact Frame.refl _ _
    | with_reducible refine (State.decideSubmit_frame _ _ _ _ _).after (by decide) ?_
    | split
    | with_reducible refine State.takeReq_frame _ _ _ _ (by decide) (fun _ _ _ => ?_) ?_

theorem execCancel_frame {f s T} (h : execCancel f s = .next T) :
    Frame [.regs, .cores, .dies, .dev, .host, .pages, .srv, .out] s T := by
  unfold execCancel at h
  refine Frame.of_onWf_work (fun _ => rfl) (.inr (.inl rfl)) h ?_
  repeat' first
    | with_reducible exact Frame.refl _ _
    | with_reducible refine (State.endSeq_frame _ _ _ _).after (by decide) ?_
    | split
    | with_reducible refine State.takeReq_frame _ _ _ _ (by decide) (fun _ _ _ => ?_) ?_
    | with_reducible refine State.handleReq_frame _ _ _ _ _ (by decide) (fun _ _ => ?_) ?_

theorem execPark_frame {f s T} (h : execPark f s = .next T) :
    Frame [.regs, .dies, .host, .srv, .out] s T := by
  unfold execPark at h
  refine Frame.of_onWf_work (fun _ => rfl) (.inr (.inl rfl)) h ?_
  repeat' first
    | with_reducible exact Frame.refl _ _
    | with_reducible refine (State.parkSeq_frame _ _).after (by decide) ?_
    | split
    | with_reducible refine State.takeReq_frame _ _ _ _ (by decide) (fun _ _ _ => ?_) ?_
    | with_reducible refine State.handleReq_frame _ _ _ _ _ (by decide) (fun _ _ => ?_) ?_

theorem execUnpark_frame {f s T} (h : execUnpark f s = .next T) :
    Frame [.regs, .dies, .host, .srv, .out] s T := by
  unfold execUnpark at h
  refine Frame.of_onWf_work (fun _ => rfl) (.inr (.inl rfl)) h ?_
  repeat' first
    | with_reducible exact Frame.refl _ _
    | with_reducible refine (State.unparkSeq_frame _ _).after (by decide) ?_
    | split
    | with_reducible refine State.takeReq_frame _ _ _ _ (by decide) (fun _ _ _ => ?_) ?_
    | with_reducible refine State.handleReq_frame _ _ _ _ _ (by decide) (fun _ _ => ?_) ?_

theorem execStepAssembly_frame {m s T} (h : execStepAssembly m s = .next T) :
    Frame [.regs, .cores, .dies, .dev, .host, .cstore, .pages, .srv, .out] s T := by
  unfold execStepAssembly at h
  refine Frame.of_onWf_work (fun _ => rfl) (.inr (.inl rfl)) h ?_
  repeat' first
    | with_reducible exact Frame.refl _ _
    | with_reducible refine (stepAssemblyEffect_frame _ _).after (by decide) ?_
    | split

theorem execDraftRoundEnd_frame {step s T} (h : execDraftRoundEnd step s = .next T) :
    Frame [.regs, .cores, .dies, .dev, .host, .cstore, .pages, .srv, .awn, .out] s T := by
  unfold execDraftRoundEnd at h
  refine Frame.of_onWf_work (fun _ => rfl) (.inr (.inl rfl)) h ?_
  repeat' first
    | with_reducible exact Frame.refl _ _
    | with_reducible refine (draftRoundEffect_frame _ _).after (by decide) ?_
    | split

theorem execSamplingDone_frame {step hub s T} (h : execSamplingDone step hub s = .next T) :
    Frame [.regs, .cores, .dies, .dev, .host, .pages, .srv, .out] s T := by
  unfold execSamplingDone at h
  refine Frame.of_onWf_work (fun _ => rfl) (.inr (.inl rfl)) h ?_
  repeat' first
    | with_reducible exact Frame.refl _ _
    | with_reducible refine (samplingEffect_frame _ _ _).after (by decide) ?_
    | split

theorem execStepClose_frame {step s T} (h : execStepClose step s = .next T) :
    Frame [.regs, .cores, .dies, .dev, .host, .pages, .srv, .ingest, .flt, .out] s T := by
  unfold execStepClose at h
  refine Frame.of_onWf_work (fun _ => rfl) (.inr (.inl rfl)) h ?_
  repeat' first
    | with_reducible exact Frame.refl _ _
    | with_reducible refine (stepCloseEffect_frame _ _).after (by decide) ?_
    | split

theorem execSlotFree_frame {slot s T} (h : execSlotFree slot s = .next T) :
    Frame [.srv] s T := by
  unfold execSlotFree at h
  refine Frame.of_onWf_work (fun _ => rfl) (.inr (.inl rfl)) h ?_
  repeat' first
    | with_reducible exact Frame.refl _ _
    | with_reducible refine (slotFreeEffect_frame _ _).after (by decide) ?_
    | split

theorem execResPopLo_frame {f s T} (h : execResPopLo f s = .next T) :
    Frame [.regs, .dies, .host, .srv, .out] s T := by
  unfold execResPopLo at h
  refine Frame.of_onWf (by decide) h ?_
  repeat' first
    | with_reducible exact Frame.refl _ _
    | with_reducible refine (resPopEffect_frame _ _).after (by decide) ?_
    | split

theorem execResPeekLo_frame {f s T} (h : execResPeekLo f s = .next T) :
    Frame [.regs, .dies, .out] s T := by
  unfold execResPeekLo at h
  refine Frame.of_onWf (by decide) h ?_
  repeat' first
    | with_reducible exact Frame.refl _ _
    | with_reducible refine (resPeekEffect_frame _ _).after (by decide) ?_
    | split

theorem execResHeadWrite_frame {f v s T} (h : execResHeadWrite f v s = .next T) :
    Frame [.regs, .dies, .host, .srv, .out] s T := by
  unfold execResHeadWrite at h
  refine Frame.of_onWf (by decide) h ?_
  repeat' first
    | with_reducible exact Frame.refl _ _
    | with_reducible refine (resHeadEffect_frame _ _ _).after (by decide) ?_
    | split

theorem execRingEnableWrite_frame {f res v s T} (h : execRingEnableWrite f res v s = .next T) :
    Frame [.regs, .dies, .host, .srv, .out] s T := by
  unfold execRingEnableWrite at h
  refine Frame.of_onWf (by decide) h ?_
  repeat' first
    | with_reducible exact Frame.refl _ _
    | with_reducible refine (ringEnableEffect_frame _ _ _ _).after (by decide) ?_
    | split

theorem execSeqSel_frame {v s T} (h : execSeqSel v s = .next T) :
    Frame [.regs, .dies, .out] s T := by
  unfold execSeqSel at h
  refine Frame.of_onWf (by decide) h ?_
  repeat' first
    | with_reducible exact Frame.refl _ _
    | with_reducible refine (seqSelEffect_frame _ _).after (by decide) ?_
    | split

theorem execModelSwap_frame {m s T} (h : execModelSwap m s = .next T) :
    Frame [.regs, .cores, .dies, .dev, .host, .pages, .srv, .ingest, .out] s T := by
  unfold execModelSwap at h
  refine Frame.of_onWf (by decide) h ?_
  repeat' first
    | with_reducible exact Frame.refl _ _
    | with_reducible refine (modelSwapEffect_frame _ _).after (by decide) ?_
    | split

theorem execModelUnload_frame {m s T} (h : execModelUnload m s = .next T) :
    Frame [.regs, .cores, .dies, .hbms, .dev, .host, .pages, .srv, .out] s T := by
  unfold execModelUnload at h
  refine Frame.of_onWf (by decide) h ?_
  repeat' first
    | with_reducible exact Frame.refl _ _
    | with_reducible refine (modelUnloadEffect_frame _ _).after (by decide) ?_
    | split

theorem execBarrierDeadlineCheck_frame { s T} (h : execBarrierDeadlineCheck s = .next T) :
    Frame [.regs, .cores, .dies, .dev, .host, .pages, .srv, .out] s T := by
  unfold execBarrierDeadlineCheck at h
  refine Frame.of_onWf_work (fun _ => rfl) (.inr (.inl rfl)) h ?_
  repeat' first
    | with_reducible exact Frame.refl _ _
    | with_reducible refine (barrierCheckEffect_frame _).after (by decide) ?_
    | split

theorem execSwapComplete_frame {m ok s T} (h : execSwapComplete m ok s = .next T) :
    Frame [.regs, .cores, .dies, .hbms, .dev, .host, .pages, .srv, .out] s T := by
  unfold execSwapComplete at h
  refine Frame.of_onWf_work (fun _ => rfl) (.inr (.inl rfl)) h ?_
  repeat' first
    | with_reducible exact Frame.refl _ _
    | with_reducible refine (swapCompleteEffect_frame _ _ _).after (by decide) ?_
    | split

theorem execApertureWrite_frame {addr data poisoned stream s T} (h : execApertureWrite addr data poisoned stream s = .next T) :
    Frame [.regs, .dies, .dev, .ingest, .out] s T := by
  unfold execApertureWrite at h
  refine Frame.of_onWf_work (fun _ => rfl) (.inr (.inl rfl)) h ?_
  repeat' first
    | with_reducible exact Frame.refl _ _
    | with_reducible refine (ingestWriteEffect_frame _ _ _ _ _).after (by decide) ?_
    | split

theorem execJobTail_frame {v s T} (h : execJobTail v s = .next T) :
    Frame [.regs, .dies, .out] s T := by
  unfold execJobTail at h
  refine Frame.of_onWf (by decide) h ?_
  repeat' first
    | with_reducible exact Frame.refl _ _
    | with_reducible refine (State.wr_frame _ _ _ _).after (by decide) ?_
    | split

theorem execJobLoad_frame { s T} (h : execJobLoad s = .next T) :
    Frame [.regs, .dies, .dev, .ingest, .out] s T := by
  unfold execJobLoad at h
  refine Frame.of_onWf_work (fun _ => rfl) (.inr (.inl rfl)) h ?_
  repeat' first
    | with_reducible exact Frame.refl _ _
    | with_reducible refine (jobEffect_frame _ _).after (by decide) ?_
    | split

theorem execJobSwap_frame { s T} (h : execJobSwap s = .next T) :
    Frame [.regs, .dies, .dev, .ingest, .out] s T := by
  unfold execJobSwap at h
  refine Frame.of_onWf_work (fun _ => rfl) (.inr (.inl rfl)) h ?_
  repeat' first
    | with_reducible exact Frame.refl _ _
    | with_reducible refine (jobEffect_frame _ _).after (by decide) ?_
    | split

theorem execJobExport_frame { s T} (h : execJobExport s = .next T) :
    Frame [.regs, .dies, .dev, .ingest, .out] s T := by
  unfold execJobExport at h
  refine Frame.of_onWf_work (fun _ => rfl) (.inr (.inl rfl)) h ?_
  repeat' first
    | with_reducible exact Frame.refl _ _
    | with_reducible refine (jobEffect_frame _ _).after (by decide) ?_
    | split

theorem execChunkProcess_frame {j raw s T} (h : execChunkProcess j raw s = .next T) :
    Frame [.regs, .dies, .hbms, .dev, .ingest, .out] s T := by
  unfold execChunkProcess at h
  refine Frame.of_onWf_work (fun _ => rfl) (.inr (.inl rfl)) h ?_
  repeat' first
    | with_reducible exact Frame.refl _ _
    | with_reducible refine (chunkEffect_frame _ _ _).after (by decide) ?_
    | split

theorem execLayerComplete_frame {j s T} (h : execLayerComplete j s = .next T) :
    Frame [.fresh, .regs, .dies, .dev, .ingest, .flt, .out] s T := by
  unfold execLayerComplete at h
  refine Frame.of_onWf_work (fun _ => rfl) (.inr (.inl rfl)) h ?_
  repeat' first
    | with_reducible exact Frame.refl _ _
    | with_reducible refine (layerEffect_frame _ _).after (by decide) ?_
    | split

theorem execJobEnd_frame {j s T} (h : execJobEnd j s = .next T) :
    Frame [.regs, .cores, .dies, .dev, .host, .pages, .srv, .ingest, .out] s T := by
  unfold execJobEnd at h
  refine Frame.of_onWf_work (fun _ => rfl) (.inr (.inl rfl)) h ?_
  repeat' first
    | with_reducible exact Frame.refl _ _
    | with_reducible refine (jobEndEffect_frame _ _).after (by decide) ?_
    | split

theorem execApertureCreditRequest_frame {port peer ch s T} (h : execApertureCreditRequest port peer ch s = .next T) :
    Frame [.ingest, .out] s T := by
  unfold execApertureCreditRequest at h
  refine Frame.of_onWf_work (fun _ => rfl) (.inr (.inl rfl)) h ?_
  repeat' first
    | with_reducible exact Frame.refl _ _
    | with_reducible refine (creditRequestEffect_frame _ _ _ _).after (by decide) ?_
    | split

theorem execApertureCreditMsg_frame {j slots consumed s T} (h : execApertureCreditMsg j slots consumed s = .next T) :
    Frame [.ingest] s T := by
  unfold execApertureCreditMsg at h
  refine Frame.of_onWf_work (fun _ => rfl) (.inr (.inl rfl)) h ?_
  repeat' first
    | with_reducible exact Frame.refl _ _
    | with_reducible refine (creditMsgEffect_frame _ _ _ _).after (by decide) ?_
    | split

theorem execExportCreditRetry_frame {j s T} (h : execExportCreditRetry j s = .next T) :
    Frame [.ingest, .out] s T := by
  unfold execExportCreditRetry at h
  refine Frame.of_onWf_work (fun _ => rfl) (.inr (.inl rfl)) h ?_
  repeat' first
    | with_reducible exact Frame.refl _ _
    | with_reducible refine (creditRetryEffect_frame _ _).after (by decide) ?_
    | split

theorem execExportCreditTimeout_frame {j s T} (h : execExportCreditTimeout j s = .next T) :
    Frame [.regs, .dies, .dev, .ingest, .out] s T := by
  unfold execExportCreditTimeout at h
  refine Frame.of_onWf_work (fun _ => rfl) (.inr (.inl rfl)) h ?_
  repeat' first
    | with_reducible exact Frame.refl _ _
    | with_reducible refine (creditTimeoutEffect_frame _ _).after (by decide) ?_
    | split

theorem execIngestEnableWrite_frame {v s T} (h : execIngestEnableWrite v s = .next T) :
    Frame [.regs, .dies, .dev, .ingest, .out] s T := by
  unfold execIngestEnableWrite at h
  refine Frame.of_onWf (by decide) h ?_
  repeat' first
    | with_reducible exact Frame.refl _ _
    | with_reducible refine (ingestEnableEffect_frame _ _).after (by decide) ?_
    | split

theorem execMemAccess_frame {rq addr wr s T} (h : execMemAccess rq addr wr s = .next T) :
    Frame [.regs, .tiles, .engines, .cores, .dies, .hbms, .ports, .rcopies, .dev, .host, .cstore, .pages, .srv, .ingest, .awn, .flt, .nvm, .sec, .power, .out] s T := by
  unfold execMemAccess at h
  refine Frame.of_onWf_work (fun _ => rfl) (.inr (.inr rfl)) h ?_
  repeat' first
    | with_reducible exact Frame.refl _ _
    | with_reducible refine (memAccessEffect_frame _ _ _ _).after (by decide) ?_
    | with_reducible refine (State.wr_frame _ _ _ _).after (by decide) ?_
    | split

theorem execScrubLine_frame {st s T} (h : execScrubLine st s = .next T) :
    Frame [.regs, .dies, .hbms, .dev, .out] s T := by
  unfold execScrubLine at h
  refine Frame.of_onWf_work (fun _ => rfl) (.inl rfl) h ?_
  repeat' first
    | with_reducible exact Frame.refl _ _
    | with_reducible refine (scrubLineEffect_frame _ _).after (by decide) ?_
    | split

theorem execRetireCopyDone_frame {st s T} (h : execRetireCopyDone st s = .next T) :
    Frame [.regs, .dies, .hbms, .dev, .flt, .sec, .out] s T := by
  unfold execRetireCopyDone at h
  refine Frame.of_onWf_work (fun _ => rfl) (.inl rfl) h ?_
  repeat' first
    | with_reducible exact Frame.refl _ _
    | with_reducible refine (retireCopyEffect_frame _ _).after (by decide) ?_
    | split

theorem execSramPatrol_frame {c word s T} (h : execSramPatrol c word s = .next T) :
    Frame [.regs, .cstore, .out] s T := by
  unfold execSramPatrol at h
  refine Frame.of_onWf_work (fun _ => rfl) (.inl rfl) h ?_
  repeat' first
    | with_reducible exact Frame.refl _ _
    | with_reducible refine (sramPatrolEffect_frame _ _ _).after (by decide) ?_
    | split

theorem execEccTestWrite_frame {d s T} (h : execEccTestWrite d s = .next T) :
    Frame [.regs, .dies, .dev, .out] s T := by
  unfold execEccTestWrite at h
  refine Frame.of_onWf (by decide) h ?_
  repeat' first
    | with_reducible exact Frame.refl _ _
    | with_reducible refine (eccTestWriteEffect_frame _ _).after (by decide) ?_
    | split

theorem execEccTestRead_frame {d s T} (h : execEccTestRead d s = .next T) :
    Frame [.regs, .dies, .out] s T := by
  unfold execEccTestRead at h
  refine Frame.of_onWf (by decide) h ?_
  repeat' first
    | with_reducible exact Frame.refl _ _
    | with_reducible refine (eccTestReadEffect_frame _ _).after (by decide) ?_
    | split

theorem execEccTestEnWrite_frame {d v s T} (h : execEccTestEnWrite d v s = .next T) :
    Frame [.regs, .dies, .hbms, .out] s T := by
  unfold execEccTestEnWrite at h
  refine Frame.of_onWf (by decide) h ?_
  repeat' first
    | with_reducible exact Frame.refl _ _
    | with_reducible refine (eccTestEnEffect_frame _ _ _).after (by decide) ?_
    | split

theorem execRmapSel_frame {st v s T} (h : execRmapSel st v s = .next T) :
    Frame [.regs, .dies, .out] s T := by
  unfold execRmapSel at h
  refine Frame.of_onWf (by decide) h ?_
  repeat' first
    | with_reducible exact Frame.refl _ _
    | with_reducible refine (rmapSelEffect_frame _ _ _).after (by decide) ?_
    | split

theorem execLinkRetrain_frame {d p s T} (h : execLinkRetrain d p s = .next T) :
    Frame [.dies] s T := by
  unfold execLinkRetrain at h
  refine Frame.of_onWf_work (fun _ => rfl) (.inl rfl) h ?_
  repeat' first
    | with_reducible exact Frame.refl _ _
    | with_reducible refine (linkRetrainEffect_frame _ _ _).after (by decide) ?_
    | split

theorem execRetrainEnd_frame {d p ok s T} (h : execRetrainEnd d p ok s = .next T) :
    Frame [.regs, .tiles, .engines, .cores, .dies, .hbms, .dev, .host, .cstore, .pages, .srv, .ingest, .awn, .flt, .nvm, .out] s T := by
  unfold execRetrainEnd at h
  refine Frame.of_onWf_work (fun _ => rfl) (.inl rfl) h ?_
  repeat' first
    | with_reducible exact Frame.refl _ _
    | with_reducible refine (retrainEndEffect_frame _ _ _ _).after (by decide) ?_
    | split

theorem execLaneRepair_frame {d p s T} (h : execLaneRepair d p s = .next T) :
    Frame [.regs, .dies, .out] s T := by
  unfold execLaneRepair at h
  refine Frame.of_onWf_work (fun _ => rfl) (.inl rfl) h ?_
  repeat' first
    | with_reducible exact Frame.refl _ _
    | with_reducible refine (laneRepairEffect_frame _ _ _).after (by decide) ?_
    | split

theorem execRouteWrite_frame {d dst v s T} (h : execRouteWrite d dst v s = .next T) :
    Frame [.regs, .tiles, .engines, .cores, .dies, .hbms, .dev, .host, .cstore, .pages, .srv, .ingest, .awn, .flt, .nvm, .out] s T := by
  unfold execRouteWrite at h
  refine Frame.of_onWf (by decide) h ?_
  repeat' first
    | with_reducible exact Frame.refl _ _
    | with_reducible refine (routeWriteEffect_frame _ _ _ _).after (by decide) ?_
    | split

theorem execAwnAdd_frame {sem n s T} (h : execAwnAdd sem n s = .next T) :
    Frame [.regs, .dies, .awn] s T := by
  unfold execAwnAdd at h
  refine Frame.of_onWf_work (fun _ => rfl) (.inl rfl) h ?_
  repeat' first
    | with_reducible exact Frame.refl _ _
    | with_reducible refine (awnAddEffect_frame _ _ _).after (by decide) ?_
    | split

theorem execAwnClaim_frame {who sem n s T} (h : execAwnClaim who sem n s = .next T) :
    Frame [.regs, .awn] s T := by
  unfold execAwnClaim at h
  refine Frame.of_onWf_work (fun _ => rfl) (.inl rfl) h ?_
  repeat' first
    | with_reducible exact Frame.refl _ _
    | with_reducible refine (awnClaimEffect_frame _ _ _ _).after (by decide) ?_
    | split

theorem execAwnGrant_frame {who s T} (h : execAwnGrant who s = .next T) :
    Frame [.regs, .engines, .cores, .dies, .awn, .out] s T := by
  unfold execAwnGrant at h
  refine Frame.of_onWf_work (fun _ => rfl) (.inl rfl) h ?_
  repeat' first
    | with_reducible exact Frame.refl _ _
    | with_reducible refine (awnGrantEffect_frame _ _).after (by decide) ?_
    | split

theorem execClaimWithdraw_frame {c s T} (h : execClaimWithdraw c s = .next T) :
    Frame [.regs, .awn] s T := by
  unfold execClaimWithdraw at h
  refine Frame.of_onWf_work (fun _ => rfl) (.inl rfl) h ?_
  repeat' first
    | with_reducible exact Frame.refl _ _
    | with_reducible refine (claimWithdrawEffect_frame _ _).after (by decide) ?_
    | split

theorem execStepStartBroadcast_frame {step s T} (h : execStepStartBroadcast step s = .next T) :
    Frame [.regs, .cores, .srv, .ingest, .awn, .flt, .out] s T := by
  unfold execStepStartBroadcast at h
  refine Frame.of_onWf_work (fun _ => rfl) (.inr (.inl rfl)) h ?_
  repeat' first
    | with_reducible exact Frame.refl _ _
    | with_reducible refine (stepStartEffect_frame _ _).after (by decide) ?_
    | split

theorem execSclkZero_frame { s T} (h : execSclkZero s = .next T) :
    Frame [.sclk0, .regs] s T := by
  unfold execSclkZero at h
  refine Frame.of_onWf_work (fun _ => rfl) (.inr (.inr rfl)) h ?_
  repeat' first
    | with_reducible exact Frame.refl _ _
    | with_reducible refine (sclkZeroEffect_frame _).after (by decide) ?_
    | split

theorem execPlkTrain_frame {p retrain s T} (h : execPlkTrain p retrain s = .next T) :
    Frame [.regs, .ports] s T := by
  unfold execPlkTrain at h
  refine Frame.of_onWf_work (fun _ => rfl) (.inr (.inl rfl)) h ?_
  repeat' first
    | with_reducible exact Frame.refl _ _
    | with_reducible refine (plkTrainEffect_frame _ _ _).after (by decide) ?_
    | split

theorem execPlkTrainDone_frame {p badLanes versions peerId peerPort s T} (h : execPlkTrainDone p badLanes versions peerId peerPort s = .next T) :
    Frame [.regs, .dies, .ports, .rcopies, .dev, .awn, .out] s T := by
  unfold execPlkTrainDone at h
  refine Frame.of_onWf_work (fun _ => rfl) (.inl rfl) h ?_
  repeat' first
    | with_reducible exact Frame.refl _ _
    | with_reducible refine (plkTrainDoneEffect_frame _ _ _ _ _ _).after (by decide) ?_
    | split

theorem execPlkLaneError_frame {p lane s T} (h : execPlkLaneError p lane s = .next T) :
    Frame [.regs, .dies, .ports, .rcopies, .dev, .awn, .flt, .out] s T := by
  unfold execPlkLaneError at h
  refine Frame.of_onWf_work (fun _ => rfl) (.inl rfl) h ?_
  repeat' first
    | with_reducible exact Frame.refl _ _
    | with_reducible refine (plkLaneErrorEffect_frame _ _ _).after (by decide) ?_
    | split

theorem execPeerInbound_frame {p addr wr s T} (h : execPeerInbound p addr wr s = .next T) :
    Frame [.regs, .dies, .hbms, .dev, .ingest, .out] s T := by
  unfold execPeerInbound at h
  refine Frame.of_onWf_work (fun _ => rfl) (.inr (.inl rfl)) h ?_
  repeat' first
    | with_reducible exact Frame.refl _ _
    | with_reducible refine (peerInboundEffect_frame _ _ _ _).after (by decide) ?_
    | with_reducible refine (State.wr_frame _ _ _ _).after (by decide) ?_
    | split

theorem execRcopyStart_frame {h s T} (h : execRcopyStart h s = .next T) :
    Frame [.regs, .dies, .hbms, .rcopies, .dev, .awn, .out] s T := by
  unfold execRcopyStart at h
  refine Frame.of_onWf_work (fun _ => rfl) (.inr (.inl rfl)) h ?_
  repeat' first
    | with_reducible exact Frame.refl _ _
    | with_reducible refine (rcopyStartEffect_frame _ _).after (by decide) ?_
    | split

theorem execRcopyDone_frame {h k data s T} (h : execRcopyDone h k data s = .next T) :
    Frame [.regs, .dies, .rcopies, .dev, .awn] s T := by
  unfold execRcopyDone at h
  refine Frame.of_onWf_work (fun _ => rfl) (.inr (.inl rfl)) h ?_
  repeat' first
    | with_reducible exact Frame.refl _ _
    | with_reducible refine (rcopyDoneEffect_frame _ _ _ _).after (by decide) ?_
    | split

theorem execSemSel_frame {v s T} (h : execSemSel v s = .next T) :
    Frame [.regs, .dies, .out] s T := by
  unfold execSemSel at h
  refine Frame.of_onWf (by decide) h ?_
  repeat' first
    | with_reducible exact Frame.refl _ _
    | with_reducible refine (semSelEffect_frame _ _).after (by decide) ?_
    | split

theorem execSemViewWrite_frame {v s T} (h : execSemViewWrite v s = .next T) :
    Frame [.regs, .dies, .awn, .out] s T := by
  unfold execSemViewWrite at h
  refine Frame.of_onWf (by decide) h ?_
  repeat' first
    | with_reducible exact Frame.refl _ _
    | with_reducible refine (semViewEffect_frame _ _).after (by decide) ?_
    | split

theorem execBar2Access_frame {off wr stream s T} (h : execBar2Access off wr stream s = .next T) :
    Frame [.regs, .tiles, .engines, .cores, .dies, .hbms, .ports, .rcopies, .dev, .host, .cstore, .pages, .srv, .ingest, .awn, .flt, .nvm, .sec, .power, .out] s T := by
  unfold execBar2Access at h
  refine Frame.of_onWf_work (fun _ => rfl) (.inr (.inr rfl)) h ?_
  repeat' first
    | with_reducible exact Frame.refl _ _
    | with_reducible refine (bar2Effect_frame _ _ _ _).after (by decide) ?_
    | with_reducible refine (State.wr_frame _ _ _ _).after (by decide) ?_
    | split

theorem execConfigRequest_frame {i s T} (h : execConfigRequest i s = .next T) :
    Frame [.out] s T := by
  unfold execConfigRequest at h
  refine Frame.of_onWf_work (fun _ => rfl) (.inr (.inr rfl)) h ?_
  repeat' first
    | with_reducible exact Frame.refl _ _
    | with_reducible refine (configEffect_frame _ _).after (by decide) ?_
    | split

theorem execFlr_frame {f s T} (h : execFlr f s = .next T) :
    Frame [.regs, .cores, .dies, .dev, .host, .pages, .srv, .out] s T := by
  unfold execFlr at h
  refine Frame.of_onWf_work (fun _ => rfl) (.inr (.inr rfl)) h ?_
  repeat' first
    | with_reducible exact Frame.refl _ _
    | with_reducible refine (flrEffect_frame _ _).after (by decide) ?_
    | split

theorem execHostLinkDown_frame { s T} (h : execHostLinkDown s = .next T) :
    Frame [.regs, .cores, .dies, .dev, .host, .pages, .srv, .power, .out] s T := by
  unfold execHostLinkDown at h
  refine Frame.of_onWf_work (fun _ => rfl) (.inr (.inr rfl)) h ?_
  repeat' first
    | with_reducible exact Frame.refl _ _
    | with_reducible refine (hostDownEffect_frame _).after (by decide) ?_
    | split

theorem execIngestLinkDown_frame { s T} (h : execIngestLinkDown s = .next T) :
    Frame [.regs, .dies, .power] s T := by
  unfold execIngestLinkDown at h
  refine Frame.of_onWf_work (fun _ => rfl) (.inr (.inr rfl)) h ?_
  repeat' first
    | with_reducible exact Frame.refl _ _
    | with_reducible refine (ingestDownEffect_frame _).after (by decide) ?_
    | split

theorem execPtmDialogue_frame {hostNs s T} (h : execPtmDialogue hostNs s = .next T) :
    Frame [.regs, .power] s T := by
  unfold execPtmDialogue at h
  refine Frame.of_onWf_work (fun _ => rfl) (.inr (.inr rfl)) h ?_
  repeat' first
    | with_reducible exact Frame.refl _ _
    | with_reducible refine (ptmEffect_frame _ _).after (by decide) ?_
    | split

theorem execPtmHostRead_frame { s T} (h : execPtmHostRead s = .next T) :
    Frame [.regs, .dies, .power, .out] s T := by
  unfold execPtmHostRead at h
  refine Frame.of_onWf (by decide) h ?_
  repeat' first
    | with_reducible exact Frame.refl _ _
    | with_reducible refine (ptmReadEffect_frame _).after (by decide) ?_
    | split

theorem execIdeFail_frame {i stream s T} (h : execIdeFail i stream s = .next T) :
    Frame [.regs, .dies, .power] s T := by
  unfold execIdeFail at h
  refine Frame.of_onWf_work (fun _ => rfl) (.inr (.inr rfl)) h ?_
  repeat' first
    | with_reducible exact Frame.refl _ _
    | with_reducible refine (ideFailEffect_frame _ _ _).after (by decide) ?_
    | split

theorem execCxlDown_frame {p s T} (h : execCxlDown p s = .next T) :
    Frame [.regs, .dies, .power, .out] s T := by
  unfold execCxlDown at h
  refine Frame.of_onWf_work (fun _ => rfl) (.inr (.inr rfl)) h ?_
  repeat' first
    | with_reducible exact Frame.refl _ _
    | with_reducible refine (cxlDownEffect_frame _ _).after (by decide) ?_
    | split

theorem execMctpRequest_frame {typ s T} (h : execMctpRequest typ s = .next T) :
    Frame [.out] s T := by
  unfold execMctpRequest at h
  refine Frame.of_onWf_work (fun _ => rfl) (.inr (.inr rfl)) h ?_
  repeat' first
    | with_reducible exact Frame.refl _ _
    | with_reducible refine (mctpEffect_frame _ _).after (by decide) ?_
    | split

theorem execSpdmRequest_frame {mgmt op ide s T} (h : execSpdmRequest mgmt op ide s = .next T) :
    Frame [.power, .out] s T := by
  unfold execSpdmRequest at h
  refine Frame.of_onWf_work (fun _ => rfl) (.inr (.inr rfl)) h ?_
  repeat' first
    | with_reducible exact Frame.refl _ _
    | with_reducible refine (spdmEffect_frame _ _ _ _).after (by decide) ?_
    | split

theorem execJtagInstruction_frame {ir s T} (h : execJtagInstruction ir s = .next T) :
    Frame [.dies, .power] s T := by
  unfold execJtagInstruction at h
  refine Frame.of_onWf_work (fun _ => rfl) (.inr (.inr rfl)) h ?_
  repeat' first
    | with_reducible exact Frame.refl _ _
    | with_reducible refine (jtagEffect_frame _ _).after (by decide) ?_
    | split

theorem execPllUnlock_frame {d s T} (h : execPllUnlock d s = .next T) :
    Frame [.regs, .tiles, .engines, .cores, .dies, .hbms, .dev, .host, .cstore, .pages, .srv, .ingest, .awn, .flt, .nvm, .out] s T := by
  unfold execPllUnlock at h
  refine Frame.of_onWf_work (fun _ => rfl) (.inr (.inr rfl)) h ?_
  repeat' first
    | with_reducible exact Frame.refl _ _
    | with_reducible refine (pllEffect_frame _ _).after (by decide) ?_
    | split

theorem execRefclkLoss_frame { s T} (h : execRefclkLoss s = .next T) :
    Frame [.regs, .dies, .power] s T := by
  unfold execRefclkLoss at h
  refine Frame.of_onWf_work (fun _ => rfl) (.inr (.inr rfl)) h ?_
  repeat' first
    | with_reducible exact Frame.refl _ _
    | with_reducible refine (refclkEffect_frame _).after (by decide) ?_
    | split

theorem execXingTimeout_frame {page s T} (h : execXingTimeout page s = .next T) :
    Frame [.regs, .dies, .out] s T := by
  unfold execXingTimeout at h
  refine Frame.of_onWf_work (fun _ => rfl) (.inr (.inr rfl)) h ?_
  repeat' first
    | with_reducible exact Frame.refl _ _
    | with_reducible refine (xingTimeoutEffect_frame _ _).after (by decide) ?_
    | split

theorem execCrossingRelease_frame {page s T} (h : execCrossingRelease page s = .next T) :
    Frame [.regs, .tiles, .engines, .cores, .dies, .hbms, .ports, .rcopies, .dev, .host, .cstore, .pages, .srv, .ingest, .awn, .flt, .nvm, .sec, .power, .out] s T := by
  unfold execCrossingRelease at h
  refine Frame.of_onWf_work (fun _ => rfl) (.inr (.inr rfl)) h ?_
  repeat' first
    | with_reducible exact Frame.refl _ _
    | with_reducible refine (crossingReleaseEffect_frame _ _).after (by decide) ?_
    | split

theorem execCoreRstAssert_frame {c preserve s T} (h : execCoreRstAssert c preserve s = .next T) :
    Frame [.regs, .tiles, .engines, .cores, .dies, .cstore, .awn, .out] s T := by
  unfold execCoreRstAssert at h
  refine Frame.of_onWf (by decide) h ?_
  repeat' first
    | with_reducible exact Frame.refl _ _
    | with_reducible refine (coreRstAssertEffect_frame _ _ _).after (by decide) ?_
    | split

theorem execCoreRstRelease_frame {c s T} (h : execCoreRstRelease c s = .next T) :
    Frame [.regs, .tiles, .engines, .cores, .dies, .out] s T := by
  unfold execCoreRstRelease at h
  refine Frame.of_onWf (by decide) h ?_
  repeat' first
    | with_reducible exact Frame.refl _ _
    | with_reducible refine (coreRstReleaseEffect_frame _ _).after (by decide) ?_
    | split

theorem execWarmReset_frame {cause s T} (h : execWarmReset cause s = .next T) :
    Frame [.sclk0, .regs, .tiles, .engines, .cores, .dies, .hbms, .ports, .rcopies, .pages, .srv, .ingest, .awn, .flt, .nvm, .sec, .power, .out] s T := by
  unfold execWarmReset at h
  refine Frame.of_onWf_work (fun _ => rfl) (.inr (.inr rfl)) h ?_
  repeat' first
    | with_reducible exact Frame.refl _ _
    | with_reducible refine (warmResetEffect_frame _ _).after (by decide) ?_
    | split

theorem execHkRoundTrigger_frame { s T} (h : execHkRoundTrigger s = .next T) :
    Frame [.dies, .power] s T := by
  unfold execHkRoundTrigger at h
  refine Frame.of_onWf_work (fun _ => rfl) (.inl rfl) h ?_
  repeat' first
    | with_reducible exact Frame.refl _ _
    | with_reducible refine (hkTriggerEffect_frame _).after (by decide) ?_
    | split

theorem execHkDecision_frame {r s T} (h : execHkDecision r s = .next T) :
    Frame [.regs, .tiles, .engines, .cores, .dies, .srv, .awn, .nvm, .power, .out] s T := by
  unfold execHkDecision at h
  refine Frame.of_onWf_work (fun _ => rfl) (.inl rfl) h ?_
  repeat' first
    | with_reducible exact Frame.refl _ _
    | with_reducible refine (hkDecisionEffect_frame _ _).after (by decide) ?_
    | split

theorem execOrderlyDrainEnd_frame { s T} (h : execOrderlyDrainEnd s = .next T) :
    Frame [.regs, .cores, .dies, .dev, .host, .pages, .srv, .awn, .power, .out] s T := by
  unfold execOrderlyDrainEnd at h
  refine Frame.of_onWf_work (fun _ => rfl) (.inl rfl) h ?_
  repeat' first
    | with_reducible exact Frame.refl _ _
    | with_reducible refine (orderlyDrainEffect_frame _).after (by decide) ?_
    | split

theorem execOrderlyFlushEnd_frame { s T} (h : execOrderlyFlushEnd s = .next T) :
    Frame [.regs, .tiles, .engines, .cores, .dies, .hbms, .dev, .host, .pages, .srv, .ingest, .awn, .flt, .nvm, .power, .out] s T := by
  unfold execOrderlyFlushEnd at h
  refine Frame.of_onWf_work (fun _ => rfl) (.inl rfl) h ?_
  repeat' first
    | with_reducible exact Frame.refl _ _
    | with_reducible refine (orderlyFlushEffect_frame _).after (by decide) ?_
    | split

theorem execHkadcConversionEnd_frame {d input s T} (h : execHkadcConversionEnd d input s = .next T) :
    Frame [.regs, .dies, .dev] s T := by
  unfold execHkadcConversionEnd at h
  refine Frame.of_onWf_work (fun _ => rfl) (.inl rfl) h ?_
  repeat' first
    | with_reducible exact Frame.refl _ _
    | with_reducible refine (hkadcEndEffect_frame _ _ _).after (by decide) ?_
    | split

theorem execHkadcSwTrig_frame {d s T} (h : execHkadcSwTrig d s = .next T) :
    Frame [.regs, .dies, .out] s T := by
  unfold execHkadcSwTrig at h
  refine Frame.of_onWf (by decide) h ?_
  repeat' first
    | with_reducible exact Frame.refl _ _
    | with_reducible refine (hkadcTrigEffect_frame _ _).after (by decide) ?_
    | split

theorem execLifetimeFold_frame { s T} (h : execLifetimeFold s = .next T) :
    Frame [.fresh, .regs, .tiles, .cores, .dies, .flt, .nvm, .sec, .power] s T := by
  unfold execLifetimeFold at h
  refine Frame.of_onWf_work (fun _ => rfl) (.inr (.inr rfl)) h ?_
  repeat' first
    | with_reducible exact Frame.refl _ _
    | with_reducible refine (lifetimeFoldEffect_frame _).after (by decide) ?_
    | split

theorem execClassLineStuck_frame {d page s T} (h : execClassLineStuck d page s = .next T) :
    Frame [.regs, .dies] s T := by
  unfold execClassLineStuck at h
  refine Frame.of_onWf_work (fun _ => rfl) (.inr (.inr rfl)) h ?_
  repeat' first
    | with_reducible exact Frame.refl _ _
    | with_reducible refine (State.lineFault_frame _ _ _).after (by decide) ?_
    | split

theorem execRecordPoll_frame {d page s T} (h : execRecordPoll d page s = .next T) :
    Frame [.regs, .dies, .flt] s T := by
  unfold execRecordPoll at h
  refine Frame.of_onWf_work (fun _ => rfl) (.inr (.inr rfl)) h ?_
  repeat' first
    | with_reducible exact Frame.refl _ _
    | with_reducible refine (State.collectFirst_frame _ _ _).after (by decide) ?_
    | split

theorem execRecordWaitTimeout_frame {d page s T} (h : execRecordWaitTimeout d page s = .next T) :
    Frame [.regs, .dies] s T := by
  unfold execRecordWaitTimeout at h
  refine Frame.of_onWf_work (fun _ => rfl) (.inr (.inr rfl)) h ?_
  repeat' first
    | with_reducible exact Frame.refl _ _
    | with_reducible refine (recordWaitEffect_frame _ _ _).after (by decide) ?_
    | split

theorem execFaultRecord_frame {d s T} (h : execFaultRecord d s = .next T) :
    Frame [.regs, .dies, .flt] s T := by
  unfold execFaultRecord at h
  refine Frame.of_onWf_work (fun _ => rfl) (.inr (.inr rfl)) h ?_
  repeat' first
    | with_reducible exact Frame.refl _ _
    | with_reducible refine (State.collectFirst_frame _ _ _).after (by decide) ?_
    | split

theorem execCoalesceExpiry_frame {d s T} (h : execCoalesceExpiry d s = .next T) :
    Frame [.regs, .dies, .flt] s T := by
  unfold execCoalesceExpiry at h
  refine Frame.of_onWf_work (fun _ => rfl) (.inr (.inr rfl)) h ?_
  repeat' first
    | with_reducible exact Frame.refl _ _
    | with_reducible refine (State.forwardOldest_frame _ _).after (by decide) ?_
    | split

theorem execFaultLog_frame { s T} (h : execFaultLog s = .next T) :
    Frame [.regs, .tiles, .engines, .cores, .dies, .hbms, .dev, .host, .pages, .srv, .ingest, .awn, .flt, .nvm, .power, .out] s T := by
  unfold execFaultLog at h
  refine Frame.of_onWf_work (fun _ => rfl) (.inr (.inr rfl)) h ?_
  repeat' first
    | with_reducible exact Frame.refl _ _
    | with_reducible refine (faultLogEffect_frame _).after (by decide) ?_
    | split

theorem execContainmentComplete_frame {seqno s T} (h : execContainmentComplete seqno s = .next T) :
    Frame [.regs, .dev, .flt, .nvm, .out] s T := by
  unfold execContainmentComplete at h
  refine Frame.of_onWf_work (fun _ => rfl) (.inr (.inr rfl)) h ?_
  repeat' first
    | with_reducible exact Frame.refl _ _
    | with_reducible refine (containmentEffect_frame _ _).after (by decide) ?_
    | split

theorem execLogHeadWrite_frame {v s T} (h : execLogHeadWrite v s = .next T) :
    Frame [.regs, .dies, .flt] s T := by
  unfold execLogHeadWrite at h
  refine Frame.of_onWf_work (fun _ => rfl) (.inr (.inr rfl)) h ?_
  repeat' first
    | with_reducible exact Frame.refl _ _
    | with_reducible refine (logHeadEffect_frame _ _).after (by decide) ?_
    | split

theorem execLogSel_frame {v s T} (h : execLogSel v s = .next T) :
    Frame [.regs] s T := by
  unfold execLogSel at h
  refine Frame.of_onWf_work (fun _ => rfl) (.inr (.inr rfl)) h ?_
  repeat' first
    | with_reducible exact Frame.refl _ _
    | with_reducible refine (logSelEffect_frame _ _).after (by decide) ?_
    | split

theorem execCompatQuietEnd_frame { s T} (h : execCompatQuietEnd s = .next T) :
    Frame [.regs, .dies, .flt, .nvm, .power] s T := by
  unfold execCompatQuietEnd at h
  refine Frame.of_onWf_work (fun _ => rfl) (.inr (.inr rfl)) h ?_
  repeat' first
    | with_reducible exact Frame.refl _ _
    | with_reducible refine (compatEffect_frame _).after (by decide) ?_
    | split

theorem execMigReq_frame {logical s T} (h : execMigReq logical s = .next T) :
    Frame [.regs, .tiles, .engines, .cores, .dies, .hbms, .dev, .host, .cstore, .pages, .srv, .ingest, .awn, .flt, .nvm, .out] s T := by
  unfold execMigReq at h
  refine Frame.of_onWf_work (fun _ => rfl) (.inr (.inr rfl)) h ?_
  repeat' first
    | with_reducible exact Frame.refl _ _
    | with_reducible refine (migReqEffect_frame _ _).after (by decide) ?_
    | split

theorem execMigMoveStart_frame {logical s T} (h : execMigMoveStart logical s = .next T) :
    Frame [.regs, .tiles, .engines, .cores, .dies, .hbms, .dev, .host, .pages, .srv, .ingest, .flt, .nvm, .out] s T := by
  unfold execMigMoveStart at h
  refine Frame.of_onWf_work (fun _ => rfl) (.inr (.inl rfl)) h ?_
  repeat' first
    | with_reducible exact Frame.refl _ _
    | with_reducible refine (migStartEffect_frame _ _).after (by decide) ?_
    | split

theorem execMigCopyDone_frame {logical s T} (h : execMigCopyDone logical s = .next T) :
    Frame [.regs, .engines, .cstore, .tsram, .flt, .out] s T := by
  unfold execMigCopyDone at h
  refine Frame.of_onWf_work (fun _ => rfl) (.inr (.inl rfl)) h ?_
  repeat' first
    | with_reducible exact Frame.refl _ _
    | with_reducible refine (migCopyEffect_frame _ _).after (by decide) ?_
    | split

theorem execMigBanksDone_frame {logical s T} (h : execMigBanksDone logical s = .next T) :
    Frame [.regs, .tiles, .engines, .cores, .dies, .hbms, .dev, .host, .cstore, .pages, .srv, .ingest, .awn, .flt, .nvm, .out] s T := by
  unfold execMigBanksDone at h
  refine Frame.of_onWf_work (fun _ => rfl) (.inr (.inl rfl)) h ?_
  repeat' first
    | with_reducible exact Frame.refl _ _
    | with_reducible refine (migBanksEffect_frame _ _).after (by decide) ?_
    | split

theorem execRebuildReloadEnd_frame {logical s T} (h : execRebuildReloadEnd logical s = .next T) :
    Frame [.regs, .tiles, .engines, .cores, .dies, .hbms, .dev, .host, .cstore, .pages, .srv, .ingest, .awn, .flt, .nvm, .out] s T := by
  unfold execRebuildReloadEnd at h
  refine Frame.of_onWf_work (fun _ => rfl) (.inr (.inl rfl)) h ?_
  repeat' first
    | with_reducible exact Frame.refl _ _
    | with_reducible refine (rebuildEndEffect_frame _ _).after (by decide) ?_
    | split

theorem execCoreRedirWrite_frame {l v s T} (h : execCoreRedirWrite l v s = .next T) :
    Frame [.regs] s T := by
  unfold execCoreRedirWrite at h
  refine Frame.of_onWf_work (fun _ => rfl) (.inr (.inr rfl)) h ?_
  repeat' first
    | with_reducible exact Frame.refl _ _
    | with_reducible refine (coreRedirEffect_frame _ _ _).after (by decide) ?_
    | split

theorem execTestDue_frame {c s T} (h : execTestDue c s = .next T) :
    Frame [.regs, .tiles, .engines, .cores, .dies, .hbms, .dev, .host, .cstore, .pages, .srv, .ingest, .awn, .flt, .nvm, .out] s T := by
  unfold execTestDue at h
  refine Frame.of_onWf_work (fun _ => rfl) (.inr (.inl rfl)) h ?_
  repeat' first
    | with_reducible exact Frame.refl _ _
    | with_reducible refine (testDueEffect_frame _ _).after (by decide) ?_
    | split

theorem execTestDone_frame {c bist failed s T} (h : execTestDone c bist failed s = .next T) :
    Frame [.regs, .tiles, .engines, .cores, .dies, .flt, .nvm, .out] s T := by
  unfold execTestDone at h
  refine Frame.of_onWf_work (fun _ => rfl) (.inr (.inl rfl)) h ?_
  repeat' first
    | with_reducible exact Frame.refl _ _
    | with_reducible refine (testDoneEffect_frame _ _ _ _).after (by decide) ?_
    | split

theorem execTestDeferExpiry_frame {c s T} (h : execTestDeferExpiry c s = .next T) :
    Frame [.regs, .tiles, .engines, .cores, .dies, .hbms, .dev, .host, .cstore, .pages, .srv, .ingest, .awn, .flt, .nvm, .out] s T := by
  unfold execTestDeferExpiry at h
  refine Frame.of_onWf_work (fun _ => rfl) (.inr (.inl rfl)) h ?_
  repeat' first
    | with_reducible exact Frame.refl _ _
    | with_reducible refine (testDeferEffect_frame _ _).after (by decide) ?_
    | split

theorem execNvmDataRead_frame { s T} (h : execNvmDataRead s = .next T) :
    Frame [.regs, .out] s T := by
  unfold execNvmDataRead at h
  refine Frame.of_onWf_work (fun _ => rfl) (.inr (.inr rfl)) h ?_
  repeat' first
    | with_reducible exact Frame.refl _ _
    | with_reducible refine (nvmReadEffect_frame _).after (by decide) ?_
    | split

theorem execCfg2pCommit_frame {mgmt s T} (h : execCfg2pCommit mgmt s = .next T) :
    Frame [.regs, .dies, .hbms, .sec, .out] s T := by
  unfold execCfg2pCommit at h
  refine Frame.of_onWf_work (fun _ => rfl) (.inr (.inr rfl)) h ?_
  repeat' first
    | with_reducible exact Frame.refl _ _
    | with_reducible refine (cfgCommitEffect_frame _ _).after (by decide) ?_
    | split

theorem execCfg2pApply_frame { s T} (h : execCfg2pApply s = .next T) :
    Frame [.regs, .cores, .dies, .dev, .host, .pages, .srv, .sec, .out] s T := by
  unfold execCfg2pApply at h
  refine Frame.of_onWf_work (fun _ => rfl) (.inr (.inr rfl)) h ?_
  repeat' first
    | with_reducible exact Frame.refl _ _
    | with_reducible refine (cfgApplyEffect_frame _).after (by decide) ?_
    | split

theorem execFwSlotWrite_frame {img s T} (h : execFwSlotWrite img s = .next T) :
    Frame [.regs, .sec] s T := by
  unfold execFwSlotWrite at h
  refine Frame.of_onWf_work (fun _ => rfl) (.inr (.inr rfl)) h ?_
  repeat' first
    | with_reducible exact Frame.refl _ _
    | with_reducible refine (fwSlotEffect_frame _ _).after (by decide) ?_
    | split

theorem execPwrgoodAssert_frame {railsOk refclkOk s T} (h : execPwrgoodAssert railsOk refclkOk s = .next T) :
    Frame [.sclk0, .regs, .tiles, .engines, .cores, .dies, .hbms, .ports, .rcopies, .pages, .srv, .ingest, .awn, .flt, .nvm, .sec, .power, .out] s T := by
  unfold execPwrgoodAssert at h
  refine Frame.of_onWf_work (fun _ => rfl) (.inr (.inr rfl)) h ?_
  repeat' first
    | with_reducible exact Frame.refl _ _
    | with_reducible refine (pwrgoodEffect_frame _ _ _).after (by decide) ?_
    | split

theorem execPwrgoodDeassert_frame { s T} (h : execPwrgoodDeassert s = .next T) :
    Frame [.regs, .engines, .cores, .awn, .power, .out] s T := by
  unfold execPwrgoodDeassert at h
  refine Frame.of_onWf_work (fun _ => rfl) (.inr (.inr rfl)) h ?_
  repeat' first
    | with_reducible exact Frame.refl _ _
    | with_reducible refine (pwrgoodOffEffect_frame _).after (by decide) ?_
    | split

theorem execPerstHostAssert_frame { s T} (h : execPerstHostAssert s = .next T) :
    Frame [.sclk0, .regs, .tiles, .engines, .cores, .dies, .hbms, .ports, .rcopies, .pages, .srv, .ingest, .awn, .flt, .nvm, .sec, .power, .out] s T := by
  unfold execPerstHostAssert at h
  refine Frame.of_onWf_work (fun _ => rfl) (.inr (.inr rfl)) h ?_
  repeat' first
    | with_reducible exact Frame.refl _ _
    | with_reducible refine (perstHostEffect_frame _).after (by decide) ?_
    | split

theorem execPerstHostDeassert_frame { s T} (h : execPerstHostDeassert s = .next T) :
    Frame [.power] s T := by
  unfold execPerstHostDeassert at h
  refine Frame.of_onWf_work (fun _ => rfl) (.inr (.inr rfl)) h ?_
  repeat' first
    | with_reducible exact Frame.refl _ _
    | with_reducible refine (perstHostOffEffect_frame _).after (by decide) ?_
    | split

theorem execPerstIngest_frame {v s T} (h : execPerstIngest v s = .next T) :
    Frame [.regs, .dies, .power] s T := by
  unfold execPerstIngest at h
  refine Frame.of_onWf_work (fun _ => rfl) (.inr (.inr rfl)) h ?_
  repeat' first
    | with_reducible exact Frame.refl _ _
    | with_reducible refine (perstIngestEffect_frame _ _).after (by decide) ?_
    | split

theorem execStartupStageEnd_frame {n r s T} (h : execStartupStageEnd n r s = .next T) :
    Frame [.fresh, .regs, .tiles, .engines, .cores, .dies, .hbms, .dev, .cstore, .tsram, .flt, .nvm, .sec, .power, .out] s T := by
  unfold execStartupStageEnd at h
  refine Frame.of_onWf_work (fun _ => rfl) (.inr (.inr rfl)) h ?_
  repeat' first
    | with_reducible exact Frame.refl _ _
    | with_reducible refine (stageEndEffect_frame _ _ _).after (by decide) ?_
    | split

theorem execIrqSetWrite_frame {page v s T} (h : execIrqSetWrite page v s = .next T) :
    Frame [.regs, .tiles, .engines, .cores, .dies, .hbms, .ports, .rcopies, .dev, .host, .cstore, .pages, .srv, .ingest, .awn, .flt, .nvm, .sec, .power, .out] s T := by
  unfold execIrqSetWrite at h
  refine Frame.of_onWf_work (fun _ => rfl) (.inr (.inr rfl)) h ?_
  repeat' first
    | with_reducible exact Frame.refl _ _
    | with_reducible refine (State.regAccess_frame _ _ _ _ _ _).after (by decide) ?_
    | split

theorem execRegisterWrite_frame {addr w v s T} (h : execRegisterWrite addr w v s = .next T) :
    Frame [.regs, .tiles, .engines, .cores, .dies, .hbms, .ports, .rcopies, .dev, .host, .cstore, .pages, .srv, .ingest, .awn, .flt, .nvm, .sec, .power, .out] s T := by
  unfold execRegisterWrite at h
  refine Frame.of_onWf_work (fun _ => rfl) (.inr (.inr rfl)) h ?_
  repeat' first
    | with_reducible exact Frame.refl _ _
    | with_reducible refine (registerWriteEffect_frame _ _ _ _).after (by decide) ?_
    | split

theorem execStepFailureReport_frame {c step discarded s T} (h : execStepFailureReport c step discarded s = .next T) :
    Frame [.regs, .cores, .dies, .dev, .host, .pages, .srv, .ingest, .awn, .flt, .out] s T := by
  unfold execStepFailureReport at h
  refine Frame.of_onWf_work (fun _ => rfl) (.inr (.inl rfl)) h ?_
  repeat' first
    | with_reducible exact Frame.refl _ _
    | with_reducible refine (stepFailureEffect_frame _ _ _ _).after (by decide) ?_
    | split

theorem execPcieLinkUp_frame {i width rate s T} (h : execPcieLinkUp i width rate s = .next T) :
    Frame [.regs, .power] s T := by
  unfold execPcieLinkUp at h
  refine Frame.of_onWf_work (fun _ => rfl) (.inr (.inr rfl)) h ?_
  repeat' first
    | with_reducible exact Frame.refl _ _
    | with_reducible refine (linkUpEffect_frame _ _ _ _).after (by decide) ?_
    | split

theorem execPlkReplayFailure_frame {p s T} (h : execPlkReplayFailure p s = .next T) :
    Frame [.regs, .dies, .rcopies, .dev, .awn, .out] s T := by
  unfold execPlkReplayFailure at h
  refine Frame.of_onWf_work (fun _ => rfl) (.inl rfl) h ?_
  repeat' first
    | with_reducible exact Frame.refl _ _
    | with_reducible refine (State.plkDown_frame _ _).after (by decide) ?_
    | split

theorem execAppendPageWrite_frame {c s T} (h : execAppendPageWrite c s = .next T) :
    Frame [.regs, .engines, .cores, .dies, .hbms, .dev, .pages, .srv, .awn, .out] s T := by
  unfold execAppendPageWrite at h
  refine Frame.of_onWf_work (fun _ => rfl) (.inl rfl) h ?_
  repeat' first
    | with_reducible exact Frame.refl _ _
    | with_reducible refine (appendWriteEffect_frame _ _).after (by decide) ?_
    | split

end Sys2Proof.Machine
end

