-- ==== Sys2Proof/Laws/Store.lean ====
section
/-! SUPPORT. Little-endian bytes, and what a byte store holds after a write: read after write, and every other byte as before. -/

namespace Sys2Proof.Machine

/-! ### Bytes, little-endian -/

@[simp] theorem toLe_length (n v : Nat) : (toLe n v).length = n := by
  induction n generalizing v with
  | zero => rfl
  | succ n ih => simp [toLe, ih]

theorem byteOf_toNat (v : Nat) : (byteOf v).toNat = v % 256 := by simp [byteOf]

theorem ofLe_toLe (n v : Nat) : ofLe (toLe n v) = v % 256 ^ n := by
  induction n generalizing v with
  | zero => simp [toLe, ofLe, Nat.mod_one]
  | succ n ih =>
    simp only [toLe, ofLe, ih, byteOf_toNat, Nat.pow_succ]
    rw [Nat.mul_comm (256 ^ n), Nat.mod_mul]

theorem ofLe_lt (l : List Byte) : ofLe l < 256 ^ l.length := by
  induction l with
  | nil => simp [ofLe]
  | cons b l ih =>
    simp only [ofLe, List.length_cons, Nat.pow_succ]
    have := b.isLt
    omega

theorem byteOf_ofLe (l : List Byte) (i : Nat) : byteOf (field (ofLe l) (8 * i) 8) = l.getD i 0 := by
  induction l generalizing i with
  | nil => simp [ofLe, field, byteOf]
  | cons b l ih =>
    cases i with
    | zero =>
      apply BitVec.eq_of_toNat_eq
      have := b.isLt
      simp [field, ofLe, byteOf]
      omega
    | succ i =>
      have hs : (ofLe (b :: l)) >>> (8 * (i + 1)) = ofLe l >>> (8 * i) := by
        have := b.isLt
        have h8 : (ofLe (b :: l)) >>> 8 = ofLe l := by
          simp only [ofLe, Nat.shiftRight_eq_div_pow]
          omega
        rw [show 8 * (i + 1) = 8 + 8 * i by omega, Nat.shiftRight_add, h8]
      have := ih i
      simp only [field, hs] at this ⊢
      simpa using this

/-! ### Stores -/

variable {st : Store}

theorem Store.wf_bytes (h : st.wf = true) : cellsWfFrom 0 st.bytes = true := by
  simp only [Store.wf, Bool.and_eq_true] at h
  exact h.1

theorem Store.setByte_get (h : st.wf = true) (a x : Nat) (b : Byte) :
    cellGet (st.setByte a b).bytes x = if x = a then b else cellGet st.bytes x :=
  cellGet_cellPut (Store.wf_bytes h) a x b

theorem Store.setBytes_get (f : Nat → Byte) (a : Nat) (n : Nat) : ∀ st : Store, st.wf = true → ∀ x,
    cellGet ((List.range n).foldl (fun y i => y.setByte (a + i) (f i)) st).bytes x
      = if a ≤ x ∧ x < a + n then f (x - a) else cellGet st.bytes x := by
  induction n with
  | zero =>
    intro st _ x
    simp
  | succ n ih =>
    intro st h x
    rw [List.range_succ, List.foldl_append]
    simp only [List.foldl_cons, List.foldl_nil]
    rw [Store.setByte_get (Store.foldl_wf _ (fun y i hy => Store.setByte_wf _ _ hy) _ _ h), ih st h x]
    by_cases hx : x = a + n
    · subst hx
      simp
    · by_cases hy : a ≤ x ∧ x < a + n
      · have : a ≤ x ∧ x < a + (n + 1) := by omega
        simp [hx, hy, this]
      · have : ¬(a ≤ x ∧ x < a + (n + 1)) := by omega
        simp [hx, hy, this]

theorem Store.putWord_get (h : st.wf = true) (w v x : Nat) (p : Bool) :
    cellGet (st.putWord w v p).bytes x
      = if 8 * w ≤ x ∧ x < 8 * w + 8 then byteOf (field v (8 * (x - 8 * w)) 8) else cellGet st.bytes x :=
  Store.setBytes_get (fun i => byteOf (field v (8 * i) 8)) (8 * w) 8 st h x

/-- A plain write to a store without marks: the bytes written, every other byte as before, and still no marks. -/
theorem Store.write_get (n : Nat) : ∀ (st : Store) (a : Nat) (l : List Byte), st.wf = true → st.chk = [] → l.length ≤ n →
    (Store.write n st a l false).chk = []
      ∧ ∀ x, cellGet (Store.write n st a l false).bytes x
        = if a ≤ x ∧ x < a + l.length then l.getD (x - a) 0 else cellGet st.bytes x := by
  induction n with
  | zero =>
    intro st a l _ hc hl
    have : l = [] := by simpa using hl
    subst this
    refine ⟨hc, fun x => ?_⟩
    simp [Store.write]
  | succ n ih =>
    intro st a l h hc hl
    unfold Store.write
    split
    · refine ⟨hc, fun x => ?_⟩
      simp
    · next b r =>
      split
      · next h8 =>
        obtain ⟨ha, hlen⟩ := h8
        have hch : (st.putWord (a / 8) (leAt (b :: r) 0 8) false).chk = [] := by
          have : ((List.range 8).foldl (fun x i => x.setByte (8 * (a / 8) + i) (byteOf (field (leAt (b :: r) 0 8) (8 * i) 8))) st).chk
              = st.chk := rfl
          simp [Store.putWord, Store.setChk, this, hc, chkPut]
        obtain ⟨i1, i2⟩ := ih _ (a + 8) ((b :: r).drop 8) (Store.putWord_wf (a / 8) (leAt (b :: r) 0 8) false h) hch
          (by simp only [List.length_drop]; omega)
        refine ⟨i1, fun x => ?_⟩
        rw [i2 x, Store.putWord_get h, leAt, byteOf_ofLe]
        have e8 : 8 * (a / 8) = a := by omega
        rw [e8]
        simp only [List.length_drop, List.drop_zero]
        by_cases hx : a ≤ x ∧ x < a + (b :: r).length
        · by_cases hy : x < a + 8
          · have n1 : ¬(a + 8 ≤ x ∧ x < a + 8 + ((b :: r).length - 8)) := by omega
            have n2 : a ≤ x ∧ x < a + 8 := by omega
            simp only [n1, n2, hx, if_true, if_false, and_self]
            rw [List.getD_eq_getElem?_getD, List.getD_eq_getElem?_getD, List.getElem?_take]
            have : x - a < 8 := by omega
            simp [this]
          · have n1 : a + 8 ≤ x ∧ x < a + 8 + ((b :: r).length - 8) := by omega
            simp only [n1, hx, if_true, and_self]
            rw [List.getD_eq_getElem?_getD, List.getD_eq_getElem?_getD, List.getElem?_drop]
            congr 2
            omega
        · have n1 : ¬(a + 8 ≤ x ∧ x < a + 8 + ((b :: r).length - 8)) := by omega
          have n2 : ¬(a ≤ x ∧ x < a + 8) := by omega
          simp only [n1, n2, hx, if_false]
      · have hw : st.putByte a b = st.setByte a b := by
          have : (st.word (a / 8)).1 = 0 := by simp [Store.word, Store.chkAt, hc, mget, mfind]
          simp [Store.putByte, this]
        simp only [hw, Bool.false_eq_true, if_false]
        obtain ⟨i1, i2⟩ := ih (st.setByte a b) (a + 1) r (Store.setByte_wf a b h) hc (by simpa using hl)
        refine ⟨i1, fun x => ?_⟩
        rw [i2 x, Store.setByte_get h]
        by_cases hx : x = a
        · subst hx
          simp
        · by_cases hy : a + 1 ≤ x ∧ x < a + 1 + r.length
          · have n1 : a ≤ x ∧ x < a + (b :: r).length := by simp only [List.length_cons]; omega
            simp only [hy, n1, if_true, and_self]
            rw [show x - a = (x - (a + 1)) + 1 by omega]
            simp
          · have n1 : ¬(a ≤ x ∧ x < a + (b :: r).length) := by simp only [List.length_cons]; omega
            simp only [hy, n1, hx, if_false]

/-- Read after write. -/
theorem Store.read_put (h : st.wf = true) (hc : st.chk = []) (a : Nat) (l : List Byte) :
    (st.put a l).chk = [] ∧ (st.put a l).read a l.length = l := by
  obtain ⟨i1, i2⟩ := Store.write_get l.length st a l h hc (Nat.le_refl _)
  refine ⟨i1, ?_⟩
  apply List.ext_getElem
  · simp [Store.read]
  · intro i h1 h2
    have e : (st.put a l).chkAt ((a + i) / 8) = 0 := by
      show mget (st.put a l).chk 0 _ = 0
      rw [show (st.put a l).chk = [] from i1]
      rfl
    simp only [Store.read, List.getElem_map, List.getElem_range, Store.byte, e, if_true]
    rw [show (st.put a l).bytes = (Store.write l.length st a l false).bytes from rfl, i2]
    have n1 : a ≤ a + i ∧ a + i < a + l.length := by omega
    simp only [n1, and_self, if_true, show a + i - a = i by omega]
    simp [List.getD_eq_getElem?_getD, h2]

/-- A plain write leaves every byte outside it as it was. -/
theorem Store.byte_put_other (h : st.wf = true) (hc : st.chk = []) (a x : Nat) (l : List Byte) (hx : ¬(a ≤ x ∧ x < a + l.length)) :
    (st.put a l).byte x = st.byte x := by
  obtain ⟨i1, i2⟩ := Store.write_get l.length st a l h hc (Nat.le_refl _)
  have e : (st.put a l).chkAt (x / 8) = 0 := by
    show mget (st.put a l).chk 0 _ = 0
    rw [show (st.put a l).chk = [] from i1]
    rfl
  have e0 : st.chkAt (x / 8) = 0 := by simp [Store.chkAt, hc, mget, mfind]
  simp only [Store.byte, e, e0, if_true]
  rw [show (st.put a l).bytes = (Store.write l.length st a l false).bytes from rfl, i2]
  simp only [hx, if_false]

end Sys2Proof.Machine
end

