-- ==== Sys2Proof/Laws/Image.lean ====
section
/-! SUPPORT. The image that SAVE forms passes the checks of LOAD (R137, R138). -/

namespace Sys2Proof.Machine

theorem crc32Step_lt (n : Nat) : ∀ c, c < 2 ^ 32 → crc32Step c n < 2 ^ 32 := by
  induction n with
  | zero => exact fun _ h => h
  | succ n ih =>
    intro c h
    unfold crc32Step
    apply ih
    split
    · exact Nat.xor_lt_two_pow (by omega) (by decide)
    · omega

theorem crc32_lt (l : List Byte) : crc32 l < 2 ^ 32 := by
  have : ∀ (l : List Byte) (c : Nat), c < 2 ^ 32 → l.foldl (fun c b => crc32Step (c ^^^ b.toNat) 8) c < 2 ^ 32 := by
    intro l
    induction l with
    | nil => exact fun _ h => h
    | cons b l ih =>
      intro c h
      exact ih _ (crc32Step_lt 8 _ (Nat.xor_lt_two_pow h (by have := b.isLt; omega)))
  exact Nat.xor_lt_two_pow (this l _ (by decide)) (by decide)

theorem leAt_skip (a b : List Byte) (n k : Nat) : leAt (a ++ b) (a.length + n) k = leAt b n k := by
  rw [leAt, leAt, List.drop_append, List.drop_eq_nil_of_le (by omega), List.nil_append, Nat.add_sub_cancel_left]

theorem leAt_front (a b : List Byte) (k : Nat) (h : a.length = k) : leAt (a ++ b) 0 k = ofLe a := by
  subst h
  simp [leAt]

theorem Trims.pairBytes_length (x : Trims) : x.pairBytes.length = 404 := by simp [Trims.pairBytes]

theorem Trims.rowBytes_length (x : Trims) : x.rowBytes.length = 512 := by simp [Trims.rowBytes]

theorem leAt_at {l a b z : List Byte} (k v : Nat) (h : l = a ++ toLe k v ++ z) (hb : b = a) : leAt l b.length k = v % 256 ^ k := by
  subst h
  subst hb
  rw [List.append_assoc, show b.length = b.length + 0 from rfl, leAt_skip, leAt_front _ _ _ (toLe_length _ _), ofLe_toLe]

theorem imageBody_parts (s : State) (c e t : Nat) : ∃ p q r : List Byte, p.length = 1 ∧ q.length = 36 ∧ r.length = 972
    ∧ s.calImage c e t = ([byteOf 1] ++ (p ++ (toLe 2 (calInstance c e t) ++ (q ++ (toLe 8 (Config.serial % 2 ^ 64) ++ r)))))
      ++ toLe 4 (crc32 ([byteOf 1] ++ (p ++ (toLe 2 (calInstance c e t) ++ (q ++ (toLe 8 (Config.serial % 2 ^ 64) ++ r)))))) := by
  refine ⟨[byteOf (s.rd (tilePg c e t) TILE.STAT_SUSPECT)],
    toLe 2 (s.rd (tilePg c e t) TILE.TEMP_COMP_CAL_TEMP) ++ toLe 1 (s.rd (tilePg c e t) TILE.CFG_LIMIT_MAX) ++ toLe 1 0
      ++ toLe 4 (s.rd (tilePg c e t) TILE.CAL_SET_LINEAR_PU) ++ toLe 2 (s.rd (tilePg c e t) TILE.BANK_SKEW_SKEW) ++ toLe 2 0
      ++ (List.range 4).flatMap (fun i => toLe 4 (s.colmapWord c e t i)) ++ toLe 8 (s.rd (tilePg c e t) TILE.CAL_TIME),
    toLe 16 0 ++ (s.tile c e t).active.pairBytes ++ (s.tile c e t).active.rowBytes ++ toLe 40 0, rfl, ?_, ?_, ?_⟩
  · simp [List.range, List.range.loop]
  · simp [Trims.pairBytes_length, Trims.rowBytes_length]
  · simp only [State.calImage, List.append_assoc, List.cons_append, List.nil_append]

theorem State.calImage_length (s : State) (c e t : Nat) : (s.calImage c e t).length = 1024 := by
  obtain ⟨p, q, r, hp, hq, hr, h⟩ := imageBody_parts s c e t
  simp [h, hp, hq, hr]

/-- SAVE, then LOAD of the same tile: the image is accepted. -/
theorem State.imageOk_calImage (s : State) (c e t : Nat) (hi : calInstance c e t < 2 ^ 16) : imageOk c e t (s.calImage c e t) = true := by
  obtain ⟨p, q, r, hp, hq, hr, h⟩ := imageBody_parts s c e t
  generalize hb : [byteOf 1] ++ (p ++ (toLe 2 (calInstance c e t) ++ (q ++ (toLe 8 (Config.serial % 2 ^ 64) ++ r)))) = body at h
  have hl : body.length = 1020 := by simp [← hb, hp, hq, hr]
  have e0 : leAt (s.calImage c e t) 0 1 = 1 := by
    rw [h, ← hb]
    rfl
  have e2 : leAt (s.calImage c e t) 2 2 = calInstance c e t := by
    have := leAt_at (l := s.calImage c e t) (a := [byteOf 1] ++ p) (b := [byteOf 1] ++ p)
      (z := (q ++ (toLe 8 (Config.serial % 2 ^ 64) ++ r)) ++ toLe 4 (crc32 body)) 2 (calInstance c e t)
      (by rw [h, ← hb]; simp only [List.append_assoc]) rfl
    simp only [List.length_append, hp, List.length_singleton] at this
    rw [this]
    omega
  have e40 : leAt (s.calImage c e t) 40 8 = Config.serial % 2 ^ 64 := by
    have := leAt_at (l := s.calImage c e t) (a := [byteOf 1] ++ (p ++ (toLe 2 (calInstance c e t) ++ q)))
      (b := [byteOf 1] ++ (p ++ (toLe 2 (calInstance c e t) ++ q))) (z := r ++ toLe 4 (crc32 body)) 8 (Config.serial % 2 ^ 64)
      (by rw [h, ← hb]; simp only [List.append_assoc]) rfl
    simp only [List.length_append, hp, hq, toLe_length, List.length_singleton] at this
    rw [this]
    omega
  have e1020 : leAt (s.calImage c e t) 1020 4 = crc32 body := by
    have := leAt_at (l := s.calImage c e t) (a := body) (b := body) (z := []) 4 (crc32 body) (by rw [h]; simp) rfl
    rw [hl] at this
    rw [this]
    have := crc32_lt body
    omega
  have et : (s.calImage c e t).take 1020 = body := by rw [h, ← hl]; simp
  simp only [imageOk, e0, e2, e40, e1020, et, BEq.rfl, Bool.and_self]

end Sys2Proof.Machine
end

