-- ==== Sys2Proof/Laws/PerInstr.lean ====
section
/-! SUPPORT. The family WellFormed, one lemma per command: a well-formed command that names a core names one that is assigned. -/

namespace Sys2Proof.Laws.WellFormed

set_option linter.unusedTactic false
set_option linter.unreachableTactic false

set_option Elab.async false

/-- The global core number a command names as its place, where it names one. -/
def core : Instr → Option Nat
  | .passEnd c _ _ _ => some c
  | .vectorPlan c _ _ => some c
  | .vectorReissue c _ _ => some c
  | .tileReset c _ _ => some c
  | .tileResetEnd c _ _ => some c
  | .tileEnableWrite c _ _ _ => some c
  | .tileDisableEffect c _ _ => some c
  | .colmapWrite c _ _ _ _ => some c
  | .tileCfgWrite c _ _ _ => some c
  | .calApplyRequest c _ _ => some c
  | .applyEffect c _ _ => some c
  | .calSave c _ _ => some c
  | .calLoad c _ _ => some c
  | .calLoadVerifyDone c _ _ _ => some c
  | .calRecal c _ _ => some c
  | .trackWindow c _ _ => some c
  | .refreshRow c _ _ _ => some c
  | .refreshSlot c _ _ => some c
  | .bankWrite c _ => some c
  | .bankWriteDone c _ _ _ => some c
  | .bankSwap c _ => some c
  | .bankSwapJudge c _ => some c
  | .bankSwapEffect c _ _ => some c
  | .wearMoveStart c _ _ => some c
  | .wearMoveWriteDone c _ _ => some c
  | .wearMoveSwap c _ _ => some c
  | .bankRelease c _ _ => some c
  | .mvm c _ => some c
  | .mvmAcc c _ => some c
  | .groupReduce c _ => some c
  | .glumeRecordDone c _ => some c
  | .engineOpComplete c _ _ => some c
  | .accClear c _ => some c
  | .accPromote c _ => some c
  | .accSpillStore c _ => some c
  | .accSpillAdd c _ => some c
  | .accSpillSave c _ => some c
  | .accResumeLoad c _ => some c
  | .accResumeAdd c _ => some c
  | .accResumeRestore c _ => some c
  | .accRead c _ => some c
  | .outlierLoad c _ => some c
  | .checkForce c _ => some c
  | .nop c => some c
  | .streamEnd c => some c
  | .semWait c => some c
  | .semSignal c => some c
  | .fence c => some c
  | .dmaCopy c => some c
  | .dmaCopyDone c _ => some c
  | .tillerKick c _ => some c
  | .tillerDone c _ => some c
  | .mboxRead c _ => some c
  | .tillerSemPortWrite c _ _ _ => some c
  | .tillerTrap c _ _ => some c
  | .tillerReset c _ => some c
  | .streamFetch c => some c
  | .startRecord c _ => some c
  | .coreGo c => some c
  | .coreHalt c => some c
  | .stepAbort c _ => some c
  | .haltComplete c => some c
  | .stepEndReport c _ => some c
  | .checkCompare c _ _ _ => some c
  | .checkRepeatDone c _ _ _ => some c
  | .checkOutcome c _ _ => some c
  | .retireTakeover c _ => some c
  | .chkSeedWrite c _ => some c
  | .lgSel c _ => some c
  | .lgClear c => some c
  | .drefWrite c _ => some c
  | .stepSum c _ => some c
  | .summaryTimeout _ => none
  | .calSlot c _ => some c
  | .calTakeover c _ => some c
  | .calTakeoverTimeout c _ => some c
  | .calProcedureEnd c _ _ _ => some c
  | .calTimeout c _ => some c
  | .calReturn c _ => some c
  | .calOverdue c _ _ => some c
  | .startupCalSettled c _ => some c
  | .retentionScreenEnd c _ _ => some c
  | .calUnsettled c _ => some c
  | .alloc c _ _ _ _ => some c
  | .pinR c _ _ _ => some c
  | .pinW c _ _ _ _ _ _ => some c
  | .unpin _ => none
  | .share _ _ _ => none
  | .release _ _ => none
  | .trim _ _ _ => none
  | .spill _ _ => none
  | .fill _ _ => none
  | .cowCopyDone _ => none
  | .tierMoveDone _ => none
  | .spillSweep _ => none
  | .pageNumberRelease _ => none
  | .kvAppend c => some c
  | .attnRun c => some c
  | .walkerPageRead c => some c
  | .attnCmdComplete c => some c
  | .seqFailReport c _ => some c
  | .xlateWrite c _ => some c
  | .kvpEnableWrite _ _ => none
  | .entrySel _ _ => none
  | .reqTail _ _ => none
  | .submit _ => none
  | .cancel _ => none
  | .park _ => none
  | .unpark _ => none
  | .stepAssembly _ => none
  | .draftRoundEnd _ => none
  | .samplingDone _ _ => none
  | .stepClose _ => none
  | .slotFree _ => none
  | .resPopLo _ => none
  | .resPeekLo _ => none
  | .resHeadWrite _ _ => none
  | .ringEnableWrite _ _ _ => none
  | .seqSel _ => none
  | .modelSwap _ => none
  | .modelUnload _ => none
  | .barrierDeadlineCheck  => none
  | .swapComplete _ _ => none
  | .apertureWrite _ _ _ _ => none
  | .jobTail _ => none
  | .jobLoad  => none
  | .jobSwap  => none
  | .jobExport  => none
  | .chunkProcess _ _ => none
  | .layerComplete _ => none
  | .jobEnd _ => none
  | .apertureCreditRequest _ _ _ => none
  | .apertureCreditMsg _ _ _ => none
  | .exportCreditRetry _ => none
  | .exportCreditTimeout _ => none
  | .ingestEnableWrite _ => none
  | .memAccess _ _ _ => none
  | .scrubLine _ => none
  | .retireCopyDone _ => none
  | .sramPatrol c _ => some c
  | .eccTestWrite _ => none
  | .eccTestRead _ => none
  | .eccTestEnWrite _ _ => none
  | .rmapSel _ _ => none
  | .linkRetrain _ _ => none
  | .retrainEnd _ _ _ => none
  | .laneRepair _ _ => none
  | .routeWrite _ _ _ => none
  | .awnAdd _ _ => none
  | .awnClaim _ _ _ => none
  | .awnGrant _ => none
  | .claimWithdraw c => some c
  | .stepStartBroadcast _ => none
  | .sclkZero  => none
  | .plkTrain _ _ => none
  | .plkTrainDone _ _ _ _ _ => none
  | .plkLaneError _ _ => none
  | .peerInbound _ _ _ => none
  | .rcopyStart _ => none
  | .rcopyDone _ _ _ => none
  | .semSel _ => none
  | .semViewWrite _ => none
  | .bar2Access _ _ _ => none
  | .configRequest _ => none
  | .flr _ => none
  | .hostLinkDown  => none
  | .ingestLinkDown  => none
  | .ptmDialogue _ => none
  | .ptmHostRead  => none
  | .ideFail _ _ => none
  | .cxlDown _ => none
  | .mctpRequest _ => none
  | .spdmRequest _ _ _ => none
  | .jtagInstruction _ => none
  | .pllUnlock _ => none
  | .refclkLoss  => none
  | .xingTimeout _ => none
  | .crossingRelease _ => none
  | .coreRstAssert c _ => some c
  | .coreRstRelease c => some c
  | .warmReset _ => none
  | .hkRoundTrigger  => none
  | .hkDecision _ => none
  | .orderlyDrainEnd  => none
  | .orderlyFlushEnd  => none
  | .hkadcConversionEnd _ _ => none
  | .hkadcSwTrig _ => none
  | .lifetimeFold  => none
  | .classLineStuck _ _ => none
  | .recordPoll _ _ => none
  | .recordWaitTimeout _ _ => none
  | .faultRecord _ => none
  | .coalesceExpiry _ => none
  | .faultLog  => none
  | .containmentComplete _ => none
  | .logHeadWrite _ => none
  | .logSel _ => none
  | .compatQuietEnd  => none
  | .migReq _ => none
  | .migMoveStart _ => none
  | .migCopyDone _ => none
  | .migBanksDone _ => none
  | .rebuildReloadEnd _ => none
  | .coreRedirWrite _ _ => none
  | .testDue c => some c
  | .testDone c _ _ => some c
  | .testDeferExpiry c => some c
  | .nvmDataRead  => none
  | .cfg2pCommit _ => none
  | .cfg2pApply  => none
  | .fwSlotWrite _ => none
  | .pwrgoodAssert _ _ => none
  | .pwrgoodDeassert  => none
  | .perstHostAssert  => none
  | .perstHostDeassert  => none
  | .perstIngest _ => none
  | .startupStageEnd _ _ => none
  | .irqSetWrite _ _ => none
  | .registerWrite _ _ _ => none
  | .stepFailureReport c _ _ => some c
  | .pcieLinkUp _ _ _ => none
  | .plkReplayFailure _ => none
  | .appendPageWrite c => some c

/-- A core number that a well-formed command names lies below 160, on a compute die (R22). -/
def Statement (i : Instr) : Prop := i.wf = true → ∀ c, core i = some c → c < 160 ∧ computeDies.contains (c / 4) = true

theorem left_of {a b : Bool} (h : (a && b) = true) : a = true := by simp_all

theorem computeDies_lt : ∀ d ∈ computeDies, d < 40 := by decide

theorem core_of_wfC {c : Nat} (h : wfC c = true) : c < 160 ∧ computeDies.contains (c / 4) = true := by
  have hd := computeDies_lt (c / 4) (by simpa [wfC] using h)
  exact ⟨by omega, h⟩

theorem core_of_wfE {c e : Nat} (h : wfE c e = true) : c < 160 ∧ computeDies.contains (c / 4) = true := core_of_wfC (left_of h)

theorem core_of_wfT {c e t : Nat} (h : wfT c e t = true) : c < 160 ∧ computeDies.contains (c / 4) = true := core_of_wfE (left_of h)

theorem named {i : Instr} {c : Nat} (h : i.wf = true → c < 160 ∧ computeDies.contains (c / 4) = true) (hc : core i = some c) :
    Statement i := by
  intro hw x hx
  rw [hc] at hx
  cases hx
  exact h hw

theorem unnamed {i : Instr} (h : core i = none) : Statement i := by
  intro _ x hx
  rw [h] at hx
  cases hx

theorem passEnd (c e t : Nat) (dev : List Int) : Statement (.passEnd c e t dev) := named (fun h => core_of_wfT h) rfl

theorem vectorPlan (c e t : Nat) : Statement (.vectorPlan c e t) := named (fun h => core_of_wfT h) rfl

theorem vectorReissue (c e t : Nat) : Statement (.vectorReissue c e t) := named (fun h => core_of_wfT h) rfl

theorem tileReset (c e t : Nat) : Statement (.tileReset c e t) := named (fun h => core_of_wfT h) rfl

theorem tileResetEnd (c e t : Nat) : Statement (.tileResetEnd c e t) := named (fun h => core_of_wfT h) rfl

theorem tileEnableWrite (c e t : Nat) (v : Bool) : Statement (.tileEnableWrite c e t v) := named (fun h => core_of_wfT h) rfl

theorem tileDisableEffect (c e t : Nat) : Statement (.tileDisableEffect c e t) := named (fun h => core_of_wfT h) rfl

theorem colmapWrite (c e t i : Nat) (v : Nat) : Statement (.colmapWrite c e t i v) := named (fun h => core_of_wfT (left_of (left_of h))) rfl

theorem tileCfgWrite (c e t : Nat) (v : Nat) : Statement (.tileCfgWrite c e t v) := named (fun h => core_of_wfT (left_of h)) rfl

theorem calApplyRequest (c e t : Nat) : Statement (.calApplyRequest c e t) := named (fun h => core_of_wfT h) rfl

theorem applyEffect (c e t : Nat) : Statement (.applyEffect c e t) := named (fun h => core_of_wfT h) rfl

theorem calSave (c e t : Nat) : Statement (.calSave c e t) := named (fun h => core_of_wfT h) rfl

theorem calLoad (c e t : Nat) : Statement (.calLoad c e t) := named (fun h => core_of_wfT h) rfl

theorem calLoadVerifyDone (c e t : Nat) (pass : Bool) : Statement (.calLoadVerifyDone c e t pass) := named (fun h => core_of_wfT h) rfl

theorem calRecal (c e t : Nat) : Statement (.calRecal c e t) := named (fun h => core_of_wfT h) rfl

theorem trackWindow (c e t : Nat) : Statement (.trackWindow c e t) := named (fun h => core_of_wfT h) rfl

theorem refreshRow (c e t b : Nat) : Statement (.refreshRow c e t b) := named (fun h => core_of_wfT (left_of h)) rfl

theorem refreshSlot (c e t : Nat) : Statement (.refreshSlot c e t) := named (fun h => core_of_wfT h) rfl

theorem bankWrite (c e : Nat) : Statement (.bankWrite c e) := named (fun h => core_of_wfE h) rfl

theorem bankWriteDone (c e t b : Nat) : Statement (.bankWriteDone c e t b) := named (fun h => core_of_wfT (left_of h)) rfl

theorem bankSwap (c e : Nat) : Statement (.bankSwap c e) := named (fun h => core_of_wfE h) rfl

theorem bankSwapJudge (c e : Nat) : Statement (.bankSwapJudge c e) := named (fun h => core_of_wfE h) rfl

theorem bankSwapEffect (c e t : Nat) : Statement (.bankSwapEffect c e t) := named (fun h => core_of_wfT h) rfl

theorem wearMoveStart (c e t : Nat) : Statement (.wearMoveStart c e t) := named (fun h => core_of_wfT h) rfl

theorem wearMoveWriteDone (c e t : Nat) : Statement (.wearMoveWriteDone c e t) := named (fun h => core_of_wfT h) rfl

theorem wearMoveSwap (c e t : Nat) : Statement (.wearMoveSwap c e t) := named (fun h => core_of_wfT h) rfl

theorem bankRelease (c e : Nat) (v : Nat) : Statement (.bankRelease c e v) := named (fun h => core_of_wfE (left_of h)) rfl

theorem mvm (c e : Nat) : Statement (.mvm c e) := named (fun h => core_of_wfE h) rfl

theorem mvmAcc (c e : Nat) : Statement (.mvmAcc c e) := named (fun h => core_of_wfE h) rfl

theorem groupReduce (c e : Nat) : Statement (.groupReduce c e) := named (fun h => core_of_wfE h) rfl

theorem glumeRecordDone (c e : Nat) : Statement (.glumeRecordDone c e) := named (fun h => core_of_wfE h) rfl

theorem engineOpComplete (c e tag : Nat) : Statement (.engineOpComplete c e tag) := named (fun h => core_of_wfE (left_of h)) rfl

theorem accClear (c e : Nat) : Statement (.accClear c e) := named (fun h => core_of_wfE h) rfl

theorem accPromote (c e : Nat) : Statement (.accPromote c e) := named (fun h => core_of_wfE h) rfl

theorem accSpillStore (c e : Nat) : Statement (.accSpillStore c e) := named (fun h => core_of_wfE h) rfl

theorem accSpillAdd (c e : Nat) : Statement (.accSpillAdd c e) := named (fun h => core_of_wfE h) rfl

theorem accSpillSave (c e : Nat) : Statement (.accSpillSave c e) := named (fun h => core_of_wfE h) rfl

theorem accResumeLoad (c e : Nat) : Statement (.accResumeLoad c e) := named (fun h => core_of_wfE h) rfl

theorem accResumeAdd (c e : Nat) : Statement (.accResumeAdd c e) := named (fun h => core_of_wfE h) rfl

theorem accResumeRestore (c e : Nat) : Statement (.accResumeRestore c e) := named (fun h => core_of_wfE h) rfl

theorem accRead (c e : Nat) : Statement (.accRead c e) := named (fun h => core_of_wfE h) rfl

theorem outlierLoad (c e : Nat) : Statement (.outlierLoad c e) := named (fun h => core_of_wfE h) rfl

theorem checkForce (c e : Nat) : Statement (.checkForce c e) := named (fun h => core_of_wfE h) rfl

theorem nop (c : Nat) : Statement (.nop c) := named (fun h => core_of_wfC h) rfl

theorem streamEnd (c : Nat) : Statement (.streamEnd c) := named (fun h => core_of_wfC h) rfl

theorem semWait (c : Nat) : Statement (.semWait c) := named (fun h => core_of_wfC h) rfl

theorem semSignal (c : Nat) : Statement (.semSignal c) := named (fun h => core_of_wfC h) rfl

theorem fence (c : Nat) : Statement (.fence c) := named (fun h => core_of_wfC h) rfl

theorem dmaCopy (c : Nat) : Statement (.dmaCopy c) := named (fun h => core_of_wfC h) rfl

theorem dmaCopyDone (c k : Nat) : Statement (.dmaCopyDone c k) := named (fun h => core_of_wfC (left_of h)) rfl

theorem tillerKick (c t : Nat) : Statement (.tillerKick c t) := named (fun h => core_of_wfC (left_of h)) rfl

theorem tillerDone (c t : Nat) : Statement (.tillerDone c t) := named (fun h => core_of_wfC (left_of h)) rfl

theorem mboxRead (c t : Nat) : Statement (.mboxRead c t) := named (fun h => core_of_wfC (left_of h)) rfl

theorem tillerSemPortWrite (c t sem n : Nat) : Statement (.tillerSemPortWrite c t sem n) := named (fun h => core_of_wfC (left_of (left_of (left_of h)))) rfl

theorem tillerTrap (c t cause : Nat) : Statement (.tillerTrap c t cause) := named (fun h => core_of_wfC (left_of (left_of h))) rfl

theorem tillerReset (c t : Nat) : Statement (.tillerReset c t) := named (fun h => core_of_wfC (left_of h)) rfl

theorem streamFetch (c : Nat) : Statement (.streamFetch c) := named (fun h => core_of_wfC h) rfl

theorem startRecord (c : Nat) (r : StartRec) : Statement (.startRecord c r) := named (fun h => core_of_wfC (left_of h)) rfl

theorem coreGo (c : Nat) : Statement (.coreGo c) := named (fun h => core_of_wfC h) rfl

theorem coreHalt (c : Nat) : Statement (.coreHalt c) := named (fun h => core_of_wfC h) rfl

theorem stepAbort (c step : Nat) : Statement (.stepAbort c step) := named (fun h => core_of_wfC (left_of h)) rfl

theorem haltComplete (c : Nat) : Statement (.haltComplete c) := named (fun h => core_of_wfC h) rfl

theorem stepEndReport (c step : Nat) : Statement (.stepEndReport c step) := named (fun h => core_of_wfC (left_of h)) rfl

theorem checkCompare (c e t : Nat) (selfDisagree : Bool) : Statement (.checkCompare c e t selfDisagree) := named (fun h => core_of_wfT h) rfl

theorem checkRepeatDone (c e t : Nat) (dev : List Int) : Statement (.checkRepeatDone c e t dev) := named (fun h => core_of_wfT h) rfl

theorem checkOutcome (c e t : Nat) : Statement (.checkOutcome c e t) := named (fun h => core_of_wfT h) rfl

theorem retireTakeover (c e : Nat) : Statement (.retireTakeover c e) := named (fun h => core_of_wfE h) rfl

theorem chkSeedWrite (c v : Nat) : Statement (.chkSeedWrite c v) := named (fun h => core_of_wfC (left_of h)) rfl

theorem lgSel (c v : Nat) : Statement (.lgSel c v) := named (fun h => core_of_wfC (left_of h)) rfl

theorem lgClear (c : Nat) : Statement (.lgClear c) := named (fun h => core_of_wfC h) rfl

theorem drefWrite (c : Nat) (v : Bool) : Statement (.drefWrite c v) := named (fun h => core_of_wfC h) rfl

theorem stepSum (c step : Nat) : Statement (.stepSum c step) := named (fun h => core_of_wfC (left_of h)) rfl

theorem summaryTimeout (step : Nat) : Statement (.summaryTimeout step) := unnamed rfl

theorem calSlot (c e : Nat) : Statement (.calSlot c e) := named (fun h => core_of_wfE h) rfl

theorem calTakeover (c e : Nat) : Statement (.calTakeover c e) := named (fun h => core_of_wfE h) rfl

theorem calTakeoverTimeout (c e : Nat) : Statement (.calTakeoverTimeout c e) := named (fun h => core_of_wfE h) rfl

theorem calProcedureEnd (c e t : Nat) (m : CalMeas) : Statement (.calProcedureEnd c e t m) := named (fun h => core_of_wfT h) rfl

theorem calTimeout (c e : Nat) : Statement (.calTimeout c e) := named (fun h => core_of_wfE h) rfl

theorem calReturn (c e : Nat) : Statement (.calReturn c e) := named (fun h => core_of_wfE h) rfl

theorem calOverdue (c e t : Nat) : Statement (.calOverdue c e t) := named (fun h => core_of_wfT h) rfl

theorem startupCalSettled (c e : Nat) : Statement (.startupCalSettled c e) := named (fun h => core_of_wfE h) rfl

theorem retentionScreenEnd (c e : Nat) (lost : List (Nat × Nat × Nat)) : Statement (.retentionScreenEnd c e lost) := named (fun h => core_of_wfE h) rfl

theorem calUnsettled (c e : Nat) : Statement (.calUnsettled c e) := named (fun h => core_of_wfE h) rfl

theorem alloc (c tenant slot page frame : Nat) : Statement (.alloc c tenant slot page frame) := named (fun h => core_of_wfC (left_of (left_of (left_of (left_of h))))) rfl

theorem pinR (c page tenant slot : Nat) : Statement (.pinR c page tenant slot) := named (fun h => core_of_wfC (left_of (left_of (left_of h)))) rfl

theorem pinW (c page tenant slot listAddr q qframe : Nat) : Statement (.pinW c page tenant slot listAddr q qframe) := named (fun h => core_of_wfC (left_of (left_of (left_of (left_of (left_of (left_of h))))))) rfl

theorem unpin (page : Nat) : Statement (.unpin page) := unnamed rfl

theorem share (page tenant slot : Nat) : Statement (.share page tenant slot) := unnamed rfl

theorem release (page slot : Nat) : Statement (.release page slot) := unnamed rfl

theorem trim (page n slot : Nat) : Statement (.trim page n slot) := unnamed rfl

theorem spill (page frame : Nat) : Statement (.spill page frame) := unnamed rfl

theorem fill (page frame : Nat) : Statement (.fill page frame) := unnamed rfl

theorem cowCopyDone (b : Nat) : Statement (.cowCopyDone b) := unnamed rfl

theorem tierMoveDone (page : Nat) : Statement (.tierMoveDone page) := unnamed rfl

theorem spillSweep (b : Nat) : Statement (.spillSweep b) := unnamed rfl

theorem pageNumberRelease (page : Nat) : Statement (.pageNumberRelease page) := unnamed rfl

theorem kvAppend (c : Nat) : Statement (.kvAppend c) := named (fun h => core_of_wfC h) rfl

theorem attnRun (c : Nat) : Statement (.attnRun c) := named (fun h => core_of_wfC h) rfl

theorem walkerPageRead (c : Nat) : Statement (.walkerPageRead c) := named (fun h => core_of_wfC h) rfl

theorem attnCmdComplete (c : Nat) : Statement (.attnCmdComplete c) := named (fun h => core_of_wfC h) rfl

theorem seqFailReport (c slot : Nat) : Statement (.seqFailReport c slot) := named (fun h => core_of_wfC (left_of h)) rfl

theorem xlateWrite (c : Nat) (v : Bool) : Statement (.xlateWrite c v) := named (fun h => core_of_wfC h) rfl

theorem kvpEnableWrite (b v : Nat) : Statement (.kvpEnableWrite b v) := unnamed rfl

theorem entrySel (b v : Nat) : Statement (.entrySel b v) := unnamed rfl

theorem reqTail (f v : Nat) : Statement (.reqTail f v) := unnamed rfl

theorem submit (f : Nat) : Statement (.submit f) := unnamed rfl

theorem cancel (f : Nat) : Statement (.cancel f) := unnamed rfl

theorem park (f : Nat) : Statement (.park f) := unnamed rfl

theorem unpark (f : Nat) : Statement (.unpark f) := unnamed rfl

theorem stepAssembly (m : Nat) : Statement (.stepAssembly m) := unnamed rfl

theorem draftRoundEnd (step : Nat) : Statement (.draftRoundEnd step) := unnamed rfl

theorem samplingDone (step hub : Nat) : Statement (.samplingDone step hub) := unnamed rfl

theorem stepClose (step : Nat) : Statement (.stepClose step) := unnamed rfl

theorem slotFree (slot : Nat) : Statement (.slotFree slot) := unnamed rfl

theorem resPopLo (f : Nat) : Statement (.resPopLo f) := unnamed rfl

theorem resPeekLo (f : Nat) : Statement (.resPeekLo f) := unnamed rfl

theorem resHeadWrite (f v : Nat) : Statement (.resHeadWrite f v) := unnamed rfl

theorem ringEnableWrite (f : Nat) (res : Bool) (v : Nat) : Statement (.ringEnableWrite f res v) := unnamed rfl

theorem seqSel (v : Nat) : Statement (.seqSel v) := unnamed rfl

theorem modelSwap (m : Nat) : Statement (.modelSwap m) := unnamed rfl

theorem modelUnload (m : Nat) : Statement (.modelUnload m) := unnamed rfl

theorem barrierDeadlineCheck : Statement (.barrierDeadlineCheck) := unnamed rfl

theorem swapComplete (m : Nat) (ok : Bool) : Statement (.swapComplete m ok) := unnamed rfl

theorem apertureWrite (addr : Nat) (data : List Byte) (poisoned : Bool) (stream : Option Nat) : Statement (.apertureWrite addr data poisoned stream) := unnamed rfl

theorem jobTail (v : Nat) : Statement (.jobTail v) := unnamed rfl

theorem jobLoad : Statement (.jobLoad) := unnamed rfl

theorem jobSwap : Statement (.jobSwap) := unnamed rfl

theorem jobExport : Statement (.jobExport) := unnamed rfl

theorem chunkProcess (j : Nat) (raw : Option (List Byte)) : Statement (.chunkProcess j raw) := unnamed rfl

theorem layerComplete (j : Nat) : Statement (.layerComplete j) := unnamed rfl

theorem jobEnd (j : Nat) : Statement (.jobEnd j) := unnamed rfl

theorem apertureCreditRequest (port peer ch : Nat) : Statement (.apertureCreditRequest port peer ch) := unnamed rfl

theorem apertureCreditMsg (j slots consumed : Nat) : Statement (.apertureCreditMsg j slots consumed) := unnamed rfl

theorem exportCreditRetry (j : Nat) : Statement (.exportCreditRetry j) := unnamed rfl

theorem exportCreditTimeout (j : Nat) : Statement (.exportCreditTimeout j) := unnamed rfl

theorem ingestEnableWrite (v : Bool) : Statement (.ingestEnableWrite v) := unnamed rfl

theorem memAccess (rq : Requester) (addr : Nat) (wr : Option (Nat × Bool)) : Statement (.memAccess rq addr wr) := unnamed rfl

theorem scrubLine (st : Nat) : Statement (.scrubLine st) := unnamed rfl

theorem retireCopyDone (st : Nat) : Statement (.retireCopyDone st) := unnamed rfl

theorem sramPatrol (c word : Nat) : Statement (.sramPatrol c word) := named (fun h => core_of_wfC (left_of h)) rfl

theorem eccTestWrite (d : Nat) : Statement (.eccTestWrite d) := unnamed rfl

theorem eccTestRead (d : Nat) : Statement (.eccTestRead d) := unnamed rfl

theorem eccTestEnWrite (d : Nat) (v : Bool) : Statement (.eccTestEnWrite d v) := unnamed rfl

theorem rmapSel (st v : Nat) : Statement (.rmapSel st v) := unnamed rfl

theorem linkRetrain (d p : Nat) : Statement (.linkRetrain d p) := unnamed rfl

theorem retrainEnd (d p : Nat) (ok : Bool) : Statement (.retrainEnd d p ok) := unnamed rfl

theorem laneRepair (d p : Nat) : Statement (.laneRepair d p) := unnamed rfl

theorem routeWrite (d dst v : Nat) : Statement (.routeWrite d dst v) := unnamed rfl

theorem awnAdd (sem n : Nat) : Statement (.awnAdd sem n) := unnamed rfl

theorem awnClaim (who sem n : Nat) : Statement (.awnClaim who sem n) := unnamed rfl

theorem awnGrant (who : Nat) : Statement (.awnGrant who) := unnamed rfl

theorem claimWithdraw (c : Nat) : Statement (.claimWithdraw c) := named (fun h => core_of_wfC h) rfl

theorem stepStartBroadcast (step : Nat) : Statement (.stepStartBroadcast step) := unnamed rfl

theorem sclkZero : Statement (.sclkZero) := unnamed rfl

theorem plkTrain (p : Nat) (retrain : Bool) : Statement (.plkTrain p retrain) := unnamed rfl

theorem plkTrainDone (p badLanes versions peerId peerPort : Nat) : Statement (.plkTrainDone p badLanes versions peerId peerPort) := unnamed rfl

theorem plkLaneError (p lane : Nat) : Statement (.plkLaneError p lane) := unnamed rfl

theorem peerInbound (p addr : Nat) (wr : Option (List Byte × List Nat)) : Statement (.peerInbound p addr wr) := unnamed rfl

theorem rcopyStart (h : Nat) : Statement (.rcopyStart h) := unnamed rfl

theorem rcopyDone (h k : Nat) (data : Option (List Byte × List Nat)) : Statement (.rcopyDone h k data) := unnamed rfl

theorem semSel (v : Nat) : Statement (.semSel v) := unnamed rfl

theorem semViewWrite (v : Nat) : Statement (.semViewWrite v) := unnamed rfl

theorem bar2Access (off : Nat) (wr : Option (Nat × Bool)) (stream : Option Nat) : Statement (.bar2Access off wr stream) := unnamed rfl

theorem configRequest (i : Nat) : Statement (.configRequest i) := unnamed rfl

theorem flr (f : Nat) : Statement (.flr f) := unnamed rfl

theorem hostLinkDown : Statement (.hostLinkDown) := unnamed rfl

theorem ingestLinkDown : Statement (.ingestLinkDown) := unnamed rfl

theorem ptmDialogue (hostNs : Nat) : Statement (.ptmDialogue hostNs) := unnamed rfl

theorem ptmHostRead : Statement (.ptmHostRead) := unnamed rfl

theorem ideFail (i stream : Nat) : Statement (.ideFail i stream) := unnamed rfl

theorem cxlDown (p : Nat) : Statement (.cxlDown p) := unnamed rfl

theorem mctpRequest (typ : Nat) : Statement (.mctpRequest typ) := unnamed rfl

theorem spdmRequest (mgmt : Bool) (op : Nat) (ide : Option Nat) : Statement (.spdmRequest mgmt op ide) := unnamed rfl

theorem jtagInstruction (ir : Nat) : Statement (.jtagInstruction ir) := unnamed rfl

theorem pllUnlock (d : Nat) : Statement (.pllUnlock d) := unnamed rfl

theorem refclkLoss : Statement (.refclkLoss) := unnamed rfl

theorem xingTimeout (page : Nat) : Statement (.xingTimeout page) := unnamed rfl

theorem crossingRelease (page : Nat) : Statement (.crossingRelease page) := unnamed rfl

theorem coreRstAssert (c : Nat) (preserve : Bool) : Statement (.coreRstAssert c preserve) := named (fun h => core_of_wfC h) rfl

theorem coreRstRelease (c : Nat) : Statement (.coreRstRelease c) := named (fun h => core_of_wfC h) rfl

theorem warmReset (cause : Nat) : Statement (.warmReset cause) := unnamed rfl

theorem hkRoundTrigger : Statement (.hkRoundTrigger) := unnamed rfl

theorem hkDecision (r : HkReadings) : Statement (.hkDecision r) := unnamed rfl

theorem orderlyDrainEnd : Statement (.orderlyDrainEnd) := unnamed rfl

theorem orderlyFlushEnd : Statement (.orderlyFlushEnd) := unnamed rfl

theorem hkadcConversionEnd (d : Nat) (input : Int) : Statement (.hkadcConversionEnd d input) := unnamed rfl

theorem hkadcSwTrig (d : Nat) : Statement (.hkadcSwTrig d) := unnamed rfl

theorem lifetimeFold : Statement (.lifetimeFold) := unnamed rfl

theorem classLineStuck (d page : Nat) : Statement (.classLineStuck d page) := unnamed rfl

theorem recordPoll (d page : Nat) : Statement (.recordPoll d page) := unnamed rfl

theorem recordWaitTimeout (d page : Nat) : Statement (.recordWaitTimeout d page) := unnamed rfl

theorem faultRecord (d : Nat) : Statement (.faultRecord d) := unnamed rfl

theorem coalesceExpiry (d : Nat) : Statement (.coalesceExpiry d) := unnamed rfl

theorem faultLog : Statement (.faultLog) := unnamed rfl

theorem containmentComplete (seqno : Nat) : Statement (.containmentComplete seqno) := unnamed rfl

theorem logHeadWrite (v : Nat) : Statement (.logHeadWrite v) := unnamed rfl

theorem logSel (v : Nat) : Statement (.logSel v) := unnamed rfl

theorem compatQuietEnd : Statement (.compatQuietEnd) := unnamed rfl

theorem migReq (logical : Nat) : Statement (.migReq logical) := unnamed rfl

theorem migMoveStart (logical : Nat) : Statement (.migMoveStart logical) := unnamed rfl

theorem migCopyDone (logical : Nat) : Statement (.migCopyDone logical) := unnamed rfl

theorem migBanksDone (logical : Nat) : Statement (.migBanksDone logical) := unnamed rfl

theorem rebuildReloadEnd (logical : Nat) : Statement (.rebuildReloadEnd logical) := unnamed rfl

theorem coreRedirWrite (l v : Nat) : Statement (.coreRedirWrite l v) := unnamed rfl

theorem testDue (c : Nat) : Statement (.testDue c) := named (fun h => core_of_wfC h) rfl

theorem testDone (c : Nat) (bist : Bool) (failed : List (Nat × Nat × Nat × Nat)) : Statement (.testDone c bist failed) := named (fun h => core_of_wfC h) rfl

theorem testDeferExpiry (c : Nat) : Statement (.testDeferExpiry c) := named (fun h => core_of_wfC h) rfl

theorem nvmDataRead : Statement (.nvmDataRead) := unnamed rfl

theorem cfg2pCommit (mgmt : Bool) : Statement (.cfg2pCommit mgmt) := unnamed rfl

theorem cfg2pApply : Statement (.cfg2pApply) := unnamed rfl

theorem fwSlotWrite (img : FwImage) : Statement (.fwSlotWrite img) := unnamed rfl

theorem pwrgoodAssert (railsOk refclkOk : Bool) : Statement (.pwrgoodAssert railsOk refclkOk) := unnamed rfl

theorem pwrgoodDeassert : Statement (.pwrgoodDeassert) := unnamed rfl

theorem perstHostAssert : Statement (.perstHostAssert) := unnamed rfl

theorem perstHostDeassert : Statement (.perstHostDeassert) := unnamed rfl

theorem perstIngest (v : Bool) : Statement (.perstIngest v) := unnamed rfl

theorem startupStageEnd (n : Nat) (r : StageResult) : Statement (.startupStageEnd n r) := unnamed rfl

theorem irqSetWrite (page v : Nat) : Statement (.irqSetWrite page v) := unnamed rfl

theorem registerWrite (addr w v : Nat) : Statement (.registerWrite addr w v) := unnamed rfl

theorem stepFailureReport (c step : Nat) (discarded : Bool) : Statement (.stepFailureReport c step discarded) := named (fun h => core_of_wfC (left_of h)) rfl

theorem pcieLinkUp (i width rate : Nat) : Statement (.pcieLinkUp i width rate) := unnamed rfl

theorem plkReplayFailure (p : Nat) : Statement (.plkReplayFailure p) := unnamed rfl

theorem appendPageWrite (c : Nat) : Statement (.appendPageWrite c) := named (fun h => core_of_wfC h) rfl

end Sys2Proof.Laws.WellFormed
end

