-- ==== Sys2Proof/Tests/Slice0.lean ====
section
/-! SUPPORT. Tests. Every check of WellFormed refuses a term that fails it; the manual's worked examples, each test naming the rule
or chapter it is taken from; and one step of the block. -/

namespace Sys2Proof.Tests

open Sys2Proof.Machine

set_option maxRecDepth 20000

/-! ### Ill-formed commands are refused -/

def aRec : StartRec := { stream := 0, step := 1, gsemBase := 0, gsemN := 0, model := 0, tenant := 0, reload := false }

def aStage : StageResult :=
  { slotAOk := true, slotBOk := true, keyMatch := true, failedSrams := [], factoryOk := true, downLinks := [], bistFailed := [],
    hbmFailed := [], cxlCaps := [] }

/-- A core on a hub die, a fifth engine, an eighteenth tile (R22). -/
theorem test_units_refused : ∀ i ∈ [Instr.nop 40, .nop 160, .mvm 0 4, .tileReset 0 0 17, .tileReset 40 0 0, .coreGo 53],
    i.wf = false := by decide

/-- Dies, hubs' stacks, ports, functions and pages that the package does not have. -/
theorem test_places_refused : ∀ i ∈ [Instr.pllUnlock 40, .scrubLine 12, .linkRetrain 0 4, .plkTrain 16 true, .flr 64, .cxlDown 4, .configRequest 2,
    .xingTimeout 40964, .rcopyStart 4, .rcopyDone 0 16 none, .cowCopyDone 4, .samplingDone 0 4, .ideFail 1 4, .ideFail 2 0, .ideFail 0 5],
    i.wf = false := by decide

/-- Operands wider than their fields. -/
theorem test_operands_refused : ∀ i ∈ [Instr.tileCfgWrite 0 0 0 (2 ^ 32), .colmapWrite 0 0 0 4 0, .refreshRow 0 0 0 2, .bankWriteDone 0 0 0 2,
    .engineOpComplete 0 0 48, .dmaCopyDone 0 8, .tillerKick 0 2, .tillerTrap 0 0 256, .tillerSemPortWrite 0 0 0x800 1, .stepAbort 0 (2 ^ 64),
    .startupStageEnd 10 aStage, .awnClaim 0 0x400 16, .awnClaim (2 ^ 14) 0x400 1, .awnAdd 0x3FF 1, .awnAdd 0x800 1, .awnGrant (2 ^ 14)],
    i.wf = false := by decide

theorem test_page_operands_refused : ∀ i ∈ [Instr.unpin (2 ^ 26), .pinR 0 0 256 0, .pinR 0 0 0 4096, .trim 0 4096 0, .spill 0 (2 ^ 26),
    .pinW 0 0 0 0 (2 ^ 48) 0 0, .slotFree 4096, .modelSwap 64, .stepAssembly 64, .jobEnd 256, .chunkProcess 256 none, .ptmDialogue (2 ^ 64),
    .mctpRequest 256, .spdmRequest true 256 none, .spdmRequest true 0 (some 5), .jtagInstruction 256, .warmReset 3, .warmReset 0,
    .migReq 160, .coreRedirWrite 160 0, .containmentComplete (2 ^ 32), .sramPatrol 0 (2 ^ 22), .ringEnableWrite 0 false (2 ^ 64)],
    i.wf = false := by decide

/-- Addresses, widths, requesters and data of accesses. -/
theorem test_accesses_refused : ∀ i ∈ [Instr.memAccess (.coreCmd 40) 0 none, .memAccess (.bar2 64) 0 none, .memAccess (.peer 16) 0 none,
    .memAccess (.tillerU 0 2) 0 none, .memAccess (.tillerM 0 2) 0 none, .memAccess (.hubUnit 11) 0 none, .memAccess .ingestPort 4 none,
    .memAccess .ingestPort (2 ^ 48) none, .memAccess .ingestPort 0 (some (2 ^ 64, false)), .bar2Access 4 none none, .bar2Access (2 ^ 36) none none,
    .bar2Access 0 none (some 5), .registerWrite 0 3 0, .registerWrite 0x11100000 4 0, .registerWrite 0 4 (2 ^ 32), .irqSetWrite 40964 0,
    .apertureWrite 0 [] false none, .apertureWrite 0xF10200000000 [0] false none, .apertureCreditRequest 16 0 0, .apertureCreditRequest 0 64 0,
    .apertureCreditRequest 0 0 8, .apertureCreditMsg 0 (2 ^ 32) 0, .peerInbound 0 (2 ^ 48) none, .pcieLinkUp 0 2 1, .pcieLinkUp 0 4 7,
    .plkTrainDone 0 (2 ^ 17) 0 0 0, .plkLaneError 0 17],
    i.wf = false := by decide

theorem test_long_data_refused : (Instr.peerInbound 0 0 (some (List.replicate 4097 0, []))).wf = false
    ∧ (Instr.apertureWrite 0xF10000000000 (List.replicate 4097 0) false none).wf = false := by
  refine ⟨?_, ?_⟩ <;> simp [Instr.wf, wfBytes, -List.reduceReplicate]

/-- Start records with a field that does not fit (R184). -/
theorem test_start_records_refused : ∀ r ∈ [{ aRec with stream := 2 ^ 48 }, { aRec with stream := 8 }, { aRec with step := 2 ^ 64 },
    { aRec with gsemN := 65 }, { aRec with gsemN := 1, gsemBase := 0x3FF }, { aRec with gsemN := 2, gsemBase := 0x7FF },
    { aRec with model := 64 }, { aRec with tenant := 256 }], (Instr.startRecord 0 r).wf = false := by decide

theorem test_well_formed : ∀ i ∈ [Instr.nop 39, .nop 81, .mvm 159 3, .tileReset 0 3 16, .startRecord 0 aRec, .registerWrite 0x08 4 1,
    .memAccess (.hubUnit 16) 0x40 none], i.wf = true := by decide

theorem test_refused_by_name : exec (.nop 40) State.reset = .refused .illFormed := rfl

/-! ### The manual's worked examples -/

/-- R37: the bytes 0x5D, 0x80, 0xEC and 0x0C are 93, -128 (clamped to -127), -20 and 12. -/
theorem test_elements : (List.range 4).map (elemAt [0x5D, 0x80, 0xEC, 0x0C] 0) = [93, -128, -20, 12]
    ∧ clampI (-(drivenMax 0)) (drivenMax 0) (-128) = -127 := by decide

/-- R39: 40, 12, 0 and 150 non-zero rows at limit 256: passes of 52 and 150 rows, one group skipped, one merge. -/
theorem test_plan_high : ((planNibble true true 256 [List.range 40, List.range 12, [], List.range 150]).1.map (fun p => p.length),
    (planNibble true true 256 [List.range 40, List.range 12, [], List.range 150]).2) = ([52, 150], 1, 1) := by decide

/-- R39: 231, 244, 97 and 88: the first two run alone, the last two merge. -/
theorem test_plan_low : ((planNibble true true 256 [List.range 231, List.range 244, List.range 97, List.range 88]).1.map (fun p => p.length),
    (planNibble true true 256 [List.range 231, List.range 244, List.range 97, List.range 88]).2) = ([231, 244, 185], 0, 1) := by decide

/-- R42: a pass of 256 rows splits into halves of 128; of an odd number the first half is the larger. -/
theorem test_halves : ((halves (List.range 256)).1.length, (halves (List.range 7)).1) = (128, [0, 1, 2, 3]) := by decide

/-- R100: the weight at row 300, pair 77 is in burst 147, group 1. -/
theorem test_burst : burstOf 300 77 = (147, 1) := by decide

/-- R101: the check value of "123456789". -/
theorem test_crc16 : crc16 [0x31, 0x32, 0x33, 0x34, 0x35, 0x36, 0x37, 0x38, 0x39] = 0x29B1 := by decide

/-- R117: 7 is driven as 4 and -3 as -2. -/
theorem test_halved : halved 7 = 4 ∧ halved (-3) = -2 := by decide

/-- R143: at power-on the register of tile t of engine e is 1 XOR (e * 32 + t), and never 0. -/
theorem test_selection : lfsrLoad 0 2 4 = 69 ∧ lfsrLoad 0 0 0 = 1 ∧ lfsrLoad 0 0 1 = 1 := by decide

/-- R174 to R177, the chapter's descriptor: an MVM on engine 2. -/
theorem test_descriptor : malformed 0x000020A00FF8D110 0x0008040000042000 0x14011003 0 = false
    ∧ (let d := decodeDesc 0 0x000020A00FF8D110 0x0008040000042000 0x14011003 0
       [d.opcode, d.version, d.tag, d.eng, d.mask, d.acc, d.group, d.cs, d.rows, d.cols, d.waitSem, d.waitCnt, d.sigSem, d.sigCnt])
      = [0x10, 1, 13, 2, 0xFF, 5, 1, 0x42000, 1024, 256, 3, 1, 0x401, 1] := by decide

/-- The same: its side block begins at 0x04_4000. -/
theorem test_side_block : (decodeDesc 0 0x000020A00FF8D110 0x0008040000042000 0x14011003 0).sideOff = 0x44000 := by decide

/-- R264: the word 0x1234_5678 is on stack 9 at 0x184_5678. -/
theorem test_stack : stackOf 0x12345678 = 9 ∧ localOf 0x12345678 = 0x1845678 := by decide

/-- R268: check bits of 1 and 3. -/
theorem test_check_bits : checkBits 1 = 0x07 ∧ checkBits 3 = 0x0C := by decide

/-- R280, the table of tests: syndromes 0, 0x01, 0x0B, 0x03 and 0xFF. -/
theorem test_syndromes : [decode72 1 (checkBits 1 ^^^ 0x07), decode72 1 (checkBits 1 ^^^ 0x06), decode72 3 (checkBits 3 ^^^ 0x07),
    decode72 1 (checkBits 1 ^^^ 0x04), decode72 1 (checkBits 1 ^^^ 0xF8)] = [(0, 1), (2, 1), (1, 1), (3, 1), (4, 1)] := by decide

/-- R403, R413: the ENG page of engine 2 of core 81 is at BAR0 0x051C_6000, its bit in IRQ_PAGES14 is bit 6, at 0x0500_0238. -/
theorem test_pages : engPg 81 2 * 4096 = 0x051C6000 ∧ diePage 20 * 4096 + (DIE.IRQ_PAGES 14).off = 0x05000238
    ∧ engPg 81 2 % 1024 = 14 * 32 + 6 ∧ blockOf (engPg 81 2) = .eng := by decide

/-- R6: little-endian bytes of the descriptor's first word. -/
theorem test_bytes : toLe 8 0x000020A00FF8D110 = [0x10, 0xD1, 0xF8, 0x0F, 0xA0, 0x20, 0x00, 0x00] := by decide

/-! ### One step -/

/-- An empty queue lets one tick pass (log 3). -/
theorem test_idle : step State.reset = .next { State.reset with now := 1 } := rfl

/-- The word of the queue's front comes first: TILE.CFG of tile 0 takes its fields, the second command waits. -/
theorem test_step : (match step { State.reset with pending := [.tileCfgWrite 0 0 0 0x65, .nop 0] } with
    | .next t => (t.rd (tilePg 0 0 0) TILE.CFG_MERGE_EN, t.rd (tilePg 0 0 0) TILE.CFG_SPLIT_EN, t.pending)
    | _ => (2, 2, [])) = (field 0x65 15 1, field 0x65 13 1, [.nop 0]) := by decide

/-- R315, PCIe (log 73): a vector is masked at reset, so that its event pends; lifting the mask in PF0's BAR4 sends it. -/
theorem test_msix : (State.reset.sendMsix 0 4).msix.pba = [(0, 16)] ∧ (State.reset.sendMsix 0 4).out = []
    ∧ (registerWriteEffect (State.reset.sendMsix 0 4) 0x1000204C 4 0).out = [.msix 0 4 0 0]
    ∧ (registerWriteEffect (State.reset.sendMsix 0 4) 0x1000204C 4 0).msix.pba = [(0, 0)] := by decide

/-- The table gives no row bits: no word spells a command. -/
theorem test_no_words : decodeTableWord 64 0x10 = none ∧ (State.reset.withFetchWord 64 0x10) = State.reset := ⟨rfl, rfl⟩

end Sys2Proof.Tests
end

