-- ==== Sys2Proof/Tests/Witnesses.lean ====
section
/-! SUPPORT. For every clause of a statement that has hypotheses, a state and operands that meet all of them together. The theorem
`wit_<Name>_<path>` is about the clause of Obligations.<Name> at that path, counting the parts of its conjunctions from 0. -/

namespace Sys2Proof.Tests.Witnesses

open Sys2Proof.Machine

set_option maxRecDepth 100000

def S0 : State := State.reset

def qd (op : Nat) : Desc :=
  { addr := 64, opcode := op, version := 1, tag := 5, eng := 0, mask := 3, acc := 2, mode := 0, group := 0, accMode := 0, limit := 0,
    resident := false, after := false, dir := false, tiller := 0, cs := 4096, rows := 8, cols := 16, len64 := 0, waitSem := 0, waitCnt := 0,
    sigSem := 0, sigCnt := 0, scope := 0, operand := 0 }
/-- Core 0 runs. -/
def Srun : State := S0.wr (corePg 0) CORE.STAT_STATE 1
/-- Core 0 runs with a descriptor at the head of queue `q`. -/
def Sq (q : Nat) (d : Desc) : State := Srun.enqueue 0 q d
/-- Tile 0 and 1 of engine 0 of core 0 are in service with resident rows. -/
def serve (s : State) : State :=
  (List.range 2).foldl (fun s t => ((s.wr (tilePg 0 0 t) TILE.STAT_IN_SERVICE 1).wr (engPg 0 0) (ENG.BANK_STATE_STATE (bkey t 0)) 2).wr (engPg 0 0) (ENG.BANK_STATE_ROWS (bkey t 0)) 8) s
def qv : Vec :=
  { tag := 5, named := 0, mode := 0, cols := 16, dynMax := 0, dynEn := false, reissueEn := false, elems := [10, -3, 127, 0, 0, 0, 0, 0], poisonRows := [],
    forced := false, planned := false, reissue := false, reissued := false, driven := [], routed := [], passes := [], splits := [], cur := none,
    curStart := 0, budget := 64, budgetOut := false, clipped := 0, ovf := false, bank := 0, two := false, img := 0, oset := OSet.empty, out := [],
    finished := false, reduced := false }
def addVec (s : State) (t : Nat) (v : Vec) : State := s.modTile 0 0 t (fun x => { x with vecs := x.vecs ++ [v] })
def addEOp (s : State) (o : EngOp) : State := s.addOp 0 0 o

theorem wit_TileRegisterWritesAndReset_0_0 :
    ∃ (s : State) (c e t v : Nat), s.lets (.tileCfgWrite c e t v) ∧ bit v (3 + s.computeBank c e t) = s.rdB (tilePg c e t) (sliceF
      (s.computeBank c e t)) :=
  ⟨S0, 0, 0, 0, 0x65, lets_of_check (by decide), by decide⟩

theorem wit_TileRegisterWritesAndReset_0_1 :
    ∃ (s : State) (c e t v : Nat), s.lets (.tileCfgWrite c e t v) ∧ bit v (3 + s.computeBank c e t) ≠ s.rdB (tilePg c e t) (sliceF
      (s.computeBank c e t)) :=
  ⟨S0, 0, 0, 0, 0x8, lets_of_check (by decide), by decide⟩

theorem wit_TileRegisterWritesAndReset_0_2 :
    ∃ (s : State) (c e t i v : Nat), s.lets (.colmapWrite c e t i v) ∧ s.rdB (tilePg c e t) TILE.CTRL_ENABLE = false ∧ (s.tile c e
      t).disablePending = false :=
  ⟨(S0.wr (tilePg 0 0 0) TILE.CTRL_ENABLE 0), 0, 0, 0, 1, 0x80010005, lets_of_check (by decide), by decide, by decide⟩

theorem wit_TileRegisterWritesAndReset_0_3 :
    ∃ (s : State) (c e t i v : Nat), s.lets (.colmapWrite c e t i v) ∧ s.rdB (tilePg c e t) TILE.CTRL_ENABLE = true :=
  ⟨S0, 0, 0, 0, 1, 0x80010005, lets_of_check (by decide), by decide⟩

theorem wit_TileRegisterWritesAndReset_0_4 :
    ∃ (s : State) (c e t : Nat), s.lets (.tileEnableWrite c e t false) ∧ s.rdB (tilePg c e t) TILE.CTRL_ENABLE = true :=
  ⟨S0, 0, 0, 0, lets_of_check (by decide), by decide⟩

theorem wit_TileRegisterWritesAndReset_0_5 :
    ∃ (s : State) (c e t : Nat), s.lets (.tileDisableEffect c e t) ∧ (s.tile c e t).disablePending = true ∧ (∀ (v : Vec), v ∈
      (s.tile c e t).vecs → v.finished = true) :=
  ⟨(S0.modTile 0 0 0 (fun x => { x with disablePending := true })), 0, 0, 0, lets_of_check (by decide), by decide, by decide⟩

theorem wit_TileRegisterWritesAndReset_1_0 :
    ∃ (s : State) (c e t : Nat), s.lets (.tileReset c e t) :=
  ⟨(addVec (addEOp (Sq 0 (qd 0x10)) (EngOp.new (qd 0x10) [0,1] [])) 0 qv), 0, 0, 0, lets_of_check (by decide)⟩

theorem wit_TileRegisterWritesAndReset_1_1 :
    ∃ (s : State) (c e t : Nat), s.lets (.tileResetEnd c e t) ∧ (s.tile c e t).resetAt ≠ none :=
  ⟨(S0.modTile 0 0 0 (fun x => { x with resetAt := some 0 })), 0, 0, 0, lets_of_check (by decide), by decide⟩

theorem wit_VectorsArePlannedAndDelivered_0_0 :
    ∃ (s : State) (c e t : Nat) (v : Vec), s.vecTile c e v.tag v.named = t ∧ s.lets (.vectorPlan c e t) ∧ s.plannable c e t false =
      some v ∧ s.dynOn c e v = false :=
  ⟨(addVec (serve Srun) 0 qv), 0, 0, 0, qv, by decide, lets_of_check (by decide), by decide, by decide⟩

def qr : Vec := { qv with reissue := true }

theorem wit_VectorsArePlannedAndDelivered_0_1 :
    ∃ (s : State) (c e t : Nat) (v : Vec), s.vecTile c e v.tag v.named = t ∧ s.lets (.vectorReissue c e t) ∧ s.plannable c e t true
      = some v :=
  ⟨(addVec (serve Srun) 0 qr), 0, 0, 0, qr, by decide, lets_of_check (by decide), by decide⟩

def qp : Vec := { qv with planned := true, driven := [10, -3, 7, 0], passes := [⟨true, [0, 2], false⟩] }

theorem wit_VectorsArePlannedAndDelivered_1 :
    ∃ (s : State) (c e t : Nat) (dev : List Int) (v : Vec) (p : Pass) (rows lanes : List Nat), s.lets (.passEnd c e t dev) ∧
      s.vecTile c e v.tag v.named = t ∧ s.runnable c e t = some v ∧ v.next = some (p, 0, rows, lanes) :=
  ⟨(addVec (serve Srun) 0 qp), 0, 0, 0, [], qp, ⟨true, [0, 2], false⟩, [0, 2], (List.range 256), lets_of_check (by decide), by
    decide, by decide, by decide⟩

theorem wit_BanksAreWrittenAndReleased_0 :
    ∃ (s : State) (c e : Nat) (d : Desc), s.lets (.bankWrite c e) ∧ s.issuable c e 32 = some d :=
  ⟨(serve (Sq 0 (qd 0x20))), 0, 0, (qd 0x20), lets_of_check (by decide), by decide⟩

def qw (k : WriteKind) : BankWr := ⟨k, 8, 4096, true, 1, 5, false, 0⟩

def Sw (k : WriteKind) (b : Nat) : State := S0.modTile 0 0 0 (fun x => x.modBank b (fun y => { y with wr := some (qw k) }))

theorem wit_BanksAreWrittenAndReleased_1 :
    ∃ (s : State) (c e t b : Nat) (w : BankWr), s.lets (.bankWriteDone c e t b) ∧ ((s.tile c e t).bank b).wr = some w ∧ w.kind =
      WriteKind.fill :=
  ⟨(Sw .fill 1), 0, 0, 0, 1, (qw .fill), lets_of_check (by decide), by decide, by decide⟩

theorem wit_BanksAreWrittenAndReleased_2 :
    ∃ (s : State) (c e v : Nat), s.lets (.bankRelease c e v) ∧ field v 0 5 ≤ 16 ∧ s.computeBank c e (field v 0 5) ≠ field v 8 1 ∧
      s.rdB (engPg c e) (ENG.BANK_STATE_WRITING (bkey (field v 0 5) (field v 8 1))) = false :=
  ⟨(serve S0), 0, 0, 0x110, lets_of_check (by decide), by decide, by decide, by decide⟩

theorem wit_BanksAreWrittenAndReleased_3 :
    ∃ (s : State) (c e v : Nat), s.lets (.bankRelease c e v) ∧ s.computeBank c e (field v 0 5) = field v 8 1 :=
  ⟨(serve S0), 0, 0, 0x0, lets_of_check (by decide), by decide⟩

theorem wit_BankSwapsExchangeComputeAndIdle_0 :
    ∃ (s : State) (c e : Nat) (d : Desc), s.lets (.bankSwap c e) ∧ s.issuable c e 33 = some d :=
  ⟨(serve (Sq 0 (qd 0x21))), 0, 0, (qd 0x21), lets_of_check (by decide), by decide⟩

def o21 (j : Bool) : EngOp := { EngOp.new (qd 0x21) [0] [leftCode 0 0] with judged := j }

def Sgood : State := (serve Srun).wr (engPg 0 0) (ENG.BANK_STATE_STATE (bkey 0 1)) 2

theorem wit_BankSwapsExchangeComputeAndIdle_1 :
    ∃ (s : State) (c e : Nat) (o : EngOp), s.lets (.bankSwapJudge c e) ∧ List.find? (fun q => q.d.opcode == 33 && !q.judged) (s.eng
      c e).ops = some o ∧ swapWaits (s.eng c e).ops o = false ∧ (∀ (k : Nat), k ∈ o.left → s.swapBad c e (k / 32) = false) :=
  ⟨(addEOp Sgood (o21 false)), 0, 0, (o21 false), lets_of_check (by decide), by decide, by decide, by decide⟩

theorem wit_BankSwapsExchangeComputeAndIdle_2 :
    ∃ (s : State) (c e : Nat) (o : EngOp), s.lets (.bankSwapJudge c e) ∧ List.find? (fun q => q.d.opcode == 33 && !q.judged) (s.eng
      c e).ops = some o ∧ swapWaits (s.eng c e).ops o = false ∧ (∃ k, k ∈ o.left ∧ s.swapBad c e (k / 32) = true) ∧ coreState s c =
      1 :=
  ⟨(addEOp (serve Srun) (o21 false)), 0, 0, (o21 false), lets_of_check (by decide), by decide, by decide, by decide, by decide⟩

theorem wit_BankSwapsExchangeComputeAndIdle_3 :
    ∃ (s : State) (c e t : Nat) (o : EngOp), s.lets (.bankSwapEffect c e t) ∧ List.find? (fun q => q.d.opcode == 33 && q.left.any
      fun k => k / 32 == t) (s.eng c e).ops = some o ∧ o.judged = true ∧ (s.tile c e t).splitting = false ∧ (∀ (v : Vec), v ∈
      (s.tile c e t).vecs → v.finished = true) ∧ s.computeBank c e t < 2 :=
  ⟨(addEOp Sgood (o21 true)), 0, 0, 0, (o21 true), lets_of_check (by decide), by decide, by decide, by decide, by decide, by
    decide⟩

theorem wit_RefreshAndWearMovesKeepTheirOrder_0_0 :
    ∃ (s : State) (c e t b : Nat), s.lets (.refreshRow c e t b) ∧ s.bankState c e t b = 2 ∧ ((s.tile c e t).bank b).wr = none ∧
      s.bankRows c e t b ≠ 0 ∧ s.refreshHeld c e t = false ∧ s.computeBank c e t ≠ b :=
  ⟨((serve S0).wr (tilePg 0 0 0) TILE.CFG_COMPUTE_BANK 1), 0, 0, 0, 0, lets_of_check (by decide), by decide, by decide, by decide,
    by decide, by decide⟩

theorem wit_RefreshAndWearMovesKeepTheirOrder_0_1 :
    ∃ (s : State) (c e t b : Nat), s.lets (.refreshRow c e t b) ∧ s.bankState c e t b = 2 ∧ ((s.tile c e t).bank b).wr = none ∧
      s.bankRows c e t b ≠ 0 ∧ s.refreshHeld c e t = false ∧ s.computeBank c e t = b ∧ ((s.tile c e t).bank b).due = none :=
  ⟨(serve S0), 0, 0, 0, 0, lets_of_check (by decide), by decide, by decide, by decide, by decide, by decide, by decide⟩

theorem wit_RefreshAndWearMovesKeepTheirOrder_0_2 :
    ∃ (s : State) (c e t r : Nat), s.lets (.refreshSlot c e t) ∧ ((s.tile c e t).bank (s.computeBank c e t)).due = some r ∧ (s.tile
      c e t).splitting = false ∧ s.refreshHeld c e t = false :=
  ⟨((serve S0).modTile 0 0 0 (fun x => { x with bankA := { x.bankA with due := some 7, sweep := 7 } })), 0, 0, 0, 7, lets_of_check
    (by decide), by decide, by decide, by decide⟩

def Swear : State := (serve S0).wr (engPg 0 0) ENG.WEAR_CTRL_ENABLE 1

theorem wit_RefreshAndWearMovesKeepTheirOrder_1_0 :
    ∃ (s : State) (c e t : Nat), s.lets (.wearMoveStart c e t) ∧ s.coreStopped c = false ∧ s.rdB (engPg c e) ENG.WEAR_CTRL_ENABLE =
      true ∧ s.bankState c e t (s.computeBank c e t) = 2 ∧ s.bankState c e t (1 - s.computeBank c e t) = 0 ∧ (s.tile c e
      t).lastWear = none ∧ ((s.tile c e t).bank (1 - s.computeBank c e t)).wr = none ∧ (s.tile c e t).resetAt = none ∧ (s.tile c e
      t).wearPhase = 0 ∧ (s.eng c e).fillFor = none ∧ (s.eng c e).rot.phase = RotPhase.idle ∧ s.rd (tilePg c e 16)
      TILE.STAT_STANDIN_FOR ≠ t :=
  ⟨Swear, 0, 0, 0, lets_of_check (by decide), by decide, by decide, by decide, by decide, by decide, by decide, by decide, by
    decide, by decide, by decide, by decide⟩

theorem wit_RefreshAndWearMovesKeepTheirOrder_1_1 :
    ∃ (s : State) (c e t : Nat) (w : BankWr), s.lets (.wearMoveWriteDone c e t) ∧ s.computeBank c e t < 2 ∧ ((s.tile c e t).bank (1
      - s.computeBank c e t)).wr = some w ∧ w.kind = WriteKind.wear ∧ (s.tile c e t).wearPhase = 1 :=
  ⟨((serve (Sw .wear 1)).modTile 0 0 0 (fun x => { x with wearPhase := 1 })), 0, 0, 0, (qw .wear), lets_of_check (by decide), by
    decide, by decide, by decide, by decide⟩

theorem wit_RefreshAndWearMovesKeepTheirOrder_1_2 :
    ∃ (s : State) (c e t : Nat), s.lets (.wearMoveSwap c e t) ∧ s.computeBank c e t < 2 ∧ (s.tile c e t).wearPhase = 2 ∧ (s.tile c
      e t).vecs = [] :=
  ⟨((serve S0).modTile 0 0 0 (fun x => { x with wearPhase := 2 })), 0, 0, 0, lets_of_check (by decide), by decide, by decide, by
    decide⟩

theorem wit_MatrixCommandsIssue_0 :
    ∃ (s : State) (c e : Nat) (d : Desc), (∀ (t : Nat), t ∈ maskTiles d.mask → s.tileWaits c e t = false ∧ s.tileServes c e t =
      true ∧ ∀ (q : Nat), q ∈ maskTiles d.mask → s.twoSlice c e (s.physTile c e t) (s.computeBank c e (s.physTile c e t)) =
      s.twoSlice c e (s.physTile c e q) (s.computeBank c e (s.physTile c e q))) ∧ d.acc < 64 ∧ s.rdB (engPg c e) (ENG.ACC_TILE_BUSY
      d.acc) = false ∧ s.worstAge c e (maskTiles d.mask) ≤ s.intervalUs c e ∧ s.rd (engPg c e) ENG.REFRESH_CTRL_STALE_LIMIT ≠ 0 ∧
      s.sideBad c d.sideOff = false ∧ s.lets (.mvm c e) ∧ s.issuable c e 16 = some d :=
  ⟨(serve (Sq 0 (qd 0x10))), 0, 0, (qd 0x10), by decide, by decide, by decide, by decide, by decide, by decide, lets_of_check (by
    decide), by decide⟩

theorem wit_MatrixCommandsIssue_1 :
    ∃ (s : State) (c e : Nat) (d : Desc), (∀ (t : Nat), t ∈ maskTiles d.mask → s.tileWaits c e t = false ∧ s.tileServes c e t =
      true ∧ ∀ (q : Nat), q ∈ maskTiles d.mask → s.twoSlice c e (s.physTile c e t) (s.computeBank c e (s.physTile c e t)) =
      s.twoSlice c e (s.physTile c e q) (s.computeBank c e (s.physTile c e q))) ∧ d.acc < 64 ∧ s.rdB (engPg c e) (ENG.ACC_TILE_BUSY
      d.acc) = false ∧ s.worstAge c e (maskTiles d.mask) ≤ s.intervalUs c e ∧ s.rd (engPg c e) ENG.REFRESH_CTRL_STALE_LIMIT ≠ 0 ∧
      s.sideBad c d.sideOff = false ∧ s.lets (.mvmAcc c e) ∧ s.issuable c e 17 = some d :=
  ⟨(serve (Sq 0 (qd 0x11))), 0, 0, (qd 0x11), by decide, by decide, by decide, by decide, by decide, by decide, lets_of_check (by
    decide), by decide⟩

def o10 : EngOp := { EngOp.new (qd 0x10) [0] [] with groups := [[0]] }

def qf : Vec := { qv with planned := true, finished := true, driven := [10], out := [⟨1, false, false, List.replicate 256 ⟨5, false, false⟩⟩] }

theorem wit_MatrixCommandsFinish_0 :
    ∃ (s : State) (c e : Nat) (o : EngOp) (g : List Nat) (rest : List (List Nat)), s.lets (.groupReduce c e) ∧ List.find?
      (s.opReady c e) (s.eng c e).ops = some o ∧ o.groups = g :: rest ∧ o.d.acc < 64 :=
  ⟨(addVec (addEOp (serve Srun) o10) 0 qf), 0, 0, o10, [0], [], lets_of_check (by decide), by decide, by decide, by decide⟩

def o10g : EngOp := { o10 with groups := [], thresherDone := true }

def Sgl : State := ((addVec (addEOp (serve Srun) o10g) 0 qf)).modEng 0 0 (fun x => { x with glume := [5] })

theorem wit_MatrixCommandsFinish_1 :
    ∃ (s : State) (c e : Nat) (o : EngOp) (tag : Nat) (rest : List Nat), s.lets (.glumeRecordDone c e) ∧ (s.eng c e).glume = tag ::
      rest ∧ s.op c e tag = some o ∧ (∀ (t : Nat), t ∈ o.tiles → ∀ (v : Vec), s.vec c e tag t = some v → v.planned = true) :=
  ⟨Sgl, 0, 0, o10g, 5, [], lets_of_check (by decide), by decide, by decide, by decide⟩

def o20 : EngOp := EngOp.new (qd 0x20) [0] []

theorem wit_MatrixCommandsFinish_2 :
    ∃ (s : State) (c e : Nat) (o : EngOp) (tag : Nat), s.lets (.engineOpComplete c e tag) ∧ s.op c e tag = some o ∧ o.done = true ∧
      (o.d.opcode = 33 → o.judged = true) :=
  ⟨(addEOp Srun o20), 0, 0, o20, 5, lets_of_check (by decide), by decide, by decide, by decide⟩

def Sacc (op m : Nat) : State := ((Sq 0 { qd op with accMode := m }).setAcc 0 0 2 { lanes := ⟨3, -7, false, true, false, true⟩ :: List.replicate 255 ⟨100, 9, true, false, false, false⟩, p := 8 })

theorem wit_AccumulatorCommandsStore_0 :
    ∃ (s : State) (c e : Nat) (d : Desc), d.acc < 64 ∧ s.rdB (engPg c e) (ENG.ACC_TILE_BUSY d.acc) = false ∧ s.lets (.accClear c e)
      ∧ s.issuable c e 48 = some d ∧ d.accMode = 0 :=
  ⟨(Sacc 0x30 0), 0, 0, (qd 0x30), by decide, by decide, lets_of_check (by decide), by decide, by decide⟩

theorem wit_AccumulatorCommandsStore_1 :
    ∃ (s : State) (c e : Nat) (d : Desc), d.acc < 64 ∧ s.rdB (engPg c e) (ENG.ACC_TILE_BUSY d.acc) = false ∧ s.lets (.accPromote c
      e) ∧ s.issuable c e 49 = some d ∧ d.accMode = 0 :=
  ⟨(Sacc 0x31 0), 0, 0, (qd 0x31), by decide, by decide, lets_of_check (by decide), by decide, by decide⟩

theorem wit_AccumulatorCommandsStore_2 :
    ∃ (s : State) (c e : Nat) (d : Desc), d.acc < 64 ∧ s.rdB (engPg c e) (ENG.ACC_TILE_BUSY d.acc) = false ∧ s.lets (.accSpillStore
      c e) ∧ s.issuable c e 50 = some d ∧ d.accMode = 0 :=
  ⟨(Sacc 0x32 0), 0, 0, (qd 0x32), by decide, by decide, lets_of_check (by decide), by decide, by decide⟩

theorem wit_AccumulatorCommandsStore_3 :
    ∃ (s : State) (c e : Nat) (d : Desc), d.acc < 64 ∧ s.rdB (engPg c e) (ENG.ACC_TILE_BUSY d.acc) = false ∧ s.lets (.accSpillAdd c
      e) ∧ s.issuable c e 50 = some d ∧ d.accMode = 1 :=
  ⟨(Sacc 0x32 1), 0, 0, { qd 0x32 with accMode := 1 }, by decide, by decide, lets_of_check (by decide), by decide, by decide⟩

theorem wit_AccumulatorCommandsStore_4 :
    ∃ (s : State) (c e : Nat) (d : Desc), d.acc < 64 ∧ s.rdB (engPg c e) (ENG.ACC_TILE_BUSY d.acc) = false ∧ s.lets (.accSpillSave
      c e) ∧ s.issuable c e 50 = some d ∧ d.accMode = 2 :=
  ⟨(Sacc 0x32 2), 0, 0, { qd 0x32 with accMode := 2 }, by decide, by decide, lets_of_check (by decide), by decide, by decide⟩

theorem wit_AccumulatorCommandsStore_5 :
    ∃ (s : State) (c e : Nat) (d : Desc), d.acc < 64 ∧ s.rdB (engPg c e) (ENG.ACC_TILE_BUSY d.acc) = false ∧ s.lets (.accRead c e)
      ∧ s.issuable c e 52 = some d ∧ d.accMode = 0 :=
  ⟨(Sacc 0x34 0), 0, 0, (qd 0x34), by decide, by decide, lets_of_check (by decide), by decide, by decide⟩

theorem wit_EngineCommandsLoad_0_0 :
    ∃ (s : State) (c e : Nat) (d : Desc), d.acc < 64 ∧ s.rdB (engPg c e) (ENG.ACC_TILE_BUSY d.acc) = false ∧ s.issuable c e 51 =
      some d ∧ s.lets (.accResumeLoad c e) ∧ d.accMode = 0 :=
  ⟨(Sacc 0x33 0), 0, 0, (qd 0x33), by decide, by decide, by decide, lets_of_check (by decide), by decide⟩

theorem wit_EngineCommandsLoad_0_1 :
    ∃ (s : State) (c e : Nat) (d : Desc), d.acc < 64 ∧ s.rdB (engPg c e) (ENG.ACC_TILE_BUSY d.acc) = false ∧ s.issuable c e 51 =
      some d ∧ s.lets (.accResumeAdd c e) ∧ d.accMode = 1 :=
  ⟨(Sacc 0x33 1), 0, 0, { qd 0x33 with accMode := 1 }, by decide, by decide, by decide, lets_of_check (by decide), by decide⟩

theorem wit_EngineCommandsLoad_0_2 :
    ∃ (s : State) (c e : Nat) (d : Desc), d.acc < 64 ∧ s.rdB (engPg c e) (ENG.ACC_TILE_BUSY d.acc) = false ∧ s.issuable c e 51 =
      some d ∧ s.lets (.accResumeRestore c e) ∧ d.accMode = 2 ∧ s.csNat c d.cs 8 % 256 = 1 ∧ s.csBad c d.cs 64 = false :=
  ⟨((Sacc 0x33 2).csWrite 0 4096 [1]), 0, 0, { qd 0x33 with accMode := 2 }, by decide, by decide, by decide, lets_of_check (by
    decide), by decide, by decide, by decide⟩

def Sld : State := serve (Sq 0 { qd 0x40 with mask := 1 })

def os0 : OSet × Nat := (Sld.readSet 0 4096).getD (OSet.empty, 0)

theorem wit_EngineCommandsLoad_1 :
    ∃ (s : State) (c e : Nat) (d : Desc) (t : Nat) (set : OSet) (n : Nat), s.lets (.outlierLoad c e) ∧ s.issuable c e 64 = some d ∧
      maskTiles d.mask = [t] ∧ s.readSet c d.cs = some (set, n) ∧ (∀ (o : EngOp), o ∈ (s.eng c e).ops → o.d.opcode = 64 ∨
      o.d.opcode = 32 → o.left = []) :=
  ⟨Sld, 0, 0, { qd 0x40 with mask := 1 }, 0, os0.1, os0.2, lets_of_check (by decide), by decide, by decide, by decide, by decide⟩

theorem wit_EngineCommandsLoad_2 :
    ∃ (s : State) (c e : Nat) (d : Desc), s.lets (.checkForce c e) ∧ s.issuable c e 96 = some d :=
  ⟨(Sq 0 (qd 0x60)), 0, 0, (qd 0x60), lets_of_check (by decide), by decide⟩

theorem wit_CalibrationRequests_0 :
    ∃ (s : State) (c e t : Nat), s.lets (.calApplyRequest c e t) ∧ s.calBusy c e t = false :=
  ⟨S0, 0, 0, 0, lets_of_check (by decide), by decide⟩

theorem wit_CalibrationRequests_1 :
    ∃ (s : State) (c e t : Nat), s.lets (.calApplyRequest c e t) ∧ s.calBusy c e t = true :=
  ⟨(S0.wr (tilePg 0 0 0) TILE.CAL_STAT_BUSY 1), 0, 0, 0, lets_of_check (by decide), by decide⟩

theorem wit_CalibrationRequests_2 :
    ∃ (s : State) (c e t : Nat), s.lets (.calSave c e t) ∧ s.calBusy c e t = false :=
  ⟨S0, 0, 0, 1, lets_of_check (by decide), by decide⟩

def Simg : State := (S0.csWrite 0 0 (S0.calImage 0 0 1)).modTile 0 0 1 (fun x => { x with bankA := { x.bankA with due := some 1 } })

theorem wit_CalibrationRequests_3 :
    ∃ (s : State) (c e t : Nat), s.lets (.calLoad c e t) ∧ s.calBusy c e t = false ∧ s.rdB (tilePg c e t) TILE.STAT_IN_SERVICE =
      false ∧ s.csBad c (s.rdA (tilePg c e t) TILE.CAL_IMG_ADDR_ADDR) 1024 = false ∧ imageOk c e t (s.csRead c (s.rdA (tilePg c e
      t) TILE.CAL_IMG_ADDR_ADDR) 1024) = true :=
  ⟨Simg, 0, 0, 1, lets_of_check (by decide), by decide, by decide, by decide, by
    show imageOk 0 0 1 ((S0.cstore.put 0 (S0.calImage 0 0 1)).read 0 1024) = true
    rw [← S0.calImage_length 0 0 1, (Store.read_put (st := S0.cstore) rfl rfl 0 (S0.calImage 0 0 1)).2]
    exact S0.imageOk_calImage 0 0 1 (by decide)⟩

theorem wit_CalibrationRequests_4 :
    ∃ (s : State) (c e t : Nat), s.lets (.calLoad c e t) ∧ s.calBusy c e t = false ∧ s.rdB (tilePg c e t) TILE.STAT_IN_SERVICE =
      false ∧ imageOk c e t (s.csRead c (s.rdA (tilePg c e t) TILE.CAL_IMG_ADDR_ADDR) 1024) = false :=
  ⟨S0, 0, 0, 1, lets_of_check (by decide), by decide, by decide, by decide⟩

theorem wit_CalibrationRequests_5 :
    ∃ (s : State) (c e t : Nat), s.lets (.calLoadVerifyDone c e t true) ∧ s.rd (tilePg c e t) TILE.CAL_STAT_PHASE = 4 :=
  ⟨(S0.wr (tilePg 0 0 0) TILE.CAL_STAT_PHASE 4), 0, 0, 0, lets_of_check (by decide), by decide⟩

theorem wit_CalibrationRequests_6 :
    ∃ (s : State) (c e t : Nat), s.lets (.calLoadVerifyDone c e t false) ∧ s.rd (tilePg c e t) TILE.CAL_STAT_PHASE = 4 :=
  ⟨(S0.wr (tilePg 0 0 0) TILE.CAL_STAT_PHASE 4), 0, 0, 0, lets_of_check (by decide), by decide⟩

theorem wit_CalibrationRequests_7 :
    ∃ (s : State) (c e t : Nat), s.lets (.calRecal c e t) :=
  ⟨S0, 0, 0, 0, lets_of_check (by decide)⟩

theorem wit_TrimsAreAppliedAndTracked_0 :
    ∃ (s : State) (c e t : Nat), s.lets (.applyEffect c e t) ∧ (s.tile c e t).applyReq = true ∧ (s.tile c e t).splitting = false :=
  ⟨(S0.modTile 0 0 0 (fun x => { x with applyReq := true, shadow := ⟨[(1, 2)], [(2, 3)], []⟩ })), 0, 0, 0, lets_of_check (by
    decide), by decide, by decide⟩

theorem wit_TrimsAreAppliedAndTracked_1 :
    ∃ (s : State) (c e t : Nat), s.lets (.trackWindow c e t) ∧ ((s.tile c e t).track (s.computeBank c e t)).n < 256 :=
  ⟨S0, 0, 0, 0, lets_of_check (by decide), by decide⟩

def Strk : State := (S0.modTile 0 0 0 (fun x => { x with trackA := { x.trackA with n := 256, off := 20, num := 9000, den := 500000 } })).wr (tilePg 0 0 0) (TILE.TRACK_OFFSET 0) (ofSigned 8 (-32))

theorem wit_TrimsAreAppliedAndTracked_2 :
    ∃ (s : State) (c e t : Nat) (g o : Int), s.lets (.trackWindow c e t) ∧ 256 ≤ ((s.tile c e t).track (s.computeBank c e t)).n ∧
      s.computeBank c e t < 2 ∧ g = toSigned 8 (s.rd (tilePg c e t) (TILE.TRACK_GAIN (s.computeBank c e t))) ∧ o = toSigned 8 (s.rd
      (tilePg c e t) (TILE.TRACK_OFFSET (s.computeBank c e t))) :=
  ⟨Strk, 0, 0, 0, 0, (-32), lets_of_check (by decide), by decide, by decide, by decide, by decide⟩

theorem wit_TrimsAreAppliedAndTracked_3 :
    ∃ (s : State) (c e t : Nat), s.lets (.calOverdue c e t) ∧ s.rd (tilePg c e t) TILE.CAL_STAT_OVERDUE = 0 :=
  ⟨S0, 0, 0, 0, lets_of_check (by decide), by decide⟩

def Srot_04 : State := ((S0.wr (tilePg 0 0 0) TILE.STAT_IN_SERVICE 1).wr (engPg 0 0) ENG.CAL_ROT_STAT_NEXT 0).wr (engPg 0 0) ENG.CAL_ROT_ENABLE 1

def Srot_04' : State := { Srot_04 with power := { Srot_04.power with ended := [8] } }

theorem wit_RotationAndStartupCalibration_0_0 :
    ∃ (s : State) (c e t : Nat), s.lets (.calSlot c e) ∧ s.coreStopped c = false ∧ s.rdB (engPg c e) ENG.CAL_ROT_ENABLE = true ∧
      s.rdB (engPg c e) ENG.CAL_ROT_STAT_STOPPED = false ∧ (s.eng c e).rot.phase = RotPhase.idle ∧ (s.eng c e).rot.front = [] ∧
      (s.eng c e).fillFor = none ∧ s.calibrated c e = true ∧ s.rdB (tilePg c e 16) TILE.STAT_RETIRED = false ∧ s.rd (tilePg c e 16)
      TILE.STAT_STANDIN_FOR = 31 ∧ s.rd (engPg c e) ENG.CAL_ROT_STAT_NEXT = t ∧ t ≤ 16 ∧ s.rdB (tilePg c e t) TILE.STAT_RETIRED =
      false ∧ (s.tile c e t).wearPhase = 0 :=
  ⟨Srot_04', 0, 0, 0, lets_of_check (by decide), by decide, by decide, by decide, by decide, by decide, by decide, by decide, by
    decide, by decide, by decide, by decide, by decide, by decide⟩

def rotAt (ph : RotPhase) (t : Nat) : State := S0.modEng 0 0 (fun x => { x with rot := { x.rot with phase := ph, tile := t } })

theorem wit_RotationAndStartupCalibration_0_1 :
    ∃ (s : State) (c e t : Nat), s.lets (.calTakeover c e) ∧ (s.eng c e).rot.phase = RotPhase.fill ∧ (s.eng c e).rot.tile = t ∧ t <
      16 ∧ (s.tile c e t).splitting = false ∧ s.spareMatches c e t 0 = true ∧ s.spareMatches c e t 1 = true ∧ s.computeBank c e t <
      2 :=
  ⟨(rotAt .fill 3), 0, 0, 3, lets_of_check (by decide), by decide, by decide, by decide, by decide, by decide, by decide, by
    decide⟩

theorem wit_RotationAndStartupCalibration_0_2 :
    ∃ (s : State) (c e : Nat), s.lets (.calTakeoverTimeout c e) ∧ (s.eng c e).rot.phase = RotPhase.fill :=
  ⟨(rotAt .fill 3), 0, 0, lets_of_check (by decide), by decide⟩

def meas : CalMeas := { ot := [1], gt := [2, -3], dt := [9], linearPu := 60000, skew := -3, failed := [], medianGt := 5, delayOut := false, refFailed := false, converged := true }

theorem wit_RotationAndStartupCalibration_0_3 :
    ∃ (s : State) (c e t : Nat) (m : CalMeas), s.lets (.calProcedureEnd c e t m) ∧ (s.eng c e).rot.phase = RotPhase.calibrate ∧
      (s.eng c e).rot.tile = t ∧ t < 16 ∧ (s.tile c e t).calStage = 0 ∧ retireReason m = none ∧ m.failed = [] ∧ m.converged = true
      :=
  ⟨(rotAt .calibrate 3), 0, 0, 3, meas, lets_of_check (by decide), by decide, by decide, by decide, by decide, by decide, by
    decide, by decide⟩

theorem wit_RotationAndStartupCalibration_0_4 :
    ∃ (s : State) (c e : Nat) (m : CalMeas) (n : Nat), s.lets (.calProcedureEnd c e 16 m) ∧ (s.eng c e).rot.phase =
      RotPhase.calibrate ∧ (s.eng c e).rot.tile = 16 ∧ (s.tile c e 16).calStage = 0 ∧ retireReason m = some n :=
  ⟨(rotAt .calibrate 16), 0, 0, { meas with medianGt := -61 }, 2, lets_of_check (by decide), by decide, by decide, by decide, by
    decide⟩

theorem wit_RotationAndStartupCalibration_0_5 :
    ∃ (s : State) (c e : Nat), s.lets (.calTimeout c e) ∧ (s.eng c e).rot.phase = RotPhase.calibrate ∧ (s.eng c e).rot.timedOut =
      false :=
  ⟨(rotAt .calibrate 3), 0, 0, lets_of_check (by decide), by decide, by decide⟩

theorem wit_RotationAndStartupCalibration_0_6 :
    ∃ (s : State) (c e t : Nat), s.lets (.calReturn c e) ∧ (s.eng c e).rot.phase = RotPhase.ret ∧ (s.eng c e).rot.tile = t ∧ t < 16
      ∧ (s.eng c e).rot.noApply = false ∧ (s.eng c e).fillFor = none ∧ s.rdB (tilePg c e 16) TILE.STAT_RETIRED = false ∧ (s.tile c
      e 16).splitting = false ∧ s.returnMatches c e t 0 = true ∧ s.returnMatches c e t 1 = true ∧ s.computeBank c e 16 < 2 :=
  ⟨(rotAt .ret 3), 0, 0, 3, lets_of_check (by decide), by decide, by decide, by decide, by decide, by decide, by decide, by decide,
    by decide, by decide, by decide⟩

def stAt (n : Nat) : State := S0.modEng 0 0 (fun x => { x with rot := { x.rot with phase := .startup, stage := n } })

theorem wit_RotationAndStartupCalibration_1_0 :
    ∃ (s : State) (c e : Nat), (s.eng c e).rot.phase = RotPhase.startup ∧ s.lets (.startupCalSettled c e) ∧ (s.eng c e).rot.stage =
      1 :=
  ⟨(stAt 1), 0, 0, by decide, lets_of_check (by decide), by decide⟩

theorem wit_RotationAndStartupCalibration_1_1 :
    ∃ (s : State) (c e : Nat), (s.eng c e).rot.phase = RotPhase.startup ∧ s.lets (.calUnsettled c e) ∧ (s.eng c e).rot.stage = 1 :=
  ⟨(stAt 1), 0, 0, by decide, lets_of_check (by decide), by decide⟩

theorem wit_RotationAndStartupCalibration_1_2 :
    ∃ (s : State) (c e : Nat), (s.eng c e).rot.phase = RotPhase.startup ∧ s.lets (.retentionScreenEnd c e []) ∧ (s.eng c
      e).rot.stage = 3 :=
  ⟨(stAt 3), 0, 0, by decide, lets_of_check (by decide), by decide⟩
/-- The words of a descriptor. -/

def w0 (op : Nat) : Nat := op + 256

def buf1 (w0 w1 w2 w3 : Nat) : State := Srun.modCore 0 (fun x => { x with buf := [(256, [w0, w1, w2, w3], false)] })

def dd (w0 w1 w2 w3 : Nat) : Desc := decodeDesc 256 w0 w1 w2 w3

theorem wit_SequencerCommandsRun_0 :
    ∃ (s : State) (c : Nat) (d : Desc), s.lets (.nop c) ∧ s.seqHead c 0 = some d :=
  ⟨(buf1 (w0 0) 0 0 0), 0, (dd (w0 0) 0 0 0), lets_of_check (by decide), by decide⟩

theorem wit_SequencerCommandsRun_1 :
    ∃ (s : State) (c : Nat) (d : Desc), s.lets (.semSignal c) ∧ s.seqHead c 81 = some d ∧ d.sigCnt ≠ 0 ∧ d.sigSem < 64 :=
  ⟨(buf1 (w0 0x51) 0 (3 * 2^16 + 2 * 2^28) 0), 0, (dd (w0 0x51) 0 (3 * 2^16 + 2 * 2^28) 0), lets_of_check (by decide), by decide,
    by decide, by decide⟩

theorem wit_SequencerCommandsRun_2 :
    ∃ (s : State) (c : Nat) (d : Desc), s.lets (.semSignal c) ∧ s.seqHead c 81 = some d ∧ d.sigCnt ≠ 0 ∧ 64 ≤ d.sigSem :=
  ⟨(buf1 (w0 0x51) 0 (0x405 * 2^16 + 2 * 2^28) 0), 0, (dd (w0 0x51) 0 (0x405 * 2^16 + 2 * 2^28) 0), lets_of_check (by decide), by
    decide, by decide, by decide⟩

theorem wit_SequencerCommandsRun_3 :
    ∃ (s : State) (c : Nat) (d : Desc), s.lets (.semWait c) ∧ s.seqHead c 80 = some d ∧ d.waitCnt ≠ 0 ∧ d.waitSem < 64 ∧ d.waitCnt
      ≤ s.localSem c d.waitSem ∧ s.localSem c d.waitSem < 2 ^ 16 :=
  ⟨((buf1 (w0 0x50) 0 (3 + 2 * 2^12) 0).wr (corePg 0) (CORE.SEM_VALUE 3) 7), 0, (dd (w0 0x50) 0 (3 + 2 * 2^12) 0), lets_of_check
    (by decide), by decide, by decide, by decide, by decide, by decide⟩

theorem wit_SequencerCommandsRun_4 :
    ∃ (s : State) (c : Nat) (d : Desc), s.lets (.semWait c) ∧ s.seqHead c 80 = some d ∧ d.waitCnt ≠ 0 ∧ 64 ≤ d.waitSem ∧ mfind
      (s.core c).claims 8 = none :=
  ⟨(buf1 (w0 0x50) 0 (0x403 + 2 * 2^12) 0), 0, (dd (w0 0x50) 0 (0x403 + 2 * 2^12) 0), lets_of_check (by decide), by decide, by
    decide, by decide, by decide⟩

theorem wit_SequencerCommandsRun_5 :
    ∃ (s : State) (c : Nat) (d : Desc), s.lets (.semWait c) ∧ s.seqHead c 80 = some d ∧ d.waitCnt ≠ 0 ∧ 64 ≤ d.waitSem ∧ mfind
      (s.core c).claims 8 = some ClaimS.granted :=
  ⟨((buf1 (w0 0x50) 0 (0x403 + 2 * 2^12) 0).modCore 0 (fun x => { x with claims := [(8, .granted)] })), 0, (dd (w0 0x50) 0 (0x403 +
    2 * 2^12) 0), lets_of_check (by decide), by decide, by decide, by decide, by decide⟩

theorem wit_SequencerCommandsRun_6 :
    ∃ (s : State) (c : Nat) (d : Desc), s.lets (.fence c) ∧ s.seqHead c 82 = some d ∧ s.scopeDone c d.scope = true ∧ d.sigCnt ≠ 0 ∧
      d.sigSem < 64 :=
  ⟨(buf1 (w0 0x52) 0 (3 * 2^16 + 2 * 2^28 + 255 * 2 ^ 32) 0), 0, (dd (w0 0x52) 0 (3 * 2^16 + 2 * 2^28 + 255 * 2 ^ 32) 0),
    lets_of_check (by decide), by decide, by decide, by decide, by decide⟩

theorem wit_SequencerCommandsRun_7 :
    ∃ (s : State) (c : Nat) (d : Desc), s.lets (.fence c) ∧ s.seqHead c 82 = some d ∧ s.scopeDone c d.scope = false :=
  ⟨((buf1 (w0 0x52) 0 (3 * 2^16 + 2 * 2^28 + 255 * 2 ^ 32) 0).enqueue 0 5 (qd 0x70)), 0, (dd (w0 0x52) 0 (3 * 2^16 + 2 * 2^28 + 255
    * 2 ^ 32) 0), lets_of_check (by decide), by decide, by decide⟩

theorem wit_SequencerCommandsRun_8 :
    ∃ (s : State) (c : Nat) (d : Desc), s.lets (.streamEnd c) ∧ s.seqHead c 1 = some d ∧ s.scopeDone c 255 = true ∧ (s.core c).pend
      = [] :=
  ⟨(buf1 (w0 0x1) 0 0 0), 0, (dd (w0 0x1) 0 0 0), lets_of_check (by decide), by decide, by decide, by decide⟩

def rec1 : StartRec := ⟨4096, 77, 0, 0, 1, 1, false⟩

theorem wit_SequencerCommandsRun_9 :
    ∃ (s : State) (c : Nat) (d : Desc) (r : StartRec) (l : List StartRec), s.lets (.streamEnd c) ∧ s.seqHead c 1 = some d ∧
      s.scopeDone c 255 = true ∧ (s.core c).pend = r :: l :=
  ⟨((buf1 (w0 0x1) 0 0 0).modCore 0 (fun x => { x with pend := [rec1] })), 0, (dd (w0 0x1) 0 0 0), rec1, [], lets_of_check (by
    decide), by decide, by decide, by decide⟩

def qdma (dir : Bool) (a : Nat) : Desc := { qd 0x70 with len64 := 1, dir := dir, operand := a, sigSem := 3, sigCnt := 2 }

theorem wit_CoreUnitsRun_0 :
    ∃ (s : State) (c : Nat) (d : Desc), s.lets (.dmaCopy c) ∧ s.issuable c 5 112 = some d :=
  ⟨(Sq 5 (qdma true 0)), 0, (qdma true 0), lets_of_check (by decide), by decide⟩

def Sdma (dir : Bool) (a : Nat) : State := (Srun.modCore 0 (fun x => { x with dmaRun := [qdma dir a] })).csWrite 0 4096 [1,2,3]

def softA : Nat := ((List.range 400).map (fun i => i * 2^24)).find? (fun a => S0.coreMay a 64) |>.getD 0

theorem wit_CoreUnitsRun_1 :
    ∃ (s : State) (c k : Nat) (d : Desc), s.lets (.dmaCopyDone c k) ∧ (s.core c).dmaRun[k]? = some d ∧ s.blocksOk d.operand d.len64
      = d.len64 ∧ d.dir = false :=
  ⟨(Sdma false softA), 0, 0, (qdma false softA), lets_of_check (by decide), by decide, by decide, by decide⟩

theorem wit_CoreUnitsRun_2 :
    ∃ (s : State) (c k : Nat) (d : Desc), s.lets (.dmaCopyDone c k) ∧ (s.core c).dmaRun[k]? = some d ∧ s.blocksOk d.operand d.len64
      = d.len64 ∧ d.dir = true ∧ d.operand < tier2Base :=
  ⟨(Sdma true softA), 0, 0, (qdma true softA), lets_of_check (by decide), by decide, by decide, by decide, by decide⟩

theorem wit_CoreUnitsRun_3 :
    ∃ (s : State) (c k : Nat) (d : Desc), s.lets (.dmaCopyDone c k) ∧ (s.core c).dmaRun[k]? = some d ∧ s.blocksOk d.operand d.len64
      ≠ d.len64 ∧ coreState s c = 1 :=
  ⟨(Sdma true (2^47)), 0, 0, (qdma true (2^47)), lets_of_check (by decide), by decide, by decide, by decide⟩

theorem wit_CoreUnitsRun_4 :
    ∃ (s : State) (c t : Nat) (d : Desc), s.lets (.tillerKick c t) ∧ s.issuable c (6 + t) 120 = some d :=
  ⟨(Sq 6 { qd 0x78 with operand := 9 }), 0, 0, { qd 0x78 with operand := 9 }, lets_of_check (by decide), by decide⟩

def Skick : State := Srun.modCore 0 (fun x => { x with kick0 := [{ qd 0x78 with operand := 9, sigSem := 1, sigCnt := 1 }] })

theorem wit_CoreUnitsRun_5 :
    ∃ (s : State) (c t : Nat) (d : Desc) (l : List Desc), s.lets (.tillerDone c t) ∧ (s.core c).kicks t = d :: l ∧ halting s c =
      false ∧ d.sigCnt ≠ 0 ∧ d.sigSem < 64 :=
  ⟨Skick, 0, 0, { qd 0x78 with operand := 9, sigSem := 1, sigCnt := 1 }, [], lets_of_check (by decide), by decide, by decide, by
    decide, by decide⟩

theorem wit_CoreUnitsRun_6 :
    ∃ (s : State) (c t : Nat) (d : Desc), s.lets (.mboxRead c t) ∧ ((s.core c).kicks t)[(s.core c).kicksRead t]? = some d :=
  ⟨Skick, 0, 0, { qd 0x78 with operand := 9, sigSem := 1, sigCnt := 1 }, lets_of_check (by decide), by decide⟩

theorem wit_CoreUnitsRun_7 :
    ∃ (s : State) (c t : Nat), s.lets (.mboxRead c t) ∧ ((s.core c).kicks t)[(s.core c).kicksRead t]? = none :=
  ⟨S0, 0, 0, lets_of_check (by decide), by decide⟩

theorem wit_CoreUnitsRun_8 :
    ∃ (s : State) (c t k n : Nat), s.lets (.tillerSemPortWrite c t k n) ∧ n ≠ 0 ∧ k < 64 :=
  ⟨S0, 0, 0, 5, 3, lets_of_check (by decide), by decide, by decide⟩

theorem wit_CoreUnitsRun_9 :
    ∃ (s : State) (c t : Nat) (d : Desc) (l : List Desc) (cause : Nat), s.lets (.tillerTrap c t cause) ∧ (s.core c).kicks t = d ::
      l ∧ coreState s c = 1 :=
  ⟨Skick, 0, 0, { qd 0x78 with operand := 9, sigSem := 1, sigCnt := 1 }, [], 2, lets_of_check (by decide), by decide, by decide⟩

theorem wit_CoreUnitsRun_10 :
    ∃ (s : State) (c t : Nat), s.lets (.tillerReset c t) :=
  ⟨S0, 0, 0, lets_of_check (by decide)⟩

theorem wit_CoreUnitsRun_11 :
    ∃ (s : State) (c : Nat), s.lets (.streamFetch c) ∧ coreState s c = 1 ∧ (s.core c).buf.length ≤ 126 ∧ s.coreMay (s.core c).fetch
      64 = true :=
  ⟨(Srun.modCore 0 (fun x => { x with fetch := softA })), 0, lets_of_check (by decide), by decide, by decide, by decide⟩

theorem wit_CoresStartAndHalt_0 :
    ∃ (s : State) (c : Nat) (r : StartRec), s.lets (.startRecord c r) ∧ (s.core c).resetAt = none ∧ s.rdB (corePg c)
      CORE.CTRL_START_SRC = false ∧ coreState s c = 1 ∧ (s.core c).pend.length < 4 :=
  ⟨Srun, 0, rec1, lets_of_check (by decide), by decide, by decide, by decide, by decide⟩

theorem wit_CoresStartAndHalt_1 :
    ∃ (s : State) (c : Nat) (r : StartRec), s.lets (.startRecord c r) ∧ (s.core c).resetAt = none ∧ s.rdB (corePg c)
      CORE.CTRL_START_SRC = false ∧ coreState s c = 1 ∧ 4 ≤ (s.core c).pend.length :=
  ⟨(Srun.modCore 0 (fun x => { x with pend := [rec1, rec1, rec1, rec1] })), 0, rec1, lets_of_check (by decide), by decide, by
    decide, by decide, by decide⟩

theorem wit_CoresStartAndHalt_2 :
    ∃ (s : State) (c : Nat) (r : StartRec), s.lets (.startRecord c r) ∧ (s.core c).resetAt = none ∧ s.rdB (corePg c)
      CORE.CTRL_START_SRC = false ∧ coreState s c = 0 ∧ (s.core c).pend = [] :=
  ⟨S0, 0, rec1, lets_of_check (by decide), by decide, by decide, by decide, by decide⟩

theorem wit_CoresStartAndHalt_3 :
    ∃ (s : State) (c : Nat), s.lets (.coreGo c) ∧ coreState s c = 0 ∧ (s.core c).pend = [] :=
  ⟨S0, 0, lets_of_check (by decide), by decide, by decide⟩

theorem wit_CoresStartAndHalt_4 :
    ∃ (s : State) (c : Nat), s.lets (.coreGo c) ∧ (coreState s c = 1 ∨ coreState s c = 2) :=
  ⟨Srun, 0, lets_of_check (by decide), by decide⟩

theorem wit_CoresStartAndHalt_5 :
    ∃ (s : State) (c : Nat), s.lets (.coreHalt c) ∧ coreState s c = 1 :=
  ⟨(Sq 0 (qd 0x10)), 0, lets_of_check (by decide), by decide⟩

theorem wit_CoresStartAndHalt_6 :
    ∃ (s : State) (c : Nat), s.lets (.coreHalt c) ∧ coreState s c = 0 :=
  ⟨S0, 0, lets_of_check (by decide), by decide⟩

theorem wit_CoresStartAndHalt_7 :
    ∃ (s : State) (c n : Nat) (r : StartRec), s.lets (.stepAbort c n) ∧ coreState s c = 1 ∧ (s.core c).cur = some r ∧ r.step = n ∧
      r.reload = false :=
  ⟨(Srun.modCore 0 (fun x => { x with pend := [rec1], cur := some rec1 })), 0, 77, rec1, lets_of_check (by decide), by decide, by
    decide, by decide, by decide⟩

theorem wit_CoresStartAndHalt_8 :
    ∃ (s : State) (c : Nat), s.lets (.haltComplete c) ∧ coreState s c = 2 ∧ s.drained c = true ∧ ((s.core c).waitHost = true ∨
      (s.core c).pend = []) :=
  ⟨(S0.wr (corePg 0) CORE.STAT_STATE 2), 0, lets_of_check (by decide), by decide, by decide, by decide⟩

theorem wit_CoresStartAndHalt_9 :
    ∃ (s : State) (c : Nat) (r : StartRec) (l : List StartRec), s.lets (.haltComplete c) ∧ coreState s c = 2 ∧ s.drained c = true ∧
      (s.core c).waitHost = false ∧ (s.core c).pend = r :: l :=
  ⟨((S0.wr (corePg 0) CORE.STAT_STATE 2).modCore 0 (fun x => { x with pend := [rec1] })), 0, rec1, [], lets_of_check (by decide),
    by decide, by decide, by decide, by decide⟩

def smp (ph : SamplePhase) : Sample := ⟨ph, 5, 0, false, [(0, 10)], 0, false, 16, 0, 0, 1, 0, false, 0, false⟩

def vq (n : Int) : Vec := { qv with planned := true, out := [⟨1, false, true, ⟨n, false, false⟩ :: List.replicate 255 ⟨0, false, false⟩⟩] }

def Ssm (q : Sample) (n : Int) : State := (addVec (serve Srun) 0 (vq n)).modTile 0 0 0 (fun x => { x with sampleQ := [q] })

theorem wit_SampledPassesAreCompared_0 :
    ∃ (s : State) (c e t : Nat) (q : Sample) (v : Vec) (r : CheckRes) (dis : Bool), s.lets (.checkCompare c e t dis) ∧ (dis = false
      ∨ ((s.core c).sampleNo + 1) % 1024 ≠ 0) ∧ ((s.tile c e t).sampleIn fun x => x.phase == SamplePhase.slot) = some q ∧ s.vec c e
      q.tag q.named = some v ∧ (∀ (d : Nat × Int), d ∈ q.drive → s.csBad c (s.imgPtr c e t q.bank + 128 * d.fst + 16 * q.window) 16
      = false) ∧ (compareWindow (s.tol c) q.pairs (laneSum (q.convs v)) fun l => exactCode q.two q.split ((s.imageSums c (s.imgPtr
      c e t q.bank) q.drive).getD l 0)) = r :=
  ⟨(Ssm (smp .slot) 0), 0, 0, 0, (smp .slot), (vq 0), ⟨none, List.replicate 16 (0, 0), 0, 0⟩, false, lets_of_check (by decide), by
    decide, by decide, by decide, by decide, by decide⟩

theorem wit_SampledPassesAreCompared_1 :
    ∃ (s : State) (c e t : Nat) (q : Sample) (v : Vec) (dev : List Int), s.lets (.checkRepeatDone c e t dev) ∧ ((s.tile c e
      t).sampleIn fun x => x.phase == SamplePhase.repeatPending) = some q ∧ s.vec c e q.tag q.named = some v :=
  ⟨(Ssm (smp .repeatPending) 9), 0, 0, 0, (smp .repeatPending), (vq 9), [], lets_of_check (by decide), by decide, by decide⟩

theorem wit_OutcomesAndCheckRegisters_0_0_0 :
    ∃ (s : State) (c e t : Nat) (q : Sample) (v : Vec), ((s.tile c e t).sampleIn fun x => x.phase == SamplePhase.repeated ||
      x.phase == SamplePhase.unresolved || x.phase == SamplePhase.repeatPending && s.stale c e t x) = some q ∧ s.vec c e q.tag
      q.named = some v ∧ s.lets (.checkOutcome c e t) ∧ q.phase = SamplePhase.unresolved :=
  ⟨(Ssm (smp .unresolved) 9), 0, 0, 0, (smp .unresolved), (vq 9), by decide, by decide, lets_of_check (by decide), by decide⟩

theorem wit_OutcomesAndCheckRegisters_0_0_1 :
    ∃ (s : State) (c e t : Nat) (q : Sample) (v : Vec), ((s.tile c e t).sampleIn fun x => x.phase == SamplePhase.repeated ||
      x.phase == SamplePhase.unresolved || x.phase == SamplePhase.repeatPending && s.stale c e t x) = some q ∧ s.vec c e q.tag
      q.named = some v ∧ s.lets (.checkOutcome c e t) ∧ q.phase = SamplePhase.repeated ∧ q.beyond = false ∧ (s.eng c e).transients
      = [] ∧ (s.eng c e).permanents = [] :=
  ⟨(Ssm (smp .repeated) 9), 0, 0, 0, (smp .repeated), (vq 9), by decide, by decide, lets_of_check (by decide), by decide, by
    decide, by decide, by decide⟩

theorem wit_OutcomesAndCheckRegisters_0_0_2 :
    ∃ (s : State) (c e t : Nat) (q : Sample) (v : Vec), ((s.tile c e t).sampleIn fun x => x.phase == SamplePhase.repeated ||
      x.phase == SamplePhase.unresolved || x.phase == SamplePhase.repeatPending && s.stale c e t x) = some q ∧ s.vec c e q.tag
      q.named = some v ∧ s.lets (.checkOutcome c e t) ∧ q.phase = SamplePhase.repeated ∧ q.beyond = true ∧ (s.eng c e).transients =
      [] ∧ (s.eng c e).permanents = [] ∧ t < 16 ∧ s.spareFree c e = true ∧ (s.eng c e).rot.phase = RotPhase.idle :=
  ⟨(Ssm ({ smp .repeated with beyond := true }) 9), 0, 0, 0, ({ smp .repeated with beyond := true }), (vq 9), by decide, by decide,
    lets_of_check (by decide), by decide, by decide, by decide, by decide, by decide, by decide, by decide⟩

theorem wit_OutcomesAndCheckRegisters_0_1 :
    ∃ (s : State) (c e t : Nat), s.lets (.retireTakeover c e) ∧ (s.eng c e).fillFor = some t ∧ t < 16 ∧ (s.eng c e).rot.phase =
      RotPhase.idle ∧ s.spareMatches c e t 0 = true ∧ s.spareMatches c e t 1 = true ∧ (∀ (x : Vec), x ∈ (s.tile c e t).vecs →
      x.begun = true → x.finished = true) :=
  ⟨(S0.modEng 0 0 (fun x => { x with fillFor := some 3 })), 0, 0, 3, lets_of_check (by decide), by decide, by decide, by decide, by
    decide, by decide, by decide⟩

theorem wit_OutcomesAndCheckRegisters_1_0 :
    ∃ (s : State) (c v : Nat), s.lets (.chkSeedWrite c v) :=
  ⟨S0, 0, 0x1234, lets_of_check (by decide)⟩

def Slg : State := S0.modCore 0 (fun x => { x with ledger := [(ledgerKey 1 3 5, LedgerEnt.init.add 3 (-7))] })

theorem wit_OutcomesAndCheckRegisters_1_1 :
    ∃ (s : State) (c v : Nat), s.lets (.lgSel c v) ∧ field v 16 3 ≤ 5 ∧ field v 8 5 ≤ 16 :=
  ⟨Slg, 0, 0x50301, lets_of_check (by decide), by decide, by decide⟩

theorem wit_OutcomesAndCheckRegisters_1_2 :
    ∃ (s : State) (c v : Nat), s.lets (.lgSel c v) ∧ (5 < field v 16 3 ∨ 16 < field v 8 5) :=
  ⟨Slg, 0, 0x60301, lets_of_check (by decide), by decide⟩

theorem wit_OutcomesAndCheckRegisters_1_3 :
    ∃ (s : State) (c : Nat), s.lets (.lgClear c) :=
  ⟨Slg, 0, lets_of_check (by decide)⟩

theorem wit_OutcomesAndCheckRegisters_1_4 :
    ∃ (s : State) (c : Nat) (b : Bool), s.lets (.drefWrite c b) ∧ (coreState s c = 0 ∨ coreState s c = 3) :=
  ⟨S0, 0, true, lets_of_check (by decide), by decide⟩

theorem wit_OutcomesAndCheckRegisters_1_5 :
    ∃ (s : State) (c : Nat) (b : Bool), s.lets (.drefWrite c b) ∧ (coreState s c = 1 ∨ coreState s c = 2) :=
  ⟨Srun, 0, true, lets_of_check (by decide), by decide⟩
/-- The four banks with 64 pages, tables at 16 MiB, and pools of 16 frames. -/

def Skvp : State := (List.range 4).foldl (fun s b => (((((s.wr (kvpPg b) KVP.CTRL_ENABLE 1).wr (kvpPg b) KVP.PAGES_N 64).wrA (kvpPg b) KVP.LEDGER_BASE_BASE (2^24)).wr (kvpPg b) KVP.T1_FRAMES_N 16).wrA (kvpPg b) KVP.T1_POOL_BASE (2^25)).wr (kvpPg b) KVP.T2_FRAMES_N 16) S0

def pe (st ref pin : Nat) : PageEnt := { PageEnt.free with state := st, ref := ref, pin := pin, tenant := 1, frame := 3, gen := 9, fill := 100 }

def Spg (e : PageEnt) : State := Skvp.modPages (fun x => { x with ledger := [(5, e)] })

theorem wit_LedgerOperations_0 :
    ∃ (s : State) (c p slot tenant k tier want wantF : Nat), s.pages.held = [] ∧ s.srv.failed = [] ∧ (s.core c).attn = none ∧
      s.lets (.alloc c tenant slot want wantF) ∧ s.allocBank (slot % 4) = some k ∧ s.allocTier = some tier ∧ s.pickNum k want = p ∧
      s.pageGate p = none :=
  ⟨Skvp, 0, 8, 12, 1, 0, 0, 8, 3, by decide, by decide, by decide, lets_of_check (by decide), by decide, by decide, by decide, by
    decide⟩

theorem wit_LedgerOperations_1 :
    ∃ (s : State) (c slot tenant want wantF : Nat), s.pages.held = [] ∧ s.srv.failed = [] ∧ (s.core c).attn = none ∧ s.lets (.alloc
      c tenant slot want wantF) ∧ s.allocTier = none :=
  ⟨S0, 0, 12, 1, 0, 0, by decide, by decide, by decide, lets_of_check (by decide), by decide⟩

theorem wit_LedgerOperations_2_0 :
    ∃ (s : State) (c p slot tenant : Nat), s.pages.held = [] ∧ s.srv.failed = [] ∧ (s.core c).attn = none ∧ s.pageGate p = none ∧
      s.lets (.pinR c p tenant slot) ∧ ((s.page p).state = 1 ∨ (s.page p).state = 2 ∨ (s.page p).state = 4) ∧ (s.page p).tenant =
      tenant ∧ (s.page p).pin < 255 :=
  ⟨(Spg (pe 1 1 0)), 0, 5, 12, 1, by decide, by decide, by decide, by decide, lets_of_check (by decide), by decide, by decide, by
    decide⟩

theorem wit_LedgerOperations_2_1 :
    ∃ (s : State) (c p slot tenant : Nat), s.pages.held = [] ∧ s.srv.failed = [] ∧ (s.core c).attn = none ∧ s.pageGate p = none ∧
      s.lets (.pinR c p tenant slot) ∧ (s.page p).state ≠ 0 ∧ (s.page p).tenant ≠ tenant :=
  ⟨(Spg (pe 1 1 0)), 0, 5, 12, 2, by decide, by decide, by decide, by decide, lets_of_check (by decide), by decide, by decide⟩

theorem wit_LedgerOperations_2_2 :
    ∃ (s : State) (c p slot tenant : Nat), s.pages.held = [] ∧ s.srv.failed = [] ∧ (s.core c).attn = none ∧ s.pageGate p = none ∧
      s.lets (.pinR c p tenant slot) ∧ (s.page p).state = 3 ∧ (s.page p).tenant = tenant :=
  ⟨(Spg (pe 3 1 0)), 0, 5, 12, 1, by decide, by decide, by decide, by decide, lets_of_check (by decide), by decide, by decide⟩

theorem wit_LedgerOperations_2_3 :
    ∃ (s : State) (c p slot tenant a q f : Nat), s.pages.held = [] ∧ s.srv.failed = [] ∧ (s.core c).attn = none ∧ s.pageGate p =
      none ∧ s.lets (.pinW c p tenant slot a q f) ∧ (s.page p).state = 1 ∧ (s.page p).tenant = tenant ∧ (s.page p).pin < 255 :=
  ⟨(Spg (pe 1 1 0)), 0, 5, 12, 1, 0, 0, 0, by decide, by decide, by decide, by decide, lets_of_check (by decide), by decide, by
    decide, by decide⟩

theorem wit_LedgerOperations_2_4 :
    ∃ (s : State) (c p : Nat), s.pages.held = [] ∧ s.srv.failed = [] ∧ (s.core c).attn = none ∧ s.pageGate p = none ∧ s.lets
      (.unpin p) ∧ (s.page p).pin ≠ 0 ∧ ((s.page p).pin ≠ 1 ∨ (s.page p).state ≠ 4) :=
  ⟨(Spg (pe 1 1 2)), 0, 5, by decide, by decide, by decide, by decide, lets_of_check (by decide), by decide, by decide⟩

theorem wit_LedgerOperations_2_5 :
    ∃ (s : State) (c p : Nat), s.pages.held = [] ∧ s.srv.failed = [] ∧ (s.core c).attn = none ∧ s.pageGate p = none ∧ s.lets
      (.unpin p) ∧ (s.page p).pin = 1 ∧ (s.page p).state = 4 :=
  ⟨(Spg (pe 4 0 1)), 0, 5, by decide, by decide, by decide, by decide, lets_of_check (by decide), by decide, by decide⟩

theorem wit_LedgerOperations_2_6 :
    ∃ (s : State) (c p slot tenant : Nat), s.pages.held = [] ∧ s.srv.failed = [] ∧ (s.core c).attn = none ∧ s.pageGate p = none ∧
      s.lets (.share p tenant slot) ∧ ((s.page p).state = 1 ∨ (s.page p).state = 2) ∧ (s.page p).tenant = tenant ∧ (s.page p).ref <
      65535 :=
  ⟨(Spg (pe 1 1 1)), 0, 5, 12, 1, by decide, by decide, by decide, by decide, lets_of_check (by decide), by decide, by decide, by
    decide⟩

theorem wit_LedgerOperations_2_7 :
    ∃ (s : State) (c p slot : Nat), s.pages.held = [] ∧ s.srv.failed = [] ∧ (s.core c).attn = none ∧ s.pageGate p = none ∧ s.lets
      (.release p slot) ∧ (s.page p).state ≠ 3 ∧ 1 < (s.page p).ref :=
  ⟨(Spg (pe 2 2 1)), 0, 5, 12, by decide, by decide, by decide, by decide, lets_of_check (by decide), by decide, by decide⟩

theorem wit_LedgerOperations_2_8 :
    ∃ (s : State) (c p slot : Nat), s.pages.held = [] ∧ s.srv.failed = [] ∧ (s.core c).attn = none ∧ s.pageGate p = none ∧ s.lets
      (.release p slot) ∧ (s.page p).state ≠ 3 ∧ (s.page p).ref = 1 ∧ (s.page p).pin = 0 :=
  ⟨(Spg (pe 2 1 0)), 0, 5, 12, by decide, by decide, by decide, by decide, lets_of_check (by decide), by decide, by decide, by
    decide⟩

theorem wit_LedgerOperations_2_9 :
    ∃ (s : State) (c p slot n : Nat), s.pages.held = [] ∧ s.srv.failed = [] ∧ (s.core c).attn = none ∧ s.pageGate p = none ∧ s.lets
      (.trim p n slot) ∧ (s.page p).state = 1 :=
  ⟨(Spg (pe 1 1 0)), 0, 5, 12, 64, by decide, by decide, by decide, by decide, lets_of_check (by decide), by decide⟩

def qs (st : Nat) : Seq := { Seq.free with state := st, tenant := 1 }

def Spark (st : Nat) (e : PageEnt) : State := (Spg e).setSeq 12 (qs st)

theorem wit_PagesMoveAndBanksServe_0_0 :
    ∃ (s : State) (p f : Nat), s.pages.held = [] ∧ s.srv.failed = [] ∧ s.lets (.spill p f) ∧ s.movable p 0 = true ∧ (s.slotMoves 3
      p || s.rdB (kvpPg (bankOf p)) KVP.STAT_SPILLING && s.sweepNext (bankOf p) == some p) = true ∧ s.freeFrames 1 ≠ 0 :=
  ⟨(((Spg { pe 2 2 0 with lastUse := 1 }).wr (kvpPg 1) KVP.STAT_SPILLING 1).modSrv (fun x => { x with nextStep := 1000 })), 5, 7,
    by decide, by decide, lets_of_check (by decide), by decide, by decide, by decide⟩

theorem wit_PagesMoveAndBanksServe_0_1 :
    ∃ (s : State) (p f : Nat), s.pages.held = [] ∧ s.srv.failed = [] ∧ s.lets (.fill p f) ∧ s.movable p 1 = true ∧
      s.pages.due.contains p = true ∧ s.freeFrames 0 ≠ 0 :=
  ⟨((Spg { pe 1 1 0 with tier := 1 }).modPages (fun x => { x with due := [5] })), 5, 7, by decide, by decide, lets_of_check (by
    decide), by decide, by decide, by decide⟩

theorem wit_PagesMoveAndBanksServe_0_2 :
    ∃ (s : State) (p : Nat) (m : TierMove), s.pages.held = [] ∧ s.srv.failed = [] ∧ s.lets (.tierMoveDone p) ∧ List.find? (fun x =>
      x.page == p) s.pages.moves = some m :=
  ⟨((Spg { pe 3 1 0 with ret := 1 }).modPages (fun x => { x with moves := [⟨5, 7⟩] })), 5, ⟨5, 7⟩, by decide, by decide,
    lets_of_check (by decide), by decide⟩

theorem wit_PagesMoveAndBanksServe_0_3 :
    ∃ (s : State) (b : Nat), s.pages.held = [] ∧ s.srv.failed = [] ∧ s.lets (.spillSweep b) ∧ s.freeFrames 0 < s.rd (kvpPg b)
      KVP.WATERMARK_LOW_WM * 64 ∧ s.bankOn b = true ∧ s.rdB (kvpPg b) KVP.STAT_SPILLING = false ∧ s.rdB (kvpPg b) KVP.CTRL_SPILL_EN
      = true ∧ s.freeFrames 1 ≠ 0 :=
  ⟨((Spg (pe 1 1 0)).wr (kvpPg 1) KVP.CTRL_SPILL_EN 1), 1, by decide, by decide, lets_of_check (by decide), by decide, by decide,
    by decide, by decide, by decide⟩

def Scow : State := (Skvp.modPages (fun x => { x with ledger := [(5, pe 2 2 2), (9, { pe 1 1 1 with frame := 4 })], cows := [⟨1, 5, 9, 0, 12, 4096⟩] }))

theorem wit_PagesMoveAndBanksServe_0_4 :
    ∃ (s : State) (b : Nat) (x : Cow), s.pages.held = [] ∧ s.srv.failed = [] ∧ s.lets (.cowCopyDone b) ∧ List.find? (fun y =>
      y.bank == b) s.pages.cows = some x ∧ s.pageGate x.page = none ∧ (s.page x.page).state = 2 ∧ 1 < (s.page x.page).ref ∧ 1 <
      (s.page x.page).pin ∧ x.page ≠ x.q ∧ (s.core x.c).attn = none ∧ s.pageAddr x.page + 16 ≤ tier2Base ∧ x.listAddr + 4 ≤
      tier2Base ∧ (s.frameAddr (s.page x.q).tier (s.page x.q).frame + 65536 ≤ s.pageAddr x.page ∨ s.pageAddr x.page + 16 ≤
      s.frameAddr (s.page x.q).tier (s.page x.q).frame) :=
  ⟨Scow, 1, ⟨1, 5, 9, 0, 12, 4096⟩, by decide, by decide, lets_of_check (by decide), by decide, by decide, by decide, by decide, by
    decide, by decide, by decide, by decide, by decide, by decide⟩

theorem wit_PagesMoveAndBanksServe_0_5 :
    ∃ (s : State) (p : Nat) (l : List Nat), s.pages.held = [] ∧ s.srv.failed = [] ∧ s.lets (.pageNumberRelease p) ∧ mfind
      s.pages.waiting p = some l ∧ (∀ (n : Nat), n ∈ l → ¬n ∈ s.stepsInFlight) :=
  ⟨((Spg (pe 1 1 0)).modPages (fun x => { x with waiting := [(5, [3])] })), 5, [3], by decide, by decide, lets_of_check (by
    decide), by decide, by decide⟩

theorem wit_PagesMoveAndBanksServe_1_0 :
    ∃ (s : State) (b v : Nat), s.lets (.kvpEnableWrite b v) ∧ bit v 0 = true ∧ s.rdB (kvpPg b) KVP.CTRL_ENABLE = false ∧
      s.poolsAlike = true :=
  ⟨((Spg (pe 1 1 0)).wr (kvpPg 1) KVP.CTRL_ENABLE 0), 1, 1, lets_of_check (by decide), by decide, by decide, by decide⟩

theorem wit_PagesMoveAndBanksServe_1_1 :
    ∃ (s : State) (b v : Nat), s.lets (.kvpEnableWrite b v) ∧ bit v 0 = true ∧ s.rdB (kvpPg b) KVP.CTRL_ENABLE = false ∧
      s.poolsAlike = false :=
  ⟨(((Spg (pe 1 1 0)).wr (kvpPg 1) KVP.CTRL_ENABLE 0).wr (kvpPg 2) KVP.PAGES_N 3), 1, 1, lets_of_check (by decide), by decide, by
    decide, by decide⟩

theorem wit_PagesMoveAndBanksServe_1_2 :
    ∃ (s : State) (b v : Nat), s.lets (.kvpEnableWrite b v) ∧ bit v 0 = false :=
  ⟨(Spg (pe 1 1 0)), 1, 0x50006, lets_of_check (by decide), by decide⟩

theorem wit_PagesMoveAndBanksServe_1_3 :
    ∃ (s : State) (b v : Nat), s.lets (.entrySel b v) ∧ bankOf (v % 2 ^ 26) = b :=
  ⟨(Spg (pe 1 1 0)), 1, 5, lets_of_check (by decide), by decide⟩

theorem wit_PagesMoveAndBanksServe_1_4 :
    ∃ (s : State) (b v : Nat), s.lets (.entrySel b v) ∧ bankOf (v % 2 ^ 26) ≠ b :=
  ⟨(Spg (pe 1 1 0)), 1, 6, lets_of_check (by decide), by decide⟩

theorem wit_PagesMoveAndBanksServe_1_5 :
    ∃ (s : State) (c : Nat) (x : Bool), s.lets (.xlateWrite c x) ∧ (coreState s c = 0 ∨ coreState s c = 3) ∧ (s.core c).attnQ = []
      ∧ (s.core c).attn = none :=
  ⟨S0, 0, true, lets_of_check (by decide), by decide, by decide, by decide⟩

theorem wit_PagesMoveAndBanksServe_1_6 :
    ∃ (s : State) (c : Nat) (x : Bool), s.lets (.xlateWrite c x) ∧ coreState s c = 1 :=
  ⟨Srun, 0, true, lets_of_check (by decide), by decide⟩

def qa (op : Nat) : AttnCmd := { d := qd op, kv4 := false, bf16 := true, dim := 64, layer := 0, head := 0, qpg := 1, heads := 1, maxPages := 4, scale := 0x3F800000, q := 8192, out := 12288, knew := 16384, ents := [], pins := [], kv := [] }

def jobBytes : List Byte := [1, 0, 1, 0] ++ toLe 2 0 ++ [0, 1] ++ toLe 2 1 ++ toLe 2 1 ++ toLe 4 4 ++ toLe 4 0x3F800000 ++ toLe 4 8192 ++ toLe 4 12288 ++ toLe 4 16384 ++ List.replicate 32 0 ++ (toLe 2 12 ++ [1, 2] ++ toLe 4 3 ++ toLe 8 0x100000)

def Satt (op : Nat) : State := (Sq 4 (qd op)).csWrite 0 4096 jobBytes

def ent0 : AttnEnt := { slot := 12, tenant := 1, count := 2, pos := 3, list := 0x100000, failed := false, todo := [] }

theorem wit_AttentionCommandsRun_0 :
    ∃ (s : State) (c op : Nat) (d : Desc), (op = 128 ∨ op = 129) ∧ s.issuable c 4 op = some d ∧ s.readJob c d = none ∧ s.lets (if
      op = 128 then .kvAppend c else .attnRun c) :=
  ⟨(Sq 4 (qd 0x80)), 0, 0x80, (qd 0x80), by decide, by decide, by decide, lets_of_check (by decide)⟩

theorem wit_AttentionCommandsRun_1 :
    ∃ (s : State) (c : Nat) (a : AttnCmd) (op : Nat) (d : Desc), (op = 128 ∨ op = 129) ∧ s.issuable c 4 op = some d ∧ s.readJob c d
      = some a ∧ s.lets (if op = 128 then .kvAppend c else .attnRun c) ∧ s.rdB (attnPg c) ATTN.CTRL_XLATE = false ∧ (∀ (e :
      AttnEnt), e ∈ a.ents → e.pos + e.count - 1 < a.maxPages * a.tokens) ∧ (∀ (x : Nat × Nat), x ∈ (AttnCmd.mk a.d a.kv4 a.bf16
      a.dim a.layer a.head a.qpg a.heads a.maxPages a.scale a.q a.out a.knew (List.map (fun e => AttnEnt.mk e.slot e.tenant e.count
      e.pos e.list e.failed (todoOf (d.opcode == 128) a.tokens e)) a.ents) a.pins a.kv).next.toList → s.coreMay (a.listAddr x.fst
      x.snd) 4 = true ∧ s.devBad (a.listAddr x.fst x.snd) 4 = false ∧ (op = 129 → (s.devNat (a.listAddr x.fst x.snd) 4).testBit 31
      = false)) :=
  ⟨(Satt 0x80), 0, { qa 0x80 with ents := [ent0] }, 0x80, (qd 0x80), by decide, by decide, by decide, lets_of_check (by decide), by
    decide, by decide, by decide⟩

def pin0 : AttnPin := ⟨0, 0, 5, 3, 0, false, true⟩

def ar (op : Nat) : AttnCmd := { qa op with ents := [ent0], pins := [pin0] }

def Sar (op : Nat) : State := (Spg (pe 1 1 2)).modCore 0 (fun x => { x with attn := some (ar op) })

theorem wit_AttentionCommandsRun_2_0 :
    ∃ (s : State) (c : Nat) (a : AttnCmd) (x : AttnPin) (i : Nat), (s.core c).attn = some a ∧ a.ready = some (x, i) ∧ a.next = none
      ∧ (a.ent x.ent).failed = false ∧ s.coreMay (s.frameAddr x.tier x.frame) 65536 = true ∧ s.lostIn (s.frameAddr x.tier x.frame)
      65536 = false ∧ s.pages.held = [] ∧ s.pageGate x.page = none ∧ 1 < (s.page x.page).pin ∧ s.lets (.walkerPageRead c) ∧
      a.d.opcode = 129 ∧ s.tokensBad a (s.frameAddr x.tier x.frame) (min a.tokens ((a.ent x.ent).pos + (a.ent x.ent).count - x.idx
      * a.tokens)) = false :=
  ⟨(Sar 0x81), 0, (ar 0x81), pin0, 0, by decide, by decide, by decide, by decide, by decide, by decide, by decide, by decide, by
    decide, lets_of_check (by decide), by decide, by decide⟩

theorem wit_AttentionCommandsRun_2_1 :
    ∃ (s : State) (c : Nat) (a : AttnCmd) (x : AttnPin) (i : Nat), (s.core c).attn = some a ∧ a.ready = some (x, i) ∧ a.next = none
      ∧ (a.ent x.ent).failed = false ∧ s.coreMay (s.frameAddr x.tier x.frame) 65536 = true ∧ s.lostIn (s.frameAddr x.tier x.frame)
      65536 = false ∧ s.pages.held = [] ∧ s.pageGate x.page = none ∧ 1 < (s.page x.page).pin ∧ s.lets (.appendPageWrite c) ∧
      a.d.opcode = 128 ∧ x.fresh = false ∧ s.knewBad c a x.ent x.idx = false ∧ s.pageAddr x.page + 16 ≤ tier2Base :=
  ⟨(Sar 0x80), 0, (ar 0x80), pin0, 0, by decide, by decide, by decide, by decide, by decide, by decide, by decide, by decide, by
    decide, lets_of_check (by decide), by decide, by decide, by decide, by decide⟩

def Sdn (op : Nat) : State := (Srun).modCore 0 (fun x => { x with attn := some { ar op with pins := [] } })

theorem wit_AttentionCommandsRun_3 :
    ∃ (s : State) (c : Nat) (a : AttnCmd), s.lets (.attnCmdComplete c) ∧ (s.core c).attn = some a ∧ a.next = none ∧ a.pins = [] :=
  ⟨(Sdn 0x80), 0, { ar 0x80 with pins := [] }, lets_of_check (by decide), by decide, by decide, by decide⟩

def reqBytes (op : Nat) : List Byte :=
  toLe 1 op ++ toLe 1 0 ++ toLe 1 2 ++ toLe 1 0 ++ toLe 2 0 ++ toLe 2 0 ++ toLe 8 77 ++ toLe 8 5 ++ toLe 8 0x2000 ++ toLe 4 3 ++ toLe 4 10 ++ toLe 8 0
    ++ toLe 2 0 ++ toLe 2 0 ++ toLe 2 0 ++ toLe 2 0 ++ toLe 4 0 ++ toLe 4 0xFFFFFFFF

def hBytes (op : Nat) : List Byte := toLe 1 op ++ List.replicate 7 0 ++ toLe 8 77 ++ List.replicate 48 0

def Srq (l : List Byte) : State :=
  let p := fnPg 0
  let s := ((S0.wr srvPg SRV.CTRL_ENABLE 1).wr (pciePg 0) (PCIE.FUNC_MAP_VALID 0) 1).wr (pciePg 0) (PCIE.FUNC_MAP_TENANT 0) 3
  let s := (((s.wr p FNW.REQ_CFG_ENABLE 1).wr p FNW.REQ_CFG_ENTRIES 64).wr p FNW.REQ_TAIL_TAIL 1).wrA p FNW.REQ_BASE_BASE 0x1000
  let s := ((s.wr p FNW.RES_CFG_ENABLE 1).wr p FNW.RES_CFG_ENTRIES 256).wrA p FNW.RES_BASE_BASE 0x10000
  { s with host := s.host.put 0x1000 l }

theorem wit_RequestsAreDecided_0 :
    ∃ (s : State) (f tenant v : Nat), s.lets (.reqTail f v) ∧ s.fnTenant f = some tenant :=
  ⟨(Srq []), 0, 3, 7, lets_of_check (by decide), by decide⟩

theorem wit_RequestsAreDecided_1 :
    ∃ (s : State) (f v : Nat), s.lets (.reqTail f v) ∧ s.fnTenant f = none :=
  ⟨S0, 0, 7, lets_of_check (by decide), by decide⟩

theorem wit_RequestsAreDecided_2 :
    ∃ (s : State) (f tenant : Nat) (d : List Byte) (poison : Bool), s.lets (.submit f) ∧ s.reqTurn f = true ∧ s.reqHead f = (d,
      poison) ∧ leAt d 0 1 ≠ 2 ∧ leAt d 0 1 ≠ 3 ∧ leAt d 0 1 ≠ 4 ∧ s.fnTenant f = some tenant ∧ s.submitBad f tenant d poison =
      true ∧ 0 < s.room f ∧ (s.fnx f).waiting = [] :=
  ⟨(Srq []), 0, 3, (List.replicate 64 0), false, lets_of_check (by decide), by decide, by decide, by decide, by decide, by decide,
    by decide, by decide, by decide, by decide⟩

def mdl2 (s : State) : State :=
  let p := mdlPg 2
  let s := ((((s.wr p MDL.STATE 2).wr p MDL.LAYERS 1).wr p MDL.HEADS_KV 1).wr p MDL.MAX_CTX 4096)
  let s := ((s.wr p MDL.STEP_TOKENS 16).wr p MDL.CHUNK_MAX 8).wr p MDL.VOCAB 4
  let s := ((s.wr (tenPg 3) TEN.ENABLE 1).wr (tenPg 3) TEN.MAX_SEQ 8).wr (tenPg 3) TEN.PAGE_QUOTA 100
  (s.wr (kvpPg 0) KVP.STAT_READY 1).wr (kvpPg 0) KVP.T1_FRAMES_N 64

theorem wit_RequestsAreDecided_3 :
    ∃ (s : State) (f tenant slot : Nat) (d : List Byte) (poison : Bool), s.lets (.submit f) ∧ s.reqTurn f = true ∧ s.reqHead f =
      (d, poison) ∧ leAt d 0 1 = 1 ∧ s.fnTenant f = some tenant ∧ s.submitBad f tenant d poison = false ∧ s.mdlState (leAt d 2 1) ≠
      3 ∧ bit (leAt d 1 1) 1 = false ∧ leAt d 3 1 = 0 ∧ s.srv.failed = [] ∧ s.admitCode tenant d (s.pagesFor (leAt d 2 1) (leAt d
      32 4 + leAt d 36 4) 0) = none ∧ List.find? (fun i => (s.seq i).state == 0) (List.range 4096) = some slot :=
  ⟨(mdl2 (Srq (reqBytes 1))), 0, 3, 0, (reqBytes 1), false, lets_of_check (by decide), by decide, by decide, by decide, by decide,
    by decide, by decide, by decide, by decide, by decide, by decide, by decide⟩

def sq (st : Nat) : Seq := { Seq.free with state := st, tenant := 3, model := 2, handle := 77, r := 13, pos := 3 }

theorem wit_RequestsAreDecided_4_0 :
    ∃ (s : State) (f slot : Nat) (d : List Byte), s.reqTurn f = true ∧ s.reqHead f = (d, false) ∧ s.byHandle f (leAt d 8 8) = some
      slot ∧ (s.seq slot).live = true ∧ leAt d 1 7 = 0 ∧ leAt d 16 48 = 0 ∧ s.lets (.cancel f) ∧ leAt d 0 1 = 2 :=
  ⟨((mdl2 (Srq (hBytes 2))).setSeq 9 (sq 2)), 0, 9, (hBytes 2), by decide, by decide, by decide, by decide, by decide, by decide,
    lets_of_check (by decide), by decide⟩

theorem wit_RequestsAreDecided_4_1 :
    ∃ (s : State) (f slot : Nat) (d : List Byte), s.reqTurn f = true ∧ s.reqHead f = (d, false) ∧ s.byHandle f (leAt d 8 8) = some
      slot ∧ (s.seq slot).live = true ∧ leAt d 1 7 = 0 ∧ leAt d 16 48 = 0 ∧ s.lets (.park f) ∧ leAt d 0 1 = 3 ∧ ((s.seq slot).state
      = 1 ∨ (s.seq slot).state = 2) :=
  ⟨((mdl2 (Srq (hBytes 3))).setSeq 9 (sq 2)), 0, 9, (hBytes 3), by decide, by decide, by decide, by decide, by decide, by decide,
    lets_of_check (by decide), by decide, by decide⟩

theorem wit_RequestsAreDecided_4_2 :
    ∃ (s : State) (f slot : Nat) (d : List Byte), s.reqTurn f = true ∧ s.reqHead f = (d, false) ∧ s.byHandle f (leAt d 8 8) = some
      slot ∧ (s.seq slot).live = true ∧ leAt d 1 7 = 0 ∧ leAt d 16 48 = 0 ∧ s.lets (.unpark f) ∧ leAt d 0 1 = 4 ∧ (s.seq
      slot).state = 4 :=
  ⟨((mdl2 (Srq (hBytes 4))).setSeq 9 (sq 4)), 0, 9, (hBytes 4), by decide, by decide, by decide, by decide, by decide, by decide,
    lets_of_check (by decide), by decide, by decide⟩

def Sbar : State := ({ (mdl2 S0).setSeq 9 { sq 6 with deadline := 1 } with now := 6400000 }).modSrv (fun x => { x with held := [⟨0, reqBytes 1, false⟩, ⟨0, toLe 8 1 ++ List.replicate 32 0 ++ toLe 8 1 ++ List.replicate 16 0, false⟩] })

theorem wit_RequestsAreDecided_5 :
    ∃ (s : State), s.lets .barrierDeadlineCheck :=
  ⟨Sbar, lets_of_check (by decide)⟩

theorem wit_RequestsAreDecided_6 :
    ∃ (s : State) (slot : Nat), s.lets (.slotFree slot) ∧ (s.seq slot).state = 7 ∧ (∀ (n : Nat), n ∈ (s.seq slot).endedIn → ¬n ∈
      s.stepsInFlight) :=
  ⟨((mdl2 S0).setSeq 9 { sq 7 with endedIn := [4] }), 9, lets_of_check (by decide), by decide, by decide⟩

def shp (s : State) : State :=
  let s := s.wr (mdlPg 2) MDL.SHAPES 0x100000
  let s := s.devWrite 0x100000 (toLe 1 1 ++ toLe 1 1)
  s.devWrite 0x100040 (toLe 2 16 ++ toLe 2 1 ++ toLe 2 0x400 ++ toLe 1 4 ++ toLe 1 0xFF ++ toLe 8 3 ++ toLe 8 0x101000 ++ toLe 8 0x102000 ++ toLe 8 0x103000 ++ toLe 8 0x104000)

def shp2 (s : State) : State := ((shp s).devWrite 0x101000 (toLe 2 1 ++ toLe 2 0 ++ toLe 4 0 ++ toLe 8 0x200000 ++ toLe 8 0x105000)).wr fltPg (FLT.CORE_REDIR_VALID 1) 1

def Sasm : State := shp2 ((mdl2 (Srq [])).setSeq 9 (sq 2))

def ss (pf : Bool) : StepSeq := { newStepSeq 9 1 0 pf with drafts := [] }

def stp (ph : Nat) (l : List StepSeq) : StepS :=
  { step := 5, model := 2, shape := 0x100040, cores := [(0, false), (1, true)], gsemBase := 0x400, gsemN := 4, draftSem := 1, tokens := 0x102000, logits := 0x103000, dlogits := 0x104000,
    seqs := l, rounds := 1, round := 1, unsent := [], phase := ph, at0 := 0 }

def Sstp (x : StepS) (q : Seq) : State := (shp2 ((mdl2 (Srq [])).setSeq 9 q)).modSrv (fun y => { y with steps := [x] })

theorem wit_StepsRunToTheirClose_0 :
    ∃ (s : State) (m k : Nat) (sh : Shape), s.lets (.stepAssembly m) ∧ s.mayAssemble m = true ∧ List.map (fun e => e.fst)
      s.srv.seqs = [k] ∧ (s.seq k).state = 2 ∧ (s.seq k).model = m ∧ (s.seq k).deadline = 0 ∧ (s.seq k).kMax = 0 ∧ (s.seq k).tenant
      < 256 ∧ s.rd (tenPg (s.seq k).tenant) TEN.RATE = 0 ∧ 2 ≤ s.room (s.seq k).fn ∧ s.shapesOf m = [sh] ∧ 1 ≤ sh.cap ∧ s.devBad
      (s.rd (mdlPg m) MDL.SHAPES) 64 = false ∧ s.shapeBad sh = false ∧ (∀ (c : ShapeCore), c ∈ s.shapeCores sh → s.rdB fltPg
      (FLT.CORE_REDIR_VALID c.logical) = true) :=
  ⟨Sasm, 2, 9, ((Sasm.shapesOf 2).getD 0 (Sasm.readShape 0)), lets_of_check (by decide), by decide, by decide, by decide, by
    decide, by decide, by decide, by decide, by decide, by decide, by decide, by decide, by decide, by decide, by decide⟩

def ssd : StepSeq := { ss false with k := 1 }

def Sdr : State := (({ Sstp (stp 1 [ssd]) { sq 2 with kMax := 1 } with awn := { S0.awn with grants := [⟨claimOf 2, 0x401, 2⟩] } }).wr (mdlPg 2) MDL.DRAFT 3).wr (mdlPg 3) MDL.VOCAB 2

def lg (s : State) (m a i : Nat) : List Nat := (s.logitRow m a i).getD []

theorem wit_StepsRunToTheirClose_1_0 :
    ∃ (s : State) (n : Nat) (x : StepS) (y : StepSeq) (row : List Nat), s.stepRec n = some x ∧ s.lets (.draftRoundEnd n) ∧ x.phase
      = 1 ∧ (s.awn.grants.any fun g => g.who == claimOf x.model) = true ∧ x.seqs = [y] ∧ x.round ≤ y.k ∧ y.failed = false ∧ (s.seq
      y.slot).live = true ∧ x.rounds ≤ x.round ∧ s.logitRow (s.rd (mdlPg x.model) MDL.DRAFT) x.dlogits 0 = some row :=
  ⟨Sdr, 5, (stp 1 [ssd]), ssd, (lg Sdr 3 0x104000 0), by decide, lets_of_check (by decide), by decide, by decide, by decide, by
    decide, by decide, by decide, by decide, by decide⟩

def Ssmp : State := Sstp (stp 2 [ss true]) { sq 1 with promptLeft := 1 }

theorem wit_StepsRunToTheirClose_1_1 :
    ∃ (s : State) (n : Nat) (x : StepS) (hub : Nat), s.stepRec n = some x ∧ s.lets (.samplingDone n hub) ∧ x.phase = 2 :=
  ⟨Ssmp, 5, (stp 2 [ss true]), 1, by decide, lets_of_check (by decide), by decide⟩

theorem wit_StepsRunToTheirClose_1_2 :
    ∃ (s : State) (n : Nat) (x : StepS) (y : StepSeq) (row : List Nat), s.stepRec n = some x ∧ s.lets (.samplingDone n (y.slot %
      4)) ∧ x.phase = 2 ∧ x.seqs = [y] ∧ y.prefill = true ∧ y.failed = false ∧ y.sampled = false ∧ (s.seq y.slot).live = true ∧
      (s.seq y.slot).promptLeft ≤ y.n ∧ s.logitRow x.model x.logits (y.n - 1) = some row :=
  ⟨Ssmp, 5, (stp 2 [ss true]), (ss true), (lg Ssmp 2 0x103000 0), by decide, lets_of_check (by decide), by decide, by decide, by
    decide, by decide, by decide, by decide, by decide, by decide⟩

def ssm : StepSeq := { ss false with sampled := true, toks := [(2, 3)] }

theorem wit_StepsRunToTheirClose_1_3 :
    ∃ (s : State) (n : Nat) (x : StepS) (y : StepSeq) (t lp : Nat), s.stepRec n = some x ∧ s.lets (.stepClose n) ∧ x.phase = 2 ∧
      x.seqs = [y] ∧ y.sampled = true ∧ y.failed = false ∧ y.prefill = false ∧ y.toks = [(t, lp)] ∧ y.k = 0 ∧ y.accepted = 0 ∧
      (s.seq y.slot).state = 2 ∧ t ≠ (s.seq y.slot).stop ∧ (s.seq y.slot).deadline = 0 ∧ (s.seq y.slot).pos + 2 < (s.seq y.slot).r
      ∧ s.mdlState x.model ≠ 3 ∧ s.srv.failed = [] :=
  ⟨(Sstp (stp 2 [ssm]) (sq 2)), 5, (stp 2 [ssm]), ssm, 2, 3, by decide, lets_of_check (by decide), by decide, by decide, by decide,
    by decide, by decide, by decide, by decide, by decide, by decide, by decide, by decide, by decide, by decide, by decide⟩

theorem wit_StepsRunToTheirClose_1_4 :
    ∃ (s : State) (k n : Nat) (x : StepS) (c : Nat), s.stepRec n = some x ∧ s.lets (.stepEndReport c n) ∧ n ≠ 0 ∧ x.phase = 1 ∧ (∀
      (k : Nat × Bool), k ∈ x.cores → k.fst ≠ c → k.snd = true) :=
  ⟨(Sstp (stp 1 [ssm]) (sq 2)), 9, 5, (stp 1 [ssm]), 0, by decide, lets_of_check (by decide), by decide, by decide, by decide⟩

theorem wit_StepsRunToTheirClose_1_5 :
    ∃ (s : State) (k n : Nat) (x : StepS) (c : Nat), s.stepRec n = some x ∧ s.lets (.stepFailureReport c n false) ∧ n ≠ 0 ∧
      (x.cores.any fun k => k.fst == c) = true :=
  ⟨(Sstp (stp 1 [ssm]) (sq 2)), 9, 5, (stp 1 [ssm]), 0, by decide, lets_of_check (by decide), by decide, by decide⟩

theorem wit_StepsRunToTheirClose_1_6 :
    ∃ (s : State) (k n : Nat) (x : StepS) (c : Nat) (y : ShapeCore), s.stepRec n = some x ∧ s.lets (.stepFailureReport c n true) ∧
      n ≠ 0 ∧ List.find? (fun k => s.physOfCore k.logical == c) (s.shapeCores (s.readShape x.shape)) = some y :=
  ⟨(Sstp (stp 1 [ssm]) (sq 2)), 9, 5, (stp 1 [ssm]), 0, ⟨1, 0x200000, 0x105000, 0⟩, by decide, lets_of_check (by decide), by
    decide, by decide⟩

theorem wit_StepsRunToTheirClose_2 :
    ∃ (s : State) (k c : Nat), s.lets (.seqFailReport c k) ∧ (s.seq k).live = true :=
  ⟨(Sstp (stp 1 [ssm]) (sq 2)), 9, 0, lets_of_check (by decide), by decide⟩

theorem wit_ModelsSwapAndUnload_0 :
    ∃ (s : State) (m : Nat), s.lets (.modelSwap m) ∧ s.mdlState m = 2 ∧ (s.srv.steps.any fun x => x.model == m) = true :=
  ⟨(Sstp (stp 1 [ssm]) (sq 2)), 2, lets_of_check (by decide), by decide, by decide⟩

def Smd (q : Nat) : State := (mdl2 (Srq [])).setSeq 9 (sq q)

theorem wit_ModelsSwapAndUnload_1 :
    ∃ (s : State) (m : Nat), s.lets (.modelSwap m) ∧ s.mdlState m = 2 ∧ (s.srv.steps.any fun x => x.model == m) = false ∧
      s.ingest.jobs = [] ∧ s.rd (mdlPg m) MDL.SWAP_MODE = 1 :=
  ⟨((Smd 2).wr (mdlPg 2) MDL.SWAP_MODE 1), 2, lets_of_check (by decide), by decide, by decide, by decide, by decide⟩

theorem wit_ModelsSwapAndUnload_2 :
    ∃ (s : State) (m : Nat), s.lets (.modelSwap m) ∧ s.mdlState m = 2 ∧ (s.srv.steps.any fun x => x.model == m) = false ∧
      s.ingest.jobs = [] ∧ s.rd (mdlPg m) MDL.SWAP_MODE = 0 :=
  ⟨(Smd 2), 2, lets_of_check (by decide), by decide, by decide, by decide, by decide⟩

theorem wit_ModelsSwapAndUnload_3 :
    ∃ (s : State) (m : Nat), s.lets (.swapComplete m true) ∧ s.mdlState m = 3 ∧ s.srv.held = [] :=
  ⟨((Smd 6).wr (mdlPg 2) MDL.STATE 3), 2, lets_of_check (by decide), by decide, by decide⟩

theorem wit_ModelsSwapAndUnload_4 :
    ∃ (s : State) (m : Nat), s.lets (.swapComplete m false) ∧ s.mdlState m = 3 ∧ s.srv.held = [] :=
  ⟨((Smd 6).wr (mdlPg 2) MDL.STATE 3), 2, lets_of_check (by decide), by decide, by decide⟩

theorem wit_ModelsSwapAndUnload_5 :
    ∃ (s : State) (m : Nat), s.lets (.modelUnload m) ∧ (s.ingest.jobs.any fun j => j.model == m && j.op != 3) = false ∧ s.srv.held
      = [] :=
  ⟨(Smd 2), 2, lets_of_check (by decide), by decide, by decide⟩

def Srr : State := ((Srq []).wr (fnPg 0) FNW.RES_TAIL_TAIL 5).modFnx 0 (fun x => { x with copy := [(0, (11, 22)), (4, (1, 2))] })

theorem wit_ResultRingsAndViews_0_0 :
    ∃ (s : State) (f t : Nat), s.fnTenant f = some t ∧ s.lets (.resPopLo f) ∧ s.resHead f ≠ s.resTail f :=
  ⟨Srr, 0, 3, by decide, lets_of_check (by decide), by decide⟩

theorem wit_ResultRingsAndViews_0_1 :
    ∃ (s : State) (f t : Nat), s.fnTenant f = some t ∧ s.lets (.resPopLo f) ∧ s.resHead f = s.resTail f :=
  ⟨(Srq []), 0, 3, by decide, lets_of_check (by decide), by decide⟩

theorem wit_ResultRingsAndViews_0_2 :
    ∃ (s : State) (f t : Nat), s.fnTenant f = some t ∧ s.lets (.resPeekLo f) :=
  ⟨Srr, 0, 3, by decide, lets_of_check (by decide)⟩

theorem wit_ResultRingsAndViews_0_3 :
    ∃ (s : State) (f t v : Nat), s.fnTenant f = some t ∧ s.lets (.resHeadWrite f v) ∧ v < s.ringSize f ∧ (v + s.ringSize f -
      s.resHead f) % s.ringSize f ≤ s.resUsed f :=
  ⟨Srr, 0, 3, 4, by decide, lets_of_check (by decide), by decide, by decide⟩

theorem wit_ResultRingsAndViews_0_4 :
    ∃ (s : State) (f t v : Nat), s.fnTenant f = some t ∧ s.lets (.resHeadWrite f v) ∧ s.ringSize f ≤ v ∧ v ≠ s.resHead f :=
  ⟨Srr, 0, 3, 256, by decide, lets_of_check (by decide), by decide, by decide⟩

theorem wit_ResultRingsAndViews_1 :
    ∃ (s : State) (f v : Nat), s.lets (.ringEnableWrite f true v) ∧ bit v 63 = true ∧ isPow2 (field v 0 17) 256 65536 = true ∧
      s.rdB (fnPg f) FNW.RES_CFG_ENABLE = false ∧ (s.fnx f).waiting = [] :=
  ⟨S0, 0, (2^63 + 256), lets_of_check (by decide), by decide, by decide, by decide, by decide⟩

theorem wit_ResultRingsAndViews_2 :
    ∃ (s : State) (f v : Nat), s.lets (.ringEnableWrite f false v) ∧ bit v 63 = true ∧ isPow2 (field v 0 13) 64 4096 = true ∧ s.rdB
      (fnPg f) FNW.REQ_CFG_ENABLE = false ∧ s.rdB (fnPg f) FNW.RES_CFG_ENABLE = true :=
  ⟨((Srq []).wr (fnPg 0) FNW.REQ_CFG_ENABLE 0), 0, (2^63 + 128), lets_of_check (by decide), by decide, by decide, by decide, by
    decide⟩

theorem wit_ResultRingsAndViews_3 :
    ∃ (s : State) (v : Nat), s.lets (.seqSel v) :=
  ⟨(Smd 2), 9, lets_of_check (by decide)⟩

def Ssum (l : List Nat) : State := ((((S0.modCore 0 (fun x => { x with sumOut := [(5, .zero)] })).modSrv (fun x => { x with sums := [⟨5, .zero, l⟩] })).wr srvPg SRV.SUM_CFG_ENABLE 1).wr srvPg SRV.SUM_CFG_ENTRIES 64).wrA srvPg SRV.SUM_BASE_BASE 0x1000

theorem wit_ResultRingsAndViews_4 :
    ∃ (s : State) (c n : Nat) (v : StepSum), s.lets (.stepSum c n) ∧ mfind (s.core c).sumOut n = some v ∧ (s.srv.sums.any fun x =>
      x.step == n) = true ∧ (∃ k, k ∈ s.sumCores ∧ k ≠ c ∧ ¬k ∈ (s.sumRec n).cores) :=
  ⟨(Ssum []), 0, 5, .zero, lets_of_check (by decide), by decide, by decide, by decide⟩

theorem wit_ResultRingsAndViews_5_0 :
    ∃ (s : State) (n c : Nat) (v : StepSum), s.rdB srvPg SRV.SUM_CFG_ENABLE = true ∧ 1 < s.rd srvPg SRV.SUM_CFG_ENTRIES ∧ (s.rd
      srvPg SRV.SUM_TAIL_TAIL + 1) % s.rd srvPg SRV.SUM_CFG_ENTRIES ≠ s.rd srvPg SRV.SUM_HEAD_HEAD % s.rd srvPg SRV.SUM_CFG_ENTRIES
      ∧ (s.srv.sums.any fun x => x.step == n) = true ∧ s.lets (.stepSum c n) ∧ mfind (s.core c).sumOut n = some v ∧ (∀ (k : Nat), k
      ∈ s.sumCores → k = c ∨ k ∈ (s.sumRec n).cores) :=
  ⟨(Ssum (allCores.filter (fun c => c != 0))), 5, 0, .zero, by decide, by decide, by decide, by decide, lets_of_check (by decide),
    by decide, by decide⟩

theorem wit_ResultRingsAndViews_5_1 :
    ∃ (s : State) (n : Nat), s.rdB srvPg SRV.SUM_CFG_ENABLE = true ∧ 1 < s.rd srvPg SRV.SUM_CFG_ENTRIES ∧ (s.rd srvPg
      SRV.SUM_TAIL_TAIL + 1) % s.rd srvPg SRV.SUM_CFG_ENTRIES ≠ s.rd srvPg SRV.SUM_HEAD_HEAD % s.rd srvPg SRV.SUM_CFG_ENTRIES ∧
      (s.srv.sums.any fun x => x.step == n) = true ∧ s.lets (.summaryTimeout n) :=
  ⟨(Ssum []), 5, by decide, by decide, by decide, by decide, lets_of_check (by decide)⟩

def ij : IngJob :=
  { idx := 1, op := 1, src := 0, channel := 2, model := 5, layers := 2, tag := 9, manifest := [], srcAddr := 0, srcLen := 0, reload := 0, reloadN := 0,
    phase := 1, layer := 0, seq := 3, pos := 0, raw := [], chunks := 0, start := 0, layerEnd := false, policy := 0, failCode := 0, srcPos := 0,
    reloadLeft := [], lastSeen := false, slots := 0, consumed := 0, asking := false, askedAt := 0 }

def Sing (l : List IngJob) : State :=
  ((((S0.modIng (fun x => { x with jobs := l })).wr ingPg INGEST.CTRL_ENABLE 1).wr ingPg INGEST.STAGE_CFG_SLOTS 4).wr ingPg INGEST.JOB_CFG_ENTRIES 16).wrA ingPg INGEST.STAGE_BASE_BASE 0x40000000

theorem wit_ApertureWritesAndJobs_0_0 :
    ∃ (s : State) (ch addr : Nat) (data : List Byte) (poisoned : Bool) (stream : Option Nat) (j : IngJob), s.lets (.apertureWrite
      addr data poisoned stream) ∧ s.ide 1 stream = Ide.ok ∧ apBase ≤ addr ∧ ch = (addr - apBase) / 2 ^ 30 ∧ data ≠ [] ∧ addr % 2 ^
      20 + data.length ≤ 2 ^ 20 ∧ s.channelJob ch = some j ∧ s.slotComplete ch ((addr - apBase) % 2 ^ 30 / 2 ^ 20 % s.rd ingPg
      INGEST.STAGE_CFG_SLOTS) = false ∧ 12 ≤ addr % 2 ^ 20 ∧ (mget s.ingest.counts (0, 0) (slotKey ch ((addr - apBase) % 2 ^ 30 / 2
      ^ 20 % s.rd ingPg INGEST.STAGE_CFG_SLOTS))).snd ≠ 15 :=
  ⟨(Sing [ij]), 2, (apBase + 2 * 2^30 + 3 * 2^20 + 16), [1, 2, 3], false, (some 0), ij, lets_of_check (by decide), by decide, by
    decide, by decide, by decide, by decide, by decide, by decide, by decide, by decide⟩

theorem wit_ApertureWritesAndJobs_0_1 :
    ∃ (s : State) (ch addr : Nat) (data : List Byte) (poisoned : Bool) (stream : Option Nat), s.lets (.apertureWrite addr data
      poisoned stream) ∧ s.ide 1 stream = Ide.ok ∧ apBase ≤ addr ∧ ch = (addr - apBase) / 2 ^ 30 ∧ data ≠ [] ∧ addr % 2 ^ 20 +
      data.length ≤ 2 ^ 20 ∧ s.channelJob ch = none ∧ s.ingest.stray.contains (slotKey ch ((addr - apBase) % 2 ^ 30 / 2 ^ 20)) =
      false :=
  ⟨(Sing [ij]), 3, (apBase + 3 * 2^30 + 3 * 2^20 + 16), [1, 2, 3], false, none, lets_of_check (by decide), by decide, by decide, by
    decide, by decide, by decide, by decide, by decide⟩

theorem wit_ApertureWritesAndJobs_0_2 :
    ∃ (s : State) (ch port peer : Nat), s.lets (.apertureCreditRequest port peer ch) ∧ (s.ingest.jobs.any fun j => j.bound == some
      ch) = true :=
  ⟨(Sing [ij]), 2, 4, 7, lets_of_check (by decide), by decide⟩

theorem wit_ApertureWritesAndJobs_0_3 :
    ∃ (s : State) (ch port peer : Nat), s.lets (.apertureCreditRequest port peer ch) ∧ (s.ingest.jobs.any fun j => j.bound == some
      ch) = false :=
  ⟨(Sing [ij]), 3, 4, 7, lets_of_check (by decide), by decide⟩

theorem wit_ApertureWritesAndJobs_1_0 :
    ∃ (s : State) (v : Nat), s.lets (.jobTail v) :=
  ⟨(Sing [ij]), 3, lets_of_check (by decide)⟩

def jb (op src len : Nat) (a : Nat) : List Byte := toLe 1 op ++ toLe 1 src ++ toLe 1 0 ++ toLe 1 5 ++ toLe 2 1 ++ toLe 1 9 ++ toLe 1 0 ++ toLe 8 (if op = 3 then 0 else 0x200000) ++ toLe 8 a ++ toLe 8 len ++ List.replicate 32 0

def Sjb (l : List IngJob) (b : List Byte) : State := ((((Sing l).wr ingPg INGEST.JOB_TAIL_TAIL 1).wrA ingPg INGEST.JOB_BASE_BASE 0x300000).devWrite 0x300000 b)

theorem wit_ApertureWritesAndJobs_1_1_0 :
    ∃ (s : State) (i : Instr) (op h : Nat) (l : List Byte) (r : Nat), (i, op) ∈ [(.jobLoad, 1), (.jobSwap, 2), (.jobExport, 3)] ∧
      s.lets i ∧ s.jobHead = some (h, l) ∧ leAt l 0 1 = op ∧ s.jobReason h l = some r :=
  ⟨(Sjb [ij] (jb 1 1 0 0)), Instr.jobLoad, 1, 0, (jb 1 1 0 0), 2, by decide, lets_of_check (by decide), by decide, by decide, by
    decide⟩

def mb (dest : Nat) (src : Nat) : List Byte := toLe 1 1 ++ toLe 1 0 ++ toLe 1 0 ++ toLe 1 1 ++ toLe 2 0 ++ toLe 2 0 ++ toLe 4 32 ++ toLe 4 256 ++ toLe 8 dest ++ toLe 8 0 ++ toLe 8 0x600000 ++ toLe 8 src ++ List.replicate 80 0

def ij4 : List IngJob := (List.range 4).map (fun i => { ij with idx := 10 + i, model := 10 + i, channel := i })

def Sja (l : List IngJob) (op : Nat) (b : List Byte) : State :=
  let s := ((Sjb l b).devWrite 0x200000 (mb 0x800000 500)).modIng (fun x => { x with manifests := [(5, mb 0x800000 700)] })
  if op = 1 then s else s.wr (mdlPg 5) MDL.STATE 2

theorem wit_ApertureWritesAndJobs_1_1_1 :
    ∃ (s : State) (i : Instr) (op h : Nat) (l : List Byte), (i, op) ∈ [(.jobLoad, 1), (.jobSwap, 2), (.jobExport, 3)] ∧ s.lets i ∧
      s.jobHead = some (h, l) ∧ leAt l 0 1 = op ∧ s.jobReason h l = none ∧ (s.ingest.jobs.all fun k => !s.mayStart k) = true ∧ 4 ≤
      (List.filter (fun k => k.running) s.ingest.jobs).length :=
  ⟨(Sja ij4 1 (jb 1 1 0 0)), Instr.jobLoad, 1, 0, (jb 1 1 0 0), by decide, lets_of_check (by decide), by decide, by decide, by
    decide, by decide, by decide⟩

theorem wit_ApertureWritesAndJobs_1_1_2 :
    ∃ (s : State) (i : Instr) (op h : Nat) (l : List Byte), (i, op) ∈ [(.jobLoad, 1), (.jobSwap, 2), (.jobExport, 3)] ∧ s.lets i ∧
      s.jobHead = some (h, l) ∧ leAt l 0 1 = op ∧ s.jobReason h l = none ∧ s.ingest.jobs = [] ∧ s.rdB ingPg INGEST.CTRL_ENABLE =
      true ∧ op = 1 :=
  ⟨(Sja [] 1 (jb 1 1 0 0)), Instr.jobLoad, 1, 0, (jb 1 1 0 0), by decide, lets_of_check (by decide), by decide, by decide, by
    decide, by decide, by decide, by decide⟩

theorem wit_ApertureWritesAndJobs_1_2 :
    ∃ (s : State) (v : Bool), s.lets (.ingestEnableWrite v) ∧ s.rdB (pciePg 0) PCIE.STAT_DEV_READY = true ∧ (s.ingest.jobs.any fun
      j => j.phase == 0) = false :=
  ⟨((Sing [ij]).wr (pciePg 0) PCIE.STAT_DEV_READY 1), true, lets_of_check (by decide), by decide, by decide⟩

theorem wit_ApertureWritesAndJobs_1_3 :
    ∃ (s : State) (v : Bool), s.lets (.ingestEnableWrite v) ∧ s.rdB (pciePg 0) PCIE.STAT_DEV_READY = false :=
  ⟨(Sing [ij]), true, lets_of_check (by decide), by decide⟩

def xj : IngJob := { ij with op := 3, srcAddr := 2^63 + 2^56 + 2, asking := false, manifest := mb 0x800000 700 }

theorem wit_ApertureWritesAndJobs_1_4_0 :
    ∃ (s : State) (n : Nat) (j : IngJob) (peer ch slots consumed : Nat), s.exporting n = some (j, peer, ch) ∧ s.ingest.jobs = [j] ∧
      s.lets (.apertureCreditMsg n slots consumed) :=
  ⟨(Sing [xj]), 1, xj, 1, 2, 4, 5, by decide, by decide, lets_of_check (by decide)⟩

theorem wit_ApertureWritesAndJobs_1_4_1 :
    ∃ (s : State) (n : Nat) (j : IngJob) (peer ch : Nat), s.exporting n = some (j, peer, ch) ∧ s.ingest.jobs = [j] ∧ s.lets
      (.exportCreditRetry n) ∧ j.asking = false ∧ j.slots = 0 :=
  ⟨(Sing [xj]), 1, xj, 1, 2, by decide, by decide, lets_of_check (by decide), by decide, by decide⟩

theorem wit_ApertureWritesAndJobs_1_4_2 :
    ∃ (s : State) (n : Nat) (j : IngJob) (peer ch : Nat), s.exporting n = some (j, peer, ch) ∧ s.ingest.jobs = [j] ∧ s.lets
      (.exportCreditTimeout n) ∧ j.asking = true :=
  ⟨(Sing [{ xj with asking := true }]), 1, { xj with asking := true }, 1, 2, by decide, by decide, lets_of_check (by decide), by
    decide⟩

def cj : IngJob := { ij with src := 1, pos := 5, srcAddr := 0x1000, srcLen := 1000, manifest := mb 0x800000 700 ++ mb 0x800000 700 }

def ckb : List Byte := [1, 2, 3]

def Sck (bad : Bool) : State := { Sing [cj] with host := S0.host.put 0x1000 (exportChunk cj ckb false) } |> fun s => if bad then { s with host := s.host.put 0x1040 [9] } else s

theorem wit_ChunksLayersAndJobsEnd_0 :
    ∃ (s : State) (n : Nat) (j : IngJob) (body : List Byte) (last : Bool), s.ingest.jobs = [j] ∧ j.idx = n ∧ s.lets (.chunkProcess
      n none) ∧ j.op = 1 ∧ j.phase = 1 ∧ j.layerEnd = false ∧ j.src = 1 ∧ s.rdB ingPg INGEST.CTRL_ENABLE = true ∧ 0 < j.pos ∧
      s.hostRead (j.srcAddr + j.srcPos) 64 = List.take 64 (exportChunk j body last) ∧ s.hostRead (j.srcAddr + j.srcPos + 64)
      body.length = body ∧ s.hostBad (j.srcAddr + j.srcPos) 64 = false ∧ s.hostBad (j.srcAddr + j.srcPos + 64) body.length = false
      ∧ 0 < body.length ∧ body.length ≤ 1048512 ∧ j.srcPos + 64 + body.length ≤ j.srcLen ∧ j.pos + body.length ≤ (j.man
      j.layer).srcBytes ∧ last = (j.layer + 1 == j.layers && j.pos + body.length == (j.man j.layer).srcBytes) ∧ (last = true →
      j.srcPos + roundUp (64 + body.length) 64 = j.srcLen) ∧ j.tag < 256 ∧ j.seq < 2 ^ 32 ∧ j.layer < 65536 ∧ j.pos < 2 ^ 64 :=
  ⟨(Sck false), 1, cj, ckb, false, by decide, by decide, lets_of_check (by decide), by decide, by decide, by decide, by decide, by
    decide, by decide, by decide, by decide, by decide, by decide, by decide, by decide, by decide, by decide, by decide, by
    decide, by decide, by decide, by decide, by decide⟩

theorem wit_ChunksLayersAndJobsEnd_1 :
    ∃ (s : State) (n : Nat) (j : IngJob) (body : List Byte) (last : Bool) (raw : Option (List Byte)), s.ingest.jobs = [j] ∧ j.idx =
      n ∧ s.lets (.chunkProcess n raw) ∧ j.op = 1 ∧ j.phase = 1 ∧ j.layerEnd = false ∧ j.src = 1 ∧ s.rdB ingPg INGEST.CTRL_ENABLE =
      true ∧ 0 < j.pos ∧ s.hostRead (j.srcAddr + j.srcPos) 64 = List.take 64 (exportChunk j body last) ∧ s.hostBad (j.srcAddr +
      j.srcPos) 64 = false ∧ s.hostBad (j.srcAddr + j.srcPos + 64) body.length = false ∧ 0 < body.length ∧ body.length ≤ 1048512 ∧
      j.srcPos + 64 + body.length ≤ j.srcLen ∧ j.pos + body.length ≤ (j.man j.layer).srcBytes ∧ last = (j.layer + 1 == j.layers &&
      j.pos + body.length == (j.man j.layer).srcBytes) ∧ (last = true → j.srcPos + roundUp (64 + body.length) 64 = j.srcLen) ∧
      j.tag < 256 ∧ j.seq < 2 ^ 32 ∧ j.layer < 65536 ∧ j.pos < 2 ^ 64 ∧ crc32 (s.hostRead (j.srcAddr + j.srcPos + 64) body.length)
      ≠ crc32 body :=
  ⟨(Sck true), 1, cj, ckb, false, none, by decide, by decide, lets_of_check (by decide), by decide, by decide, by decide, by
    decide, by decide, by decide, by decide, by decide, by decide, by decide, by decide, by decide, by decide, by decide, by
    decide, by decide, by decide, by decide, by decide, by decide⟩

def lj : IngJob := { cj with layerEnd := true, raw := [] }

def lj0 : IngJob := { lj with manifest := [] }

def outOf (s : State) (j : IngJob) : List TileOut × LayerSums := match s.tileLoads j with | .ok x => x | .error _ => ([], .zero)

theorem wit_ChunksLayersAndJobsEnd_2 :
    ∃ (s : State) (n : Nat) (j : IngJob) (tiles : List TileOut) (x : LayerSums), s.ingest.jobs = [j] ∧ j.idx = n ∧ s.lets
      (.layerComplete n) ∧ j.phase = 1 ∧ j.layerEnd = true ∧ j.op = 1 ∧ j.layer + 1 < j.layers ∧ ((j.man j.layer).arr = 0 ∨
      s.devBad (j.man j.layer).staticList (4 * (j.man j.layer).staticN) = false) ∧ s.tileLoads j = Except.ok (tiles, x) :=
  ⟨(Sing [lj0]), 1, lj0, (outOf (Sing [lj0]) lj0).1, (outOf (Sing [lj0]) lj0).2, by decide, by decide, lets_of_check (by decide),
    by decide, by decide, by decide, by decide, by decide, rfl⟩

theorem wit_ChunksLayersAndJobsEnd_3 :
    ∃ (s : State) (n : Nat) (j : IngJob) (code : Nat), s.ingest.jobs = [j] ∧ j.idx = n ∧ s.lets (.layerComplete n) ∧ j.phase = 1 ∧
      j.layerEnd = true ∧ ((j.man j.layer).arr = 0 ∨ s.devBad (j.man j.layer).staticList (4 * (j.man j.layer).staticN) = false) ∧
      s.tileLoads j = Except.error code :=
  ⟨(Sing [lj]), 1, lj, 0x303E, by decide, by decide, lets_of_check (by decide), by decide, by decide, by decide, rfl⟩

theorem wit_ChunksLayersAndJobsEnd_4 :
    ∃ (s : State) (n : Nat) (j : IngJob), s.ingest.jobs = [j] ∧ j.idx = n ∧ s.lets (.jobEnd n) ∧ j.op = 1 ∧ j.phase = 3 :=
  ⟨(Sing [{ cj with phase := 3 }]), 1, { cj with phase := 3 }, by decide, by decide, lets_of_check (by decide), by decide, by
    decide⟩

theorem wit_ChunksLayersAndJobsEnd_5 :
    ∃ (s : State) (n : Nat) (j : IngJob), s.ingest.jobs = [j] ∧ j.idx = n ∧ s.lets (.jobEnd n) ∧ j.op = 1 ∧ j.phase = 4 ∧
      s.srv.held = [] :=
  ⟨(Sing [{ cj with phase := 4, failCode := 5 }]), 1, { cj with phase := 4, failCode := 5 }, by decide, by decide, lets_of_check
    (by decide), by decide, by decide, by decide⟩

def mw (op : Instr) : Instr := op

def Sm : State := (S0.wr (pciePg 0) PCIE.STAT_DEV_READY 1)

def Sm1 : State := { Sm with dev := (Sm.dev.putWord 8 0x1234 false).setChk 8 0x07 }

def Sm3 : State := { Sm with dev := (Sm.dev.putWord 8 0x1234 false).setChk 8 0x03 }

theorem wit_MemoryIsReadAndWritten_0 :
    ∃ (s : State) (i : Instr) (rq : Requester) (a : Nat) (wr : Option (Nat × Bool)) (v : Nat) (poison : Bool), MemoryInv s ∧ s.lets
      i ∧ s.accesses i rq a wr = true ∧ a < softEnd ∧ s.granuleHeld a = false ∧ wr = some (v, poison) ∧ s.mayAccess rq a true =
      true :=
  ⟨Sm, (.memAccess (.coreCmd 0) 64 (some (7, true))), (.coreCmd 0), 64, (some (7, true)), 7, true, by decide, lets_of_check (by
    decide), by decide, by decide, by decide, by decide, by decide⟩

theorem wit_MemoryIsReadAndWritten_1 :
    ∃ (s : State) (i : Instr) (rq : Requester) (a : Nat) (wr : Option (Nat × Bool)), MemoryInv s ∧ s.lets i ∧ s.accesses i rq a wr
      = true ∧ a < softEnd ∧ s.granuleHeld a = false ∧ wr = none ∧ s.mayAccess rq a false = true ∧ (s.dev.word (a / 8)).fst = 0 :=
  ⟨Sm, (.memAccess (.coreCmd 0) 64 none), (.coreCmd 0), 64, none, by decide, lets_of_check (by decide), by decide, by decide, by
    decide, by decide, by decide, by decide⟩

theorem wit_MemoryIsReadAndWritten_2 :
    ∃ (s : State) (i : Instr) (rq : Requester) (a : Nat) (wr : Option (Nat × Bool)), MemoryInv s ∧ s.lets i ∧ s.accesses i rq a wr
      = true ∧ a < softEnd ∧ s.granuleHeld a = false ∧ wr = none ∧ s.mayAccess rq a false = true ∧ ((s.dev.word (a / 8)).fst = 1 ∨
      (s.dev.word (a / 8)).fst = 2) :=
  ⟨Sm1, (.memAccess (.coreCmd 0) 64 none), (.coreCmd 0), 64, none, by decide, lets_of_check (by decide), by decide, by decide, by
    decide, by decide, by decide, by decide⟩

theorem wit_MemoryIsReadAndWritten_3 :
    ∃ (s : State) (i : Instr) (rq : Requester) (a : Nat) (wr : Option (Nat × Bool)), MemoryInv s ∧ s.lets i ∧ s.accesses i rq a wr
      = true ∧ a < softEnd ∧ s.granuleHeld a = false ∧ wr = none ∧ s.mayAccess rq a false = true ∧ (s.dev.word (a / 8)).fst = 3 :=
  ⟨Sm3, (.memAccess (.bar2 0) 64 none), (.bar2 0), 64, none, by decide, lets_of_check (by decide), by decide, by decide, by decide,
    by decide, by decide, by decide⟩

theorem wit_MemoryIsReadAndWritten_4_0 :
    ∃ (s : State) (i : Instr) (rq : Requester) (a : Nat) (wr : Option (Nat × Bool)) (p : Nat), MemoryInv s ∧ s.lets i ∧ s.accesses
      i rq a wr = true ∧ a < softEnd ∧ s.granuleHeld a = false ∧ s.mayAccess rq a wr.isSome = false ∧ rq = Requester.peer p :=
  ⟨(Sm.wr (plkPg 1) PLK.STAT_STATE 2), (.memAccess (.peer 1) 64 (some (7, false))), (.peer 1), 64, (some (7, false)), 1, by decide,
    lets_of_check (by decide), by decide, by decide, by decide, by decide, by decide⟩

theorem wit_MemoryIsReadAndWritten_4_1 :
    ∃ (s : State) (i : Instr) (rq : Requester) (a : Nat) (wr : Option (Nat × Bool)) (f : Nat), MemoryInv s ∧ s.lets i ∧ s.accesses
      i rq a wr = true ∧ a < softEnd ∧ s.granuleHeld a = false ∧ s.mayAccess rq a wr.isSome = false ∧ rq = Requester.bar2 f ∧ wr =
      none :=
  ⟨S0, (.bar2Access 64 none (some 1)), (.bar2 0), 64, none, 0, by decide, lets_of_check (by decide), by decide, by decide, by
    decide, by decide, by decide, by decide⟩

theorem wit_MemoryIsReadAndWritten_4_2 :
    ∃ (s : State) (i : Instr) (rq : Requester) (a : Nat) (wr : Option (Nat × Bool)) (f : Nat) (v : Nat × Bool), MemoryInv s ∧
      s.lets i ∧ s.accesses i rq a wr = true ∧ a < softEnd ∧ s.granuleHeld a = false ∧ s.mayAccess rq a wr.isSome = false ∧ rq =
      Requester.bar2 f ∧ wr = some v :=
  ⟨S0, (.bar2Access 64 (some (1, true)) (some 1)), (.bar2 0), 64, (some (1, true)), 0, (1, true), by decide, lets_of_check (by
    decide), by decide, by decide, by decide, by decide, by decide, by decide⟩

theorem wit_MemoryIsReadAndWritten_4_3 :
    ∃ (s : State) (i : Instr) (rq : Requester) (a : Nat) (wr : Option (Nat × Bool)), MemoryInv s ∧ s.lets i ∧ s.accesses i rq a wr
      = true ∧ a < softEnd ∧ s.granuleHeld a = false ∧ s.mayAccess rq a wr.isSome = false ∧ rq = Requester.ingestPort :=
  ⟨S0, (.memAccess .ingestPort 64 none), .ingestPort, 64, none, by decide, lets_of_check (by decide), by decide, by decide, by
    decide, by decide, by decide⟩

theorem wit_MemoryIsReadAndWritten_4_4 :
    ∃ (s : State) (i : Instr) (rq : Requester) (a : Nat) (wr : Option (Nat × Bool)) (c t : Nat), MemoryInv s ∧ s.lets i ∧
      s.accesses i rq a wr = true ∧ a < softEnd ∧ s.granuleHeld a = false ∧ s.mayAccess rq a wr.isSome = false ∧ rq =
      Requester.tillerM c t :=
  ⟨(Sm.wr (meshPg 0) (MESH.ROUTE_UNREACHABLE 10) 1), (.memAccess (.tillerM 0 1) 64 none), (.tillerM 0 1), 64, none, 0, 1, by
    decide, lets_of_check (by decide), by decide, by decide, by decide, by decide, by decide⟩

def Ssc : State := ((S0.wr (hbmcPg 0) HBMC.CTRL_SCRUB_EN 1).wr (hbmcPg 0) HBMC.CTRL_CE_THRESH 4)

theorem wit_ControllersScrubRetireAndTest_0_0_0 :
    ∃ (s : State) (st l : Nat), MemoryInv s ∧ s.lets (.scrubLine st) ∧ s.rdB (hbmcPg st) HBMC.CTRL_SCRUB_EN = true ∧ s.held st =
      false ∧ s.rdA (hbmcPg st) HBMC.SCRUB_POS_POS = l ∧ (s.stack st).seekLine l = (l, false) ∧ (∀ (j : Nat), j < 7 → s.dev.chkAt
      (s.dataAddr st l / 8 + (j + 1)) = 0) ∧ mget (s.stack st).tracker 0 (l / 2 ^ 20) + 1 < max 1 (s.rd (hbmcPg st)
      HBMC.CTRL_CE_THRESH) ∧ s.dev.chkAt (s.dataAddr st l / 8) = 0 :=
  ⟨Ssc, 0, 0, by decide, lets_of_check (by decide), by decide, by decide, by decide, by decide, by decide, by decide, by decide⟩

theorem wit_ControllersScrubRetireAndTest_0_0_1 :
    ∃ (s : State) (st l : Nat), MemoryInv s ∧ s.lets (.scrubLine st) ∧ s.rdB (hbmcPg st) HBMC.CTRL_SCRUB_EN = true ∧ s.held st =
      false ∧ s.rdA (hbmcPg st) HBMC.SCRUB_POS_POS = l ∧ (s.stack st).seekLine l = (l, false) ∧ (∀ (j : Nat), j < 7 → s.dev.chkAt
      (s.dataAddr st l / 8 + (j + 1)) = 0) ∧ mget (s.stack st).tracker 0 (l / 2 ^ 20) + 1 < max 1 (s.rd (hbmcPg st)
      HBMC.CTRL_CE_THRESH) ∧ ((s.dev.word (s.dataAddr st l / 8)).fst = 1 ∨ (s.dev.word (s.dataAddr st l / 8)).fst = 2) :=
  ⟨{ Ssc with dev := (Ssc.dev.putWord 0 0x1234 false).setChk 0 0x07 }, 0, 0, by decide, lets_of_check (by decide), by decide, by
    decide, by decide, by decide, by decide, by decide, by decide⟩

theorem wit_ControllersScrubRetireAndTest_0_1 :
    ∃ (s : State) (st g sp : Nat), MemoryInv s ∧ s.lets (.retireCopyDone st) ∧ (s.stack st).copying = some (g, sp) ∧ (s.stack
      st).queue = [] ∧ (s.stack st).heldAcc = [] :=
  ⟨(S0.modStack 0 (fun x => { x with copying := some (3, 1) })), 0, 3, 1, by decide, lets_of_check (by decide), by decide, by
    decide, by decide⟩

theorem wit_ControllersScrubRetireAndTest_0_2_0 :
    ∃ (s : State) (c word : Nat), MemoryInv s ∧ s.lets (.sramPatrol c word) ∧ (s.cstore.word (csBase c / 8 + word)).fst = 0 :=
  ⟨S0, 0, 5, by decide, lets_of_check (by decide), by decide⟩

theorem wit_ControllersScrubRetireAndTest_0_2_1 :
    ∃ (s : State) (c word : Nat), MemoryInv s ∧ s.lets (.sramPatrol c word) ∧ ((s.cstore.word (csBase c / 8 + word)).fst = 1 ∨
      (s.cstore.word (csBase c / 8 + word)).fst = 2) :=
  ⟨{ S0 with cstore := (S0.cstore.putWord 5 0x1234 false).setChk 5 0x07 }, 0, 5, by decide, lets_of_check (by decide), by decide⟩

def Ste : State := (((S0.wr (eccPg 10) ECC.CTRL_TEST_EN 1).wrA (eccPg 10) ECC.TADDR_ADDR 64).wr (eccPg 10) ECC.TDATA 0x55).wr (eccPg 10) ECC.TCTRL_TCHECK 3

theorem wit_ControllersScrubRetireAndTest_1_0_0 :
    ∃ (s : State) (d a : Nat), isHub d = true ∧ s.rdB (eccPg d) ECC.CTRL_TEST_EN = true ∧ s.testTarget d (s.rdA (eccPg d)
      ECC.TADDR_ADDR) = some a ∧ a < tier1End ∧ MemoryInv s ∧ s.lets (.eccTestWrite d) :=
  ⟨Ste, 10, 64, by decide, by decide, by decide, by decide, by decide, lets_of_check (by decide)⟩

theorem wit_ControllersScrubRetireAndTest_1_0_1 :
    ∃ (s : State) (d a : Nat), isHub d = true ∧ s.rdB (eccPg d) ECC.CTRL_TEST_EN = true ∧ s.testTarget d (s.rdA (eccPg d)
      ECC.TADDR_ADDR) = some a ∧ a < tier1End ∧ MemoryInv s ∧ s.lets (.eccTestRead d) :=
  ⟨{ Ste with dev := Sm1.dev }, 10, 64, by decide, by decide, by decide, by decide, by decide, lets_of_check (by decide)⟩

theorem wit_ControllersScrubRetireAndTest_1_1 :
    ∃ (s : State) (d : Nat) (i : Instr), (i = .eccTestWrite d ∨ i = .eccTestRead d) ∧ s.lets i ∧ isHub d = true ∧ s.rdB (eccPg d)
      ECC.CTRL_TEST_EN = false :=
  ⟨S0, 10, (Instr.eccTestWrite 10), by decide, lets_of_check (by decide), by decide, by decide⟩

theorem wit_ControllersScrubRetireAndTest_1_2 :
    ∃ (s : State) (d : Nat) (v : Bool), s.lets (.eccTestEnWrite d v) ∧ isHub d = true ∧ (∀ (j : Nat), j < 3 → (s.stack (3 * hubOrd
      d + j)).queue = []) :=
  ⟨S0, 10, true, lets_of_check (by decide), by decide, by decide⟩

theorem wit_ControllersScrubRetireAndTest_1_3 :
    ∃ (s : State) (st v : Nat), s.lets (.rmapSel st v) :=
  ⟨({ (S0.modStack 3 (fun x => { x with remap := [(1, 77)] })) with power := { S0.power with ended := [7] } }), 3, 1, lets_of_check
    (by decide)⟩

def Sln (r : Bool) : State := ((S0.wr (meshPg 9) MESH.STAT_UP 15).wr (meshPg 10) MESH.STAT_UP 15).modDie 9 (fun x => { x with retraining := if r then [0] else [] })

def Sl2 (r : Bool) : State := ((Sln r).modDie 10 (fun x => { x with retraining := if r then [2] else [] }))

theorem wit_LinksAndRoutes_0 :
    ∃ (s : State) (d p e : Nat), s.lets (.linkRetrain d p) ∧ s.portUp d p = true ∧ neighbour d p = some e :=
  ⟨(Sl2 false), 9, 0, 10, lets_of_check (by decide), by decide, by decide⟩

theorem wit_LinksAndRoutes_1 :
    ∃ (s : State) (d p e : Nat), s.lets (.retrainEnd d p true) ∧ (s.die d).retraining.contains p = true ∧ neighbour d p = some e :=
  ⟨(Sl2 true), 9, 0, 10, lets_of_check (by decide), by decide, by decide⟩

def dt (s : State) (d p a : Nat) : State := (List.range 40).foldl (fun s x => if s.rd (meshPg d) (MESH.ROUTE_PRIMARY x) = p then (s.wr (meshPg d) (MESH.ROUTE_ALT_VALID x) 1).wr (meshPg d) (MESH.ROUTE_ALT x) a else s) (s.wr (meshPg d) MESH.CTRL_ALT_EN 1)

def Slr : State := dt (dt (Sl2 true) 9 0 3) 10 2 1

theorem wit_LinksAndRoutes_2 :
    ∃ (s : State) (d p e : Nat), s.lets (.retrainEnd d p false) ∧ (s.die d).retraining.contains p = true ∧ neighbour d p = some e ∧
      s.detours d p = true ∧ s.detours e ((p + 2) % 4) = true :=
  ⟨Slr, 9, 0, 10, lets_of_check (by decide), by decide, by decide, by decide, by decide⟩

theorem wit_LinksAndRoutes_3 :
    ∃ (s : State) (d p : Nat), s.lets (.laneRepair d p) ∧ s.portUp d p = true :=
  ⟨(Sl2 false), 9, 0, lets_of_check (by decide), by decide⟩

theorem wit_LinksAndRoutes_4 :
    ∃ (s : State) (d dst v : Nat), s.lets (.routeWrite d dst v) ∧ d ≠ dst ∧ s.portUp d (field v 0 2) = true :=
  ⟨(Sl2 false), 9, 3, 0xC1, lets_of_check (by decide), by decide, by decide⟩

def Saw (a : AwnS → AwnS) : State := { S0 with awn := a S0.awn }

theorem wit_SemaphoresAndClaims_0 :
    ∃ (s : State) (sem n : Nat), s.lets (.awnAdd sem n) ∧ (sem, n) ∈ s.awn.adds :=
  ⟨(Saw (fun x => { x with adds := [(0x400, 3)], claims := [⟨7, 0x400, 2⟩] })), 0x400, 3, lets_of_check (by decide), by decide⟩

theorem wit_SemaphoresAndClaims_1 :
    ∃ (s : State) (sem n who : Nat), s.lets (.awnClaim who sem n) ∧ Claim.mk who sem n ∈ s.awn.sent :=
  ⟨(Saw (fun x => { x with sent := [⟨7, 0x400, 2⟩], value := [(0x400, 5)] })), 0x400, 2, 7, lets_of_check (by decide), by decide⟩

theorem wit_SemaphoresAndClaims_2 :
    ∃ (s : State) (sem n who : Nat), s.lets (.awnGrant who) ∧ List.map (fun g => (g.who, g.sem, g.count)) s.awn.grants = [(who,
      sem, n)] ∧ who < 4096 ∧ s.awn.withdrawn.contains who = true :=
  ⟨(Saw (fun x => { x with grants := [⟨7, 0x400, 2⟩], withdrawn := [7] })), 0x400, 2, 7, lets_of_check (by decide), by decide, by
    decide, by decide⟩

theorem wit_SemaphoresAndClaims_3 :
    ∃ (s : State) (sem n who q : Nat), s.lets (.awnGrant (who * 16 + q)) ∧ q < 9 ∧ who < 256 ∧ s.awn.grants = [Claim.mk (who * 16 +
      q) sem n] ∧ s.awn.withdrawn = [] ∧ (s.core who).buf = [] :=
  ⟨(Saw (fun x => { x with grants := [⟨7, 0x400, 2⟩] })), 0x400, 2, 0, 7, lets_of_check (by decide), by decide, by decide, by
    decide, by decide, by decide⟩

theorem wit_SemaphoresAndClaims_4 :
    ∃ (s : State) (sem n who : Nat), s.lets (.claimWithdraw who) ∧ s.awn.withdrawn = [who * 16] ∧ s.awn.sent = [] ∧ s.awn.grants =
      [] ∧ s.awn.claims = [Claim.mk (who * 16) sem n] :=
  ⟨(Saw (fun x => { x with withdrawn := [0], claims := [⟨0, 0x400, 2⟩] })), 0x400, 2, 0, lets_of_check (by decide), by decide, by
    decide, by decide, by decide⟩

theorem wit_SemaphoresAndClaims_5 :
    ∃ (s : State) (n : Nat), s.lets (.semSel n) ∧ 1024 ≤ n % 2048 :=
  ⟨S0, 0x401, lets_of_check (by decide), by decide⟩

theorem wit_SemaphoresAndClaims_6 :
    ∃ (s : State) (n : Nat), s.lets (.semSel n) ∧ n % 2048 < 1024 :=
  ⟨S0, 0x801, lets_of_check (by decide), by decide⟩

theorem wit_SemaphoresAndClaims_7 :
    ∃ (s : State) (n : Nat), s.lets (.semViewWrite n) :=
  ⟨(Saw (fun x => { x with claims := [⟨0, 0x400, 2⟩] })), 2, lets_of_check (by decide)⟩

def ux : StepS :=
  { step := 5, model := 2, shape := 0x100040, cores := [(0, false), (1, false)], gsemBase := 0x400, gsemN := 4, draftSem := 1, tokens := 0x102000, logits := 0x103000, dlogits := 0x104000,
    seqs := [], rounds := 1, round := 0, unsent := [], phase := 0, at0 := 7 }

def r0 : StartRec := ⟨64, 5, 0x400, 4, 2, 3, false⟩

def Sst (x : StepS) : State := (Saw (fun x => { x with value := [(0x400, 5)] })).modSrv (fun y => { y with steps := [x], lastStart := 4 })

theorem wit_StepsStartTogether_0 :
    ∃ (s : State) (n : Nat) (x : StepS), s.stepRec n = some x ∧ s.lets (.stepStartBroadcast n) ∧ x.phase = 0 ∧ (x.cores.all fun k
      => s.coreRoom k.fst) = false :=
  ⟨{ (Sst ux) with flt := { S0.flt with migs := [⟨0, 0, 8, false, 0, 0, 0, []⟩] } }, 5, ux, by decide, lets_of_check (by decide),
    by decide, by decide⟩

theorem wit_StepsStartTogether_1 :
    ∃ (s : State) (n : Nat) (x : StepS), s.stepRec n = some x ∧ s.lets (.stepStartBroadcast n) ∧ s.srv.steps = [x] ∧ s.ingest.jobs
      = [] ∧ s.flt.migs = [] ∧ x.phase = 0 ∧ (x.cores.all fun k => s.coreRoom k.fst) = true ∧ s.awn.claims = [] :=
  ⟨(Sst { ux with unsent := [(0, r0)] }), 5, { ux with unsent := [(0, r0)] }, by decide, lets_of_check (by decide), by decide, by
    decide, by decide, by decide, by decide, by decide⟩

theorem wit_StepsStartTogether_2 :
    ∃ (s : State) (n : Nat) (x : StepS), s.stepRec n = some x ∧ s.lets .sclkZero :=
  ⟨(Sst ux), 5, ux, by decide, lets_of_check (by decide)⟩

def Spl (st : Nat) (l : List Nat) : State := (S0.wr (plkPg 1) PLK.STAT_STATE st).modPort 1 (fun x => { x with badLanes := l })

theorem wit_PeerPortsTrainAndFail_0 :
    ∃ (s : State) (p : Nat), (∀ (h : Nat), h < 4 → s.copies h = []) ∧ s.lets (.plkTrain p false) :=
  ⟨(Spl 0 [3]), 1, by decide, lets_of_check (by decide)⟩

theorem wit_PeerPortsTrainAndFail_1 :
    ∃ (s : State) (p : Nat), (∀ (h : Nat), h < 4 → s.copies h = []) ∧ s.lets (.plkTrain p true) :=
  ⟨(Spl 0 [3]), 1, by decide, lets_of_check (by decide)⟩

theorem wit_PeerPortsTrainAndFail_2_0 :
    ∃ (s : State) (p bad versions peer peerPort : Nat), (∀ (h : Nat), h < 4 → s.copies h = []) ∧ s.lets (.plkTrainDone p bad
      versions peer peerPort) ∧ s.rd (plkPg p) PLK.STAT_STATE = 1 ∧ (bitsOf bad 17).length ≤ 9 ∧ versions &&& s.rd (plkPg p)
      PLK.CAP_VERSIONS ≠ 0 :=
  ⟨(Spl 1 []), 1, 5, 6, 7, 8, by decide, lets_of_check (by decide), by decide, by decide, by decide⟩

theorem wit_PeerPortsTrainAndFail_2_1 :
    ∃ (s : State) (p bad versions peer peerPort : Nat), (∀ (h : Nat), h < 4 → s.copies h = []) ∧ s.lets (.plkTrainDone p bad
      versions peer peerPort) ∧ s.rd (plkPg p) PLK.STAT_STATE = 1 ∧ (9 < (bitsOf bad 17).length ∨ versions &&& s.rd (plkPg p)
      PLK.CAP_VERSIONS = 0) :=
  ⟨(Spl 1 []), 1, 5, 1, 7, 8, by decide, lets_of_check (by decide), by decide, by decide⟩

theorem wit_PeerPortsTrainAndFail_3_0 :
    ∃ (s : State) (p lane : Nat), (∀ (h : Nat), h < 4 → s.copies h = []) ∧ s.lets (.plkLaneError p lane) ∧ s.plkUp p = true ∧
      (s.port p).badLanes = [] ∧ lane < 16 :=
  ⟨(Spl 2 []), 1, 5, by decide, lets_of_check (by decide), by decide, by decide, by decide⟩

theorem wit_PeerPortsTrainAndFail_3_1 :
    ∃ (s : State) (p lane : Nat), (∀ (h : Nat), h < 4 → s.copies h = []) ∧ s.lets (.plkLaneError p lane) ∧ s.plkUp p = true ∧
      (s.port p).badLanes = [] ∧ lane = 16 :=
  ⟨(Spl 2 []), 1, 16, by decide, lets_of_check (by decide), by decide, by decide, by decide⟩

theorem wit_PeerPortsTrainAndFail_3_2 :
    ∃ (s : State) (p lane : Nat), (∀ (h : Nat), h < 4 → s.copies h = []) ∧ s.lets (.plkLaneError p lane) ∧ s.plkUp p = true ∧
      (s.port p).badLanes ≠ [] ∧ (s.port p).badLanes.contains lane = false :=
  ⟨(Spl 2 [3]), 1, 5, by decide, lets_of_check (by decide), by decide, by decide, by decide⟩

theorem wit_PeerPortsTrainAndFail_3_3 :
    ∃ (s : State) (p lane : Nat), (∀ (h : Nat), h < 4 → s.copies h = []) ∧ s.lets (.plkLaneError p lane) ∧ s.plkUp p = true ∧
      (s.port p).badLanes.contains lane = true :=
  ⟨(Spl 2 [3]), 1, 3, by decide, lets_of_check (by decide), by decide, by decide⟩

theorem wit_PeerPortsTrainAndFail_4 :
    ∃ (s : State) (p : Nat), (∀ (h : Nat), h < 4 → s.copies h = []) ∧ s.lets (.plkReplayFailure p) ∧ s.plkUp p = true :=
  ⟨(Spl 2 [3]), 1, by decide, lets_of_check (by decide), by decide⟩

def Spw : State := ((((Spl 2 []).wr (plkPg 1) (PLK.IN_WIN_BASE_VALID 0) 1).wr (plkPg 1) (PLK.IN_WIN_LIMIT_LIMIT 0) 7).devWrite 64 [1,2,3])

theorem wit_PeerRequestsAndRemoteCopies_0_0 :
    ∃ (s : State) (p a : Nat), MemoryInv s ∧ s.plkUp p = true ∧ s.lets (.peerInbound p a none) ∧ s.peerMay p a 64 false = true ∧
      s.dev.chk = [] :=
  ⟨Spw, 1, 64, by decide, by decide, lets_of_check (by decide), by decide, by decide⟩

theorem wit_PeerRequestsAndRemoteCopies_0_1 :
    ∃ (s : State) (p a : Nat) (l : List Byte), MemoryInv s ∧ s.plkUp p = true ∧ s.lets (.peerInbound p a (some (l, []))) ∧
      s.peerMay p a l.length true = true ∧ l ≠ [] ∧ a + l.length ≤ softEnd :=
  ⟨{ Spw with dev := Spw.dev.setChk 8 7 }, 1, 65, [5,6], by decide, by decide, lets_of_check (by decide), by decide, by decide, by
    decide⟩

theorem wit_PeerRequestsAndRemoteCopies_0_2 :
    ∃ (s : State) (p a : Nat) (l : List Byte) (bad : List Nat), MemoryInv s ∧ s.plkUp p = true ∧ s.lets (.peerInbound p a (some (l,
      bad))) ∧ s.peerMay p a l.length true = false ∧ l ≠ [] :=
  ⟨(Spl 2 []), 1, 65, [5,6], [], by decide, by decide, lets_of_check (by decide), by decide, by decide⟩

def rcd (op : Nat) : List Byte := toLe 1 op ++ toLe 1 5 ++ toLe 2 0 ++ toLe 4 1 ++ toLe 8 0x2000 ++ toLe 8 0x3000 ++ toLe 2 0x400 ++ toLe 1 3 ++ List.replicate 37 0

def Src (op : Nat) (up : Bool) : State :=
  let p := rcPg 1
  let s := (((S0.wr p PLK.RC_CFG_ENABLE 1).wr p PLK.RC_CFG_ENTRIES 64).wr p PLK.RC_CFG_DOORBELL_SEM 0x401).wrA p PLK.RC_BASE_BASE 0x1000
  let s := s.devWrite 0x1000 (rcd op)
  let s := if up then (s.wr (plkPg 5) PLK.STAT_STATE 2).wr p (PLK.PEER_MAP_PORTS 5) 32 else s
  { s with awn := { s.awn with grants := [⟨4097, 0x401, 1⟩] } }

theorem wit_PeerRequestsAndRemoteCopies_1_0_0 :
    ∃ (s : State) (h : Nat) (l : List Byte) (r : RCopy), MemoryInv s ∧ s.lets (.rcopyStart h) ∧ s.rdB (rcPg h) PLK.RC_CFG_ENABLE =
      true ∧ s.rd (rcPg h) PLK.RC_CFG_ENTRIES ≠ 0 ∧ s.copies h = [] ∧ s.awn.grants = [Claim.mk (4096 + h) (s.rd (rcPg h)
      PLK.RC_CFG_DOORBELL_SEM) 1] ∧ l = s.devRead (s.rcAddr h (s.rd (rcPg h) PLK.RC_HEAD_HEAD % s.rd (rcPg h) PLK.RC_CFG_ENTRIES))
      64 ∧ s.dev.chk = [] ∧ s.rcAddr h (s.rd (rcPg h) PLK.RC_HEAD_HEAD % s.rd (rcPg h) PLK.RC_CFG_ENTRIES) + 64 ≤ softEnd ∧ r =
      rcopyOf (s.rd (rcPg h) PLK.RC_HEAD_HEAD % s.rd (rcPg h) PLK.RC_CFG_ENTRIES) l ∧ rcFieldsOk r l = true ∧ s.rcMay r.loc (64 *
      r.len64) = true ∧ s.peerUp h r.peer ≠ [] :=
  ⟨(Src 1 true), 1, (rcd 1), (rcopyOf 0 (rcd 1)), by decide, lets_of_check (by decide), by decide, by decide, by decide, by decide,
    by decide, by decide, by decide, by decide, by decide, by decide, by decide⟩

theorem wit_PeerRequestsAndRemoteCopies_1_0_1 :
    ∃ (s : State) (h : Nat) (l : List Byte) (r : RCopy), MemoryInv s ∧ s.lets (.rcopyStart h) ∧ s.rdB (rcPg h) PLK.RC_CFG_ENABLE =
      true ∧ s.rd (rcPg h) PLK.RC_CFG_ENTRIES ≠ 0 ∧ s.copies h = [] ∧ s.awn.grants = [Claim.mk (4096 + h) (s.rd (rcPg h)
      PLK.RC_CFG_DOORBELL_SEM) 1] ∧ l = s.devRead (s.rcAddr h (s.rd (rcPg h) PLK.RC_HEAD_HEAD % s.rd (rcPg h) PLK.RC_CFG_ENTRIES))
      64 ∧ s.dev.chk = [] ∧ s.rcAddr h (s.rd (rcPg h) PLK.RC_HEAD_HEAD % s.rd (rcPg h) PLK.RC_CFG_ENTRIES) + 64 ≤ softEnd ∧ r =
      rcopyOf (s.rd (rcPg h) PLK.RC_HEAD_HEAD % s.rd (rcPg h) PLK.RC_CFG_ENTRIES) l ∧ rcFieldsOk r l = true ∧ s.rcMay r.loc (64 *
      r.len64) = true ∧ s.peerUp h r.peer = [] :=
  ⟨(Src 1 false), 1, (rcd 1), (rcopyOf 0 (rcd 1)), by decide, lets_of_check (by decide), by decide, by decide, by decide, by
    decide, by decide, by decide, by decide, by decide, by decide, by decide, by decide⟩

def Srd (op : Nat) : State := (Src op true).setCopies 1 [rcopyOf 0 (rcd op)]

theorem wit_PeerRequestsAndRemoteCopies_1_1_0 :
    ∃ (s : State) (h k : Nat) (r : RCopy), MemoryInv s ∧ s.copies h = [r] ∧ k = 0 ∧ rcSigOk r = true ∧ s.rcAddr h r.idx + 64 ≤
      softEnd ∧ r.loc % 64 = 0 ∧ s.lets (.rcopyDone h k none) :=
  ⟨(Srd 1), 1, 0, (rcopyOf 0 (rcd 1)), by decide, by decide, by decide, by decide, by decide, by decide, lets_of_check (by decide)⟩

theorem wit_PeerRequestsAndRemoteCopies_1_1_1 :
    ∃ (s : State) (h : Nat) (l : List Byte) (k : Nat) (r : RCopy) (bad : List Nat), MemoryInv s ∧ s.copies h = [r] ∧ k = 0 ∧
      rcSigOk r = true ∧ s.rcAddr h r.idx + 64 ≤ softEnd ∧ r.loc % 64 = 0 ∧ s.lets (.rcopyDone h k (some (l, bad))) ∧ r.op = 2 :=
  ⟨(Srd 2), 1, [], 0, (rcopyOf 0 (rcd 2)), [], by decide, by decide, by decide, by decide, by decide, by decide, lets_of_check (by
    decide), by decide⟩

theorem wit_PeerRequestsAndRemoteCopies_1_1_2 :
    ∃ (s : State) (h : Nat) (l : List Byte) (k : Nat) (r : RCopy), MemoryInv s ∧ s.copies h = [r] ∧ k = 0 ∧ rcSigOk r = true ∧
      s.rcAddr h r.idx + 64 ≤ softEnd ∧ r.loc % 64 = 0 ∧ s.lets (.rcopyDone h k (some (l, []))) ∧ r.op = 1 ∧ l.length = 64 *
      r.len64 ∧ r.loc + l.length ≤ softEnd :=
  ⟨(Srd 1), 1, (List.replicate 64 9), 0, (rcopyOf 0 (rcd 1)), by decide, by decide, by decide, by decide, by decide, by decide,
    lets_of_check (by decide), by decide, by decide, by decide⟩

def Spw2 (f : PowerS → PowerS) : State := { S0 with power := f S0.power }

theorem wit_LinksComeUpAndGoDown_0 :
    ∃ (s : State) (i width rate : Nat), s.lets (.pcieLinkUp i width rate) ∧ s.power.pwrgood = true ∧ (if i = 0 then
      s.power.perstHost || s.power.hostUp else s.power.perstIngest || s.power.ingestUp) = false :=
  ⟨(Spw2 (fun p => { p with pwrgood := true, perstHost := false, hostUp := false, ended := [4] })), 0, 16, 5, lets_of_check (by
    decide), by decide, by decide⟩

theorem wit_LinksComeUpAndGoDown_1 :
    ∃ (s : State) (i : Nat), s.lets (.configRequest i) ∧ (if i = 0 then s.power.hostUp else s.power.ingestUp) = true :=
  ⟨(Spw2 (fun p => { p with ingestUp := true })), 1, lets_of_check (by decide), by decide⟩

theorem wit_LinksComeUpAndGoDown_2 :
    ∃ (s : State), s.lets .ingestLinkDown ∧ s.power.ingestUp = true :=
  ⟨(Spw2 (fun p => { p with ingestUp := true })), lets_of_check (by decide), by decide⟩

theorem wit_LinksComeUpAndGoDown_3 :
    ∃ (s : State), s.lets .hostLinkDown ∧ s.power.hostUp = true ∧ s.srv.seqs = [] ∧ s.srv.held = [] ∧ s.srv.failed = [] :=
  ⟨(Spw2 (fun p => { p with hostUp := true })), lets_of_check (by decide), by decide, by decide, by decide, by decide⟩

theorem wit_LinksComeUpAndGoDown_4_0 :
    ∃ (s : State) (f : Nat), s.lets (.flr f) ∧ s.srv.held = [] ∧ s.srv.failed = [] ∧ s.srv.seqs = [] :=
  ⟨S0, 5, lets_of_check (by decide), by decide, by decide, by decide⟩

theorem wit_LinksComeUpAndGoDown_4_1 :
    ∃ (s : State) (f k : Nat), s.lets (.flr f) ∧ s.srv.held = [] ∧ s.srv.failed = [] ∧ f ≠ 0 ∧ List.filter (fun k => (s.seq k).fn
      == f) s.liveSlots = [k] ∧ s.slotPages k = [] :=
  ⟨(S0.setSeq 9 { Seq.free with state := 2, fn := 5, tenant := 3, handle := 77 }), 5, 9, lets_of_check (by decide), by decide, by
    decide, by decide, by decide, by decide⟩

theorem wit_TimeStreamsCxlAndManagement_0_0 :
    ∃ (s : State) (ns : Nat), s.lets (.ptmDialogue ns) ∧ s.rdB (pciePg 0) PCIE.PTM_CTRL_ENABLE = true ∧ s.power.hostUp = true :=
  ⟨((Spw2 (fun p => { p with hostUp := true, ptm := some (4,5) })).wr (pciePg 0) PCIE.PTM_CTRL_ENABLE 1), 1000, lets_of_check (by
    decide), by decide, by decide⟩

theorem wit_TimeStreamsCxlAndManagement_0_1 :
    ∃ (s : State), s.lets .ptmHostRead :=
  ⟨S0, lets_of_check (by decide)⟩

theorem wit_TimeStreamsCxlAndManagement_0_2 :
    ∃ (s : State) (i k : Nat), s.lets (.ideFail i k) ∧ s.power.ideBad.contains (8 * i + k) = false :=
  ⟨S0, 1, 3, lets_of_check (by decide), by decide⟩

theorem wit_TimeStreamsCxlAndManagement_0_3 :
    ∃ (s : State) (h : Nat), s.lets (.cxlDown h) ∧ s.rdB (cxlPg h) CXL.STAT_UP = true ∧ s.rdB (eccPg 10) ECC.STAT_T2_INTLV = false
      :=
  ⟨(S0.wr (cxlPg 2) CXL.STAT_UP 1), 2, lets_of_check (by decide), by decide, by decide⟩

theorem wit_TimeStreamsCxlAndManagement_1_0 :
    ∃ (s : State) (typ : Nat), s.lets (.mctpRequest typ) :=
  ⟨S0, 5, lets_of_check (by decide)⟩

theorem wit_TimeStreamsCxlAndManagement_1_1 :
    ∃ (s : State) (mgmt : Bool) (op : Nat), s.lets (.spdmRequest mgmt op none) :=
  ⟨S0, true, 5, lets_of_check (by decide)⟩

theorem wit_TimeStreamsCxlAndManagement_1_2 :
    ∃ (s : State) (mgmt : Bool) (op k : Nat), s.lets (.spdmRequest mgmt op (some k)) ∧ s.noImage = false ∧ (op = 0 ∨ s.sec.idOk =
      true) :=
  ⟨(Spw2 (fun p => { p with ideBad := [3, 11] })), true, 0, 3, lets_of_check (by decide), by decide, by decide⟩

theorem wit_TimeStreamsCxlAndManagement_1_3 :
    ∃ (s : State) (ir : Nat), s.lets (.jtagInstruction ir) ∧ (ir < 3 ∨ ir < 6 ∧ s.power.perstHost = true ∨ 6 ≤ ir ∧ s.rdB cfgPg
      CFG2P.DEBUG_UNLOCK_EN = true) :=
  ⟨S0, 2, lets_of_check (by decide), by decide⟩

theorem wit_TimeStreamsCxlAndManagement_1_4 :
    ∃ (s : State) (ir : Nat), s.lets (.jtagInstruction ir) ∧ (3 ≤ ir ∧ ir < 6 ∧ s.power.perstHost = false ∨ 6 ≤ ir ∧ s.rdB cfgPg
      CFG2P.DEBUG_UNLOCK_EN = false) :=
  ⟨S0, 7, lets_of_check (by decide), by decide⟩

theorem wit_RegisterWritesFollowTheirCodes_0_1 :
    ∃ (s : State) (p off w v : Nat), s.frozen = false ∧ s.lets (.registerWrite (4096 * p + off) w v) ∧ off < 4096 ∧ 4096 * p + off
      < 184549376 ∧ blockOf p ∈ [Block.clus, Block.die, Block.cxl, Block.pcie, Block.fltd, Block.therm, Block.clk, Block.sec,
      Block.life] ∧ 32 ≤ off ∧ accessOk (blockOf p) off w = true ∧ s.domainStopped p off = false :=
  ⟨S0, (diePage 3), 0x40, 4, 5, by decide, lets_of_check (by decide), by decide, by decide, by decide, by decide, by decide, by
    decide⟩

theorem wit_RegisterWritesFollowTheirCodes_0_0 :
    ∃ (s : State) (p off w v : Nat) (f : Fld), s.frozen = false ∧ s.lets (.registerWrite (4096 * p + off) w v) ∧ off < 4096 ∧ 4096
      * p + off < 184549376 ∧ blockOf p ∈ [Block.clus, Block.die, Block.cxl, Block.pcie, Block.fltd, Block.therm, Block.clk,
      Block.sec, Block.life] ∧ 32 ≤ off ∧ accessOk (blockOf p) off w = true ∧ s.domainStopped p off = false ∧ f ∈ (blockOf
      p).fields ∧ 8 * off ≤ 8 * f.off + f.lsb ∧ 8 * f.off + f.lsb + f.width ≤ 8 * (off + w) :=
  ⟨S0, (pciePg 0), 0x40, 8, 0xC0000000, PCIE.W2_BASE_BASE, by decide, lets_of_check (by decide), by decide, by decide, by decide,
    by decide, by decide, by decide, by decide, by decide, by decide⟩

theorem wit_RegisterWritesFollowTheirCodes_1 :
    ∃ (s : State) (p v : Nat), s.frozen = false ∧ s.lets (.irqSetWrite p v) ∧ hasHeader (blockOf p) = true ∧ blockOf p ≠ Block.none
      ∧ blockOf p ≠ Block.eng ∧ s.domainStopped p 24 = false :=
  ⟨S0, (meshPg 3), 0x3F, by decide, lets_of_check (by decide), by decide, by decide, by decide, by decide⟩

theorem wit_AccessesAreHeldAndReleased_0 :
    ∃ (s : State) (p off w v : Nat), s.frozen = false ∧ off < 4096 ∧ p < 40960 ∧ p ≠ srvPg ∧ s.lets (.registerWrite (4096 * p +
      off) w v) ∧ 4096 * p + off < 184549376 ∧ blockOf p ≠ Block.none ∧ accessOk (blockOf p) off w = false :=
  ⟨S0, (meshPg 3), 0x40, 2, 5, by decide, by decide, by decide, by decide, lets_of_check (by decide), by decide, by decide, by
    decide⟩

def Sgp : State := S0.modCore 0 (fun x => { x with resetAt := some 0 })

theorem wit_AccessesAreHeldAndReleased_1 :
    ∃ (s : State) (p off w v : Nat), s.frozen = false ∧ off < 4096 ∧ p < 40960 ∧ p ≠ srvPg ∧ s.lets (.registerWrite (4096 * p +
      off) w v) ∧ 4096 * p + off < 184549376 ∧ blockOf p ≠ Block.none ∧ accessOk (blockOf p) off w = true ∧ s.domainStopped p off =
      true ∧ (List.filter (fun h => domainOf h.page == domainOf p) (s.die (pageDie p)).held).length < 4 :=
  ⟨Sgp, (corePg 0), 0x40, 8, 5, by decide, by decide, by decide, by decide, lets_of_check (by decide), by decide, by decide, by
    decide, by decide, by decide⟩

def Shd (e : Bool) (g : Bool) : State := (if g then Sgp else S0).modDie 0 (fun x => { x with held := [⟨corePg 0, 0x40, 8, none, e, 0⟩] })

theorem wit_AccessesAreHeldAndReleased_2 :
    ∃ (s : State) (p off : Nat), s.frozen = false ∧ off < 4096 ∧ p < 40960 ∧ p ≠ srvPg ∧ s.lets (.xingTimeout p) ∧ (∃ h, h ∈ (s.die
      (pageDie p)).held ∧ heldBy (domainOf p) h = true ∧ h.ended = false) :=
  ⟨(Shd false true), (corePg 0), 0, by decide, by decide, by decide, by decide, lets_of_check (by decide), by decide⟩

theorem wit_AccessesAreHeldAndReleased_3 :
    ∃ (s : State) (p off : Nat) (h : HeldAcc), s.frozen = false ∧ off < 4096 ∧ p < 40960 ∧ p ≠ srvPg ∧ s.lets (.crossingRelease p)
      ∧ (s.die (pageDie p)).held = [h] ∧ heldBy (domainOf p) h = true ∧ s.domainStopped h.page h.off = false ∧ blockOf h.page ∈
      [Block.tile, Block.core, Block.eng, Block.attn, Block.chk] ∧ h.value = none :=
  ⟨(Shd false false), (corePg 0), 0, ⟨corePg 0, 0x40, 8, none, false, 0⟩, by decide, by decide, by decide, by decide, lets_of_check
    (by decide), by decide, by decide, by decide, by decide, by decide⟩

def Spo (f : PowerS → PowerS) : State := { S0 with power := f S0.power }

theorem wit_ClocksAndCoreResets_0 :
    ∃ (s : State) (d : Nat), s.lets (.pllUnlock d) ∧ (s.die d).lost = false ∧ (isCompute d = true → s.flt.migs = [] ∧ ∀ (k : Nat),
      k < 4 → s.logicalOf (4 * d + k) = none) :=
  ⟨S0, 10, lets_of_check (by decide), by decide, by decide⟩

theorem wit_ClocksAndCoreResets_1 :
    ∃ (s : State), s.lets .refclkLoss ∧ s.power.refclkLost = false :=
  ⟨S0, lets_of_check (by decide), by decide⟩

theorem wit_ClocksAndCoreResets_2 :
    ∃ (s : State), s.lets .refclkLoss ∧ s.power.refclkLost = true :=
  ⟨(Spo (fun p => { p with refclkLost := true })), lets_of_check (by decide), by decide⟩

theorem wit_ClocksAndCoreResets_3 :
    ∃ (s : State) (c : Nat) (preserve : Bool), s.lets (.coreRstAssert c preserve) ∧ s.rdB (rstPg (c / 4)) (RST.CORE_RST_ASSERT (c %
      4)) = false ∧ (s.flt.migs.any fun m => m.source == c) = false ∧ (∀ (e : Nat), e < 4 → (s.eng c e).rot.phase = RotPhase.idle)
      :=
  ⟨Srun, 0, true, lets_of_check (by decide), by decide, by decide, by decide⟩

def Smg : State := { S0 with flt := { S0.flt with migs := [⟨0, 0, 8, false, 2, 0, 0, []⟩] } }

theorem wit_ClocksAndCoreResets_4 :
    ∃ (s : State) (c : Nat) (preserve : Bool), s.lets (.coreRstAssert c preserve) ∧ s.rdB (rstPg (c / 4)) (RST.CORE_RST_ASSERT (c %
      4)) = false ∧ (s.flt.migs.any fun m => m.source == c) = true :=
  ⟨Smg, 0, true, lets_of_check (by decide), by decide, by decide⟩

theorem wit_ClocksAndCoreResets_5 :
    ∃ (s : State) (c t0 : Nat), s.lets (.coreRstRelease c) ∧ (s.core c).resetAt = some t0 ∧ s.nothingHeld c = true :=
  ⟨(((S0.modCore 1 (fun x => { x with resetAt := some 0 })).wr (rstPg 0) (RST.CORE_RST_ASSERT 1) 1).wr (rstPg 0) RST.STAT_IN_RESET
    2), 1, 0, lets_of_check (by decide), by decide, by decide⟩

theorem wit_PackageResets_0 :
    ∃ (s : State), s.lets (.pwrgoodAssert true true) ∧ s.power.pwrgood = false :=
  ⟨(serve Srun), lets_of_check (by decide), by decide⟩

theorem wit_PackageResets_1 :
    ∃ (s : State) (a b : Bool), s.lets (.pwrgoodAssert a b) ∧ (a = false ∨ b = false ∨ s.power.pwrgood = true) :=
  ⟨S0, true, false, lets_of_check (by decide), by decide⟩

theorem wit_PackageResets_2 :
    ∃ (s : State), s.lets .pwrgoodDeassert ∧ s.power.pwrgood = true :=
  ⟨(Spo (fun p => { p with pwrgood := true, halted := true })), lets_of_check (by decide), by decide⟩

def Sgd : State := Spo (fun p => { p with pwrgood := true, perstHost := false })

theorem wit_PackageResets_3 :
    ∃ (s : State) (i : Instr) (cause : Nat), (i, cause) ∈ [(.perstHostAssert, 1), (.warmReset 1, 1), (.warmReset 2, 2)] ∧ s.lets i
      ∧ s.power.pwrgood = true ∧ s.power.halted = false ∧ s.frozen = false ∧ s.power.perstHost = false :=
  ⟨Sgd, Instr.perstHostAssert, 1, by decide, lets_of_check (by decide), by decide, by decide, by decide, by decide⟩

theorem wit_PackageResets_4 :
    ∃ (s : State), s.lets .perstHostDeassert ∧ s.power.warm = true :=
  ⟨(Spo (fun p => { p with warm := true })), lets_of_check (by decide), by decide⟩

theorem wit_PackageResets_5 :
    ∃ (s : State), s.lets .perstHostDeassert ∧ s.power.warm = false :=
  ⟨S0, lets_of_check (by decide), by decide⟩

theorem wit_PackageResets_6 :
    ∃ (s : State) (v : Bool), s.lets (.perstIngest v) ∧ (v = false ∨ s.power.ingestUp = false) :=
  ⟨S0, true, lets_of_check (by decide), by decide⟩

theorem wit_PackageResets_7 :
    ∃ (s : State), s.lets (.perstIngest true) ∧ s.power.ingestUp = true :=
  ⟨(Spo (fun p => { p with ingestUp := true })), lets_of_check (by decide), by decide⟩

def rr : StageResult := ⟨false, false, true, [], false, [], [], [0], []⟩

def Sup (n : Nat) : State := Spo (fun p => { p with pwrgood := true, started := true, running := [n] })

theorem wit_StartupStagesEnd_0 :
    ∃ (s : State) (n : Nat) (r : StageResult), s.lets (.startupStageEnd n r) ∧ s.power.started = true ∧ s.power.running = [n] ∧
      s.frozen = false ∧ n = 0 :=
  ⟨(Sup 0), 0, rr, lets_of_check (by decide), by decide, by decide, by decide, by decide⟩

theorem wit_StartupStagesEnd_1 :
    ∃ (s : State) (n : Nat) (r : StageResult), s.lets (.startupStageEnd n r) ∧ s.power.started = true ∧ s.power.running = [n] ∧
      s.frozen = false ∧ n = 1 ∧ r.slotAOk = false ∧ r.slotBOk = false :=
  ⟨(Sup 1), 1, rr, lets_of_check (by decide), by decide, by decide, by decide, by decide, by decide, by decide⟩

def rr2 : StageResult := ⟨true, true, true, [], true, [], [], [], []⟩

theorem wit_StartupStagesEnd_2 :
    ∃ (s : State) (n : Nat) (r : StageResult), s.lets (.startupStageEnd n r) ∧ s.power.started = true ∧ s.power.running = [n] ∧
      s.frozen = false ∧ n = 1 ∧ r.slotAOk = true ∧ s.rd secPg SEC.BOOT_PREFER = 0 ∧ s.imagePasses (s.slotImage 0) = true :=
  ⟨{ (Sup 1) with sec := { S0.sec with slotA := some ⟨true, true, 5, false⟩ } }, 1, rr2, lets_of_check (by decide), by decide, by
    decide, by decide, by decide, by decide, by decide, by decide⟩

theorem wit_StartupStagesEnd_3 :
    ∃ (s : State) (n : Nat) (r : StageResult), s.lets (.startupStageEnd n r) ∧ s.power.started = true ∧ s.power.running = [n] ∧
      s.frozen = false ∧ n = 2 :=
  ⟨(Sup 2), 2, rr, lets_of_check (by decide), by decide, by decide, by decide, by decide⟩

theorem wit_StartupStagesEnd_4 :
    ∃ (s : State) (n : Nat) (r : StageResult), s.lets (.startupStageEnd n r) ∧ s.power.started = true ∧ s.power.running = [n] ∧
      s.frozen = false ∧ n = 3 ∧ r.failedSrams = [] :=
  ⟨(Sup 3), 3, rr, lets_of_check (by decide), by decide, by decide, by decide, by decide, by decide⟩

theorem wit_StartupStagesEnd_5 :
    ∃ (s : State) (n : Nat) (r : StageResult), s.lets (.startupStageEnd n r) ∧ s.power.started = true ∧ s.power.running = [n] ∧
      s.frozen = false ∧ n = 4 ∧ r.factoryOk = false :=
  ⟨(Sup 4), 4, rr, lets_of_check (by decide), by decide, by decide, by decide, by decide, by decide⟩

theorem wit_StartupStagesEnd_6 :
    ∃ (s : State) (n : Nat) (r : StageResult), s.lets (.startupStageEnd n r) ∧ s.power.started = true ∧ s.power.running = [n] ∧
      s.frozen = false ∧ n = 4 ∧ r.factoryOk = true :=
  ⟨(Sup 4), 4, rr2, lets_of_check (by decide), by decide, by decide, by decide, by decide, by decide⟩

theorem wit_StartupStagesEnd_7 :
    ∃ (s : State) (n : Nat) (r : StageResult), s.lets (.startupStageEnd n r) ∧ s.power.started = true ∧ s.power.running = [n] ∧
      s.frozen = false ∧ n = 5 ∧ r.downLinks = [] :=
  ⟨(Sup 5), 5, rr, lets_of_check (by decide), by decide, by decide, by decide, by decide, by decide⟩

theorem wit_StartupStagesEnd_8 :
    ∃ (s : State) (n : Nat) (r : StageResult), s.lets (.startupStageEnd n r) ∧ s.power.started = true ∧ s.power.running = [n] ∧
      s.frozen = false ∧ n = 6 ∧ r.bistFailed = [] :=
  ⟨(Sup 6), 6, rr2, lets_of_check (by decide), by decide, by decide, by decide, by decide, by decide⟩

theorem wit_StartupStagesEnd_9 :
    ∃ (s : State) (n : Nat) (r : StageResult), s.lets (.startupStageEnd n r) ∧ s.power.started = true ∧ s.power.running = [n] ∧
      s.frozen = false ∧ n = 7 ∧ r.hbmFailed = [] :=
  ⟨(Sup 7), 7, rr2, lets_of_check (by decide), by decide, by decide, by decide, by decide, by decide⟩

theorem wit_StartupStagesEnd_10 :
    ∃ (s : State) (n : Nat) (r : StageResult), s.lets (.startupStageEnd n r) ∧ s.power.started = true ∧ s.power.running = [n] ∧
      s.frozen = false ∧ n = 7 ∧ r.hbmFailed = [0] :=
  ⟨(Sup 7), 7, rr, lets_of_check (by decide), by decide, by decide, by decide, by decide, by decide⟩

def Sdn_15 : State := allCores.foldl (fun s c => s.modCore c (fun x => { x with retired := true })) (Spo (fun p => { p with started := true, running := [8], ended := [7] }))

theorem wit_StartupStagesEnd_11 :
    ∃ (s : State) (n : Nat) (r : StageResult), s.lets (.startupStageEnd n r) ∧ s.power.started = true ∧ s.power.running = [n] ∧
      s.frozen = false ∧ n = 8 ∧ s.calDone = true ∧ s.power.ended.contains 7 = true :=
  ⟨Sdn_15, 8, rr, lets_of_check (by decide), by decide, by decide, by decide, by decide, by decide, by decide⟩

theorem wit_StartupStagesEnd_12 :
    ∃ (s : State) (n : Nat) (r : StageResult), s.lets (.startupStageEnd n r) ∧ s.power.started = true ∧ s.power.running = [n] ∧
      s.frozen = false ∧ n = 8 ∧ s.calDone = false :=
  ⟨(Sup 8), 8, rr, lets_of_check (by decide), by decide, by decide, by decide, by decide, by decide⟩

def Sn9 : State := { Sdn_15 with power := { Sdn_15.power with running := [9] } }

theorem wit_StartupStagesEnd_13 :
    ∃ (s : State) (n : Nat) (r : StageResult), s.lets (.startupStageEnd n r) ∧ s.power.started = true ∧ s.power.running = [n] ∧
      s.frozen = false ∧ n = 9 :=
  ⟨Sn9, 9, rr, lets_of_check (by decide), by decide, by decide, by decide, by decide⟩

def Se4 (f : PowerS → PowerS) : State := { S0 with power := f { S0.power with ended := [4] } }

theorem wit_HousekeepingAndTheOrderlyStop_0_0 :
    ∃ (s : State), s.lets .hkRoundTrigger ∧ s.power.ended.contains 4 = true :=
  ⟨((Se4 id).wr (hkadcPg 3) HKADC.SCAN 6 |>.modDie 4 (fun x => { x with converting := some (1, false, 0) })), lets_of_check (by
    decide), by decide⟩

def hr : HkReadings := ⟨[], 900, []⟩

theorem wit_HousekeepingAndTheOrderlyStop_0_1 :
    ∃ (s : State) (r : HkReadings), s.lets (.hkDecision r) ∧ s.power.ended.contains 4 = true :=
  ⟨(Se4 id), hr, lets_of_check (by decide), by decide⟩

def Slo : State := (List.range 40).foldl (fun s k => ((s.wr (thermPg k) THERM.STAT_SENSOR_LOSS 1).wr (thermPg k) THERM.STAT_LEVEL 1)) (Se4 id)

theorem wit_HousekeepingAndTheOrderlyStop_0_2 :
    ∃ (s : State) (r : HkReadings), s.lets (.hkDecision r) ∧ s.power.ended.contains 4 = true ∧ r.temps = [] ∧ r.rails = [] ∧
      r.power < 2 ^ 16 ∧ s.power.powerHist = [] ∧ s.power.powerStep = 0 ∧ (∀ (k : Nat), k < 40 → s.validSensors k = [] ∧ (s.die
      k).outRounds = [] ∧ (s.die k).railRounds = []) ∧ (∀ (k : Nat), k < 40 → s.rdB (thermPg k) THERM.STAT_SENSOR_LOSS = true ∧
      s.rd (thermPg k) THERM.STAT_LEVEL = 1) ∧ s.power.hottest = [] :=
  ⟨Slo, hr, lets_of_check (by decide), by decide, by decide, by decide, by decide, by decide, by decide, by decide, by decide, by
    decide⟩

theorem wit_HousekeepingAndTheOrderlyStop_0_3 :
    ∃ (s : State) (d : Nat) (v : Int) (ch : Nat) (sw : Bool) (t0 : Nat), s.lets (.hkadcConversionEnd d v) ∧ (s.die d).converting =
      some (ch, sw, t0) ∧ ch < 32 :=
  ⟨(S0.modDie 4 (fun x => { x with converting := some (1, false, 0), scan := [5] })), 4, 5000, 1, false, 0, lets_of_check (by
    decide), by decide, by decide⟩

theorem wit_HousekeepingAndTheOrderlyStop_0_4 :
    ∃ (s : State), s.lets (.hkadcSwTrig 16) :=
  ⟨(S0.modDie 4 (fun x => { x with converting := some (1, false, 0), scan := [5] })), lets_of_check (by decide)⟩

theorem wit_HousekeepingAndTheOrderlyStop_0_5 :
    ∃ (s : State) (d : Nat), s.lets (.hkadcSwTrig d) ∧ d ≠ 16 :=
  ⟨S0, 4, lets_of_check (by decide), by decide⟩

theorem wit_HousekeepingAndTheOrderlyStop_1_0 :
    ∃ (s : State), s.lets .orderlyDrainEnd ∧ s.power.orderly = 1 :=
  ⟨(Se4 (fun p => { p with orderly := 1 })), lets_of_check (by decide), by decide⟩

theorem wit_HousekeepingAndTheOrderlyStop_1_1 :
    ∃ (s : State), s.lets .orderlyFlushEnd ∧ s.power.orderly = 2 ∧ s.srv.fns = [] ∧ s.flt.wire = [] ∧ (∀ (d : Nat), d < 40 → (s.die
      d).sources = [] ∧ (s.die d).buffer = []) :=
  ⟨(Se4 (fun p => { p with orderly := 2, tripRec := List.replicate 64 7, aborted := 3 })), lets_of_check (by decide), by decide, by
    decide, by decide, by decide⟩

def fr0 (c : Nat) (p : Bool) : FaultRec := { faultRec S0 (meshPg 3) 0x9012 77 0xFFFF none 1 3 with cls := c, polled := p }

def Sfr (c : Nat) (p : Bool) : State := S0.modDie 3 (fun x => { x with sources := [fr0 c p] })

theorem wit_CollectorsTakeRecords_0_0 :
    ∃ (s : State) (d page : Nat) (r : FaultRec) (i : Instr), (s.die d).sources = [r] ∧ r.die = d ∧ (i = .faultRecord d ∧ r.polled =
      false ∨ i = .recordPoll d page ∧ r.polled = true ∧ recFrom page r = true) ∧ s.lets i ∧ r.cls ≠ 0 ∧ s.bufUsed d < 64 :=
  ⟨(Sfr 1 false), 3, (meshPg 3), (fr0 1 false), (Instr.faultRecord 3), by decide, by decide, by decide, lets_of_check (by decide),
    by decide, by decide⟩

theorem wit_CollectorsTakeRecords_0_1 :
    ∃ (s : State) (d page : Nat) (r : FaultRec) (i : Instr), (s.die d).sources = [r] ∧ r.die = d ∧ (i = .faultRecord d ∧ r.polled =
      false ∨ i = .recordPoll d page ∧ r.polled = true ∧ recFrom page r = true) ∧ s.lets i ∧ r.cls = 0 ∧ ((s.die d).buffer.any fun
      x => sameSource x.fst r) = false ∧ s.bufUsed d < 56 :=
  ⟨(Sfr 0 false), 3, (meshPg 3), (fr0 0 false), (Instr.faultRecord 3), by decide, by decide, by decide, lets_of_check (by decide),
    by decide, by decide, by decide⟩

theorem wit_CollectorsTakeRecords_0_2 :
    ∃ (s : State) (d page : Nat) (r : FaultRec) (i : Instr) (x : FaultRec) (t : Nat), (s.die d).sources = [r] ∧ r.die = d ∧ (i =
      .faultRecord d ∧ r.polled = false ∨ i = .recordPoll d page ∧ r.polled = true ∧ recFrom page r = true) ∧ s.lets i ∧ r.cls = 0
      ∧ (s.die d).buffer = [(x, t)] ∧ sameSource x r = true :=
  ⟨((Sfr 0 false).modDie 3 (fun x => { x with buffer := [(fr0 0 false, 4)] })), 3, (meshPg 3), (fr0 0 false), (Instr.faultRecord
    3), (fr0 0 false), 4, by decide, by decide, by decide, lets_of_check (by decide), by decide, by decide, by decide⟩

theorem wit_CollectorsTakeRecords_0_3 :
    ∃ (s : State) (d page : Nat) (r : FaultRec) (i : Instr), (s.die d).sources = [r] ∧ r.die = d ∧ (i = .faultRecord d ∧ r.polled =
      false ∨ i = .recordPoll d page ∧ r.polled = true ∧ recFrom page r = true) ∧ s.lets i ∧ r.cls = 0 ∧ ((s.die d).buffer.any fun
      x => sameSource x.fst r) = false ∧ 56 ≤ s.bufUsed d :=
  ⟨((Sfr 0 false).modDie 3 (fun x => { x with buffer := List.replicate 56 ({ fr0 0 false with code := 1 }, 4) })), 3, (meshPg 3),
    (fr0 0 false), (Instr.faultRecord 3), by decide, by decide, by decide, lets_of_check (by decide), by decide, by decide, by
    decide⟩

theorem wit_CollectorsTakeRecords_1 :
    ∃ (s : State) (d : Nat) (r : FaultRec) (t : Nat) (l : List (FaultRec × Nat)), s.lets (.coalesceExpiry d) ∧ (s.die d).buffer =
      (r, t) :: l :=
  ⟨((Sfr 0 false).modDie 3 (fun x => { x with buffer := [(fr0 0 false, 4)] })), 3, (fr0 0 false), 4, [], lets_of_check (by decide),
    by decide⟩

theorem wit_CollectorsTakeRecords_2 :
    ∃ (s : State) (d page : Nat) (i : Instr), (i = .classLineStuck d page ∨ i = .recordWaitTimeout d page ∧ s.bufUsed d < 64) ∧
      s.lets i ∧ page < srvPg ∧ pageDie page = d ∧ blockOf page ≠ Block.none ∧ (s.die d).polledSrc.contains page = false :=
  ⟨S0, 3, (meshPg 3), (Instr.classLineStuck 3 (meshPg 3)), by decide, lets_of_check (by decide), by decide, by decide, by decide,
    by decide⟩

def Slg_17 (c : Nat) : State := { S0 with flt := { S0.flt with wire := [fr0 c false] } }

theorem wit_TheLogIsKept_0_0 :
    ∃ (s : State) (r : FaultRec) (l : List FaultRec), s.lets .faultLog ∧ s.flt.wire = r :: l ∧ r.cls = 0 ∧ (s.rd fltPg
      FLT.LOG_TAIL_TAIL + 1) % 4096 ≠ s.rd fltPg FLT.LOG_HEAD_HEAD :=
  ⟨(Slg_17 0), (fr0 0 false), [], lets_of_check (by decide), by decide, by decide, by decide⟩

theorem wit_TheLogIsKept_0_1 :
    ∃ (s : State) (r : FaultRec) (l : List FaultRec), s.lets .faultLog ∧ s.flt.wire = r :: l ∧ r.cls = 0 ∧ (s.rd fltPg
      FLT.LOG_TAIL_TAIL + 1) % 4096 = s.rd fltPg FLT.LOG_HEAD_HEAD :=
  ⟨((Slg_17 0).wr fltPg FLT.LOG_TAIL_TAIL 4095), (fr0 0 false), [], lets_of_check (by decide), by decide, by decide, by decide⟩

theorem wit_TheLogIsKept_0_2 :
    ∃ (s : State) (r : FaultRec) (l : List FaultRec), s.lets .faultLog ∧ s.flt.wire = r :: l ∧ r.cls = 1 ∧ (s.rd fltPg
      FLT.LOG_TAIL_TAIL + 1) % 4096 ≠ s.rd fltPg FLT.LOG_HEAD_HEAD ∧ s.flt.migs = [] :=
  ⟨(Slg_17 1), (fr0 1 false), [], lets_of_check (by decide), by decide, by decide, by decide, by decide⟩

theorem wit_TheLogIsKept_0_3 :
    ∃ (s : State) (r : FaultRec) (l : List FaultRec), s.lets .faultLog ∧ s.flt.wire = r :: l ∧ r.cls = 2 ∧ (s.rd fltPg
      FLT.LOG_TAIL_TAIL + 1) % 4096 ≠ s.rd fltPg FLT.LOG_HEAD_HEAD :=
  ⟨(Slg_17 2), (fr0 2 false), [], lets_of_check (by decide), by decide, by decide, by decide⟩

def Sl1 (c : Nat) : State := { S0.wr fltPg FLT.LOG_TAIL_TAIL 6 with flt := { S0.flt with log := [(5, fr0 c false)] } }

theorem wit_TheLogIsKept_1 :
    ∃ (s : State) (r : FaultRec) (i : Nat), s.lets (.containmentComplete r.seqno) ∧ s.flt.log = [(i, r)] ∧ r.cls = 1 ∧ r.contained
      = false :=
  ⟨(Sl1 1), (fr0 1 false), 5, lets_of_check (by decide), by decide, by decide, by decide⟩

theorem wit_TheLogIsKept_2_0 :
    ∃ (s : State) (v : Nat), s.lets (.logHeadWrite v) ∧ s.flt.dropped = 0 ∧ (v % 4096 + 4096 - s.rd fltPg FLT.LOG_HEAD_HEAD) % 4096
      ≤ s.logIdx.length ∧ s.rd fltPg FLT.LOG_HEAD_HEAD < 4096 ∧ ((List.take ((v % 4096 + 4096 - s.rd fltPg FLT.LOG_HEAD_HEAD) %
      4096) s.logIdx).all fun i => Option.all (fun x => x.cls != 1 || x.contained) (mfind s.flt.log i)) = true :=
  ⟨(Sl1 0), 6, lets_of_check (by decide), by decide, by decide, by decide, by decide⟩

theorem wit_TheLogIsKept_2_1 :
    ∃ (s : State) (v i : Nat), s.lets (.logHeadWrite v) ∧ s.flt.dropped = 0 ∧ (v % 4096 + 4096 - s.rd fltPg FLT.LOG_HEAD_HEAD) %
      4096 ≤ s.logIdx.length ∧ s.rd fltPg FLT.LOG_HEAD_HEAD < 4096 ∧ List.find? (fun i => Option.any (fun x => x.cls == 1 &&
      !x.contained) (mfind s.flt.log i)) (List.take ((v % 4096 + 4096 - s.rd fltPg FLT.LOG_HEAD_HEAD) % 4096) s.logIdx) = some i :=
  ⟨(Sl1 1), 6, 5, lets_of_check (by decide), by decide, by decide, by decide, by decide⟩

theorem wit_TheLogIsKept_3 :
    ∃ (s : State) (r : FaultRec) (i : Nat), s.lets (.logSel i) ∧ mfind s.flt.log (i % 4096) = some r :=
  ⟨(Sl1 1), (fr0 1 false), 5, lets_of_check (by decide), by decide⟩

theorem wit_TheLogIsKept_4 :
    ∃ (s : State), s.lets .compatQuietEnd ∧ s.rdB fltPg FLT.STAT_F_ACTIVE = true ∧ s.rdB fltPg FLT.CTRL_COMPAT = true ∧ s.rdB fltPg
      FLT.STAT_LATCHED = false ∧ s.flt.fCode ≠ 49171 ∧ s.flt.fCode ≠ 0 ∧ s.power.halted = false :=
  ⟨({ S0.wr fltPg FLT.STAT_F_ACTIVE 1 |>.wr fltPg FLT.CTRL_COMPAT 1 with flt := { S0.flt with fCode := 9 } }), lets_of_check (by
    decide), by decide, by decide, by decide, by decide, by decide, by decide⟩

def Spw2_18 (f : PowerS → PowerS) : State := { S0 with power := f S0.power }

def Spc : State := (S0.wr fltPg (FLT.CORE_REDIR_VALID 5) 1).wr fltPg (FLT.CORE_REDIR_PHYS 5) 9

def Spool : State := { Spc with flt := { S0.flt with pool := [12, 16] } }

def fit (s : State) (c : Nat) : State := (List.range 68).foldl (fun s i => s.wr (tilePg c (i / 17) (i % 17)) TILE.STAT_IN_SERVICE 1) s

theorem wit_MigrationsMoveACore_0 :
    ∃ (s : State) (l : Nat), s.lets (.migReq l) ∧ s.frozen = false ∧ s.rdB fltPg (FLT.CORE_REDIR_VALID l) = false :=
  ⟨S0, 5, lets_of_check (by decide), by decide, by decide⟩

theorem wit_MigrationsMoveACore_1 :
    ∃ (s : State) (l : Nat), s.lets (.migReq l) ∧ s.frozen = false ∧ s.rdB fltPg (FLT.CORE_REDIR_VALID l) = true ∧ s.logicalOf
      (s.physOfCore l) = some l ∧ s.flt.migs = [] ∧ (s.core (s.physOfCore l)).pend = [] :=
  ⟨Spc, 5, lets_of_check (by decide), by decide, by decide, by decide, by decide, by decide⟩

def mg (ph : Nat) : Mig := ⟨5, 9, if ph = 1 then 0 else 12, false, ph, 2, 0, []⟩

def Smv (ph : Nat) : State := { (fit Spool 12) with flt := { Spool.flt with migs := [mg ph] } }

theorem wit_MigrationsMoveACore_2 :
    ∃ (s : State) (l : Nat) (m : Mig) (t : Nat), s.lets (.migMoveStart l) ∧ s.flt.migs = [m] ∧ m.logical = l ∧ m.phase = 1 ∧
      m.rebuild = false ∧ s.rd (corePg m.source) CORE.STAT_STATE = 0 ∧ (s.core m.source).resetAt = none ∧ s.chooseTarget m.source =
      some t ∧ (∀ (e : Nat), e < 4 → (s.eng t e).rot.phase = RotPhase.idle) ∧ s.flt.testing = [] :=
  ⟨(Smv 1), 5, (mg 1), 12, lets_of_check (by decide), by decide, by decide, by decide, by decide, by decide, by decide, by decide,
    by decide, by decide⟩

theorem wit_MigrationsMoveACore_3 :
    ∃ (s : State) (l : Nat) (m : Mig), s.lets (.migCopyDone l) ∧ s.flt.migs = [m] ∧ m.logical = l ∧ m.phase = 2 :=
  ⟨{ (Smv 2) with cstore := S0.cstore.put (csBase 9) [1,2,3] }, 5, (mg 2), lets_of_check (by decide), by decide, by decide, by
    decide⟩

theorem wit_MigrationsMoveACore_4 :
    ∃ (s : State) (l : Nat) (m : Mig) (i : Instr), (i = .migBanksDone l ∧ m.phase = 3 ∨ i = .rebuildReloadEnd l ∧ m.phase = 4 ∧
      m.left = []) ∧ s.lets i ∧ s.flt.migs = [m] ∧ m.logical = l ∧ m.trigger = 2 ∧ (s.core m.source).resetWaits = false ∧ m.source
      ≠ m.target :=
  ⟨(Smv 3), 5, (mg 3), (Instr.migBanksDone 5), by decide, lets_of_check (by decide), by decide, by decide, by decide, by decide, by
    decide⟩

theorem wit_MigrationsMoveACore_5 :
    ∃ (s : State) (l v : Nat), s.lets (.coreRedirWrite l v) ∧ s.flt.migs = [] :=
  ⟨S0, 5, (2^31 + 7), lets_of_check (by decide), by decide⟩

theorem wit_MigrationsMoveACore_6 :
    ∃ (s : State) (l v : Nat), s.lets (.coreRedirWrite l v) ∧ s.flt.migs ≠ [] :=
  ⟨(Smv 3), 5, (2^31 + 7), lets_of_check (by decide), by decide⟩

theorem wit_CoresAreTestedAndFolded_0_0 :
    ∃ (s : State) (c : Nat), s.lets (.testDue c) ∧ s.rdB fltPg FLT.TEST_CTRL_EN = true ∧ (s.core c).retired = false ∧ s.flt.testing
      = [] ∧ s.assigned c = false :=
  ⟨S0, 9, lets_of_check (by decide), by decide, by decide, by decide, by decide⟩

def Sas : State := (((Spc.wr (mdlPg 2) MDL.STATE 2).wr (mdlPg 2) MDL.SHAPES 0x100000).devWrite 0x100000 (toLe 1 1 ++ toLe 1 1)).devWrite 0x100040 (toLe 2 16 ++ toLe 2 1 ++ toLe 2 0x400 ++ toLe 1 4 ++ toLe 1 0xFF ++ toLe 8 3 ++ toLe 8 0x101000 ++ toLe 8 0x102000 ++ toLe 8 0x103000 ++ toLe 8 0x104000) |>.devWrite 0x101000 (toLe 2 5 ++ toLe 2 0 ++ toLe 4 0 ++ toLe 8 0x200000 ++ toLe 8 0x105000)

theorem wit_CoresAreTestedAndFolded_0_1 :
    ∃ (s : State) (c : Nat), s.lets (.testDue c) ∧ s.rdB fltPg FLT.TEST_CTRL_EN = true ∧ (s.core c).retired = false ∧
      s.flt.testing.contains c = false ∧ s.assigned c = true ∧ (s.core c).deferredAt = none ∧ s.migrating c = false ∧ s.rd fltPg
      FLT.TEST_CTRL_DEFER_MAX ≠ 0 :=
  ⟨Sas, 9, lets_of_check (by decide), by decide, by decide, by decide, by decide, by decide, by decide, by decide⟩

theorem wit_CoresAreTestedAndFolded_0_2 :
    ∃ (s : State) (c : Nat), s.lets (.testDeferExpiry c) ∧ (s.core c).deferredAt.isSome = true ∧ s.assigned c = false ∧
      s.flt.testing = [] :=
  ⟨(S0.modCore 9 (fun x => { x with deferredAt := some 0 })), 9, lets_of_check (by decide), by decide, by decide, by decide⟩

def Stt : State := { fit S0 9 with flt := { S0.flt with testing := [9] } }

theorem wit_CoresAreTestedAndFolded_0_3 :
    ∃ (s : State) (c : Nat), s.lets (.testDone c true []) ∧ s.flt.testing = [c] ∧ s.logicalOf c = none ∧ (∀ (e : Nat), e < 4 →
      s.engineFits c e = true) ∧ s.flt.pool.contains c = false :=
  ⟨Stt, 9, lets_of_check (by decide), by decide, by decide, by decide, by decide⟩

theorem wit_CoresAreTestedAndFolded_0_4 :
    ∃ (s : State) (c : Nat), s.lets (.testDone c false []) ∧ s.flt.testing = [c] ∧ s.logicalOf c = none :=
  ⟨Stt, 9, lets_of_check (by decide), by decide, by decide⟩

theorem wit_CoresAreTestedAndFolded_1_0 :
    ∃ (s : State), s.lets .lifetimeFold ∧ s.power.pwrgood = true ∧ s.power.halted = false :=
  ⟨({ (Spw2_18 (fun p => { p with pwrgood := true })) with flt := { S0.flt with retiredLog := [(1,2,3,4,5)] } }), lets_of_check (by
    decide), by decide, by decide⟩

theorem wit_CoresAreTestedAndFolded_1_1 :
    ∃ (s : State), s.lets .lifetimeFold ∧ s.power.pwrgood = false ∧ s.power.started = true :=
  ⟨(Spw2_18 (fun p => { p with started := true })), lets_of_check (by decide), by decide, by decide⟩

theorem wit_CoresAreTestedAndFolded_1_2 :
    ∃ (s : State), s.lets .nvmDataRead ∧ s.power.halted = false :=
  ⟨(S0.wr lifePg LIFE.NVM_ADDR_ADDR 3), lets_of_check (by decide), by decide⟩

theorem wit_CoresAreTestedAndFolded_1_3 :
    ∃ (s : State), s.lets .nvmDataRead ∧ s.power.halted = true :=
  ⟨(Spw2_18 (fun p => { p with halted := true })), lets_of_check (by decide), by decide⟩

def Sap (r : Option (List Byte)) : State := { S0 with sec := { S0.sec with applying := r } }

theorem wit_ChangeRecordsAndFirmwareSlots_0_0 :
    ∃ (s : State) (mgmt : Bool), s.lets (.cfg2pCommit mgmt) ∧ s.frozen = false ∧ s.sec.applying.isSome = true :=
  ⟨(Sap (some [])), true, lets_of_check (by decide), by decide, by decide⟩

theorem wit_ChangeRecordsAndFirmwareSlots_0_1 :
    ∃ (s : State) (mgmt : Bool), s.lets (.cfg2pCommit mgmt) ∧ s.frozen = false ∧ s.sec.applying = none ∧ s.rd cfgPg
      CFG2P.REC_LEN_LEN < 64 :=
  ⟨S0, true, lets_of_check (by decide), by decide, by decide, by decide⟩

def rec0 : List Byte := toLe 1 1 ++ toLe 1 0 ++ toLe 2 1 ++ toLe 8 1 ++ List.replicate 52 0 ++ (toLe 1 1 ++ toLe 1 3 ++ List.replicate 6 0 ++ toLe 8 0 ++ toLe 8 1 ++ toLe 8 1) ++ List.replicate 6624 0

def Scm : State := ({ (S0.wr cfgPg CFG2P.REC_LEN_LEN rec0.length).wrA cfgPg CFG2P.REC_ADDR_ADDR 0x1000 with dev := S0.dev.put 0x1000 rec0 })

theorem wit_ChangeRecordsAndFirmwareSlots_0_2 :
    ∃ (s : State) (mgmt : Bool) (r : List Byte), s.lets (.cfg2pCommit mgmt) ∧ s.frozen = false ∧ s.sec.applying = none ∧ 64 ≤ s.rd
      cfgPg CFG2P.REC_LEN_LEN ∧ s.rd cfgPg CFG2P.REC_LEN_LEN ≤ 16384 ∧ s.rdA cfgPg CFG2P.REC_ADDR_ADDR + s.rd cfgPg
      CFG2P.REC_LEN_LEN ≤ softEnd ∧ s.dev.chk = [] ∧ s.power.cxlDown = [] ∧ r = s.devRead (s.rdA cfgPg CFG2P.REC_ADDR_ADDR) (s.rd
      cfgPg CFG2P.REC_LEN_LEN) ∧ headerFormat r = true ∧ firstItem r (itemFormat r) = none :=
  ⟨Scm, true, rec0, lets_of_check (by decide), by decide, by decide, by decide, by decide, by decide,
    (Store.read_put (st := S0.dev) rfl rfl 0x1000 rec0).1, by decide,
    (Store.read_put (st := S0.dev) rfl rfl 0x1000 rec0).2.symm, by decide, by decide⟩

theorem wit_ChangeRecordsAndFirmwareSlots_0_3 :
    ∃ (s : State), s.lets .cfg2pApply ∧ s.sec.applying = none :=
  ⟨S0, lets_of_check (by decide), by decide⟩

def recS : List Byte := rec0.take 100

theorem wit_ChangeRecordsAndFirmwareSlots_0_4 :
    ∃ (s : State) (r : List Byte) (x : ChangeItem) (f : Fld), s.lets .cfg2pApply ∧ s.frozen = false ∧ s.sec.applying = some r ∧
      leAt r 1 1 = 0 ∧ itemsOf r = [x] ∧ x.target = 1 ∧ f ∈ blockProt Block.ten ∧ 8 * x.addr ≤ 8 * f.off + f.lsb ∧ s.srv.held = []
      ∧ s.srv.failed = [] ∧ s.srv.seqs = [] :=
  ⟨(Sap (some recS)), recS, (itemAt recS 0), TEN.ENABLE, lets_of_check (by decide), by decide, by decide, by decide, by decide, by
    decide, by decide, by decide, by decide, by decide, by decide⟩

theorem wit_ChangeRecordsAndFirmwareSlots_1_0 :
    ∃ (s : State) (x : FwImage), s.lets (.fwSlotWrite x) ∧ s.power.halted = false ∧ s.rdB cfgPg CFG2P.FW_UPDATE_EN_EN = true :=
  ⟨(S0.wr cfgPg CFG2P.FW_UPDATE_EN_EN 1), ⟨true, true, 3, false⟩, lets_of_check (by decide), by decide, by decide⟩

theorem wit_ChangeRecordsAndFirmwareSlots_1_1 :
    ∃ (s : State) (x : FwImage), s.lets (.fwSlotWrite x) ∧ s.power.halted = false ∧ s.rdB cfgPg CFG2P.FW_UPDATE_EN_EN = false :=
  ⟨S0, ⟨true, true, 3, false⟩, lets_of_check (by decide), by decide, by decide⟩

theorem wit_StepRunsTheFrontCommand_0 :
    ∃ (s : State) (i : Instr) (l : List Instr), s.pending = i :: l :=
  ⟨{ S0 with pending := [.nop 0, .nop 1] }, (.nop 0), [.nop 1], by decide⟩

theorem wit_StepRunsTheFrontCommand_1 :
    ∃ (s : State), s.pending = [] :=
  ⟨S0, by decide⟩

theorem wit_WellFormedCommandsExecute_0 :
    ∃ (i : Instr), i.wf = true :=
  ⟨(.nop 0), by decide⟩

theorem wit_WellFormedCommandsExecute_1 :
    ∃ (i : Instr), i.wf = false :=
  ⟨(.nop 40), by decide⟩

theorem wit_ComputeBankKeepsItsSliceBit_0 :
    ∃ (s : State) (c e t v : Nat), s.lets (.tileCfgWrite c e t v) ∧ bit v (3 + s.computeBank c e t) ≠ s.rdB (tilePg c e t) (sliceF
      (s.computeBank c e t)) :=
  ⟨S0, 0, 0, 0, 0x8, lets_of_check (by decide), by decide⟩

theorem wit_ComputeBankKeepsItsSliceBit_1 :
    ∃ (s : State) (c e t v : Nat), s.lets (.tileCfgWrite c e t v) ∧ bit v (3 + s.computeBank c e t) = s.rdB (tilePg c e t) (sliceF
      (s.computeBank c e t)) :=
  ⟨S0, 0, 0, 0, 0x10, lets_of_check (by decide), by decide⟩

theorem wit_EmptySlotsReadZeroAndDiscardWrites_0 :
    ∃ (s : State) (p off w v : Nat), s.frozen = false ∧ blockOf p = Block.none ∧ off < 4096 ∧ 4096 * p + off < 184549376 ∧ s.lets
      (.registerWrite (4096 * p + off) w v) :=
  ⟨S0, 40970, 0x40, 4, 7, by decide, by decide, by decide, by decide, lets_of_check (by decide)⟩

end Sys2Proof.Tests.Witnesses
end

section
/-! PROOFS. Register fields: where they lie, what they reset to, what an access reads and stores; then the frames of all commands
and the reset state. Settles O54, O36, O50, O48. -/

namespace Sys2Proof.Machine

/-! ### Bits of fields and of sums -/

theorem testBit_field (v l w i : Nat) : (field v l w).testBit i = (decide (i < w) && v.testBit (l + i)) := by
  simp [field, Nat.testBit_mod_two_pow]

/-- Two numbers without a common bit add up to their bitwise or. -/
theorem add_eq_or_of_no_common_bit {a b : Nat} (h : a &&& b = 0) : a + b = a ||| b := by
  have hlt : a + b < 2 ^ (a + b) := Nat.lt_two_pow_self
  have ha : a < 2 ^ (a + b) := by omega
  have hb : b < 2 ^ (a + b) := by omega
  have hand : BitVec.ofNat (a + b) a &&& BitVec.ofNat (a + b) b = 0#(a + b) := by
    rw [← BitVec.ofNat_and, h]
  have hsum := congrArg BitVec.toNat (BitVec.add_eq_or_of_and_eq_zero _ _ hand)
  simpa [Nat.mod_eq_of_lt, ha, hb, hlt] using hsum

/-! ### Where a field lies (R406, R409) -/

/-- The first bit of a field, counted from the start of its page. -/
def fldStart (f : Fld) : Nat := 8 * f.off + f.lsb

/-- Bit `k` of the page lies in the field. -/
def FldHolds (f : Fld) (k : Nat) : Prop := fldStart f ≤ k ∧ k < fldStart f + f.width

/-- One of two fields ends before the other begins. -/
def FldsApart (f g : Fld) : Prop := fldStart f + f.width ≤ fldStart g ∨ fldStart g + g.width ≤ fldStart f

/-- A field has a bit, lies in its page of 4 KiB, and its Reset value fits it. -/
def FldFits (f : Fld) : Prop := 0 < f.width ∧ fldStart f + f.width ≤ 32768 ∧ f.reset < 2 ^ f.width

/-- Check a list of fields in one pass: each fits, and takes bits of the page that `taken` and the fields before it leave free. -/
def layoutOk (taken : Nat) : List Fld → Bool
  | [] => true
  | f :: l =>
    decide (0 < f.width) && decide (fldStart f + f.width ≤ 32768) && decide (f.reset < 2 ^ f.width)
      && field taken (fldStart f) f.width == 0 && layoutOk (taken ||| (2 ^ f.width - 1) <<< fldStart f) l

/-- Every block's map passes the check. -/
theorem layoutOk_fieldsOf (b : Block) : layoutOk 0 (fieldsOf b) = true := by
  cases b <;> decide +kernel

theorem fldsApart_symm : Std.Symm FldsApart := ⟨fun _ _ => Or.symm⟩

/-- Two fields that hold no bit in common are apart. -/
theorem fldsApart_of_no_common_bit {f g : Fld} (hf : 0 < f.width) (hg : 0 < g.width) (h : ∀ k, FldHolds f k → ¬ FldHolds g k) :
    FldsApart f g := by
  unfold FldHolds at h
  unfold FldsApart
  have hstart := h (max (fldStart f) (fldStart g))
  omega

theorem testBit_fldMask (f : Fld) (k : Nat) : ((2 ^ f.width - 1) <<< fldStart f).testBit k = true ↔ FldHolds f k := by
  simp only [Nat.testBit_shiftLeft, Nat.testBit_two_pow_sub_one, Bool.and_eq_true, decide_eq_true_eq, FldHolds]
  omega

/-- What the check says: the fields are apart, each fits, and none holds a bit taken before. -/
theorem layout_of_layoutOk {l : List Fld} {taken : Nat} (h : layoutOk taken l = true) :
    l.Pairwise FldsApart ∧ (∀ f ∈ l, FldFits f) ∧ ∀ f ∈ l, ∀ k, FldHolds f k → taken.testBit k = false := by
  induction l generalizing taken with
  | nil => simp
  | cons f l ih =>
    simp only [layoutOk, Bool.and_eq_true, decide_eq_true_eq, beq_iff_eq] at h
    obtain ⟨⟨⟨⟨hwidth, hpage⟩, hreset⟩, hfree⟩, hrest⟩ := h
    obtain ⟨hapart, hfits, htaken⟩ := ih hrest
    simp only [Nat.testBit_or, Bool.or_eq_false_iff] at htaken
    refine ⟨List.pairwise_cons.2 ⟨fun g hg => ?_, hapart⟩, List.forall_mem_cons.2 ⟨⟨hwidth, hpage, hreset⟩, hfits⟩,
      List.forall_mem_cons.2 ⟨fun k hk => ?_, fun g hg k hk => (htaken g hg k hk).1⟩⟩
    · refine fldsApart_of_no_common_bit hwidth (hfits g hg).1 fun k hf hk => ?_
      simpa [(testBit_fldMask f k).2 hf] using (htaken g hg k hk).2
    · have hbit := congrArg (fun v => v.testBit (k - fldStart f)) hfree
      obtain ⟨hlo, hhi⟩ := hk
      simpa [testBit_field, show k - fldStart f < f.width by omega, Nat.add_sub_cancel' hlo] using hbit

theorem fieldsOf_apart (b : Block) : (fieldsOf b).Pairwise FldsApart := (layout_of_layoutOk (layoutOk_fieldsOf b)).1

theorem fieldsOf_fit {b : Block} {f : Fld} (hf : f ∈ fieldsOf b) : FldFits f := (layout_of_layoutOk (layoutOk_fieldsOf b)).2.1 f hf

/-- A bit of the page lies in one field at most. -/
theorem fldHolds_unique {b : Block} {f g : Fld} {k : Nat} (hf : f ∈ fieldsOf b) (hg : g ∈ fieldsOf b) (hkf : FldHolds f k)
    (hkg : FldHolds g k) : f = g := by
  by_contra hne
  have := fldsApart_symm
  have hapart := (fieldsOf_apart b).forall hf hg hne
  unfold FldsApart at hapart
  unfold FldHolds at hkf hkg
  omega

/-! ### Values that the position fixes (R12, R47, R287, R337, R406, R414) -/

theorem coreSlot_inst_lt {x : Nat} (hx : x < 768) : (coreSlot x).2 < 256 := by
  unfold coreSlot
  dsimp only
  repeat' split
  all_goals dsimp only; omega

theorem hubOrd_lt (d : Nat) : hubOrd d < 4 := by
  unfold hubOrd
  repeat' split
  all_goals omega

/-- The number of a page among those of its block fits its 8 bits of HDR.ID. -/
theorem pageOf_inst_lt (p : Nat) : (pageOf p).2 < 256 := by
  have hhub := hubOrd_lt (p / 1024)
  have hslot : (coreSlot (p % 1024 - 0x100)).2 < 256 := coreSlot_inst_lt (by omega)
  unfold pageOf
  dsimp only
  repeat' with_reducible refine iteInduction (motive := fun x : Block × Nat => x.2 < 256) (fun _ => ?_) (fun _ => ?_)
  all_goals first | with_reducible exact hslot | (dsimp only; omega)

theorem blockCode_lt (b : Block) : b.code < 256 := by cases b <;> decide

/-- DIE pages lie in the range of the dies, below the global pages. -/
theorem lt_srvPg_of_die {p : Nat} : blockOf p = .die → p < srvPg := by
  unfold blockOf pageOf
  dsimp only
  repeat' with_reducible refine iteInduction (motive := fun x : Block × Nat => x.1 = .die → p < srvPg) (fun _ => ?_) (fun _ => ?_)
  all_goals first | exact fun _ => Nat.lt_of_not_le ‹¬ srvPg ≤ p› | simp

theorem toBit_le_one (b : Bool) : toBit b ≤ 1 := by cases b <;> decide

theorem toBit_lt {n : Nat} (b : Bool) (h : 0 < n) : toBit b < 2 ^ n :=
  Nat.lt_of_le_of_lt (toBit_le_one b) (Nat.one_lt_two_pow (by omega))

theorem xyPrimary_lt (s d : Nat) : xyPrimary s d < 4 := by
  unfold xyPrimary portX portY
  repeat' split
  all_goals omega

theorem xyAlt_lt (s d : Nat) : xyAlt s d < 4 := by
  unfold xyAlt portX portY
  repeat' split
  all_goals omega

/-- ROUTE's two port numbers have at least two bits. -/
theorem two_le_width_of_route : ∀ f ∈ fieldsOf .mesh, 0x100 ≤ f.off ∧ f.off < 0x1A0 → f.lsb = 4 ∨ f.lsb = 0 → 2 ≤ f.width := by
  decide +kernel

theorem lt_pow_width {f : Fld} {v : Nat} (hv : v < 4) (hw : 2 ≤ f.width) : v < 2 ^ f.width :=
  Nat.lt_of_lt_of_le hv (Nat.pow_le_pow_right (n := 2) (by decide) hw)

theorem dieRole_lt (d : Nat) : dieRole d < 4 := by
  unfold dieRole
  repeat' split
  all_goals omega

theorem posReset_die_lt {p : Nat} {f : Fld} (hb : blockOf p = .die) (hf : f ∈ fieldsOf .die) (hid : f ≠ HDR.ID) :
    posReset p f < 2 ^ f.width := by
  obtain ⟨hwidth, -, hreset⟩ := fieldsOf_fit hf
  have hdie : p / 1024 < 40 := by
    have := lt_srvPg_of_die hb
    simp only [srvPg] at this
    omega
  unfold posReset
  rw [if_neg hid, hb]
  dsimp only
  split
  · next h => rw [h, show DIE.INFO_INDEX.width = 8 from rfl]; omega
  split
  · next h => rw [h, show DIE.INFO_X.width = 3 from rfl]; omega
  split
  · next h => rw [h, show DIE.INFO_Y.width = 3 from rfl]; omega
  split
  · next h => rw [h]; exact dieRole_lt _
  split
  · exact toBit_lt _ hwidth
  · exact hreset

theorem posReset_mesh_lt {p : Nat} {f : Fld} (hb : blockOf p = .mesh) (hf : f ∈ fieldsOf .mesh) (hid : f ≠ HDR.ID) :
    posReset p f < 2 ^ f.width := by
  obtain ⟨hwidth, -, hreset⟩ := fieldsOf_fit hf
  unfold posReset
  rw [if_neg hid, hb]
  dsimp only
  split
  · next hroute =>
    split
    · exact toBit_lt _ hwidth
    split
    · next h => exact lt_pow_width (xyAlt_lt _ _) (two_le_width_of_route f hf hroute (.inl h))
    split
    · exact toBit_lt _ hwidth
    split
    · next h => exact lt_pow_width (xyPrimary_lt _ _) (two_le_width_of_route f hf hroute (.inr h))
    · exact hreset
  split
  · next h =>
    have hw : f.width = 4 := by rcases h with rfl | rfl <;> rfl
    rw [hw]
    have h0 := toBit_le_one (decide (p / 1024 % 8 < 7))
    have h1 := toBit_le_one (decide (p / 1024 / 8 < 4))
    have h2 := toBit_le_one (decide (0 < p / 1024 % 8))
    have h3 := toBit_le_one (decide (0 < p / 1024 / 8))
    omega
  · exact hreset

theorem posReset_clk_lt {p : Nat} {f : Fld} (hb : blockOf p = .clk) (hf : f ∈ fieldsOf .clk) (hid : f ≠ HDR.ID) :
    posReset p f < 2 ^ f.width := by
  unfold posReset
  rw [if_neg hid, hb]
  dsimp only
  split
  · next h =>
    rw [h.1, show CLK.GATED.width = 64 from rfl]
    have := toBit_le_one (decide (p / 1024 = 10 ∨ p / 1024 = 29))
    omega
  · exact (fieldsOf_fit hf).2.2

theorem posReset_id_lt (p : Nat) : posReset p HDR.ID < 2 ^ HDR.ID.width := by
  have hcode := blockCode_lt (blockOf p)
  have hinst := pageOf_inst_lt p
  rw [posReset, if_pos rfl, show HDR.ID.width = 32 from rfl]
  omega

/-- The value that a field's position or the Reset column gives it fits the field. -/
theorem posReset_lt {p : Nat} {f : Fld} (hf : f ∈ fieldsOf (blockOf p)) : posReset p f < 2 ^ f.width := by
  by_cases hid : f = HDR.ID
  · exact hid ▸ posReset_id_lt p
  have hreset := (fieldsOf_fit hf).2.2
  cases hb : blockOf p
  case die => exact posReset_die_lt hb (hb ▸ hf) hid
  case mesh => exact posReset_mesh_lt hb (hb ▸ hf) hid
  case clk => exact posReset_clk_lt hb (hb ▸ hf) hid
  case tile =>
    rw [posReset, if_neg hid, hb]
    dsimp only
    split
    · exact Nat.two_pow_pos _
    · exact hreset
  all_goals
    rw [posReset, if_neg hid, hb]
    exact hreset

/-! ### What a read returns (R12, R409) -/

/-- The bits that field `f` with value `v` contributes to an access at `off`: its own, where the page has them. -/
theorem testBit_fldPart (f : Fld) (off v i : Nat) :
    (fldPart f off v).testBit i = true ↔ FldHolds f (8 * off + i) ∧ v.testBit (8 * off + i - fldStart f) = true := by
  have hpart : fldPart f off v = if 8 * off ≤ fldStart f then (v % 2 ^ f.width) <<< (fldStart f - 8 * off)
      else (v % 2 ^ f.width) >>> (8 * off - fldStart f) := rfl
  rw [hpart, FldHolds]
  split
  · simp only [Nat.testBit_shiftLeft, Nat.testBit_mod_two_pow, Bool.and_eq_true, decide_eq_true_eq]
    constructor
    · rintro ⟨hge, hlt, hbit⟩
      rw [show i - (fldStart f - 8 * off) = 8 * off + i - fldStart f by omega] at hlt hbit
      exact ⟨by omega, hbit⟩
    · rintro ⟨hhold, hbit⟩
      rw [show i - (fldStart f - 8 * off) = 8 * off + i - fldStart f by omega]
      exact ⟨by omega, by omega, hbit⟩
  · simp only [Nat.testBit_shiftRight, Nat.testBit_mod_two_pow, Bool.and_eq_true, decide_eq_true_eq]
    rw [show 8 * off - fldStart f + i = 8 * off + i - fldStart f by omega]
    exact and_congr_left fun _ => by omega

/-- The sum of fields that are apart has the bits of its parts: no bit is carried. -/
theorem testBit_foldl_fldPart (off : Nat) (val : Fld → Nat) {l : List Fld} (hl : l.Pairwise FldsApart) {a : Nat}
    (ha : ∀ f ∈ l, ∀ i, FldHolds f (8 * off + i) → a.testBit i = false) (i : Nat) :
    (l.foldl (fun a f => a + fldPart f off (val f)) a).testBit i = true
      ↔ a.testBit i = true ∨ ∃ f ∈ l, (fldPart f off (val f)).testBit i = true := by
  induction l generalizing a with
  | nil => simp
  | cons f l ih =>
    obtain ⟨hf, hl⟩ := List.pairwise_cons.1 hl
    obtain ⟨haf, hal⟩ := List.forall_mem_cons.1 ha
    have hsum : a + fldPart f off (val f) = a ||| fldPart f off (val f) := by
      refine add_eq_or_of_no_common_bit (Nat.eq_of_testBit_eq fun j => ?_)
      rw [Nat.testBit_and, Nat.zero_testBit, Bool.and_eq_false_iff]
      by_contra hboth
      simp only [not_or, Bool.not_eq_false] at hboth
      simp [haf j ((testBit_fldPart ..).1 hboth.2).1] at hboth
    rw [List.foldl_cons, hsum, ih hl fun g hg j hj => ?_]
    · simp only [Nat.testBit_or, Bool.or_eq_true, List.exists_mem_cons_iff, or_assoc]
    · rw [Nat.testBit_or, hal g hg j hj, Bool.false_or]
      by_contra hbit
      obtain ⟨hhold, -⟩ := (testBit_fldPart ..).1 (Bool.not_eq_false _ ▸ hbit)
      have hapart := hf g hg
      unfold FldsApart at hapart
      unfold FldHolds at hhold hj
      omega

/-- A bit of the value read is 1 exactly where a field holds it and reads 1 there. -/
theorem testBit_regValue (s : State) (p off w : Nat) {i : Nat} (hi : i < 8 * w) :
    (s.regValue p off w).testBit i = true
      ↔ ∃ f ∈ fieldsOf (blockOf p), FldHolds f (8 * off + i) ∧ (s.view p f).testBit (8 * off + i - fldStart f) = true := by
  rw [State.regValue, show 256 ^ w = 2 ^ (8 * w) from (Nat.pow_mul 2 8 w).symm, Nat.testBit_mod_two_pow, decide_eq_true hi,
    Bool.true_and, testBit_foldl_fldPart off _ ((fieldsOf_apart _).filter _) (by simp)]
  simp only [Nat.zero_testBit, Bool.false_eq_true, false_or, List.mem_filter, testBit_fldPart]
  constructor
  · rintro ⟨f, ⟨hf, -⟩, h⟩
    exact ⟨f, hf, h⟩
  · rintro ⟨f, hf, h⟩
    refine ⟨f, ⟨hf, ?_⟩, h⟩
    obtain ⟨⟨hlo, hhi⟩, -⟩ := h
    unfold fldStart at hlo hhi
    simp only [fldInside, Bool.and_eq_true, decide_eq_true_eq]
    omega

/-- Settles O54: the maps pass the layout check, and the bits of a value read are those of the fields that hold them. -/
theorem fieldsAreDisjointAndTheRestReadsZero : Obligations.FieldsAreDisjointAndTheRestReadsZero := by
  unfold Obligations.FieldsAreDisjointAndTheRestReadsZero
  refine fun p => ⟨fieldsOf_apart _, fun f hf => ⟨(fieldsOf_fit hf).1, (fieldsOf_fit hf).2.1, posReset_lt hf⟩,
    fun s off w i _ hi hfree => ?_, fun s off w j _ f hf hj hlo hhi => ?_⟩
  · by_contra hbit
    obtain ⟨f, hf, ⟨hlo, hhi⟩, -⟩ := (testBit_regValue s p off w hi).1 (by simpa using hbit)
    have := hfree f hf
    unfold fldStart at hlo hhi
    omega
  · have hat : 8 * off + (8 * f.off + f.lsb + j - 8 * off) = fldStart f + j := by
      unfold fldStart
      omega
    have hhold : FldHolds f (fldStart f + j) := ⟨by omega, by omega⟩
    rw [Bool.eq_iff_iff, testBit_regValue s p off w (by omega), hat]
    constructor
    · rintro ⟨g, hg, hhold', hbit⟩
      obtain rfl := fldHolds_unique hf hg hhold hhold'
      simpa using hbit
    · exact fun hbit => ⟨f, hf, hhold, by simpa using hbit⟩

/-! ### What an access stores in one field (R9 to R11) -/

/-- The value that an access stores in a field, none where it leaves the field alone. -/
def State.stored (s : State) (p off w v : Nat) (f : Fld) : Option Nat :=
  let cur := s.rd p f
  let n := fldNew f off w v cur
  if absent p f then none
  else match f.acc with
    | .rw => if s.writable p f n then some n else none
    | .w1c => some (cur ^^^ (cur &&& fldNew f off w v 0))
    | .w1s => some (cur ||| n)
    | .rwLk => if n = cur ∨ s.locked p f = true then none else some n
    | _ => none

theorem writeField_fst (s : State) (p off w v : Nat) (a : State × Bool) (f : Fld) :
    (s.writeField p off w v a f).1 = (s.stored p off w v f).elim a.1 (a.1.wr p f) := by
  unfold State.writeField State.stored
  dsimp only
  split
  · rfl
  · cases f.acc with
    | rw =>
      dsimp only
      split <;> rfl
    | rwLk =>
      dsimp only
      by_cases hsame : fldNew f off w v (s.rd p f) = s.rd p f
      · simp [hsame]
      · cases hlock : s.locked p f <;> simp [hsame]
    | _ => rfl

theorem fkey_eq (p : Nat) (f : Fld) : fkey p f = 32768 * p + fldStart f := by
  unfold fkey fldStart
  omega

theorem fkey_page {p : Nat} {f : Fld} (hf : FldFits f) : fkey p f / 32768 = p := by
  obtain ⟨hwidth, hpage, -⟩ := hf
  rw [fkey_eq]
  omega

theorem fkey_ne_of_apart {p : Nat} {f g : Fld} (hf : 0 < f.width) (hg : 0 < g.width) (h : FldsApart f g) : fkey p f ≠ fkey p g := by
  unfold FldsApart at h
  rw [fkey_eq, fkey_eq]
  omega

section fold
variable (s : State) (p off w v : Nat)

theorem rd_foldl_writeField_other {g : Fld} {l : List Fld} (hg : ∀ f ∈ l, fkey p g ≠ fkey p f) (a : State × Bool) :
    (l.foldl (s.writeField p off w v) a).1.rd p g = a.1.rd p g := by
  induction l generalizing a with
  | nil => rfl
  | cons f l ih =>
    obtain ⟨hf, hl⟩ := List.forall_mem_cons.1 hg
    rw [List.foldl_cons, ih hl, writeField_fst]
    cases s.stored p off w v f with
    | none => rfl
    | some x => exact rd_wr_other _ _ _ _ _ _ hf

theorem rd_foldl_writeField_mem {g : Fld} {l : List Fld} (hl : l.Pairwise fun f g => fkey p f ≠ fkey p g) (hg : g ∈ l)
    {a : State × Bool} (ha : a.1.rd p g = s.rd p g) :
    (l.foldl (s.writeField p off w v) a).1.rd p g = (s.stored p off w v g).elim (s.rd p g) (· % 2 ^ g.width) := by
  induction l generalizing a with
  | nil => simp at hg
  | cons f l ih =>
    obtain ⟨hf, hl⟩ := List.pairwise_cons.1 hl
    rw [List.foldl_cons]
    rcases List.mem_cons.1 hg with rfl | hmem
    · rw [rd_foldl_writeField_other s p off w v hf, writeField_fst]
      cases s.stored p off w v g with
      | none => exact ha
      | some x => exact rd_wr_same _ _ _ _
    · refine ih hl hmem ?_
      rw [writeField_fst, ← ha]
      cases s.stored p off w v f with
      | none => rfl
      | some x => exact rd_wr_other _ _ _ _ _ _ (hf g hmem).symm

theorem pagesKept_foldl_writeField {l : List Fld} (hl : ∀ f ∈ l, FldFits f) {t : State} {a : State × Bool}
    (ha : PagesKept [p] t a.1) : PagesKept [p] t (l.foldl (s.writeField p off w v) a).1 := by
  induction l generalizing a with
  | nil => exact ha
  | cons f l ih =>
    obtain ⟨hf, hl⟩ := List.forall_mem_cons.1 hl
    refine ih hl ?_
    rw [writeField_fst]
    cases s.stored p off w v f with
    | none => exact ha
    | some x => exact ha.wr p f x (by simp [fkey_page hf])

end fold

/-! ### The fields of a page with a header -/

theorem fieldsOf_eq {b : Block} (h : hasHeader b = true) :
    fieldsOf b = [HDR.ID, HDR.IRQ_STAT, HDR.IRQ_EN, HDR.IRQ_SET, HDR.ERR_CNT] ++ b.fields := if_pos h

section header
variable {b : Block} (h : hasHeader b = true)
include h

theorem mem_fieldsOf {f : Fld} (hf : f ∈ b.fields) : f ∈ fieldsOf b := by
  rw [fieldsOf_eq h]
  exact List.mem_append_right _ hf

theorem fields_fit {f : Fld} (hf : f ∈ b.fields) : FldFits f := fieldsOf_fit (mem_fieldsOf h hf)

theorem fields_fkey_pairwise (p : Nat) : b.fields.Pairwise fun f g => fkey p f ≠ fkey p g := by
  have hapart := fieldsOf_apart b
  rw [fieldsOf_eq h] at hapart
  refine (List.pairwise_append.1 hapart).2.1.imp_of_mem fun hf hg hfg => ?_
  exact fkey_ne_of_apart (fields_fit h hf).1 (fields_fit h hg).1 hfg

theorem fkey_ne_errCnt (p : Nat) {f : Fld} (hf : f ∈ b.fields) : fkey p f ≠ fkey p HDR.ERR_CNT := by
  have hapart := fieldsOf_apart b
  rw [fieldsOf_eq h] at hapart
  have herr := (List.pairwise_append.1 hapart).2.2 HDR.ERR_CNT (by simp) f hf
  exact (fkey_ne_of_apart (by decide) (fields_fit h hf).1 herr).symm

end header

/-! ### A write that acts through its fields alone -/

/-- A block whose every register past the header is written through its fields alone. -/
abbrev ActsByFields (b : Block) : Prop := b ∈ [Block.clus, .die, .cxl, .pcie, .fltd, .therm, .clk, .sec, .life]

section plain
variable {p : Nat} (h : ActsByFields (blockOf p))
include h

theorem hasHeader_of_actsByFields : hasHeader (blockOf p) = true :=
  (by decide : ∀ b, ActsByFields b → hasHeader b = true) _ h

theorem writeBlock_of_actsByFields (s : State) (off w v : Nat) : s.writeBlock p off w v = s.writeGen p off w v := by
  simp only [ActsByFields, List.mem_cons, List.not_mem_nil, or_false] at h
  unfold State.writeBlock
  rcases h with h | h | h | h | h | h | h | h | h <;> rw [h]

theorem writable_of_actsByFields (s : State) (f : Fld) (n : Nat) : s.writable p f n = true := by
  simp only [ActsByFields, List.mem_cons, List.not_mem_nil, or_false] at h
  unfold State.writable
  rcases h with h | h | h | h | h | h | h | h | h <;> rw [h]

theorem ne_srvPg_of_actsByFields : p ≠ srvPg := by
  rintro rfl
  exact absurd h (by decide)

end plain

/-- Counting a refusal, and holding the count to one per access, leave every other field. -/
theorem rd_capErr_writeGen (s : State) (p off w v : Nat) {q : Nat} {g : Fld} (hq : errPage p = q)
    (hg : fkey p g ≠ fkey q HDR.ERR_CNT) :
    (s.capErr (s.writeGen p off w v) q).rd p g = (s.writeFields p (blockOf p).fields off w v).1.rd p g := by
  have hgen : (s.writeGen p off w v).rd p g = (s.writeFields p (blockOf p).fields off w v).1.rd p g := by
    unfold State.writeGen
    dsimp only
    split
    · rw [State.refuse, hq, rd_wr_other _ _ _ _ _ _ hg]
    · rfl
  rw [← hgen]
  unfold State.capErr
  dsimp only
  split
  · exact rd_wr_other _ _ _ _ _ _ hg
  · rfl

theorem pagesKept_capErr_writeGen (s : State) {p : Nat} (off w v : Nat) (h : hasHeader (blockOf p) = true) :
    PagesKept [p] s (s.capErr (s.writeGen p off w v) p) := by
  have herr : fkey p HDR.ERR_CNT / 32768 ∈ [p] := by
    rw [fkey_page (fieldsOf_fit (b := blockOf p) (by simp [fieldsOf_eq h]))]
    exact List.mem_singleton_self p
  have hfields : PagesKept [p] s (s.writeFields p (blockOf p).fields off w v).1 :=
    pagesKept_foldl_writeField s p off w v (fun f hf => fields_fit h (List.mem_filter.1 hf).1) (PagesKept.refl _ _)
  have hgen : PagesKept [p] s (s.writeGen p off w v) := by
    unfold State.writeGen
    dsimp only
    split
    · rw [State.refuse, errPage, if_pos h]
      exact hfields.wr _ _ _ herr
    · exact hfields
  unfold State.capErr
  dsimp only
  split
  · exact hgen.wr _ _ _ herr
  · exact hgen

/-- What a field of the page reads after an access whose write acts through its fields. -/
theorem rd_capErr_writeGen_field (s : State) (p off w v : Nat) (h : hasHeader (blockOf p) = true) {f : Fld}
    (hf : f ∈ (blockOf p).fields) :
    (s.capErr (s.writeGen p off w v) p).rd p f
      = if fldInside f off w then (s.stored p off w v f).elim (s.rd p f) (· % 2 ^ f.width) else s.rd p f := by
  have hdistinct := fields_fkey_pairwise h p
  rw [rd_capErr_writeGen s p off w v (if_pos h) (fkey_ne_errCnt h p hf), State.writeFields]
  split
  · next hin => exact rd_foldl_writeField_mem s p off w v (hdistinct.filter _) (List.mem_filter.2 ⟨hf, hin⟩) rfl
  · next hout =>
    refine rd_foldl_writeField_other s p off w v (fun g hg => ?_) (s, false)
    obtain ⟨hmem, hin⟩ := List.mem_filter.1 hg
    have : Std.Symm fun f g : Fld => fkey p f ≠ fkey p g := ⟨fun _ _ => Ne.symm⟩
    exact hdistinct.forall hf hmem fun he => hout (he ▸ hin)

/-! ### An access that reaches its register (R402, R408) -/

theorem subPage_eq_self (s : State) {p off : Nat} (h : p ≠ srvPg ∨ off < 0x180) : s.subPage p off = (p, off) := by
  unfold State.subPage
  split
  · rfl
  · rw [if_neg (by omega), if_neg (by omega), if_neg (by omega)]

/-- A write of the register's width to a page that exists and whose clock runs is performed. -/
theorem regAccess_write (s : State) (host : Bool) {p off w : Nat} (v : Nat) (hs : s.frozen = false) (hsub : p ≠ srvPg ∨ off < 0x180)
    (hb : blockOf p ≠ .none) (hok : accessOk (blockOf p) off w = true) (hrun : s.domainStopped p off = false) :
    s.regAccess host p off w (some v) = s.writeReg p off w v := by
  simp [State.regAccess, State.perform, subPage_eq_self s hsub, hs, hb, hok, hrun]

/-- A write of BAR0 below the windows of the functions is an access of its page. -/
theorem registerWriteEffect_page (s : State) {p off : Nat} (w v : Nat) (hoff : off < 4096) (haddr : 4096 * p + off < 0x0B000000) :
    registerWriteEffect s (4096 * p + off) w v = s.regAccess true p off w (some v) := by
  rw [registerWriteEffect, if_pos (by omega), if_neg (by omega), show (4096 * p + off) / 4096 = p by omega,
    show (4096 * p + off) % 4096 = off by omega]

/-- A register write to a page that acts through its fields stores them and counts what it refuses. -/
theorem exec_registerWrite_fields {s : State} {p off w v : Nat} (hs : s.frozen = false)
    (hlets : s.lets (.registerWrite (4096 * p + off) w v))
    (hoff : off < 4096) (haddr : 4096 * p + off < 0x0B000000) (hb : ActsByFields (blockOf p)) (hhdr : 0x20 ≤ off)
    (hok : accessOk (blockOf p) off w = true) (hrun : s.domainStopped p off = false) :
    exec (.registerWrite (4096 * p + off) w v) s = .next (s.capErr (s.writeGen p off w v) p) := by
  have hnone : blockOf p ≠ .none := by
    intro he
    rw [he] at hb
    exact absurd hb (by decide)
  calc exec (.registerWrite (4096 * p + off) w v) s
      = onWf s (.registerWrite (4096 * p + off) w v) (registerWriteEffect s (4096 * p + off) w v) := rfl
    _ = .next (s.writeReg p off w v) := by
        rw [onWf_of_lets hlets, registerWriteEffect_page s w v hoff haddr,
          regAccess_write s true v hs (.inl (ne_srvPg_of_actsByFields hb)) hnone hok hrun]
    _ = .next (s.capErr (s.writeGen p off w v) p) := by
        rw [State.writeReg, if_neg (by omega), writeBlock_of_actsByFields hb, errPage, if_pos (hasHeader_of_actsByFields hb)]

/-- What an access stores in a field it holds whole, by the field's code (R9). -/
theorem stored_of_actsByFields (s : State) {p off w v : Nat} {f : Fld} (hb : ActsByFields (blockOf p))
    (hlo : 8 * off ≤ 8 * f.off + f.lsb) (hhi : 8 * f.off + f.lsb + f.width ≤ 8 * (off + w)) :
    (f.acc = .rw → absent p f = false → s.stored p off w v f = some (field v (8 * f.off + f.lsb - 8 * off) f.width))
    ∧ (f.acc = .r ∨ f.acc = .rw2p ∨ absent p f = true → s.stored p off w v f = none)
    ∧ (f.acc = .w1s → absent p f = false →
        s.stored p off w v f = some (s.rd p f ||| field v (8 * f.off + f.lsb - 8 * off) f.width)) := by
  have hnew (cur : Nat) : fldNew f off w v cur = field v (8 * f.off + f.lsb - 8 * off) f.width := if_pos ⟨hlo, hhi⟩
  unfold State.stored
  dsimp only
  rw [hnew]
  refine ⟨fun hacc habs => ?_, fun hkeep => ?_, fun hacc habs => ?_⟩
  · simp [hacc, habs, writable_of_actsByFields hb]
  · rcases hkeep with hacc | hacc | habs
    · simp [hacc]
    · simp [hacc]
    · simp [habs]
  · simp [hacc, habs]

/-! ### IRQ_SET (R406, R415) -/

/-- IRQ_SET is a register of 32 bits on every page with a header. -/
theorem accessOk_irqSet {b : Block} (h : hasHeader b = true) : accessOk b 0x18 4 = true := by
  revert h
  cases b <;> decide +kernel

theorem testBit_putBit_true (v i j : Nat) : (putBit v i true).testBit j = (v.testBit j || decide (j = i)) := by
  rw [putBit, if_pos rfl, Nat.testBit_or, Nat.one_shiftLeft, Nat.testBit_two_pow]
  simp only [eq_comm]

/-- One bit of a write of IRQ_SET. -/
def State.irqSetBit (p : Nat) (s : State) (i : Nat) : State :=
  if blockOf p = .flt ∧ (i = 1 ∨ i = 2) ∧ ((s.irq p i).rd p HDR.IRQ_EN).testBit i then (s.irq p i).sendMsix 0 0 else s.irq p i

theorem irqSet_eq_foldl (s : State) {p : Nat} (v : Nat) (h : blockOf p ≠ .eng) :
    s.irqSet p v = (bitsOf v (blockOf p).irqBits).foldl (State.irqSetBit p) s := by
  unfold State.irqSet State.irqSetBit
  simp only [h, false_and, if_false]

theorem testBit_irqSetBit (s : State) (p i : Nat) {j : Nat} (hj : j < 32) :
    ((s.irqSetBit p i).rd p HDR.IRQ_STAT).testBit j = ((s.rd p HDR.IRQ_STAT).testBit j || decide (j = i)) := by
  have hstat : (State.irqSetBit p s i).rd p HDR.IRQ_STAT = (s.irq p i).rd p HDR.IRQ_STAT := by
    unfold State.irqSetBit
    split
    · exact rd_sendMsix _ _ _ _ _
    · rfl
  rw [hstat, rd_irq_stat, show HDR.IRQ_STAT.width = 32 from rfl, Nat.testBit_mod_two_pow, decide_eq_true hj, Bool.true_and,
    testBit_putBit_true]

theorem testBit_foldl_irqSetBit (p : Nat) (l : List Nat) (s : State) {j : Nat} (hj : j < 32) :
    ((l.foldl (State.irqSetBit p) s).rd p HDR.IRQ_STAT).testBit j = ((s.rd p HDR.IRQ_STAT).testBit j || decide (j ∈ l)) := by
  induction l generalizing s with
  | nil => simp
  | cons i l ih => simp [ih, testBit_irqSetBit _ _ _ hj, Bool.or_assoc]

theorem exec_irqSetWrite {s : State} {p v : Nat} (hs : s.frozen = false) (hlets : s.lets (.irqSetWrite p v))
    (hhdr : hasHeader (blockOf p) = true) (hb : blockOf p ≠ .none) (hrun : s.domainStopped p 0x18 = false) :
    exec (.irqSetWrite p v) s = .next (s.irqSet p v) :=
  calc exec (.irqSetWrite p v) s = onWf s (.irqSetWrite p v) (s.regAccess true p 0x18 4 (some v)) := rfl
    _ = .next (s.writeReg p 0x18 4 v) := by
        rw [onWf_of_lets hlets, regAccess_write s true v hs (.inr (by decide)) hb (accessOk_irqSet hhdr) hrun]
    _ = .next (s.irqSet p v) := by
        rw [State.writeReg, if_pos ⟨hhdr, by decide, by decide⟩]
        rfl

/-- Settles O36: an access stores each field by its code, through the fold over the fields it holds, and IRQ_SET sets its bits one
by one. -/
theorem registerWritesFollowTheirCodes : Obligations.RegisterWritesFollowTheirCodes := by
  unfold Obligations.RegisterWritesFollowTheirCodes
  refine fun s p hs => ⟨fun off w v hlets hoff haddr hb hhdr hok hrun => ⟨fun f hf hlo hhi => ?_, ?_⟩,
    fun v hlets hhdr hnone heng hrun => ?_⟩
  · have hheader := hasHeader_of_actsByFields hb
    have hin : fldInside f off w = true := by
      have hwidth := (fields_fit hheader hf).1
      simp only [fldInside, Bool.and_eq_true, decide_eq_true_eq]
      omega
    have hmod : field v (8 * f.off + f.lsb - 8 * off) f.width % 2 ^ f.width = field v (8 * f.off + f.lsb - 8 * off) f.width :=
      Nat.mod_mod _ _
    obtain ⟨hrw, hkeep, hw1s⟩ := stored_of_actsByFields s (v := v) hb hlo hhi
    have hrd := rd_capErr_writeGen_field s p off w v hheader hf
    rw [if_pos hin] at hrd
    refine ⟨_, exec_registerWrite_fields hs hlets hoff haddr hb hhdr hok hrun,
      fun hacc habs => hrd.trans ?_, fun hread => hrd.trans ?_, fun hacc habs => hrd.trans ?_⟩
    · rw [hrw hacc habs, Option.elim_some, hmod]
    · rw [hkeep hread, Option.elim_none]
    · rw [hw1s hacc habs, Option.elim_some]
  · have hheader := hasHeader_of_actsByFields hb
    refine ⟨_, exec_registerWrite_fields hs hlets hoff haddr hb hhdr hok hrun, fun f hf hout => ?_,
      pagesKept_capErr_writeGen s off w v hheader, ?_⟩
    · rw [rd_capErr_writeGen_field s p off w v hheader hf, hout]
      rfl
    · have hgen : Frame [.regs, .dies] s (s.writeGen p off w v) :=
        (State.writeGen_frame s p off w v).after (by decide) (Frame.refl _ s)
      exact ((State.capErr_frame s _ p).after (by decide) hgen).keeps
  · refine ⟨_, exec_irqSetWrite hs hlets hhdr hnone hrun, fun i hi => ?_⟩
    rw [irqSet_eq_foldl s v heng, testBit_foldl_irqSetBit p _ s hi]
    rw [Nat.testBit_mod_two_pow, decide_eq_true hi, Bool.true_and]
    simp [bitsOf]

/-! ### Frames of all commands -/

/-- What `exec` can change: for each command, the frame of its own meaning, and no memory leaves its form. -/
theorem exec_frame {i : Instr} {s t : State} (h : exec i s = .next t) : Frame (mayChange i) s t := by
  cases i with
  | passEnd => exact execPassEnd_frame h
  | vectorPlan => exact execVectorPlan_frame h
  | vectorReissue => exact execVectorReissue_frame h
  | tileReset => exact execTileReset_frame h
  | tileResetEnd => exact execTileResetEnd_frame h
  | tileEnableWrite => exact execTileEnableWrite_frame h
  | tileDisableEffect => exact execTileDisableEffect_frame h
  | colmapWrite => exact execColmapWrite_frame h
  | tileCfgWrite => exact execTileCfgWrite_frame h
  | calApplyRequest => exact execCalApplyRequest_frame h
  | applyEffect => exact execApplyEffect_frame h
  | calSave => exact execCalSave_frame h
  | calLoad => exact execCalLoad_frame h
  | calLoadVerifyDone => exact execCalLoadVerifyDone_frame h
  | calRecal => exact execCalRecal_frame h
  | trackWindow => exact execTrackWindow_frame h
  | refreshRow => exact execRefreshRow_frame h
  | refreshSlot => exact execRefreshSlot_frame h
  | bankWrite => exact execBankWrite_frame h
  | bankWriteDone => exact execBankWriteDone_frame h
  | bankSwap => exact execBankSwap_frame h
  | bankSwapJudge => exact execBankSwapJudge_frame h
  | bankSwapEffect => exact execBankSwapEffect_frame h
  | wearMoveStart => exact execWearMoveStart_frame h
  | wearMoveWriteDone => exact execWearMoveWriteDone_frame h
  | wearMoveSwap => exact execWearMoveSwap_frame h
  | bankRelease => exact execBankRelease_frame h
  | mvm => exact execMvm_frame h
  | mvmAcc => exact execMvmAcc_frame h
  | groupReduce => exact execGroupReduce_frame h
  | glumeRecordDone => exact execGlumeRecordDone_frame h
  | engineOpComplete => exact execEngineOpComplete_frame h
  | accClear => exact execAccClear_frame h
  | accPromote => exact execAccPromote_frame h
  | accSpillStore => exact execAccSpillStore_frame h
  | accSpillAdd => exact execAccSpillAdd_frame h
  | accSpillSave => exact execAccSpillSave_frame h
  | accResumeLoad => exact execAccResumeLoad_frame h
  | accResumeAdd => exact execAccResumeAdd_frame h
  | accResumeRestore => exact execAccResumeRestore_frame h
  | accRead => exact execAccRead_frame h
  | outlierLoad => exact execOutlierLoad_frame h
  | checkForce => exact execCheckForce_frame h
  | nop => exact execNop_frame h
  | streamEnd => exact execStreamEnd_frame h
  | semWait => exact execSemWait_frame h
  | semSignal => exact execSemSignal_frame h
  | fence => exact execFence_frame h
  | dmaCopy => exact execDmaCopy_frame h
  | dmaCopyDone => exact execDmaCopyDone_frame h
  | tillerKick => exact execTillerKick_frame h
  | tillerDone => exact execTillerDone_frame h
  | mboxRead => exact execMboxRead_frame h
  | tillerSemPortWrite => exact execTillerSemPortWrite_frame h
  | tillerTrap => exact execTillerTrap_frame h
  | tillerReset => exact execTillerReset_frame h
  | streamFetch => exact execStreamFetch_frame h
  | startRecord => exact execStartRecord_frame h
  | coreGo => exact execCoreGo_frame h
  | coreHalt => exact execCoreHalt_frame h
  | stepAbort => exact execStepAbort_frame h
  | haltComplete => exact execHaltComplete_frame h
  | stepEndReport => exact execStepEndReport_frame h
  | checkCompare => exact execCheckCompare_frame h
  | checkRepeatDone => exact execCheckRepeatDone_frame h
  | checkOutcome => exact execCheckOutcome_frame h
  | retireTakeover => exact execRetireTakeover_frame h
  | chkSeedWrite => exact execChkSeedWrite_frame h
  | lgSel => exact execLgSel_frame h
  | lgClear => exact execLgClear_frame h
  | drefWrite => exact execDrefWrite_frame h
  | stepSum => exact execStepSum_frame h
  | summaryTimeout => exact execSummaryTimeout_frame h
  | calSlot => exact execCalSlot_frame h
  | calTakeover => exact execCalTakeover_frame h
  | calTakeoverTimeout => exact execCalTakeoverTimeout_frame h
  | calProcedureEnd => exact execCalProcedureEnd_frame h
  | calTimeout => exact execCalTimeout_frame h
  | calReturn => exact execCalReturn_frame h
  | calOverdue => exact execCalOverdue_frame h
  | startupCalSettled => exact execStartupCalSettled_frame h
  | retentionScreenEnd => exact execRetentionScreenEnd_frame h
  | calUnsettled => exact execCalUnsettled_frame h
  | alloc => exact execAlloc_frame h
  | pinR => exact execPinR_frame h
  | pinW => exact execPinW_frame h
  | unpin => exact execUnpin_frame h
  | share => exact execShare_frame h
  | release => exact execRelease_frame h
  | trim => exact execTrim_frame h
  | spill => exact execSpill_frame h
  | fill => exact execFill_frame h
  | cowCopyDone => exact execCowCopyDone_frame h
  | tierMoveDone => exact execTierMoveDone_frame h
  | spillSweep => exact execSpillSweep_frame h
  | pageNumberRelease => exact execPageNumberRelease_frame h
  | kvAppend => exact execKvAppend_frame h
  | attnRun => exact execAttnRun_frame h
  | walkerPageRead => exact execWalkerPageRead_frame h
  | attnCmdComplete => exact execAttnCmdComplete_frame h
  | seqFailReport => exact execSeqFailReport_frame h
  | xlateWrite => exact execXlateWrite_frame h
  | kvpEnableWrite => exact execKvpEnableWrite_frame h
  | entrySel => exact execEntrySel_frame h
  | reqTail => exact execReqTail_frame h
  | submit => exact execSubmit_frame h
  | cancel => exact execCancel_frame h
  | park => exact execPark_frame h
  | unpark => exact execUnpark_frame h
  | stepAssembly => exact execStepAssembly_frame h
  | draftRoundEnd => exact execDraftRoundEnd_frame h
  | samplingDone => exact execSamplingDone_frame h
  | stepClose => exact execStepClose_frame h
  | slotFree => exact execSlotFree_frame h
  | resPopLo => exact execResPopLo_frame h
  | resPeekLo => exact execResPeekLo_frame h
  | resHeadWrite => exact execResHeadWrite_frame h
  | ringEnableWrite => exact execRingEnableWrite_frame h
  | seqSel => exact execSeqSel_frame h
  | modelSwap => exact execModelSwap_frame h
  | modelUnload => exact execModelUnload_frame h
  | barrierDeadlineCheck => exact execBarrierDeadlineCheck_frame h
  | swapComplete => exact execSwapComplete_frame h
  | apertureWrite => exact execApertureWrite_frame h
  | jobTail => exact execJobTail_frame h
  | jobLoad => exact execJobLoad_frame h
  | jobSwap => exact execJobSwap_frame h
  | jobExport => exact execJobExport_frame h
  | chunkProcess => exact execChunkProcess_frame h
  | layerComplete => exact execLayerComplete_frame h
  | jobEnd => exact execJobEnd_frame h
  | apertureCreditRequest => exact execApertureCreditRequest_frame h
  | apertureCreditMsg => exact execApertureCreditMsg_frame h
  | exportCreditRetry => exact execExportCreditRetry_frame h
  | exportCreditTimeout => exact execExportCreditTimeout_frame h
  | ingestEnableWrite => exact execIngestEnableWrite_frame h
  | memAccess => exact execMemAccess_frame h
  | scrubLine => exact execScrubLine_frame h
  | retireCopyDone => exact execRetireCopyDone_frame h
  | sramPatrol => exact execSramPatrol_frame h
  | eccTestWrite => exact execEccTestWrite_frame h
  | eccTestRead => exact execEccTestRead_frame h
  | eccTestEnWrite => exact execEccTestEnWrite_frame h
  | rmapSel => exact execRmapSel_frame h
  | linkRetrain => exact execLinkRetrain_frame h
  | retrainEnd => exact execRetrainEnd_frame h
  | laneRepair => exact execLaneRepair_frame h
  | routeWrite => exact execRouteWrite_frame h
  | awnAdd => exact execAwnAdd_frame h
  | awnClaim => exact execAwnClaim_frame h
  | awnGrant => exact execAwnGrant_frame h
  | claimWithdraw => exact execClaimWithdraw_frame h
  | stepStartBroadcast => exact execStepStartBroadcast_frame h
  | sclkZero => exact execSclkZero_frame h
  | plkTrain => exact execPlkTrain_frame h
  | plkTrainDone => exact execPlkTrainDone_frame h
  | plkLaneError => exact execPlkLaneError_frame h
  | peerInbound => exact execPeerInbound_frame h
  | rcopyStart => exact execRcopyStart_frame h
  | rcopyDone => exact execRcopyDone_frame h
  | semSel => exact execSemSel_frame h
  | semViewWrite => exact execSemViewWrite_frame h
  | bar2Access => exact execBar2Access_frame h
  | configRequest => exact execConfigRequest_frame h
  | flr => exact execFlr_frame h
  | hostLinkDown => exact execHostLinkDown_frame h
  | ingestLinkDown => exact execIngestLinkDown_frame h
  | ptmDialogue => exact execPtmDialogue_frame h
  | ptmHostRead => exact execPtmHostRead_frame h
  | ideFail => exact execIdeFail_frame h
  | cxlDown => exact execCxlDown_frame h
  | mctpRequest => exact execMctpRequest_frame h
  | spdmRequest => exact execSpdmRequest_frame h
  | jtagInstruction => exact execJtagInstruction_frame h
  | pllUnlock => exact execPllUnlock_frame h
  | refclkLoss => exact execRefclkLoss_frame h
  | xingTimeout => exact execXingTimeout_frame h
  | crossingRelease => exact execCrossingRelease_frame h
  | coreRstAssert => exact execCoreRstAssert_frame h
  | coreRstRelease => exact execCoreRstRelease_frame h
  | warmReset => exact execWarmReset_frame h
  | hkRoundTrigger => exact execHkRoundTrigger_frame h
  | hkDecision => exact execHkDecision_frame h
  | orderlyDrainEnd => exact execOrderlyDrainEnd_frame h
  | orderlyFlushEnd => exact execOrderlyFlushEnd_frame h
  | hkadcConversionEnd => exact execHkadcConversionEnd_frame h
  | hkadcSwTrig => exact execHkadcSwTrig_frame h
  | lifetimeFold => exact execLifetimeFold_frame h
  | classLineStuck => exact execClassLineStuck_frame h
  | recordPoll => exact execRecordPoll_frame h
  | recordWaitTimeout => exact execRecordWaitTimeout_frame h
  | faultRecord => exact execFaultRecord_frame h
  | coalesceExpiry => exact execCoalesceExpiry_frame h
  | faultLog => exact execFaultLog_frame h
  | containmentComplete => exact execContainmentComplete_frame h
  | logHeadWrite => exact execLogHeadWrite_frame h
  | logSel => exact execLogSel_frame h
  | compatQuietEnd => exact execCompatQuietEnd_frame h
  | migReq => exact execMigReq_frame h
  | migMoveStart => exact execMigMoveStart_frame h
  | migCopyDone => exact execMigCopyDone_frame h
  | migBanksDone => exact execMigBanksDone_frame h
  | rebuildReloadEnd => exact execRebuildReloadEnd_frame h
  | coreRedirWrite => exact execCoreRedirWrite_frame h
  | testDue => exact execTestDue_frame h
  | testDone => exact execTestDone_frame h
  | testDeferExpiry => exact execTestDeferExpiry_frame h
  | nvmDataRead => exact execNvmDataRead_frame h
  | cfg2pCommit => exact execCfg2pCommit_frame h
  | cfg2pApply => exact execCfg2pApply_frame h
  | fwSlotWrite => exact execFwSlotWrite_frame h
  | pwrgoodAssert => exact execPwrgoodAssert_frame h
  | pwrgoodDeassert => exact execPwrgoodDeassert_frame h
  | perstHostAssert => exact execPerstHostAssert_frame h
  | perstHostDeassert => exact execPerstHostDeassert_frame h
  | perstIngest => exact execPerstIngest_frame h
  | startupStageEnd => exact execStartupStageEnd_frame h
  | irqSetWrite => exact execIrqSetWrite_frame h
  | registerWrite => exact execRegisterWrite_frame h
  | stepFailureReport => exact execStepFailureReport_frame h
  | pcieLinkUp => exact execPcieLinkUp_frame h
  | plkReplayFailure => exact execPlkReplayFailure_frame h
  | appendPageWrite => exact execAppendPageWrite_frame h

/-- Settles O50: each command's own frame lemma, under the table `mayChange`. -/
theorem commandsKeepTheirFrame : Obligations.CommandsKeepTheirFrame := by
  unfold Obligations.CommandsKeepTheirFrame
  intro i s t h
  exact (exec_frame h).keeps

/-! ### The reset state -/

/-- After reset a field reads what its position and the Reset column give it: `regs` lists nothing. -/
theorem rd_reset (p : Nat) (f : Fld) : State.reset.rd p f = posReset p f := rfl

/-- A field whose least significant bit is bit 62, past ROUTE's registers, has no reset value that its position fixes. -/
theorem posReset_bankState (p i : Nat) : posReset p (ENG.BANK_STATE_STATE i) = 0 := by
  have hroute : ¬ (0x100 ≤ 0x200 + 8 * i ∧ 0x200 + 8 * i < 0x1A0) := by omega
  unfold posReset
  simp only [ENG.BANK_STATE_STATE, HDR.ID, TILE.CTRL_ENABLE, DIE.INFO_INDEX, DIE.INFO_X, DIE.INFO_Y, DIE.INFO_ROLE,
    DIE.CAP_BOOT_REGS, DIE.CAP_IRQ_GATHER, MESH.STAT_PRESENT, MESH.STAT_UP, CLK.GATED, Fld.mk.injEq, Nat.reduceEqDiff, false_and,
    and_false, or_self, if_false, hroute]
  cases blockOf p <;> rfl

/-- Settles O48: the reset record's components, and no bank's state field has a reset value of its own. -/
theorem resetMeetsTheInvariant : Obligations.ResetMeetsTheInvariant := by
  unfold Obligations.ResetMeetsTheInvariant
  refine ⟨reset_memory_wf, rfl, by decide, rfl, fun c e t b => ?_, fun _ => rfl, rd_reset, rfl, rfl, rfl⟩
  rw [State.bankState, rd_reset, posReset_bankState]

end Sys2Proof.Machine
end

section
/-! PROOFS. What executing a command and taking a step can answer. Settles O51, O47. -/

namespace Sys2Proof.Machine

/-! ### The two outcomes of a command (log 2) -/

/-- A well-formed command goes on to a state in every state: a gate that keeps it from its effect still leaves a next state. -/
theorem onWf_of_wf (s : State) {i : Instr} (h : i.wf = true) (t : State) : onWf s i t = .next (s.gated i t) := if_pos h

theorem onWf_of_not_wf (s : State) {i : Instr} (h : i.wf = false) (t : State) : onWf s i t = .refused .illFormed :=
  if_neg (by simp [h])

/-- No command has a meaning of another shape: the meaning of each of them is `onWf` of that same command and some effect. -/
theorem exec_eq_onWf (i : Instr) (s : State) : ∃ t, exec i s = onWf s i t := by
  cases i <;> exact ⟨_, rfl⟩

theorem exec_next_of_wf {i : Instr} (s : State) (h : i.wf = true) : ∃ t, exec i s = .next t := by
  obtain ⟨t, ht⟩ := exec_eq_onWf i s
  exact ⟨s.gated i t, ht.trans (onWf_of_wf s h t)⟩

theorem exec_refused_of_not_wf {i : Instr} (s : State) (h : i.wf = false) : exec i s = .refused .illFormed := by
  obtain ⟨t, ht⟩ := exec_eq_onWf i s
  exact ht.trans (onWf_of_not_wf s h t)

/-- Settles O51: every meaning is `onWf` of its command, which asks `Instr.wf` alone whether the command executes. -/
theorem wellFormedCommandsExecute : Obligations.WellFormedCommandsExecute := by
  unfold Obligations.WellFormedCommandsExecute
  exact fun _ s => ⟨exec_next_of_wf s, exec_refused_of_not_wf s⟩

/-! ### One step, by what waits in the queue -/

theorem step_of_pending_cons {s : State} {i : Instr} {l : List Instr} (h : s.pending = i :: l) :
    step s = exec i { s with pending := l } := by
  simp only [step, h]

theorem step_of_pending_nil {s : State} (h : s.pending = []) : step s = .next { s with now := s.now + 1 } := by
  simp only [step, h]

/-- Settles O47: the two cases of the queue. -/
theorem stepRunsTheFrontCommand : Obligations.StepRunsTheFrontCommand := by
  unfold Obligations.StepRunsTheFrontCommand
  exact fun _ => ⟨fun _ _ => step_of_pending_cons, step_of_pending_nil⟩

end Sys2Proof.Machine
end

section
/-! PROOFS. What the planner of a nibble answers, and the halves of a split. Settles O57. -/

namespace Sys2Proof.Machine

/-! ### The three moves of planning (R39) -/

/-- R39's procedure as a relation between the groups and the passes, skips and merges it answers: the front group is skipped, runs
alone, or runs joined with the group after it. -/
inductive Planned (skip merge : Bool) (limit : Nat) : List (List Nat) → List (List Nat) × Nat × Nat → Prop
  | nil : Planned skip merge limit [] ([], 0, 0)
  | skipped {l p a b} (hs : skip = true) : Planned skip merge limit l (p, a, b) → Planned skip merge limit ([] :: l) (p, a + 1, b)
  | alone {g l p a b} (hg : skip = true → g ≠ []) :
      Planned skip merge limit l (p, a, b) → Planned skip merge limit (g :: l) (g :: p, a, b)
  | merged {g h l p a b} (hm : merge = true) (hg : skip = true → g ≠ []) (hh : skip = true → h ≠ [])
      (hle : g.length + h.length ≤ limit) :
      Planned skip merge limit l (p, a, b) → Planned skip merge limit (g :: h :: l) ((g ++ h) :: p, a, b + 1)

variable {skip merge : Bool} {limit : Nat} {gs : List (List Nat)} {r : List (List Nat) × Nat × Nat}

/-- The planner makes only these moves. -/
theorem planned_planNibble (skip merge : Bool) (limit : Nat) (gs : List (List Nat)) :
    Planned skip merge limit gs (planNibble skip merge limit gs) := by
  fun_induction planNibble skip merge limit gs with
  | case1 => exact .nil
  | case2 g hskip =>
    obtain ⟨hs, rfl⟩ : skip = true ∧ g = [] := by simpa using hskip
    exact .skipped hs .nil
  | case3 g hskip => exact .alone (by simpa using hskip) .nil
  | case4 g h l hskip p a b hp ih =>
    obtain ⟨hs, rfl⟩ : skip = true ∧ g = [] := by simpa using hskip
    exact .skipped hs (hp ▸ ih)
  | case5 g h l hskip hmerge p a b hp ih =>
    simp only [Bool.and_eq_true, decide_eq_true_eq] at hmerge
    obtain ⟨⟨hm, hh⟩, hle⟩ := hmerge
    exact .merged hm (by simpa using hskip) (fun hs => by simpa [hs] using hh) hle (hp ▸ ih)
  | case6 g h l hskip hmerge p a b hp ih => exact .alone (by simpa using hskip) (hp ▸ ih)

/-! ### What the moves keep -/

/-- Every row of the groups is driven by the passes, in the groups' order: a skipped group holds none. -/
theorem Planned.flatten_passes (h : Planned skip merge limit gs r) : r.1.flatten = gs.flatten := by
  induction h with
  | nil => rfl
  | skipped _ _ ih => exact ih
  | alone _ _ ih => exact congrArg (_ ++ ·) ih
  | merged _ _ _ _ _ ih => simpa using ih

/-- Each group is skipped, has a pass of its own, or is one of the two of a merge. -/
theorem Planned.length_passes (h : Planned skip merge limit gs r) : r.1.length + r.2.1 + r.2.2 = gs.length := by
  induction h with
  | nil => rfl
  | skipped _ _ ih => simp only [List.length_cons] at ih ⊢; omega
  | alone _ _ ih => simp only [List.length_cons] at ih ⊢; omega
  | merged _ _ _ _ _ ih => simp only [List.length_cons] at ih ⊢; omega

/-- What R39 lets one pass drive: a group, or two adjacent ones within the limit. -/
def IsPass (merge : Bool) (limit : Nat) (gs : List (List Nat)) (q : List Nat) : Prop :=
  q ∈ gs ∨ (merge = true ∧ q.length ≤ limit ∧ ∃ g h, [g, h] <:+: gs ∧ q = g ++ h)

theorem IsPass.of_suffix {l q : List _} (hq : IsPass merge limit l q) (hl : l <:+ gs) : IsPass merge limit gs q := by
  obtain hmem | ⟨hm, hle, g, h, hadj, rfl⟩ := hq
  · exact .inl (hl.mem hmem)
  · exact .inr ⟨hm, hle, g, h, hadj.trans hl.isInfix, rfl⟩

theorem Planned.isPass_of_mem (h : Planned skip merge limit gs r) : ∀ q ∈ r.1, IsPass merge limit gs q := by
  induction h with
  | nil => simp
  | skipped _ _ ih => exact fun q hq => (ih q hq).of_suffix (List.suffix_cons _ _)
  | alone _ _ ih =>
    rintro q (_ | ⟨_, hq⟩)
    · exact .inl List.mem_cons_self
    · exact (ih q hq).of_suffix (List.suffix_cons _ _)
  | @merged g h l _ _ _ hm _ _ hle _ ih =>
    have hl : l <:+ g :: h :: l := List.suffix_append [g, h] l
    rintro q (_ | ⟨_, hq⟩)
    · exact .inr ⟨hm, by simpa using hle, g, h, (List.prefix_append [g, h] l).isInfix, rfl⟩
    · exact (ih q hq).of_suffix hl

/-- With skipping on, no group that is driven is empty, so the skips count the empty ones. -/
theorem Planned.skips_eq_empty_groups (h : Planned skip merge limit gs r) (hs : skip = true) :
    r.2.1 = (gs.filter (fun g => g.isEmpty)).length := by
  induction h with
  | nil => rfl
  | skipped _ _ ih => exact congrArg (· + 1) ih
  | alone hg _ ih => simpa [hg hs] using ih
  | merged _ hg hh _ _ ih => simpa [hg hs, hh hs] using ih

theorem Planned.passes_ne_nil (h : Planned skip merge limit gs r) (hs : skip = true) : ∀ q ∈ r.1, q ≠ [] := by
  induction h with
  | nil => simp
  | skipped _ _ ih => exact ih
  | alone hg _ ih => exact List.forall_mem_cons.2 ⟨hg hs, ih⟩
  | merged _ hg _ _ _ ih => exact List.forall_mem_cons.2 ⟨List.append_ne_nil_of_left_ne_nil (hg hs) _, ih⟩

theorem Planned.no_skips (h : Planned skip merge limit gs r) (hs : skip = false) : r.2.1 = 0 := by
  induction h with
  | nil => rfl
  | skipped ht => cases hs.symm.trans ht
  | alone _ _ ih => exact ih
  | merged _ _ _ _ _ ih => exact ih

/-! ### The halves of a split (R42) -/

theorem halves_append (rows : List Nat) : (halves rows).1 ++ (halves rows).2 = rows := by
  simp [halves]

theorem length_halves_fst (rows : List Nat) : (halves rows).1.length = (rows.length + 1) / 2 := by
  have hle : (rows.length + 1) / 2 ≤ rows.length := by omega
  simpa [halves] using hle

/-- Settles O57: what the planner's moves keep, and the two halves of a list. -/
theorem plannedPassesDriveEveryRow : Obligations.PlannedPassesDriveEveryRow := by
  unfold Obligations.PlannedPassesDriveEveryRow
  intro skip merge limit gs
  have h := planned_planNibble skip merge limit gs
  exact ⟨h.flatten_passes, h.length_passes, h.isPass_of_mem, fun hs => ⟨h.skips_eq_empty_groups hs, h.passes_ne_nil hs⟩,
    h.no_skips, fun rows => ⟨halves_append rows, length_halves_fst rows⟩⟩

end Sys2Proof.Machine
end

section
/-! PROOFS. Reading a field after writes to others; what a frame keeps; a bank in its tile's record; where BANK_STATE's fields lie. -/

namespace Sys2Proof.Machine

/-- A command that nothing keeps back executes; what its effect gives may be written otherwise. -/
theorem exec_of_effect {s t u : State} {i : Instr} (h : s.lets i) (he : exec i s = onWf s i t) (ht : t = u) :
    exec i s = .next u := ht ▸ he.trans (onWf_of_lets h t)

/-! ### Fields that a write leaves (R406, R409) -/

theorem fkey_ne_of_start (p : Nat) {f g : Fld} (h : fldStart f ≠ fldStart g) : fkey p f ≠ fkey p g := by
  rw [fkey_eq, fkey_eq]
  omega

theorem fkey_ne_of_page {p q : Nat} {f g : Fld} (hf : FldFits f) (hg : FldFits g) (h : p ≠ q) : fkey p f ≠ fkey q g := by
  intro he
  have hpage := fkey_page hf (p := p)
  rw [he, fkey_page hg] at hpage
  exact h hpage.symm

theorem FldFits.mk {o l w r : Nat} {a : Acc} (hw : 0 < w) (hp : 8 * o + l + w ≤ 32768) (hr : r < 2 ^ w) : FldFits ⟨o, l, w, a, r⟩ :=
  ⟨hw, hp, hr⟩

/-- A write leaves the fields of its page that begin elsewhere. -/
theorem rd_wr_of_start (s : State) {p : Nat} {f g : Fld} (v : Nat) (h : fldStart g ≠ fldStart f) :
    (s.wr p f v).rd p g = s.rd p g := rd_wr_other _ _ _ _ _ _ (fkey_ne_of_start p h)

/-- A write leaves the fields of other pages. -/
theorem rd_wr_of_page (s : State) {p q : Nat} {f g : Fld} (v : Nat) (hf : FldFits f) (hg : FldFits g) (h : q ≠ p) :
    (s.wr p f v).rd q g = s.rd q g := rd_wr_other _ _ _ _ _ _ (fkey_ne_of_page hg hf h)

theorem rd_refuse_of_start (s : State) {p : Nat} {g : Fld} (h : fldStart g ≠ fldStart HDR.ERR_CNT) :
    (s.refuse p).rd p g = s.rd p g := rd_wr_of_start _ _ h

theorem PagesKept.trans {ps : List Nat} {s t u : State} (h : PagesKept ps s t) (k : PagesKept ps t u) : PagesKept ps s u :=
  fun i hi => (k i hi).trans (h i hi)

/-- What a page outside those that change reads. -/
theorem PagesKept.rd_eq {ps : List Nat} {s u : State} (h : PagesKept ps s u) {p : Nat} {f : Fld} (hf : FldFits f) (hp : p ∉ ps) :
    u.rd p f = s.rd p f := by
  rw [State.rd, State.rd, mget, mget, h _ (by rwa [fkey_page hf])]

theorem PagesKept.wr_page {ps : List Nat} {s t : State} {p : Nat} {f : Fld} (v : Nat) (hf : FldFits f) (hp : p ∈ ps)
    (h : PagesKept ps s t) : PagesKept ps s (t.wr p f v) := h.wr p f v (by rwa [fkey_page hf])

theorem PagesKept.inc {ps : List Nat} {s t : State} {p : Nat} {f : Fld} (n : Nat) (hf : FldFits f) (hp : p ∈ ps)
    (h : PagesKept ps s t) : PagesKept ps s (t.inc p f n) := h.wr_page _ hf hp

theorem PagesKept.refuse {ps : List Nat} {s t : State} {p : Nat} (hp : p ∈ ps) (h : PagesKept ps s t) :
    PagesKept ps s (t.refuse p) := h.wr_page _ (.mk (by decide) (by decide) (by decide)) hp

/-- Fields that begin at different bits are written one after the other, each with its own value. -/
theorem rd_foldl_wr_mem (p : Nat) (val : Fld → Nat) {l : List Fld} (hl : l.Pairwise fun f g => fldStart f ≠ fldStart g) {g : Fld}
    (hg : g ∈ l) (s : State) : (l.foldl (fun s f => s.wr p f (val f)) s).rd p g = val g % 2 ^ g.width := by
  induction l using List.reverseRecOn with
  | nil => simp at hg
  | append_singleton l f ih =>
    obtain ⟨hl, -, hlast⟩ := List.pairwise_append.1 hl
    rw [List.foldl_append, List.foldl_cons, List.foldl_nil]
    rcases List.mem_append.1 hg with hmem | hmem
    · rw [rd_wr_of_start _ _ (hlast g hmem f (List.mem_singleton_self f)), ih hl hmem]
    · rw [List.mem_singleton.1 hmem, rd_wr_same]

theorem rd_foldl_wr_other (p : Nat) (val : Fld → Nat) {g : Fld} {l : List Fld} (hl : ∀ f ∈ l, fldStart g ≠ fldStart f) (s : State) :
    (l.foldl (fun s f => s.wr p f (val f)) s).rd p g = s.rd p g := by
  induction l generalizing s with
  | nil => rfl
  | cons f l ih =>
    obtain ⟨hf, hl⟩ := List.forall_mem_cons.1 hl
    rw [List.foldl_cons, ih hl, rd_wr_of_start _ _ hf]

theorem PagesKept.foldl_wr {p : Nat} (val : Fld → Nat) {l : List Fld} (hl : ∀ f ∈ l, FldFits f) {s t : State}
    (h : PagesKept [p] s t) : PagesKept [p] s (l.foldl (fun s f => s.wr p f (val f)) t) := by
  induction l generalizing t with
  | nil => exact h
  | cons f l ih =>
    obtain ⟨hf, hl⟩ := List.forall_mem_cons.1 hl
    exact ih hl (h.wr_page _ hf (List.mem_singleton_self p))

/-! ### What a frame keeps, read by its accessor -/

section frame
variable {P : List Part} {s u : State} (h : Frame P s u)
include h

theorem Frame.now_eq (hp : .now ∉ P) : u.now = s.now := h.keeps .now hp

theorem Frame.tiles_eq (hp : .tiles ∉ P) : u.tiles = s.tiles := h.keeps .tiles hp

theorem Frame.tile_eq (hp : .tiles ∉ P) (c e t : Nat) : u.tile c e t = s.tile c e t := by
  simp only [State.tile, h.tiles_eq hp]

theorem Frame.eng_eq (hp : .engines ∉ P) (c e : Nat) : u.eng c e = s.eng c e := by
  simp only [State.eng, show u.engines = s.engines from h.keeps .engines hp]

end frame

@[simp] theorem tile_wrB (s : State) (p : Nat) (f : Fld) (v : Bool) (c e t : Nat) : (s.wrB p f v).tile c e t = s.tile c e t := rfl
@[simp] theorem tile_wrA (s : State) (p : Nat) (f : Fld) (v : Nat) (c e t : Nat) : (s.wrA p f v).tile c e t = s.tile c e t := rfl
@[simp] theorem tile_inc (s : State) (p : Nat) (f : Fld) (n c e t : Nat) : (s.inc p f n).tile c e t = s.tile c e t := rfl
@[simp] theorem tile_emit (s : State) (p code addr c e t : Nat) : (s.emit p code addr).tile c e t = s.tile c e t := rfl
@[simp] theorem tile_modOp (s : State) (c e tag : Nat) (f : EngOp → EngOp) (d i t : Nat) :
    (s.modOp c e tag f).tile d i t = s.tile d i t := rfl

/-! ### A bank in its tile's record -/

@[simp] theorem TileS.bank_modBank (x : TileS) (b : Nat) (f : BankS → BankS) : (x.modBank b f).bank b = f (x.bank b) := by
  unfold TileS.modBank TileS.setBank TileS.bank
  split <;> rfl

theorem TileS.modBank_eq_self {x : TileS} {b : Nat} {f : BankS → BankS} (h : f (x.bank b) = x.bank b) : x.modBank b f = x := by
  rw [TileS.modBank, h]
  unfold TileS.setBank TileS.bank
  split <;> rfl

section modBank
variable (x : TileS) (b : Nat) (f : BankS → BankS)

@[simp] theorem TileS.vecs_modBank : (x.modBank b f).vecs = x.vecs := by unfold TileS.modBank TileS.setBank; split <;> rfl
@[simp] theorem TileS.resetAt_modBank : (x.modBank b f).resetAt = x.resetAt := by unfold TileS.modBank TileS.setBank; split <;> rfl
@[simp] theorem TileS.epoch_modBank : (x.modBank b f).epoch = x.epoch := by unfold TileS.modBank TileS.setBank; split <;> rfl
@[simp] theorem TileS.writes_modBank : (x.modBank b f).writes = x.writes := by unfold TileS.modBank TileS.setBank; split <;> rfl

end modBank

/-! ### Tiles that an operation on one of them leaves -/

theorem AgreeOff.trans {α : Type} {ks : List Nat} {l m n : FMap α} (h : AgreeOff ks l m) (k : AgreeOff ks m n) : AgreeOff ks l n :=
  fun i hi => (k i hi).trans (h i hi)

theorem agreeOff_modTile (s : State) (c e t : Nat) (f : TileS → TileS) :
    AgreeOff [c * 128 + e * 32 + t] s.tiles (s.modTile c e t f).tiles := AgreeOff.mput _ _ _

theorem AgreeOff.modTile {c e t : Nat} {s u : State} (h : AgreeOff [c * 128 + e * 32 + t] s.tiles u.tiles) (f : TileS → TileS) :
    AgreeOff [c * 128 + e * 32 + t] s.tiles (u.modTile c e t f).tiles := h.trans (agreeOff_modTile u c e t f)

/-! ### The record of a sweep's late rows (R66) -/

section flushLate
variable (s : State) (c e t b : Nat)

@[simp] theorem tile_flushLate :
    (s.flushLate c e t b).tile c e t = (s.tile c e t).modBank b (fun y => { y with lateRows := 0 }) := by
  unfold State.flushLate
  dsimp only
  split
  · next h =>
    refine (TileS.modBank_eq_self ?_).symm
    rw [← h]
  · rw [tile_modTile_same]
    rfl

theorem agreeOff_flushLate : AgreeOff [c * 128 + e * 32 + t] s.tiles (s.flushLate c e t b).tiles := by
  unfold State.flushLate
  dsimp only
  split
  · exact AgreeOff.refl _ _
  · exact agreeOff_modTile _ c e t _

end flushLate

/-! ### Pages of a core (R403) -/

theorem engPg_ne_tilePg (c e t : Nat) : engPg c e ≠ tilePg c e t := by
  unfold engPg tilePg
  omega

theorem engPg_ne_chkPg (c e : Nat) : engPg c e ≠ chkPg c := by
  unfold engPg chkPg
  omega

/-! ### BANK_STATE (R60) -/

theorem fldStart_bankState (k : Nat) : fldStart (ENG.BANK_STATE_STATE k) = 4158 + 64 * k := by
  simp only [fldStart, ENG.BANK_STATE_STATE]
  omega

theorem fldStart_bankRows (k : Nat) : fldStart (ENG.BANK_STATE_ROWS k) = 4145 + 64 * k := by
  simp only [fldStart, ENG.BANK_STATE_ROWS]
  omega

theorem fldStart_bankWriting (k : Nat) : fldStart (ENG.BANK_STATE_WRITING k) = 4157 + 64 * k := by
  simp only [fldStart, ENG.BANK_STATE_WRITING]
  omega

theorem fldStart_bankPoisoned (k : Nat) : fldStart (ENG.BANK_STATE_POISONED k) = 4156 + 64 * k := by
  simp only [fldStart, ENG.BANK_STATE_POISONED]
  omega

theorem fldStart_bankShadow (k : Nat) : fldStart (ENG.BANK_STATE_SHADOW k) = 4103 + 64 * k := by
  simp only [fldStart, ENG.BANK_STATE_SHADOW]
  omega

end Sys2Proof.Machine
end

section
/-! PROOFS. Writes of TILE.CFG. Settles O52. -/

namespace Sys2Proof.Machine

/-! ### TILE.CFG (R57) -/

/-- The rw fields of TILE.CFG, as a write takes them. -/
def cfgFields : List Fld :=
  [TILE.CFG_MERGE_EN, TILE.CFG_SKIP_EN, TILE.CFG_SPLIT_EN, TILE.CFG_LIMIT_B, TILE.CFG_LIMIT_A, TILE.CFG_SLICE_B, TILE.CFG_SLICE_A]

theorem cfgFields_apart : cfgFields.Pairwise fun f g => fldStart f ≠ fldStart g := by decide

theorem cfgFields_fit {f : Fld} (hf : f ∈ cfgFields) : FldFits f :=
  fieldsOf_fit (b := .tile) ((by decide : ∀ f ∈ cfgFields, f ∈ fieldsOf .tile) f hf)

theorem sliceF_mem_cfgFields (b : Nat) : sliceF b ∈ cfgFields := by
  unfold sliceF
  split <;> decide

section cfg
variable {s : State} {c e t v : Nat}

theorem tileCfgEffect_of_slice_eq (h : bit v (3 + s.computeBank c e t) = s.rdB (tilePg c e t) (sliceF (s.computeBank c e t))) :
    tileCfgEffect s c e t v = cfgFields.foldl (fun s f => s.wr (tilePg c e t) f (field v f.lsb f.width)) s := by
  rw [tileCfgEffect, if_neg (by simp [h])]
  rfl

theorem tileCfgEffect_of_slice_ne (h : bit v (3 + s.computeBank c e t) ≠ s.rdB (tilePg c e t) (sliceF (s.computeBank c e t))) :
    tileCfgEffect s c e t v = s.refuse (tilePg c e t) := by
  rw [tileCfgEffect, if_pos (by simpa using h)]

theorem exec_tileCfgWrite (h : s.lets (.tileCfgWrite c e t v)) :
    exec (.tileCfgWrite c e t v) s = .next (tileCfgEffect s c e t v) := onWf_of_lets h _

/-- A write that is taken gives each rw field its bits of the value. -/
theorem rd_tileCfgEffect (h : bit v (3 + s.computeBank c e t) = s.rdB (tilePg c e t) (sliceF (s.computeBank c e t))) {f : Fld}
    (hf : f ∈ cfgFields) : (tileCfgEffect s c e t v).rd (tilePg c e t) f = field v f.lsb f.width := by
  rw [tileCfgEffect_of_slice_eq h, rd_foldl_wr_mem _ _ cfgFields_apart hf]
  exact Nat.mod_mod _ _

/-- A write that is taken leaves every field of the page that is none of these. -/
theorem rd_tileCfgEffect_other (h : bit v (3 + s.computeBank c e t) = s.rdB (tilePg c e t) (sliceF (s.computeBank c e t))) {g : Fld}
    (hg : ∀ f ∈ cfgFields, fldStart g ≠ fldStart f) : (tileCfgEffect s c e t v).rd (tilePg c e t) g = s.rd (tilePg c e t) g := by
  rw [tileCfgEffect_of_slice_eq h, rd_foldl_wr_other _ _ hg]

theorem pagesKept_tileCfgEffect (s : State) (c e t v : Nat) : PagesKept [tilePg c e t] s (tileCfgEffect s c e t v) := by
  by_cases h : bit v (3 + s.computeBank c e t) = s.rdB (tilePg c e t) (sliceF (s.computeBank c e t))
  · rw [tileCfgEffect_of_slice_eq h]
    exact PagesKept.foldl_wr _ (fun _ => cfgFields_fit) (PagesKept.refl _ _)
  · rw [tileCfgEffect_of_slice_ne h]
    exact (PagesKept.refl _ _).refuse (List.mem_singleton_self _)

end cfg

theorem field_width_one (v l : Nat) : field v l 1 = toBit (bit v l) := by
  rw [field, bit, Nat.testBit_eq_decide_div_mod_eq, Nat.shiftRight_eq_div_pow, toBit]
  split <;> simp_all

/-- The slice bits are bits 3 and 4 of TILE.CFG. -/
theorem field_sliceF (v : Nat) {b : Nat} (hb : b < 2) : field v (sliceF b).lsb (sliceF b).width = toBit (bit v (3 + b)) := by
  obtain rfl | rfl : b = 0 ∨ b = 1 := by omega
  · exact field_width_one v 3
  · exact field_width_one v 4

/-- Settles O52: a write refused for the compute bank's slice bit counts and does nothing else; one that is taken gives the other
slice field its bit, and ERR_CNT is none of the fields it writes. -/
theorem computeBankKeepsItsSliceBit : Obligations.ComputeBankKeepsItsSliceBit := by
  unfold Obligations.ComputeBankKeepsItsSliceBit
  refine fun s c e t v hlets => ⟨fun hne => ⟨_, exec_tileCfgWrite hlets, ?_⟩, fun heq => ⟨_, exec_tileCfgWrite hlets, ?_, ?_⟩⟩
  · rw [tileCfgEffect_of_slice_ne hne]
    refine ⟨?_, fun k hk => mfind_mput_other _ _ _ _ hk, (State.refuse_frame _ _).keeps⟩
    rw [State.refuse, rd_wr_same, satAdd, show HDR.ERR_CNT.width = 32 from rfl]
    omega
  · rw [rd_tileCfgEffect heq (sliceF_mem_cfgFields _), field_sliceF v (by omega)]
  · exact rd_tileCfgEffect_other heq (by decide)

end Sys2Proof.Machine
end

section
/-! PROOFS. What the operations on banks that several commands share do to the tile's record and to the bank's entry of
BANK_STATE. -/

namespace Sys2Proof.Machine

/-! ### The 34 entries of BANK_STATE lie in the engine's page (R60) -/

theorem bkey_lt {t b : Nat} (ht : t < 17) (hb : b < 2) : bkey t b < 34 := by
  unfold bkey
  omega

section fits
variable {k : Nat} (hk : k < 34)
include hk

theorem fits_bankState : FldFits (ENG.BANK_STATE_STATE k) := .mk (by decide) (by omega) (by decide)
theorem fits_bankRows : FldFits (ENG.BANK_STATE_ROWS k) := .mk (by decide) (by omega) (by decide)
theorem fits_bankWriting : FldFits (ENG.BANK_STATE_WRITING k) := .mk (by decide) (by omega) (by decide)
theorem fits_bankPoisoned : FldFits (ENG.BANK_STATE_POISONED k) := .mk (by decide) (by omega) (by decide)
theorem fits_bankShadow : FldFits (ENG.BANK_STATE_SHADOW k) := .mk (by decide) (by omega) (by decide)

end fits

section bank
variable (s : State) (c e t b : Nat)

/-! ### A bank becomes EMPTY -/

@[simp] theorem vecs_emptyBank : ((s.emptyBank c e t b).tile c e t).vecs = (s.tile c e t).vecs := by
  simp [State.emptyBank]

theorem bankState_emptyBank : (s.emptyBank c e t b).bankState c e t b = 0 := by
  rw [State.bankState, State.emptyBank]
  simp only [rd_modTile]
  rw [rd_wr_of_start, rd_wr_of_start, rd_wr_of_start, rd_wr_of_start, rd_wr_same, Nat.zero_mod]
  all_goals
    simp only [fldStart_bankState, fldStart_bankRows, fldStart_bankWriting, fldStart_bankPoisoned, fldStart_bankShadow]
    omega

theorem bankRows_emptyBank : (s.emptyBank c e t b).bankRows c e t b = 0 := by
  rw [State.bankRows, State.emptyBank]
  simp only [rd_modTile]
  rw [rd_wr_of_start, rd_wr_of_start, rd_wr_of_start, rd_wr_same, Nat.zero_mod]
  all_goals
    simp only [fldStart_bankRows, fldStart_bankWriting, fldStart_bankPoisoned, fldStart_bankShadow]
    omega

theorem pagesKept_emptyBank (hk : bkey t b < 34) : PagesKept [engPg c e] s (s.emptyBank c e t b) := by
  have hp : engPg c e ∈ [engPg c e] := List.mem_singleton_self _
  have hlate : PagesKept [engPg c e] s (s.flushLate c e t b) :=
    .of_regs ((State.flushLate_frame s c e t b).keeps .regs (by decide)) (.refl _ _)
  exact .of_regs (modTile_regs _ _ _ _ _) (((((hlate.wr_page 0 (fits_bankState hk) hp).wr_page 0 (fits_bankRows hk) hp).wr_page 0
    (fits_bankPoisoned hk) hp).wr_page 0 (fits_bankShadow hk) hp).wr_page 0 (fits_bankWriting hk) hp)

/-! ### A write of a bank begins -/

section beginWrite
variable (kind : WriteKind) (rows img : Nat) (resident : Bool) (limit tag : Nat)

theorem beginWrite_wr : ∃ w, ((((s.beginWrite c e t b kind rows img resident limit tag).1).tile c e t).bank b).wr = some w
    ∧ w.kind = kind ∧ w.rows = rows := by
  simp [State.beginWrite]

@[simp] theorem vecs_beginWrite :
    (((s.beginWrite c e t b kind rows img resident limit tag).1).tile c e t).vecs = (s.tile c e t).vecs := by
  simp [State.beginWrite]

@[simp] theorem resetAt_beginWrite :
    (((s.beginWrite c e t b kind rows img resident limit tag).1).tile c e t).resetAt = (s.tile c e t).resetAt := by
  simp [State.beginWrite]

theorem writing_beginWrite :
    (s.beginWrite c e t b kind rows img resident limit tag).1.rd (engPg c e) (ENG.BANK_STATE_WRITING (bkey t b)) = 1 :=
  rd_wr_same _ _ _ _

end beginWrite

/-! ### A write of a bank is done (R55) -/

section endWrite
variable (w : BankWr) (state limit : Nat)

theorem wr_endWrite : (((s.endWrite c e t b w state limit).tile c e t).bank b).wr = none := by
  simp [State.endWrite]

theorem writes_endWrite : ((s.endWrite c e t b w state limit).tile c e t).writes = (s.tile c e t).writes + 1 := by
  unfold State.endWrite
  split <;> simp

theorem agreeOff_endWrite : AgreeOff [c * 128 + e * 32 + t] s.tiles (s.endWrite c e t b w state limit).tiles := by
  unfold State.endWrite
  refine AgreeOff.modTile ?_ _
  split <;> simp only [State.wrA, State.wrB, wr_tiles, AgreeOff.refl]

theorem fits_limitF : FldFits (limitF b) := by
  unfold limitF
  split <;> exact cfgFields_fit (by decide)

theorem fits_imgF (he : e < 4) (hk : bkey t b < 34) : FldFits (imgF e t b) := .mk (by decide) (by omega) (by decide)

/-- The entry of BANK_STATE gets its state and rows first; what the end of a write sets after them lies elsewhere. -/
theorem rd_endWrite (he : e < 4) (hk : bkey t b < 34) {f : Fld} (hf : FldFits f)
    (hshadow : fldStart f ≠ fldStart (ENG.BANK_STATE_SHADOW (bkey t b)))
    (hwriting : fldStart f ≠ fldStart (ENG.BANK_STATE_WRITING (bkey t b)))
    (hpoisoned : fldStart f ≠ fldStart (ENG.BANK_STATE_POISONED (bkey t b))) :
    (s.endWrite c e t b w state limit).rd (engPg c e) f
      = ((s.wr (engPg c e) (ENG.BANK_STATE_STATE (bkey t b)) state).wr (engPg c e) (ENG.BANK_STATE_ROWS (bkey t b)) w.rows).rd
          (engPg c e) f := by
  rw [State.endWrite, rd_modTile, State.wrA, rd_wr_of_page _ _ (fits_imgF e t b he hk) hf (engPg_ne_chkPg c e),
    rd_wr_of_page _ _ (fits_limitF b) hf (engPg_ne_tilePg c e t)]
  split <;> simp only [State.wrA, State.wrB, rd_wr_of_start _ _ hshadow, rd_wr_of_start _ _ hwriting, rd_wr_of_start _ _ hpoisoned]

theorem bankState_endWrite (he : e < 4) (hk : bkey t b < 34) (hstate : state < 4) :
    (s.endWrite c e t b w state limit).bankState c e t b = state := by
  rw [State.bankState, rd_endWrite s c e t b w state limit he hk (fits_bankState hk), rd_wr_of_start, rd_wr_same]
  · exact Nat.mod_eq_of_lt hstate
  all_goals
    simp only [fldStart_bankState, fldStart_bankRows, fldStart_bankShadow, fldStart_bankWriting, fldStart_bankPoisoned]
    omega

theorem bankRows_endWrite (he : e < 4) (hk : bkey t b < 34) :
    (s.endWrite c e t b w state limit).bankRows c e t b = w.rows % 2 ^ (ENG.BANK_STATE_ROWS (bkey t b)).width := by
  rw [State.bankRows, rd_endWrite s c e t b w state limit he hk (fits_bankRows hk), rd_wr_same]
  all_goals
    simp only [fldStart_bankRows, fldStart_bankShadow, fldStart_bankWriting, fldStart_bankPoisoned]
    omega

end endWrite

/-! ### A row is refreshed (R61, R63, R66, R67) -/

section refresh
variable (r iv rows : Nat) (late : Bool)

/-- First the row's cells are rewritten from the shadow, or its poison is recorded. -/
def State.rewriteRow : State :=
  let p := engPg c e
  let img := s.rdA p (ENG.BANK_STATE_SHADOW (bkey t b))
  let maps := s.remaps c e t b
  let line := s.imgRow c img r
  if s.csBad c (img + 128 * r) 128 then
    (if s.bankPoisoned c e t b then s else (s.wr p (ENG.BANK_STATE_POISONED (bkey t b)) 1).emit p 0x1036 (bankAddr e t b))
  else (s.inc p ENG.REFRESH_ROW_CNT).modTile c e t
    (fun x => x.modBank b (fun z => { z with cells := mput z.cells r (rowCells maps r line.1 line.2) }))

/-- Then a late row counts. -/
def State.countLate : State := if late then (s.inc (engPg c e) ENG.REFRESH_LATE_CNT).irq (engPg c e) 2 else s

/-- Last the row stands as refreshed now, and the sweep moves on or ends. -/
def State.sweepOn : State :=
  let s' := s.modTile c e t (fun x => x.modBank b (fun z => { z with
    refreshed := mput z.refreshed r (s.now, iv), due := none, lateRows := z.lateRows + toBit late,
    sweep := if r + 1 < rows then r + 1 else 0 }))
  if r + 1 < rows then s' else s'.flushLate c e t b

theorem refreshRowNow_eq_sweepOn : ∃ late, s.refreshRowNow c e t b r
    = ((s.rewriteRow c e t b r).countLate c e late).sweepOn c e t b r (s.intervalUs c e) (s.bankRows c e t b) late := ⟨_, rfl⟩

theorem tiles_countLate : (s.countLate c e late).tiles = s.tiles := by
  unfold State.countLate
  split
  · rw [irq_tiles]
    rfl
  · rfl

theorem now_countLate : (s.countLate c e late).now = s.now := by
  unfold State.countLate
  split
  · rw [irq_now]
    rfl
  · rfl

theorem now_rewriteRow : (s.rewriteRow c e t b r).now = s.now := by
  unfold State.rewriteRow
  dsimp only
  repeat' split
  all_goals rfl

theorem agreeOff_rewriteRow : AgreeOff [c * 128 + e * 32 + t] s.tiles (s.rewriteRow c e t b r).tiles := by
  unfold State.rewriteRow
  dsimp only
  repeat' split
  · exact .refl _ _
  · exact .refl _ _
  · exact .modTile (.refl _ _) _

theorem bank_sweepOn : ∃ y, ((s.sweepOn c e t b r iv rows late).tile c e t).bank b = y
    ∧ y.refreshed = mput ((s.tile c e t).bank b).refreshed r (s.now, iv) ∧ y.due = none
    ∧ y.sweep = if r + 1 < rows then r + 1 else 0 := by
  unfold State.sweepOn
  dsimp only
  split <;> simp

theorem agreeOff_sweepOn : AgreeOff [c * 128 + e * 32 + t] s.tiles (s.sweepOn c e t b r iv rows late).tiles := by
  unfold State.sweepOn
  dsimp only
  split
  · exact .modTile (.refl _ _) _
  · exact .trans (.modTile (.refl _ _) _) (agreeOff_flushLate _ _ _ _ _)

/-- A row that is refreshed counts from now, with the interval in use; nothing of the bank falls due, and the sweep moves on. -/
theorem bank_refreshRowNow : ∃ y, ((s.refreshRowNow c e t b r).tile c e t).bank b = y
    ∧ mget y.refreshed (0, 0) r = (s.now, s.intervalUs c e) ∧ y.due = none
    ∧ y.sweep = if r + 1 < s.bankRows c e t b then r + 1 else 0 := by
  obtain ⟨late, heq⟩ := refreshRowNow_eq_sweepOn s c e t b r
  obtain ⟨y, hy, hrefreshed, hdue, hsweep⟩ := bank_sweepOn ((s.rewriteRow c e t b r).countLate c e late) c e t b r
    (s.intervalUs c e) (s.bankRows c e t b) late
  refine ⟨y, heq ▸ hy, ?_, hdue, hsweep⟩
  rw [hrefreshed, mget_mput_same, now_countLate, now_rewriteRow]

theorem agreeOff_refreshRowNow : AgreeOff [c * 128 + e * 32 + t] s.tiles (s.refreshRowNow c e t b r).tiles := by
  obtain ⟨late, heq⟩ := refreshRowNow_eq_sweepOn s c e t b r
  have hrow := agreeOff_rewriteRow s c e t b r
  rw [← tiles_countLate (s.rewriteRow c e t b r) c e late] at hrow
  rw [heq]
  exact hrow.trans (agreeOff_sweepOn _ c e t b r _ _ late)

end refresh

/-! ### Compute and idle bank change places (R58) -/

section flip

theorem computeBank_flipBank (h : s.computeBank c e t < 2) : (s.flipBank c e t).computeBank c e t = 1 - s.computeBank c e t := by
  rw [State.computeBank, State.flipBank, rd_modTile, rd_wr_same]
  exact Nat.mod_eq_of_lt (by simp only [TILE.CFG_COMPUTE_BANK]; omega)

@[simp] theorem epoch_flipBank : ((s.flipBank c e t).tile c e t).epoch = (s.tile c e t).epoch + 1 := by
  simp [State.flipBank]

theorem agreeOff_flipBank : AgreeOff [c * 128 + e * 32 + t] s.tiles (s.flipBank c e t).tiles :=
  agreeOff_modTile (s.wr (tilePg c e t) TILE.CFG_COMPUTE_BANK (1 - s.computeBank c e t)) c e t _

theorem pagesKept_flipBank : PagesKept [tilePg c e t] s (s.flipBank c e t) :=
  .of_regs rfl ((PagesKept.refl [tilePg c e t] s).wr_page (f := TILE.CFG_COMPUTE_BANK) (1 - s.computeBank c e t)
    (.mk (by decide) (by decide) (by decide)) (List.mem_singleton_self _))

end flip

end bank

end Sys2Proof.Machine
end

section
/-! PROOFS. Operations in flight: what dispatch, issue, halts and the start of a queued write leave of them. -/

namespace Sys2Proof.Machine

theorem ops_modEng {g : EngineS → EngineS} (hg : ∀ x, (g x).ops = x.ops) (s : State) (c e d i : Nat) :
    ((s.modEng c e g).eng d i).ops = (s.eng d i).ops := by
  by_cases hk : d * 4 + i = c * 4 + e
  · simp [State.modEng, State.setEng, State.eng, hk, hg]
  · simp [State.modEng, State.setEng, State.eng, mget_mput_other _ _ _ _ _ hk]

theorem ops_foldl_modEng {g : EngineS → EngineS} (hg : ∀ x, (g x).ops = x.ops) (c d i : Nat) (l : List Nat) (s : State) :
    ((l.foldl (fun s e => s.modEng c e g) s).eng d i).ops = (s.eng d i).ops := by
  induction l generalizing s with
  | nil => rfl
  | cons e l ih => rw [List.foldl_cons, ih, ops_modEng hg]

/-! ### Halts, dispatch and issue (R172, R173, R187) -/

section queues
variable (s : State) (c d i : Nat)

theorem ops_haltCore (cause code addr : Nat) : ((s.haltCore c cause code addr).eng d i).ops = (s.eng d i).ops := by
  unfold State.haltCore
  split
  · rfl
  have hqueues := ops_foldl_modEng (g := fun x => { x with queue := [] }) (fun _ => rfl) c d i (List.range 4) (s.dropClaims c)
  rw [(State.dropClaims_frame s c).eng_eq (by decide)] at hqueues
  dsimp only
  split <;> simp only [eng_send, eng_wr, eng_modCore, hqueues]

theorem ops_haltFault (p code addr da : Nat) : ((s.haltFault c p code addr da).eng d i).ops = (s.eng d i).ops :=
  ops_haltCore _ _ _ _ _ _ _

theorem ops_enqueue (q : Nat) (x : Desc) : ((s.enqueue c q x).eng d i).ops = (s.eng d i).ops := by
  unfold State.enqueue
  split
  · exact ops_modEng (by intro _; rfl) s c q d i
  · repeat' split
    all_goals rfl

theorem ops_issue (q : Nat) (x : Desc) : ((s.issue c q x).eng d i).ops = (s.eng d i).ops := by
  have hwait : (s.takeWait c q x).eng d i = s.eng d i := (State.takeWait_frame s c q x).eng_eq (by decide) d i
  unfold State.issue State.dequeue
  split
  · rw [ops_modEng (by intro _; rfl), hwait]
  · repeat' split
    all_goals exact congrArg EngineS.ops hwait

theorem ops_dispatchOne {u : State} (h : s.dispatchOne c = some u) : (u.eng d i).ops = (s.eng d i).ops := by
  unfold State.dispatchOne at h
  split at h
  · cases h
  split at h
  · cases h
  split at h
  · obtain rfl := Option.some.inj h
    exact ops_haltFault ..
  dsimp only at h
  split at h
  · cases h
  split at h
  · cases h
  · obtain rfl := Option.some.inj h
    exact ops_enqueue ..

theorem ops_pumpN (n : Nat) : ((State.pumpN n s c).eng d i).ops = (s.eng d i).ops := by
  induction n generalizing s with
  | zero => rfl
  | succ n ih =>
    rw [State.pumpN]
    split
    · next h => rw [ih, ops_dispatchOne s c d i h]
    · rfl

theorem ops_pump : ((s.pump c).eng d i).ops = (s.eng d i).ops := by
  rw [State.pump, (State.headClaims_frame _ c).eng_eq (by decide), ops_pumpN]

end queues

/-! ### What an operation was issued with -/

/-- The operations of an engine in flight, each by its descriptor and the tiles of its mask. -/
def State.issued (s : State) (c e : Nat) : List (Desc × List Nat) := (s.eng c e).ops.map (fun o => (o.d, o.tiles))

theorem issued_of_eng_eq {s u : State} {c e : Nat} (h : u.eng c e = s.eng c e) : u.issued c e = s.issued c e := by
  rw [State.issued, h, State.issued]

theorem mem_issued {s : State} {c e : Nat} {d : Desc} {ts : List Nat} (h : (d, ts) ∈ s.issued c e) :
    ∃ o ∈ (s.eng c e).ops, o.d = d ∧ o.tiles = ts := by
  obtain ⟨o, ho, heq⟩ := List.mem_map.1 h
  exact ⟨o, ho, congrArg Prod.fst heq, congrArg Prod.snd heq⟩

section issued
variable (s : State) (c e t : Nat)

theorem length_issued : (s.issued c e).length = (s.eng c e).ops.length := List.length_map _

theorem ops_addOp (o : EngOp) : ((s.addOp c e o).eng c e).ops = (s.eng c e).ops ++ [o] := by
  rw [State.addOp, eng_modEng_same]

theorem issued_modOp (tag : Nat) {g : EngOp → EngOp} (hg : ∀ o, (g o).d = o.d ∧ (g o).tiles = o.tiles) :
    (s.modOp c e tag g).issued c e = s.issued c e := by
  simp only [State.issued, State.modOp, eng_modEng_same, mapIf, List.map_map]
  refine List.map_congr_left fun o _ => ?_
  simp only [Function.comp_apply]
  split
  · rw [(hg o).1, (hg o).2]
  · rfl

/-! ### The start of a queued write (R56, R71) -/

@[simp] theorem tile_emptySet (b d i k : Nat) : (s.emptySet c e t b).tile d i k = s.tile d i k :=
  (State.emptySet_frame s c e t b).tile_eq (by decide) d i k

theorem ops_emptySet (b : Nat) : ((s.emptySet c e t b).eng c e).ops = (s.eng c e).ops :=
  ops_modEng (by intro _; rfl) _ c e c e

theorem issued_startQueued : (s.startQueued c e t).issued c e = s.issued c e := by
  unfold State.startQueued
  dsimp only
  split
  · rfl
  split
  · rfl
  · rw [issued_modOp _ _ _ _ (by intro _; exact ⟨rfl, rfl⟩), issued_of_eng_eq ((State.beginWrite_frame ..).eng_eq (by decide) c e),
      State.issued, ops_emptySet]
    split <;> rfl

theorem issued_foldl_startQueued (l : List Nat) :
    (l.foldl (fun s k => s.startQueued c e (k / 32)) s).issued c e = s.issued c e := by
  induction l generalizing s with
  | nil => rfl
  | cons k l ih => rw [List.foldl_cons, ih, issued_startQueued]

theorem vecs_resetAt_startQueued : ((s.startQueued c e t).tile c e t).vecs = (s.tile c e t).vecs
    ∧ ((s.startQueued c e t).tile c e t).resetAt = (s.tile c e t).resetAt := by
  unfold State.startQueued
  dsimp only
  split
  · exact ⟨rfl, rfl⟩
  split
  · exact ⟨rfl, rfl⟩
  · rw [tile_modOp, vecs_beginWrite, resetAt_beginWrite, tile_emptySet]
    split <;> simp

end issued

end Sys2Proof.Machine
end

section
/-! PROOFS. COLMAP and ENABLE writes, and the reset of a tile. Settles O1. -/

namespace Sys2Proof.Machine

/-! ### COLMAP (R31) -/

theorem field_lt (v l w : Nat) : field v l w < 2 ^ w := Nat.mod_lt _ (Nat.two_pow_pos w)

section colmap
variable {s : State} {c e t : Nat}

theorem colmapWriteEffect_of_enabled (i v : Nat) (h : s.rdB (tilePg c e t) TILE.CTRL_ENABLE = true) :
    colmapWriteEffect s c e t i v = s.refuse (tilePg c e t) := by
  rw [colmapWriteEffect, if_pos (by simp [h])]

/-- A write to a disabled tile stands; one that names a column twice counts as refused besides. -/
theorem colmapWriteEffect_of_disabled (i v : Nat) (h : s.rdB (tilePg c e t) TILE.CTRL_ENABLE = false)
    (hd : (s.tile c e t).disablePending = false) :
    colmapWriteEffect s c e t i v = s.putColmap c e t i (bit v 31) (field v 16 2) (field v 0 8)
    ∨ colmapWriteEffect s c e t i v = (s.putColmap c e t i (bit v 31) (field v 16 2) (field v 0 8)).refuse (tilePg c e t) := by
  rw [colmapWriteEffect, if_neg (by simp [h, hd])]
  dsimp only
  split
  · exact .inr rfl
  · exact .inl rfl

variable (s c e t) (i : Nat) (valid : Bool) (bank col : Nat)

theorem fldStart_colmapValid : fldStart (TILE.COLMAP_VALID i) = 927 + 32 * i := by
  simp only [fldStart, TILE.COLMAP_VALID]
  omega

theorem fldStart_colmapBank : fldStart (TILE.COLMAP_BANK i) = 912 + 32 * i := by
  simp only [fldStart, TILE.COLMAP_BANK]
  omega

theorem fldStart_colmapColumn : fldStart (TILE.COLMAP_COLUMN i) = 896 + 32 * i := by
  simp only [fldStart, TILE.COLMAP_COLUMN]
  omega

theorem fldStart_colmapFull : fldStart TILE.STAT_COLMAP_FULL = 101 := rfl

theorem valid_putColmap : (s.putColmap c e t i valid bank col).rd (tilePg c e t) (TILE.COLMAP_VALID i) = toBit valid := by
  unfold State.putColmap State.showColmap State.wrB
  rw [rd_wr_of_start, rd_wr_of_start, rd_wr_of_start, rd_wr_same]
  · exact Nat.mod_eq_of_lt (toBit_lt valid Nat.one_pos)
  all_goals
    simp only [fldStart_colmapValid, fldStart_colmapBank, fldStart_colmapColumn, fldStart_colmapFull]
    omega

theorem bank_putColmap (hbank : bank < 4) : (s.putColmap c e t i valid bank col).rd (tilePg c e t) (TILE.COLMAP_BANK i) = bank := by
  unfold State.putColmap State.showColmap State.wrB
  rw [rd_wr_of_start, rd_wr_of_start, rd_wr_same]
  · exact Nat.mod_eq_of_lt hbank
  all_goals
    simp only [fldStart_colmapBank, fldStart_colmapColumn, fldStart_colmapFull]
    omega

theorem column_putColmap (hcol : col < 256) :
    (s.putColmap c e t i valid bank col).rd (tilePg c e t) (TILE.COLMAP_COLUMN i) = col := by
  unfold State.putColmap State.showColmap State.wrB
  rw [rd_wr_of_start, rd_wr_same]
  · exact Nat.mod_eq_of_lt hcol
  · rw [fldStart_colmapColumn, fldStart_colmapFull]
    omega

theorem pagesKept_putColmap (hi : i < 4) : PagesKept [tilePg c e t] s (s.putColmap c e t i valid bank col) := by
  have hp : tilePg c e t ∈ [tilePg c e t] := List.mem_singleton_self _
  have hvalid : FldFits (TILE.COLMAP_VALID i) := .mk (by decide) (by omega) (by decide)
  have hbank : FldFits (TILE.COLMAP_BANK i) := .mk (by decide) (by omega) (by decide)
  have hcol : FldFits (TILE.COLMAP_COLUMN i) := .mk (by decide) (by omega) (by decide)
  have hfull : FldFits TILE.STAT_COLMAP_FULL := .mk (by decide) (by decide) (by decide)
  exact ((((PagesKept.refl _ s).wr_page _ hvalid hp).wr_page _ hbank hp).wr_page _ hcol hp).wr_page _ hfull hp

/-- The entry has the fields written, also where the write counts as refused besides. -/
theorem entry_colmapWriteEffect (v : Nat) (h : s.rdB (tilePg c e t) TILE.CTRL_ENABLE = false)
    (hd : (s.tile c e t).disablePending = false) :
    (colmapWriteEffect s c e t i v).rd (tilePg c e t) (TILE.COLMAP_VALID i) = toBit (bit v 31)
    ∧ (colmapWriteEffect s c e t i v).rd (tilePg c e t) (TILE.COLMAP_BANK i) = field v 16 2
    ∧ (colmapWriteEffect s c e t i v).rd (tilePg c e t) (TILE.COLMAP_COLUMN i) = field v 0 8 := by
  have hvalid := valid_putColmap s c e t i (bit v 31) (field v 16 2) (field v 0 8)
  have hbank := bank_putColmap s c e t i (bit v 31) (field v 16 2) (field v 0 8) (field_lt v 16 2)
  have hcol := column_putColmap s c e t i (bit v 31) (field v 16 2) (field v 0 8) (field_lt v 0 8)
  obtain heq | heq := colmapWriteEffect_of_disabled i v h hd
  · exact heq ▸ ⟨hvalid, hbank, hcol⟩
  · have herr : fldStart HDR.ERR_CNT = 224 := rfl
    rw [heq, rd_refuse_of_start _ (by rw [fldStart_colmapValid]; omega), rd_refuse_of_start _ (by rw [fldStart_colmapBank]; omega),
      rd_refuse_of_start _ (by rw [fldStart_colmapColumn]; omega)]
    exact ⟨hvalid, hbank, hcol⟩

theorem pagesKept_colmapWriteEffect (v : Nat) (hi : i < 4) (h : s.rdB (tilePg c e t) TILE.CTRL_ENABLE = false)
    (hd : (s.tile c e t).disablePending = false) : PagesKept [tilePg c e t] s (colmapWriteEffect s c e t i v) := by
  have hput := pagesKept_putColmap s c e t i (bit v 31) (field v 16 2) (field v 0 8) hi
  obtain heq | heq := colmapWriteEffect_of_disabled i v h hd
  · exact heq ▸ hput
  · exact heq ▸ hput.refuse (List.mem_singleton_self _)

end colmap

/-! ### CTRL.ENABLE (R49, R431) -/

section enable
variable {s : State} {c e t : Nat}

theorem tileEnableEffect_of_enabled (h : s.rdB (tilePg c e t) TILE.CTRL_ENABLE = true) : tileEnableEffect s c e t false
    = (s.wr (tilePg c e t) TILE.CTRL_ENABLE 0).modTile c e t (fun x => { x with disablePending := true }) := by
  simp [tileEnableEffect, h]

theorem tileDisableEffect_of_pending (h : (s.tile c e t).disablePending = true) (hv : ∀ v ∈ (s.tile c e t).vecs, v.finished = true) :
    tileDisableEffect s c e t
      = (s.wr (tilePg c e t) TILE.STAT_IN_SERVICE 0).modTile c e t (fun x => { x with disablePending := false }) := by
  rw [tileDisableEffect, if_pos (by simpa [h] using hv)]

end enable

/-! ### Per-tile reset (R47, R73, R95, R333) -/

/-- A vector that a reset of its tile ends: it gives no further conversions, and those held for checking are lost. -/
def Vec.ended (v : Vec) : Vec :=
  { v with finished := true, planned := true, reissue := false, passes := [], splits := [], cur := none,
           out := v.out.filter (fun o => !o.held) }

section reset
variable (s : State) (c e t : Nat)

/-- The banks with a write in progress become EMPTY. -/
def State.dropWrites : State :=
  (List.range 2).foldl (fun u b => if ((s.tile c e t).bank b).wr.isSome then u.emptyBank c e t b else u) s

theorem vecs_dropWrites : ((s.dropWrites c e t).tile c e t).vecs = (s.tile c e t).vecs := by
  unfold State.dropWrites
  generalize List.range 2 = l
  induction l using List.reverseRecOn with
  | nil => rfl
  | append_singleton l b ih =>
    rw [List.foldl_append, List.foldl_cons, List.foldl_nil]
    split
    · rw [vecs_emptyBank, ih]
    · exact ih

theorem dropWrites_frame : Frame [.regs, .tiles, .dies] s (s.dropWrites c e t) :=
  Frame.foldl (fun u b => .ite (State.emptyBank_frame u c e t b) (.refl _ u)) _ (.refl _ s)

/-- After the banks the tile's record is reset; the operations and the turn of the rotation that lose rows leave it as it is. -/
theorem tile_resetTile : (s.resetTile c e t).tile c e t
    = { (s.dropWrites c e t).tile c e t with
        resetAt := some (s.dropWrites c e t).now, sampleQ := [], wearPhase := 0,
        vecs := ((s.dropWrites c e t).tile c e t).vecs.map Vec.ended } := by
  unfold State.resetTile
  dsimp only
  split
  · split
    · rw [(State.skipTurn_frame ..).tile_eq (by decide), tile_modEng, tile_modTile_same]
      rfl
    · rw [tile_modEng, tile_modEng, tile_modTile_same]
      rfl
  · rw [tile_modEng, tile_modTile_same]
    rfl

/-- Every vector on the tile is ended, no sample is kept, and the reset lasts from now. -/
theorem resetTile_ends :
    ((s.resetTile c e t).tile c e t).resetAt = some s.now ∧ ((s.resetTile c e t).tile c e t).sampleQ = []
    ∧ ((s.resetTile c e t).tile c e t).vecs = (s.tile c e t).vecs.map Vec.ended := by
  rw [tile_resetTile]
  exact ⟨congrArg some ((dropWrites_frame s c e t).now_eq (by decide)), rfl, congrArg _ (vecs_dropWrites s c e t)⟩

theorem tileResetEndEffect_of_reset {s : State} {c e t : Nat} (h : (s.tile c e t).resetAt ≠ none) :
    tileResetEndEffect s c e t = (s.modTile c e t (fun x => { x with resetAt := none })).startQueued c e t := by
  rw [tileResetEndEffect, if_neg (by simpa using h)]

end reset

/-- Settles O1: each write of a register by the equation for its effect, a reset and its end by the record they leave. -/
theorem tileRegisterWritesAndReset : Obligations.TileRegisterWritesAndReset := by
  unfold Obligations.TileRegisterWritesAndReset
  refine ⟨fun s c e t => ⟨fun v hlets heq => ?_, fun v hlets hne => ?_, fun i v hlets hen hpend => ?_, fun i v hlets hen => ?_,
    fun hlets hen => ?_, fun hlets hpend hvecs => ?_⟩, fun s c e t => ⟨fun hlets => ?_, fun hlets hreset => ?_⟩⟩
  · exact ⟨_, exec_tileCfgWrite hlets, fun f hf => rd_tileCfgEffect heq hf, rd_tileCfgEffect_other heq (by decide),
      pagesKept_tileCfgEffect s c e t v, (tileCfgEffect_frame s c e t v).keeps⟩
  · rw [exec_tileCfgWrite hlets, tileCfgEffect_of_slice_ne hne]
  · have hi : i < 4 := by
      have hwf := hlets.1
      simp only [Instr.wf, Bool.and_eq_true, decide_eq_true_eq] at hwf
      exact hwf.1.2
    obtain ⟨hvalid, hbank, hcol⟩ := entry_colmapWriteEffect s c e t i v hen hpend
    exact completes_of_lets hlets rfl ⟨hvalid, hbank, hcol, pagesKept_colmapWriteEffect s c e t i v hi hen hpend,
      (colmapWriteEffect_frame s c e t i v).keeps⟩
  · exact exec_of_effect hlets rfl (colmapWriteEffect_of_enabled i v hen)
  · refine completes_of_lets hlets rfl ?_
    have hkeeps := (tileEnableEffect_frame s c e t false).keeps
    rw [tileEnableEffect_of_enabled hen] at hkeeps ⊢
    exact ⟨rd_wr_same _ _ _ _, tile_modTile_same _ _ _ _ _, rd_wr_of_start _ _ (by decide), agreeOff_modTile _ _ _ _ _, hkeeps⟩
  · refine completes_of_lets hlets rfl ?_
    have hkeeps := (tileDisableEffect_frame s c e t).keeps
    rw [tileDisableEffect_of_pending hpend hvecs] at hkeeps ⊢
    exact ⟨rd_wr_same _ _ _ _, tile_modTile_same _ _ _ _ _, agreeOff_modTile _ _ _ _ _,
      .of_regs rfl ((PagesKept.refl _ s).wr_page _ (.mk (by decide) (by decide) (by decide)) (List.mem_singleton_self _)), hkeeps⟩
  · obtain ⟨hreset, hsamples, hvecs⟩ := resetTile_ends s c e t
    refine completes_of_lets hlets rfl ⟨hreset, hsamples, ?_, ?_, (tileResetEffect_frame s c e t).keeps⟩
    · rw [tileResetEffect, hvecs, List.length_map]
    · intro v hv
      rw [tileResetEffect, hvecs] at hv
      obtain ⟨w, -, rfl⟩ := List.mem_map.1 hv
      exact ⟨rfl, rfl, rfl⟩
  · have heq := tileResetEndEffect_of_reset hreset
    obtain ⟨hvecs, hreset'⟩ := vecs_resetAt_startQueued (s.modTile c e t (fun x => { x with resetAt := none })) c e t
    refine completes_of_lets hlets rfl ⟨?_, ?_, (tileResetEndEffect_frame s c e t).keeps⟩
    · rw [heq, hreset', tile_modTile_same]
    · rw [heq, hvecs, tile_modTile_same]

end Sys2Proof.Machine
end

section
/-! PROOFS. Writes, releases and swaps of banks. Settles O3, O4. -/

namespace Sys2Proof.Machine

/-! ### What well-formed operands say of units -/

theorem lt_of_wfE {c e : Nat} (h : wfE c e = true) : e < 4 := by
  simp only [wfE, Bool.and_eq_true, decide_eq_true_eq] at h
  exact h.2

theorem lt_of_wfT {c e t : Nat} (h : wfT c e t = true) : e < 4 ∧ t < 17 := by
  simp only [wfT, Bool.and_eq_true, decide_eq_true_eq] at h
  exact ⟨lt_of_wfE h.1, h.2⟩

/-! ### The state of a bank after updates elsewhere -/

section read
variable (s : State) (c e t b : Nat)

@[simp] theorem bankState_modTile (d i k : Nat) (g : TileS → TileS) : (s.modTile d i k g).bankState c e t b = s.bankState c e t b := rfl
@[simp] theorem bankRows_modTile (d i k : Nat) (g : TileS → TileS) : (s.modTile d i k g).bankRows c e t b = s.bankRows c e t b := rfl
@[simp] theorem bankState_emit (p code a : Nat) : (s.emit p code a).bankState c e t b = s.bankState c e t b := rfl
@[simp] theorem bankRows_emit (p code a : Nat) : (s.emit p code a).bankRows c e t b = s.bankRows c e t b := rfl
@[simp] theorem tiles_wrB (p : Nat) (f : Fld) (v : Bool) : (s.wrB p f v).tiles = s.tiles := rfl
@[simp] theorem tiles_emit (p code a : Nat) : (s.emit p code a).tiles = s.tiles := rfl

theorem fits_sliceF : FldFits (sliceF b) := cfgFields_fit (sliceF_mem_cfgFields b)

theorem bankState_wrB_slice (two : Bool) (d : Nat) (hk : bkey t b < 34) :
    (s.wrB (tilePg c e t) (sliceF d) two).bankState c e t b = s.bankState c e t b :=
  rd_wr_of_page _ _ (fits_sliceF d) (fits_bankState hk) (engPg_ne_tilePg c e t)

theorem bankRows_wrB_slice (two : Bool) (d : Nat) (hk : bkey t b < 34) :
    (s.wrB (tilePg c e t) (sliceF d) two).bankRows c e t b = s.bankRows c e t b :=
  rd_wr_of_page _ _ (fits_sliceF d) (fits_bankRows hk) (engPg_ne_tilePg c e t)

end read

section commands
variable {s : State} {c e t b : Nat}

/-! ### BANK_WRITE and BANK_RELEASE (R54, R55, R74) -/

theorem bankWriteEffect_of_issuable {d : Desc} (h : s.issuable c e 0x20 = some d) : ∃ left : List Nat,
    bankWriteEffect s c e = (left.foldl (fun u k => u.startQueued c e (k / 32))
      ((s.issue c e d).addOp c e (EngOp.new d (maskTiles d.mask) left))).pump c := by
  rw [bankWriteEffect, h]
  exact ⟨_, rfl⟩

/-- The operation of the command that issues is the newest of its engine. -/
theorem issued_bankWriteEffect {d : Desc} (h : s.issuable c e 0x20 = some d) :
    (bankWriteEffect s c e).issued c e = s.issued c e ++ [(d, maskTiles d.mask)] := by
  obtain ⟨left, heq⟩ := bankWriteEffect_of_issuable h
  rw [heq, State.issued, ops_pump, ← State.issued, issued_foldl_startQueued, State.issued, ops_addOp, ops_issue, List.map_append]
  rfl

theorem bankWriteDoneEffect_of_fill {w : BankWr} (h : ((s.tile c e t).bank b).wr = some w) (hk : w.kind = .fill) :
    bankWriteDoneEffect s c e t b = s.fillDone c e t b w := by
  rw [bankWriteDoneEffect, h]
  simp [hk]

/-- A fill ends with the end of its write; the slice bit and a fault's record come after. -/
theorem fillDone_eq (s : State) (c e t b : Nat) (w : BankWr) : ∃ two : Bool,
    let u := (s.endWrite c e t b w (if w.resident then 2 else 1) w.limit).wrB (tilePg c e t) (sliceF b) two
    s.fillDone c e t b w = u ∨ s.fillDone c e t b w = u.emit (engPg c e) 0x1036 (bankAddr e t b) := by
  unfold State.fillDone
  dsimp only
  split
  · exact ⟨_, .inr rfl⟩
  · exact ⟨_, .inl rfl⟩

/-- A bank filled reads RESIDENT or STREAMED with the rows of its write, which is over. -/
theorem fillDone_bank (s : State) (c e t b : Nat) (w : BankWr) (he : e < 4) (hk : bkey t b < 34) :
    (s.fillDone c e t b w).bankState c e t b = (if w.resident then 2 else 1)
    ∧ (s.fillDone c e t b w).bankRows c e t b = w.rows % 2 ^ (ENG.BANK_STATE_ROWS (bkey t b)).width := by
  obtain ⟨two, heq | heq⟩ := fillDone_eq s c e t b w
  all_goals
    simp only [heq, bankState_emit, bankRows_emit, bankState_wrB_slice _ _ _ _ _ _ _ hk, bankRows_wrB_slice _ _ _ _ _ _ _ hk]
    refine ⟨bankState_endWrite _ _ _ _ _ _ _ _ he hk ?_, bankRows_endWrite _ _ _ _ _ _ _ _ he hk⟩
    split <;> decide

theorem fillDone_tile (s : State) (c e t b : Nat) (w : BankWr) :
    (((s.fillDone c e t b w).tile c e t).bank b).wr = none ∧ ((s.fillDone c e t b w).tile c e t).writes = (s.tile c e t).writes + 1
    ∧ AgreeOff [c * 128 + e * 32 + t] s.tiles (s.fillDone c e t b w).tiles := by
  obtain ⟨two, heq | heq⟩ := fillDone_eq s c e t b w
  all_goals
    simp only [heq, tile_emit, tiles_emit, tile_wrB, tiles_wrB]
    exact ⟨wr_endWrite _ _ _ _ _ _ _ _, writes_endWrite _ _ _ _ _ _ _ _, agreeOff_endWrite _ _ _ _ _ _ _ _⟩

theorem bankReleaseEffect_of_idle {v : Nat} (ht : field v 0 5 ≤ 16) (hb : s.computeBank c e (field v 0 5) ≠ field v 8 1)
    (hw : s.rdB (engPg c e) (ENG.BANK_STATE_WRITING (bkey (field v 0 5) (field v 8 1))) = false) :
    ∃ g, bankReleaseEffect s c e v = (s.emptyBank c e (field v 0 5) (field v 8 1)).modTile c e (field v 0 5) g := by
  rw [bankReleaseEffect, if_neg (by simp [hb, hw]; omega)]
  exact ⟨_, rfl⟩

theorem bankReleaseEffect_of_compute {v : Nat} (h : s.computeBank c e (field v 0 5) = field v 8 1) :
    bankReleaseEffect s c e v = s.refuse (engPg c e) := by
  rw [bankReleaseEffect, if_pos (.inr (.inl h))]

/-! ### BANK_SWAP (R58, R59) -/

theorem bankSwapIssueEffect_of_issuable {d : Desc} (h : s.issuable c e 0x21 = some d) : ∃ left : List Nat,
    bankSwapIssueEffect s c e = ((s.issue c e d).addOp c e (EngOp.new d (maskTiles d.mask) left)).pump c := by
  rw [bankSwapIssueEffect, h]
  exact ⟨_, rfl⟩

/-- The swap that issues is in flight, not yet judged. -/
theorem exists_op_bankSwapIssueEffect {d : Desc} (h : s.issuable c e 0x21 = some d) :
    ∃ o ∈ ((bankSwapIssueEffect s c e).eng c e).ops, o.d = d ∧ o.tiles = maskTiles d.mask ∧ o.judged = false := by
  obtain ⟨left, heq⟩ := bankSwapIssueEffect_of_issuable h
  rw [heq, ops_pump, ops_addOp]
  exact ⟨_, List.mem_append_right _ (List.mem_singleton_self _), rfl, rfl, rfl⟩

section judge
variable {o : EngOp} (ho : (s.eng c e).ops.find? (fun q => q.d.opcode == 0x21 && !q.judged) = some o)
  (hw : swapWaits (s.eng c e).ops o = false)
include ho hw

theorem bankSwapJudgeEffect_of_good (h : ∀ k ∈ o.left, s.swapBad c e (k / 32) = false) :
    bankSwapJudgeEffect s c e = s.modOp c e o.d.tag (fun q => { q with judged := true }) := by
  have hany : o.left.any (fun k => s.swapBad c e (k / 32)) = false := by simpa using h
  simp only [bankSwapJudgeEffect, ho, hw, hany, Bool.false_eq_true, if_false]

theorem bankSwapJudgeEffect_of_bad (h : ∃ k ∈ o.left, s.swapBad c e (k / 32) = true) :
    bankSwapJudgeEffect s c e = ((s.dropOp c e o.d.tag).irq (engPg c e) 4).haltFault c (engPg c e) 0x1034 0 o.d.addr := by
  have hany : o.left.any (fun k => s.swapBad c e (k / 32)) = true := by simpa using h
  simp only [bankSwapJudgeEffect, ho, hw, hany, Bool.false_eq_true, if_false, if_true]

end judge

end commands

/-! ### A core that halts (R187) -/

theorem halted_haltCore {s : State} {c : Nat} (h : coreState s c = 1) (cause addr : Nat) {code : Nat} (hcode : code < 2 ^ 16) :
    coreState (s.haltCore c cause code addr) c = 2 ∧ (s.haltCore c cause code addr).rd (corePg c) CORE.HALT_INFO_CODE = code := by
  unfold State.haltCore
  rw [if_neg (by omega)]
  dsimp only
  split
  all_goals
    simp only [coreState, rd_send]
    constructor
    · rw [rd_wr_of_start _ _ (by decide), rd_wr_of_start _ _ (by decide), rd_wr_of_start _ _ (by decide), rd_wr_same]
      rfl
    · rw [rd_wr_of_start _ _ (by decide), rd_wr_same]
      exact Nat.mod_eq_of_lt hcode

/-- An interrupt leaves the state of every core. -/
theorem coreState_irq (s : State) (c p i : Nat) : coreState (s.irq p i) c = coreState s c := by
  refine rd_irq s p i (corePg c) CORE.STAT_STATE ⟨?_, fun k _ => ?_, ?_⟩
  all_goals
    simp only [fkey, CORE.STAT_STATE, HDR.IRQ_STAT, DIE.IRQ_PAGES, DIE.IRQ_DIES]
    omega

theorem coreState_dropOp_irq (s : State) (c e tag p i : Nat) : coreState ((s.dropOp c e tag).irq p i) c = coreState s c := by
  rw [coreState_irq]
  rfl

/-! ### The swap of a tile's banks (R58) -/

theorem bankSwapTileEffect_of_judged {s : State} {c e t : Nat} {o : EngOp}
    (ho : (s.eng c e).ops.find? (fun q => q.d.opcode == 0x21 && q.left.any (fun k => k / 32 == t)) = some o) (hj : o.judged = true)
    (hs : (s.tile c e t).splitting = false) (hv : ∀ v ∈ (s.tile c e t).vecs, v.finished = true) :
    bankSwapTileEffect s c e t
      = (s.flipBank c e t).modOp c e o.d.tag (fun q => { q with left := q.left.filter (fun k => k / 32 != t) }) := by
  have hfree : (s.tile c e t).vecs.any (fun v => !v.finished && (opsBefore (s.eng c e).ops o.d.tag).any (fun q => q.d.tag == v.tag))
      = false := by
    rw [List.any_eq_false]
    intro v hmem
    simp [hv v hmem]
  simp only [bankSwapTileEffect, ho, hj, hs, hfree, Bool.not_true, Bool.or_self, Bool.false_eq_true, if_false]

/-- Settles O3: a write that issues adds one operation, a fill ends its bank's write, and a release is `emptyBank` or refused. -/
theorem banksAreWrittenAndReleased : Obligations.BanksAreWrittenAndReleased := by
  unfold Obligations.BanksAreWrittenAndReleased
  refine fun s c e t b => ⟨fun d hlets hd => ?_, fun w hlets hw hk => ?_, fun v hlets ht hb hw => ?_, fun v hlets hb => ?_⟩
  · have hissued := issued_bankWriteEffect hd
    refine completes_of_lets hlets rfl ⟨mem_issued (by rw [hissued]; exact List.mem_append_right _ (List.mem_singleton_self _)), ?_,
      (bankWriteEffect_frame s c e).keeps⟩
    rw [← length_issued, ← length_issued, hissued, List.length_append, List.length_singleton]
  · have hwf := hlets.1
    simp only [Instr.wf, Bool.and_eq_true, decide_eq_true_eq] at hwf
    obtain ⟨he, ht⟩ := lt_of_wfT hwf.1
    have hkeeps := (bankWriteDoneEffect_frame s c e t b).keeps
    rw [bankWriteDoneEffect_of_fill hw hk] at hkeeps
    obtain ⟨hstate, hrows⟩ := fillDone_bank s c e t b w he (bkey_lt ht hwf.2)
    obtain ⟨hwr, hwrites, htiles⟩ := fillDone_tile s c e t b w
    exact ⟨_, exec_of_effect hlets rfl (bankWriteDoneEffect_of_fill hw hk), hstate, hrows, hwr, hwrites, htiles, hkeeps⟩
  · obtain ⟨g, heq⟩ := bankReleaseEffect_of_idle ht hb hw
    refine completes_of_lets hlets rfl ⟨?_, ?_, (bankReleaseEffect_frame s c e v).keeps⟩
    · rw [heq, bankState_modTile, bankState_emptyBank]
    · rw [heq, bankRows_modTile, bankRows_emptyBank]
  · exact exec_of_effect hlets rfl (bankReleaseEffect_of_compute hb)

/-- Settles O4: issue adds the operation unjudged, judgement marks it or halts its core, and each tile's swap is `flipBank`. -/
theorem bankSwapsExchangeComputeAndIdle : Obligations.BankSwapsExchangeComputeAndIdle := by
  unfold Obligations.BankSwapsExchangeComputeAndIdle
  refine fun s c e t => ⟨fun d hlets hd => ?_, fun o hlets ho hw hgood => ?_, fun o hlets ho hw hbad hrun => ?_,
    fun o hlets ho hj hs hv hb => ?_⟩
  · exact completes_of_lets hlets rfl ⟨exists_op_bankSwapIssueEffect hd, (bankSwapIssueEffect_frame s c e).keeps⟩
  · exact exec_of_effect hlets rfl (bankSwapJudgeEffect_of_good ho hw hgood)
  · have hemit : coreState (((s.dropOp c e o.d.tag).irq (engPg c e) 4).emit (engPg c e) 0x1034 0) c = 1 :=
      (coreState_dropOp_irq s c e o.d.tag (engPg c e) 4).trans hrun
    obtain ⟨hstate, hinfo⟩ := halted_haltCore hemit 1 o.d.addr (show 0x1034 < 2 ^ 16 by decide)
    have htiles : (bankSwapJudgeEffect s c e).tiles = s.tiles := (bankSwapJudgeEffect_frame s c e).tiles_eq (by decide)
    rw [bankSwapJudgeEffect_of_bad ho hw hbad] at htiles
    exact ⟨_, exec_of_effect hlets rfl (bankSwapJudgeEffect_of_bad ho hw hbad), hstate, hinfo, htiles⟩
  · have heq := bankSwapTileEffect_of_judged ho hj hs hv
    have hkeeps := (bankSwapTileEffect_frame s c e t).keeps
    rw [heq] at hkeeps
    refine ⟨_, exec_of_effect hlets rfl heq, ?_, ?_, ?_, ?_, hkeeps⟩
    · exact computeBank_flipBank s c e t hb
    · rw [tile_modOp, epoch_flipBank]
    · exact agreeOff_flipBank s c e t
    · exact pagesKept_flipBank s c e t

end Sys2Proof.Machine
end

section
/-! PROOFS. Refresh and wear levelling. Settles O5. -/

namespace Sys2Proof.Machine

section commands
variable {s : State} {c e t b : Nat}

/-! ### Refresh (R61, R63) -/

section row
variable (hstate : s.bankState c e t b = 2) (hwr : ((s.tile c e t).bank b).wr = none) (hrows : s.bankRows c e t b ≠ 0)
  (hheld : s.refreshHeld c e t = false)
include hstate hwr hrows hheld

theorem refreshRowEffect_of_idle (hb : s.computeBank c e t ≠ b) :
    refreshRowEffect s c e t b = s.refreshRowNow c e t b ((s.tile c e t).bank b).sweep := by
  rw [refreshRowEffect, if_neg (by simp [hstate, hwr, hrows, hheld]), if_neg hb]

theorem refreshRowEffect_of_compute (hb : s.computeBank c e t = b) (hdue : ((s.tile c e t).bank b).due = none) :
    refreshRowEffect s c e t b = s.modTile c e t (fun x => x.modBank b (fun z => { z with due := some z.sweep })) := by
  rw [refreshRowEffect, if_neg (by simp [hstate, hwr, hrows, hheld]), if_pos hb, if_neg (by simp [hdue])]

end row

theorem refreshSlotEffect_of_due {r : Nat} (h : ((s.tile c e t).bank (s.computeBank c e t)).due = some r)
    (hs : (s.tile c e t).splitting = false) (hheld : s.refreshHeld c e t = false) :
    refreshSlotEffect s c e t
      = (s.inc (engPg c e) ENG.REFRESH_SLOT_CNT).refreshRowNow c e t (s.computeBank c e t) r := by
  simp [refreshSlotEffect, h, hs, hheld]

theorem intervalUs_inc_slot : (s.inc (engPg c e) ENG.REFRESH_SLOT_CNT).intervalUs c e = s.intervalUs c e :=
  rd_wr_of_start _ _ (by decide)

/-! ### The outlier set of a bank (R110) -/

theorem fldStart_outlState (k : Nat) : fldStart (ENG.OUTL_SET_STATE k) = 14366 + 32 * k := by
  simp only [fldStart, ENG.OUTL_SET_STATE]
  omega

theorem fldStart_outlSparse (k : Nat) : fldStart (ENG.OUTL_SET_SPARSE_N k) = 14352 + 32 * k := by
  simp only [fldStart, ENG.OUTL_SET_SPARSE_N]
  omega

theorem fldStart_outlStatic (k : Nat) : fldStart (ENG.OUTL_SET_STATIC_N k) = 14336 + 32 * k := by
  simp only [fldStart, ENG.OUTL_SET_STATIC_N]
  omega

/-- A register of the engine's page from OUTL_SET on lies past BANK_STATE. -/
theorem bankState_wr_outl (s : State) {f : Fld} (v : Nat) (hk : bkey t b < 34) (hf : 14336 ≤ fldStart f) :
    (s.wr (engPg c e) f v).bankState c e t b = s.bankState c e t b := by
  refine rd_wr_of_start _ _ ?_
  rw [fldStart_bankState]
  omega

theorem bankState_modEng (s : State) (g : EngineS → EngineS) : (s.modEng c e g).bankState c e t b = s.bankState c e t b := rfl

theorem bankState_emptySet (s : State) (hk : bkey t b < 34) : (s.emptySet c e t b).bankState c e t b = s.bankState c e t b := by
  unfold State.emptySet
  dsimp only
  rw [bankState_modEng, bankState_wr_outl _ _ hk (by rw [fldStart_outlStatic]; omega),
    bankState_wr_outl _ _ hk (by rw [fldStart_outlSparse]; omega), bankState_wr_outl _ _ hk (by rw [fldStart_outlState]; omega)]

theorem pagesKept_emptySet (s : State) (hk : bkey t b < 34) : PagesKept [engPg c e] s (s.emptySet c e t b) := by
  have hp : engPg c e ∈ [engPg c e] := List.mem_singleton_self _
  have hstate : FldFits (ENG.OUTL_SET_STATE (bkey t b)) := .mk (by decide) (by omega) (by decide)
  have hsparse : FldFits (ENG.OUTL_SET_SPARSE_N (bkey t b)) := .mk (by decide) (by omega) (by decide)
  have hstatic : FldFits (ENG.OUTL_SET_STATIC_N (bkey t b)) := .mk (by decide) (by omega) (by decide)
  exact .of_regs rfl ((((PagesKept.refl _ s).wr_page 0 hstate hp).wr_page 0 hsparse hp).wr_page 0 hstatic hp)

/-! ### Wear levelling (R70, R71) -/

/-- The write that a wear-levelling move begins: the compute bank's rows, from its shadow, into the idle bank. -/
def State.beginMove (s : State) (c e t : Nat) : State :=
  (s.beginWrite c e t (1 - s.computeBank c e t) .wear (s.bankRows c e t (s.computeBank c e t))
    (s.rdA (engPg c e) (ENG.BANK_STATE_SHADOW (bkey t (s.computeBank c e t)))) true
    (s.rd (tilePg c e t) (limitF (s.computeBank c e t))) 63).1

theorem beginMove_wr (s : State) (c e t : Nat) :
    ∃ w, (((s.beginMove c e t).tile c e t).bank (1 - s.computeBank c e t)).wr = some w ∧ w.kind = .wear
      ∧ w.rows = s.bankRows c e t (s.computeBank c e t) := beginWrite_wr _ _ _ _ _ _ _ _ _ _ _

theorem writing_beginMove (s : State) (c e t : Nat) :
    (s.beginMove c e t).rd (engPg c e) (ENG.BANK_STATE_WRITING (bkey t (1 - s.computeBank c e t))) = 1 :=
  writing_beginWrite _ _ _ _ _ _ _ _ _ _ _

@[simp] theorem TileS.bank_wearPhase (x : TileS) (n b : Nat) : { x with wearPhase := n }.bank b = x.bank b := rfl

/-- Once the incoming bank is written, it takes the slice mode and the outlier set of bank `b`, and the move waits for its swap. -/
def State.takeBank (s : State) (c e t b : Nat) (two : Bool) : State :=
  let p := engPg c e
  let k := bkey t b
  let k' := bkey t (1 - b)
  let s := s.wrB (tilePg c e t) (sliceF (1 - b)) two
  let s := ((s.wr p (ENG.OUTL_SET_STATE k') (s.rd p (ENG.OUTL_SET_STATE k))).wr p (ENG.OUTL_SET_SPARSE_N k')
    (s.rd p (ENG.OUTL_SET_SPARSE_N k))).wr p (ENG.OUTL_SET_STATIC_N k') (s.rd p (ENG.OUTL_SET_STATIC_N k))
  let set := s.outSet c e t b
  (s.modEng c e (fun y => { y with osets := mput y.osets k' set })).modTile c e t (fun y => { y with wearPhase := 2 })

theorem bankState_takeBank (s : State) (two : Bool) (hk : bkey t (1 - b) < 34) :
    (s.takeBank c e t b two).bankState c e t (1 - b) = s.bankState c e t (1 - b) := by
  unfold State.takeBank
  dsimp only
  rw [bankState_modTile, bankState_modEng, bankState_wr_outl _ _ hk (by rw [fldStart_outlStatic]; omega),
    bankState_wr_outl _ _ hk (by rw [fldStart_outlSparse]; omega), bankState_wr_outl _ _ hk (by rw [fldStart_outlState]; omega),
    bankState_wrB_slice _ _ _ _ _ _ _ hk]

theorem tile_takeBank (s : State) (two : Bool) :
    (s.takeBank c e t b two).tile c e t = { s.tile c e t with wearPhase := 2 } := by
  simp [State.takeBank]

theorem wearWriteDoneEffect_of_write {w : BankWr} (hw : ((s.tile c e t).bank (1 - s.computeBank c e t)).wr = some w)
    (hk : w.kind = .wear) (hp : (s.tile c e t).wearPhase = 1) :
    let b := s.computeBank c e t
    let u := (s.endWrite c e t (1 - b) w 2 (s.rd (tilePg c e t) (limitF b))).takeBank c e t b (s.twoSlice c e t b)
    wearWriteDoneEffect s c e t = if w.poisonHit then u.emit (engPg c e) 0x1036 (bankAddr e t (1 - b)) else u := by
  unfold wearWriteDoneEffect
  dsimp only
  rw [hw]
  dsimp only
  rw [if_neg (by simp [hk, hp])]
  rfl

/-- The write of a move ends as every write does; the move then waits for its swap. -/
theorem wearWriteDoneEffect_bank {w : BankWr} (hw : ((s.tile c e t).bank (1 - s.computeBank c e t)).wr = some w)
    (hk : w.kind = .wear) (hp : (s.tile c e t).wearPhase = 1) (he : e < 4) (hb : bkey t (1 - s.computeBank c e t) < 34) :
    ((wearWriteDoneEffect s c e t).tile c e t).wearPhase = 2
    ∧ (wearWriteDoneEffect s c e t).bankState c e t (1 - s.computeBank c e t) = 2
    ∧ (((wearWriteDoneEffect s c e t).tile c e t).bank (1 - s.computeBank c e t)).wr = none := by
  rw [wearWriteDoneEffect_of_write hw hk hp]
  split
  all_goals
    simp only [tile_emit, bankState_emit, tile_takeBank, bankState_takeBank _ _ hb]
    exact ⟨trivial, bankState_endWrite _ _ _ _ _ _ _ _ he hb (by decide), wr_endWrite s c e t _ w 2 _⟩

/-- The vacated bank becomes EMPTY with its outlier set, and the move's time stands. -/
theorem wearSwapEffect_of_written (hp : (s.tile c e t).wearPhase = 2) (hv : (s.tile c e t).vecs = []) :
    wearSwapEffect s c e t =
      let u := ((s.flipBank c e t).emptyBank c e t (s.computeBank c e t)).emptySet c e t (s.computeBank c e t)
      (u.inc (engPg c e) ENG.WEAR_SWAP_CNT).modTile c e t (fun y => { y with wearPhase := 0, lastWear := some u.now }) := by
  rw [wearSwapEffect, if_neg (by simp [hp, hv])]

/-- What becomes EMPTY lies in the engine's page: the tile's page keeps the exchange of its banks. -/
theorem pagesKept_wearSwapEffect (hp : (s.tile c e t).wearPhase = 2) (hv : (s.tile c e t).vecs = [])
    (hk : bkey t (s.computeBank c e t) < 34) : PagesKept [engPg c e] (s.flipBank c e t) (wearSwapEffect s c e t) := by
  have hcnt : FldFits ENG.WEAR_SWAP_CNT := .mk (by decide) (by decide) (by decide)
  rw [wearSwapEffect_of_written hp hv]
  have hempty := (pagesKept_emptyBank (s.flipBank c e t) c e t _ hk).trans (pagesKept_emptySet _ hk)
  exact .of_regs (modTile_regs _ _ _ _ _) (hempty.inc 1 hcnt (List.mem_singleton_self _))

theorem wearSwapEffect_bank (hp : (s.tile c e t).wearPhase = 2) (hv : (s.tile c e t).vecs = []) (ht : t < 17)
    (hb : s.computeBank c e t < 2) :
    (wearSwapEffect s c e t).computeBank c e t = 1 - s.computeBank c e t
    ∧ (wearSwapEffect s c e t).bankState c e t (s.computeBank c e t) = 0
    ∧ ((wearSwapEffect s c e t).tile c e t).wearPhase = 0
    ∧ ((wearSwapEffect s c e t).tile c e t).lastWear = some s.now := by
  have hk := bkey_lt ht hb
  have hfit : FldFits TILE.CFG_COMPUTE_BANK := .mk (by decide) (by decide) (by decide)
  have hpage : tilePg c e t ∉ [engPg c e] := by simpa using (engPg_ne_tilePg c e t).symm
  have hnow : (((s.flipBank c e t).emptyBank c e t (s.computeBank c e t)).emptySet c e t (s.computeBank c e t)).now = s.now := by
    rw [(State.emptySet_frame ..).now_eq (by decide), (State.emptyBank_frame ..).now_eq (by decide),
      (State.flipBank_frame ..).now_eq (by decide)]
  refine ⟨((pagesKept_wearSwapEffect hp hv hk).rd_eq hfit hpage).trans (computeBank_flipBank s c e t hb), ?_⟩
  rw [wearSwapEffect_of_written hp hv]
  dsimp only
  rw [tile_modTile_same, bankState_modTile, State.inc, State.bankState, rd_wr_of_start, ← State.bankState, bankState_emptySet _ hk,
    bankState_emptyBank]
  · exact ⟨rfl, rfl, congrArg some hnow⟩
  · have hcnt : fldStart ENG.WEAR_SWAP_CNT = 2368 := rfl
    rw [fldStart_bankState]
    omega

end commands

/-- Settles O5: the refresh of a row by the bank it leaves, and the three steps of a wear-levelling move by what each writes. -/
theorem refreshAndWearMovesKeepTheirOrder : Obligations.RefreshAndWearMovesKeepTheirOrder := by
  unfold Obligations.RefreshAndWearMovesKeepTheirOrder
  refine ⟨fun s c e t b => ⟨fun hlets hstate hwr hrows hheld hb => ?_, fun hlets hstate hwr hrows hheld hb hdue => ?_,
    fun r hlets hdue hs hheld => ?_⟩, fun s c e t => ⟨fun hlets hstop hen hstate hidle hlast hwr hreset hphase hfill hrot hstand => ?_,
    fun w hlets hb hw hk hp => ?_, fun hlets hb hp hv => ?_⟩⟩
  · have heq := refreshRowEffect_of_idle hstate hwr hrows hheld hb
    obtain ⟨y, hy, hrefreshed, -, hsweep⟩ := bank_refreshRowNow s c e t b ((s.tile c e t).bank b).sweep
    refine completes_of_lets hlets rfl ⟨?_, ?_, ?_, (refreshRowEffect_frame s c e t b).keeps⟩
    all_goals rw [heq]
    · rw [hy, hsweep]
    · rw [hy, hrefreshed]
    · exact agreeOff_refreshRowNow s c e t b _
  · have heq := refreshRowEffect_of_compute hstate hwr hrows hheld hb hdue
    refine completes_of_lets hlets rfl ?_
    rw [heq]
    exact ⟨by rw [tile_modTile_same, TileS.bank_modBank], rfl, agreeOff_modTile _ _ _ _ _, (State.modTile_frame _ _ _ _ _).keeps⟩
  · have heq := refreshSlotEffect_of_due hdue hs hheld
    obtain ⟨y, hy, hrefreshed, hdue', -⟩ :=
      bank_refreshRowNow (s.inc (engPg c e) ENG.REFRESH_SLOT_CNT) c e t (s.computeBank c e t) r
    refine completes_of_lets hlets rfl ⟨?_, ?_, ?_, (refreshSlotEffect_frame s c e t).keeps⟩
    all_goals rw [heq]
    · rw [hy, hdue']
    · rw [hy, hrefreshed, intervalUs_inc_slot]
      rfl
    · exact agreeOff_refreshRowNow (s.inc (engPg c e) ENG.REFRESH_SLOT_CNT) c e t _ r
  · have heq : wearStartEffect s c e t = (s.beginMove c e t).modTile c e t (fun y => { y with wearPhase := 1 }) := by
      rw [wearStartEffect, if_neg (by simp [hstop, hen, hstate, hidle, hlast, hwr, hreset, hphase, hfill, hrot, hstand])]
      rfl
    obtain ⟨w, hw, hkind, hwrows⟩ := beginMove_wr s c e t
    refine completes_of_lets hlets rfl ⟨?_, ⟨w, ?_, hkind, hwrows⟩, ?_, (wearStartEffect_frame s c e t).keeps⟩
    all_goals rw [heq]
    · rw [tile_modTile_same]
    · rw [tile_modTile_same, TileS.bank_wearPhase, hw]
    · rw [rd_modTile, writing_beginMove]
  · obtain ⟨he, ht⟩ := lt_of_wfT hlets.1
    obtain ⟨hphase, hstate, hwr⟩ := wearWriteDoneEffect_bank hw hk hp he (bkey_lt ht (by omega))
    exact completes_of_lets hlets rfl ⟨hphase, hstate, hwr, (wearWriteDoneEffect_frame s c e t).keeps⟩
  · obtain ⟨-, ht⟩ := lt_of_wfT hlets.1
    obtain ⟨hbank, hstate, hphase, hlast⟩ := wearSwapEffect_bank hp hv ht hb
    exact completes_of_lets hlets rfl ⟨hbank, hstate, hphase, hlast, (wearSwapEffect_frame s c e t).keeps⟩

end Sys2Proof.Machine
end

section
/-! PROOFS. What issue and dispatch leave of the engines and registers, and what an event on a page of a die leaves of a core's
pages. -/

namespace Sys2Proof.Machine

/-- Where a field lies and fits, as a check that evaluates. -/
theorem FldFits.of_check {f : Fld} (h : 0 < f.width ∧ fldStart f + f.width ≤ 32768 ∧ f.reset < 2 ^ f.width) : FldFits f := h

/-! ### Only the queues of a core move (R171 to R173, R187) -/

/-- An engine beside its queue and the tag it issued last. -/
def EngineS.work (x : EngineS) : EngineS := { x with queue := [], prev := none }

/-- From `s` to `u` the engines keep all but their queues, and the registers all but core `c`'s CORE page. -/
structure QueuesOnly (c : Nat) (s u : State) : Prop where
  pages : PagesKept [corePg c] s u
  work : ∀ d i, (u.eng d i).work = (s.eng d i).work

section queues
variable {c : Nat} {s t u : State}

theorem QueuesOnly.refl (c : Nat) (s : State) : QueuesOnly c s s := ⟨.refl _ _, fun _ _ => rfl⟩

theorem QueuesOnly.trans (h : QueuesOnly c s t) (k : QueuesOnly c t u) : QueuesOnly c s u :=
  ⟨h.pages.trans k.pages, fun d i => (k.work d i).trans (h.work d i)⟩

theorem QueuesOnly.of_frame {P : List Part} (h : Frame P s u) (hr : .regs ∉ P) (he : .engines ∉ P) : QueuesOnly c s u :=
  ⟨.of_regs (h.keeps .regs hr) (.refl _ _), fun d i => by rw [h.eng_eq he]⟩

theorem QueuesOnly.wr (h : QueuesOnly c s t) {f : Fld} (v : Nat) (hf : FldFits f) : QueuesOnly c s (t.wr (corePg c) f v) :=
  ⟨h.pages.wr_page v hf (List.mem_singleton_self _), h.work⟩

theorem QueuesOnly.modCore (h : QueuesOnly c s t) (i : Nat) (g : CoreS → CoreS) : QueuesOnly c s (t.modCore i g) :=
  ⟨.of_regs rfl h.pages, h.work⟩

theorem queuesOnly_modEng {g : EngineS → EngineS} (hg : ∀ x, (g x).work = x.work) (s : State) (c d i : Nat) :
    QueuesOnly c s (s.modEng d i g) := by
  refine ⟨.of_regs rfl (.refl _ _), fun k j => ?_⟩
  by_cases hk : k * 4 + j = d * 4 + i
  · simp [State.modEng, State.setEng, State.eng, hk, hg]
  · simp [State.modEng, State.setEng, State.eng, mget_mput_other _ _ _ _ _ hk]

theorem queuesOnly_foldl_modEng {g : EngineS → EngineS} (hg : ∀ x, (g x).work = x.work) (c d : Nat) (l : List Nat) (s : State) :
    QueuesOnly c s (l.foldl (fun s i => s.modEng d i g) s) := by
  induction l generalizing s with
  | nil => exact .refl _ _
  | cons i l ih => exact (queuesOnly_modEng hg s c d i).trans (ih _)

theorem queuesOnly_haltCore (s : State) (c cause code addr : Nat) : QueuesOnly c s (s.haltCore c cause code addr) := by
  unfold State.haltCore
  split
  · exact .refl _ _
  have hclaims : QueuesOnly c s (s.dropClaims c) := .of_frame (State.dropClaims_frame s c) (by decide) (by decide)
  have hqueues := hclaims.trans (queuesOnly_foldl_modEng (g := fun x => { x with queue := [] }) (fun _ => rfl) c c (List.range 4) _)
  have hregs (g : CoreS → CoreS) := ((((hqueues.modCore c g).wr 2 (f := CORE.STAT_STATE) (.of_check (by decide))).wr cause
    (f := CORE.STAT_CAUSE) (.of_check (by decide))).wr code (f := CORE.HALT_INFO_CODE) (.of_check (by decide))).wr addr
    (f := CORE.HALT_INFO_ADDR) (.of_check (by decide))
  dsimp only
  split
  · exact hregs _
  · exact (hregs _).trans (.of_frame (State.send_frame _ _) (by decide) (by decide))

theorem queuesOnly_haltFault (s : State) (c p code addr da : Nat) : QueuesOnly c s (s.haltFault c p code addr da) :=
  (QueuesOnly.of_frame (State.emit_frame s p code addr) (by decide) (by decide)).trans (queuesOnly_haltCore _ c 1 code da)

theorem queuesOnly_enqueue (s : State) (c q : Nat) (x : Desc) : QueuesOnly c s (s.enqueue c q x) := by
  unfold State.enqueue
  split
  · exact queuesOnly_modEng (by intro _; rfl) s c c q
  · repeat' split
    all_goals exact (QueuesOnly.refl c s).modCore c _

theorem queuesOnly_dequeue (s : State) (c q : Nat) (x : Desc) : QueuesOnly c s (s.dequeue c q x) := by
  unfold State.dequeue
  split
  · exact queuesOnly_modEng (by intro _; rfl) s c c q
  · repeat' split
    all_goals exact (QueuesOnly.refl c s).modCore c _

theorem queuesOnly_takeWait (s : State) (c q : Nat) (x : Desc) : QueuesOnly c s (s.takeWait c q x) := by
  unfold State.takeWait
  split
  · exact .refl _ _
  split
  · exact (QueuesOnly.refl c s).wr _ (.mk (by decide) (by omega) (by decide))
  · exact (QueuesOnly.refl c s).modCore c _

theorem queuesOnly_issue (s : State) (c q : Nat) (x : Desc) : QueuesOnly c s (s.issue c q x) :=
  (queuesOnly_takeWait s c q x).trans (queuesOnly_dequeue _ c q x)

theorem queuesOnly_popDesc (s : State) (c addr : Nat) : QueuesOnly c s (s.popDesc c addr) :=
  (((QueuesOnly.refl c s).modCore c _).wr _ (f := CORE.STREAM_PC) (.of_check (by decide))).wr _ (f := CORE.DISPATCH_CNT)
    (.of_check (by decide))

theorem queuesOnly_dispatchOne (h : s.dispatchOne c = some u) : QueuesOnly c s u := by
  unfold State.dispatchOne at h
  split at h
  · cases h
  split at h
  · cases h
  split at h
  · obtain rfl := Option.some.inj h
    exact queuesOnly_haltFault ..
  dsimp only at h
  split at h
  · cases h
  split at h
  · cases h
  · obtain rfl := Option.some.inj h
    exact (queuesOnly_popDesc ..).trans (queuesOnly_enqueue ..)

theorem queuesOnly_pumpN (c n : Nat) (s : State) : QueuesOnly c s (State.pumpN n s c) := by
  induction n generalizing s with
  | zero => exact .refl _ _
  | succ n ih =>
    rw [State.pumpN]
    split
    · next h => exact (queuesOnly_dispatchOne h).trans (ih _)
    · exact .refl _ _

theorem queuesOnly_pump (s : State) (c : Nat) : QueuesOnly c s (s.pump c) :=
  (queuesOnly_pumpN c 130 s).trans (.of_frame (State.headClaims_frame _ c) (by decide) (by decide))

/-! ### What stands while only queues move -/

section
variable (h : QueuesOnly c s u) (d i : Nat)
include h

theorem QueuesOnly.acc_eq (a : Nat) : u.acc d i a = s.acc d i a := by
  simp only [State.acc, show (u.eng d i).accs = (s.eng d i).accs from (congrArg EngineS.accs (h.work d i) :)]

theorem QueuesOnly.outSet_eq (t b : Nat) : u.outSet d i t b = s.outSet d i t b := by
  simp only [State.outSet, show (u.eng d i).osets = (s.eng d i).osets from (congrArg EngineS.osets (h.work d i) :)]

theorem QueuesOnly.force_eq : (u.eng d i).force = (s.eng d i).force := (congrArg EngineS.force (h.work d i) :)

theorem QueuesOnly.rd_eng {f : Fld} (hf : FldFits f) : u.rd (engPg c i) f = s.rd (engPg c i) f :=
  h.pages.rd_eq hf (by simp only [List.mem_singleton, engPg, corePg]; omega)

theorem QueuesOnly.rd_tile {f : Fld} (hf : FldFits f) (t : Nat) : u.rd (tilePg c i t) f = s.rd (tilePg c i t) f :=
  h.pages.rd_eq hf (by simp only [List.mem_singleton, tilePg, corePg]; omega)

end

end queues

/-! ### Events of other pages (R406, R413) -/

/-- An event gathers on the pages in front of a die's core slots: only IRQ_STAT of the event's own page lies in a core's pages. -/
theorem irqFree_of_core_page {p q : Nat} {f : Fld} (hf : FldFits f) (hq : q % 1024 ≠ 0) (hp : fkey q f ≠ fkey p HDR.IRQ_STAT) :
    IrqFree p (fkey q f) := by
  refine ⟨hp, fun k hk => fkey_ne_of_page hf (.mk (by decide) (by omega) (by decide)) ?_,
    fkey_ne_of_page hf (.of_check (by decide)) ?_⟩
  all_goals
    simp only [diePage, diePg]
    omega

/-- Words of core store found faulty count on the die's ECC page, which is no page of a core. -/
theorem rd_csTouch (s : State) (c off n : Nat) {q : Nat} {f : Fld} (hf : FldFits f) (hq : 8 ≤ q % 1024) :
    (s.csTouch c off n).rd q f = s.rd q f := by
  have hpage : q ≠ eccPg (c / 4) := by
    rw [eccPg, diePg]
    omega
  have hfree : IrqFree (eccPg (c / 4)) (fkey q f) :=
    irqFree_of_core_page hf (by omega) (fkey_ne_of_page hf (.of_check (by decide)) hpage)
  unfold State.csTouch
  split
  · rfl
  generalize s.cstore.chk.filter _ = l
  induction l using List.reverseRecOn with
  | nil => rfl
  | append_singleton l x ih =>
    rw [List.foldl_append, List.foldl_cons, List.foldl_nil, ← ih]
    dsimp only
    split
    · rw [rd_irq _ _ _ _ _ hfree, State.inc, rd_wr_of_page _ _ (.of_check (by decide)) hf hpage]
    split
    · rw [rd_irq _ _ _ _ _ hfree, State.inc, rd_wr_of_page _ _ (.of_check (by decide)) hf hpage]
    · rfl

end Sys2Proof.Machine
end

section
/-! PROOFS. Accumulator tiles: reading one after an update, promotion, and the state in which an accumulator command takes its
effect. -/

namespace Sys2Proof.Machine

/-! ### Accumulators and core store after a frame -/

section frame
variable {P : List Part} {s u : State} (h : Frame P s u)
include h

theorem Frame.acc_eq (hp : .engines ∉ P) (c e a : Nat) : u.acc c e a = s.acc c e a := by
  rw [State.acc, h.eng_eq hp, State.acc]

theorem Frame.cstore_eq (hp : .cstore ∉ P) : u.cstore = s.cstore := h.keeps .cstore hp

theorem Frame.rd_eq (hp : .regs ∉ P) (q : Nat) (f : Fld) : u.rd q f = s.rd q f := by
  rw [State.rd, show u.regs = s.regs from h.keeps .regs hp, State.rd]

end frame

section cstore
variable {s u : State} (h : u.cstore = s.cstore) (c a n : Nat)
include h

theorem csNat_congr : u.csNat c a n = s.csNat c a n := by rw [State.csNat, h, State.csNat]

theorem csBad_congr : u.csBad c a n = s.csBad c a n := by rw [State.csBad, h, State.csBad]

theorem getWords_congr : u.getWords c a n = s.getWords c a n := by
  simp only [State.getWords, csNat_congr h, csBad_congr h]

theorem cstore_putWords_congr (ws : List (Nat × Bool)) : (u.putWords c a ws).cstore = (s.putWords c a ws).cstore := by
  simp only [State.putWords, State.csWrite, h]

end cstore

/-! ### Accumulator tiles -/

section acc
variable (s : State) (c e a : Nat)

@[simp] theorem acc_setAcc_same (x : AccTile) : (s.setAcc c e a x).acc c e a = x := by
  simp [State.acc, State.setAcc]

@[simp] theorem acc_wr (p : Nat) (f : Fld) (v : Nat) : (s.wr p f v).acc c e a = s.acc c e a := rfl

@[simp] theorem acc_inc (p : Nat) (f : Fld) (n : Nat) : (s.inc p f n).acc c e a = s.acc c e a := rfl

@[simp] theorem acc_engEvt (p : Nat) (f : Fld) : (s.engEvt p f).acc c e a = s.acc c e a := by
  rw [State.acc, eng_engEvt, State.acc]

theorem acc_modEng {g : EngineS → EngineS} (hg : ∀ x, (g x).accs = x.accs) : (s.modEng c e g).acc c e a = s.acc c e a := by
  simp only [State.acc, eng_modEng_same, hg]

theorem acc_clearAcc : (s.clearAcc c e a).acc c e a = { AccTile.init with p := (s.acc c e a).p } :=
  acc_setAcc_same s c e a _

/-! ### The fields of ACC_TILE (R92) -/

theorem fldStart_accBusy : fldStart (ENG.ACC_TILE_BUSY a) = 10271 + 32 * a := by
  simp only [fldStart, ENG.ACC_TILE_BUSY]
  omega

theorem fldStart_accOwner : fldStart (ENG.ACC_TILE_OWNER a) = 10265 + 32 * a := by
  simp only [fldStart, ENG.ACC_TILE_OWNER]
  omega

theorem fldStart_accSatN : fldStart (ENG.ACC_TILE_SAT_N a) = 10263 + 32 * a := by
  simp only [fldStart, ENG.ACC_TILE_SAT_N]
  omega

theorem fldStart_accSatW : fldStart (ENG.ACC_TILE_SAT_W a) = 10262 + 32 * a := by
  simp only [fldStart, ENG.ACC_TILE_SAT_W]
  omega

theorem fldStart_accPoison : fldStart (ENG.ACC_TILE_POISON a) = 10261 + 32 * a := by
  simp only [fldStart, ENG.ACC_TILE_POISON]
  omega

theorem fldStart_accAdds : fldStart (ENG.ACC_TILE_ADDS a) = 10256 + 32 * a := by
  simp only [fldStart, ENG.ACC_TILE_ADDS]
  omega

section fits
variable {a : Nat} (ha : a < 64)
include ha

theorem fits_accBusy : FldFits (ENG.ACC_TILE_BUSY a) := .mk (by decide) (by omega) (by decide)
theorem fits_accOwner : FldFits (ENG.ACC_TILE_OWNER a) := .mk (by decide) (by omega) (by decide)
theorem fits_accSatN : FldFits (ENG.ACC_TILE_SAT_N a) := .mk (by decide) (by omega) (by decide)
theorem fits_accSatW : FldFits (ENG.ACC_TILE_SAT_W a) := .mk (by decide) (by omega) (by decide)
theorem fits_accPoison : FldFits (ENG.ACC_TILE_POISON a) := .mk (by decide) (by omega) (by decide)
theorem fits_accAdds : FldFits (ENG.ACC_TILE_ADDS a) := .mk (by decide) (by omega) (by decide)

end fits

theorem rd_own_busy (d : Desc) : (s.own c e d).rd (engPg c e) (ENG.ACC_TILE_BUSY d.acc) = 1 := rd_wr_same _ _ _ _

theorem rd_own_owner (d : Desc) : (s.own c e d).rd (engPg c e) (ENG.ACC_TILE_OWNER d.acc) = d.tag % 64 := by
  rw [State.own, rd_wr_of_start, rd_wr_same]
  · rfl
  · rw [fldStart_accBusy, fldStart_accOwner]
    omega

/-- A cleared tile reads no flag and no addition. -/
theorem rd_clearAcc_flags : (s.clearAcc c e a).rd (engPg c e) (ENG.ACC_TILE_SAT_N a) = 0
    ∧ (s.clearAcc c e a).rd (engPg c e) (ENG.ACC_TILE_SAT_W a) = 0
    ∧ (s.clearAcc c e a).rd (engPg c e) (ENG.ACC_TILE_POISON a) = 0
    ∧ (s.clearAcc c e a).rd (engPg c e) (ENG.ACC_TILE_ADDS a) = 0 := by
  simp only [State.clearAcc, rd_wr, fkey_eq, fldStart_accSatN, fldStart_accSatW, fldStart_accPoison, fldStart_accAdds, Nat.zero_mod]
  simp

/-- Clearing a tile leaves the fields of the page that begin past the flags and ADDS of the tile. -/
theorem rd_clearAcc_of_start {f : Fld} (hf : 10263 + 32 * a < fldStart f) :
    (s.clearAcc c e a).rd (engPg c e) f = s.rd (engPg c e) f := by
  unfold State.clearAcc
  dsimp only
  rw [rd_wr_of_start, rd_wr_of_start, rd_wr_of_start, rd_wr_of_start]
  · rfl
  all_goals
    simp only [fldStart_accSatN, fldStart_accSatW, fldStart_accPoison, fldStart_accAdds]
    omega

/-! ### Promotion (R80) -/

/-- An event of ENG.ACC_EVT leaves every field of the page but IRQ_STAT and its own. -/
theorem rd_engEvt_of_start (he : e < 4) {f g : Fld} (hf : FldFits f) (hstat : fldStart f ≠ fldStart HDR.IRQ_STAT)
    (hg : fldStart f ≠ fldStart g) : (s.engEvt (engPg c e) g).rd (engPg c e) f = s.rd (engPg c e) f := by
  refine rd_engEvt _ _ _ _ _ (fkey_ne_of_start _ hg) (irqFree_of_core_page hf ?_ (fkey_ne_of_start _ hstat))
  simp only [engPg, coreBase, diePg]
  omega

/-- Lanes that take a mark are counted, flag their tile and raise an event: ADDS is none of these fields. -/
theorem adds_of_lanes_marked (he : e < 4) (ha : a < 64) (n : Nat) {cnt flag g : Fld} (hcnt : fldStart cnt < 10240)
    (hg : fldStart g < 10240) (hflag : fldStart (ENG.ACC_TILE_ADDS a) ≠ fldStart flag) :
    (if n = 0 then s else ((s.inc (engPg c e) cnt n).wr (engPg c e) flag 1).engEvt (engPg c e) g).rd (engPg c e) (ENG.ACC_TILE_ADDS a)
      = s.rd (engPg c e) (ENG.ACC_TILE_ADDS a) := by
  have hstart := fldStart_accAdds a
  have hstat : fldStart HDR.IRQ_STAT = 128 := rfl
  split
  · rfl
  · rw [rd_engEvt_of_start _ _ _ he (fits_accAdds ha) (by omega) (by omega), rd_wr_of_start _ _ hflag, State.inc,
      rd_wr_of_start _ _ (by omega)]

theorem adds_laneEvents (he : e < 4) (ha : a < 64) (satN satW poison : Nat) :
    (s.laneEvents c e a satN satW poison).rd (engPg c e) (ENG.ACC_TILE_ADDS a) = s.rd (engPg c e) (ENG.ACC_TILE_ADDS a) := by
  unfold State.laneEvents
  dsimp only
  rw [adds_of_lanes_marked _ _ _ _ he ha _ (by decide) (by decide) (by rw [fldStart_accAdds, fldStart_accPoison]; omega),
    adds_of_lanes_marked _ _ _ _ he ha _ (by decide) (by decide) (by rw [fldStart_accAdds, fldStart_accSatW]; omega),
    adds_of_lanes_marked _ _ _ _ he ha _ (by decide) (by decide) (by rw [fldStart_accAdds, fldStart_accSatN]; omega)]

/-- The lanes of a tile promoted. -/
def promoted (l : List AccLane) : List AccLane := l.map (fun x => x.promote.1)

theorem acc_promoteAcc : (s.promoteAcc c e a).1.acc c e a = { s.acc c e a with lanes := promoted (s.acc c e a).lanes } := by
  unfold State.promoteAcc
  dsimp only
  rw [(State.laneEvents_frame ..).acc_eq (by decide), (State.inc_frame ..).acc_eq (by decide), (State.wr_frame ..).acc_eq (by decide),
    acc_setAcc_same, promoted, List.map_map]
  rfl

theorem adds_promoteAcc (he : e < 4) (ha : a < 64) :
    (s.promoteAcc c e a).1.rd (engPg c e) (ENG.ACC_TILE_ADDS a) = 0 := by
  unfold State.promoteAcc
  dsimp only
  rw [adds_laneEvents _ _ _ _ he ha, State.inc, rd_wr_of_start, rd_wr_same]
  · rfl
  · rw [fldStart_accAdds, show fldStart ENG.PROMOTE_CNT = 8384 from rfl]
    omega

/-! ### An accumulator command at issue (R92) -/

/-- The command has issued, owns its tile and is under way: the state in which an accumulator command takes its effect. -/
def State.accStart (s : State) (c e : Nat) (d : Desc) : State := ((s.issue c e d).own c e d).addOp c e (EngOp.new d [] [])

theorem acc_accStart (d : Desc) : (s.accStart c e d).acc c e a = s.acc c e a := by
  rw [State.accStart, State.addOp, acc_modEng _ _ _ _ (by intro _; rfl), (State.own_frame ..).acc_eq (by decide),
    (queuesOnly_issue s c e d).acc_eq]

theorem cstore_accStart (d : Desc) : (s.accStart c e d).cstore = s.cstore := by
  rw [State.accStart, (State.addOp_frame ..).cstore_eq (by decide), (State.own_frame ..).cstore_eq (by decide),
    (State.issue_frame ..).cstore_eq (by decide)]

theorem rd_accStart_owner (d : Desc) : (s.accStart c e d).rd (engPg c e) (ENG.ACC_TILE_OWNER d.acc) = d.tag % 64 :=
  rd_own_owner _ _ _ _

variable {s c e} in
theorem accBusy_issue {d : Desc} (ha : d.acc < 64) (hb : s.rdB (engPg c e) (ENG.ACC_TILE_BUSY d.acc) = false) :
    (s.issue c e d).rdB (engPg c e) (ENG.ACC_TILE_BUSY d.acc) = false := by
  rw [State.rdB, (queuesOnly_issue s c e d).rd_eng e (fits_accBusy ha), ← State.rdB, hb]

variable {s c e} in
/-- An accumulator command that finds its tile free takes its effect, and dispatch goes on. -/
theorem accOp_of_free {d : Desc} {op mode : Nat} (f : State → Desc → State) (ha : d.acc < 64)
    (hb : s.rdB (engPg c e) (ENG.ACC_TILE_BUSY d.acc) = false) (hd : s.issuable c e op = some d) (hm : d.accMode = mode) :
    s.accOp c e op mode f = (f (s.accStart c e d) d).pump c := by
  simp only [State.accOp, hd, hm, accBusy_issue ha hb, ne_eq, not_true_eq_false, if_false, Bool.false_eq_true]
  rfl

end acc

end Sys2Proof.Machine
end

section
/-! PROOFS. Records of accumulator tiles: what ACC_CLEAR, ACC_PROMOTE, ACC_SPILL and ACC_READ leave in the tile and in core store.
Settles O8. -/

namespace Sys2Proof.Machine

/-! ### Effects, where the tile and core store are read (R80, R84, R87, R88, R90) -/

section effects
variable (s : State) (c e : Nat) (d : Desc)

theorem cstore_promoteAcc (a : Nat) : (s.promoteAcc c e a).1.cstore = s.cstore :=
  (State.promoteAcc_frame s c e a).cstore_eq (by decide)

theorem lanes_promoteAcc (a : Nat) : ((s.promoteAcc c e a).1.acc c e a).lanes = promoted (s.acc c e a).lanes := by
  rw [acc_promoteAcc]

/-- The tile is promoted and the words of a record at the descriptor's offset are read: where ADD modes begin. -/
def State.promoteRead (s : State) (c e : Nat) (d : Desc) : State := (s.promoteAcc c e d.acc).1.csTouch c d.cs 2048

theorem cstore_promoteRead : (s.promoteRead c e d).cstore = s.cstore :=
  ((State.csTouch_frame ..).cstore_eq (by decide)).trans (cstore_promoteAcc s c e d.acc)

theorem acc_promoteRead :
    (s.promoteRead c e d).acc c e d.acc = { s.acc c e d.acc with lanes := promoted (s.acc c e d.acc).lanes } := by
  rw [State.promoteRead, (State.csTouch_frame ..).acc_eq (by decide), acc_promoteAcc]

/-- The words of a spill record of promoted lanes (R88). -/
def spillWords (l : List AccLane) : List (Nat × Bool) :=
  (promoted l).map (fun x => (spillWord x.wide x.sat x.poison x.pin, x.poison))

theorem lanes_spillStore : ((spillStore c e s d).acc c e d.acc).lanes = List.replicate 256 .zero :=
  congrArg AccTile.lanes (acc_clearAcc _ c e d.acc)

theorem cstore_spillStore :
    (spillStore c e s d).cstore = (s.putWords c d.cs (spillWords (s.acc c e d.acc).lanes)).cstore := by
  have hput := cstore_putWords_congr (cstore_promoteAcc s c e d.acc) c d.cs (spillWords (s.acc c e d.acc).lanes)
  rw [← hput, spillWords, ← lanes_promoteAcc]
  exact ((State.clearAcc_frame ..).cstore_eq (by decide)).trans ((State.satRecord_frame ..).cstore_eq (by decide))

/-- A lane added into its word of a record (R88), with the mark the word takes. -/
def addedWord (l : AccLane) (w : Nat × Bool) : Nat × Bool := ((spillAdd w.1 l).1, w.2 || l.poison)

theorem lanes_spillAdd : ((spillAddEffect c e s d).acc c e d.acc).lanes = List.replicate 256 .zero :=
  congrArg AccTile.lanes (acc_clearAcc _ c e d.acc)

theorem cstore_spillAdd : (spillAddEffect c e s d).cstore
    = (s.putWords c d.cs (List.zipWith addedWord (promoted (s.acc c e d.acc).lanes) (s.getWords c d.cs 256))).cstore := by
  have hcs := cstore_promoteRead s c e d
  have hend : (spillAddEffect c e s d).cstore = ((s.promoteRead c e d).putWords c d.cs
      ((List.zipWith (fun l w => (spillAdd w.1 l, w.2 || l.poison)) ((s.promoteRead c e d).acc c e d.acc).lanes
        ((s.promoteRead c e d).getWords c d.cs 256)).map (fun x => (x.1.1, x.2)))).cstore := by
    refine ((State.clearAcc_frame ..).cstore_eq (by decide)).trans (((State.satRecord_frame ..).cstore_eq (by decide)).trans ?_)
    split
    · rfl
    · exact ((State.engEvt_frame ..).cstore_eq (by decide)).trans ((State.inc_frame ..).cstore_eq (by decide))
  rw [hend, List.map_zipWith, acc_promoteRead, getWords_congr hcs, cstore_putWords_congr hcs]
  rfl

theorem acc_spillSave (a : Nat) : (spillSave c e s d).acc c e a = s.acc c e a :=
  (spillSave_frame c e s d).acc_eq (by decide) c e a

theorem cstore_spillSave : ∃ hdr, hdr % 256 = 1 ∧ (spillSave c e s d).cstore = (s.putWords c d.cs
    ((hdr, false) :: List.replicate 7 (0, false) ++ (s.acc c e d.acc).lanes.map (fun l => (ctxWord l, l.poison)))).cstore := by
  refine ⟨_, ?_, rfl⟩
  omega

/-- The words of a read record (R87): two lanes each, with the mark of either. -/
def readWords (l : List AccLane) : List (Nat × Bool) :=
  (List.range 128).map (fun i => (ofLe (((l.drop (2 * i)).take 2).flatMap (fun x => toLe 4 (ofSigned 32 x.wide))),
    ((l.drop (2 * i)).take 2).any (fun x => x.poison)))

theorem lanes_accRead : ((accReadEffect c e s d).acc c e d.acc).lanes = promoted (s.acc c e d.acc).lanes := by
  rw [← lanes_promoteAcc]
  exact congrArg AccTile.lanes (((State.satRecord_frame ..).acc_eq (by decide) ..).trans ((State.putWords_frame ..).acc_eq (by decide) ..))

theorem cstore_accRead : ∃ marks : List (Nat × Bool), marks.length = 8
    ∧ (accReadEffect c e s d).cstore = (s.putWords c d.cs (readWords (promoted (s.acc c e d.acc).lanes) ++ marks)).cstore := by
  refine ⟨(List.range 8).map (fun i => (ofLe ((List.range 8).map (fun k =>
    byteOf (markByte (((promoted (s.acc c e d.acc).lanes).drop (32 * i + 4 * k)).take 4)))), false)), by simp, ?_⟩
  rw [← cstore_putWords_congr (cstore_promoteAcc s c e d.acc), ← lanes_promoteAcc]
  exact (State.satRecord_frame ..).cstore_eq (by decide)

/-- ACC_PROMOTE's effect: promotion, and the record of the lanes that saturated. -/
def promoteEffect (c e : Nat) (s : State) (d : Desc) : State := (s.promoteAcc c e d.acc).1.satRecord c e (s.promoteAcc c e d.acc).2

theorem accPromoteEffect_eq : accPromoteEffect s c e = s.accOp c e 0x31 0 (promoteEffect c e) := rfl

theorem lanes_promoteEffect : ((promoteEffect c e s d).acc c e d.acc).lanes = promoted (s.acc c e d.acc).lanes := by
  rw [promoteEffect, (State.satRecord_frame ..).acc_eq (by decide), lanes_promoteAcc]

theorem adds_promoteEffect (he : e < 4) (ha : d.acc < 64) :
    (promoteEffect c e s d).rd (engPg c e) (ENG.ACC_TILE_ADDS d.acc) = 0 := by
  rw [promoteEffect, (State.satRecord_frame ..).rd_eq (by decide), adds_promoteAcc _ _ _ _ he ha]

end effects

/-! ### What dispatch leaves after the effect -/

section pump
variable (s : State) (c e : Nat)

theorem acc_pump (a : Nat) : (s.pump c).acc c e a = s.acc c e a := (queuesOnly_pump s c).acc_eq c e a

theorem cstore_pump : (s.pump c).cstore = s.cstore := (State.pump_frame s c).cstore_eq (by decide)

theorem rd_pump_eng {f : Fld} (hf : FldFits f) : (s.pump c).rd (engPg c e) f = s.rd (engPg c e) f :=
  (queuesOnly_pump s c).rd_eng e hf

end pump

/-- Settles O8: each command's effect starts from `accStart`, where tile and core store are as before, and dispatch follows it. -/
theorem accumulatorCommandsStore : Obligations.AccumulatorCommandsStore := by
  unfold Obligations.AccumulatorCommandsStore
  intro s c e d ha hb
  have hacc := acc_accStart s c e d.acc d
  have hcs := cstore_accStart s c e d
  refine ⟨fun hlets hd hm => ?_, fun hlets hd hm => ?_, fun hlets hd hm => ?_, fun hlets hd hm => ?_, fun hlets hd hm => ?_,
    fun hlets hd hm => ?_⟩
  · have hexec := exec_of_effect hlets rfl (accOp_of_free _ ha hb hd hm)
    obtain ⟨hsatN, hsatW, hpoison, hadds⟩ := rd_clearAcc_flags (s.accStart c e d) c e d.acc
    refine ⟨_, hexec, ?_, ?_, ?_, ?_, ?_, ?_, (exec_frame hexec).keeps⟩
    · rw [acc_pump, acc_clearAcc, hacc]
    · rw [rd_pump_eng _ _ _ (fits_accSatN ha), hsatN]
    · rw [rd_pump_eng _ _ _ (fits_accSatW ha), hsatW]
    · rw [rd_pump_eng _ _ _ (fits_accPoison ha), hpoison]
    · rw [rd_pump_eng _ _ _ (fits_accAdds ha), hadds]
    · rw [rd_pump_eng _ _ _ (fits_accOwner ha), rd_clearAcc_of_start, rd_accStart_owner]
      rw [fldStart_accOwner]
      omega
  · have hexec := exec_of_effect hlets rfl ((accPromoteEffect_eq s c e).trans (accOp_of_free _ ha hb hd hm))
    refine ⟨_, hexec, ?_, ?_, (exec_frame hexec).keeps⟩
    · rw [acc_pump, lanes_promoteEffect, hacc, promoted]
    · rw [rd_pump_eng _ _ _ (fits_accAdds ha), adds_promoteEffect _ _ _ _ (lt_of_wfE hlets.1) ha]
  · have hexec := exec_of_effect hlets rfl (accOp_of_free (spillStore c e) ha hb hd hm)
    refine ⟨_, hexec, ?_, ?_, (exec_frame hexec).keeps⟩
    · rw [acc_pump, lanes_spillStore]
    · rw [cstore_pump, cstore_spillStore, cstore_putWords_congr hcs, hacc, spillWords, promoted, List.map_map]
      rfl
  · have hexec := exec_of_effect hlets rfl (accOp_of_free (spillAddEffect c e) ha hb hd hm)
    refine ⟨_, hexec, ?_, ?_, (exec_frame hexec).keeps⟩
    · rw [acc_pump, lanes_spillAdd]
    · rw [cstore_pump, cstore_spillAdd, cstore_putWords_congr hcs, getWords_congr hcs, hacc, promoted, List.zipWith_map_left]
      rfl
  · have hexec := exec_of_effect hlets rfl (accOp_of_free (spillSave c e) ha hb hd hm)
    obtain ⟨hdr, hver, hput⟩ := cstore_spillSave (s.accStart c e d) c e d
    refine ⟨_, hexec, ?_, ⟨hdr, hver, ?_⟩, (exec_frame hexec).keeps⟩
    · rw [acc_pump, acc_spillSave, hacc]
    · rw [cstore_pump, hput, cstore_putWords_congr hcs, hacc]
  · have hexec := exec_of_effect hlets rfl (accOp_of_free (accReadEffect c e) ha hb hd hm)
    obtain ⟨marks, hlen, hput⟩ := cstore_accRead (s.accStart c e d) c e d
    have hwords (l : List AccLane) : (readWords l).length = 128 := by simp [readWords]
    refine ⟨_, hexec, ?_, ⟨readWords (promoted (s.acc c e d.acc).lanes) ++ marks, ?_, ?_, ?_⟩, (exec_frame hexec).keeps⟩
    · rw [acc_pump, lanes_accRead, hacc, promoted]
    · rw [List.length_append, hwords, hlen]
    · rw [cstore_pump, hput, cstore_putWords_congr hcs, hacc]
    · exact List.take_left' (hwords _)

end Sys2Proof.Machine
end

section
/-! PROOFS. ACC_RESUME, OUTLIER_LOAD and CHECK_FORCE. Settles O9. -/

namespace Sys2Proof.Machine

/-! ### ACC_RESUME (R89, R90) -/

section resume
variable (s : State) (c e : Nat) (d : Desc)

theorem lanes_resumeLoad :
    ((resumeLoad c e s d).acc c e d.acc).lanes = (s.getWords c d.cs 256).map (fun w => (loadLane w).1) := by
  have hcs : (s.csTouch c d.cs 2048).cstore = s.cstore := (State.csTouch_frame ..).cstore_eq (by decide)
  unfold resumeLoad
  dsimp only
  rw [(State.satRecord_frame ..).acc_eq (by decide), (State.flagsFromMarks_frame ..).acc_eq (by decide), acc_setAcc_same,
    getWords_congr hcs, List.map_map]
  rfl

/-- The lanes of the promoted tile take the record's words; flags, events and a record follow. -/
theorem resumeAdd_eq : ∃ (poison satW : Nat) (sat : List Nat), resumeAdd c e s d
    = (((s.promoteRead c e d).setAcc c e d.acc { (s.promoteAcc c e d.acc).1.acc c e d.acc with
        lanes := (List.zipWith addLane ((s.promoteAcc c e d.acc).1.acc c e d.acc).lanes
          ((s.promoteRead c e d).getWords c d.cs 256)).map (fun y => y.1) }).flagsFromMarks c e d.acc poison satW).satRecord c e sat :=
  ⟨_, _, _, rfl⟩

theorem lanes_resumeAdd : ((resumeAdd c e s d).acc c e d.acc).lanes
    = List.zipWith (fun l w => (addLane l w).1) (promoted (s.acc c e d.acc).lanes) (s.getWords c d.cs 256) := by
  obtain ⟨poison, satW, sat, heq⟩ := resumeAdd_eq s c e d
  rw [heq, (State.satRecord_frame ..).acc_eq (by decide), (State.flagsFromMarks_frame ..).acc_eq (by decide), acc_setAcc_same,
    List.map_zipWith, lanes_promoteAcc, getWords_congr (cstore_promoteRead s c e d)]

theorem acc_resumeRestore (hver : s.csNat c d.cs 8 % 256 = 1) (hbad : s.csBad c d.cs 64 = false) :
    (resumeRestore c e s d).acc c e d.acc
      = { lanes := (s.getWords c (d.cs + 64) 256).map ctxLane, p := field (s.csNat c d.cs 8) 24 8 } := by
  have hcs : (s.csTouch c d.cs 2112).cstore = s.cstore := (State.csTouch_frame ..).cstore_eq (by decide)
  unfold resumeRestore
  dsimp only
  rw [if_neg (by simp [hver, hbad]), getWords_congr hcs]
  by_cases hpoison : ((s.getWords c (d.cs + 64) 256).any fun w => w.2) = true
  all_goals
    simp only [hpoison, if_true, if_false, Bool.false_eq_true]
    split <;> simp

end resume

/-! ### OUTLIER_LOAD (R109) -/

theorem opcode_of_issuable {s : State} {c q op : Nat} {d : Desc} (h : s.issuable c q op = some d) : d.opcode = op := by
  unfold State.issuable at h
  split at h
  · split at h
    · next hop => exact Option.some.inj h ▸ hop.1
    · cases h
  · cases h

theorem lt_of_mem_maskTiles {t m : Nat} (h : t ∈ maskTiles m) : t < 17 := List.mem_range.1 (List.mem_filter.1 h).1

section banks
variable {c : Nat} {s u : State} (h : QueuesOnly c s u) (e t : Nat)
include h

theorem QueuesOnly.physTile_eq : u.physTile c e t = s.physTile c e t := by
  rw [State.physTile, h.rd_tile e (.of_check (by decide)) 16, State.physTile]

theorem QueuesOnly.computeBank_eq : u.computeBank c e t = s.computeBank c e t := h.rd_tile e (.of_check (by decide)) t

end banks

theorem fits_outlState {k : Nat} (hk : k < 34) : FldFits (ENG.OUTL_SET_STATE k) := .mk (by decide) (by omega) (by decide)

theorem readSet_congr {s u : State} (h : u.cstore = s.cstore) (c a : Nat) : u.readSet c a = s.readSet c a := by
  simp only [State.readSet, csNat_congr h, csBad_congr h]

section load
variable (s : State) (c e a k : Nat) (set : OSet) (n : Nat)

/-- Set `k` of the engine is loaded with what stands at core-store offset `a`. -/
def State.putSet : State :=
  let p := engPg c e
  ((((((s.csTouch c a n).wr p (ENG.OUTL_SET_STATE k) 2).wr p (ENG.OUTL_SET_SPARSE_N k) set.resid.length).wr p (ENG.OUTL_SET_STATIC_N k)
    set.rows.length).inc p ENG.OLOAD_CNT).modEng c e (fun x => { x with osets := mput x.osets k set }))

variable {s c a set n} in
theorem loadSets_singleton (t : Nat) (h : s.readSet c a = some (set, n)) :
    s.loadSets c e [t] a = (s.putSet c e a (bkey t (1 - s.computeBank c e (s.physTile c e t))) set n, true) := by
  simp only [State.loadSets, h]
  rfl

theorem eng_putSet :
    (s.putSet c e a k set n).eng c e = { s.eng c e with osets := mput (s.eng c e).osets k set } := by
  rw [State.putSet, eng_modEng_same, State.inc, eng_wr, eng_wr, eng_wr, eng_wr, (State.csTouch_frame ..).eng_eq (by decide)]

theorem rd_putSet_state : (s.putSet c e a k set n).rd (engPg c e) (ENG.OUTL_SET_STATE k) = 2 := by
  rw [State.putSet, rd_modEng, State.inc, rd_wr_of_start, rd_wr_of_start, rd_wr_of_start, rd_wr_same]
  · rfl
  all_goals
    simp only [fldStart_outlState, fldStart_outlSparse, fldStart_outlStatic, show fldStart ENG.OLOAD_CNT = 12736 from rfl]
    omega

end load

section outlier
variable {s : State} {c e : Nat} {d : Desc} {set : OSet} {n : Nat}

/-- With no earlier load or write in flight the newest operation loads its set at once. -/
theorem tryLoad_of_newest {l : List EngOp} {t : Nat} (hops : (s.eng c e).ops = l ++ [EngOp.new d [t] [t]]) (hop : d.opcode = 0x40)
    (hdone : ∀ o ∈ l, (o.d.opcode = 0x40 ∨ o.d.opcode = 0x20) → o.left = []) (hset : s.readSet c d.cs = some (set, n)) :
    s.tryLoad c e = (s.putSet c e d.cs (bkey t (1 - s.computeBank c e (s.physTile c e t))) set n).modOp c e d.tag
      (fun q => { q with left := [] }) := by
  have hfind : (s.eng c e).ops.find? (fun o => o.d.opcode == 0x40 && !o.left.isEmpty) = some (EngOp.new d [t] [t]) := by
    have hnone : l.find? (fun o => o.d.opcode == 0x40 && !o.left.isEmpty) = none := by
      rw [List.find?_eq_none]
      intro o ho hload
      simp only [Bool.and_eq_true, beq_iff_eq] at hload
      simp [hdone o ho (.inl hload.1)] at hload
    rw [hops, List.find?_append, hnone]
    simp [EngOp.new, hop]
  have hwrites : (opsBefore (s.eng c e).ops d.tag).any
      (fun q => q.d.opcode == 0x20 && !q.left.isEmpty && q.tiles.any (fun k => [t].contains k)) = false := by
    rw [List.any_eq_false]
    intro q hq hwrite
    simp only [Bool.and_eq_true, beq_iff_eq] at hwrite
    obtain ⟨⟨hcode, hleft⟩, -⟩ := hwrite
    rw [hops] at hq
    rcases List.mem_append.1 ((List.takeWhile_sublist _).subset hq) with hmem | hmem
    · simp [hdone q hmem (.inr hcode)] at hleft
    · rw [List.mem_singleton.1 hmem] at hcode
      exact absurd (hop.symm.trans hcode) (by decide)
  unfold State.tryLoad
  dsimp only
  rw [hfind]
  dsimp only [EngOp.new]
  rw [hwrites, loadSets_singleton e t hset]
  rfl

theorem outlierLoadEffect_of_issuable {t : Nat} (hd : s.issuable c e 0x40 = some d) (ht : maskTiles d.mask = [t])
    (hdone : ∀ o ∈ (s.eng c e).ops, (o.d.opcode = 0x40 ∨ o.d.opcode = 0x20) → o.left = [])
    (hset : s.readSet c d.cs = some (set, n)) :
    outlierLoadEffect s c e = ((((s.issue c e d).addOp c e (EngOp.new d [t] [t])).putSet c e d.cs
      (bkey t (1 - s.computeBank c e (s.physTile c e t))) set n).modOp c e d.tag (fun q => { q with left := [] })).pump c := by
  have hcs : ((s.issue c e d).addOp c e (EngOp.new d [t] [t])).cstore = s.cstore :=
    ((State.addOp_frame ..).cstore_eq (by decide)).trans ((State.issue_frame ..).cstore_eq (by decide))
  have hphys : ((s.issue c e d).addOp c e (EngOp.new d [t] [t])).physTile c e t = s.physTile c e t :=
    (queuesOnly_issue s c e d).physTile_eq e t
  have hbank (p : Nat) : ((s.issue c e d).addOp c e (EngOp.new d [t] [t])).computeBank c e p = s.computeBank c e p :=
    (queuesOnly_issue s c e d).computeBank_eq e p
  have hload := tryLoad_of_newest (s := (s.issue c e d).addOp c e (EngOp.new d [t] [t])) (by rw [ops_addOp, ops_issue])
    (opcode_of_issuable hd) hdone ((readSet_congr hcs c d.cs).trans hset)
  rw [hphys, hbank] at hload
  simp only [outlierLoadEffect, hd, ht, hload]

theorem exists_loaded_op {u : State} (k : Nat) {l : List EngOp} {t : Nat} (hops : (u.eng c e).ops = l ++ [EngOp.new d [t] [t]]) :
    ∃ o ∈ (((u.putSet c e d.cs k set n).modOp c e d.tag (fun q => { q with left := [] })).eng c e).ops, o.d = d ∧ o.left = [] := by
  have hnew : EngOp.new d [t] [t] ∈ (u.eng c e).ops := hops ▸ List.mem_append_right _ (List.mem_singleton_self _)
  rw [State.modOp, eng_modEng_same, eng_putSet]
  exact ⟨_, List.mem_map.2 ⟨_, hnew, if_pos (beq_self_eq_true d.tag)⟩, rfl, rfl⟩

end outlier

/-! ### CHECK_FORCE (R143) -/

theorem mem_addLanes {l m : List Nat} {x : Nat} (h : x ∈ l ∨ x ∈ m) : x ∈ addLanes l m := by
  by_cases hl : x ∈ l
  · exact List.mem_append_left _ hl
  · exact List.mem_append_right _ (List.mem_filter.2 ⟨h.resolve_left hl, by simpa using hl⟩)

theorem force_complete (s : State) (c e : Nat) (d : Desc) : ((s.complete c d).eng c e).force = (s.eng c e).force := by
  rw [State.complete, (queuesOnly_pump _ c).force_eq]
  split
  · rfl
  · rw [(State.signal_frame ..).eng_eq (by decide)]

theorem force_checkForceEffect {s : State} {c e : Nat} {d : Desc} (hd : s.issuable c e 0x60 = some d) :
    ((checkForceEffect s c e).eng c e).force = addLanes (s.eng c e).force (maskTiles d.mask) := by
  rw [checkForceEffect, hd]
  dsimp only
  rw [force_complete, eng_modEng_same, (queuesOnly_issue s c e d).force_eq]

/-- Settles O9: ACC_RESUME's lanes from `accStart`, a set put in place of its bank's, and marks added to those that stand. -/
theorem engineCommandsLoad : Obligations.EngineCommandsLoad := by
  unfold Obligations.EngineCommandsLoad
  refine fun s c e d => ⟨fun ha hb hd => ?_, fun t set n hlets hd ht hset hdone => ?_, fun hlets hd => ?_⟩
  · have hacc := acc_accStart s c e d.acc d
    have hcs := cstore_accStart s c e d
    refine ⟨fun hlets hm => ?_, fun hlets hm => ?_, fun hlets hm hver hbad => ?_⟩
    · have hexec := exec_of_effect hlets rfl (accOp_of_free (resumeLoad c e) ha hb hd hm)
      refine ⟨_, hexec, ?_, (exec_frame hexec).keeps⟩
      rw [acc_pump, lanes_resumeLoad, getWords_congr hcs]
    · have hexec := exec_of_effect hlets rfl (accOp_of_free (resumeAdd c e) ha hb hd hm)
      refine ⟨_, hexec, ?_, (exec_frame hexec).keeps⟩
      rw [acc_pump, lanes_resumeAdd, getWords_congr hcs, hacc, promoted, List.zipWith_map_left]
    · have hexec := exec_of_effect hlets rfl (accOp_of_free (resumeRestore c e) ha hb hd hm)
      have hrestored := acc_resumeRestore (s.accStart c e d) c e d (by rw [csNat_congr hcs, hver]) (by rw [csBad_congr hcs, hbad])
      refine ⟨_, hexec, ?_, (exec_frame hexec).keeps⟩
      rw [acc_pump, hrestored, getWords_congr hcs, csNat_congr hcs]
  · have hexec := exec_of_effect hlets rfl (outlierLoadEffect_of_issuable hd ht hdone hset)
    have hk : bkey t (1 - s.computeBank c e (s.physTile c e t)) < 34 :=
      bkey_lt (lt_of_mem_maskTiles (ht ▸ List.mem_singleton_self t)) (by omega)
    refine ⟨_, hexec, ?_, ?_, ?_, (exec_frame hexec).keeps⟩
    · rw [(queuesOnly_pump _ c).outSet_eq, State.outSet, State.modOp, eng_modEng_same, eng_putSet, mget_mput_same]
    · rw [rd_pump_eng _ _ _ (fits_outlState hk), State.modOp, rd_modEng, rd_putSet_state]
    · rw [ops_pump]
      exact exists_loaded_op _ (ops_addOp _ _ _ _)
  · have hexec := exec_of_effect hlets rfl rfl
    refine ⟨_, hexec, fun t ht => ?_, fun t ht => ?_, (exec_frame hexec).keeps⟩
    all_goals rw [force_checkForceEffect hd]
    · exact mem_addLanes (.inr ht)
    · exact mem_addLanes (.inl ht)

end Sys2Proof.Machine
end

section
/-! PROOFS. MVM and MVM_ACC at issue. Settles O6. -/

namespace Sys2Proof.Machine

/-! ### Where the pages of an engine and its tiles lie (R403) -/

theorem engPg_slot (c : Nat) {e : Nat} (he : e < 4) : 8 ≤ engPg c e % 1024 := by
  have hslot : engPg c e = c / 4 * 1024 + (260 + 192 * (c % 4) + e) := by
    simp only [engPg, coreBase, diePg]
    omega
  rw [hslot, Nat.mul_add_mod', Nat.mod_eq_of_lt (by omega)]
  omega

theorem tilePg_slot (c : Nat) {e t : Nat} (he : e < 4) (ht : t < 17) : 8 ≤ tilePg c e t % 1024 := by
  have hslot : tilePg c e t = c / 4 * 1024 + (320 + 192 * (c % 4) + 32 * e + t) := by
    simp only [tilePg, coreBase, diePg]
    omega
  rw [hslot, Nat.mul_add_mod', Nat.mod_eq_of_lt (by omega)]
  omega

/-! ### The accumulator tile is taken (R84, R92) -/

section takeAcc
variable (s : State) (c e : Nat) (d : Desc) (clear : Bool)

theorem pagesKept_own (ha : d.acc < 64) : PagesKept [engPg c e] s (s.own c e d) :=
  ((PagesKept.refl _ s).wr_page _ (fits_accOwner ha) (List.mem_singleton_self _)).wr_page _ (fits_accBusy ha)
    (List.mem_singleton_self _)

theorem pagesKept_clearAcc {a : Nat} (ha : a < 64) : PagesKept [engPg c e] s (s.clearAcc c e a) := by
  have hp : engPg c e ∈ [engPg c e] := List.mem_singleton_self _
  exact ((((PagesKept.of_regs rfl (.refl _ s)).wr_page 0 (fits_accSatN ha) hp).wr_page 0 (fits_accSatW ha) hp).wr_page 0
    (fits_accPoison ha) hp).wr_page 0 (fits_accAdds ha) hp

/-- The command owns its accumulator tile, cleared for MVM. -/
def State.ownAcc : State := if clear then (s.own c e d).clearAcc c e d.acc else s.own c e d

theorem lanes_ownAcc : ((s.ownAcc c e d clear).acc c e d.acc).lanes
    = if clear then List.replicate 256 .zero else (s.acc c e d.acc).lanes := by
  unfold State.ownAcc
  split
  · rw [acc_clearAcc]
    rfl
  · rw [(State.own_frame ..).acc_eq (by decide)]

theorem pagesKept_ownAcc (ha : d.acc < 64) : PagesKept [engPg c e] s (s.ownAcc c e d clear) := by
  unfold State.ownAcc
  split
  · exact (pagesKept_own s c e d ha).trans (pagesKept_clearAcc _ c e ha)
  · exact pagesKept_own s c e d ha

theorem rd_ownAcc : (s.ownAcc c e d clear).rd (engPg c e) (ENG.ACC_TILE_BUSY d.acc) = 1
    ∧ (s.ownAcc c e d clear).rd (engPg c e) (ENG.ACC_TILE_OWNER d.acc) = d.tag % 64 := by
  unfold State.ownAcc
  split
  · rw [rd_clearAcc_of_start, rd_clearAcc_of_start]
    · exact ⟨rd_own_busy s c e d, rd_own_owner s c e d⟩
    · rw [fldStart_accOwner]
      omega
    · rw [fldStart_accBusy]
      omega
  · exact ⟨rd_own_busy s c e d, rd_own_owner s c e d⟩

/-- With its accumulator tile the command takes P, and its input and side block are read (R84, R111). -/
def State.takeAcc : State :=
  let u := s.ownAcc c e d clear
  (u.setAcc c e d.acc { u.acc c e d.acc with p := promoteEvery d.accMode (s.rd (engPg c e) ENG.ACC_CTRL_P) }).csTouch c d.cs
    (d.sideOff + 64 + 64 * (maskTiles d.mask).length - d.cs)

theorem lanes_takeAcc : ((s.takeAcc c e d clear).acc c e d.acc).lanes = ((s.ownAcc c e d clear).acc c e d.acc).lanes := by
  rw [State.takeAcc, (State.csTouch_frame ..).acc_eq (by decide), acc_setAcc_same]

/-- Core store's faulty words count on no page of a core. -/
theorem rd_takeAcc {q : Nat} {f : Fld} (hf : FldFits f) (hq : 8 ≤ q % 1024) :
    (s.takeAcc c e d clear).rd q f = (s.ownAcc c e d clear).rd q f := by
  rw [State.takeAcc, rd_csTouch _ _ _ _ hf hq]
  rfl

theorem physTile_takeAcc (he : e < 4) (ha : d.acc < 64) (t : Nat) : (s.takeAcc c e d clear).physTile c e t = s.physTile c e t := by
  have hfits : FldFits TILE.STAT_STANDIN_FOR := .of_check (by decide)
  rw [State.physTile, rd_takeAcc _ _ _ _ _ hfits (tilePg_slot c he (by decide)), (pagesKept_ownAcc s c e d clear ha).rd_eq hfits,
    State.physTile]
  exact fun h => engPg_ne_tilePg c e 16 (List.mem_singleton.1 h).symm

end takeAcc

/-! ### Each tile gets its vector (R32, R77) -/

section giveVec
variable (c e : Nat) (d : Desc) (side : Nat) (force : List Nat)

/-- Tile `x.1` of the mask, or its stand-in, gets segment `x.2` of the input as its vector. -/
def State.giveVec (s : State) (x : Nat × Nat) : State :=
  s.modTile c e (s.physTile c e x.1) (fun y => { y with vecs := y.vecs ++ [s.newVec c d x.1 x.2 side (force.contains x.1)] })

theorem giveVec_frame (s : State) (x : Nat × Nat) : Frame [.tiles] s (s.giveVec c e d side force x) := State.modTile_frame ..

theorem foldl_giveVec_frame (s : State) (l : List (Nat × Nat)) : Frame [.tiles] s (l.foldl (State.giveVec c e d side force) s) :=
  Frame.foldl (giveVec_frame c e d side force) l (.refl _ _)

theorem vecs_giveVec (s : State) (x : Nat × Nat) (k : Nat) : ((s.giveVec c e d side force x).tile c e k).vecs
    = (s.tile c e k).vecs ++ if s.physTile c e x.1 = k then [s.newVec c d x.1 x.2 side (force.contains x.1)] else [] := by
  unfold State.giveVec
  split
  · next h => rw [h, tile_modTile_same]
  · next h => rw [State.modTile, State.setTile, State.tile, mget_mput_other _ _ _ _ _ (by omega), ← State.tile, List.append_nil]

/-- A physical tile gets the vectors of those tiles of the list that it serves, in their order. -/
theorem vecs_foldl_giveVec (s : State) (l : List (Nat × Nat)) (k : Nat) :
    ((l.foldl (State.giveVec c e d side force) s).tile c e k).vecs = (s.tile c e k).vecs
      ++ (l.filter (fun x => s.physTile c e x.1 = k)).map (fun x => s.newVec c d x.1 x.2 side (force.contains x.1)) := by
  induction l generalizing s with
  | nil => simp
  | cons x l ih =>
    have hphys (t : Nat) : (s.giveVec c e d side force x).physTile c e t = s.physTile c e t := rfl
    have hnew (t i : Nat) (b : Bool) : (s.giveVec c e d side force x).newVec c d t i side b = s.newVec c d t i side b := rfl
    rw [List.foldl_cons, ih, vecs_giveVec, List.append_assoc]
    simp only [hphys, hnew, List.filter_cons, decide_eq_true_eq]
    split <;> rfl

theorem exists_vec_of_mem (s : State) {l : List Nat} {t : Nat} (ht : t ∈ l) :
    ∃ v ∈ ((l.zipIdx.foldl (State.giveVec c e d side force) s).tile c e (s.physTile c e t)).vecs,
      v.tag = d.tag ∧ v.named = t ∧ v.planned = false := by
  obtain ⟨i, hi, hget⟩ := List.mem_iff_getElem.1 ht
  obtain ⟨x, hx, hxt⟩ : ∃ x ∈ l.zipIdx, x.1 = t := List.exists_mem_zipIdx'.2 ⟨i, hi, hget⟩
  subst hxt
  rw [vecs_foldl_giveVec]
  exact ⟨_, List.mem_append_right _ (List.mem_map_of_mem (List.mem_filter.2 ⟨hx, by simp⟩)), rfl, rfl, rfl⟩

end giveVec

/-! ### Issue (R68, R77, R92, R111, R431) -/

section issue
variable {s : State} {c e op : Nat} {d : Desc}

/-- The operation enters the engine, and the tiles their vectors, after the accumulator tile is taken. -/
theorem startMvm_eq (s : State) (c e : Nat) (d : Desc) (two clear : Bool) : ∃ (o : EngOp) (g : EngineS → EngineS),
    o.d = d ∧ o.tiles = maskTiles d.mask ∧ o.thresherDone = false ∧ (∀ x, (g x).ops = x.ops ∧ (g x).accs = x.accs)
    ∧ s.startMvm c e d two clear = (((maskTiles d.mask).zipIdx.foldl (State.giveVec c e d d.sideOff
        ((s.takeAcc c e d clear).eng c e).force) (s.takeAcc c e d clear)).addOp c e o).modEng c e g := by
  refine ⟨_, fun x => { x with
    glume := x.glume ++ [d.tag], force := x.force.filter (fun t => !(maskTiles d.mask).contains t) }, ?_, ?_, ?_, ?_, rfl⟩
  · rfl
  · rfl
  · rfl
  · exact fun _ => ⟨rfl, rfl⟩

theorem tileServes_issue (s : State) (c e t : Nat) (d : Desc) : (s.issue c e d).tileServes c e t = s.tileServes c e t := by
  have hq := queuesOnly_issue s c e d
  rw [State.tileServes, State.rdB, hq.rd_tile e (.of_check (by decide)), hq.rd_tile e (.of_check (by decide)), State.tileServes, State.rdB]

theorem sideBad_congr {s u : State} (h : u.cstore = s.cstore) (c off : Nat) : u.sideBad c off = s.sideBad c off := by
  simp only [State.sideBad, csNat_congr h, csBad_congr h]

/-- Tiles of one slice mode: none differs from the first. -/
theorem any_bne_head_of_all_eq {l : List Bool} (h : ∀ a ∈ l, ∀ b ∈ l, a = b) : l.any (fun b => b != l.getD 0 false) = false := by
  cases l with
  | nil => rfl
  | cons a l =>
    rw [List.any_eq_false]
    intro b hb
    simp [h b hb a List.mem_cons_self]

/-- A matrix command whose tiles serve, are of one slice mode and fresh, with its accumulator tile free and its side block valid,
starts. -/
theorem mvmEffect_of_ready (clear : Bool) (hd : s.issuable c e op = some d)
    (htiles : ∀ t ∈ maskTiles d.mask, s.tileWaits c e t = false ∧ s.tileServes c e t = true
      ∧ ∀ q ∈ maskTiles d.mask, s.twoSlice c e (s.physTile c e t) (s.computeBank c e (s.physTile c e t))
          = s.twoSlice c e (s.physTile c e q) (s.computeBank c e (s.physTile c e q)))
    (ha : d.acc < 64) (hb : s.rdB (engPg c e) (ENG.ACC_TILE_BUSY d.acc) = false)
    (hage : s.worstAge c e (maskTiles d.mask) ≤ s.intervalUs c e) (hlim : s.rd (engPg c e) ENG.REFRESH_CTRL_STALE_LIMIT ≠ 0)
    (hside : s.sideBad c d.sideOff = false) :
    ∃ two, mvmEffect s c e op clear = ((s.issue c e d).startMvm c e d two clear).pump c := by
  have hwaits : (maskTiles d.mask).any (fun t => s.tileWaits c e t) = false := by
    rw [List.any_eq_false]
    intro t ht
    simp [(htiles t ht).1]
  have hserves : (maskTiles d.mask).find? (fun t => !(s.issue c e d).tileServes c e t) = none := by
    rw [List.find?_eq_none]
    intro t ht
    simp [tileServes_issue, (htiles t ht).2.1]
  have hslices := any_bne_head_of_all_eq (l := (maskTiles d.mask).map
    (fun t => s.twoSlice c e (s.physTile c e t) (s.computeBank c e (s.physTile c e t)))) (by
      simp only [List.mem_map, forall_exists_index, and_imp, forall_apply_eq_imp_iff₂]
      exact fun t ht q hq => (htiles t ht).2.2 q hq)
  have hstale : ¬ (s.rd (engPg c e) ENG.REFRESH_CTRL_STALE_LIMIT ≠ 0
      ∧ s.rd (engPg c e) ENG.REFRESH_CTRL_STALE_LIMIT * s.intervalUs c e < s.worstAge c e (maskTiles d.mask)) := by
    have hmul := Nat.le_mul_of_pos_left (s.intervalUs c e) (Nat.pos_of_ne_zero hlim)
    omega
  have hside' : (s.issue c e d).sideBad c d.sideOff = false := by
    rw [sideBad_congr ((State.issue_frame ..).cstore_eq (by decide)), hside]
  refine ⟨((maskTiles d.mask).map (fun t => s.twoSlice c e (s.physTile c e t) (s.computeBank c e (s.physTile c e t)))).getD 0 false,
    ?_⟩
  unfold mvmEffect
  rw [hd]
  dsimp only
  rw [hwaits, if_neg Bool.false_ne_true, accBusy_issue ha hb, if_neg Bool.false_ne_true, hserves]
  dsimp only
  rw [hslices, if_neg Bool.false_ne_true, if_neg hstale, hside', if_neg Bool.false_ne_true, if_neg (Nat.not_lt.2 hage)]

/-- In `u` the matrix command `d` of state `s` is under way: its operation, its accumulator tile, the vectors of its tiles. -/
structure MvmUnderWay (s u : State) (c e : Nat) (d : Desc) (clear : Bool) : Prop where
  op : ∃ o ∈ (u.eng c e).ops, o.d = d ∧ o.tiles = maskTiles d.mask ∧ o.thresherDone = false
  lanes : (u.acc c e d.acc).lanes = if clear then List.replicate 256 .zero else (s.acc c e d.acc).lanes
  busy : u.rd (engPg c e) (ENG.ACC_TILE_BUSY d.acc) = 1
  owner : u.rd (engPg c e) (ENG.ACC_TILE_OWNER d.acc) = d.tag % 64
  vecs : ∀ t ∈ maskTiles d.mask, ∃ v ∈ (u.tile c e (s.physTile c e t)).vecs, v.tag = d.tag ∧ v.named = t ∧ v.planned = false

theorem mvmUnderWay_startMvm (s : State) {c e : Nat} {d : Desc} (two clear : Bool) (he : e < 4) (ha : d.acc < 64) :
    MvmUnderWay s (s.startMvm c e d two clear) c e d clear := by
  obtain ⟨o, g, hod, hot, hodone, hg, heq⟩ := startMvm_eq s c e d two clear
  have hgiven := foldl_giveVec_frame c e d d.sideOff ((s.takeAcc c e d clear).eng c e).force (s.takeAcc c e d clear)
    (maskTiles d.mask).zipIdx
  obtain ⟨hbusy, howner⟩ := rd_ownAcc s c e d clear
  rw [heq]
  refine ⟨⟨o, ?_, hod, hot, hodone⟩, ?_, ?_, ?_, fun t ht => ?_⟩
  · rw [eng_modEng_same, (hg _).1, ops_addOp]
    exact List.mem_append_right _ (List.mem_singleton_self _)
  · rw [acc_modEng _ _ _ _ (fun x => (hg x).2), State.addOp, acc_modEng _ _ _ _ (by intro _; rfl), hgiven.acc_eq (by decide),
      lanes_takeAcc, lanes_ownAcc]
  · rw [rd_modEng, State.addOp, rd_modEng, hgiven.rd_eq (by decide), rd_takeAcc _ _ _ _ _ (fits_accBusy ha) (engPg_slot c he), hbusy]
  · rw [rd_modEng, State.addOp, rd_modEng, hgiven.rd_eq (by decide), rd_takeAcc _ _ _ _ _ (fits_accOwner ha) (engPg_slot c he),
      howner]
  · rw [tile_modEng, State.addOp, tile_modEng, ← physTile_takeAcc s c e d clear he ha t]
    exact exists_vec_of_mem _ _ _ _ _ _ ht

/-- Issue before the start moves the queue alone, dispatch after it queues alone. -/
theorem MvmUnderWay.of_issue {u : State} {clear : Bool} (h : MvmUnderWay (s.issue c e d) u c e d clear) (ha : d.acc < 64) :
    MvmUnderWay s (u.pump c) c e d clear where
  op := by rw [ops_pump]; exact h.op
  lanes := by rw [acc_pump, h.lanes, (queuesOnly_issue s c e d).acc_eq]
  busy := by rw [rd_pump_eng _ _ _ (fits_accBusy ha), h.busy]
  owner := by rw [rd_pump_eng _ _ _ (fits_accOwner ha), h.owner]
  vecs t ht := by
    rw [(State.pump_frame _ c).tile_eq (by decide), ← (queuesOnly_issue s c e d).physTile_eq e t]
    exact h.vecs t ht

end issue

/-- Settles O6: the accumulator tile is taken after issue, each tile of the mask then gets its vector, and dispatch follows. -/
theorem matrixCommandsIssue : Obligations.MatrixCommandsIssue := by
  unfold Obligations.MatrixCommandsIssue
  intro s c e d htiles ha hb hage hlim hside
  have hready {op : Nat} (clear : Bool) (he : e < 4) (hd : s.issuable c e op = some d) :
      MvmUnderWay s (mvmEffect s c e op clear) c e d clear := by
    obtain ⟨two, heq⟩ := mvmEffect_of_ready clear hd htiles ha hb hage hlim hside
    rw [heq]
    exact (mvmUnderWay_startMvm (s.issue c e d) two clear he ha).of_issue ha
  refine ⟨fun hlets hd => ?_, fun hlets hd => ?_⟩
  · have h := hready true (lt_of_wfE hlets.1) hd
    exact completes_of_lets hlets rfl
      ⟨h.op, h.lanes.trans (if_pos rfl), h.busy, h.owner, h.vecs, (mvmEffect_frame s c e 0x10 true).keeps⟩
  · have h := hready false (lt_of_wfE hlets.1) hd
    exact completes_of_lets hlets rfl
      ⟨h.op, h.lanes.trans (if_neg Bool.false_ne_true), h.busy, h.owner, h.vecs, (mvmEffect_frame s c e 0x11 false).keeps⟩

end Sys2Proof.Machine
end

section
/-! PROOFS. What the operations of calibration leave of the registers and of a tile's record: counters, events, banks, phases. -/

namespace Sys2Proof.Machine

/-- Steps that each leave the other pages leave them together. -/
theorem PagesKept.foldl {α : Type} {ps : List Nat} {f : State → α → State} {l : List α}
    (hf : ∀ a ∈ l, ∀ u, PagesKept ps u (f u a)) (s : State) : PagesKept ps s (l.foldl f s) := by
  induction l generalizing s with
  | nil => exact .refl _ s
  | cons a l ih =>
    obtain ⟨ha, hl⟩ := List.forall_mem_cons.1 hf
    exact (ha s).trans (ih hl _)

theorem tilePg_ne_diePage (c : Nat) {e t : Nat} (he : e < 4) (ht : t < 17) (d : Nat) : tilePg c e t ≠ diePage d := by
  have hslot := tilePg_slot c he ht
  unfold diePage diePg
  omega

/-! ### A 32-bit counter of a TILE page (R48) -/

/-- A counter that wraps raises its page's event: every other field of a core's pages stands. -/
theorem rd_tcount (s : State) {p q : Nat} {f g : Fld} (n : Nat) (hg : FldFits g) (hq : 8 ≤ q % 1024) (hf : fkey q g ≠ fkey p f)
    (hirq : fkey q g ≠ fkey p HDR.IRQ_STAT) : (s.tcount p f n).rd q g = s.rd q g := by
  unfold State.tcount
  dsimp only
  split
  · rw [rd_irq _ _ _ _ _ (irqFree_of_core_page hg (by omega) hirq), State.inc, rd_wr_other _ _ _ _ _ _ hf]
  · exact rd_wr_other _ _ _ _ _ _ hf

/-! ### The sequencer's phase on a tile (R139) -/

section phase
variable (s : State) (c e t : Nat) {n : Nat}

theorem phase_setCalPhase (hn : n < 8) : (s.setCalPhase c e t n).rd (tilePg c e t) TILE.CAL_STAT_PHASE = n := by
  rw [State.setCalPhase, State.wrB, rd_wr_of_start _ _ (by decide), rd_wr_same]
  exact Nat.mod_eq_of_lt hn

theorem busy_setCalPhase : (s.setCalPhase c e t n).rd (tilePg c e t) TILE.CAL_STAT_BUSY = toBit (n != 0) := by
  rw [State.setCalPhase, State.wrB, rd_wr_same]
  exact Nat.mod_eq_of_lt (toBit_lt _ Nat.one_pos)

/-- Only PHASE and BUSY of the tile's page change. -/
theorem rd_setCalPhase_of_start {f : Fld} (hphase : fldStart f ≠ fldStart TILE.CAL_STAT_PHASE)
    (hbusy : fldStart f ≠ fldStart TILE.CAL_STAT_BUSY) : (s.setCalPhase c e t n).rd (tilePg c e t) f = s.rd (tilePg c e t) f := by
  rw [State.setCalPhase, State.wrB, rd_wr_of_start _ _ hbusy, rd_wr_of_start _ _ hphase]

@[simp] theorem tile_setCalPhase (d i k : Nat) : (s.setCalPhase c e t n).tile d i k = s.tile d i k := rfl

theorem pagesKept_setCalPhase : PagesKept [tilePg c e t] s (s.setCalPhase c e t n) :=
  have hp : tilePg c e t ∈ [tilePg c e t] := List.mem_singleton_self _
  ((PagesKept.refl _ s).wr_page _ (f := TILE.CAL_STAT_PHASE) (.of_check (by decide)) hp).wr_page _ (f := TILE.CAL_STAT_BUSY)
    (.of_check (by decide)) hp

end phase

/-! ### Banks that become EMPTY or are written (R54, R55) -/

section banks
variable (s : State) (c e t b : Nat)

@[simp] theorem TileS.shadow_modBank (x : TileS) (f : BankS → BankS) : (x.modBank b f).shadow = x.shadow := by
  unfold TileS.modBank TileS.setBank
  split <;> rfl

@[simp] theorem TileS.active_modBank (x : TileS) (f : BankS → BankS) : (x.modBank b f).active = x.active := by
  unfold TileS.modBank TileS.setBank
  split <;> rfl

@[simp] theorem shadow_emptyBank : ((s.emptyBank c e t b).tile c e t).shadow = (s.tile c e t).shadow := by
  simp [State.emptyBank]

@[simp] theorem active_emptyBank : ((s.emptyBank c e t b).tile c e t).active = (s.tile c e t).active := by
  simp [State.emptyBank]

theorem bankState_flushLate (i k : Nat) : (s.flushLate c e t b).bankState c e i k = s.bankState c e i k :=
  (State.flushLate_frame s c e t b).rd_eq (by decide) _ _

/-- The state of a bank stands when another becomes EMPTY. -/
theorem bankState_emptyBank_other {i k : Nat} (h : bkey i k ≠ bkey t b) :
    (s.emptyBank c e t b).bankState c e i k = s.bankState c e i k := by
  rw [State.emptyBank, bankState_modTile, State.bankState, rd_wr_of_start, rd_wr_of_start, rd_wr_of_start, rd_wr_of_start,
    rd_wr_of_start, ← State.bankState, bankState_flushLate]
  all_goals
    simp only [fldStart_bankState, fldStart_bankRows, fldStart_bankWriting, fldStart_bankPoisoned, fldStart_bankShadow]
    omega

theorem bankState_setCalPhase {i k : Nat} (n : Nat) (hk : bkey i k < 34) :
    (s.setCalPhase c e t n).bankState c e i k = s.bankState c e i k :=
  (pagesKept_setCalPhase s c e t).rd_eq (fits_bankState hk) (by simpa using engPg_ne_tilePg c e t)

theorem pagesKept_beginWrite (kind : WriteKind) (rows img : Nat) (resident : Bool) (limit tag : Nat) (hk : bkey t b < 34) :
    PagesKept [engPg c e] s (s.beginWrite c e t b kind rows img resident limit tag).1 :=
  have hlate : PagesKept [engPg c e] s (s.flushLate c e t b) :=
    .of_regs ((State.flushLate_frame s c e t b).keeps .regs (by decide)) (.refl _ _)
  .wr_page 1 (fits_bankWriting hk) (List.mem_singleton_self _) (.of_regs (modTile_regs _ _ _ _ _) hlate)

end banks

end Sys2Proof.Machine
end

section
/-! PROOFS. APPLY, SAVE, LOAD with its verification, and RECAL. Settles O10. -/

namespace Sys2Proof.Machine

section requests
variable {s : State} {c e t : Nat}

/-! ### APPLY and SAVE (R134, R137) -/

theorem calApplyReqEffect_of_busy (h : s.calBusy c e t = true) : calApplyReqEffect s c e t = s.refuse (tilePg c e t) := if_pos h

theorem calApplyReqEffect_of_free (h : s.calBusy c e t = false) :
    calApplyReqEffect s c e t = s.modTile c e t (fun x => { x with applyReq := true }) := if_neg (by simp [h])

theorem calSaveEffect_of_free (h : s.calBusy c e t = false) :
    calSaveEffect s c e t = s.csWrite c (s.rdA (tilePg c e t) TILE.CAL_IMG_ADDR_ADDR) (s.calImage c e t) := if_neg (by simp [h])

theorem cstore_csWrite (s : State) (c off : Nat) (l : List Byte) :
    (s.csWrite c off l).cstore = s.cstore.put (csBase c + off) l := rfl

theorem csWrite_keeps (s : State) (c off : Nat) (l : List Byte) : Keeps [.cstore] s (s.csWrite c off l) :=
  (Frame.cstore_wf s _ (Store.put_wf _ l _)).keeps

/-! ### LOAD (R138) -/

section load
variable (hbusy : s.calBusy c e t = false) (hserve : s.rdB (tilePg c e t) TILE.STAT_IN_SERVICE = false)
include hbusy hserve

theorem calLoadEffect_of_good (hbad : s.csBad c (s.rdA (tilePg c e t) TILE.CAL_IMG_ADDR_ADDR) 1024 = false)
    (hok : imageOk c e t (s.csRead c (s.rdA (tilePg c e t) TILE.CAL_IMG_ADDR_ADDR) 1024) = true) :
    calLoadEffect s c e t = s.loadImage c e t (s.csRead c (s.rdA (tilePg c e t) TILE.CAL_IMG_ADDR_ADDR) 1024) := by
  simp [calLoadEffect, hbusy, hserve, hbad, hok]

theorem calLoadEffect_of_bad (hok : imageOk c e t (s.csRead c (s.rdA (tilePg c e t) TILE.CAL_IMG_ADDR_ADDR) 1024) = false) :
    calLoadEffect s c e t = s.wr (tilePg c e t) TILE.CAL_STAT_LOAD_RESULT 2 := by
  simp [calLoadEffect, hbusy, hserve, hok]

end load

/-- The shadow set comes first, then registers of the tile; last both banks become EMPTY and the verification begins. -/
theorem loadImage_eq (s : State) (c e t : Nat) (img : List Byte) : ∃ u,
    Frame [.regs] (s.modTile c e t (fun x => { x with shadow := trimsOf ((img.drop 64).take 404) ((img.drop 468).take 512) })) u
    ∧ s.loadImage c e t img = ((u.emptyBank c e t 0).emptyBank c e t 1).setCalPhase c e t 4 :=
  ⟨_, Frame.foldl (fun u _ => State.putColmap_frame u ..) _ ((State.wr_frame ..).after (by decide)
    ((State.wr_frame ..).after (by decide) (State.wr_frame ..))), rfl⟩

/-- A loaded image is the shadow set, the active set stands, and the verification has both banks. -/
theorem loadImage_spec (s : State) (c e : Nat) {t : Nat} (ht : t < 17) (img : List Byte) :
    let u := s.loadImage c e t img
    (u.tile c e t).shadow = trimsOf ((img.drop 64).take 404) ((img.drop 468).take 512)
    ∧ (u.tile c e t).active = (s.tile c e t).active ∧ u.bankState c e t 0 = 0 ∧ u.bankState c e t 1 = 0
    ∧ u.rd (tilePg c e t) TILE.CAL_STAT_PHASE = 4 ∧ u.rd (tilePg c e t) TILE.CAL_STAT_BUSY = 1 := by
  obtain ⟨u, hframe, heq⟩ := loadImage_eq s c e t img
  have htile := hframe.tile_eq (by decide) c e t
  rw [tile_modTile_same] at htile
  simp only [heq, tile_setCalPhase, shadow_emptyBank, active_emptyBank, htile, true_and]
  refine ⟨?_, ?_, phase_setCalPhase _ _ _ _ (by decide), busy_setCalPhase ..⟩
  · rw [bankState_setCalPhase _ _ _ _ _ (bkey_lt ht (by decide)), bankState_emptyBank_other _ _ _ _ _ (by unfold bkey; omega),
      bankState_emptyBank]
  · rw [bankState_setCalPhase _ _ _ _ _ (bkey_lt ht (by decide)), bankState_emptyBank]

/-! ### The verification (R138) -/

/-- An image that passes its verification is loaded, and its APPLY is requested. -/
def State.acceptImage (s : State) (c e t : Nat) : State :=
  ((s.wr (tilePg c e t) TILE.CAL_STAT_LOAD_RESULT 1).setCalPhase c e t 0).modTile c e t (fun x => { x with applyReq := true })

theorem calVerifyEffect_of_pass (h : s.rd (tilePg c e t) TILE.CAL_STAT_PHASE = 4) :
    calVerifyEffect s c e t true = s.acceptImage c e t := by
  simp [calVerifyEffect, h, State.acceptImage]

theorem calVerifyEffect_of_fail (h : s.rd (tilePg c e t) TILE.CAL_STAT_PHASE = 4) :
    calVerifyEffect s c e t false = s.rejectImage c e t 3 := by
  simp [calVerifyEffect, h]

theorem acceptImage_frame (s : State) (c e t : Nat) : Frame [.regs, .tiles] s (s.acceptImage c e t) :=
  (State.modTile_frame ..).after (by decide) ((State.setCalPhase_frame ..).after (by decide)
    ((State.wr_frame ..).after (by decide) (.refl _ s)))

theorem acceptImage_spec (s : State) (c e t : Nat) :
    let u := s.acceptImage c e t
    u.rd (tilePg c e t) TILE.CAL_STAT_LOAD_RESULT = 1 ∧ u.rd (tilePg c e t) TILE.CAL_STAT_BUSY = 0
    ∧ u.tile c e t = { s.tile c e t with applyReq := true } ∧ PagesKept [tilePg c e t] s u := by
  unfold State.acceptImage
  refine ⟨?_, ?_, tile_modTile_same _ _ _ _ _, .of_regs (modTile_regs _ _ _ _ _) (.trans ?_ (pagesKept_setCalPhase _ _ _ _))⟩
  · rw [rd_modTile, rd_setCalPhase_of_start _ _ _ _ (by decide) (by decide), rd_wr_same]
    rfl
  · rw [rd_modTile, busy_setCalPhase]
    rfl
  · exact (PagesKept.refl _ s).wr_page 1 (.of_check (by decide)) (List.mem_singleton_self _)

theorem rejectImage_spec (s : State) (c e t : Nat) {r : Nat} (hr : r < 4) :
    (s.rejectImage c e t r).rd (tilePg c e t) TILE.CAL_STAT_LOAD_RESULT = r
    ∧ (s.rejectImage c e t r).tile c e t = { s.tile c e t with calStage := 2 } := by
  unfold State.rejectImage
  dsimp only
  constructor
  · rw [rd_modTile, rd_setCalPhase_of_start _ _ _ _ (by decide) (by decide), State.emit, rd_emitR, rd_wr_same]
    exact Nat.mod_eq_of_lt hr
  · rw [tile_modTile_same, tile_setCalPhase, tile_emit, tile_wr]
    split <;> rfl

end requests

/-- Settles O10: each request by the equation for its effect, LOAD by what `loadImage` leaves, a failed verification by what
`rejectImage` leaves. -/
theorem calibrationRequests : Obligations.CalibrationRequests := by
  unfold Obligations.CalibrationRequests
  refine fun s c e t => ⟨fun hlets hbusy => ?_, fun hlets hbusy => ?_, fun hlets hbusy => ?_, fun hlets hbusy hserve hbad hok => ?_,
    fun hlets hbusy hserve hok => ?_, fun hlets hphase => ?_, fun hlets hphase => ?_, fun hlets => ?_⟩
  · exact ⟨_, exec_of_effect hlets rfl (calApplyReqEffect_of_free hbusy), tile_modTile_same _ _ _ _ _, agreeOff_modTile _ _ _ _ _,
      (State.modTile_frame _ _ _ _ _).keeps⟩
  · exact exec_of_effect hlets rfl (calApplyReqEffect_of_busy hbusy)
  · exact ⟨_, exec_of_effect hlets rfl (calSaveEffect_of_free hbusy), cstore_csWrite _ _ _ _, s.calImage_length c e t,
      csWrite_keeps _ _ _ _⟩
  · obtain ⟨-, ht⟩ := lt_of_wfT hlets.1
    obtain ⟨hshadow, hactive, hbankA, hbankB, hphase, hbusy'⟩ :=
      loadImage_spec s c e ht (s.csRead c (s.rdA (tilePg c e t) TILE.CAL_IMG_ADDR_ADDR) 1024)
    exact ⟨_, exec_of_effect hlets rfl (calLoadEffect_of_good hbusy hserve hbad hok), hshadow, hactive, hbankA, hbankB, hphase,
      hbusy', (State.loadImage_frame ..).keeps⟩
  · exact exec_of_effect hlets rfl (calLoadEffect_of_bad hbusy hserve hok)
  · obtain ⟨hresult, hbusy, htile, hpages⟩ := acceptImage_spec s c e t
    exact ⟨_, exec_of_effect hlets rfl (calVerifyEffect_of_pass hphase), hresult, hbusy, htile, hpages,
      (acceptImage_frame s c e t).keeps⟩
  · obtain ⟨hresult, htile⟩ := rejectImage_spec s c e t (show 3 < 4 by decide)
    exact ⟨_, exec_of_effect hlets rfl (calVerifyEffect_of_fail hphase), hresult, htile, (State.rejectImage_frame ..).keeps⟩
  · have heng := eng_modEng_same s c e (fun x => { x with rot := { x.rot with front := addLanes x.rot.front [t] } })
    refine completes_of_lets (t := s.toFront c e t) hlets rfl ⟨?_, fun k hk => ?_, ?_, AgreeOff.mput _ _ _,
      (State.toFront_frame ..).keeps⟩
    all_goals rw [State.toFront, heng]
    · exact mem_addLanes (.inr (List.mem_singleton_self t))
    · exact mem_addLanes (.inl hk)

end Sys2Proof.Machine
end

section
/-! PROOFS. APPLY at a pass boundary and the tracking of a window. Settles O11. -/

namespace Sys2Proof.Machine

/-! ### Where the tracking terms lie (R126) -/

section terms
variable (b : Nat)

theorem fldStart_trackGain : fldStart (TILE.TRACK_GAIN b) = 2176 + 32 * b := by
  simp only [fldStart, TILE.TRACK_GAIN]
  omega

theorem fldStart_trackOffset : fldStart (TILE.TRACK_OFFSET b) = 2184 + 32 * b := by
  simp only [fldStart, TILE.TRACK_OFFSET]
  omega

theorem fldStart_trackLimit : fldStart (TILE.TRACK_LIMIT b) = 2207 + 32 * b := by
  simp only [fldStart, TILE.TRACK_LIMIT]
  omega

variable {b} (hb : b < 2)
include hb

theorem fits_trackGain : FldFits (TILE.TRACK_GAIN b) := .mk (by decide) (by omega) (by decide)
theorem fits_trackOffset : FldFits (TILE.TRACK_OFFSET b) := .mk (by decide) (by omega) (by decide)

end terms

/-! ### APPLY at a pass boundary (R126, R128, R134) -/

section apply
variable (s : State) (c e t : Nat)

theorem clearTracks_eq : s.clearTracks c e t = ((((((s.wr (tilePg c e t) (TILE.TRACK_LIMIT 0) 0).wr (tilePg c e t)
    (TILE.TRACK_OFFSET 0) 0).wr (tilePg c e t) (TILE.TRACK_GAIN 0) 0).wr (tilePg c e t) (TILE.TRACK_LIMIT 1) 0).wr (tilePg c e t)
    (TILE.TRACK_OFFSET 1) 0).wr (tilePg c e t) (TILE.TRACK_GAIN 1) 0).modTile c e t
    (fun x => { x with trackA := .init, trackB := .init }) := rfl

theorem terms_clearTracks {b : Nat} (hb : b < 2) : (s.clearTracks c e t).rd (tilePg c e t) (TILE.TRACK_GAIN b) = 0
    ∧ (s.clearTracks c e t).rd (tilePg c e t) (TILE.TRACK_OFFSET b) = 0 := by
  obtain rfl | rfl : b = 0 ∨ b = 1 := by omega
  all_goals
    simp (disch := decide) only [clearTracks_eq, rd_modTile, rd_wr_of_start, rd_wr_same]
    exact ⟨rfl, rfl⟩

/-- The record of a tile that takes its shadow set. -/
def TileS.takeShadow (x : TileS) : TileS :=
  { x with active := x.shadow, applyReq := false, epoch := x.epoch + 1, gainPeak := max x.gainPeak x.shadow.gainUsed }

/-- The tile takes its shadow set with the shadow's LIMIT_MAX, and its tracking begins anew: the first half of APPLY. -/
def State.takeShadow : State :=
  ((s.modTile c e t TileS.takeShadow).wr (tilePg c e t) TILE.CFG_LIMIT_MAX
    (s.rd (tilePg c e t) TILE.CAL_SET_LIMIT_MAX)).clearTracks c e t

theorem takeShadow_frame : Frame [.regs, .tiles] s (s.takeShadow c e t) :=
  (State.clearTracks_frame ..).after (by decide) ((State.wr_frame ..).after (by decide)
    ((State.modTile_frame ..).after (by decide) (.refl _ s)))

theorem sclk_takeShadow : (s.takeShadow c e t).sclk = s.sclk := by
  have hsclk0 : (s.takeShadow c e t).sclk0 = s.sclk0 := (takeShadow_frame s c e t).keeps .sclk0 (by decide)
  rw [State.sclk, (takeShadow_frame s c e t).now_eq (by decide), hsclk0, State.sclk]

/-- Then the calibration is dated, counted and no longer late; the temperatures and GAIN_USED go with it. -/
theorem doApply_eq : ∃ temp used term : Nat, s.doApply c e t
    = ((((((s.takeShadow c e t).wr (tilePg c e t) TILE.TEMP_COMP_CAL_TEMP temp).wr (tilePg c e t) TILE.CAL_TIME
      (s.takeShadow c e t).sclk).inc (tilePg c e t) TILE.CAL_CNT).wr (tilePg c e t) TILE.CAL_STAT_OVERDUE 0).wr (tilePg c e t)
      TILE.CAL_STAT_GAIN_USED used).wr (tilePg c e t) TILE.TEMP_TERM_TT term := ⟨_, _, _, rfl⟩

theorem tiles_doApply : (s.doApply c e t).tiles = (s.takeShadow c e t).tiles := by
  obtain ⟨temp, used, term, heq⟩ := doApply_eq s c e t
  rw [heq]
  rfl

theorem tile_doApply : (s.doApply c e t).tile c e t = { (s.tile c e t).takeShadow with trackA := .init, trackB := .init } := by
  rw [State.tile, tiles_doApply, ← State.tile, State.takeShadow, clearTracks_eq]
  simp only [tile_wr, tile_modTile_same]

theorem agreeOff_doApply : AgreeOff [c * 128 + e * 32 + t] s.tiles (s.doApply c e t).tiles := by
  rw [tiles_doApply, State.takeShadow, clearTracks_eq]
  refine .modTile ?_ _
  simp only [wr_tiles]
  exact agreeOff_modTile s c e t _

/-- The registers that APPLY sets (R126, R128, R134). -/
theorem rd_doApply :
    let u := s.doApply c e t
    u.rd (tilePg c e t) TILE.CFG_LIMIT_MAX = s.rd (tilePg c e t) TILE.CAL_SET_LIMIT_MAX % 4
    ∧ (∀ b, b < 2 → u.rd (tilePg c e t) (TILE.TRACK_GAIN b) = 0 ∧ u.rd (tilePg c e t) (TILE.TRACK_OFFSET b) = 0)
    ∧ u.rd (tilePg c e t) TILE.CAL_TIME = s.sclk % 2 ^ 64
    ∧ u.rd (tilePg c e t) TILE.CAL_CNT = (s.rd (tilePg c e t) TILE.CAL_CNT + 1) % 2 ^ 64
    ∧ u.rd (tilePg c e t) TILE.CAL_STAT_OVERDUE = 0 := by
  obtain ⟨temp, used, term, heq⟩ := doApply_eq s c e t
  simp only [heq, State.inc, sclk_takeShadow]
  refine ⟨?_, fun b hb => ?_, ?_, ?_, ?_⟩
  case refine_2 =>
    have hterms : (s.takeShadow c e t).rd _ _ = 0 ∧ (s.takeShadow c e t).rd _ _ = 0 := terms_clearTracks _ c e t hb
    obtain rfl | rfl : b = 0 ∨ b = 1 := by omega
    all_goals
      simp (disch := decide) only [rd_wr_of_start]
      exact hterms
  all_goals
    simp (disch := decide) only [rd_wr_of_start, rd_wr_same, State.takeShadow, clearTracks_eq, rd_modTile]
    rfl

/-- A tile that start-up brings into service changes IN_SERVICE of its page; the counts lie on the page of die 16. -/
theorem rd_startTile (he : e < 4) (ht : t < 17) {f : Fld} (hf : FldFits f) (hserve : fldStart f ≠ fldStart TILE.STAT_IN_SERVICE) :
    (s.startTile c e t).rd (tilePg c e t) f = s.rd (tilePg c e t) f := by
  have hpage := tilePg_ne_diePage c he ht 16
  unfold State.startTile
  dsimp only
  split
  · rfl
  split
  · rw [State.inc, rd_wr_of_page _ _ (.of_check (by decide)) hf hpage, rd_wr_of_start _ _ hserve]
  · rw [State.countFull, if_neg Nat.one_ne_zero, rd_wr_of_page _ _ (.of_check (by decide)) hf hpage, State.inc,
      rd_wr_of_page _ _ (.of_check (by decide)) hf hpage, rd_wr_of_start _ _ hserve]

end apply

theorem applyEffectEffect_of_boundary {s : State} {c e t : Nat} (hreq : (s.tile c e t).applyReq = true)
    (hsplit : (s.tile c e t).splitting = false) : applyEffectEffect s c e t = (s.doApply c e t).startTile c e t := by
  simp [applyEffectEffect, hreq, hsplit]

/-! ### Tracking (R126, R127) -/

section track
variable {s : State} {c e t : Nat}

@[simp] theorem TileS.track_setTrack (x : TileS) (b : Nat) (y : Track) : (x.setTrack b y).track b = y := by
  unfold TileS.setTrack TileS.track
  split <;> rfl

theorem trackWindowEffect_of_short (h : ((s.tile c e t).track (s.computeBank c e t)).n < 256) :
    trackWindowEffect s c e t = s := if_pos h

/-- The terms of bank `b` take the values `g` and `o`, and its sums begin anew. -/
def State.putTrack (s : State) (c e t b : Nat) (g o : Int) : State :=
  ((s.wr (tilePg c e t) (TILE.TRACK_GAIN b) (ofSigned 8 g)).wr (tilePg c e t) (TILE.TRACK_OFFSET b) (ofSigned 8 o)).modTile c e t
    (fun y => y.setTrack b .init)

/-- A term that reaches the end of its range is marked and recorded, and its tile goes to the front (R127). -/
def State.markTrack (s : State) (c e t b : Nat) : State :=
  (((s.wr (tilePg c e t) (TILE.TRACK_LIMIT b) 1).tcount (tilePg c e t) TILE.TRACK_LIM_CNT).emit (engPg c e) 0x4018 0).toFront c e t

/-- The step of the gain term, against the ratio of the codes read to those expected (R126); `u` is an LSB in product units. -/
def Track.gainStep (x : Track) (u : Int) : Int :=
  if x.den < 1024 * u * u then 0 else if 2049 * x.den < 2048 * u * x.num then -1 else if 2048 * u * x.num < 2047 * x.den then 1 else 0

theorem Track.gainStep_mem (x : Track) (u : Int) : x.gainStep u ∈ ([-1, 0, 1] : List Int) := by
  unfold Track.gainStep
  repeat' split
  all_goals decide

/-- The step of the offset term, against the sum of the deviations (R126). -/
def Track.offsetStep (x : Track) : Int := if 16 < x.off then -1 else if x.off < -16 then 1 else 0

/-- After a window's samples both terms move by their steps; where one has reached its end it is marked. -/
theorem trackWindowEffect_of_full (h : 256 ≤ ((s.tile c e t).track (s.computeBank c e t)).n) :
    let b := s.computeBank c e t
    let x := (s.tile c e t).track b
    let u := s.putTrack c e t b
      (clampI (-31) 31 (toSigned 8 (s.rd (tilePg c e t) (TILE.TRACK_GAIN b)) + x.gainStep (unitOf (s.twoSlice c e t b))))
      (clampI (-32) 32 (toSigned 8 (s.rd (tilePg c e t) (TILE.TRACK_OFFSET b)) + x.offsetStep))
    trackWindowEffect s c e t = u ∨ trackWindowEffect s c e t = u.markTrack c e t b := by
  unfold trackWindowEffect
  dsimp only
  rw [if_neg (by omega)]
  exact (ite_eq_or_eq _ _ _).symm

variable (s c e t) (b : Nat) (g o : Int)

theorem ofSigned_lt (w : Nat) (v : Int) : ofSigned w v < 2 ^ w := by
  have hpos : (0 : Int) < 2 ^ w := by positivity
  have hlt := Int.emod_lt_of_pos v hpos
  have hge := Int.emod_nonneg v hpos.ne'
  unfold ofSigned
  zify
  omega

theorem putTrack_spec :
    let u := s.putTrack c e t b g o
    u.rd (tilePg c e t) (TILE.TRACK_GAIN b) = ofSigned 8 g ∧ u.rd (tilePg c e t) (TILE.TRACK_OFFSET b) = ofSigned 8 o
    ∧ (u.tile c e t).track b = .init ∧ AgreeOff [c * 128 + e * 32 + t] s.tiles u.tiles := by
  unfold State.putTrack
  refine ⟨?_, ?_, ?_, agreeOff_modTile _ _ _ _ _⟩
  · rw [rd_modTile, rd_wr_of_start _ _ (by rw [fldStart_trackGain, fldStart_trackOffset]; omega), rd_wr_same]
    exact Nat.mod_eq_of_lt (ofSigned_lt 8 g)
  · rw [rd_modTile, rd_wr_same]
    exact Nat.mod_eq_of_lt (ofSigned_lt 8 o)
  · rw [tile_modTile_same, TileS.track_setTrack]

theorem tiles_markTrack : (s.markTrack c e t b).tiles = s.tiles := (State.tcount_frame ..).tiles_eq (by decide)

/-- The mark leaves both terms of its bank. -/
theorem rd_markTrack (he : e < 4) (ht : t < 17) (hb : b < 2) :
    (s.markTrack c e t b).rd (tilePg c e t) (TILE.TRACK_GAIN b) = s.rd (tilePg c e t) (TILE.TRACK_GAIN b)
    ∧ (s.markTrack c e t b).rd (tilePg c e t) (TILE.TRACK_OFFSET b) = s.rd (tilePg c e t) (TILE.TRACK_OFFSET b) := by
  have hcnt : fldStart TILE.TRACK_LIM_CNT = 2496 := rfl
  have hirq : fldStart HDR.IRQ_STAT = 128 := rfl
  have hkept {f : Fld} (hf : FldFits f) (hlo : 2176 ≤ fldStart f) (hhi : fldStart f < 2207 + 32 * b) (hlt : fldStart f < 2496) :
      (s.markTrack c e t b).rd (tilePg c e t) f = s.rd (tilePg c e t) f := by
    rw [State.markTrack, State.toFront, rd_modEng, State.emit, rd_emitR,
      rd_tcount _ _ hf (tilePg_slot c he ht) (fkey_ne_of_start _ (by omega)) (fkey_ne_of_start _ (by omega)),
      rd_wr_of_start _ _ (by rw [fldStart_trackLimit]; omega)]
  have hgain := fldStart_trackGain b
  have hoffset := fldStart_trackOffset b
  exact ⟨hkept (fits_trackGain hb) (by omega) (by omega) (by omega),
    hkept (fits_trackOffset hb) (by omega) (by omega) (by omega)⟩

end track

/-! ### A calibration that is late (R131) -/

theorem calOverdueEffect_of_unmarked {s : State} {c e t : Nat} (h : s.rd (tilePg c e t) TILE.CAL_STAT_OVERDUE = 0) :
    calOverdueEffect s c e t = (s.wr (tilePg c e t) TILE.CAL_STAT_OVERDUE 1).emit (engPg c e) 0x4013 0 := by
  simp [calOverdueEffect, State.rdB, h]

/-- Settles O11: APPLY by the record and the registers `doApply` leaves, which a start-up after it keeps; a window by `putTrack`,
whose terms a mark keeps. -/
theorem trimsAreAppliedAndTracked : Obligations.TrimsAreAppliedAndTracked := by
  unfold Obligations.TrimsAreAppliedAndTracked
  refine fun s c e t => ⟨fun hlets hreq hsplit => ?_, fun hlets hn => ?_, fun hlets hn hb g o hg ho => ?_, fun hlets hdue => ?_⟩
  · obtain ⟨he, ht⟩ := lt_of_wfT hlets.1
    obtain ⟨hlimit, htrack, htime, hcnt, hdue⟩ := rd_doApply s c e t
    have hframe := State.startTile_frame (s.doApply c e t) c e t
    have heq := applyEffectEffect_of_boundary hreq hsplit
    have hkeeps := (applyEffectEffect_frame s c e t).keeps
    rw [heq] at hkeeps
    have hkept {f : Fld} (hf : FldFits f) (hserve : fldStart f ≠ 96) :=
      rd_startTile (s.doApply c e t) c e t he ht hf hserve
    have hrecord := (hframe.tile_eq (by decide) c e t).trans (tile_doApply s c e t)
    refine ⟨_, exec_of_effect hlets rfl heq, congrArg TileS.active hrecord, congrArg TileS.applyReq hrecord,
      (congrArg TileS.vecs hrecord :), (hkept (.of_check (by decide)) (by decide)).trans hlimit, fun b hlt => ?_,
      (hkept (.of_check (by decide)) (by decide)).trans htime, (hkept (.of_check (by decide)) (by decide)).trans hcnt,
      (hkept (.of_check (by decide)) (by decide)).trans hdue, ?_, hkeeps⟩
    · obtain ⟨hgain, hoffset⟩ := htrack b hlt
      exact ⟨(hkept (fits_trackGain hlt) (by rw [fldStart_trackGain]; omega)).trans hgain,
        (hkept (fits_trackOffset hlt) (by rw [fldStart_trackOffset]; omega)).trans hoffset⟩
    · rw [hframe.tiles_eq (by decide)]
      exact agreeOff_doApply s c e t
  · exact exec_of_effect hlets rfl (trackWindowEffect_of_short hn)
  · obtain ⟨he, ht⟩ := lt_of_wfT hlets.1
    have heq := trackWindowEffect_of_full hn
    dsimp only at heq
    rw [← hg, ← ho] at heq
    generalize hstep : Track.gainStep _ _ = d at heq
    have hd : d ∈ ([-1, 0, 1] : List Int) := hstep ▸ Track.gainStep_mem _ _
    obtain ⟨hgain, hoffset, htrack, htiles⟩ := putTrack_spec s c e t (s.computeBank c e t) (clampI (-31) 31 (g + d))
      (clampI (-32) 32 (o + ((s.tile c e t).track (s.computeBank c e t)).offsetStep))
    have hkeeps := (trackWindowEffect_frame s c e t).keeps
    obtain heq | heq := heq
    all_goals rw [heq] at hkeeps
    · exact ⟨_, exec_of_effect hlets rfl heq, ⟨d, hd, hgain⟩, hoffset, htrack, htiles, hkeeps⟩
    · obtain ⟨hgain', hoffset'⟩ := rd_markTrack _ c e t _ he ht hb
      refine ⟨_, exec_of_effect hlets rfl heq, ⟨d, hd, hgain'.trans hgain⟩, hoffset'.trans hoffset, ?_, ?_, hkeeps⟩
      · rw [State.tile, tiles_markTrack]
        exact htrack
      · rw [tiles_markTrack]
        exact htiles
  · have hkeeps := (calOverdueEffect_frame s c e t).keeps
    rw [calOverdueEffect_of_unmarked hdue] at hkeeps
    refine ⟨_, exec_of_effect hlets rfl (calOverdueEffect_of_unmarked hdue), ?_, .of_regs (emitR_regs _ _)
      ((PagesKept.refl _ s).wr_page 1 (.of_check (by decide)) (List.mem_singleton_self _)), hkeeps⟩
    rw [State.emit, rd_emitR, rd_wr_same]
    rfl

end Sys2Proof.Machine
end

section
/-! PROOFS. What a calibration procedure that converges writes into CAL_SET.LINEAR_PU. Refutes O12. -/

namespace Sys2Proof.Machine

section found
variable (s : State) (c e : Nat) {t : Nat} (m : CalMeas)

/-- The linear range found goes into a field of 24 bits (R139). -/
theorem linearPu_putMeas : (s.putMeas c e t m).rd (tilePg c e t) TILE.CAL_SET_LINEAR_PU = m.linearPu % 2 ^ 24 := by
  have hwr (u : State) (skew : Nat) : (((u.wr (tilePg c e t) TILE.CAL_SET_LINEAR_PU m.linearPu).wr (tilePg c e t)
      TILE.CAL_SET_LIMIT_MAX (limitFor m.linearPu)).wr (tilePg c e t) TILE.BANK_SKEW_SKEW skew).rd (tilePg c e t)
      TILE.CAL_SET_LINEAR_PU = m.linearPu % 2 ^ 24 := by
    rw [rd_wr_of_start _ _ (by decide), rd_wr_of_start _ _ (by decide), rd_wr_same]
    rfl
  unfold State.putMeas
  dsimp only
  split
  · rw [State.emit, rd_emitR, hwr]
  · rw [hwr]

/-- The return of a tile begins in the engine's page; in the tile's it changes CAL_STAT.PHASE. -/
theorem linearPu_beginReturn (ht : t < 17) (noApply : Bool) : (s.beginReturn c e t noApply).rd (tilePg c e t) TILE.CAL_SET_LINEAR_PU
    = s.rd (tilePg c e t) TILE.CAL_SET_LINEAR_PU := by
  have hpage : tilePg c e t ∉ [engPg c e] := by simpa using (engPg_ne_tilePg c e t).symm
  unfold State.beginReturn
  dsimp only
  rw [rd_wr_of_start _ _ (by decide), rd_modEng]
  refine PagesKept.rd_eq (.foldl (fun b hb u => ?_) s) (.of_check (by decide)) hpage
  have hk := bkey_lt ht (List.mem_range.1 hb)
  have hempty := pagesKept_emptyBank u c e t b hk
  split
  · exact hempty.trans (pagesKept_beginWrite _ _ _ _ _ _ _ _ _ _ _ hk)
  · exact hempty

/-- A turn's procedure that converges, on a tile that the spare stands in for, ends with the trims found and the return. -/
theorem calProcedureEffect_of_converged {s : State} {c e t : Nat} {m : CalMeas} (hphase : (s.eng c e).rot.phase = .calibrate)
    (htile : (s.eng c e).rot.tile = t) (ht : t < 16) (halone : (s.tile c e t).calStage = 0) (hretire : retireReason m = none)
    (hfailed : m.failed = []) (hconv : m.converged = true) :
    calProcedureEffect s c e t m = (s.putMeas c e t m).beginReturn c e t false := by
  have hruns : s.calRuns c e t = true := by simp [State.calRuns, hphase, htile]
  simp [calProcedureEffect, hruns, hretire, hfailed, State.remapFailed, hconv, halone, hphase, ht.ne]

end found

/-- The procedure runs on tile 3 of engine 0 of core 0, which stands as at reset. -/
def calibratingTile3 : State :=
  State.reset.modEng 0 0 (fun x => { x with rot := { x.rot with phase := .calibrate, tile := 3 } })

/-- A procedure that converges with no failed pair and a linear range of 2 ^ 24 product units. -/
def widestRange : CalMeas :=
  { ot := [], gt := [], dt := [], linearPu := 2 ^ 24, skew := 0, failed := [], medianGt := 0, delayOut := false,
    refFailed := false, converged := true }

theorem lets_calibratingTile3 : calibratingTile3.lets (.calProcedureEnd 0 0 3 widestRange) := lets_of_check (by decide)

/-- Refutes O12: LINEAR_PU is a field of 24 bits (R139), where the statement has it read the linear range found modulo 2 ^ 32. With
2 ^ 24 product units on tile 3 of engine 0 of core 0 it reads 0. -/
theorem not_rotationAndStartupCalibration : ¬ Obligations.RotationAndStartupCalibration := by
  unfold Obligations.RotationAndStartupCalibration
  rintro ⟨hturns, -⟩
  obtain ⟨-, -, -, hend, -⟩ := hturns calibratingTile3 0 0 3
  obtain ⟨u, hexec, -, hlinear, -⟩ :=
    hend widestRange lets_calibratingTile3 (by decide) (by decide) (by decide) (by decide) (by decide) rfl rfl
  have hret := exec_of_effect lets_calibratingTile3 rfl (calProcedureEffect_of_converged (c := 0) (e := 0) (t := 3) (m := widestRange)
    (by decide) (by decide) (by decide) (by decide) (by decide) rfl rfl)
  obtain rfl : _ = u := Host.Outcome.next.inj (hret.symm.trans hexec)
  rw [linearPu_beginReturn _ _ _ (by decide), linearPu_putMeas] at hlinear
  exact absurd hlinear (by decide)

end Sys2Proof.Machine
end

section
/-! PROOFS. The selection register of a tile. Settles O58. -/

namespace Sys2Proof.Machine

theorem lfsrLoad_ne_zero (seed e t : Nat) : lfsrLoad seed e t ≠ 0 := by
  unfold lfsrLoad
  generalize (if seed = 0 then 1 else seed) = w
  dsimp only
  split
  · decide
  · assumption

theorem lfsrLoad_lt {seed e t : Nat} (hs : seed < 2 ^ 32) (he : e < 4) (ht : t < 17) : lfsrLoad seed e t < 2 ^ 32 := by
  have hseed : (if seed = 0 then 1 else seed) < 2 ^ 32 := by split <;> omega
  unfold lfsrLoad
  generalize (if seed = 0 then 1 else seed) = w at hseed
  dsimp only
  split
  · decide
  · exact Nat.xor_lt_two_pow hseed (by omega)

/-- The bit that a step shifts in: the parity of the taps. -/
def lfsrTap (v : Nat) : Nat :=
  (toBit (v.testBit 31) + toBit (v.testBit 21) + toBit (v.testBit 1) + toBit (v.testBit 0)) % 2

theorem lfsrNext_eq (v : Nat) : lfsrNext v = (2 * v + lfsrTap v) % 2 ^ 32 := rfl

theorem lfsrTap_lt (v : Nat) : lfsrTap v < 2 := Nat.mod_lt _ Nat.two_pos

theorem lfsrNext_lt (v : Nat) : lfsrNext v < 2 ^ 32 := Nat.mod_lt _ (by decide)

theorem toBit_inj {a b : Bool} (h : toBit a = toBit b) : a = b := by
  revert h
  cases a <;> cases b <;> decide

/-- Two values whose low 31 bits agree shift in different bits unless their bits 31 agree too. -/
theorem testBit_31_of_lfsrTap_eq {v w : Nat} (hlow : v % 2 ^ 31 = w % 2 ^ 31) (h : lfsrTap v = lfsrTap w) :
    v.testBit 31 = w.testBit 31 := by
  have htap {i : Nat} (hi : i < 31) : v.testBit i = w.testBit i := by
    have hbit : (v % 2 ^ 31).testBit i = (w % 2 ^ 31).testBit i := by rw [hlow]
    simpa only [Nat.testBit_mod_two_pow, hi, decide_true, Bool.true_and] using hbit
  have hv := toBit_le_one (v.testBit 31)
  have hw := toBit_le_one (w.testBit 31)
  unfold lfsrTap at h
  rw [htap (i := 21) (by decide), htap (i := 1) (by decide), htap (i := 0) (by decide)] at h
  exact toBit_inj (by omega)

/-- A step can be undone: the bit shifted in is the value's parity, the bits shifted are its low 31, and the taps give bit 31. -/
theorem lfsrNext_injective {v w : Nat} (hv : v < 2 ^ 32) (hw : w < 2 ^ 32) (h : lfsrNext v = lfsrNext w) : v = w := by
  have hlv := lfsrTap_lt v
  have hlw := lfsrTap_lt w
  rw [lfsrNext_eq, lfsrNext_eq] at h
  have hlow : v % 2 ^ 31 = w % 2 ^ 31 := by omega
  have htop := testBit_31_of_lfsrTap_eq hlow (by omega)
  rw [Nat.testBit_eq_decide_div_mod_eq, Nat.testBit_eq_decide_div_mod_eq, decide_eq_decide] at htop
  omega

theorem lfsrNext_ne_zero {v : Nat} (hv : v < 2 ^ 32) (h0 : v ≠ 0) : lfsrNext v ≠ 0 := fun h =>
  h0 (lfsrNext_injective hv (by decide) (h.trans (by decide)))

theorem repeat_lfsrNext_succ (n v : Nat) : Nat.repeat lfsrNext n (lfsrNext v) = Nat.repeat lfsrNext (n + 1) v := by
  induction n with
  | zero => rfl
  | succ n ih => exact congrArg lfsrNext ih

/-- Whether a pass that finds the register at `w` is sampled (R143). -/
def sampledAt (k : Option Nat) (w : Nat) : Bool :=
  match k with
  | some k => w >>> (32 - k) == 0
  | none => false

theorem sampleMarks_succ (k : Option Nat) (n v : Nat) : sampleMarks k (n + 1) v
    = ((sampleMarks k n (lfsrNext v)).1, sampledAt k (lfsrNext v) :: (sampleMarks k n (lfsrNext v)).2) := rfl

/-- The marks of `n` passes: the register steps before each, and each is marked by the value it then has. -/
theorem sampleMarks_eq (k : Option Nat) (n v : Nat) :
    sampleMarks k n v = (Nat.repeat lfsrNext n v, (List.range n).map (fun i => sampledAt k (Nat.repeat lfsrNext (i + 1) v))) := by
  induction n generalizing v with
  | zero => rfl
  | succ n ih =>
    rw [sampleMarks_succ, ih, List.range_succ_eq_map, List.map_cons, List.map_map]
    simp only [repeat_lfsrNext_succ, Function.comp_def]
    rfl

/-- Settles O58: a step is undone from the value it gives, so only 0 steps to 0; the marks by induction on the passes. -/
theorem selectionRegistersNeverStop : Obligations.SelectionRegistersNeverStop := by
  unfold Obligations.SelectionRegistersNeverStop
  refine ⟨fun seed e t hs he ht => ⟨lfsrLoad_ne_zero seed e t, lfsrLoad_lt hs he ht⟩,
    fun v hv h0 => ⟨lfsrNext_ne_zero hv h0, lfsrNext_lt v⟩, fun v w hv hw => lfsrNext_injective hv hw, fun k n v => ?_⟩
  rw [sampleMarks_eq]
  refine ⟨by simp, rfl, fun i hi => ?_⟩
  rw [List.getElem?_map, List.getElem?_range hi]
  rfl

end Sys2Proof.Machine
end

section
/-! PROOFS. The start of a step and the zeroing of the system clock. Settles O31. -/

namespace Sys2Proof.Machine

/-! ### Semaphores zeroed (R183) -/

section zeroSem
variable (s : State)

theorem globalSem_zeroSem (sem i : Nat) : (s.zeroSem sem).globalSem i = if i = sem then 0 else s.globalSem i := by
  rw [State.zeroSem, State.inc, State.globalSem, wr_awn]
  split
  · next h => rw [h, mget_mput_same]
  · next h => exact mget_mput_other _ _ _ _ _ h

@[simp] theorem sent_zeroSem (sem : Nat) : (s.zeroSem sem).awn.sent = s.awn.sent := rfl

theorem rd_zeroSem (sem : Nat) {q : Nat} {f : Fld} (h : fkey q f ≠ fkey syncPg SYNC.DISCARD_CNT) :
    (s.zeroSem sem).rd q f = s.rd q f := rd_wr_other _ _ _ _ _ _ h

/-- The `n` semaphores of a step from `base` on are zeroed. -/
def State.zeroSems (base n : Nat) : State := (List.range n).foldl (fun s i => s.zeroSem (base + i)) s

variable (base n : Nat)

theorem zeroSems_succ : s.zeroSems base (n + 1) = (s.zeroSems base n).zeroSem (base + n) := by
  rw [State.zeroSems, List.range_succ, List.foldl_append, List.foldl_cons, List.foldl_nil, ← State.zeroSems]

theorem globalSem_zeroSems {i : Nat} (hi : i < n) : (s.zeroSems base n).globalSem (base + i) = 0 := by
  induction n with
  | zero => omega
  | succ n ih =>
    rw [zeroSems_succ, globalSem_zeroSem]
    split
    · rfl
    · exact ih (by omega)

theorem sent_zeroSems : (s.zeroSems base n).awn.sent = s.awn.sent := by
  induction n with
  | zero => rfl
  | succ n ih => rw [zeroSems_succ, sent_zeroSem, ih]

theorem rd_zeroSems {q : Nat} {f : Fld} (h : fkey q f ≠ fkey syncPg SYNC.DISCARD_CNT) : (s.zeroSems base n).rd q f = s.rd q f := by
  induction n with
  | zero => rfl
  | succ n ih => rw [zeroSems_succ, rd_zeroSem _ _ h, ih]

theorem zeroSems_frame : Frame [.regs, .awn] s (s.zeroSems base n) := Frame.foldl (fun u _ => u.zeroSem_frame _) _ (.refl _ s)

end zeroSem

/-! ### The sums of the step before (R156) -/

theorem srv_closeSums (s : State) : s.closeSums.srv
    = if s.srv.lastStart = 0 then s.srv else { s.srv with sums := s.srv.sums ++ [⟨s.srv.lastStart, .zero, []⟩] } := by
  have hsums (l : List Nat) (g : CoreS → CoreS) : (l.foldl (fun u c => u.modCore c g) s).srv = s.srv :=
    (Frame.foldl (P := [.cores]) (fun u c => u.modCore_frame c g) l (.refl _ s)).keeps .srv (by decide)
  unfold State.closeSums
  dsimp only
  split
  · exact hsums _ _
  · rw [State.modSrv, hsums]

/-! ### Start records sent (R183) -/

/-- The controller's record without the start records that its steps still hold back. -/
def SrvS.noUnsent (x : SrvS) : SrvS := { x with steps := x.steps.map (fun y => { y with unsent := [] }) }

theorem noUnsent_modStep (s : State) (n : Nat) {f : StepS → StepS} (hf : ∀ y, { f y with unsent := [] } = { y with unsent := [] }) :
    (s.modStep n f).srv.noUnsent = s.srv.noUnsent := by
  have hsteps : (mapIf (fun y => y.step == n) f s.srv.steps).map (fun y => { y with unsent := [] })
      = s.srv.steps.map (fun y => { y with unsent := [] }) := by
    rw [mapIf, List.map_map]
    refine List.map_congr_left fun y _ => ?_
    rw [Function.comp_apply]
    split
    · exact hf y
    · rfl
  simp only [State.modStep, State.modSrv, SrvS.noUnsent, hsteps]

/-- One start record of a step goes to its core if that has room. -/
def State.sendStart (n : Nat) (s : State) (u : Nat × StartRec) : State :=
  if s.coreRoom u.1 then
    (s.modStep n (fun y => { y with unsent := eraseFirst (fun v => v.1 == u.1) y.unsent })).send (.startRec u.1 u.2)
  else s

theorem sendUnsent_eq (s : State) : s.sendUnsent
    = (s.srv.steps.foldl (fun s x => if x.phase ≠ 1 then s else x.unsent.foldl (State.sendStart x.step) s) s).sendReloads := rfl

theorem noUnsent_sendStart (n : Nat) (s : State) (u : Nat × StartRec) : (State.sendStart n s u).srv.noUnsent = s.srv.noUnsent := by
  unfold State.sendStart
  split
  · exact noUnsent_modStep s n fun _ => rfl
  · rfl

/-- A fold whose steps each keep what `g` reads keeps it. -/
theorem foldl_keeps {α β : Type} {g : State → β} {f : State → α → State} (hf : ∀ s a, g (f s a) = g s) (l : List α)
    (s : State) : g (l.foldl f s) = g s := by
  induction l generalizing s with
  | nil => rfl
  | cons a l ih => exact (ih _).trans (hf s a)

/-- Sending changes nothing of the controller but the start records held back. -/
theorem noUnsent_sendUnsent (s : State) : s.sendUnsent.srv.noUnsent = s.srv.noUnsent := by
  rw [sendUnsent_eq, show ∀ t : State, t.sendReloads.srv = t.srv from fun t => t.sendReloads_frame.keeps .srv (by decide)]
  refine foldl_keeps (g := fun t => t.srv.noUnsent) (fun t x => ?_) _ s
  split
  · rfl
  · exact foldl_keeps (g := fun t => t.srv.noUnsent) (noUnsent_sendStart x.step) _ t

theorem lastStart_sendUnsent (s : State) : s.sendUnsent.srv.lastStart = s.srv.lastStart :=
  (congrArg SrvS.lastStart (noUnsent_sendUnsent s) :)

theorem sums_sendUnsent (s : State) : s.sendUnsent.srv.sums = s.srv.sums :=
  (congrArg SrvS.sums (noUnsent_sendUnsent s) :)

/-- A step in the table is still there after sending, but for what it holds back. -/
theorem exists_step_sendUnsent {s : State} {y : StepS} (hy : y ∈ s.srv.steps) :
    ∃ z ∈ s.sendUnsent.srv.steps, z.step = y.step ∧ z.phase = y.phase ∧ z.at0 = y.at0 ∧ z.cores = y.cores := by
  have hsteps : s.sendUnsent.srv.steps.map (fun y => { y with unsent := [] }) = s.srv.steps.map (fun y => { y with unsent := [] }) :=
    (congrArg SrvS.steps (noUnsent_sendUnsent s) :)
  obtain ⟨z, hz, heq⟩ := List.mem_map.1 (hsteps ▸ List.mem_map_of_mem hy)
  exact ⟨z, hz, (congrArg StepS.step heq :), (congrArg StepS.phase heq :), (congrArg StepS.at0 heq :), (congrArg StepS.cores heq :)⟩

theorem sendReloads_of_none {s : State} (hjobs : s.ingest.jobs = []) (hmigs : s.flt.migs = []) : s.sendReloads = s := by
  rw [State.sendReloads, hjobs]
  dsimp only [List.foldl_nil]
  rw [hmigs, List.foldl_nil]

/-- A core has room while no step's record is with it and nothing is reloaded or moved. -/
theorem coreRoom_of_unsent {s : State} {y : StepS} {u : Nat × StartRec} (hsteps : s.srv.steps = [y]) (hjobs : s.ingest.jobs = [])
    (hmigs : s.flt.migs = []) (hu : u ∈ y.unsent) : s.coreRoom u.1 = true := by
  have hany : y.unsent.any (fun v => v.1 == u.1) = true := List.any_eq_true.2 ⟨u, hu, beq_self_eq_true _⟩
  simp [State.coreRoom, State.outstanding, State.reloading, State.migrating, hsteps, hjobs, hmigs, hany, sumN]

theorem startRec_sent {s : State} {y : StepS} {u : Nat × StartRec} (hsteps : s.srv.steps = [y]) (hjobs : s.ingest.jobs = [])
    (hmigs : s.flt.migs = []) (hphase : y.phase = 1) (hu : y.unsent = [u]) : OutMsg.startRec u.1 u.2 ∈ s.sendUnsent.out := by
  have hroom := coreRoom_of_unsent (u := u) hsteps hjobs hmigs (hu ▸ List.mem_singleton_self u)
  have hsent : State.sendStart y.step s u = _ := if_pos hroom
  rw [sendUnsent_eq, hsteps, List.foldl_cons, List.foldl_nil, if_neg (not_not.2 hphase), hu, List.foldl_cons, List.foldl_nil, hsent,
    sendReloads_of_none (by exact hjobs) (by exact hmigs)]
  exact List.mem_append_right _ (List.mem_singleton_self _)

/-! ### The start of a step (R183, R227, R228, R295) -/

/-- The broadcast of step `n`: its semaphores are zeroed, it is counted, and the sums of the step before close. -/
def State.broadcast (s : State) (n : Nat) (x : StepS) : State :=
  (((s.zeroSems x.gsemBase x.gsemN).inc syncPg SYNC.BCAST_CNT).inc srvPg SRV.STEP_CNT).closeSums.modSrv (fun y => { y with lastStart := n })

/-- The step runs from the broadcast on. -/
def State.runStep (s : State) (n : Nat) (x : StepS) : State :=
  (s.broadcast n x).modStep n (fun y => { y with phase := 1, at0 := s.now })

/-- The grant of a step with draft rounds is claimed. -/
def State.claimRounds (s : State) (x : StepS) : State :=
  if x.rounds = 0 then s else s.sendClaim (claimOf x.model) (x.gsemBase + x.draftSem) x.cores.length

section start
variable {s : State} {n : Nat} {x : StepS}

theorem broadcast_frame : Frame [.regs, .cores, .srv, .awn] s (s.broadcast n x) :=
  (State.modSrv_frame ..).after (by decide) ((State.closeSums_frame _).after (by decide)
    ((State.inc_frame ..).after (by decide) ((State.inc_frame ..).after (by decide) ((zeroSems_frame ..).after (by decide) (.refl _ s)))))

theorem runStep_frame : Frame [.regs, .cores, .srv, .awn] s (s.runStep n x) :=
  (State.modStep_frame ..).after (by decide) broadcast_frame

theorem claimRounds_frame (u : State) : Frame [.awn] u (u.claimRounds x) := Frame.ite (.refl _ u) (State.sendClaim_frame ..)

theorem stepStartEffect_of_full (hx : s.stepRec n = some x) (hroom : x.cores.all (fun k => s.coreRoom k.1) = false) :
    stepStartEffect s n = s := by
  simp [stepStartEffect, hx, hroom]

theorem stepStartEffect_of_room (hx : s.stepRec n = some x) (hphase : x.phase = 0)
    (hroom : x.cores.all (fun k => s.coreRoom k.1) = true) : stepStartEffect s n = (s.runStep n x).sendUnsent.claimRounds x := by
  have hnow : (s.broadcast n x).now = s.now := broadcast_frame.now_eq (by decide)
  simp only [stepStartEffect, hx, hphase, hroom, Bool.not_true, Bool.false_eq_true, ne_eq, not_true_eq_false, or_self, if_false]
  rw [State.runStep, ← hnow]
  rfl

theorem srv_broadcast : (s.broadcast n x).srv = { (if s.srv.lastStart = 0 then s.srv
    else { s.srv with sums := s.srv.sums ++ [⟨s.srv.lastStart, .zero, []⟩] }) with lastStart := n } := by
  have hsrv : (s.zeroSems x.gsemBase x.gsemN).srv = s.srv := (zeroSems_frame ..).keeps .srv (by decide)
  rw [State.broadcast, State.modSrv, srv_closeSums, State.inc, wr_srv, State.inc, wr_srv, hsrv]

theorem steps_runStep (hsteps : s.srv.steps = [x]) (hn : x.step = n) :
    (s.runStep n x).srv.steps = [{ x with phase := 1, at0 := s.now }] := by
  have hsteps' : (s.broadcast n x).srv.steps = [x] := by
    rw [srv_broadcast]
    split <;> exact hsteps
  simp [State.runStep, State.modStep, State.modSrv, hsteps', mapIf, hn]

theorem lastStart_runStep : (s.runStep n x).srv.lastStart = n := by
  rw [State.runStep, State.modStep, State.modSrv, srv_broadcast]

theorem sums_runStep (h : s.srv.lastStart ≠ 0) : (s.runStep n x).srv.sums = s.srv.sums ++ [⟨s.srv.lastStart, .zero, []⟩] := by
  rw [State.runStep, State.modStep, State.modSrv, srv_broadcast, if_neg h]

theorem rd_runStep (q : Nat) (f : Fld) : (s.runStep n x).rd q f
    = (((s.zeroSems x.gsemBase x.gsemN).inc syncPg SYNC.BCAST_CNT).inc srvPg SRV.STEP_CNT).rd q f :=
  (State.closeSums_frame _).rd_eq (by decide) q f

theorem counts_runStep : (s.runStep n x).rd srvPg SRV.STEP_CNT = (s.rd srvPg SRV.STEP_CNT + 1) % 2 ^ 64
    ∧ (s.runStep n x).rd syncPg SYNC.BCAST_CNT = (s.rd syncPg SYNC.BCAST_CNT + 1) % 2 ^ 64 := by
  rw [rd_runStep, rd_runStep]
  constructor
  · rw [State.inc, rd_wr_same, State.inc, rd_wr_other _ _ _ _ _ _ (by decide), rd_zeroSems _ _ _ (by decide)]
    rfl
  · rw [State.inc, rd_wr_other _ _ _ _ _ _ (by decide), State.inc, rd_wr_same, rd_zeroSems _ _ _ (by decide)]
    rfl

theorem awn_runStep : (s.runStep n x).awn = (s.zeroSems x.gsemBase x.gsemN).awn :=
  (State.closeSums_frame _).keeps .awn (by decide)

theorem awn_sendUnsent (u : State) : u.sendUnsent.awn = u.awn := u.sendUnsent_frame.keeps .awn (by decide)

theorem sent_claimRounds (u : State) : (u.claimRounds x).awn.sent = if x.rounds = 0 then u.awn.sent
    else u.awn.sent ++ [⟨claimOf x.model, x.gsemBase + x.draftSem, x.cores.length⟩] := by
  unfold State.claimRounds
  split <;> rfl

theorem globalSem_claimRounds (u : State) (sem : Nat) : (u.claimRounds x).globalSem sem = u.globalSem sem := by
  unfold State.claimRounds
  split <;> rfl

/-- What the controller holds once the start records are sent: the step runs, and the sums of the step before are closed. -/
theorem srv_started (hsteps : s.srv.steps = [x]) (hn : x.step = n) :
    (s.runStep n x).sendUnsent.srv.lastStart = n
    ∧ (∃ y ∈ (s.runStep n x).sendUnsent.srv.steps, y.step = n ∧ y.phase = 1 ∧ y.at0 = s.now ∧ y.cores = x.cores)
    ∧ (s.srv.lastStart ≠ 0 → (s.runStep n x).sendUnsent.srv.sums = s.srv.sums ++ [⟨s.srv.lastStart, .zero, []⟩]) := by
  refine ⟨(lastStart_sendUnsent _).trans lastStart_runStep, ?_, fun h => (sums_sendUnsent _).trans (sums_runStep h)⟩
  obtain ⟨y, hy, hstep, hrest⟩ := exists_step_sendUnsent (steps_runStep hsteps hn ▸ List.mem_singleton_self _)
  exact ⟨y, hy, hstep.trans hn, hrest⟩

end start

/-- Settles O31: a step without room leaves the state; one with room runs by `runStep`, after which its start records are sent and
its grant claimed. -/
theorem stepsStartTogether : Obligations.StepsStartTogether := by
  unfold Obligations.StepsStartTogether
  refine fun s n x hx => ⟨fun hlets _ hroom => ?_, fun hlets hsteps hjobs hmigs hphase hroom _ => ?_, fun hlets => ?_⟩
  · exact exec_of_effect hlets rfl (stepStartEffect_of_full hx hroom)
  · have hn : x.step = n := by simpa using List.find?_some hx
    obtain ⟨hlast, hstep, hsums⟩ := srv_started hsteps hn
    obtain ⟨hcnt, hbcast⟩ := counts_runStep (s := s) (n := n) (x := x)
    refine ⟨_, exec_of_effect hlets rfl (stepStartEffect_of_room hx hphase hroom), ?_⟩
    have hclaim := claimRounds_frame (x := x) (s.runStep n x).sendUnsent
    have hsrv := hclaim.keeps .srv (by decide)
    have hsend := (s.runStep n x).sendUnsent_frame
    simp only [Part.same] at hsrv
    dsimp only
    rw [hsrv, hclaim.rd_eq (by decide), hsend.rd_eq (by decide), hclaim.rd_eq (by decide), hsend.rd_eq (by decide), sent_claimRounds,
      awn_sendUnsent, awn_runStep, sent_zeroSems]
    refine ⟨hlast, hstep, fun i hi => ?_, hcnt, hbcast, rfl, hsums, fun v hv hone _ => ?_⟩
    · rw [globalSem_claimRounds, State.globalSem, awn_sendUnsent, awn_runStep]
      exact globalSem_zeroSems _ _ _ hi
    · obtain ⟨w, hw⟩ := List.length_eq_one_iff.1 hone
      obtain rfl : v = w := by simpa [hw] using hv
      have hingest : (s.runStep n x).ingest = s.ingest := runStep_frame.keeps .ingest (by decide)
      have hflt : (s.runStep n x).flt = s.flt := runStep_frame.keeps .flt (by decide)
      have hout : ((s.runStep n x).sendUnsent.claimRounds x).out = (s.runStep n x).sendUnsent.out :=
        congrArg Prod.fst (hclaim.keeps .out (by decide))
      rw [hout]
      exact startRec_sent (steps_runStep hsteps hn) (hingest ▸ hjobs) (hflt ▸ hmigs) rfl hw
  · refine completes_of_lets (t := sclkZeroEffect s) hlets rfl ⟨rfl, rd_wr_same _ _ _ _, ?_, (sclkZeroEffect_frame s).keeps⟩
    exact (PagesKept.of_regs rfl (.refl _ s)).inc 1 (.of_check (by decide)) (List.mem_singleton_self _)

end Sys2Proof.Machine
end

section
/-! PROOFS. The check unit's operations on samples: what they leave of the registers, of a tile's samples and of the core's sums. -/

namespace Sys2Proof.Machine

section frame
variable {P : List Part} {s u : State} (h : Frame P s u)
include h

theorem Frame.core_eq (hp : .cores ∉ P) (c : Nat) : u.core c = s.core c := by
  simp only [State.core, show u.cores = s.cores from h.keeps .cores hp]

end frame

/-! ### Registers of the check unit -/

/-- Of a check unit's page an event changes IRQ_STAT alone. -/
theorem rd_chk_irq (s : State) (c i : Nat) {f : Fld} (hf : FldFits f) (hstat : fldStart f ≠ fldStart HDR.IRQ_STAT) :
    (s.irq (chkPg c) i).rd (chkPg c) f = s.rd (chkPg c) f :=
  have hslot : chkPg c % 1024 ≠ 0 := by
    unfold chkPg coreBase diePg
    omega
  rd_irq _ _ _ _ _ (irqFree_of_core_page hf hslot (fkey_ne_of_start _ hstat))

/-! ### The samples of a tile -/

section samples
variable (s : State) (c e t : Nat) (q : Sample)

theorem sampleKey_self : sampleKey q q = true := by simp [sampleKey]

theorem sampleQ_modTile {g : TileS → TileS} (hg : ∀ x, (g x).sampleQ = x.sampleQ) (k d i j : Nat) :
    ((s.modTile c e k g).tile d i j).sampleQ = (s.tile d i j).sampleQ := by
  by_cases h : d * 128 + i * 32 + j = c * 128 + e * 32 + k
  · simp only [State.tile, State.modTile, State.setTile, h, mget_mput_same, hg]
  · simp only [State.tile, State.modTile, State.setTile, mget_mput_other _ _ _ _ _ h]

theorem sampleQ_modConvs (f : Nat → Conv → Conv) (d i j : Nat) :
    ((s.modConvs c e q f).tile d i j).sampleQ = (s.tile d i j).sampleQ := by
  rw [State.modConvs, State.modVec, sampleQ_modTile]
  exact fun _ => rfl

/-- A sample released is under check no more. -/
theorem sampleQ_releaseSample :
    ((s.releaseSample c e t q).tile c e t).sampleQ = (s.tile c e t).sampleQ.filter (fun x => !sampleKey q x) := by
  rw [State.releaseSample, tile_modTile_same]
  exact congrArg _ (sampleQ_modConvs ..)

theorem sampleQ_modSample (f : Sample → Sample) :
    ((s.modSample c e t q f).tile c e t).sampleQ = mapIf (sampleKey q) f (s.tile c e t).sampleQ := by
  rw [State.modSample, tile_modTile_same]

variable {s c e t q}

theorem mem_sampleQ_of_sampleIn {x : TileS} {p : Sample → Bool} (h : x.sampleIn p = some q) : q ∈ x.sampleQ :=
  List.mem_of_find?_eq_some h

theorem mem_sampleQ_modSample (h : q ∈ (s.tile c e t).sampleQ) (f : Sample → Sample) :
    f q ∈ ((s.modSample c e t q f).tile c e t).sampleQ := by
  rw [sampleQ_modSample]
  exact List.mem_map.2 ⟨q, h, by rw [sampleKey_self]; rfl⟩

end samples

end Sys2Proof.Machine
end

section
/-! PROOFS. The comparison of a sampled pass and its repeat. Settles O16. -/

namespace Sys2Proof.Machine

section compare
variable {s : State} {c e t : Nat} {q : Sample} {v : Vec} {r : CheckRes} {p : Nat}

/-! ### The comparison (R146 to R148) -/

/-- A sample is counted in SAMPLE_CNT and in the core's step sum. -/
def State.countSample (s : State) (c : Nat) : State :=
  (s.inc (chkPg c) CHK.SAMPLE_CNT).modCore c (fun x => { x with
    sampleNo := (s.core c).sampleNo + 1, sum := { x.sum with samples := x.sum.samples + 1 } })

/-- What a comparison enters into its tile's ledger entry (R154). -/
def CheckRes.enter (r : CheckRes) (l : LedgerEnt) : LedgerEnt :=
  let l := r.diffs.foldl (fun l d => l.add d.1 d.2) l
  { l with satSkip := satAdd 32 l.satSkip r.sat, poisonSkip := satAdd 32 l.poisonSkip r.poison,
           mismatch := satAdd 32 l.mismatch (toBit r.low.isSome) }

/-- What a comparison adds to the core's step sum (R156). -/
def CheckRes.add (r : CheckRes) (x : StepSum) : StepSum :=
  { x with
    lanes := x.lanes + r.diffs.length, sumD2 := x.sumD2 + sumN (r.diffs.map (fun d => (d.1 * d.1).toNat)),
    sumE2 := x.sumE2 + sumN (r.diffs.map (fun d => (d.2 * d.2).toNat)), satLanes := x.satLanes + r.sat,
    mismatch := x.mismatch + toBit r.low.isSome, maxAbsD := max x.maxAbsD (maxN (r.diffs.map (fun d => d.1.natAbs))) }

/-- A sample counted and what its comparison found entered into LANE_CNT, ledger entry `k` and the step sum. -/
def State.tally (s : State) (c k : Nat) (r : CheckRes) : State :=
  (((s.countSample c).inc (chkPg c) CHK.LANE_CNT r.diffs.length).modLedger c k r.enter).modSum c r.add

/-- A mismatch is counted, and the sample waits for its repeat. -/
def State.askRepeat (s : State) (c e t : Nat) (q : Sample) (p : Nat) : State :=
  ((s.inc (chkPg c) CHK.MISMATCH_CNT).irq (chkPg c) 0).modSample c e t q (fun x => { x with phase := .repeatPending, lowPair := p })

/-- A sample compared is released without a mismatch and waits for its repeat with one. -/
def State.judge (s : State) (c e t : Nat) (q : Sample) : Option Nat → State
  | none => s.releaseSample c e t q
  | some p => s.askRepeat c e t q p

theorem tol_countSample : (s.countSample c).tol c = s.tol c := by
  rw [State.tol, State.countSample, rd_modCore, State.inc, rd_wr_of_start _ _ (by decide), State.tol]

/-- A sample none of whose image words is poisoned is compared: lanes are tallied, then it is judged. -/
theorem checkCompareEffect_of_clean {dis : Bool} (hdis : dis = false ∨ ((s.core c).sampleNo + 1) % 1024 ≠ 0)
    (hq : (s.tile c e t).sampleIn (fun x => x.phase == .slot) = some q) (hv : s.vec c e q.tag q.named = some v)
    (hclean : ∀ d ∈ q.drive, s.csBad c (s.imgPtr c e t q.bank + 128 * d.1 + 16 * q.window) 16 = false)
    (hr : compareWindow (s.tol c) q.pairs (laneSum (q.convs v))
      (fun l => exactCode q.two q.split ((s.imageSums c (s.imgPtr c e t q.bank) q.drive).getD l 0)) = r) :
    checkCompareEffect s c e t dis = (s.tally c (ledgerKey e t (ledgerBand (s.engTemp c e))) r).judge c e t q r.low := by
  have hany : ¬ q.drive.any (fun d => s.csBad c (s.imgPtr c e t q.bank + 128 * d.1 + 16 * q.window) 16) = true := by
    rw [List.any_eq_true]
    rintro ⟨d, hd, hbad⟩
    rw [hclean d hd] at hbad
    cases hbad
  have hagree : ¬ (dis && ((s.core c).sampleNo + 1) % 1024 == 0) = true := by
    rcases hdis with rfl | hno
    · simp
    · simp [hno]
  have hr' : compareWindow ((s.countSample c).tol c) q.pairs (laneSum (q.convs v))
      (fun l => exactCode q.two q.split (((s.countSample c).imageSums c (s.imgPtr c e t q.bank) q.drive).getD l 0)) = r := by
    rw [tol_countSample]
    exact hr
  unfold checkCompareEffect
  rw [hq]
  dsimp only
  rw [hv]
  dsimp only
  rw [← State.countSample, hr']
  refine (if_neg hany).trans ((if_neg hagree).trans ?_)
  obtain ⟨_ | low, diffs, sat, poison⟩ := r <;> rfl

section tally
variable (s c e t q r) (k p : Nat)

theorem rd_tally (i : Nat) (f : Fld) : (s.tally c k r).rd i f
    = ((s.inc (chkPg c) CHK.SAMPLE_CNT).inc (chkPg c) CHK.LANE_CNT r.diffs.length).rd i f := rfl

theorem samples_tally : ((s.tally c k r).core c).sum.samples = (s.core c).sum.samples + 1 := by
  simp [State.tally, State.modSum, State.modLedger, State.countSample, State.inc, CheckRes.add]

theorem tally_frame : Frame [.regs, .cores] s (s.tally c k r) :=
  (State.modSum_frame ..).after (by decide) ((State.modLedger_frame ..).after (by decide) ((State.inc_frame ..).after (by decide)
    ((State.modCore_frame ..).after (by decide) ((State.inc_frame ..).after (by decide) (.refl _ s)))))

theorem askRepeat_frame : Frame [.regs, .tiles, .out] s (s.askRepeat c e t q p) :=
  (State.modSample_frame ..).after (by decide) ((State.irq_frame ..).after (by decide)
    ((State.inc_frame ..).after (by decide) (.refl _ s)))

theorem judge_frame (low : Option Nat) : Frame [.regs, .tiles, .out] s (s.judge c e t q low) := by
  cases low with
  | none => exact (State.releaseSample_frame ..).after (by decide) (.refl _ s)
  | some p => exact askRepeat_frame s c e t q p

/-- A judgement writes MISMATCH_CNT alone of the unit's counters. -/
theorem rd_judge_of_start (low : Option Nat) {f : Fld} (hf : FldFits f) (hstat : fldStart f ≠ fldStart HDR.IRQ_STAT)
    (hcnt : fldStart f ≠ fldStart CHK.MISMATCH_CNT) : (s.judge c e t q low).rd (chkPg c) f = s.rd (chkPg c) f := by
  cases low with
  | none => exact (State.releaseSample_frame ..).rd_eq (by decide) _ _
  | some p =>
    refine ((State.modSample_frame ..).rd_eq (by decide) _ _).trans ?_
    rw [rd_chk_irq _ _ _ hf hstat, State.inc, rd_wr_of_start _ _ hcnt]

theorem mismatches_askRepeat : (s.askRepeat c e t q p).rd (chkPg c) CHK.MISMATCH_CNT
    = (s.rd (chkPg c) CHK.MISMATCH_CNT + 1) % 2 ^ 64 := by
  refine ((State.modSample_frame ..).rd_eq (by decide) _ _).trans ?_
  rw [rd_chk_irq _ _ _ (.of_check (by decide)) (by decide), State.inc, rd_wr_same]
  rfl

end tally

/-- The counters and the step sum after a comparison, whatever its judgement. -/
theorem counts_compared (k : Nat) :
    let u := (s.tally c k r).judge c e t q r.low
    u.rd (chkPg c) CHK.SAMPLE_CNT = (s.rd (chkPg c) CHK.SAMPLE_CNT + 1) % 2 ^ 64
    ∧ u.rd (chkPg c) CHK.LANE_CNT = (s.rd (chkPg c) CHK.LANE_CNT + r.diffs.length) % 2 ^ 64
    ∧ (u.core c).sum.samples = (s.core c).sum.samples + 1 := by
  dsimp only
  rw [rd_judge_of_start _ _ _ _ _ _ (.of_check (by decide)) (by decide) (by decide),
    rd_judge_of_start _ _ _ _ _ _ (.of_check (by decide)) (by decide) (by decide), rd_tally, rd_tally,
    (judge_frame ..).core_eq (by decide), samples_tally, State.inc, State.inc]
  refine ⟨?_, ?_, rfl⟩
  · rw [rd_wr_of_start _ _ (by decide), rd_wr_same]
    rfl
  · rw [rd_wr_same, rd_wr_of_start _ _ (by decide)]
    rfl

theorem mismatches_tally (k : Nat) : (s.tally c k r).rd (chkPg c) CHK.MISMATCH_CNT = s.rd (chkPg c) CHK.MISMATCH_CNT := by
  rw [rd_tally, State.inc, State.inc, rd_wr_of_start _ _ (by decide), rd_wr_of_start _ _ (by decide)]

/-! ### The repeat (R149) -/

theorem checkRepeatEffect_of_stale {dev : List Int} (hq : (s.tile c e t).sampleIn (fun x => x.phase == .repeatPending) = some q)
    (hstale : s.stale c e t q = true) :
    checkRepeatEffect s c e t dev = s.modSample c e t q (fun x => { x with phase := .unresolved }) := by
  rw [checkRepeatEffect, hq]
  exact if_pos hstale

/-- A repeat of a sample that is not stale is compared in turn; `beyond` says whether it too passes the tolerance. -/
theorem checkRepeatEffect_of_fresh {dev : List Int} (hq : (s.tile c e t).sampleIn (fun x => x.phase == .repeatPending) = some q)
    (hv : s.vec c e q.tag q.named = some v) (hstale : s.stale c e t q = false) : ∃ beyond : Bool,
    checkRepeatEffect s c e t dev = (s.inc (chkPg c) CHK.CHECK_SLOT_CNT).modSample c e t q
      (fun x => { x with phase := .repeated, beyond := beyond }) := by
  rw [checkRepeatEffect, hq]
  dsimp only
  rw [if_neg (by simp [hstale]), hv]
  exact ⟨_, rfl⟩

end compare

/-- Settles O16: a comparison tallies its lanes and judges the sample, and a repeat changes its sample's phase. -/
theorem sampledPassesAreCompared : Obligations.SampledPassesAreCompared := by
  unfold Obligations.SampledPassesAreCompared
  refine fun s c e t q v r => ⟨fun dis hlets hdis hq hv hclean hr => ?_, fun dev hlets hq hv => ?_⟩
  · refine ⟨_, exec_of_effect hlets rfl (checkCompareEffect_of_clean hdis hq hv hclean hr), ?_⟩
    obtain ⟨hsamples, hlanes, hsum⟩ := counts_compared (s := s) (c := c) (e := e) (t := t) (q := q) (r := r)
      (ledgerKey e t (ledgerBand (s.engTemp c e)))
    refine ⟨hsamples, hlanes, hsum, fun hlow => ?_, fun p _ hlow => ?_,
      ((judge_frame ..).after (by decide) ((tally_frame ..).after (by decide) (.refl _ s))).keeps⟩
    · rw [hlow]
      exact ⟨sampleQ_releaseSample .., ((State.releaseSample_frame ..).rd_eq (by decide) _ _).trans (mismatches_tally _)⟩
    · rw [hlow]
      refine ⟨⟨_, mem_sampleQ_modSample (q := q) ?_ _, sampleKey_self q, rfl, rfl⟩, ?_⟩
      · rw [tile_irq]
        exact mem_sampleQ_of_sampleIn hq
      · exact (mismatches_askRepeat ..).trans (by rw [mismatches_tally])
  · have hmem := mem_sampleQ_of_sampleIn hq
    have hkeeps := (checkRepeatEffect_frame s c e t dev).keeps
    have hlength (u : State) (f : Sample → Sample) (hu : u.tile c e t = s.tile c e t) :
        ((u.modSample c e t q f).tile c e t).sampleQ.length = (s.tile c e t).sampleQ.length := by
      rw [sampleQ_modSample, hu, mapIf, List.length_map]
    cases hstale : s.stale c e t q with
    | true =>
      have heq := checkRepeatEffect_of_stale (dev := dev) hq hstale
      rw [heq] at hkeeps
      exact ⟨_, exec_of_effect hlets rfl heq, nofun, fun _ => ⟨_, mem_sampleQ_modSample hmem _, sampleKey_self q, rfl⟩,
        hlength s _ rfl, hkeeps⟩
    | false =>
      obtain ⟨beyond, heq⟩ := checkRepeatEffect_of_fresh (dev := dev) hq hv hstale
      rw [heq] at hkeeps
      exact ⟨_, exec_of_effect hlets rfl heq, fun _ => ⟨_, mem_sampleQ_modSample (s := s.inc _ _) hmem _, sampleKey_self q, rfl⟩,
        nofun, hlength (s.inc _ _) _ rfl, hkeeps⟩

end Sys2Proof.Machine
end

section
/-! PROOFS. The registers of the check unit that act: SEED, LG_SEL with LG_WINDOW, LG_CLEAR and DREF. -/

namespace Sys2Proof.Machine

/-! ### SEED (R143) -/

/-- What one step of a fold establishes and every step keeps holds after it. -/
theorem foldl_establishes {α : Type} {P : State → Prop} {f : State → α → State} (hkeep : ∀ s a, P s → P (f s a))
    {l : List α} {a : α} (ha : a ∈ l) (hest : ∀ s, P (f s a)) (s : State) : P (l.foldl f s) := by
  obtain ⟨l, m, rfl⟩ := List.append_of_mem ha
  rw [List.foldl_append, List.foldl_cons]
  exact List.foldlRecOn m f (hest _) fun s hs x _ => hkeep s x hs

/-- A tile's selection register stands as SEED loads it: at 0, and the next plan puts `lfsrLoad` in its place. -/
def State.reloadTile (c e : Nat) (s : State) (t : Nat) : State := s.modTile c e t (fun x => { x with lfsr := 0 })

theorem lfsr_reloadTile_same (s : State) (c e t : Nat) : ((State.reloadTile c e s t).tile c e t).lfsr = 0 := by
  rw [State.reloadTile, tile_modTile_same]

theorem lfsr_reloadTile (s : State) (c e t d i j : Nat) (h : (s.tile d i j).lfsr = 0) :
    ((State.reloadTile c e s t).tile d i j).lfsr = 0 := by
  unfold State.reloadTile
  by_cases hk : d * 128 + i * 32 + j = c * 128 + e * 32 + t
  · simp only [State.tile, State.modTile, State.setTile, hk, mget_mput_same]
  · simpa only [State.tile, State.modTile, State.setTile, mget_mput_other _ _ _ _ _ hk] using h

theorem chkSeedEffect_eq (s : State) (c v : Nat) : chkSeedEffect s c v
    = (List.range 4).foldl (fun s e => (List.range 17).foldl (State.reloadTile c e) s) (s.wr (chkPg c) CHK.SEED v) := rfl

theorem lfsr_chkSeedEffect (s : State) (c v : Nat) {e t : Nat} (he : e < 4) (ht : t < 17) :
    ((chkSeedEffect s c v).tile c e t).lfsr = 0 := by
  have hkeep (u : State) (i : Nat) (h : (u.tile c e t).lfsr = 0) : (((List.range 17).foldl (State.reloadTile c i) u).tile c e t).lfsr = 0 :=
    List.foldlRecOn (motive := fun w => (w.tile c e t).lfsr = 0) _ _ h fun w hw j _ => lfsr_reloadTile w c i j c e t hw
  rw [chkSeedEffect_eq]
  refine foldl_establishes (P := fun w => (w.tile c e t).lfsr = 0) hkeep (List.mem_range.2 he) (fun u => ?_) _
  exact foldl_establishes (P := fun w => (w.tile c e t).lfsr = 0) (fun w j => lfsr_reloadTile w c e j c e t) (List.mem_range.2 ht)
    (fun w => lfsr_reloadTile_same w c e t) u

theorem regs_chkSeedEffect (s : State) (c v : Nat) : (chkSeedEffect s c v).regs = (s.wr (chkPg c) CHK.SEED v).regs :=
  (Frame.foldl (P := [.tiles]) (fun u e => Frame.foldl (fun w t => State.modTile_frame w c e t _) _ (.refl _ u)) (List.range 4)
    (.refl _ (s.wr (chkPg c) CHK.SEED v))).keeps .regs (by decide)

theorem seed_chkSeedEffect (s : State) (c v : Nat) : (chkSeedEffect s c v).rd (chkPg c) CHK.SEED = v % 2 ^ CHK.SEED.width := by
  rw [State.rd, regs_chkSeedEffect, ← State.rd, rd_wr_same]

/-! ### LG_SEL and LG_WINDOW (R154, R155) -/

theorem length_words (l : LedgerEnt) : l.words.length = 80 := by simp [LedgerEnt.words]

theorem fldStart_lgWindow (i : Nat) : fldStart (CHK.LG_WINDOW i) = 4096 + 32 * i := by
  simp only [fldStart, CHK.LG_WINDOW]
  omega

theorem fits_lgWindow {i : Nat} (hi : i < 80) : FldFits (CHK.LG_WINDOW i) := .mk (by decide) (by omega) (by decide)

/-- The window's words are written one after the other. -/
def State.putWindow (s : State) (p : Nat) (l : List Nat) : State := l.zipIdx.foldl (fun s w => s.wr p (CHK.LG_WINDOW w.2) w.1) s

theorem putWindow_append (s : State) (p : Nat) (l : List Nat) (a : Nat) :
    s.putWindow p (l ++ [a]) = (s.putWindow p l).wr p (CHK.LG_WINDOW l.length) a := by
  simp [State.putWindow, List.zipIdx_append]

theorem rd_putWindow (s : State) (p : Nat) (l : List Nat) {i : Nat} (hi : i < l.length) :
    (s.putWindow p l).rd p (CHK.LG_WINDOW i) = l.getD i 0 % 2 ^ 32 := by
  induction l using List.reverseRecOn with
  | nil => cases hi
  | append_singleton l a ih =>
    rw [putWindow_append]
    rw [List.length_append, List.length_singleton] at hi
    obtain hlt | rfl : i < l.length ∨ i = l.length := by omega
    · rw [rd_wr_of_start _ _ (by rw [fldStart_lgWindow, fldStart_lgWindow]; omega), ih hlt, List.getD_append _ _ _ _ hlt]
    · rw [rd_wr_same, List.getD_append_right _ _ _ _ le_rfl, Nat.sub_self]
      rfl

theorem pagesKept_putWindow (s : State) (p : Nat) {l : List Nat} (hl : l.length = 80) : PagesKept [p] s (s.putWindow p l) := by
  refine PagesKept.foldl (fun w hw u => (PagesKept.refl _ u).wr_page _ (fits_lgWindow ?_) (List.mem_singleton_self p)) s
  have hlt := List.snd_lt_of_mem_zipIdx hw
  omega

/-- LG_SEL takes its fields, and LG_WINDOW the words of the entry selected. -/
theorem lgSelEffect_of_exists {s : State} {c v : Nat} (hband : field v 16 3 ≤ 5) (htile : field v 8 5 ≤ 16) : lgSelEffect s c v
    = (((s.wr (chkPg c) CHK.LG_SEL_BAND (field v 16 3)).wr (chkPg c) CHK.LG_SEL_TILE (field v 8 5)).wr (chkPg c) CHK.LG_SEL_ENGINE
      (field v 0 2)).putWindow (chkPg c) (mget (s.core c).ledger .init (ledgerKey (field v 0 2) (field v 8 5) (field v 16 3))).words :=
  if_neg (by omega)

theorem lgSelEffect_of_missing {s : State} {c v : Nat} (h : 5 < field v 16 3 ∨ 16 < field v 8 5) :
    lgSelEffect s c v = s.refuse (chkPg c) := if_pos h

theorem pagesKept_lgSelEffect {s : State} {c v : Nat} (hband : field v 16 3 ≤ 5) (htile : field v 8 5 ≤ 16) :
    PagesKept [chkPg c] s (lgSelEffect s c v) := by
  have hp : chkPg c ∈ [chkPg c] := List.mem_singleton_self _
  rw [lgSelEffect_of_exists hband htile]
  exact ((((PagesKept.refl _ s).wr_page _ (.of_check (by decide)) hp).wr_page _ (.of_check (by decide)) hp).wr_page _
    (.of_check (by decide)) hp).trans (pagesKept_putWindow _ _ (length_words _))

/-! ### DREF (R153) -/

/-- DREF of a core whose sequencer is halted, its STAT and the step sum's mark. -/
def State.putDref (s : State) (c : Nat) (b : Bool) : State :=
  ((s.wrB (chkPg c) CHK.CTRL_DREF b).wrB (chkPg c) CHK.STAT_DREF_ACTIVE b).modSum c (fun x => { x with dref := x.dref || b })

theorem drefEffect_of_halted {s : State} {c : Nat} (b : Bool) (h : coreState s c = 0 ∨ coreState s c = 3) :
    drefEffect s c b = s.putDref c b :=
  if_neg (by rcases h with h | h <;> simp [running, halting, h])

theorem drefEffect_of_running {s : State} {c : Nat} (b : Bool) (h : coreState s c = 1 ∨ coreState s c = 2) :
    drefEffect s c b = s.refuse (chkPg c) :=
  if_pos (by rcases h with h | h <;> simp [running, halting, h])

theorem putDref_spec (s : State) (c : Nat) (b : Bool) :
    let u := s.putDref c b
    u.rd (chkPg c) CHK.CTRL_DREF = toBit b ∧ u.rd (chkPg c) CHK.STAT_DREF_ACTIVE = toBit b
    ∧ (u.core c).sum.dref = ((s.core c).sum.dref || b) ∧ PagesKept [chkPg c] s u := by
  have hp : chkPg c ∈ [chkPg c] := List.mem_singleton_self _
  have hbit : toBit b % 2 ^ 1 = toBit b := Nat.mod_eq_of_lt (toBit_lt b Nat.one_pos)
  simp only [State.putDref, State.modSum, State.wrB, rd_modCore, core_modCore_same, core_wr, true_and]
  refine ⟨?_, (rd_wr_same _ _ _ _).trans hbit, .of_regs (modCore_regs _ _ _) (((PagesKept.refl _ s).wr_page _ (.of_check (by decide))
    hp).wr_page _ (.of_check (by decide)) hp)⟩
  rw [rd_wr_of_start _ _ (by decide), rd_wr_same]
  exact hbit

end Sys2Proof.Machine
end

section
/-! PROOFS. What the check unit finds of a sample that mismatched: how it is counted and recorded, and the engine's record of it. -/

namespace Sys2Proof.Machine

/-! ### Records that wait at a die (R355) -/

section sources
variable (s : State)

theorem mem_sources_emitR_self (x : FaultRec) : x ∈ ((s.emitR x).die x.die).sources := by
  rw [State.emitR, die_modDie_same]
  exact List.mem_append_right _ (List.mem_singleton_self x)

theorem exists_source_emit (p code addr : Nat) :
    ∃ r ∈ ((s.emit p code addr).die (pageDie p)).sources, r.code = code ∧ r.address = addr :=
  ⟨_, mem_sources_emitR_self s _, rfl, rfl⟩

variable {s} {r : FaultRec} {d : Nat}

theorem mem_sources_emitR (h : r ∈ (s.die d).sources) (x : FaultRec) : r ∈ ((s.emitR x).die d).sources := by
  by_cases hd : d = x.die
  · subst hd
    rw [State.emitR, die_modDie_same]
    exact List.mem_append_left _ h
  · simpa only [State.emitR, State.modDie, State.setDie, State.die, mget_mput_other _ _ _ _ _ hd] using h

theorem mem_sources_flushLate (h : r ∈ (s.die d).sources) (c e t b : Nat) : r ∈ ((s.flushLate c e t b).die d).sources := by
  unfold State.flushLate
  dsimp only
  split
  · exact h
  · exact mem_sources_emitR h _

theorem mem_sources_emptyBank (h : r ∈ (s.die d).sources) (c e t b : Nat) : r ∈ ((s.emptyBank c e t b).die d).sources := by
  simp only [State.emptyBank, die_wr, die_modTile]
  exact mem_sources_flushLate h c e t b

theorem mem_sources_beginWrite (h : r ∈ (s.die d).sources) (c e t b : Nat) (kind : WriteKind) (rows img : Nat) (resident : Bool)
    (limit tag : Nat) : r ∈ ((s.beginWrite c e t b kind rows img resident limit tag).1.die d).sources := by
  simp only [State.beginWrite, die_wr, die_modTile]
  exact mem_sources_flushLate h c e t b

theorem mem_sources_fillSpare (h : r ∈ (s.die d).sources) (c e t : Nat) : r ∈ ((s.fillSpare c e t).die d).sources := by
  refine List.foldlRecOn (motive := fun u : State => r ∈ (u.die d).sources) _ _ h fun u hu b _ => ?_
  split
  · exact mem_sources_emptyBank hu _ _ _ _
  · exact mem_sources_beginWrite hu _ _ _ _ _ _ _ _ _ _

end sources

/-! ### An outcome is counted and recorded (R149) -/

theorem chkPg_die (c : Nat) : chkPg c / 1024 = c / 4 := by
  unfold chkPg coreBase diePg
  omega

theorem pageDie_chkPg {c : Nat} (h : c / 4 < 40) : pageDie (chkPg c) = c / 4 := by
  have hdie := chkPg_die c
  rw [pageDie, if_pos (by unfold srvPg; omega), hdie]

theorem die_lt_of_wfC {c : Nat} (h : wfC c = true) : c / 4 < 40 := by
  have hdie : ∀ d ∈ computeDies, d < 40 := by decide
  exact hdie _ (List.contains_iff_mem.1 h)

theorem wfC_of_wfT {c e t : Nat} (h : wfT c e t = true) : wfC c = true := by
  simp only [wfT, wfE, Bool.and_eq_true] at h
  exact h.1.1

theorem tilePg_ne_chkPg (c e t : Nat) : tilePg c e t ≠ chkPg c := by
  unfold tilePg chkPg
  omega

/-- What the check unit finds of a sample that mismatched (R149). -/
inductive Verdict where
  | unresolved | transient | permanent

/-- The counter of a verdict. -/
def Verdict.cnt : Verdict → Fld
  | .unresolved => CHK.UNRESOLVED_CNT
  | .transient => CHK.TRANSIENT_CNT
  | .permanent => CHK.PERMANENT_CNT

/-- Its bit in IRQ_STAT. -/
def Verdict.irq : Verdict → Nat
  | .unresolved => 3
  | .transient => 1
  | .permanent => 2

/-- The code of its record. -/
def Verdict.code : Verdict → Nat
  | .unresolved => 0x5013
  | .transient => 0x5011
  | .permanent => 0x5012

/-- Its entry in the step sum (R156). -/
def Verdict.add : Verdict → StepSum → StepSum
  | .unresolved => fun x => { x with unresolved := x.unresolved + 1 }
  | .transient => fun x => { x with transient := x.transient + 1 }
  | .permanent => fun x => { x with permanent := x.permanent + 1 }

theorem Verdict.fits_cnt (x : Verdict) : FldFits x.cnt := .of_check (by cases x <;> decide)

theorem Verdict.cnt_ne_irqStat (x : Verdict) : fldStart x.cnt ≠ fldStart HDR.IRQ_STAT := by cases x <;> decide

theorem Verdict.width_cnt (x : Verdict) : x.cnt.width = 64 := by cases x <;> rfl

/-- A verdict is counted in its counter and in the step sum, with its event and its record. -/
def State.countVerdict (s : State) (c addr : Nat) (x : Verdict) : State :=
  (((s.inc (chkPg c) x.cnt).irq (chkPg c) x.irq).emit (chkPg c) x.code addr).modSum c x.add

section countVerdict
variable (s : State) (c e t addr : Nat) (x : Verdict)

theorem countVerdict_frame : Frame [.regs, .cores, .dies, .out] s (s.countVerdict c addr x) :=
  (State.modSum_frame ..).after (by decide) ((State.emit_frame ..).after (by decide) ((State.irq_frame ..).after (by decide)
    ((State.inc_frame ..).after (by decide) (.refl _ s))))

theorem rd_countVerdict_cnt : (s.countVerdict c addr x).rd (chkPg c) x.cnt = (s.rd (chkPg c) x.cnt + 1) % 2 ^ 64 := by
  rw [State.countVerdict, State.modSum, rd_modCore, State.emit, rd_emitR, rd_chk_irq _ _ _ x.fits_cnt x.cnt_ne_irqStat, State.inc,
    rd_wr_same, x.width_cnt]

theorem rd_countVerdict_tile (he : e < 4) (ht : t < 17) {f : Fld} (hf : FldFits f) :
    (s.countVerdict c addr x).rd (tilePg c e t) f = s.rd (tilePg c e t) f := by
  have hslot := tilePg_slot c he ht
  have hpage := tilePg_ne_chkPg c e t
  rw [State.countVerdict, State.modSum, rd_modCore, State.emit, rd_emitR,
    rd_irq _ _ _ _ _ (irqFree_of_core_page hf (by omega) (fkey_ne_of_page hf (.of_check (by decide)) hpage)), State.inc,
    rd_wr_of_page _ _ x.fits_cnt hf hpage]

theorem sum_countVerdict : ((s.countVerdict c addr x).core c).sum = x.add (s.core c).sum := by
  rw [State.countVerdict, State.modSum, core_modCore_same, State.emit, core_emitR, core_irq]
  rfl

/-- The record of a verdict waits at the core's die. -/
theorem exists_source_countVerdict (hc : c / 4 < 40) :
    ∃ r ∈ ((s.countVerdict c addr x).die (c / 4)).sources, r.code = x.code ∧ r.address = addr := by
  rw [← pageDie_chkPg hc]
  exact exists_source_emit ((s.inc (chkPg c) x.cnt).irq (chkPg c) x.irq) (chkPg c) x.code addr

end countVerdict

/-! ### The sample is done (R148, R149) -/

/-- The sample's conversions take their exact codes and are released. -/
def State.settleSample (s : State) (c e t : Nat) (q : Sample) (v : Vec) : State := (s.putExact c e t q v).releaseSample c e t q

theorem settleSample_frame (s : State) (c e t : Nat) (q : Sample) (v : Vec) : Frame [.tiles] s (s.settleSample c e t q v) :=
  (State.releaseSample_frame ..).after (by decide) (State.putExact_frame ..)

theorem sampleQ_settleSample (s : State) (c e t : Nat) (q : Sample) (v : Vec) :
    ((s.settleSample c e t q v).tile c e t).sampleQ = (s.tile c e t).sampleQ.filter (fun x => !sampleKey q x) := by
  rw [State.settleSample, sampleQ_releaseSample, State.putExact, sampleQ_modConvs]

/-! ### Outcomes on an engine without earlier ones (R149, R151) -/

/-- An outcome enters its engine's record. -/
def State.trackOutcome (s : State) (c e t : Nat) (permanent : Bool) : State :=
  s.modEng c e (fun x => if permanent then { x with permanents := x.permanents ++ [(t, s.now)] }
    else { x with transients := x.transients ++ [(t, s.now)] })

theorem recentTiles_singleton_le (x : Nat × Nat) (from0 : Nat) : recentTiles [x] from0 ≤ 1 := by
  unfold recentTiles
  by_cases h : from0 ≤ x.2 <;> simp [h, List.eraseDups_cons]

/-- The first outcome of an engine is not enough to mark it suspect. -/
theorem suspectTrack_of_first {s : State} {c e : Nat} (t : Nat) (permanent : Bool) (htrans : (s.eng c e).transients = [])
    (hperm : (s.eng c e).permanents = []) : s.suspectTrack c e t permanent = s.trackOutcome c e t permanent := by
  have hone := recentTiles_singleton_le (t, s.now)
  have hnone (from0 : Nat) : recentTiles [] from0 = 0 := rfl
  unfold State.suspectTrack
  dsimp only
  rw [← State.trackOutcome]
  refine if_neg (not_or.2 ?_)
  cases permanent
  · simp only [State.trackOutcome, eng_modEng_same, Bool.false_eq_true, if_false, htrans, hperm, List.nil_append, hnone]
    exact ⟨not_le.2 ((hone _).trans_lt (by decide)), by decide⟩
  · simp only [State.trackOutcome, eng_modEng_same, if_true, htrans, hperm, List.nil_append, hnone]
    exact ⟨by decide, not_le.2 ((hone _).trans_lt (by decide))⟩

/-- The sample of `checkOutcome` with its verdict counted. -/
def State.conclude (s : State) (c e t : Nat) (q : Sample) (v : Vec) (x : Verdict) : State :=
  (s.settleSample c e t q v).countVerdict c (tileAddr e t + q.lowPair) x

section outcomes
variable {s : State} {c e t : Nat} {q : Sample} {v : Vec}

/-- What every verdict does: the sample is done, and its verdict counted and recorded. -/
theorem conclude_spec (hc : c / 4 < 40) (x : Verdict) :
    let u := s.conclude c e t q v x
    u.rd (chkPg c) x.cnt = (s.rd (chkPg c) x.cnt + 1) % 2 ^ 64 ∧ (u.core c).sum = x.add (s.core c).sum
    ∧ (u.tile c e t).sampleQ = (s.tile c e t).sampleQ.filter (fun x => !sampleKey q x)
    ∧ ∃ r ∈ (u.die (c / 4)).sources, r.code = x.code ∧ r.address = tileAddr e t + q.lowPair := by
  have hsettle := settleSample_frame s c e t q v
  have hcount := countVerdict_frame (s.settleSample c e t q v) c (tileAddr e t + q.lowPair) x
  dsimp only [State.conclude]
  rw [rd_countVerdict_cnt, sum_countVerdict, hcount.tile_eq (by decide), sampleQ_settleSample, hsettle.rd_eq (by decide),
    hsettle.core_eq (by decide)]
  exact ⟨rfl, rfl, rfl, exists_source_countVerdict _ c _ x hc⟩

/-- A verdict leaves the engines and the time. -/
theorem conclude_frame (x : Verdict) : Frame [.regs, .tiles, .cores, .dies, .out] s (s.conclude c e t q v x) :=
  (countVerdict_frame ..).after (by decide) ((settleSample_frame ..).after (by decide) (.refl _ s))

theorem eng_conclude (x : Verdict) : (s.conclude c e t q v x).eng c e = s.eng c e := (conclude_frame x).eng_eq (by decide) c e

theorem rd_conclude_tile (x : Verdict) (he : e < 4) {k : Nat} (hk : k < 17) {f : Fld} (hf : FldFits f) :
    (s.conclude c e t q v x).rd (tilePg c e k) f = s.rd (tilePg c e k) f := by
  rw [State.conclude, rd_countVerdict_tile _ _ _ _ _ _ he hk hf, (settleSample_frame ..).rd_eq (by decide)]

end outcomes

end Sys2Proof.Machine
end

section
/-! PROOFS. The spare: its fill for a tile that is disabled, and its takeover of that tile. -/

namespace Sys2Proof.Machine

/-! ### Replacement by the spare (R73, R150) -/

theorem tilePg_ne_tilePg (c e : Nat) {t k : Nat} (h : k ≠ t) : tilePg c e k ≠ tilePg c e t := by
  unfold tilePg
  omega

/-- Whether the spare is free is read from its page and from the engine's record. -/
theorem spareFree_congr {s u : State} {c e : Nat} (hrd : ∀ f, FldFits f → u.rd (tilePg c e 16) f = s.rd (tilePg c e 16) f)
    (hfill : (u.eng c e).fillFor = (s.eng c e).fillFor) (hrot : (u.eng c e).rot = (s.eng c e).rot) :
    u.spareFree c e = s.spareFree c e := by
  simp only [State.spareFree, State.rdB, hrd TILE.STAT_RETIRED (.of_check (by decide)),
    hrd TILE.STAT_STANDIN_FOR (.of_check (by decide)), hfill, hrot]

section spare
variable (s : State) (c e t : Nat)

/-- A tile is disabled and marked suspect. -/
def State.disableTile : State := (s.wr (tilePg c e t) TILE.CTRL_ENABLE 0).wr (tilePg c e t) TILE.STAT_SUSPECT 1

theorem rd_disableTile : (s.disableTile c e t).rd (tilePg c e t) TILE.CTRL_ENABLE = 0
    ∧ (s.disableTile c e t).rd (tilePg c e t) TILE.STAT_SUSPECT = 1 := by
  rw [State.disableTile, rd_wr_of_start _ _ (by decide), rd_wr_same, rd_wr_same]
  exact ⟨rfl, rfl⟩

theorem pagesKept_disableTile : PagesKept [tilePg c e t] s (s.disableTile c e t) :=
  have hp : tilePg c e t ∈ [tilePg c e t] := List.mem_singleton_self _
  ((PagesKept.refl _ s).wr_page 0 (f := TILE.CTRL_ENABLE) (.of_check (by decide)) hp).wr_page 1 (f := TILE.STAT_SUSPECT)
    (.of_check (by decide)) hp

/-- The spare begins to be filled for a tile. -/
def State.beginFill : State := (s.modEng c e (fun x => { x with fillFor := some t })).fillSpare c e t

theorem pagesKept_fillSpare : PagesKept [engPg c e] s (s.fillSpare c e t) := by
  refine PagesKept.foldl (fun b hb u => ?_) s
  have hk : bkey 16 b < 34 := bkey_lt (by decide) (List.mem_range.1 hb)
  split
  · exact pagesKept_emptyBank u c e 16 b hk
  · exact pagesKept_beginWrite u c e 16 b _ _ _ _ _ _ hk

theorem fillFor_beginFill : ((s.beginFill c e t).eng c e).fillFor = some t := by
  rw [State.beginFill, (State.fillSpare_frame ..).eng_eq (by decide), eng_modEng_same]

variable {s c e t}

/-- A tile with a PERMANENT outcome is disabled, and a spare that is free begins to be filled for it. -/
theorem permanentOn_of_free (ht : t < 16) (hfree : s.spareFree c e = true) (hidle : (s.eng c e).rot.phase = .idle) :
    s.permanentOn c e t = (s.disableTile c e t).beginFill c e t := by
  have hne : t ≠ 16 := by omega
  have hfree' : (s.disableTile c e t).spareFree c e = true := by
    rw [← hfree]
    refine spareFree_congr (fun f hf => (pagesKept_disableTile s c e t).rd_eq hf ?_) rfl rfl
    simpa using tilePg_ne_tilePg c e hne.symm
  unfold State.permanentOn
  dsimp only
  rw [if_neg hne, ← State.disableTile, if_pos hfree', State.replaceTile,
    show ((s.disableTile c e t).eng c e).rot.phase = .idle from hidle]
  rfl

/-- What a filled spare's beginning leaves: the tile is out, its spare named, and the counts and records stand. -/
theorem disabled_beginFill (u : State) {f : Fld} (hf : FldFits f) {r : FaultRec} (hr : r ∈ (u.die (c / 4)).sources) :
    let w := (u.disableTile c e t).beginFill c e t
    w.rd (chkPg c) f = u.rd (chkPg c) f ∧ w.core c = u.core c ∧ (w.eng c e).fillFor = some t
    ∧ w.rd (tilePg c e t) TILE.CTRL_ENABLE = 0 ∧ w.rd (tilePg c e t) TILE.STAT_SUSPECT = 1 ∧ r ∈ (w.die (c / 4)).sources := by
  have hfill : PagesKept [engPg c e] (u.disableTile c e t) ((u.disableTile c e t).beginFill c e t) :=
    pagesKept_fillSpare ((u.disableTile c e t).modEng c e _) c e t
  have htile {g : Fld} (hg : FldFits g) := hfill.rd_eq hg (by simpa using (engPg_ne_tilePg c e t).symm)
  obtain ⟨henable, hsuspect⟩ := rd_disableTile u c e t
  refine ⟨?_, ?_, fillFor_beginFill .., (htile (.of_check (by decide))).trans henable, (htile (.of_check (by decide))).trans hsuspect,
    mem_sources_fillSpare (s := (u.disableTile c e t).modEng c e _) hr c e t⟩
  · rw [hfill.rd_eq hf (by simpa using (engPg_ne_chkPg c e).symm),
      (pagesKept_disableTile u c e t).rd_eq hf (by simpa using (tilePg_ne_chkPg c e t).symm)]
  · rw [State.beginFill, (State.fillSpare_frame ..).core_eq (by decide)]
    rfl

end spare

/-! ### The takeover (R73, R130, R150) -/

section takeover
variable (s : State) (c e t : Nat)

theorem tile_modTile_other {k : Nat} (h : k ≠ t) (g : TileS → TileS) : (s.modTile c e t g).tile c e k = s.tile c e k :=
  mget_mput_other _ _ _ _ _ (by omega)

theorem tile_emptyBank_other {k : Nat} (b : Nat) (h : k ≠ t) : (s.emptyBank c e t b).tile c e k = s.tile c e k := by
  have hlate := agreeOff_flushLate s c e t b (c * 128 + e * 32 + k) (by simp; omega)
  rw [State.emptyBank, tile_modTile_other _ _ _ _ h]
  simp only [tile_wr]
  rw [State.tile, mget, hlate, State.tile, mget]

section standIn
variable {s c e t} (move : Vec → Bool)

/-- The spare stands in for a tile and takes the vectors that move. -/
theorem standIn_spec (ht : t < 16) :
    let u := s.standIn c e t move
    u.rd (tilePg c e 16) TILE.STAT_STANDIN_FOR = t ∧ u.rd (tilePg c e 16) TILE.STAT_IN_SERVICE = 1
    ∧ (u.tile c e 16).vecs = (s.tile c e 16).vecs ++ (s.tile c e t).vecs.filter move := by
  unfold State.standIn
  simp only [rd_modEng, rd_modTile, tile_modEng, tile_modTile_same]
  rw [rd_wr_of_start _ _ (by decide), rd_wr_of_start _ _ (by decide), rd_wr_same, rd_wr_same,
    tile_modTile_other _ _ _ _ (by omega)]
  exact ⟨Nat.mod_eq_of_lt (show t < 2 ^ 5 by omega), rfl, rfl⟩

end standIn

/-- The tile's registers say that it is retired, and its retirement is logged. -/
def State.markRetired (reason : Nat) : State :=
  ((((s.disableTile c e t).wr (tilePg c e t) TILE.STAT_RETIRED 1).wr (tilePg c e t) TILE.STAT_IN_SERVICE 0).modTile c e t
    (fun x => { x with reason := reason })).logRetired 1 (c / 4) (calInstance c e t) reason

theorem retireTile_eq (reason : Nat) :
    s.retireTile c e t reason = ((s.markRetired c e t reason).emptyBank c e t 0).emptyBank c e t 1 := rfl

theorem rd_markRetired (reason q : Nat) (f : Fld) : (s.markRetired c e t reason).rd q f
    = (((s.disableTile c e t).wr (tilePg c e t) TILE.STAT_RETIRED 1).wr (tilePg c e t) TILE.STAT_IN_SERVICE 0).rd q f := rfl

section retire
variable {s c e t}

theorem pagesKept_emptyBanks (ht : t < 17) : PagesKept [engPg c e] s ((s.emptyBank c e t 0).emptyBank c e t 1) :=
  (pagesKept_emptyBank _ _ _ _ _ (bkey_lt ht (by decide))).trans (pagesKept_emptyBank _ _ _ _ _ (bkey_lt ht (by decide)))

/-- A retired tile is out of service with both banks EMPTY. -/
theorem retireTile_spec (ht : t < 17) (reason : Nat) :
    let u := s.retireTile c e t reason
    u.rd (tilePg c e t) TILE.STAT_RETIRED = 1 ∧ u.rd (tilePg c e t) TILE.STAT_IN_SERVICE = 0
    ∧ u.bankState c e t 0 = 0 ∧ u.bankState c e t 1 = 0 := by
  have htile {f : Fld} (hf : FldFits f) := (pagesKept_emptyBanks (s := s.markRetired c e t reason) (c := c) (e := e) ht).rd_eq hf
    (show tilePg c e t ∉ [engPg c e] by simpa using (engPg_ne_tilePg c e t).symm)
  dsimp only
  rw [retireTile_eq, htile (.of_check (by decide)), htile (.of_check (by decide)), rd_markRetired, rd_markRetired,
    rd_wr_of_start _ _ (by decide), rd_wr_same, rd_wr_same, bankState_emptyBank,
    bankState_emptyBank_other _ _ _ _ _ (by unfold bkey; omega), bankState_emptyBank]
  exact ⟨rfl, rfl, rfl, rfl⟩

/-- The other tiles' records and registers stand when one is retired. -/
theorem retireTile_other (ht : t < 17) (reason : Nat) {k : Nat} (hk : k ≠ t) :
    (s.retireTile c e t reason).tile c e k = s.tile c e k
    ∧ ∀ f, FldFits f → (s.retireTile c e t reason).rd (tilePg c e k) f = s.rd (tilePg c e k) f := by
  have hpage := tilePg_ne_tilePg c e hk
  constructor
  · rw [retireTile_eq, tile_emptyBank_other _ _ _ _ _ hk, tile_emptyBank_other _ _ _ _ _ hk]
    exact ((State.logRetired_frame ..).tile_eq (by decide) _ _ _).trans (tile_modTile_other _ _ _ _ hk _)
  · intro f hf
    rw [retireTile_eq, (pagesKept_emptyBanks ht).rd_eq hf (by simpa using (engPg_ne_tilePg c e k).symm), rd_markRetired,
      rd_wr_of_page _ _ (.of_check (by decide)) hf hpage, rd_wr_of_page _ _ (.of_check (by decide)) hf hpage,
      (pagesKept_disableTile s c e t).rd_eq hf (by simpa using hpage)]

end retire

section stopRotation

theorem rd_stopRotation_eq (q : Nat) (f : Fld) : (s.stopRotation c e).rd q f
    = if s.rdB (engPg c e) ENG.CAL_ROT_STAT_STOPPED then s.rd q f
      else ((s.wr (engPg c e) ENG.CAL_ROT_STAT_STOPPED 1).irq (engPg c e) 5).rd q f := by
  unfold State.stopRotation
  dsimp only
  split <;> split <;> rfl

/-- Rotation stops in a bit and an event of the engine's page. -/
theorem rd_stopRotation {q : Nat} {f : Fld} (hf : FldFits f) (hq : q % 1024 ≠ 0)
    (hstop : fkey q f ≠ fkey (engPg c e) ENG.CAL_ROT_STAT_STOPPED) (hstat : fkey q f ≠ fkey (engPg c e) HDR.IRQ_STAT) :
    (s.stopRotation c e).rd q f = s.rd q f := by
  rw [rd_stopRotation_eq]
  split
  · rfl
  · rw [rd_irq _ _ _ _ _ (irqFree_of_core_page hf hq hstat), rd_wr_other _ _ _ _ _ _ hstop]

theorem stopped_stopRotation (he : e < 4) : (s.stopRotation c e).rdB (engPg c e) ENG.CAL_ROT_STAT_STOPPED = true := by
  have hslot := engPg_slot c he
  rw [State.rdB, rd_stopRotation_eq]
  split
  · assumption
  · rw [rd_irq _ _ _ _ _ (irqFree_of_core_page (.of_check (by decide)) (by omega) (fkey_ne_of_start _ (by decide))), rd_wr_same]
    rfl

theorem fillFor_stopRotation : ((s.stopRotation c e).eng c e).fillFor = (s.eng c e).fillFor := by
  unfold State.stopRotation
  dsimp only
  split <;> split <;> simp [State.emit]

variable {c e}

theorem rd_stopRotation_tile (he : e < 4) {k : Nat} (hk : k < 17) {f : Fld} (hf : FldFits f) :
    (s.stopRotation c e).rd (tilePg c e k) f = s.rd (tilePg c e k) f := by
  have hslot := tilePg_slot c he hk
  have hpage := (engPg_ne_tilePg c e k).symm
  exact rd_stopRotation _ _ _ hf (by omega) (fkey_ne_of_page hf (.of_check (by decide)) hpage)
    (fkey_ne_of_page hf (.of_check (by decide)) hpage)

theorem bankState_stopRotation (he : e < 4) {t b : Nat} (hk : bkey t b < 34) :
    (s.stopRotation c e).bankState c e t b = s.bankState c e t b := by
  have hslot := engPg_slot c he
  have hstart := fldStart_bankState (bkey t b)
  have hstop : fldStart ENG.CAL_ROT_STAT_STOPPED = 16511 := rfl
  have hstat : fldStart HDR.IRQ_STAT = 128 := rfl
  exact rd_stopRotation _ _ _ (fits_bankState hk) (by omega) (fkey_ne_of_start _ (by omega)) (fkey_ne_of_start _ (by omega))

end stopRotation

/-- The spare takes the tile's place, and the tile is retired. -/
def State.replaceBySpare : State :=
  ((s.standIn c e t (fun v => !v.begun)).retireTile c e t 0x10).modEng c e (fun y => { y with fillFor := none })

variable {s c e t}

theorem retireTakeoverEffect_of_ready (hfill : (s.eng c e).fillFor = some t) (hidle : (s.eng c e).rot.phase = .idle)
    (hbank0 : s.spareMatches c e t 0 = true) (hbank1 : s.spareMatches c e t 1 = true)
    (hdone : ∀ x ∈ (s.tile c e t).vecs, x.begun = true → x.finished = true) :
    retireTakeoverEffect s c e = (s.replaceBySpare c e t).stopRotation c e := by
  have hnone : (s.tile c e t).vecs.any (fun v => v.begun && !v.finished) = false := by
    rw [List.any_eq_false]
    intro x hx
    simpa using hdone x hx
  rw [retireTakeoverEffect, hfill]
  exact if_neg (by simp [hidle, hbank0, hbank1, hnone])

/-- After the takeover the tile is retired and the spare serves for it. -/
theorem replaceBySpare_spec (ht : t < 16) :
    let u := s.replaceBySpare c e t
    (u.rd (tilePg c e t) TILE.STAT_RETIRED = 1 ∧ u.rd (tilePg c e t) TILE.STAT_IN_SERVICE = 0)
    ∧ (u.rd (tilePg c e 16) TILE.STAT_STANDIN_FOR = t ∧ u.rd (tilePg c e 16) TILE.STAT_IN_SERVICE = 1)
    ∧ (u.eng c e).fillFor = none ∧ (u.bankState c e t 0 = 0 ∧ u.bankState c e t 1 = 0)
    ∧ (u.tile c e 16).vecs = (s.tile c e 16).vecs ++ (s.tile c e t).vecs.filter (fun x => !x.begun) := by
  obtain ⟨hfor, hserve, hvecs⟩ := standIn_spec (s := s) (c := c) (e := e) (fun v => !v.begun) ht
  obtain ⟨hretired, hout, hbank0, hbank1⟩ :=
    retireTile_spec (s := s.standIn c e t (fun v => !v.begun)) (c := c) (e := e) (t := t) (by omega) 0x10
  obtain ⟨htile, hrd⟩ := retireTile_other (s := s.standIn c e t (fun v => !v.begun)) (c := c) (e := e) (t := t) (by omega) 0x10
    (k := 16) (by omega)
  simp only [State.replaceBySpare, rd_modEng, bankState_modEng, tile_modEng, eng_modEng_same]
  rw [hrd _ (.of_check (by decide)), hrd _ (.of_check (by decide)), htile]
  exact ⟨⟨hretired, hout⟩, ⟨hfor, hserve⟩, trivial, ⟨hbank0, hbank1⟩, hvecs⟩

end takeover

end Sys2Proof.Machine
end

section
/-! PROOFS. Outcomes, the takeover, and the registers of the check unit. Settles O17. -/

namespace Sys2Proof.Machine

section outcomes
variable {s : State} {c e t : Nat} {q : Sample} {v : Vec}

theorem checkOutcomeEffect_of_due
    (hq : (s.tile c e t).sampleIn
      (fun x => x.phase == .repeated || x.phase == .unresolved || (x.phase == .repeatPending && s.stale c e t x)) = some q)
    (hv : s.vec c e q.tag q.named = some v) :
    checkOutcomeEffect s c e t = if q.phase ≠ .repeated then s.conclude c e t q v .unresolved
      else if !q.beyond then ((s.conclude c e t q v .transient).modTile c e t
        (fun x => { x with transients := x.transients + 1 })).suspectTrack c e t false
      else ((s.conclude c e t q v .permanent).suspectTrack c e t true).permanentOn c e t := by
  rw [checkOutcomeEffect, hq]
  dsimp only
  rw [hv]
  rfl

section first
variable (htrans : (s.eng c e).transients = []) (hperm : (s.eng c e).permanents = [])
include htrans hperm

/-- The engine's first TRANSIENT outcome enters its record. -/
theorem suspectTrack_transient : ((s.conclude c e t q v .transient).modTile c e t
    (fun x => { x with transients := x.transients + 1 })).suspectTrack c e t false
      = ((s.conclude c e t q v .transient).modTile c e t (fun x => { x with transients := x.transients + 1 })).trackOutcome c e t false :=
  suspectTrack_of_first _ _ (by rw [eng_modTile, eng_conclude, htrans]) (by rw [eng_modTile, eng_conclude, hperm])

/-- The engine's first PERMANENT outcome has the spare, where it is free, filled for the tile. -/
theorem permanentOn_permanent (he : e < 4) (ht : t < 16) (hfree : s.spareFree c e = true) (hidle : (s.eng c e).rot.phase = .idle) :
    ((s.conclude c e t q v .permanent).suspectTrack c e t true).permanentOn c e t
      = (((s.conclude c e t q v .permanent).trackOutcome c e t true).disableTile c e t).beginFill c e t := by
  rw [suspectTrack_of_first _ _ (by rw [eng_conclude, htrans]) (by rw [eng_conclude, hperm])]
  have heng : ((s.conclude c e t q v .permanent).trackOutcome c e t true).eng c e
      = { s.eng c e with permanents := (s.eng c e).permanents ++ [(t, (s.conclude c e t q v .permanent).now)] } := by
    rw [State.trackOutcome, eng_modEng_same, if_pos rfl, eng_conclude]
  refine permanentOn_of_free ht ((spareFree_congr (s := s) (fun f hf => ?_) ?_ ?_).trans hfree) ?_
  · exact rd_conclude_tile _ he (by decide) hf
  all_goals rw [heng]
  exact hidle

end first

end outcomes

/-- Settles O17: an outcome by what `conclude` leaves and, if PERMANENT, the fill of the spare begun; the takeover by
`replaceBySpare` and the stop of rotation; the check unit's registers by the effect of each write. -/
theorem outcomesAndCheckRegisters : Obligations.OutcomesAndCheckRegisters := by
  unfold Obligations.OutcomesAndCheckRegisters
  refine ⟨fun s c e t q v => ⟨fun hq hv hlets => ?_, fun hlets hfill ht hidle hbank0 hbank1 hdone => ?_⟩, fun s c v =>
    ⟨fun hlets => ?_, fun hlets hband htile => ?_, fun hlets h => exec_of_effect hlets rfl (lgSelEffect_of_missing h), fun hlets => ?_,
      fun b hlets hhalt => ?_, fun b hlets hrun => exec_of_effect hlets rfl (drefEffect_of_running b hrun)⟩⟩
  · obtain ⟨he, -⟩ := lt_of_wfT hlets.1
    have hdue := checkOutcomeEffect_of_due hq hv
    have hspec := conclude_spec (s := s) (e := e) (t := t) (q := q) (v := v) (die_lt_of_wfC (wfC_of_wfT hlets.1))
    refine ⟨fun hphase => ?_, fun hphase hbeyond htrans hperm => ?_, fun hphase hbeyond htrans hperm ht hfree hidle => ?_⟩
    · obtain ⟨hcnt, hsum, hsamples, hsource⟩ := hspec .unresolved
      exact ⟨_, exec_of_effect hlets rfl (hdue.trans (if_pos (by simp [hphase]))), hcnt, congrArg StepSum.unresolved hsum, hsamples,
        hsource⟩
    · obtain ⟨hcnt, hsum, hsamples, hsource⟩ := hspec .transient
      refine ⟨_, exec_of_effect hlets rfl (hdue.trans ((if_neg (by simp [hphase])).trans ((if_pos (by simp [hbeyond])).trans
        (suspectTrack_transient htrans hperm)))), hcnt, congrArg StepSum.transient hsum, ?_, ?_, hsource⟩
      · rw [State.trackOutcome, eng_modEng_same, if_neg Bool.false_ne_true, eng_modTile, eng_conclude, htrans, modTile_now,
          (conclude_frame _).now_eq (by decide)]
        rfl
      · rw [State.trackOutcome, tile_modEng, tile_modTile_same]
        exact hsamples
    · obtain ⟨hcnt, hsum, -, r, hr, hrecord⟩ := hspec .permanent
      obtain ⟨hchk, hcore, hfill, henable, hsuspect, hsource⟩ := disabled_beginFill (e := e) (t := t)
        ((s.conclude c e t q v .permanent).trackOutcome c e t true) (f := CHK.PERMANENT_CNT) (.of_check (by decide)) hr
      exact ⟨_, exec_of_effect hlets rfl (hdue.trans ((if_neg (by simp [hphase])).trans ((if_neg (by simp [hbeyond])).trans
        (permanentOn_permanent htrans hperm he ht hfree hidle)))), hchk.trans hcnt,
        (congrArg (fun x => x.sum.permanent) hcore).trans (congrArg StepSum.permanent hsum), hfill, henable, hsuspect, r, hsource,
        hrecord⟩
  · have he := lt_of_wfE hlets.1
    have heq := retireTakeoverEffect_of_ready hfill hidle hbank0 hbank1 hdone
    have hkeeps := (retireTakeoverEffect_frame s c e).keeps
    rw [heq] at hkeeps
    obtain ⟨⟨hretired, hout⟩, ⟨hfor, hserve⟩, hfill', ⟨hempty0, hempty1⟩, hvecs⟩ :=
      replaceBySpare_spec (s := s) (c := c) (e := e) ht
    have htile {k : Nat} (hk : k < 17) {f : Fld} (hf : FldFits f) := rd_stopRotation_tile (s.replaceBySpare c e t) (c := c) he hk hf
    have hbank {b : Nat} (hb : b < 2) := bankState_stopRotation (s.replaceBySpare c e t) (c := c) he (bkey_lt (t := t) (by omega) hb)
    refine ⟨_, exec_of_effect hlets rfl heq, (htile (by omega) (.of_check (by decide))).trans hretired,
      (htile (by omega) (.of_check (by decide))).trans hout, (htile (by decide) (.of_check (by decide))).trans hfor,
      (htile (by decide) (.of_check (by decide))).trans hserve, (fillFor_stopRotation ..).trans hfill', stopped_stopRotation _ _ _ he,
      (hbank (by decide)).trans hempty0, (hbank (by decide)).trans hempty1, ?_, hkeeps⟩
    rw [(State.stopRotation_frame ..).tile_eq (by decide), hvecs]
  · exact completes_of_lets (t := chkSeedEffect s c v) hlets rfl ⟨seed_chkSeedEffect s c v,
      fun e he t ht => lfsr_chkSeedEffect s c v he ht, .of_regs (regs_chkSeedEffect s c v) ((PagesKept.refl _ s).wr_page v
        (.of_check (by decide)) (List.mem_singleton_self _)), (chkSeedEffect_frame ..).keeps⟩
  · refine completes_of_lets (t := lgSelEffect s c v) hlets rfl ⟨fun i hi => ?_, pagesKept_lgSelEffect hband htile,
      (lgSelEffect_frame ..).keeps⟩
    rw [lgSelEffect_of_exists hband htile, rd_putWindow _ _ _ (by rwa [length_words])]
  · exact completes_of_lets (t := s.modCore c (fun x => { x with ledger := [], folded := [] })) hlets rfl
      ⟨core_modCore_same _ _ _, AgreeOff.mput _ _ _, (State.modCore_frame ..).keeps⟩
  · have hkeeps := (drefEffect_frame s c b).keeps
    rw [drefEffect_of_halted b hhalt] at hkeeps
    obtain ⟨hctrl, hstat, hsum, hpages⟩ := putDref_spec s c b
    exact ⟨_, exec_of_effect hlets rfl (drefEffect_of_halted b hhalt), hctrl, hstat, hsum, hpages, hkeeps⟩

end Sys2Proof.Machine
end

section
/-! PROOFS. A core's record and registers after dispatch, a halt and a start. -/

namespace Sys2Proof.Machine

/-! ### What dispatch and halts leave of a core (R171 to R173, R187) -/

/-- A core's record beside its queues, the descriptors it has prefetched, its claims and how it last halted. -/
def CoreS.work (x : CoreS) : CoreS :=
  { x with
    buf := [], attnQ := [], dmaQ := [], mbox0 := [], mbox1 := [], prevDma := none, prevAttn := none, claims := [], failing := false,
    waitHost := false }

section claims
variable (s : State) (c : Nat)

theorem core_dropClaims : (s.dropClaims c).core c = { s.core c with claims := [] } := by
  unfold State.dropClaims
  dsimp only
  rw [core_modCore_same, foldl_keeps (g := fun t => t.core c) (fun t e => ?_)]
  repeat' split
  all_goals rfl

theorem work_headClaims : ((s.headClaims c).core c).work = (s.core c).work ∧ ((s.headClaims c).core c).buf = (s.core c).buf := by
  refine Prod.mk.inj (foldl_keeps (g := fun t => ((t.core c).work, (t.core c).buf)) (fun t q => ?_) (List.range 8) s)
  split
  · split
    · rw [core_modCore_same]
      rfl
    · rfl
  · rfl

end claims

/-! ### The halt of a core (R187) -/

/-- The commands that wait in the engines' queues are discarded. -/
def State.clearQueues (s : State) (c : Nat) : State :=
  (List.range 4).foldl (fun s e => s.modEng c e (fun x => { x with queue := [] })) s

/-- A core's record when it halts for `cause`. -/
def CoreS.stop (x : CoreS) (cause : Nat) : CoreS :=
  { x with
    claims := [], attnQ := [], dmaQ := [], mbox0 := [], mbox1 := [], buf := [], failing := cause == 1, waitHost := cause == 2 }

/-- A core that halts, before the failure of its step is reported. -/
def State.stopCore (s : State) (c cause code addr : Nat) : State :=
  ((((((s.dropClaims c).clearQueues c).modCore c (fun x => { x with
    attnQ := [], dmaQ := [], mbox0 := [], mbox1 := [], buf := [], failing := cause == 1, waitHost := cause == 2 })).wr
    (corePg c) CORE.STAT_STATE 2).wr (corePg c) CORE.STAT_CAUSE cause).wr (corePg c) CORE.HALT_INFO_CODE code).wr
    (corePg c) CORE.HALT_INFO_ADDR addr

section halt
variable (s : State) (c cause code addr : Nat)

theorem haltCore_cases : s.haltCore c cause code addr = s ∨ s.haltCore c cause code addr = s.stopCore c cause code addr
    ∨ ∃ m, s.haltCore c cause code addr = (s.stopCore c cause code addr).send m := by
  unfold State.haltCore
  split
  · exact .inl rfl
  dsimp only
  split
  · exact .inr (.inl rfl)
  · exact .inr (.inr ⟨_, rfl⟩)

variable {s c} in
/-- A core that is IDLE or RUNNING halts; the host's HALT is not reported as a failure of the step. -/
theorem haltCore_of_live (h : coreState s c < 2) : s.haltCore c cause code addr = if cause = 2 then s.stopCore c cause code addr
    else (s.stopCore c cause code addr).send (.stepFail c ((s.stopCore c cause code addr).rd (corePg c) CORE.STEP)) := by
  rw [State.haltCore, if_neg (by omega)]
  rfl

theorem core_stopCore : (s.stopCore c cause code addr).core c = (s.core c).stop cause := by
  unfold State.stopCore
  simp only [core_wr, core_modCore_same]
  rw [State.clearQueues, foldl_keeps (g := fun t => t.core c) (fun t e => core_modEng t c e _ c), core_dropClaims]
  rfl

theorem rd_stopCore_of_start {f : Fld} (hstate : fldStart f ≠ fldStart CORE.STAT_STATE)
    (hcause : fldStart f ≠ fldStart CORE.STAT_CAUSE) (hcode : fldStart f ≠ fldStart CORE.HALT_INFO_CODE)
    (haddr : fldStart f ≠ fldStart CORE.HALT_INFO_ADDR) :
    (s.stopCore c cause code addr).rd (corePg c) f = s.rd (corePg c) f := by
  unfold State.stopCore
  rw [rd_wr_of_start _ _ haddr, rd_wr_of_start _ _ hcode, rd_wr_of_start _ _ hcause, rd_wr_of_start _ _ hstate, rd_modCore,
    State.clearQueues, foldl_keeps (g := fun t => t.rd (corePg c) f) (fun t e => rd_modEng t c e _ _ f),
    (State.dropClaims_frame s c).rd_eq (by decide)]

/-- A halted core reads HALTING with its cause and the code of the fault. -/
theorem halted_stopCore (hcause : cause < 4) (hcode : code < 2 ^ 16) : coreState (s.stopCore c cause code addr) c = 2
    ∧ (s.stopCore c cause code addr).rd (corePg c) CORE.STAT_CAUSE = cause
    ∧ (s.stopCore c cause code addr).rd (corePg c) CORE.HALT_INFO_CODE = code := by
  refine ⟨?_, ?_, ?_⟩
  · rw [coreState, State.stopCore, rd_wr_of_start _ _ (by decide), rd_wr_of_start _ _ (by decide), rd_wr_of_start _ _ (by decide),
      rd_wr_same]
    rfl
  · rw [State.stopCore, rd_wr_of_start _ _ (by decide), rd_wr_of_start _ _ (by decide), rd_wr_same]
    exact Nat.mod_eq_of_lt hcause
  · rw [State.stopCore, rd_wr_of_start _ _ (by decide), rd_wr_same]
    exact Nat.mod_eq_of_lt hcode

theorem queue_foldl_modEng {l : List Nat} {e : Nat} (he : e ∈ l) :
    ((l.foldl (fun s e => s.modEng c e (fun x => { x with queue := [] })) s).eng c e).queue = [] := by
  induction l using List.reverseRecOn with
  | nil => cases he
  | append_singleton l i ih =>
    rw [List.foldl_append, List.foldl_cons, List.foldl_nil]
    by_cases hi : e = i
    · rw [hi, eng_modEng_same]
    · have hne : c * 4 + e ≠ c * 4 + i := by omega
      have hmem : e ∈ l := by simpa [hi] using he
      simpa [State.modEng, State.setEng, State.eng, mget_mput_other _ _ _ _ _ hne] using ih hmem

/-- The engines of a halted core hold no command that has not issued, and what has issued runs on. -/
theorem queue_stopCore {e : Nat} (he : e < 4) : ((s.stopCore c cause code addr).eng c e).queue = [] := by
  simp only [State.stopCore, eng_wr, eng_modCore]
  exact queue_foldl_modEng (s.dropClaims c) c (List.mem_range.2 he)

theorem ops_stopCore (d i : Nat) : ((s.stopCore c cause code addr).eng d i).ops = (s.eng d i).ops := by
  have hops := ops_foldl_modEng (g := fun x => { x with queue := [] }) (fun _ => rfl) c d i (List.range 4) (s.dropClaims c)
  rw [(State.dropClaims_frame s c).eng_eq (by decide)] at hops
  simpa only [State.stopCore, State.clearQueues, eng_wr, eng_modCore] using hops

theorem clearQueues_frame : Frame [.engines] s (s.clearQueues c) := Frame.foldl (fun t e => t.modEng_frame c e _) _ (.refl _ s)

theorem stopCore_frame : Frame [.regs, .engines, .cores, .awn] s (s.stopCore c cause code addr) := by
  unfold State.stopCore
  iterate 4 refine (State.wr_frame ..).after (by decide) ?_
  exact (State.modCore_frame ..).after (by decide) ((clearQueues_frame _ c).after (by decide)
    ((s.dropClaims_frame c).after (by decide) (.refl _ s)))

end halt

/-! ### Dispatch (R172, R175) -/

/-- From `s` to `u` core `c` keeps its record but for its queues and loses prefetched descriptors from the front alone; its
semaphores stand. -/
structure DispatchOnly (c : Nat) (s u : State) : Prop where
  work : (u.core c).work = (s.core c).work
  buf : ∃ n, (u.core c).buf = (s.core c).buf.drop n
  sems : ∀ i, u.localSem c i = s.localSem c i

section dispatch
variable {c : Nat} {s t u : State}

theorem DispatchOnly.refl (c : Nat) (s : State) : DispatchOnly c s s := ⟨rfl, ⟨0, rfl⟩, fun _ => rfl⟩

theorem DispatchOnly.trans (h : DispatchOnly c s t) (k : DispatchOnly c t u) : DispatchOnly c s u := by
  obtain ⟨m, hm⟩ := h.buf
  obtain ⟨n, hn⟩ := k.buf
  exact ⟨k.work.trans h.work, ⟨m + n, by rw [hn, hm, List.drop_drop]⟩, fun i => (k.sems i).trans (h.sems i)⟩

theorem DispatchOnly.of_frame {P : List Part} (h : Frame P s u) (hr : .regs ∉ P) (hc : .cores ∉ P) : DispatchOnly c s u :=
  ⟨by rw [h.core_eq hc], ⟨0, by rw [h.core_eq hc, List.drop_zero]⟩, fun _ => h.rd_eq hr _ _⟩

theorem fldStart_sem (i : Nat) : fldStart (CORE.SEM_VALUE i) = 2048 + 32 * i := by
  simp only [fldStart, CORE.SEM_VALUE]
  omega

theorem localSem_wr_of_start (s : State) {f : Fld} (v i : Nat) (h : fldStart f < 2048) :
    (s.wr (corePg c) f v).localSem c i = s.localSem c i := by
  refine rd_wr_of_start _ _ ?_
  rw [fldStart_sem]
  omega

theorem dispatchOnly_stopCore (s : State) (c cause code addr : Nat) : DispatchOnly c s (s.stopCore c cause code addr) := by
  refine ⟨by rw [core_stopCore]; rfl, ⟨(s.core c).buf.length, by rw [core_stopCore, List.drop_length]; rfl⟩,
    fun i => rd_stopCore_of_start _ _ _ _ _ ?_ ?_ ?_ ?_⟩
  all_goals
    rw [fldStart_sem]
    simp only [fldStart, CORE.STAT_STATE, CORE.STAT_CAUSE, CORE.HALT_INFO_CODE, CORE.HALT_INFO_ADDR]
    omega

theorem dispatchOnly_haltCore (s : State) (c cause code addr : Nat) : DispatchOnly c s (s.haltCore c cause code addr) := by
  obtain heq | heq | ⟨m, heq⟩ := haltCore_cases s c cause code addr
  all_goals rw [heq]
  · exact .refl c s
  · exact dispatchOnly_stopCore ..
  · exact (dispatchOnly_stopCore ..).trans (.of_frame (State.send_frame _ m) (by decide) (by decide))

theorem dispatchOnly_haltFault (s : State) (c p code addr da : Nat) : DispatchOnly c s (s.haltFault c p code addr da) :=
  (DispatchOnly.of_frame (State.emit_frame s p code addr) (by decide) (by decide)).trans (dispatchOnly_haltCore _ c 1 code da)

theorem dispatchOnly_modCore {g : CoreS → CoreS} (hw : ∀ x, (g x).work = x.work) (hb : ∀ x, ∃ n, (g x).buf = x.buf.drop n)
    (s : State) (c : Nat) : DispatchOnly c s (s.modCore c g) :=
  ⟨by rw [core_modCore_same, hw], by rw [core_modCore_same]; exact hb _, fun _ => rfl⟩

theorem dispatchOnly_popDesc (s : State) (c addr : Nat) : DispatchOnly c s (s.popDesc c addr) := by
  refine (dispatchOnly_modCore (g := fun x => { x with buf := x.buf.drop 1 }) (fun _ => rfl) (fun _ => ⟨1, rfl⟩) s c).trans
    ⟨rfl, ⟨0, rfl⟩, fun i => ?_⟩
  rw [State.popDesc, State.inc, localSem_wr_of_start _ _ _ (by decide), localSem_wr_of_start _ _ _ (by decide)]

theorem dispatchOnly_enqueue (s : State) (c q : Nat) (d : Desc) : DispatchOnly c s (s.enqueue c q d) := by
  unfold State.enqueue
  split
  · exact .of_frame (State.modEng_frame ..) (by decide) (by decide)
  · repeat' split
    all_goals exact dispatchOnly_modCore (by intro _; rfl) (by intro _; exact ⟨0, rfl⟩) s c

theorem dispatchOnly_dispatchOne (h : s.dispatchOne c = some u) : DispatchOnly c s u := by
  unfold State.dispatchOne at h
  split at h
  · cases h
  split at h
  · cases h
  split at h
  · obtain rfl := Option.some.inj h
    exact dispatchOnly_haltFault ..
  dsimp only at h
  split at h
  · cases h
  split at h
  · cases h
  · obtain rfl := Option.some.inj h
    exact (dispatchOnly_popDesc ..).trans (dispatchOnly_enqueue ..)

theorem dispatchOnly_pumpN (c n : Nat) (s : State) : DispatchOnly c s (State.pumpN n s c) := by
  induction n generalizing s with
  | zero => exact .refl c s
  | succ n ih =>
    rw [State.pumpN]
    split
    · next h => exact (dispatchOnly_dispatchOne h).trans (ih _)
    · exact .refl c s

theorem dispatchOnly_pump (s : State) (c : Nat) : DispatchOnly c s (s.pump c) := by
  obtain ⟨hwork, hbuf⟩ := work_headClaims (State.pumpN 130 s c) c
  exact (dispatchOnly_pumpN c 130 s).trans ⟨hwork, ⟨0, hbuf⟩, fun _ => (State.headClaims_frame _ c).rd_eq (by decide) _ _⟩

end dispatch

/-! ### Starts (R183, R185) -/

/-- A core's record at the start of a stream at `addr` for the record `r`. -/
def CoreS.start (x : CoreS) (addr : Nat) (r : Option StartRec) : CoreS :=
  { x with
    fetch := addr, buf := [], attnQ := [], dmaQ := [], mbox0 := [], mbox1 := [], claims := [], prevDma := none, prevAttn := none,
    cur := r, failing := false, waitHost := false }

section start
variable (s : State) (c addr step : Nat) (r : Option StartRec)

/-- The local semaphores are zeroed, and no engine holds a command. -/
def State.clearStream (s : State) (c : Nat) : State :=
  (List.range 4).foldl (fun s e => s.modEng c e (fun x => { x with queue := [], prev := none }))
    ((List.range 64).foldl (fun s i => s.wr (corePg c) (CORE.SEM_VALUE i) 0) s)

theorem startStream_eq : s.startStream c addr step r = ((((s.clearStream c).modCore c (fun x => x.start addr r)).wr
    (corePg c) CORE.STREAM_PC addr).wr (corePg c) CORE.STEP step).wr (corePg c) CORE.STAT_STATE 1 := rfl

theorem core_clearStream : (s.clearStream c).core c = s.core c := by
  rw [State.clearStream, foldl_keeps (g := fun t => t.core c) (fun t e => core_modEng t c e _ c),
    foldl_keeps (g := fun t => t.core c) (fun t i => core_wr t _ _ _ c)]

theorem localSem_clearStream {i : Nat} (hi : i < 64) : (s.clearStream c).localSem c i = 0 := by
  have hapart : ((List.range 64).map CORE.SEM_VALUE).Pairwise fun f g => fldStart f ≠ fldStart g := by
    refine List.pairwise_map.2 (List.pairwise_lt_range.imp fun hlt => ?_)
    rw [fldStart_sem, fldStart_sem]
    omega
  have hzero := rd_foldl_wr_mem (corePg c) (fun _ => 0) hapart (List.mem_map_of_mem (List.mem_range.2 hi)) s
  rw [List.foldl_map] at hzero
  rw [State.localSem, State.clearStream, foldl_keeps (g := fun t => t.rd (corePg c) (CORE.SEM_VALUE i))
    (fun t e => rd_modEng t c e _ _ _), hzero, Nat.zero_mod]

/-- A core at the start of a stream is RUNNING at its address for its step, its semaphores zero. -/
theorem startStream_spec : coreState (s.startStream c addr step r) c = 1
    ∧ (s.startStream c addr step r).rd (corePg c) CORE.STREAM_PC = addr % 2 ^ 64
    ∧ (s.startStream c addr step r).rd (corePg c) CORE.STEP = step % 2 ^ 64
    ∧ (∀ i, i < 64 → (s.startStream c addr step r).localSem c i = 0)
    ∧ (s.startStream c addr step r).core c = (s.core c).start addr r := by
  rw [startStream_eq]
  refine ⟨rd_wr_same _ _ _ _, ?_, ?_, fun i hi => ?_, ?_⟩
  · rw [rd_wr_of_start _ _ (by decide), rd_wr_of_start _ _ (by decide), rd_wr_same]
    rfl
  · rw [rd_wr_of_start _ _ (by decide), rd_wr_same]
    rfl
  · rw [localSem_wr_of_start _ _ _ (by decide), localSem_wr_of_start _ _ _ (by decide), localSem_wr_of_start _ _ _ (by decide),
      State.localSem, rd_modCore]
    exact localSem_clearStream s c hi
  · rw [core_wr, core_wr, core_wr, core_modCore_same, core_clearStream]

/-- STAT's pending fields alone change. -/
theorem rd_showPending_of_start {f : Fld} (hn : fldStart f ≠ fldStart CORE.STAT_PENDING_N)
    (hany : fldStart f ≠ fldStart CORE.STAT_START_PENDING) : (s.showPending c).rd (corePg c) f = s.rd (corePg c) f := by
  rw [State.showPending, State.wrB, rd_wr_of_start _ _ hany, rd_wr_of_start _ _ hn]

theorem coreState_showPending : coreState (s.showPending c) c = coreState s c :=
  rd_showPending_of_start s c (by decide) (by decide)

theorem startPending_of_nil (h : (s.core c).pend = []) : s.startPending c = s := by
  rw [State.startPending, h]

variable {s c} in
/-- The oldest of the records held starts. -/
theorem startPending_of_cons {x : StartRec} {l : List StartRec} (h : (s.core c).pend = x :: l) : s.startPending c
    = ((s.modCore c (fun y => { y with pend := l })).showPending c).startStream c x.stream x.step (some x) := by
  rw [State.startPending, h]

variable {s c} in
theorem startPending_spec {x : StartRec} {l : List StartRec} (h : (s.core c).pend = x :: l) : coreState (s.startPending c) c = 1
    ∧ (s.startPending c).rd (corePg c) CORE.STREAM_PC = x.stream % 2 ^ 64
    ∧ (s.startPending c).rd (corePg c) CORE.STEP = x.step % 2 ^ 64
    ∧ (∀ i, i < 64 → (s.startPending c).localSem c i = 0)
    ∧ (s.startPending c).core c = { (s.core c).start x.stream (some x) with pend := l } := by
  obtain ⟨hstate, hpc, hstep, hsems, hcore⟩ :=
    startStream_spec ((s.modCore c (fun y => { y with pend := l })).showPending c) c x.stream x.step (some x)
  rw [startPending_of_cons h]
  refine ⟨hstate, hpc, hstep, hsems, hcore.trans ?_⟩
  rw [State.showPending, State.wrB, core_wr, core_wr, core_modCore_same]
  rfl

end start

end Sys2Proof.Machine
end

section
/-! PROOFS. Start records, GO, HALT, aborts and the end of a halt. Settles O15. -/

namespace Sys2Proof.Machine

section starts
variable {s : State} {c : Nat}

/-! ### Start records and GO (R183 to R185) -/

/-- A start record is held, and STAT shows how many are. -/
def State.holdRecord (s : State) (c : Nat) (r : StartRec) : State :=
  (s.modCore c (fun x => { x with pend := x.pend ++ [r] })).showPending c

section hold
variable (s : State) (c : Nat) (r : StartRec)

theorem core_holdRecord : (s.holdRecord c r).core c = { s.core c with pend := (s.core c).pend ++ [r] } := by
  rw [State.holdRecord, State.showPending, State.wrB, core_wr, core_wr, core_modCore_same]

theorem coreState_holdRecord : coreState (s.holdRecord c r) c = coreState s c := coreState_showPending _ c

theorem holdRecord_frame : Frame [.regs, .cores] s (s.holdRecord c r) :=
  (State.showPending_frame _ c).after (by decide) ((State.modCore_frame s c _).after (by decide) (.refl _ s))

theorem pagesKept_holdRecord : PagesKept [corePg c] s (s.holdRecord c r) :=
  have hp : corePg c ∈ [corePg c] := List.mem_singleton_self _
  ((PagesKept.of_regs rfl (.refl _ s)).wr_page _ (f := CORE.STAT_PENDING_N) (.of_check (by decide)) hp).wr_page _
    (f := CORE.STAT_START_PENDING) (.of_check (by decide)) hp

variable {s c} in
/-- STAT shows the records held, the new one among them. -/
theorem pending_holdRecord (h : (s.core c).pend.length < 4) :
    (s.holdRecord c r).rd (corePg c) CORE.STAT_PENDING_N = (s.core c).pend.length + 1
    ∧ (s.holdRecord c r).rd (corePg c) CORE.STAT_START_PENDING = 1 := by
  have hlen : ((s.modCore c (fun x => { x with pend := x.pend ++ [r] })).core c).pend.length = (s.core c).pend.length + 1 := by
    rw [core_modCore_same, List.length_append, List.length_singleton]
  rw [State.holdRecord, State.showPending, State.wrB, rd_wr_of_start _ _ (by decide), rd_wr_same, rd_wr_same, hlen]
  exact ⟨Nat.mod_eq_of_lt (show _ < 2 ^ 3 by omega), rfl⟩

end hold

theorem running_iff : running s c = true ↔ coreState s c = 1 := beq_iff_eq

theorem halting_iff : halting s c = true ↔ coreState s c = 2 := beq_iff_eq

/-- Where a core may start: it neither runs nor halts. -/
theorem idle_of_state (h : coreState s c = 0) : running s c = false ∧ halting s c = false := by
  simp [running, halting, h]

section record
variable {r : StartRec} (hreset : (s.core c).resetAt = none) (hsrc : s.rdB (corePg c) CORE.CTRL_START_SRC = false)
include hreset hsrc

theorem startRecordEffect_of_running (hrun : coreState s c = 1) (hlen : (s.core c).pend.length < 4) :
    startRecordEffect s c r = s.holdRecord c r := by
  have hrun' : running (s.holdRecord c r) c = true := running_iff.2 ((coreState_holdRecord s c r).trans hrun)
  simp only [startRecordEffect, hreset, hsrc, Nat.not_le.2 hlen, Option.isSome_none, Bool.false_eq_true, if_false, decide_false]
  exact if_pos (by rw [← State.holdRecord, hrun', Bool.true_or])

theorem startRecordEffect_of_full (hrun : coreState s c = 1) (hlen : 4 ≤ (s.core c).pend.length) :
    startRecordEffect s c r = (s.refuse (corePg c)).send (.startRefused c r.step) := by
  have hrun' : running ((s.refuse (corePg c)).send (.startRefused c r.step)) c = true :=
    running_iff.2 ((rd_refuse_of_start s (by decide)).trans hrun)
  simp only [startRecordEffect, hreset, hsrc, hlen, Option.isSome_none, Bool.false_eq_true, if_false, decide_true, if_true]
  exact if_pos (by rw [hrun', Bool.true_or])

theorem startRecordEffect_of_idle (hidle : coreState s c = 0) (hlen : (s.core c).pend.length < 4) :
    startRecordEffect s c r = (s.holdRecord c r).startPending c := by
  obtain ⟨hrun', hhalt'⟩ := idle_of_state ((coreState_holdRecord s c r).trans hidle)
  simp only [startRecordEffect, hreset, hsrc, Nat.not_le.2 hlen, Option.isSome_none, Bool.false_eq_true, if_false, decide_false]
  exact if_neg (by rw [← State.holdRecord, hrun', hhalt']; decide)

end record

theorem coreGoEffect_of_idle (hidle : coreState s c = 0) (hpend : (s.core c).pend = []) :
    coreGoEffect s c = s.startStream c (s.rdA (corePg c) CORE.STREAM_ADDR_ADDR) 0 none := by
  obtain ⟨hrun, hhalt⟩ := idle_of_state hidle
  simp [coreGoEffect, hrun, hhalt, hpend]

theorem coreGoEffect_of_busy (h : coreState s c = 1 ∨ coreState s c = 2) : coreGoEffect s c = s.refuse (corePg c) := by
  rw [coreGoEffect, if_pos (by rwa [Bool.or_eq_true, running_iff, halting_iff])]

/-! ### HALT and aborts (R184, R187) -/

theorem coreHaltEffect_of_running (hrun : coreState s c = 1) :
    coreHaltEffect s c = s.stopCore c 2 0 (s.rd (corePg c) CORE.STREAM_PC) := by
  simp [coreHaltEffect, haltCore_of_live _ _ _ (show coreState s c < 2 by omega), hrun]

theorem coreHaltEffect_of_idle (hidle : coreState s c = 0) :
    coreHaltEffect s c = (s.stopCore c 2 0 (s.rd (corePg c) CORE.STREAM_PC)).enterHalted c := by
  simp [coreHaltEffect, haltCore_of_live _ _ _ (show coreState s c < 2 by omega), hidle]

/-- The pending records of step `n` are dropped, but for reloads. -/
def State.dropRecords (s : State) (c n : Nat) : State :=
  (s.modCore c (fun x => { x with pend := x.pend.filter (fun r => r.step != n || r.reload) })).showPending c

theorem core_dropRecords (s : State) (c n : Nat) : (s.dropRecords c n).core c
    = { s.core c with pend := (s.core c).pend.filter (fun r => r.step != n || r.reload) } := by
  rw [State.dropRecords, State.showPending, State.wrB, core_wr, core_wr, core_modCore_same]

theorem coreState_dropRecords (s : State) (c n : Nat) : coreState (s.dropRecords c n) c = coreState s c := coreState_showPending _ c

theorem stepAbortEffect_of_running {r : StartRec} {n : Nat} (hrun : coreState s c = 1) (hcur : (s.core c).cur = some r)
    (hn : r.step = n) (hreload : r.reload = false) : ∃ addr u, u = (s.dropRecords c n).stopCore c 3 0 addr
      ∧ stepAbortEffect s c n = u.send (.stepFail c (u.rd (corePg c) CORE.STEP)) := by
  have hrun' : coreState (s.dropRecords c n) c = 1 := (coreState_dropRecords s c n).trans hrun
  have hcur' : ((s.dropRecords c n).core c).cur = some r := by rw [core_dropRecords, hcur]
  refine ⟨(s.dropRecords c n).rd (corePg c) CORE.STREAM_PC, _, rfl, ?_⟩
  have habort : (running (s.dropRecords c n) c && ((s.dropRecords c n).core c).cur.any (fun r => r.step == n && !r.reload))
      = true := by
    simp [running, hrun', hcur', hn, hreload]
  have hhalt := haltCore_of_live 3 0 ((s.dropRecords c n).rd (corePg c) CORE.STREAM_PC)
    (show coreState (s.dropRecords c n) c < 2 by omega)
  exact (if_pos habort).trans (hhalt.trans (if_neg (by decide)))

/-! ### The end of a halt (R188) -/

/-- The core is HALTED and says so. -/
def State.showHalted (s : State) (c : Nat) : State := (s.wr (corePg c) CORE.STAT_STATE 3).irq (corePg c) 0

theorem enterHalted_eq (s : State) (c : Nat) : s.enterHalted c
    = if ((s.showHalted c).core c).waitHost then s.showHalted c else (s.showHalted c).startPending c := rfl

theorem core_showHalted (s : State) (c : Nat) : (s.showHalted c).core c = s.core c := by
  rw [State.showHalted, core_irq, core_wr]

theorem showHalted_frame (s : State) (c : Nat) : Frame [.regs, .out] s (s.showHalted c) :=
  (State.irq_frame _ _ _).after (by decide) ((State.wr_frame s _ _ _).after (by decide) (.refl _ s))

/-- Of a core's page an event changes IRQ_STAT alone. -/
theorem rd_core_irq (s : State) (c i : Nat) {f : Fld} (hf : FldFits f) (hstat : fldStart f ≠ fldStart HDR.IRQ_STAT) :
    (s.irq (corePg c) i).rd (corePg c) f = s.rd (corePg c) f := by
  refine rd_irq _ _ _ _ _ (irqFree_of_core_page hf ?_ (fkey_ne_of_start _ hstat))
  simp only [corePg, coreBase, diePg]
  omega

theorem coreState_showHalted (s : State) (c : Nat) : coreState (s.showHalted c) c = 3 := by
  rw [State.showHalted, coreState_irq]
  exact rd_wr_same _ _ _ _

theorem cause_showHalted (s : State) (c : Nat) :
    (s.showHalted c).rd (corePg c) CORE.STAT_CAUSE = s.rd (corePg c) CORE.STAT_CAUSE := by
  rw [State.showHalted, rd_core_irq _ _ _ (.of_check (by decide)) (by decide), rd_wr_of_start _ _ (by decide)]

theorem enterHalted_of_waits (h : (s.core c).waitHost = true ∨ (s.core c).pend = []) : s.enterHalted c = s.showHalted c := by
  rw [enterHalted_eq, core_showHalted]
  split
  · rfl
  · next hwait =>
    obtain hwait' | hpend := h
    · exact absurd hwait' hwait
    · exact startPending_of_nil _ _ ((congrArg CoreS.pend (core_showHalted s c)).trans hpend)

theorem enterHalted_of_record (h : (s.core c).waitHost = false) : s.enterHalted c = (s.showHalted c).startPending c := by
  rw [enterHalted_eq, core_showHalted, h]
  rfl

theorem haltCompleteEffect_of_drained (hhalt : coreState s c = 2) (hdone : s.drained c = true) :
    haltCompleteEffect s c = s.enterHalted c := by
  rw [haltCompleteEffect, if_pos (by rw [halting_iff.2 hhalt, hdone]; rfl)]

end starts

/-- Settles O15: a record is held by `holdRecord`; every start is `startStream`, by itself or for the oldest record held; every halt
is `stopCore`, and its end `showHalted`. -/
theorem coresStartAndHalt : Obligations.CoresStartAndHalt := by
  unfold Obligations.CoresStartAndHalt
  refine fun s c => ⟨fun r hlets hreset hsrc hrun hlen => ?_, fun r hlets hreset hsrc hrun hlen => ?_,
    fun r hlets hreset hsrc hidle hpend => ?_, fun hlets hidle hpend => ?_, fun hlets hbusy => ?_, fun hlets hrun => ?_,
    fun hlets hidle => ?_, fun n r hlets hrun hcur hn hreload => ?_, fun hlets hhalt hdone hwait => ?_,
    fun r l hlets hhalt hdone hwait hpend => ?_⟩
  · have heq := startRecordEffect_of_running (r := r) hreset hsrc hrun hlen
    obtain ⟨hn, hany⟩ := pending_holdRecord r hlen
    refine ⟨_, exec_of_effect hlets rfl heq, ?_, hn, hany, .mput _ _ _, pagesKept_holdRecord s c r,
      (holdRecord_frame s c r).keeps⟩
    rw [core_holdRecord]
  · exact exec_of_effect hlets rfl (startRecordEffect_of_full hreset hsrc hrun hlen)
  · have heq := startRecordEffect_of_idle (r := r) hreset hsrc hidle (by simp [hpend])
    have hone : ((s.holdRecord c r).core c).pend = [r] := by
      rw [core_holdRecord, hpend]
      rfl
    obtain ⟨hstate, hpc, hstep, hsems, hcore⟩ := startPending_spec hone
    refine ⟨_, exec_of_effect hlets rfl heq, hstate, by rw [hcore], by rw [hcore]; rfl, by rw [hcore]; rfl, hpc, hstep, hsems,
      ?_⟩
    exact ((State.startPending_frame _ c).after (by decide) ((holdRecord_frame s c r).after (by decide) (.refl _ s))).keeps
  · obtain ⟨hstate, -, hstep, hsems, hcore⟩ := startStream_spec s c (s.rdA (corePg c) CORE.STREAM_ADDR_ADDR) 0 none
    exact ⟨_, exec_of_effect hlets rfl (coreGoEffect_of_idle hidle hpend), hstate, by rw [hcore]; rfl, by rw [hcore]; rfl, hstep,
      hsems, (State.startStream_frame ..).keeps⟩
  · exact exec_of_effect hlets rfl (coreGoEffect_of_busy hbusy)
  · obtain ⟨hstate, hcause, -⟩ := halted_stopCore s c 2 0 (s.rd (corePg c) CORE.STREAM_PC) (by decide) (by decide)
    refine ⟨_, exec_of_effect hlets rfl (coreHaltEffect_of_running hrun), hstate, hcause,
      fun e he => ⟨queue_stopCore _ _ _ _ _ he, ops_stopCore ..⟩, ?_, ?_, ?_, ?_, ?_, ?_, (stopCore_frame ..).keeps⟩
    all_goals
      rw [core_stopCore]
      rfl
  · obtain ⟨-, hcause, -⟩ := halted_stopCore s c 2 0 (s.rd (corePg c) CORE.STREAM_PC) (by decide) (by decide)
    have hwait : ((s.stopCore c 2 0 (s.rd (corePg c) CORE.STREAM_PC)).core c).waitHost = true := by
      rw [core_stopCore]
      rfl
    exact ⟨_, exec_of_effect hlets rfl ((coreHaltEffect_of_idle hidle).trans (enterHalted_of_waits (.inl hwait))),
      coreState_showHalted _ c, (cause_showHalted _ c).trans hcause⟩
  · obtain ⟨addr, u, rfl, heq⟩ := stepAbortEffect_of_running hrun hcur hn hreload
    obtain ⟨hstate, hcause, -⟩ := halted_stopCore (s.dropRecords c n) c 3 0 addr (by decide) (by decide)
    have hkeeps := (stepAbortEffect_frame s c n).keeps
    rw [heq] at hkeeps
    refine ⟨_, exec_of_effect hlets rfl heq, hstate, hcause, fun q hq hstep => ?_, ?_, hkeeps⟩
    · rw [core_send, core_stopCore, core_dropRecords] at hq
      simpa [hstep] using (List.mem_filter.1 hq).2
    · refine List.mem_append_right _ (List.mem_singleton.2 (congrArg (OutMsg.stepFail c) ?_))
      rw [rd_stopCore_of_start _ _ _ _ _ (by decide) (by decide) (by decide) (by decide), State.dropRecords,
        rd_showPending_of_start _ _ (by decide) (by decide), rd_modCore]
  · have heq := (haltCompleteEffect_of_drained hhalt hdone).trans (enterHalted_of_waits hwait)
    exact ⟨_, exec_of_effect hlets rfl heq, coreState_showHalted s c, (showHalted_frame s c).keeps .cores (by decide),
      (showHalted_frame s c).keeps⟩
  · have heq := (haltCompleteEffect_of_drained hhalt hdone).trans (enterHalted_of_record hwait)
    obtain ⟨hstate, hpc, -, -, hcore⟩ := startPending_spec (hpend ▸ congrArg CoreS.pend (core_showHalted s c))
    have hkeeps := (haltCompleteEffect_frame s c).keeps
    rw [heq] at hkeeps
    exact ⟨_, exec_of_effect hlets rfl heq, hstate, by rw [hcore]; rfl, by rw [hcore], hpc, hkeeps⟩

end Sys2Proof.Machine
end

section
/-! PROOFS. What memory accesses of a core leave of its pages, and what completion leaves of its record and semaphores. -/

namespace Sys2Proof.Machine

/-! ### Memory errors are counted on no page of a core (R271, R273, R325, R403) -/

/-- From `s` to `u` the pages of every core stand: those from slot 0x100 of a die on. -/
def CorePagesKept (s u : State) : Prop := ∀ q f, FldFits f → 256 ≤ q % 1024 → u.rd q f = s.rd q f

section keep
variable {s t u : State}

theorem CorePagesKept.refl (s : State) : CorePagesKept s s := fun _ _ _ _ => rfl

theorem CorePagesKept.trans (h : CorePagesKept s t) (k : CorePagesKept t u) : CorePagesKept s u :=
  fun q f hf hq => (k q f hf hq).trans (h q f hf hq)

theorem CorePagesKept.frame (h : CorePagesKept s t) {P : List Part} (k : Frame P t u) (hr : .regs ∉ P) : CorePagesKept s u :=
  fun q f hf hq => (k.rd_eq hr q f).trans (h q f hf hq)

theorem CorePagesKept.wr (h : CorePagesKept s t) {p : Nat} {f : Fld} (v : Nat) (hf : FldFits f) (hp : p % 1024 < 256) :
    CorePagesKept s (t.wr p f v) := by
  intro q g hg hq
  rw [rd_wr_of_page _ _ hf hg (by rintro rfl; omega), h q g hg hq]

theorem CorePagesKept.irq (h : CorePagesKept s t) {p : Nat} (i : Nat) (hp : p % 1024 < 256) : CorePagesKept s (t.irq p i) := by
  intro q g hg hq
  have hpage : q ≠ p := by
    rintro rfl
    omega
  rw [rd_irq _ _ _ _ _ (irqFree_of_core_page hg (by omega) (fkey_ne_of_page hg (.of_check (by decide)) hpage)), h q g hg hq]

theorem CorePagesKept.foldl {α : Type} {f : State → α → State} (hf : ∀ t a, CorePagesKept t (f t a)) (l : List α)
    (s : State) : CorePagesKept s (l.foldl f s) := by
  induction l generalizing s with
  | nil => exact .refl s
  | cons a l ih => exact (hf s a).trans (ih _)

end keep

theorem hbmcPg_slot (st : Nat) : hbmcPg st % 1024 < 256 := by
  simp only [hbmcPg, diePg]
  omega

theorem cxlPg_slot (p : Nat) : cxlPg p % 1024 < 256 := by
  simp only [cxlPg, diePg]
  omega

section access
variable (s : State)

theorem corePagesKept_startRetire (st g : Nat) : CorePagesKept s (s.startRetire st g) := by
  unfold State.startRetire
  split
  · dsimp only
    split
    · exact .refl s
    · exact (((CorePagesKept.refl s).frame (State.emit_frame ..) (by decide)).irq 3 (hbmcPg_slot st)).frame
        (State.modStack_frame ..) (by decide)
  · exact ((CorePagesKept.refl s).wr 1 (f := HBMC.STAT_COPYING) (.of_check (by decide)) (hbmcPg_slot st)).frame
      (State.modStack_frame ..) (by decide)

theorem corePagesKept_retireGranule (st g : Nat) : CorePagesKept s (s.retireGranule st g) := by
  unfold State.retireGranule
  dsimp only
  split
  · exact .refl s
  split
  · split
    · exact .refl s
    · exact (CorePagesKept.refl s).frame (State.modStack_frame ..) (by decide)
  · exact corePagesKept_startRetire s st g

/-- A word that decoded with an error: its stack's page counts it, notes its address and raises an event. -/
theorem corePagesKept_countWord (st a i : Nat) {cnt last : Fld} (hcnt : FldFits cnt) (hlast : FldFits last) :
    CorePagesKept s (((s.inc (hbmcPg st) cnt).wrA (hbmcPg st) last a).irq (hbmcPg st) i) :=
  (((CorePagesKept.refl s).wr _ hcnt (hbmcPg_slot st)).wr _ hlast (hbmcPg_slot st)).irq i (hbmcPg_slot st)

theorem corePagesKept_noteWord (a o : Nat) (scrub : Bool) : CorePagesKept s (s.noteWord a o scrub) := by
  have hcount (i : Nat) {cnt last : Fld} := corePagesKept_countWord s (stackOf a) a i (cnt := cnt) (last := last)
  unfold State.noteWord
  dsimp only
  split
  · exact .refl s
  split
  · exact (hcount 0 (.of_check (by decide)) (.of_check (by decide))).frame (State.recordCe_frame ..) (by decide)
  split
  · have hraised := (hcount 1 (cnt := HBMC.UE_CNT) (last := HBMC.LAST_UE_ADDR) (.of_check (by decide))
      (.of_check (by decide))).frame (State.emit_frame _ (hbmcPg (stackOf a)) 0x6022 0) (by decide)
    refine CorePagesKept.trans ?_ (corePagesKept_retireGranule _ _ _)
    split
    · exact hraised
    · exact hraised.frame (State.modStack_frame ..) (by decide)
  split
  · exact .refl s
  · exact (CorePagesKept.refl s).wr _ (f := HBMC.POISON_RD_CNT) (.of_check (by decide)) (hbmcPg_slot _)

theorem corePagesKept_count2 {f : Fld} (hf : FldFits f) (a n : Nat) : CorePagesKept s (s.count2 f a n) := by
  unfold State.count2
  split
  · exact .refl s
  · exact .foldl (fun t u => (CorePagesKept.refl t).wr _ hf (cxlPg_slot _)) _ s

theorem corePagesKept_touch2 (a n : Nat) : CorePagesKept s (s.touch2 a n) := by
  refine .foldl (fun t l => ?_) _ s
  split
  · exact (CorePagesKept.refl t).wr _ (f := CXL.POISON_RD_CNT) (.of_check (by decide)) (cxlPg_slot _)
  · exact .refl t

theorem corePagesKept_touch (a n : Nat) : CorePagesKept s (s.touch a n) := by
  unfold State.touch
  split
  · exact .refl s
  split
  · refine CorePagesKept.trans ?_ (corePagesKept_count2 _ (.of_check (by decide)) a n)
    split
    · exact corePagesKept_touch2 s a n
    · exact .refl s
  · exact .foldl (fun t e => corePagesKept_noteWord t _ _ _) _ s

theorem dev_touch (a n : Nat) : (s.touch a n).dev = s.dev := (State.touch_frame s a n).keeps .dev (by decide)

end access

/-! ### Signals and completion (R178, R187) -/

theorem corePg_slot (c : Nat) : 256 ≤ corePg c % 1024 := by
  rw [corePg, coreBase, diePg, Nat.mul_add_mod_self_right, Nat.mod_eq_of_lt (by omega)]
  omega

section complete
variable {s u : State} {c : Nat}

theorem fits_sem {i : Nat} (hi : i < 64) : FldFits (CORE.SEM_VALUE i) := .mk (by decide) (by omega) (by decide)

theorem CorePagesKept.coreState_eq (h : CorePagesKept s u) (c : Nat) : coreState u c = coreState s c :=
  h _ CORE.STAT_STATE (.of_check (by decide)) (corePg_slot c)

theorem CorePagesKept.halting_eq (h : CorePagesKept s u) (c : Nat) : halting u c = halting s c := by
  rw [halting, halting, h.coreState_eq c]

theorem CorePagesKept.localSem_eq (h : CorePagesKept s u) (c : Nat) {i : Nat} (hi : i < 64) : u.localSem c i = s.localSem c i :=
  h _ _ (fits_sem hi) (corePg_slot c)

/-- A signal adds to its local semaphore, which saturates. -/
theorem localSem_signal (s : State) (c : Nat) {sem n : Nat} (hn : n ≠ 0) (hsem : sem < 0x40) :
    (s.signal c sem n).localSem c sem = min (s.localSem c sem + n) 0xFFFF := by
  have hwr : (s.wr (corePg c) (CORE.SEM_VALUE sem) (min (s.localSem c sem + n) 0xFFFF)).localSem c sem
      = min (s.localSem c sem + n) 0xFFFF :=
    (rd_wr_same _ _ _ _).trans (Nat.mod_eq_of_lt (show _ < 2 ^ 16 by omega))
  have hstat : fldStart (CORE.SEM_VALUE sem) ≠ fldStart HDR.IRQ_STAT := by
    rw [fldStart_sem, show fldStart HDR.IRQ_STAT = 128 from rfl]
    omega
  rw [State.signal, if_neg hn, if_pos hsem]
  unfold State.localSignal
  dsimp only
  split
  · rw [State.localSem, State.emit, rd_emitR, rd_core_irq _ _ _ (fits_sem hsem) hstat, ← State.localSem, hwr]
  · exact hwr

/-- The signal of a command that completes on a core that is not halting is applied. -/
theorem localSem_complete {d : Desc} (hhalt : halting s c = false) (hn : d.sigCnt ≠ 0) (hsem : d.sigSem < 0x40) :
    (s.complete c d).localSem c d.sigSem = min (s.localSem c d.sigSem + d.sigCnt) 0xFFFF := by
  rw [State.complete, (dispatchOnly_pump _ c).sems, hhalt]
  exact localSem_signal s c hn hsem

theorem work_complete (s : State) (c : Nat) (d : Desc) : ((s.complete c d).core c).work = (s.core c).work := by
  rw [State.complete, (dispatchOnly_pump _ c).work]
  split
  · rfl
  · rw [(State.signal_frame ..).core_eq (by decide)]

/-- Issue takes from a core its queue's head and the claim that its wait had. -/
theorem work_issue (s : State) (c q : Nat) (d : Desc) : ((s.issue c q d).core c).work = (s.core c).work := by
  have hwait : ((s.takeWait c q d).core c).work = (s.core c).work := by
    unfold State.takeWait
    repeat' split
    · rfl
    · rfl
    · rw [core_modCore_same]
      rfl
  rw [State.issue, ← hwait]
  unfold State.dequeue
  split
  · rw [core_modEng]
  · repeat' split
    all_goals
      rw [core_modCore_same]
      rfl

/-! ### A fault that halts its core (R93, R187) -/

/-- A live core that a fault halts: the fault is raised, the core halts with cause 1, the failure of its step is reported. -/
theorem haltFault_of_live (h : coreState s c < 2) (p code addr da : Nat) :
    ∃ m, s.haltFault c p code addr da = ((s.emit p code addr).stopCore c 1 code da).send m :=
  ⟨_, (haltCore_of_live 1 code da (s := s.emit p code addr) h).trans (if_neg (by decide))⟩

theorem halted_haltFault (h : coreState s c < 2) (p addr da : Nat) {code : Nat} (hcode : code < 2 ^ 16) :
    coreState (s.haltFault c p code addr da) c = 2 ∧ (s.haltFault c p code addr da).rd (corePg c) CORE.STAT_CAUSE = 1
    ∧ (s.haltFault c p code addr da).rd (corePg c) CORE.HALT_INFO_CODE = code := by
  obtain ⟨m, heq⟩ := haltFault_of_live h p code addr da
  rw [heq, coreState, rd_send, rd_send, rd_send]
  exact halted_stopCore _ c 1 code da (by decide) hcode

end complete

end Sys2Proof.Machine
end

section
/-! PROOFS. DMA copies, tiller kicks, the semaphore port and the prefetch. Settles O14. -/

namespace Sys2Proof.Machine

section work
variable {x y : CoreS} (h : y.work = x.work)
include h

theorem dmaRun_eq_of_work : y.dmaRun = x.dmaRun := (congrArg CoreS.dmaRun h :)

theorem fetch_eq_of_work : y.fetch = x.fetch := (congrArg CoreS.fetch h :)

theorem kicks_eq_of_work (t : Nat) : y.kicks t = x.kicks t := (congrArg (CoreS.kicks · t) h :)

theorem kicksRead_eq_of_work (t : Nat) : y.kicksRead t = x.kicksRead t := (congrArg (CoreS.kicksRead · t) h :)

end work

section copy
variable {s : State} {c k : Nat} {d : Desc}

/-! ### DMA copies (R182) -/

theorem dmaRun_dmaCopyEffect (h : s.issuable c 5 0x70 = some d) :
    ((dmaCopyEffect s c).core c).dmaRun = (s.core c).dmaRun ++ [d] := by
  rw [dmaCopyEffect, h]
  refine (dmaRun_eq_of_work (dispatchOnly_pump _ c).work).trans ?_
  rw [core_modCore_same, dmaRun_eq_of_work (work_issue s c 5 d)]

/-- A transfer that moved `n` blocks leaves the DMA unit. -/
def State.endCopy (s : State) (c k : Nat) (d : Desc) (n : Nat) : State :=
  (s.dmaMove c d n).modCore c (fun x => { x with dmaRun := x.dmaRun.eraseIdx k })

theorem dmaDoneEffect_of_whole (hd : (s.core c).dmaRun[k]? = some d) (hn : s.blocksOk d.operand d.len64 = d.len64) :
    dmaDoneEffect s c k = (s.endCopy c k d d.len64).complete c d := by
  rw [dmaDoneEffect, hd]
  dsimp only
  rw [if_pos hn, hn, State.endCopy]

theorem dmaDoneEffect_of_part (hd : (s.core c).dmaRun[k]? = some d) (hn : s.blocksOk d.operand d.len64 ≠ d.len64) :
    dmaDoneEffect s c k = (s.endCopy c k d (s.blocksOk d.operand d.len64)).haltFault c (corePg c) 0x6011
      (d.operand + 64 * s.blocksOk d.operand d.len64) d.addr := by
  rw [dmaDoneEffect, hd]
  exact if_neg hn

section copied
variable (s : State) (c k : Nat) (d : Desc) (n : Nat)

theorem corePagesKept_endCopy : CorePagesKept s (s.endCopy c k d n) := by
  refine CorePagesKept.frame (?_ : CorePagesKept s (s.dmaMove c d n)) (State.modCore_frame ..) (by decide)
  unfold State.dmaMove
  dsimp only
  split
  · have hcs : CorePagesKept s (s.csTouch c d.cs (64 * n)) := fun q f hf hq => rd_csTouch s c d.cs (64 * n) hf (by omega)
    exact (hcs.trans (fun _ _ _ _ => rfl)).trans (corePagesKept_count2 _ (.of_check (by decide)) _ _)
  · exact (corePagesKept_touch s d.operand (64 * n)).trans (fun _ _ _ _ => rfl)

theorem core_endCopy : (s.endCopy c k d n).core c = { s.core c with dmaRun := (s.core c).dmaRun.eraseIdx k } := by
  rw [State.endCopy, core_modCore_same, (State.dmaMove_frame ..).core_eq (by decide)]

variable {d}

/-- A copy into core store moves its blocks, marks with them. -/
theorem stores_endCopy_in (hdir : d.dir = false) :
    (s.endCopy c k d n).cstore = s.cstore.copyFrom s.dev (csBase c + d.cs) d.operand n ∧ (s.endCopy c k d n).dev = s.dev := by
  have hcs : (s.touch d.operand (64 * n)).cstore = s.cstore := (State.touch_frame ..).cstore_eq (by decide)
  have hdev := dev_touch s d.operand (64 * n)
  rw [State.endCopy, State.dmaMove, hdir, modCore_cstore, modCore_dev]
  exact ⟨by rw [← hcs, ← hdev]; rfl, hdev⟩

/-- A copy out of core store below tier 2 moves its blocks, marks with them. -/
theorem stores_endCopy_out (hdir : d.dir = true) (ha : d.operand < tier2Base) :
    (s.endCopy c k d n).dev = s.dev.copyFrom s.cstore d.operand (csBase c + d.cs) n ∧ (s.endCopy c k d n).cstore = s.cstore := by
  have hframe := State.csTouch_frame s c d.cs (64 * n)
  have hcs : (s.csTouch c d.cs (64 * n)).cstore = s.cstore := hframe.cstore_eq (by decide)
  have hdev : (s.csTouch c d.cs (64 * n)).dev = s.dev := hframe.keeps .dev (by decide)
  rw [State.endCopy, State.dmaMove, hdir, modCore_cstore, modCore_dev]
  simp only [if_true, Nat.not_le.2 ha, if_false, State.count2, ha, or_true]
  exact ⟨by rw [hdev, hcs], hcs⟩

end copied

/-- What the completion of a transfer leaves of memory and of the transfers under way. -/
theorem complete_endCopy (s : State) (c k : Nat) (d : Desc) (n : Nat) :
    ((s.endCopy c k d n).complete c d).cstore = (s.endCopy c k d n).cstore
    ∧ ((s.endCopy c k d n).complete c d).dev = (s.endCopy c k d n).dev
    ∧ (((s.endCopy c k d n).complete c d).core c).dmaRun = (s.core c).dmaRun.eraseIdx k := by
  have hframe := State.complete_frame (s.endCopy c k d n) c d
  refine ⟨hframe.cstore_eq (by decide), hframe.keeps .dev (by decide), ?_⟩
  rw [dmaRun_eq_of_work (work_complete _ c d), core_endCopy]

end copy

/-! ### Tiller mailboxes (R190) -/

section kicks
variable (x : CoreS) (t n : Nat) (l : List Desc)

@[simp] theorem CoreS.kicks_setKicks : (x.setKicks t l).kicks t = l := by
  unfold CoreS.setKicks CoreS.kicks
  split <;> rfl

@[simp] theorem CoreS.kicks_setKicksRead : (x.setKicksRead t n).kicks t = x.kicks t := by
  unfold CoreS.setKicksRead CoreS.kicks
  split <;> rfl

@[simp] theorem CoreS.kicksRead_setKicksRead : (x.setKicksRead t n).kicksRead t = n := by
  unfold CoreS.setKicksRead CoreS.kicksRead
  split <;> rfl

end kicks

section tiller
variable {s : State} {c t : Nat} {d : Desc} {l : List Desc}

theorem kicks_tillerKickEffect (h : s.issuable c (6 + t) 0x78 = some d) :
    ((tillerKickEffect s c t).core c).kicks t = (s.core c).kicks t ++ [d] := by
  rw [tillerKickEffect, h]
  refine (kicks_eq_of_work (dispatchOnly_pump _ c).work t).trans ?_
  rw [core_modCore_same, CoreS.kicks_setKicks, kicks_eq_of_work (work_issue s c (6 + t) d) t]

theorem kicks_endKick (h : (s.core c).kicks t = d :: l) :
    ((s.endKick c t).core c).kicks t = l ∧ ((s.endKick c t).core c).kicksRead t = (s.core c).kicksRead t - 1 := by
  rw [State.endKick, core_modCore_same, CoreS.kicks_setKicksRead, CoreS.kicks_setKicks, CoreS.kicksRead_setKicksRead, h]
  exact ⟨rfl, rfl⟩

theorem tillerDoneEffect_of_cons (h : (s.core c).kicks t = d :: l) : tillerDoneEffect s c t = (s.endKick c t).complete c d := by
  rw [tillerDoneEffect, h]

theorem mboxReadEffect_of_some (h : ((s.core c).kicks t)[(s.core c).kicksRead t]? = some d) : mboxReadEffect s c t
    = (s.modCore c (fun x => x.setKicksRead t (x.kicksRead t + 1))).send (.readValue d.operand) := by
  simp only [mboxReadEffect, h]

theorem mboxReadEffect_of_none (h : ((s.core c).kicks t)[(s.core c).kicksRead t]? = none) :
    mboxReadEffect s c t = s.send (.readValue 0xFFFFFFFFFFFFFFFF) := by
  simp only [mboxReadEffect, h]

theorem tillerSemEffect_of_local {k : Nat} (n : Nat) (hk : k < 0x40) : tillerSemEffect s c k n = (s.signal c k n).pump c := by
  rw [tillerSemEffect, if_pos (by simp [isSem, hk])]

/-- The kick that traps leaves the tiller, which shows it. -/
def State.endTrapped (s : State) (c t : Nat) : State := ((s.endKick c t).wr (corePg c) (trapF t) 1).irq (corePg c) 3

theorem tillerTrapEffect_of_cons (cause : Nat) (h : (s.core c).kicks t = d :: l) : tillerTrapEffect s c t cause
    = (s.endTrapped c t).haltFault c (corePg c) 0x1051 (cause % 256 + t * 256) d.addr := by
  rw [tillerTrapEffect, h]
  rfl

theorem core_endTrapped (s : State) (c t : Nat) : (s.endTrapped c t).core c = (s.endKick c t).core c := by
  rw [State.endTrapped, core_irq, core_wr]

theorem fldStart_trapF (t : Nat) : 800 ≤ fldStart (trapF t) ∧ fldStart (trapF t) < 832 := by
  unfold trapF
  split <;> decide

theorem coreState_endTrapped (s : State) (c t : Nat) : coreState (s.endTrapped c t) c = coreState s c := by
  obtain ⟨hlo, -⟩ := fldStart_trapF t
  rw [State.endTrapped, coreState_irq, coreState, rd_wr_of_start, State.endKick, rd_modCore, ← coreState]
  rw [show fldStart CORE.STAT_STATE = 126 from rfl]
  omega

/-- The trap bit stands when the core has halted. -/
theorem trap_halted (hrun : coreState s c = 1) (p code addr da : Nat) :
    ((s.endTrapped c t).haltFault c p code addr da).rd (corePg c) (trapF t) = 1 := by
  obtain ⟨hlo, hhi⟩ := fldStart_trapF t
  have hfits : FldFits (trapF t) := by
    unfold trapF
    split <;> exact .of_check (by decide)
  obtain ⟨m, heq⟩ := haltFault_of_live (s := s.endTrapped c t) (by rw [coreState_endTrapped, hrun]; decide) p code addr da
  have hset : (s.endTrapped c t).rd (corePg c) (trapF t) = 1 := by
    rw [State.endTrapped, rd_core_irq _ _ _ hfits (by rw [show fldStart HDR.IRQ_STAT = 128 from rfl]; omega), rd_wr_same]
    unfold trapF
    split <;> rfl
  rw [heq, rd_send, rd_stopCore_of_start, State.emit, rd_emitR, hset]
  all_goals
    simp only [fldStart, CORE.STAT_STATE, CORE.STAT_CAUSE, CORE.HALT_INFO_CODE, CORE.HALT_INFO_ADDR] at hlo hhi ⊢
    omega

end tiller

/-! ### The prefetch (R183) -/

section fetch
variable {s : State} {c : Nat}

/-- The two descriptors of the line at `a`, each with its words and whether they are marked. -/
def State.lineAt (s : State) (a : Nat) : List (Nat × List Nat × Bool) :=
  [a, a + 32].map (fun b => (b, (List.range 4).map (fun i => s.devNat (b + 8 * i) 8), s.devBad b 32))

/-- The next line of the stream arrives. -/
def State.fetchLine (s : State) (c : Nat) : State :=
  (s.touch (s.core c).fetch 64).modCore c (fun x =>
    { x with fetch := (s.core c).fetch + 64, buf := x.buf ++ (s.touch (s.core c).fetch 64).lineAt (s.core c).fetch })

theorem streamFetchEffect_of_room (hrun : coreState s c = 1) (hroom : (s.core c).buf.length ≤ 126)
    (hmay : s.coreMay (s.core c).fetch 64 = true) : streamFetchEffect s c = (s.fetchLine c).pump c := by
  simp only [streamFetchEffect, running_iff.2 hrun, Nat.not_lt.2 hroom, hmay, Bool.not_true, decide_false, Bool.or_self,
    Bool.false_eq_true, if_false]
  rfl

theorem core_fetchLine (s : State) (c : Nat) : (s.fetchLine c).core c = { s.core c with
    fetch := (s.core c).fetch + 64, buf := (s.core c).buf ++ (s.touch (s.core c).fetch 64).lineAt (s.core c).fetch } := by
  rw [State.fetchLine, core_modCore_same, (State.touch_frame ..).core_eq (by decide)]

/-- The words of a line are those of memory. -/
theorem words_lineAt {u : State} (h : u.dev = s.dev) (a : Nat) : (u.lineAt a).map (fun b => (b.1, b.2.1))
    = [a, a + 32].map (fun b => (b, (List.range 4).map (fun i => s.devNat (b + 8 * i) 8))) := by
  simp only [State.lineAt, State.devNat, h, List.map_map]
  rfl

theorem exists_drop_le {α : Type} (l : List α) (n : Nat) : ∃ m ≤ l.length, l.drop n = l.drop m := by
  obtain hn | hn := Nat.le_total n l.length
  · exact ⟨n, hn, rfl⟩
  · exact ⟨l.length, le_rfl, by rw [List.drop_eq_nil_of_le hn, List.drop_length]⟩

end fetch

/-- Settles O14: a transfer ends in `endCopy`, a kick in `endKick`, a line in `fetchLine`; completion and dispatch after them leave
what they wrote, and a fault after them halts the core. -/
theorem coreUnitsRun : Obligations.CoreUnitsRun := by
  unfold Obligations.CoreUnitsRun
  refine fun s c t k d => ⟨fun hlets hd => ?_, fun hlets hd hn hdir => ?_, fun hlets hd hn hdir ha => ?_,
    fun hlets hd hn hrun => ?_, fun hlets hd => ?_, fun l hlets hkicks hhalt hcnt hsem => ?_, fun hlets hd => ?_,
    fun hlets hd => ?_, fun n hlets hn hk => ?_,
    fun l cause hlets hkicks hrun => ?_, fun hlets => ?_, fun hlets hrun hroom hmay => ?_⟩
  · exact completes_of_lets hlets rfl (dmaRun_dmaCopyEffect hd)
  · obtain ⟨hcs, hdev, hrest⟩ := complete_endCopy s c k d d.len64
    obtain ⟨hcs', hdev'⟩ := stores_endCopy_in s c k d.len64 hdir
    have hkept := corePagesKept_endCopy s c k d d.len64
    refine ⟨_, exec_of_effect hlets rfl (dmaDoneEffect_of_whole hd hn), hcs.trans hcs', hdev.trans hdev', hrest,
      fun hhalt hcnt hsem => ?_⟩
    rw [localSem_complete ((hkept.halting_eq c).trans hhalt) hcnt hsem, hkept.localSem_eq c hsem]
  · obtain ⟨hcs, hdev, hrest⟩ := complete_endCopy s c k d d.len64
    obtain ⟨hdev', hcs'⟩ := stores_endCopy_out s c k d.len64 hdir ha
    exact ⟨_, exec_of_effect hlets rfl (dmaDoneEffect_of_whole hd hn), hdev.trans hdev', hcs.trans hcs', hrest⟩
  · have hlive := (corePagesKept_endCopy s c k d (s.blocksOk d.operand d.len64)).coreState_eq c
    exact ⟨_, exec_of_effect hlets rfl (dmaDoneEffect_of_part hd hn), halted_haltFault (by omega) _ _ _ (by decide)⟩
  · exact completes_of_lets hlets rfl (kicks_tillerKickEffect hd)
  · obtain ⟨hl, hread⟩ := kicks_endKick hkicks
    have hwork := work_complete (s.endKick c t) c d
    exact ⟨_, exec_of_effect hlets rfl (tillerDoneEffect_of_cons hkicks), (kicks_eq_of_work hwork t).trans hl,
      (kicksRead_eq_of_work hwork t).trans hread, localSem_complete (s := s.endKick c t) hhalt hcnt hsem⟩
  · have hkeeps := (mboxReadEffect_frame s c t).keeps
    rw [mboxReadEffect_of_some hd] at hkeeps
    refine ⟨_, exec_of_effect hlets rfl (mboxReadEffect_of_some hd), rfl, ?_, ?_, hkeeps⟩
    · rw [core_send, core_modCore_same, CoreS.kicksRead_setKicksRead]
    · rw [core_send, core_modCore_same, CoreS.kicks_setKicksRead]
  · exact exec_of_effect hlets rfl (mboxReadEffect_of_none hd)
  · exact ⟨_, exec_of_effect hlets rfl (tillerSemEffect_of_local n hk),
      ((dispatchOnly_pump _ c).sems k).trans (localSem_signal s c hn hk)⟩
  · have hlive : coreState (s.endTrapped c t) c < 2 := by
      rw [coreState_endTrapped, hrun]
      decide
    refine ⟨_, exec_of_effect hlets rfl (tillerTrapEffect_of_cons cause hkicks), ?_, trap_halted hrun _ _ _ _,
      halted_haltFault hlive _ _ _ (by decide)⟩
    rw [kicks_eq_of_work (dispatchOnly_haltFault ..).work t, core_endTrapped, (kicks_endKick hkicks).1]
  · exact onWf_of_lets hlets s
  · obtain ⟨hwork, ⟨n, hbuf⟩, -⟩ := dispatchOnly_pump (s.fetchLine c) c
    obtain ⟨m, hm, hdrop⟩ := exists_drop_le ((s.fetchLine c).core c).buf n
    have hcore := core_fetchLine s c
    refine ⟨_, exec_of_effect hlets rfl (streamFetchEffect_of_room hrun hroom hmay), ?_, m, ?_, ?_⟩
    · rw [fetch_eq_of_work hwork, hcore]
    · rw [hcore, List.length_append, show (State.lineAt _ _).length = 2 from rfl] at hm
      exact List.mem_range.2 (by omega)
    · rw [hbuf, hdrop, hcore, List.map_drop, List.map_append, words_lineAt (dev_touch s _ 64)]

end Sys2Proof.Machine
end

section
/-! PROOFS. A SEM_WAIT whose claim is listed twice. Refutes O13. -/

namespace Sys2Proof.Machine

/-- Core 0 runs with SEM_WAIT at the dispatch point, for 2 of global semaphore 0x403; its claims list key 8, the claim of SEM_WAIT,
twice, which no operation of the model does: the keys of a map are strictly rising. -/
def claimTwice : State :=
  (State.reset.wr (corePg 0) CORE.STAT_STATE 1).modCore 0 (fun x => { x with
    buf := [(256, [0x150, 0, 0x403 + 2 * 2 ^ 12, 0], false)], claims := [(8, .granted), (8, .sent)] })

/-- The descriptor of that SEM_WAIT. -/
def waitTwo : Desc := decodeDesc 256 0x150 0 (0x403 + 2 * 2 ^ 12) 0

theorem lets_claimTwice : claimTwice.lets (.semWait 0) := lets_of_check (by decide)

/-- SEM_WAIT takes the claim that is listed first, and the other stands. -/
theorem claims_semWaitEffect_claimTwice : mfind ((semWaitEffect claimTwice 0).core 0).claims 8 = some .sent := by decide

/-- Refutes O13: the statement ranges over every state, and in one whose core lists the claim of SEM_WAIT twice (the model never
makes one) a claim is still there when the granted wait has been taken. -/
theorem not_sequencerCommandsRun : ¬ Obligations.SequencerCommandsRun := by
  unfold Obligations.SequencerCommandsRun
  intro h
  obtain ⟨-, -, -, -, -, hgranted, -⟩ := h claimTwice 0 waitTwo
  obtain ⟨u, hexec, hgone, -⟩ := hgranted lets_claimTwice (by decide) (by decide) (by decide) (by decide)
  obtain rfl := Host.Outcome.next.inj ((onWf_of_lets lets_claimTwice (semWaitEffect claimTwice 0)).symm.trans hexec)
  rw [claims_semWaitEffect_claimTwice] at hgone
  cases hgone

end Sys2Proof.Machine
end

section
/-! PROOFS. A saturation counter of more than 64 bits. Refutes O30. -/

namespace Sys2Proof.Machine

/-- An add of 1 to global semaphore 0x400 is on its way, and SAT_CNT holds 2 ^ 64, which no write of its 64 bits leaves there. -/
def wideSatCnt : State :=
  { State.reset with
    regs := mput State.reset.regs (fkey syncPg SYNC.SAT_CNT) (2 ^ 64)
    awn := { State.reset.awn with adds := [(0x400, 1)] } }

theorem lets_wideSatCnt : wideSatCnt.lets (.awnAdd 0x400 1) := lets_of_check (by decide)

/-- An add that does not saturate leaves SAT_CNT as it is. -/
theorem satCnt_awnAddEffect_wideSatCnt : (awnAddEffect wideSatCnt 0x400 1).rd syncPg SYNC.SAT_CNT = 2 ^ 64 := by decide

/-- Refutes O30: the statement ranges over every state, and where SAT_CNT holds 2 ^ 64 (no write leaves a field more than its width)
an add that does not saturate leaves it so, where the statement has it read 0, its value modulo 2 ^ 64. -/
theorem not_semaphoresAndClaims : ¬ Obligations.SemaphoresAndClaims := by
  unfold Obligations.SemaphoresAndClaims
  intro h
  obtain ⟨hadd, -⟩ := h wideSatCnt 0x400 1 0
  obtain ⟨u, hexec, -, -, -, -, hsat⟩ := hadd lets_wideSatCnt (by decide)
  obtain rfl := Host.Outcome.next.inj ((onWf_of_lets lets_wideSatCnt (awnAddEffect wideSatCnt 0x400 1)).symm.trans hexec)
  rw [satCnt_awnAddEffect_wideSatCnt] at hsat
  exact absurd hsat (by decide)

end Sys2Proof.Machine
end

section
/-! PROOFS. The 128 bits of a page-ledger entry. Settles O59. -/

namespace Sys2Proof.Machine

/-- Settles O59: sixteen bytes hold the word, and each field of the entry is the word's digit at its place: what stands below it is
less than the place's weight, and what stands above it is a multiple of the next place's. -/
theorem ledgerEntriesReadBack : Obligations.LedgerEntriesReadBack := by
  unfold Obligations.LedgerEntriesReadBack
  rintro ⟨gen, lastUse, frame, fill, slot, tenant, ref, pin, ret, tier, state⟩ hgen huse hframe hfill hslot htenant href hpin hret htier
    hstate
  simp only [PageEnt.word] at *
  have hword : gen * 2 ^ 112 + lastUse * 2 ^ 96 + frame * 2 ^ 64 + fill * 2 ^ 52 + slot * 2 ^ 40 + tenant * 2 ^ 32 + ref * 2 ^ 16
      + pin * 2 ^ 8 + ret * 2 ^ 4 + tier * 2 ^ 3 + state < 2 ^ 128 := by omega
  refine ⟨hword, ?_⟩
  rw [ofLe_toLe, show 256 ^ 16 = 2 ^ 128 from rfl, Nat.mod_eq_of_lt hword]
  simp only [PageEnt.ofWord, field, Nat.shiftRight_eq_div_pow, PageEnt.mk.injEq]
  refine ⟨?_, ?_, ?_, ?_, ?_, ?_, ?_, ?_, ?_, ?_, ?_⟩ <;> omega

end Sys2Proof.Machine
end

section
/-! PROOFS. The shared operations of the page engine: a unit without a command, the entry an operation leaves, requests that end. -/

namespace Sys2Proof.Machine

/-! ### An attention unit without a command -/

section idle
variable {s : State} {c : Nat} (h : (s.core c).attn = none)
include h

theorem attnWants_of_idle (tenant slot : Nat) : s.attnWants c tenant slot = none := by rw [State.attnWants, h]

theorem attnAsk_of_idle (page tenant slot : Nat) : s.attnAsk c page tenant slot = s := by
  rw [State.attnAsk, attnWants_of_idle h]

theorem walk_of_idle : s.walk c = s := by rw [State.walk, State.walkN, h]

theorem attn_modAttn_of_idle (k : Nat) (f : AttnCmd → AttnCmd) : ((s.modAttn k f).core c).attn = none := by
  by_cases hk : c = k
  · subst hk
    rw [State.modAttn, core_modCore_same, h]
    rfl
  · have hcore : (s.modAttn k f).core c = s.core c := mget_mput_other s.cores CoreS.init _ k c hk
    rw [hcore, h]

end idle

/-! ### The bank's copy and the backing table (R198) -/

theorem dev_devWrite (s : State) (a : Nat) (l : List Byte) (poison : Bool) : (s.devWrite a l poison).dev
    = if tier2Base ≤ a then (s.dev.put a l poison).lines2 a l.length else s.dev.put a l poison :=
  (State.count2_frame _ _ _ _).keeps .dev (by decide)

theorem dev_setPage (s : State) (p : Nat) (e : PageEnt) : (s.setPage p e).dev = (s.devWrite (s.pageAddr p) (toLe 16 e.word)).dev := by
  rw [State.setPage, dev_devWrite, dev_devWrite]
  rfl

theorem pages_setPage (s : State) (p : Nat) (e : PageEnt) :
    (s.setPage p e).pages = { s.pages with ledger := mput s.pages.ledger p e } :=
  (State.devWrite_frame _ _ _ _).keeps .pages (by decide)

/-- An operation on page `p` has left its entry at `e`, every other entry as it was, and with them the requests held, the slots that
failed and the attention units without a command. -/
structure EntrySet (s : State) (p : Nat) (e : PageEnt) (u : State) : Prop where
  page : u.page p = e
  others : AgreeOff [p] s.pages.ledger u.pages.ledger
  held : u.pages.held = s.pages.held
  failed : u.srv.failed = s.srv.failed
  idle : ∀ c, (s.core c).attn = none → (u.core c).attn = none

section entry
variable {s t u : State} {p : Nat} {e : PageEnt}

/-- A second entry written takes the place of the first. -/
theorem EntrySet.again (h : EntrySet s p e t) (f : PageEnt) : EntrySet s p f (t.setPage p f) := by
  have hframe := State.setPage_frame t p f
  refine ⟨?_, ?_, ?_, ?_, fun c hc => ?_⟩
  · rw [State.page, pages_setPage, mget_mput_same]
  · rw [pages_setPage]
    exact h.others.trans (.mput _ _ _)
  · rw [pages_setPage]
    exact h.held
  · rw [show (t.setPage p f).srv = t.srv from hframe.keeps .srv (by decide), h.failed]
  · rw [hframe.core_eq (by decide), h.idle c hc]

theorem entrySet_setPage (s : State) (p : Nat) (e : PageEnt) : EntrySet s p e (s.setPage p e) :=
  EntrySet.again ⟨rfl, .refl _ _, rfl, rfl, fun _ h => h⟩ e

/-- What changes neither ledger nor controller nor cores leaves the entry. -/
theorem EntrySet.frame (h : EntrySet s p e t) {P : List Part} (k : Frame P t u) (hpages : .pages ∉ P) (hsrv : .srv ∉ P)
    (hcores : .cores ∉ P) : EntrySet s p e u := by
  have hp : u.pages = t.pages := k.keeps .pages hpages
  have hs : u.srv = t.srv := k.keeps .srv hsrv
  refine ⟨?_, ?_, ?_, ?_, fun c hc => ?_⟩
  · rw [State.page, hp]
    exact h.page
  · rw [hp]
    exact h.others
  · rw [hp]
    exact h.held
  · rw [hs]
    exact h.failed
  · rw [k.core_eq hcores, h.idle c hc]

theorem EntrySet.pageOp (h : EntrySet s p e t) : EntrySet s p e (t.pageOp p) :=
  h.frame (t.pageOp_frame p) (by decide) (by decide) (by decide)

theorem EntrySet.inc (h : EntrySet s p e t) (q : Nat) (f : Fld) (n : Nat) : EntrySet s p e (t.inc q f n) :=
  h.frame (t.inc_frame q f n) (by decide) (by decide) (by decide)

/-- The engine's other lists may change. -/
theorem EntrySet.modPages (h : EntrySet s p e t) {f : PagesS → PagesS} (hledger : (f t.pages).ledger = t.pages.ledger)
    (hheld : (f t.pages).held = t.pages.held) : EntrySet s p e (t.modPages f) where
  page := by
    have hpages : (t.modPages f).pages = f t.pages := rfl
    rw [State.page, hpages, hledger]
    exact h.page
  others := show AgreeOff [p] s.pages.ledger (f t.pages).ledger from hledger ▸ h.others
  held := hheld.trans h.held
  failed := h.failed
  idle := h.idle

theorem EntrySet.modAttn (h : EntrySet s p e t) (k : Nat) (f : AttnCmd → AttnCmd) : EntrySet s p e (t.modAttn k f) where
  page := h.page
  others := h.others
  held := h.held
  failed := h.failed
  idle c hc := attn_modAttn_of_idle (h.idle c hc) k f

/-- R202: a page that becomes FREE keeps the generation alone, advanced by one. -/
theorem EntrySet.pageFree (h : EntrySet s p e t) : EntrySet s p { PageEnt.free with gen := (e.gen + 1) % 65536 } (t.pageFree p) := by
  have hset := h.again { PageEnt.free with gen := (e.gen + 1) % 65536 }
  rw [State.pageFree, h.page]
  dsimp only
  split
  · exact hset
  · exact hset.modPages rfl rfl

end entry

/-! ### Requests that end at once (R201) -/

section ends
variable {s t : State} {r : LReq}

theorem retryHeld_of_none (h : s.pages.held = []) (p : Nat) : s.retryHeld p = s := by
  rw [State.retryHeld, h]
  show { s with pages := { s.pages with held := [] } } = s
  rw [← h]

theorem settleFailed_of_none (h : s.srv.failed = []) : s.settleFailed = s := by
  rw [State.settleFailed, h]
  show { s with srv := { s.srv with failed := [] } } = s
  rw [← h]

theorem runReq_of_done (h : s.tryReq r = some t) (hheld : t.pages.held = []) : s.runReq r = t := by
  rw [State.runReq, h]
  exact retryHeld_of_none hheld _

theorem runReq_of_held (h : s.tryReq r = none) : s.runReq r = s.modPages (fun x => { x with held := x.held ++ [r] }) := by
  rw [State.runReq, h]

end ends

/-! ### What a bank answers (R201) -/

section answers
variable {s : State} {p c tenant slot : Nat} (hgate : s.pageGate p = none)
include hgate

/-- A pin that is granted: the entry is written, the operation and the pin are counted, and the unit gets frame and tier. -/
def State.grantPin (s : State) (c p : Nat) (e : PageEnt) : State :=
  (((s.setPage p e).pageOp p).inc (attnPg c) ATTN.PIN_CNT).attnGot c p p e.frame e.tier

omit hgate in
theorem entrySet_grantPin (s : State) (c p : Nat) (e : PageEnt) : EntrySet s p e (s.grantPin c p e) :=
  (((entrySet_setPage s p e).pageOp).inc _ _ _).modAttn c _

theorem tryReq_pinR_of_usable (hstate : (s.page p).state = 1 ∨ (s.page p).state = 2 ∨ (s.page p).state = 4)
    (htenant : (s.page p).tenant = tenant) (hpin : (s.page p).pin < 255) : s.tryReq (.pinR c p tenant slot)
      = some (s.grantPin c p { s.page p with pin := (s.page p).pin + 1, lastUse := s.stepUse c }) := by
  have hfree : (s.page p).state ≠ 0 := by omega
  have hwait : ¬((s.page p).state = 3 ∨ (s.page p).pin = 255) := by omega
  simp only [State.tryReq, hgate, hfree, if_false, htenant, ne_eq, not_true_eq_false, hwait]
  rfl

theorem tryReq_pinR_of_stranger (hstate : (s.page p).state ≠ 0) (htenant : (s.page p).tenant ≠ tenant) :
    s.tryReq (.pinR c p tenant slot) = some ((s.pageRefused p).attnPinFail c p slot tenant 0x7012 true) := by
  simp only [State.tryReq, hgate, hstate, if_false, ne_eq, htenant, not_false_eq_true, if_true]

theorem tryReq_pinR_of_copying (hstate : (s.page p).state = 3) (htenant : (s.page p).tenant = tenant) :
    s.tryReq (.pinR c p tenant slot) = none := by
  simp [State.tryReq, hgate, hstate, htenant]

theorem tryReq_pinW_of_active (a q f : Nat) (hstate : (s.page p).state = 1) (htenant : (s.page p).tenant = tenant)
    (hpin : (s.page p).pin < 255) : s.tryReq (.pinW c p tenant slot a q f)
      = some (s.grantPin c p { s.page p with pin := (s.page p).pin + 1, lastUse := s.stepUse c }) := by
  have hfull : (s.page p).pin ≠ 255 := by omega
  simp only [State.tryReq, hgate, hstate, htenant, hfull, Nat.reduceEqDiff, or_self, ne_eq, not_true_eq_false, false_and, if_false]
  rfl

theorem tryReq_share_of_room (hstate : (s.page p).state = 1 ∨ (s.page p).state = 2) (htenant : (s.page p).tenant = tenant)
    (href : (s.page p).ref < 0xFFFF) : s.tryReq (.share p tenant slot)
      = some ((s.setPage p { s.page p with state := 2, ref := (s.page p).ref + 1 }).pageOp p) := by
  have hcopy : (s.page p).state ≠ 3 := by omega
  have hfull : (s.page p).ref ≠ 0xFFFF := by omega
  simp only [State.tryReq, hgate, hcopy, hstate, htenant, hfull, and_self, if_true, if_false]

theorem tryReq_release_of_ref (hstate : (s.page p).state ≠ 3) (href : (s.page p).ref ≠ 0) :
    s.tryReq (.release p slot) = some (s.dropRef p) := by
  simp only [State.tryReq, hgate, hstate, href, if_false]

theorem tryReq_trim_of_active (n : Nat) (hstate : (s.page p).state = 1) : s.tryReq (.trim p n slot)
    = some ((s.setPage p { s.page p with fill := min (s.page p).fill n }).pageOp p) := by
  simp [State.tryReq, hgate, hstate]

/-- UNPIN of a pin that is not the last of a DRAINING page. -/
theorem entrySet_unpinPage (hpin : (s.page p).pin ≠ 0) (hlast : (s.page p).pin ≠ 1 ∨ (s.page p).state ≠ 4) :
    EntrySet s p { s.page p with pin := (s.page p).pin - 1 } (s.unpinPage p) := by
  have hset := (entrySet_setPage s p { s.page p with pin := (s.page p).pin - 1 }).pageOp
  simp only [State.unpinPage, hgate, hpin, if_false]
  split
  · exact hset
  · next hone =>
    have hstate : (s.page p).state ≠ 4 := hlast.resolve_left hone
    rw [if_neg hstate]
    split
    · exact hset.modPages rfl rfl
    · exact hset

/-- UNPIN of the last pin of a DRAINING page. -/
theorem unpinPage_of_draining (hpin : (s.page p).pin = 1) (hstate : (s.page p).state = 4) :
    s.unpinPage p = ((s.setPage p { s.page p with pin := (s.page p).pin - 1 }).pageOp p).pageFree p := by
  simp only [State.unpinPage, hgate, hpin, hstate, one_ne_zero, ne_eq, not_true_eq_false, if_true, if_false]

omit hgate

theorem dropRef_of_many (href : 1 < (s.page p).ref) :
    s.dropRef p = (s.setPage p { s.page p with ref := (s.page p).ref - 1 }).pageOp p := by
  have hone : (s.page p).ref ≠ 1 := by omega
  simp only [State.dropRef, ne_eq, hone, not_false_eq_true, if_true]

theorem dropRef_of_last (href : (s.page p).ref = 1) (hpin : (s.page p).pin = 0) :
    s.dropRef p = ((s.setPage p { s.page p with ref := (s.page p).ref - 1 }).pageOp p).pageFree p := by
  simp only [State.dropRef, ne_eq, href, not_true_eq_false, hpin, if_true, if_false]

end answers

end Sys2Proof.Machine
end

section
/-! PROOFS. ALLOC, pins, references and fills of the page ledger. Settles O18. -/

namespace Sys2Proof.Machine

/-! ### ALLOC (R199, R201) -/

section alloc
variable {s : State} {b tenant slot use want wantF : Nat}

/-- The entry of a page that ALLOC gives out: ACTIVE, with one reference and one pin. -/
def State.newEntry (s : State) (p tenant slot use frame tier : Nat) : PageEnt :=
  { PageEnt.free with gen := (s.page p).gen, lastUse := use, frame := frame, slot := slot, tenant := tenant, ref := 1, pin := 1,
                      tier := tier, state := 1 }

theorem alloc_of_room {k tier : Nat} (hbank : s.allocBank b = some k) (htier : s.allocTier = some tier)
    (hgate : s.pageGate (s.pickNum k want) = none) : (s.alloc b tenant slot use want wantF).1
      = (s.setPage (s.pickNum k want)
          (s.newEntry (s.pickNum k want) tenant slot use (s.pickFrame tier wantF) tier)).pageOp (s.pickNum k want) := by
  simp only [State.alloc, hbank, htier, hgate, State.newEntry]

/-- What bank `b` does where no frame is free: it counts the refusal and raises its interrupt. -/
def State.refuseAlloc (s : State) (b : Nat) : State := (s.pageRefused (b % 4)).irq (kvpPg (b % 4)) 0x5

/-- A refused ALLOC is recorded unless its slot has been released. -/
theorem alloc_of_no_frame (htier : s.allocTier = none) : (s.alloc b tenant slot use want wantF).1
    = if (s.refuseAlloc b).slotReleased slot then s.refuseAlloc b
      else (s.refuseAlloc b).emitSeq (kvpPg (b % 4)) 0x7015 0 slot tenant := by
  rw [State.alloc, htier]
  cases s.allocBank b <;> rfl

theorem allocEffect_of_idle {c : Nat} (h : (s.core c).attn = none) :
    allocEffect s c tenant slot want wantF = (s.alloc (slot % 4) tenant slot (s.stepUse c) want wantF).1 := by
  simp only [allocEffect, attnWants_of_idle h]

end alloc

/-! ### Refusals -/

theorem kvpPg_slot (b : Nat) : kvpPg b % 1024 = 0x31 := by
  unfold kvpPg diePg
  omega

theorem attnPg_ne_kvpPg (c b : Nat) : attnPg c ≠ kvpPg b := by
  have hkvp := kvpPg_slot b
  have hattn : attnPg c % 1024 ≠ 0x31 := by
    unfold attnPg coreBase diePg
    omega
  exact fun h => hattn (h ▸ hkvp)

/-- Of a bank's page an event of any page changes at most IRQ_STAT. -/
theorem rd_kvp_irq (s : State) (p i b : Nat) {f : Fld} (hf : FldFits f) (hstat : fkey (kvpPg b) f ≠ fkey p HDR.IRQ_STAT) :
    (s.irq p i).rd (kvpPg b) f = s.rd (kvpPg b) f :=
  rd_irq _ _ _ _ _ (irqFree_of_core_page hf (by rw [kvpPg_slot]; decide) hstat)

theorem fits_refusedCnt : FldFits KVP.REFUSED_CNT := .of_check (by decide)

theorem rd_pageRefused (s : State) (p : Nat) :
    (s.pageRefused p).rd (kvpPg (bankOf p)) KVP.REFUSED_CNT = (s.rd (kvpPg (bankOf p)) KVP.REFUSED_CNT + 1) % 2 ^ 64 :=
  rd_wr_same _ _ _ _

theorem rd_refuseAlloc (s : State) (b : Nat) :
    (s.refuseAlloc b).rd (kvpPg (b % 4)) KVP.REFUSED_CNT = (s.rd (kvpPg (b % 4)) KVP.REFUSED_CNT + 1) % 2 ^ 64 := by
  have hcount := rd_pageRefused s (b % 4)
  rw [bankOf, Nat.mod_mod] at hcount
  rw [State.refuseAlloc, rd_kvp_irq _ _ _ _ fits_refusedCnt (fkey_ne_of_start _ (by decide)), hcount]

theorem refuseAlloc_frame (s : State) (b : Nat) : Frame [.regs, .out] s (s.refuseAlloc b) :=
  (State.irq_frame _ _ _).after (by decide) ((s.pageRefused_frame _).after (by decide) (.refl _ s))

section messages
variable {s : State} {m : OutMsg}

theorem mem_out_sendMsix (h : m ∈ s.out) (f v : Nat) : m ∈ (s.sendMsix f v).out := by
  unfold State.sendMsix
  split
  · exact h
  · exact List.mem_append_left _ h

theorem mem_out_gather (h : m ∈ s.out) (p : Nat) (was : Bool) : m ∈ (s.gather p was).out := by
  unfold State.gather
  dsimp only
  split
  any_goals exact h
  all_goals
    split
    · exact mem_out_sendMsix (by exact h) _ _
    · exact h

/-- An interrupt takes back no message. -/
theorem mem_out_irq (h : m ∈ s.out) (p i : Nat) : m ∈ (s.irq p i).out := mem_out_gather (by exact h) _ _

end messages

section refusedPin
variable (s : State) (c page slot tenant code addr : Nat) (rec : Bool)

/-- The slot of a failed pin is reported. -/
theorem seqFail_mem_attnFail : OutMsg.seqFail c slot ∈ (s.attnFail c slot tenant code addr rec).out := by
  have hsent : ∀ t : State, OutMsg.seqFail c slot ∈ (t.send (.seqFail c slot)).out :=
    fun t => List.mem_append_right _ (List.mem_singleton_self _)
  unfold State.attnFail
  dsimp only
  split
  · exact mem_out_irq (by exact hsent _) _ _
  · split
    · exact hsent _
    · exact hsent _

/-- The unit's own counters and interrupts leave the banks' pages. -/
theorem rd_kvp_attnFail (b : Nat) {f : Fld} (hf : FldFits f) :
    (s.attnFail c slot tenant code addr rec).rd (kvpPg b) f = s.rd (kvpPg b) f := by
  have hinc : ∀ (t : State) (g : Fld), FldFits g → (t.inc (attnPg c) g).rd (kvpPg b) f = t.rd (kvpPg b) f :=
    fun t g hg => rd_wr_of_page _ _ hg hf (attnPg_ne_kvpPg c b).symm
  have hirq : ∀ (t : State) (i : Nat), (t.irq (attnPg c) i).rd (kvpPg b) f = t.rd (kvpPg b) f :=
    fun t i => rd_kvp_irq _ _ _ _ hf (fkey_ne_of_page hf (.of_check (by decide)) (attnPg_ne_kvpPg c b).symm)
  have hsent : (((s.inc (attnPg c) ATTN.SEQ_FAIL_CNT).irq (attnPg c) 1).send (.seqFail c slot)).rd (kvpPg b) f = s.rd (kvpPg b) f :=
    (hirq _ _).trans (hinc _ _ (.of_check (by decide)))
  unfold State.attnFail
  dsimp only
  split
  · rw [hirq, hinc _ _ (.of_check (by decide)), hsent]
  · split
    · exact hsent
    · exact hsent

theorem seqFail_mem_attnPinFail : OutMsg.seqFail c slot ∈ (s.attnPinFail c page slot tenant code rec).out :=
  seqFail_mem_attnFail _ _ _ _ _ _ _

theorem rd_kvp_attnPinFail (b : Nat) {f : Fld} (hf : FldFits f) :
    (s.attnPinFail c page slot tenant code rec).rd (kvpPg b) f = s.rd (kvpPg b) f := rd_kvp_attnFail _ _ _ _ _ _ _ b hf

variable {s c}

theorem attn_attnPinFail_of_idle (h : (s.core c).attn = none) : ((s.attnPinFail c page slot tenant code rec).core c).attn = none := by
  rw [State.attnPinFail, (State.attnFail_frame _ _ _ _ _ _ _).core_eq (by decide)]
  exact attn_modAttn_of_idle (attn_modAttn_of_idle h _ _) _ _

end refusedPin

/-! ### The operations of an idle engine -/

section quiet
variable {s t : State} {c p tenant slot : Nat} {e : PageEnt}

/-- A pin of an idle unit that its bank answers ends in the state the answer gives. -/
theorem pinREffect_of_done (hidle : (s.core c).attn = none) (h : s.tryReq (.pinR c p tenant slot) = some t)
    (hheld : t.pages.held = []) (hattn : (t.core c).attn = none) : pinREffect s c p tenant slot = t := by
  rw [pinREffect, attnAsk_of_idle hidle, runReq_of_done h hheld, walk_of_idle hattn]

theorem pinREffect_of_held (hidle : (s.core c).attn = none) (h : s.tryReq (.pinR c p tenant slot) = none) :
    pinREffect s c p tenant slot = s.modPages (fun x => { x with held := x.held ++ [.pinR c p tenant slot] }) := by
  rw [pinREffect, attnAsk_of_idle hidle, runReq_of_held h]
  exact walk_of_idle (s := s.modPages _) hidle

theorem pinWEffect_of_done {a q f : Nat} (hidle : (s.core c).attn = none) (h : s.tryReq (.pinW c p tenant slot a q f) = some t)
    (hheld : t.pages.held = []) (hattn : (t.core c).attn = none) : pinWEffect s c p tenant slot a q f = t := by
  rw [pinWEffect, attnWants_of_idle hidle, attnAsk_of_idle hidle]
  dsimp only
  rw [runReq_of_done h hheld, walk_of_idle hattn]

/-- A request of the controller that its bank answers, no slot having failed. -/
theorem settled_runReq {r : LReq} (h : s.tryReq r = some t) (hheld : t.pages.held = []) (hfailed : t.srv.failed = []) :
    (s.runReq r).settleFailed = t := by
  rw [runReq_of_done h hheld, settleFailed_of_none hfailed]

/-- UNPIN with nothing held. -/
theorem unpin_of_none (hheld : (s.unpinPage p).pages.held = []) : s.unpin p = s.unpinPage p := retryHeld_of_none hheld p

end quiet

/-- Settles O18: each operation is a request that its bank answers at once, and the answer writes one entry of the ledger. -/
theorem ledgerOperations : Obligations.LedgerOperations := by
  unfold Obligations.LedgerOperations
  intro s c p slot tenant hheld hfailed hidle
  -- an answer that writes the entry of `p` is where the command ends
  have hends : ∀ {i : Instr} {t u : State} {e : PageEnt}, s.lets i → exec i s = onWf s i t → EntrySet s p e u → t = u →
      Completes i s (fun u => u.page p = e ∧ AgreeOff [p] s.pages.ledger u.pages.ledger) :=
    fun {i t u e} hlets hexec hset heq => ⟨u, exec_of_effect hlets hexec heq, hset.page, hset.others⟩
  have hnone : ∀ {u : State} {e : PageEnt}, EntrySet s p e u → u.pages.held = [] ∧ u.srv.failed = [] ∧ (u.core c).attn = none :=
    fun hset => ⟨hset.held.trans hheld, hset.failed.trans hfailed, hset.idle c hidle⟩
  refine ⟨?alloc, ?noFrame, fun hgate => ⟨?pinR, ?stranger, ?copying, ?pinW, ?unpin, ?unpinDraining, ?share, ?release, ?releaseLast,
    ?trim⟩⟩
  case alloc =>
    rintro k tier want wantF hlets hbank htier rfl hgate
    have hset := entrySet_setPage s (s.pickNum k want)
      (s.newEntry (s.pickNum k want) tenant slot (s.stepUse c) (s.pickFrame tier wantF) tier)
    refine ⟨_, exec_of_effect hlets rfl ((allocEffect_of_idle hidle).trans (alloc_of_room hbank htier hgate)), hset.pageOp.page,
      hset.pageOp.others, ?_, ?_⟩
    · rw [hset.pageOp.page]
      exact dev_setPage s _ _
    · exact ((State.pageOp_frame _ _).after (by decide) (State.setPage_frame _ _ _)).keeps
  case noFrame =>
    intro want wantF hlets htier
    have hcount := rd_refuseAlloc s (slot % 4)
    rw [Nat.mod_mod] at hcount
    have hframe := refuseAlloc_frame s (slot % 4)
    refine ⟨_, exec_of_effect hlets rfl ((allocEffect_of_idle hidle).trans (alloc_of_no_frame htier)), ?_⟩
    split
    · exact ⟨hcount, hframe.keeps.mono (by decide)⟩
    · exact ⟨hcount, ((State.emitSeq_frame _ _ _ _ _ _).after (by decide) (hframe.after (by decide) (.refl _ s))).keeps⟩
  case pinR =>
    intro hlets hstate htenant hpin
    have hset := entrySet_grantPin s c p { s.page p with pin := (s.page p).pin + 1, lastUse := s.stepUse c }
    obtain ⟨hh, -, ha⟩ := hnone hset
    exact hends hlets rfl hset (pinREffect_of_done hidle (tryReq_pinR_of_usable hgate hstate htenant hpin) hh ha)
  case stranger =>
    intro hlets hstate htenant
    have hpages : ((s.pageRefused p).attnPinFail c p slot tenant 0x7012 true).pages = s.pages :=
      (State.attnPinFail_frame _ _ _ _ _ _ _).keeps .pages (by decide)
    refine ⟨_, exec_of_effect hlets rfl (pinREffect_of_done hidle (tryReq_pinR_of_stranger hgate hstate htenant)
      (hpages ▸ hheld) (attn_attnPinFail_of_idle _ _ _ _ _ hidle)), seqFail_mem_attnPinFail _ _ _ _ _ _ _, by rw [hpages], ?_⟩
    rw [rd_kvp_attnPinFail _ _ _ _ _ _ _ _ fits_refusedCnt, rd_pageRefused]
  case copying =>
    intro hlets hstate htenant
    refine ⟨_, exec_of_effect hlets rfl (pinREffect_of_held hidle (tryReq_pinR_of_copying hgate hstate htenant)), ?_,
      (State.modPages_frame s _).keeps⟩
    rw [State.modPages, hheld, List.nil_append]
  case pinW =>
    intro a q f hlets hstate htenant hpin
    have hset := entrySet_grantPin s c p { s.page p with pin := (s.page p).pin + 1, lastUse := s.stepUse c }
    obtain ⟨hh, -, ha⟩ := hnone hset
    exact hends hlets rfl hset (pinWEffect_of_done hidle (tryReq_pinW_of_active hgate a q f hstate htenant hpin) hh ha)
  case unpin =>
    intro hlets hpin hlast
    have hset := entrySet_unpinPage hgate hpin hlast
    exact hends hlets rfl hset (unpin_of_none (hnone hset).1)
  case unpinDraining =>
    intro hlets hpin hstate
    have hset := ((entrySet_setPage s p { s.page p with pin := (s.page p).pin - 1 }).pageOp).pageFree
    rw [← unpinPage_of_draining hgate hpin hstate] at hset
    exact hends hlets rfl hset (unpin_of_none (hnone hset).1)
  case share =>
    intro hlets hstate htenant href
    have hset := (entrySet_setPage s p { s.page p with state := 2, ref := (s.page p).ref + 1 }).pageOp
    obtain ⟨hh, hf, -⟩ := hnone hset
    exact hends hlets rfl hset (settled_runReq (tryReq_share_of_room hgate hstate htenant href) hh hf)
  case release =>
    intro hlets hstate href
    have hset := (entrySet_setPage s p { s.page p with ref := (s.page p).ref - 1 }).pageOp
    obtain ⟨hh, hf, -⟩ := hnone hset
    have hdone := tryReq_release_of_ref (slot := slot) hgate hstate (by omega)
    exact hends hlets rfl hset (settled_runReq (dropRef_of_many href ▸ hdone) hh hf)
  case releaseLast =>
    intro hlets hstate href hpin
    have hset := ((entrySet_setPage s p { s.page p with ref := (s.page p).ref - 1 }).pageOp).pageFree
    obtain ⟨hh, hf, -⟩ := hnone hset
    have hdone := tryReq_release_of_ref (slot := slot) hgate hstate (by omega)
    exact hends hlets rfl hset (settled_runReq (dropRef_of_last href hpin ▸ hdone) hh hf)
  case trim =>
    intro n hlets hstate
    have hset := (entrySet_setPage s p { s.page p with fill := min (s.page p).fill n }).pageOp
    obtain ⟨hh, hf, -⟩ := hnone hset
    exact hends hlets rfl hset (settled_runReq (tryReq_trim_of_active hgate n hstate) hh hf)

end Sys2Proof.Machine
end

section
/-! PROOFS. A copy between frames that hold nothing, and a page whose entry has check bits listed twice. Refutes O19. -/

namespace Sys2Proof.Machine

/-! ### Copies of blank memory (R209, R274) -/

theorem mfind_of_unlisted {α : Type} {m : FMap α} {k : Nat} (h : ∀ x ∈ m, x.1 ≠ k) : mfind m k = none := by
  induction m with
  | nil => rfl
  | cons x m ih =>
    obtain ⟨hx, hm⟩ := List.forall_mem_cons.1 h
    rw [mfind, if_neg (Ne.symm hx), ih hm]

/-- Clearing the check bits of a word that has none listed changes nothing. -/
theorem chkPut_zero_of_unlisted {m : FMap Nat} {w : Nat} (h : ∀ x ∈ m, x.1 ≠ w) : chkPut m w 0 = m := by
  induction m with
  | nil => rfl
  | cons x m ih =>
    obtain ⟨hx, hm⟩ := List.forall_mem_cons.1 h
    simp only [chkPut, if_true, if_neg (Ne.symm hx), ih hm, ite_self]

/-- The marks `m` list no word that the `n` bytes from `a` touch. -/
def MarksApart (m : FMap Nat) (a n : Nat) : Prop := ∀ x ∈ m, 8 * x.1 + 8 ≤ a ∨ a + n ≤ 8 * x.1

section blank
variable {m : FMap Nat} {a n w : Nat}

theorem MarksApart.unlisted (h : MarksApart m a n) (hlo : a < 8 * w + 8) (hhi : 8 * w < a + n) : ∀ x ∈ m, x.1 ≠ w := by
  intro x hx
  have := h x hx
  omega

theorem chkAt_of_apart (h : MarksApart m a n) (hlo : a < 8 * w + 8) (hhi : 8 * w < a + n) : Store.chkAt ⟨[], m⟩ w = 0 := by
  rw [Store.chkAt, mget, mfind_of_unlisted (h.unlisted hlo hhi)]
  rfl

theorem wordBad_of_apart (h : MarksApart m a n) (hlo : a < 8 * w + 8) (hhi : 8 * w < a + n) : Store.wordBad ⟨[], m⟩ w = false := by
  rw [Store.wordBad, Store.word, chkAt_of_apart h hlo hhi, if_pos rfl]
  rfl

theorem read_blank (h : MarksApart m a n) : Store.read ⟨[], m⟩ a n = List.replicate n 0 := by
  refine List.eq_replicate_iff.2 ⟨by simp [Store.read], fun b hb => ?_⟩
  obtain ⟨i, hi, rfl⟩ := List.mem_map.1 hb
  have hlt := List.mem_range.1 hi
  rw [Store.byte, chkAt_of_apart h (by omega) (by omega), if_pos rfl]
  rfl

theorem ofLe_zeros (n : Nat) : ofLe (List.replicate n 0) = 0 := by
  induction n with
  | zero => rfl
  | succ n ih =>
    rw [List.replicate_succ, ofLe, ih]
    rfl

theorem setByte_blank (m : FMap Nat) (a : Nat) : Store.setByte ⟨[], m⟩ a 0 = ⟨[], m⟩ := rfl

theorem putWord_blank (h : ∀ x ∈ m, x.1 ≠ w) : Store.putWord ⟨[], m⟩ w 0 false = ⟨[], m⟩ := by
  have hbyte : ∀ i, byteOf (field 0 (8 * i) 8) = 0 := fun i => by simp [field, byteOf]
  have hfold : ∀ l : List Nat, l.foldl (fun x i => Store.setByte x (8 * w + i) (byteOf (field 0 (8 * i) 8))) ⟨[], m⟩ = ⟨[], m⟩ := by
    intro l
    induction l with
    | nil => rfl
    | cons i l ih => rw [List.foldl_cons, hbyte, setByte_blank, ih]
  rw [Store.putWord, hfold, Store.setChk]
  simp only [Bool.false_eq_true, if_false, chkPut_zero_of_unlisted h]

/-- Zeros written over zeros leave a store as it is. -/
theorem write_blank (fuel : Nat) (h : MarksApart m a n) : Store.write fuel ⟨[], m⟩ a (List.replicate n 0) false = ⟨[], m⟩ := by
  induction fuel generalizing a n with
  | zero => rfl
  | succ fuel ih =>
    cases n with
    | zero => rfl
    | succ n =>
      rw [List.replicate_succ, Store.write, ← List.replicate_succ]
      split
      · next hword =>
        rw [List.length_replicate] at hword
        rw [leAt, List.drop_zero, List.take_replicate, ofLe_zeros, putWord_blank (h.unlisted (by omega) (by omega)),
          List.drop_replicate]
        refine ih fun x hx => ?_
        have := h x hx
        omega
      · have hput : Store.putByte ⟨[], m⟩ a 0 = ⟨[], m⟩ := by
          rw [Store.putByte, Store.word, chkAt_of_apart h (by omega) (by omega), if_pos rfl]
          rfl
        rw [hput]
        simp only [Bool.false_eq_true, if_false]
        refine ih fun x hx => ?_
        have := h x hx
        omega

theorem markWords_of_good (st : Store) (w : Nat) {l : List Bool} (h : ∀ b ∈ l, b = false) : st.markWords w l = st := by
  have hfold : ∀ z : List (Bool × Nat), (∀ x ∈ z, x.1 = false) →
      z.foldl (fun x e => if e.1 then x.setChk (w + e.2) 0xFF else x) st = st := by
    intro z hz
    induction z with
    | nil => rfl
    | cons x z ih =>
      obtain ⟨hx, hz⟩ := List.forall_mem_cons.1 hz
      rw [List.foldl_cons, hx, if_neg Bool.false_ne_true, ih hz]
  exact hfold _ fun x hx => h x.1 (List.fst_mem_of_mem_zipIdx hx)

theorem copyFrom_blank {da sa n64 : Nat} (hda : MarksApart m da (64 * n64)) (hsa : MarksApart m sa (64 * n64)) (hal : sa % 8 = 0) :
    Store.copyFrom ⟨[], m⟩ ⟨[], m⟩ da sa n64 = ⟨[], m⟩ := by
  rw [Store.copyFrom, read_blank hsa, Store.put, List.length_replicate, write_blank _ hda]
  refine markWords_of_good _ _ fun b hb => ?_
  obtain ⟨i, hi, rfl⟩ := List.mem_map.1 hb
  have hlt := List.mem_range.1 hi
  exact wordBad_of_apart hsa (by omega) (by omega)

theorem touch_of_apart {s : State} (hm : MarksApart s.dev.chk a n) (ha : a < tier1End) : s.touch a n = s := by
  unfold State.touch
  split
  · rfl
  · rw [if_neg (by omega)]
    have hnil : s.dev.chk.filter (fun e => decide (a / 8 ≤ e.1) && decide (e.1 ≤ (a + n - 1) / 8)) = [] := by
      refine List.filter_eq_nil_iff.2 fun x hx => ?_
      have := hm x hx
      simp only [Bool.and_eq_true, decide_eq_true_eq]
      omega
    rw [hnil]
    rfl

/-- A copy within tier 1 that meets neither bytes nor marks leaves the state as it is. -/
theorem devCopy_blank {s : State} {da sa n64 : Nat} (hbytes : s.dev.bytes = []) (hda : MarksApart s.dev.chk da (64 * n64))
    (hsa : MarksApart s.dev.chk sa (64 * n64)) (hal : sa % 8 = 0) (hdst : da < tier2Base) (hsrc : sa < tier1End)
    (hports : s.power.cxlDown = []) : s.devCopy da sa n64 = s := by
  have hdev : s.dev = ⟨[], s.dev.chk⟩ := by rw [← hbytes]
  have hcopy : s.dev.copyFrom s.dev da sa n64 = s.dev := by
    rw [hdev]
    exact copyFrom_blank hda hsa hal
  rw [State.devCopy, touch_of_apart hsa hsrc]
  simp only [State.lostIn, hports, List.isEmpty_nil, Bool.not_true, Bool.false_and, Bool.false_eq_true, if_false, hcopy,
    Nat.not_le.2 hdst]
  rw [State.count2, if_pos (.inr hdst)]

end blank

/-! ### The end of a copy-on-write whose page's entry is marked twice -/

/-- Steps 4 to 7 of a copy-on-write of R209, `q` being the entry of the new page. -/
def State.endCow (s : State) (b : Nat) (x : Cow) (q : PageEnt) : State :=
  let s := s.devWrite x.listAddr (toLe 4 x.q)
  let s := (s.inc (kvpPg b) KVP.COW_CNT).inc (attnPg x.c) ATTN.PIN_CNT
  let s := s.attnGot x.c x.page x.q q.frame q.tier
  ((s.runReq (.release x.page x.slot)).unpin x.page).settleFailed.walk x.c

/-- The state once the oldest copy of bank `b` has left the list. -/
def State.dropCow (s : State) (b : Nat) : State := s.modPages (fun y => { y with cows := eraseFirst (fun z => z.bank == b) y.cows })

theorem cowDoneEffect_of_some {s : State} {b : Nat} {x : Cow} (h : s.pages.cows.find? (fun y => y.bank == b) = some x) :
    cowDoneEffect s b = ((s.dropCow b).devCopy (s.frameAddr (s.page x.q).tier (s.page x.q).frame)
      (s.frameAddr (s.page x.page).tier (s.page x.page).frame) 1024).endCow b x (s.page x.q) := by
  rw [cowDoneEffect, h]
  rfl

/-- Bank 1 is in service with its table at address 0. Page 5 is FROZEN with two references and two pins, and its copy to page 9 is
done. The check bits of word 10, the first half of the entry of page 5, are listed twice, which no operation of the model does: as a
correctable error, then as stored poison. -/
def markedTwice : State :=
  { State.reset.wr (kvpPg 1) KVP.CTRL_ENABLE 1 with
    pages := { State.reset.pages with
      ledger := [(5, { PageEnt.free with state := 2, ref := 2, pin := 2, frame := 3 }),
        (9, { PageEnt.free with state := 1, ref := 1, pin := 1, frame := 4 })]
      cows := [⟨1, 5, 9, 0, 12, 4096⟩] }
    dev := ⟨[], [(10, 1), (10, 0xFF)]⟩ }

theorem lets_markedTwice : markedTwice.lets (.cowCopyDone 1) := lets_of_check (by decide)

/-- The release rewrites the entry, which clears the mark that is listed first; the unpin then meets the second and is refused. -/
theorem pin_endCow_markedTwice : (((markedTwice.dropCow 1).endCow 1 ⟨1, 5, 9, 0, 12, 4096⟩ (markedTwice.page 9)).page 5).pin = 2 := by
  decide

theorem pin_cowDoneEffect_markedTwice : ((cowDoneEffect markedTwice 1).page 5).pin = 2 := by
  have hmarks : ∀ a n, 88 ≤ a → MarksApart (markedTwice.dropCow 1).dev.chk a n := by
    intro a n ha x hx
    have hword : x.1 = 10 := by
      revert x
      decide
    omega
  rw [cowDoneEffect_of_some (x := ⟨1, 5, 9, 0, 12, 4096⟩) (by decide),
    devCopy_blank rfl (hmarks _ _ (by decide)) (hmarks _ _ (by decide)) (by decide) (by decide) (by decide) rfl]
  exact pin_endCow_markedTwice

/-- Refutes O19: the statement ranges over every state, and in one whose memory lists the check bits of a word twice the end of a
copy-on-write gives the writer's reference back but not its pin. -/
theorem not_pagesMoveAndBanksServe : ¬ Obligations.PagesMoveAndBanksServe := by
  unfold Obligations.PagesMoveAndBanksServe
  rintro ⟨hmoves, -⟩
  obtain ⟨-, -, -, -, hcow, -⟩ := hmoves markedTwice 0 0 (by decide) (by decide)
  obtain ⟨u, hexec, -, hpin, -⟩ := hcow 1 ⟨1, 5, 9, 0, 12, 4096⟩ lets_markedTwice (by decide) (by decide) (by decide) (by decide)
    (by decide) (by decide) (by decide) (by decide) (by decide) (by decide)
  obtain rfl := Host.Outcome.next.inj ((onWf_of_lets lets_markedTwice (cowDoneEffect markedTwice 1)).symm.trans hexec)
  rw [pin_cowDoneEffect_markedTwice] at hpin
  exact absurd hpin (by decide)

end Sys2Proof.Machine
end

section
/-! PROOFS. Which fields an operation leaves, wherever their page lies; what a result ring's operations leave. -/

namespace Sys2Proof.Machine

/-! ### Fields that begin where none of a list does (R406, R409) -/

/-- From `s` to `u` a field stands unless it begins at the bit of its page at which one of `l` begins. -/
def FieldsKept (l : List Fld) (s u : State) : Prop :=
  ∀ q g, FldFits g → (∀ f ∈ l, fldStart g ≠ fldStart f) → u.rd q g = s.rd q g

theorem fkey_ne_of_fits {p q : Nat} {f g : Fld} (hf : FldFits f) (hg : FldFits g) (h : fldStart g ≠ fldStart f) :
    fkey q g ≠ fkey p f := by
  obtain ⟨hfw, hfp, -⟩ := hf
  obtain ⟨hgw, hgp, -⟩ := hg
  rw [fkey_eq, fkey_eq]
  omega

section keep
variable {l m : List Fld} {s t u : State}

theorem FieldsKept.refl (l : List Fld) (s : State) : FieldsKept l s s := fun _ _ _ _ => rfl

theorem FieldsKept.trans (h : FieldsKept l s t) (k : FieldsKept l t u) : FieldsKept l s u :=
  fun q g hg hl => (k q g hg hl).trans (h q g hg hl)

theorem FieldsKept.mono (h : FieldsKept l s t) (hl : ∀ f ∈ l, f ∈ m) : FieldsKept m s t :=
  fun q g hg hm => h q g hg fun f hf => hm f (hl f hf)

theorem FieldsKept.frame (h : FieldsKept l s t) {P : List Part} (k : Frame P t u) (hr : .regs ∉ P) : FieldsKept l s u :=
  fun q g hg hl => (k.rd_eq hr q g).trans (h q g hg hl)

theorem FieldsKept.of_regs (h : FieldsKept l s t) (hr : u.regs = t.regs) : FieldsKept l s u :=
  fun q g hg hl => (show u.rd q g = t.rd q g by rw [State.rd, hr, State.rd]).trans (h q g hg hl)

theorem FieldsKept.wr (h : FieldsKept l s t) (p : Nat) {f : Fld} (v : Nat) (hf : FldFits f) (hl : f ∈ l) :
    FieldsKept l s (t.wr p f v) :=
  fun q g hg hg' => (rd_wr_other _ _ _ _ _ _ (fkey_ne_of_fits hf hg (hg' f hl))).trans (h q g hg hg')

theorem FieldsKept.ite {c : Prop} [Decidable c] (h : FieldsKept l s t) (k : FieldsKept l s u) :
    FieldsKept l s (if c then t else u) := by
  split
  · exact h
  · exact k

theorem FieldsKept.foldl {α : Type} {f : State → α → State} (hf : ∀ t a, FieldsKept l t (f t a)) (as : List α)
    (s : State) : FieldsKept l s (as.foldl f s) := by
  induction as generalizing s with
  | nil => exact .refl l s
  | cons a as ih => exact (hf s a).trans (ih _)

end keep

/-! ### Result rings (R235 to R238) -/

section ring
variable (s : State) (f : Nat)

/-- What writing a record moves: the ring's tail and the count of tokens. -/
def ringFields : List Fld := [FNW.RES_TAIL_TAIL, SRV.TOKEN_CNT]

/-- A record enters the ring: host memory, the device's copy and the tail. -/
def State.pushRec (r : Nat × Nat) : State :=
  let hi := r.2 + toBit ((s.fnx f).lap % 2 == 0) * 2 ^ 63
  ((s.hostWrite srvPg (s.rdA (fnPg f) FNW.RES_BASE_BASE + 16 * s.resTail f) (toLe 8 r.1 ++ toLe 8 hi) false).modFnx f (fun x => { x with
    copy := mput x.copy (s.resTail f) (r.1, hi), lap := if s.resTail f + 1 = s.ringSize f then x.lap + 1 else x.lap })).wr (fnPg f)
    FNW.RES_TAIL_TAIL ((s.resTail f + 1) % s.ringSize f)

/-- A record of kind 0 is a token, and counted. -/
def State.countRec (r : Nat × Nat) : State := if field r.2 16 4 = 0 then s.inc srvPg SRV.TOKEN_CNT else s

theorem putRec_eq (r : Nat × Nat) : s.putRec f r
    = if field r.2 16 4 = 2 ∧ f ≠ 0 then ((s.pushRec f r).countRec r).sendMsix f 1 else (s.pushRec f r).countRec r := rfl

theorem fieldsKept_putRec (r : Nat × Nat) : FieldsKept ringFields s (s.putRec f r) := by
  have hpush : FieldsKept ringFields s (s.pushRec f r) :=
    FieldsKept.wr ((FieldsKept.refl _ s).of_regs rfl) _ _ (.of_check (by decide)) (by decide)
  have hcount : FieldsKept ringFields s ((s.pushRec f r).countRec r) := .ite (hpush.wr _ _ (.of_check (by decide)) (by decide)) hpush
  rw [putRec_eq]
  exact .ite (hcount.frame (State.sendMsix_frame ..) (by decide)) hcount

theorem fieldsKept_writeRec (r : Nat × Nat) : FieldsKept ringFields s (s.writeRec f r) :=
  .ite (fieldsKept_putRec s f r) ((FieldsKept.refl _ s).of_regs rfl)

theorem fieldsKept_flushRecN (n : Nat) : FieldsKept ringFields s (State.flushRecN n s f) := by
  induction n generalizing s with
  | zero => exact .refl _ s
  | succ n ih =>
    unfold State.flushRecN
    dsimp only
    split
    · exact .refl _ s
    · next r l _ =>
      have hdrop := (FieldsKept.refl ringFields s).frame (s.modFnx_frame f (fun x => { x with waiting := l })) (by decide)
      exact .ite ((hdrop.trans (fieldsKept_putRec _ f r)).trans (ih _)) (.refl _ s)

theorem fieldsKept_flushRec : FieldsKept ringFields s (s.flushRec f) := fieldsKept_flushRecN s f _

theorem flushRec_of_none {s : State} {f : Nat} (h : (s.fnx f).waiting = []) : s.flushRec f = s := by
  rw [State.flushRec, h]
  rfl

theorem resHead_flushRec : (s.flushRec f).resHead f = s.resHead f := by
  rw [State.resHead, State.resHead]
  exact fieldsKept_flushRec s f _ _ (.of_check (by decide)) (by decide)

end ring

end Sys2Proof.Machine
end

section
/-! PROOFS. Result rings, the sequence view and step summaries. Settles O24. -/

namespace Sys2Proof.Machine

/-! ### Reading and enabling a ring (R236 to R238) -/

section ring
variable {s : State} {f t v : Nat}

/-- The device's own copy of the record at the head. -/
def State.headRec (s : State) (f : Nat) : Nat × Nat := mget (s.fnx f).copy (0, 0) (s.resHead f)

/-- The record at the head has been read. -/
def State.popRec (s : State) (f : Nat) : State :=
  (s.wr (fnPg f) FNW.RES_POP_HI (s.headRec f).1).wr (fnPg f) FNW.RES_HEAD_HEAD ((s.resHead f + 1) % s.ringSize f)

theorem resPopEffect_of_empty (hf : s.fnTenant f = some t) (h : s.resHead f = s.resTail f) :
    resPopEffect s f = s.send (.readValue 0xF0000) := by
  simp [resPopEffect, hf, h, emptyRec]

theorem resPopEffect_of_record (hf : s.fnTenant f = some t) (h : s.resHead f ≠ s.resTail f) :
    resPopEffect s f = ((s.popRec f).flushRec f).send (.readValue (s.headRec f).2) := by
  simp only [resPopEffect, hf, h, Option.isNone_some, Bool.false_eq_true, if_false]
  rfl

theorem rd_popRec_hi : ((s.popRec f).flushRec f).rd (fnPg f) FNW.RES_POP_HI = (s.headRec f).1 % 2 ^ 64 := by
  rw [fieldsKept_flushRec (s.popRec f) f _ _ (.of_check (by decide)) (by decide), State.popRec, rd_wr_of_start _ _ (by decide), rd_wr_same]
  rfl

theorem resHead_popRec : ((s.popRec f).flushRec f).resHead f = (s.resHead f + 1) % s.ringSize f % 2 ^ 16 := by
  rw [resHead_flushRec]
  exact rd_wr_same _ _ _ _

theorem resPeekEffect_of_mapped (hf : s.fnTenant f = some t) : resPeekEffect s f
    = (s.wr (fnPg f) FNW.RES_PEEK_HI (s.headRec f).1).send (.readValue (putBit (s.headRec f).2 62 (s.resHead f != s.resTail f))) := by
  simp only [resPeekEffect, hf, Option.isNone_some, Bool.false_eq_true, if_false]
  rfl

theorem resHeadEffect_of_written (hf : s.fnTenant f = some t) (hv : v < s.ringSize f)
    (hused : (v + s.ringSize f - s.resHead f) % s.ringSize f ≤ s.resUsed f) :
    resHeadEffect s f v = (s.wr (fnPg f) FNW.RES_HEAD_HEAD v).flushRec f := by
  simp [resHeadEffect, hf, hv, hused]

theorem resHeadEffect_of_beyond (hf : s.fnTenant f = some t) (hv : s.ringSize f ≤ v) (hne : v ≠ s.resHead f) :
    resHeadEffect s f v = (s.refuse srvPg).emit srvPg 0x8022 0 := by
  simp [resHeadEffect, hf, Nat.not_lt.2 hv, hne]

/-- The result ring starts at entry 0 of lap 0, with the options of the write. -/
def State.startResRing (s : State) (f v : Nat) : State :=
  ((((((s.wrB (fnPg f) FNW.RES_CFG_SPLIT (bit v 62)).wrB (fnPg f) FNW.RES_CFG_IRQ_EN (bit v 61)).wr (fnPg f) FNW.RES_CFG_ENTRIES
    (field v 0 17)).wr (fnPg f) FNW.RES_CFG_ENABLE 1).wr (fnPg f) FNW.RES_HEAD_HEAD 0).wr (fnPg f) FNW.RES_TAIL_TAIL 0).modFnx f
    (fun x => { x with copy := [], lap := 0 })

/-- The request ring starts at entry 0. -/
def State.startReqRing (s : State) (f v : Nat) : State :=
  ((s.wr (fnPg f) FNW.REQ_CFG_ENTRIES (field v 0 13)).wr (fnPg f) FNW.REQ_CFG_ENABLE 1).wr (fnPg f) FNW.REQ_HEAD_HEAD 0

theorem fnx_startResRing : (s.startResRing f v).fnx f = { s.fnx f with copy := [], lap := 0 } := mget_mput_same _ _ _ _

theorem ringEnableEffect_res (hv : bit v 63 = true) (hn : isPow2 (field v 0 17) 256 65536 = true)
    (hoff : s.rdB (fnPg f) FNW.RES_CFG_ENABLE = false) (hwait : (s.fnx f).waiting = []) :
    ringEnableEffect s f true v = s.startResRing f v := by
  have hstart : ringEnableEffect s f true v = (s.startResRing f v).flushRec f := by
    simp only [ringEnableEffect, if_true, hoff, hv, Bool.false_eq_true, false_and, if_false]
    rw [if_neg (by simpa [FNW.RES_CFG_ENTRIES] using hn)]
    rfl
  rw [hstart, flushRec_of_none (by rw [fnx_startResRing]; exact hwait)]

theorem ringEnableEffect_req (hv : bit v 63 = true) (hn : isPow2 (field v 0 13) 64 4096 = true)
    (hoff : s.rdB (fnPg f) FNW.REQ_CFG_ENABLE = false) (hres : s.rdB (fnPg f) FNW.RES_CFG_ENABLE = true) :
    ringEnableEffect s f false v = s.startReqRing f v := by
  simp only [ringEnableEffect, hoff, hv, Bool.false_eq_true, false_and, if_false, if_true]
  rw [if_neg (by simpa [FNW.REQ_CFG_ENTRIES, hres] using hn)]
  rfl

theorem startResRing_frame : Frame [.regs, .srv] s (s.startResRing f v) :=
  (State.modFnx_frame ..).after (by decide) ((State.wr_frame ..).after (by decide) ((State.wr_frame ..).after (by decide)
    ((State.wr_frame ..).after (by decide) ((State.wr_frame ..).after (by decide) ((State.wrB_frame ..).after (by decide)
      ((State.wrB_frame ..).after (by decide) (.refl _ s)))))))

theorem startReqRing_frame : Frame [.regs] s (s.startReqRing f v) :=
  (State.wr_frame ..).after (by decide) ((State.wr_frame ..).after (by decide) ((State.wr_frame ..).after (by decide) (.refl _ s)))

theorem regs_startResRing : (s.startResRing f v).rd (fnPg f) FNW.RES_CFG_ENABLE = 1
    ∧ (s.startResRing f v).ringSize f = field v 0 17 ∧ (s.startResRing f v).resHead f = 0 ∧ (s.startResRing f v).resTail f = 0
    ∧ (s.startResRing f v).rd (fnPg f) FNW.RES_CFG_IRQ_EN = toBit (bit v 61) := by
  have hregs (q : Nat) (g : Fld) : (s.startResRing f v).rd q g = ((((((s.wrB (fnPg f) FNW.RES_CFG_SPLIT (bit v 62)).wrB (fnPg f)
      FNW.RES_CFG_IRQ_EN (bit v 61)).wr (fnPg f) FNW.RES_CFG_ENTRIES (field v 0 17)).wr (fnPg f) FNW.RES_CFG_ENABLE 1).wr (fnPg f)
      FNW.RES_HEAD_HEAD 0).wr (fnPg f) FNW.RES_TAIL_TAIL 0).rd q g := rfl
  refine ⟨?_, ?_, ?_, ?_, ?_⟩
  · rw [hregs, rd_wr_of_start _ _ (by decide), rd_wr_of_start _ _ (by decide), rd_wr_same]
    rfl
  · rw [State.ringSize, hregs, rd_wr_of_start _ _ (by decide), rd_wr_of_start _ _ (by decide), rd_wr_of_start _ _ (by decide), rd_wr_same]
    exact Nat.mod_mod _ _
  · rw [State.resHead, hregs, rd_wr_of_start _ _ (by decide), rd_wr_same]
    rfl
  · rw [State.resTail, hregs, rd_wr_same]
    rfl
  · rw [hregs, rd_wr_of_start _ _ (by decide), rd_wr_of_start _ _ (by decide), rd_wr_of_start _ _ (by decide),
      rd_wr_of_start _ _ (by decide), State.wrB, rd_wr_same]
    exact Nat.mod_eq_of_lt (toBit_lt _ (by decide))

theorem pagesKept_startResRing : PagesKept [fnPg f] s (s.startResRing f v) := by
  have hp := List.mem_singleton_self (fnPg f)
  refine .of_regs rfl (.wr_page _ (.of_check (by decide)) hp (.wr_page _ (.of_check (by decide)) hp
    (.wr_page _ (.of_check (by decide)) hp (.wr_page _ (.of_check (by decide)) hp (.wr_page _ (.of_check (by decide)) hp
      (.wr_page _ (.of_check (by decide)) hp (.refl _ s)))))))

theorem regs_startReqRing : (s.startReqRing f v).rd (fnPg f) FNW.REQ_CFG_ENABLE = 1
    ∧ (s.startReqRing f v).rd (fnPg f) FNW.REQ_CFG_ENTRIES = field v 0 13
    ∧ (s.startReqRing f v).rd (fnPg f) FNW.REQ_HEAD_HEAD = 0 := by
  rw [State.startReqRing]
  refine ⟨?_, ?_, rd_wr_same _ _ _ _⟩
  · rw [rd_wr_of_start _ _ (by decide), rd_wr_same]
    rfl
  · rw [rd_wr_of_start _ _ (by decide), rd_wr_of_start _ _ (by decide), rd_wr_same]
    exact Nat.mod_mod _ _

theorem pagesKept_startReqRing : PagesKept [fnPg f] s (s.startReqRing f v) := by
  have hp := List.mem_singleton_self (fnPg f)
  exact .wr_page _ (.of_check (by decide)) hp (.wr_page _ (.of_check (by decide)) hp
    (.wr_page _ (.of_check (by decide)) hp (.refl _ s)))

end ring

/-! ### The sequence view (R242) -/

/-- The 32 registers of SEQ_VIEW. -/
def viewFields : List Fld := (List.range 32).map SRV.SEQ_VIEW

theorem viewFields_apart : viewFields.Pairwise fun f g => fldStart f ≠ fldStart g := by decide

theorem viewFields_fit {f : Fld} (hf : f ∈ viewFields) : FldFits f :=
  fieldsOf_fit (b := .srv) ((by decide : ∀ f ∈ viewFields, f ∈ fieldsOf .srv) f hf)

/-- What a view register shows of a sequence's bytes. -/
def viewWord (l : List Byte) (f : Fld) : Nat := leAt l (f.off - 0x100) 4

theorem leAt_lt (l : List Byte) (i n : Nat) : leAt l i n < 256 ^ n :=
  (ofLe_lt _).trans_le (Nat.pow_le_pow_right (by decide) (List.length_take_le n _))

section view
variable (s : State) (v : Nat)

theorem viewWord_seqView (l : List Byte) (i : Nat) : viewWord l (SRV.SEQ_VIEW i) = leAt l (4 * i) 4 := by
  rw [viewWord, SRV.SEQ_VIEW, Nat.add_sub_cancel_left]

theorem seqSelEffect_eq : seqSelEffect s v = viewFields.foldl (fun u f => u.wr srvPg f (viewWord (s.seq (v % 4096)).bytes f))
    (s.wr srvPg SRV.SEQ_SEL_SLOT (v % 4096)) := by
  rw [viewFields, List.foldl_map]
  simp only [viewWord_seqView]
  rfl

theorem slot_seqSelEffect : (seqSelEffect s v).rd srvPg SRV.SEQ_SEL_SLOT = v % 4096 := by
  rw [seqSelEffect_eq, rd_foldl_wr_other _ _ (by decide), rd_wr_same]
  exact Nat.mod_mod _ _

theorem view_seqSelEffect {i : Nat} (hi : i < 32) :
    (seqSelEffect s v).rd srvPg (SRV.SEQ_VIEW i) = leAt (s.seq (v % 4096)).bytes (4 * i) 4 := by
  rw [seqSelEffect_eq, rd_foldl_wr_mem _ _ viewFields_apart (List.mem_map_of_mem (List.mem_range.2 hi)), viewWord_seqView]
  exact Nat.mod_eq_of_lt (leAt_lt _ _ 4)

theorem pagesKept_seqSelEffect : PagesKept [srvPg] s (seqSelEffect s v) := by
  rw [seqSelEffect_eq]
  exact .foldl_wr _ (fun f hf => viewFields_fit hf) (.wr_page _ (.of_check (by decide)) (List.mem_singleton_self _) (.refl _ s))

end view

/-! ### Step summaries (R156, R239) -/

section sums
variable {s : State} {c n : Nat} {v : StepSum}

theorem step_sumRec (h : s.srv.sums.any (fun x => x.step == n) = true) : (s.sumRec n).step = n := by
  obtain ⟨x, hx⟩ := Option.isSome_iff_exists.1 ((List.find?_isSome.2 (List.any_eq_true.1 h)))
  rw [State.sumRec, hx]
  simpa using List.find?_some hx

/-- The core's sum has been taken from it. -/
def State.takeSum (s : State) (c n : Nat) : State := s.modCore c (fun x => { x with sumOut := mdel x.sumOut n })

/-- The record of step `n` with the sum of core `c` added. -/
def State.addSum (s : State) (c n : Nat) (v : StepSum) : SumRec :=
  { s.sumRec n with sum := (s.sumRec n).sum.plus v, cores := (s.sumRec n).cores ++ [c] }

theorem sumCores_takeSum : (s.takeSum c n).sumCores = s.sumCores := by
  refine List.filter_congr fun k _ => ?_
  by_cases hk : k = c
  · rw [hk, State.takeSum, core_modCore_same]
  · rw [State.takeSum, State.modCore, State.setCore, State.core, mget_mput_other _ _ _ _ _ hk, ← State.core]

theorem stepSumEffect_eq (hv : mfind (s.core c).sumOut n = some v) (hn : s.srv.sums.any (fun x => x.step == n) = true) :
    stepSumEffect s c n = if s.sumCores.all (fun k => (s.addSum c n v).cores.contains k)
      then ((s.takeSum c n).dropSum n).writeSummary ((s.addSum c n v).sum.bytes n false) else (s.takeSum c n).putSum (s.addSum c n v) := by
  have hn' : (s.takeSum c n).srv.sums.any (fun x => x.step == n) = true := hn
  rw [← sumCores_takeSum (c := c) (n := n)]
  simp only [stepSumEffect, hv]
  rw [← State.takeSum, hn']
  rfl

theorem stepSumEffect_of_waiting (hv : mfind (s.core c).sumOut n = some v) (hn : s.srv.sums.any (fun x => x.step == n) = true)
    (hwait : ∃ k ∈ s.sumCores, k ≠ c ∧ k ∉ (s.sumRec n).cores) : stepSumEffect s c n = (s.takeSum c n).putSum (s.addSum c n v) := by
  obtain ⟨k, hk, hne, hout⟩ := hwait
  rw [stepSumEffect_eq hv hn, if_neg]
  intro hall
  simpa [State.addSum, hne, hout] using List.all_eq_true.1 hall k hk

theorem stepSumEffect_of_last (hv : mfind (s.core c).sumOut n = some v) (hn : s.srv.sums.any (fun x => x.step == n) = true)
    (hall : ∀ k ∈ s.sumCores, k = c ∨ k ∈ (s.sumRec n).cores) :
    stepSumEffect s c n = ((s.takeSum c n).dropSum n).writeSummary (((s.sumRec n).sum.plus v).bytes n false) := by
  rw [stepSumEffect_eq hv hn, if_pos]
  · rfl
  · refine List.all_eq_true.2 fun k hk => ?_
    simpa [State.addSum, or_comm] using hall k hk

theorem summaryTimeoutEffect_of_formed (hn : s.srv.sums.any (fun x => x.step == n) = true) :
    summaryTimeoutEffect s n = (s.dropSum n).writeSummary ((s.sumRec n).sum.bytes n true) := if_pos hn

theorem dropSum_step_ne : ∀ x ∈ (s.dropSum n).srv.sums, x.step ≠ n := by
  intro x hx
  simpa using (List.mem_filter.1 hx).2

/-- The summary ring is on and has room. -/
structure SumRoom (s : State) : Prop where
  on : s.rdB srvPg SRV.SUM_CFG_ENABLE = true
  room : (s.rd srvPg SRV.SUM_TAIL_TAIL + 1) % s.rd srvPg SRV.SUM_CFG_ENTRIES
    ≠ s.rd srvPg SRV.SUM_HEAD_HEAD % s.rd srvPg SRV.SUM_CFG_ENTRIES

/-- A summary written where there is room: host memory and the tail, and nothing of the controller's tables. -/
theorem writeSummary_of_room (h : SumRoom s) (l : List Byte) : (s.writeSummary l).srv = s.srv
    ∧ (s.writeSummary l).host = s.host.put (s.rdA srvPg SRV.SUM_BASE_BASE + 64 * s.rd srvPg SRV.SUM_TAIL_TAIL) l
    ∧ (s.writeSummary l).rd srvPg SRV.SUM_TAIL_TAIL
      = (s.rd srvPg SRV.SUM_TAIL_TAIL + 1) % s.rd srvPg SRV.SUM_CFG_ENTRIES % 2 ^ 16 := by
  have hwritten : s.writeSummary l = ((s.hostWrite srvPg (s.rdA srvPg SRV.SUM_BASE_BASE + 64 * s.rd srvPg SRV.SUM_TAIL_TAIL) l
      false).wr srvPg SRV.SUM_TAIL_TAIL ((s.rd srvPg SRV.SUM_TAIL_TAIL + 1) % s.rd srvPg SRV.SUM_CFG_ENTRIES)).sendMsix 0 2 := by
    simp only [State.writeSummary, h.on, Bool.not_true, Bool.false_eq_true, if_false]
    exact if_neg h.room
  rw [hwritten]
  refine ⟨sendMsix_srv _ _ _, sendMsix_host _ _ _, ?_⟩
  rw [rd_sendMsix, rd_wr_same]
  rfl

end sums

/-- Settles O24, an effect at a time. -/
theorem resultRingsAndViews : Obligations.ResultRingsAndViews := by
  unfold Obligations.ResultRingsAndViews
  intro s f t
  refine ⟨fun hf => ⟨fun hlets hne => ?_, fun hlets he => ?_, fun hlets => ?_, fun v hlets hv hused => ?_, fun v hlets hv hne => ?_⟩,
    fun v hlets hv hn hoff hwait => ?_, fun v hlets hv hn hoff hres => ?_, fun v hlets => ?_, fun c n v hlets hv hn hwait => ?_,
    fun hon _ hroom n hn => ⟨fun c v hlets hv hall => ?_, fun hlets => ?_⟩⟩
  · refine ⟨_, exec_of_effect hlets rfl (resPopEffect_of_record hf hne), ?_, rd_popRec_hi, resHead_popRec⟩
    exact List.mem_append_right _ (List.mem_singleton_self _)
  · exact exec_of_effect hlets rfl (resPopEffect_of_empty hf he)
  · refine ⟨_, exec_of_effect hlets rfl (resPeekEffect_of_mapped hf), rfl, rd_wr_same _ _ _ _, ?_, ?_, ?_⟩
    · exact rd_wr_of_start _ _ (by decide)
    · exact .of_regs rfl (.wr_page _ (.of_check (by decide)) (List.mem_singleton_self _) (.refl _ s))
    · exact ((State.send_frame ..).after (by decide) ((State.wr_frame ..).after (by decide) (.refl _ s))).keeps
  · refine ⟨_, exec_of_effect hlets rfl (resHeadEffect_of_written hf hv hused), ?_⟩
    dsimp only
    rw [resHead_flushRec]
    exact rd_wr_same _ _ _ _
  · have hkept : PagesKept [srvPg] s ((s.refuse srvPg).emit srvPg 0x8022 0) :=
      .of_regs rfl (.refuse (List.mem_singleton_self _) (.refl _ s))
    refine ⟨_, exec_of_effect hlets rfl (resHeadEffect_of_beyond hf hv hne), ?_, rd_wr_same _ _ _ _, hkept, ?_⟩
    · exact hkept.rd_eq (.of_check (by decide)) (by simp [fnPg, srvPg]; omega)
    · exact ((State.emit_frame ..).after (by decide) ((State.refuse_frame ..).after (by decide) (.refl _ s))).keeps
  · obtain ⟨hen, hsize, hhead, htail, hirq⟩ := regs_startResRing (s := s) (f := f) (v := v)
    exact ⟨_, exec_of_effect hlets rfl (ringEnableEffect_res hv hn hoff hwait), hen, hsize, hhead, htail,
      congrArg FnX.copy fnx_startResRing, hirq, pagesKept_startResRing, startResRing_frame.keeps⟩
  · obtain ⟨hen, hsize, hhead⟩ := regs_startReqRing (s := s) (f := f) (v := v)
    exact ⟨_, exec_of_effect hlets rfl (ringEnableEffect_req hv hn hoff hres), hen, hsize, hhead, pagesKept_startReqRing,
      startReqRing_frame.keeps⟩
  · exact ⟨_, onWf_of_lets hlets _, slot_seqSelEffect s v, fun i hi => view_seqSelEffect s v hi, pagesKept_seqSelEffect s v,
      (seqSelEffect_frame s v).keeps⟩
  · refine ⟨_, exec_of_effect hlets rfl (stepSumEffect_of_waiting hv hn hwait), ⟨s.addSum c n v, ?_, step_sumRec hn, rfl, rfl⟩, ?_, ?_⟩
    · exact List.mem_append_right _ (List.mem_singleton_self _)
    · show ((s.takeSum c n).core c).sumOut = _
      rw [State.takeSum, core_modCore_same]
    · exact ((State.putSum_frame ..).after (by decide) ((State.modCore_frame ..).after (by decide) (.refl _ s))).keeps
  · obtain ⟨hsrv, hhost, htail⟩ := writeSummary_of_room (s := (s.takeSum c n).dropSum n) ⟨hon, hroom⟩ (((s.sumRec n).sum.plus v).bytes n false)
    refine ⟨_, exec_of_effect hlets rfl (stepSumEffect_of_last hv hn hall), ?_, hhost, htail⟩
    rw [hsrv]
    exact dropSum_step_ne
  · obtain ⟨hsrv, hhost, htail⟩ := writeSummary_of_room (s := s.dropSum n) ⟨hon, hroom⟩ ((s.sumRec n).sum.bytes n true)
    refine ⟨_, exec_of_effect hlets rfl (summaryTimeoutEffect_of_formed hn), ?_, hhost, htail⟩
    rw [hsrv]
    exact dropSum_step_ne

end Sys2Proof.Machine
end

section
/-! PROOFS. What the page engine leaves of the serving controller's tables, of the registers and of the messages sent. -/

namespace Sys2Proof.Machine

/-! ### Events (R406, R413) -/

/-- What an event moves: IRQ_STAT of its page, and the summaries of its die and of die 16. -/
def irqFields : List Fld := HDR.IRQ_STAT :: DIE.IRQ_DIES :: (List.range 32).map DIE.IRQ_PAGES

theorem irqPages_fit {i : Nat} (hi : i < 32) : FldFits (DIE.IRQ_PAGES i) := .mk (by decide) (by omega) (by decide)

theorem fieldsKept_irq (s : State) (p i : Nat) : FieldsKept irqFields s (s.irq p i) := by
  intro q g hg hl
  refine rd_irq s p i q g ⟨?_, fun j hj => ?_, ?_⟩
  · exact fkey_ne_of_fits (.of_check (by decide)) hg (hl _ (by simp [irqFields]))
  · exact fkey_ne_of_fits (irqPages_fit hj) hg (hl _ (by simp only [irqFields, List.mem_cons, List.mem_map, List.mem_range]; exact .inr (.inr ⟨j, hj, rfl⟩)))
  · exact fkey_ne_of_fits (.of_check (by decide)) hg (hl _ (by simp [irqFields]))

/-! ### The page engine's work (R198 to R211) -/

/-- The fields that the operations on pages move. -/
def pageFields : List Fld :=
  [KVP.OP_CNT, KVP.REFUSED_CNT, KVP.DRAIN_CNT, KVP.THAW_CNT, ATTN.PIN_CNT, ATTN.SEQ_FAIL_CNT, ATTN.DROP_CNT, CXL.WR_BYTES] ++ irqFields

/-- From `s` to `u` the page engine has worked: of the controller's tables only the slots that failed change, of the registers only
`pageFields`, and no message is taken back. -/
structure PageWork (s u : State) : Prop where
  srv : u.srv = { s.srv with failed := u.srv.failed }
  fields : FieldsKept pageFields s u
  out : ∀ m ∈ s.out, m ∈ u.out

section work
variable {s t u : State}

theorem PageWork.refl (s : State) : PageWork s s := ⟨rfl, .refl _ s, fun _ h => h⟩

theorem PageWork.trans (h : PageWork s t) (k : PageWork t u) : PageWork s u :=
  ⟨by rw [k.srv, h.srv], h.fields.trans k.fields, fun m hm => k.out m (h.out m hm)⟩

theorem PageWork.frame (h : PageWork s t) {P : List Part} (k : Frame P t u) (hr : .regs ∉ P) (hs : .srv ∉ P) (ho : .out ∉ P) :
    PageWork s u := by
  have hsrv : u.srv = t.srv := k.keeps .srv hs
  have hout : u.out = t.out := congrArg Prod.fst (k.keeps .out ho)
  exact ⟨by rw [hsrv]; exact h.srv, h.fields.frame k hr, fun m hm => hout ▸ h.out m hm⟩

theorem PageWork.wr (h : PageWork s t) (p : Nat) {f : Fld} (v : Nat) (hf : FldFits f) (hl : f ∈ pageFields) :
    PageWork s (t.wr p f v) := ⟨h.srv, h.fields.wr p v hf hl, h.out⟩

theorem PageWork.inc (h : PageWork s t) (p : Nat) {f : Fld} (n : Nat) (hf : FldFits f) (hl : f ∈ pageFields) :
    PageWork s (t.inc p f n) := h.wr p _ hf hl

theorem PageWork.send (h : PageWork s t) (m : OutMsg) : PageWork s (t.send m) :=
  ⟨h.srv, h.fields.of_regs rfl, fun k hk => List.mem_append_left _ (h.out k hk)⟩

theorem PageWork.irq (h : PageWork s t) (p i : Nat) : PageWork s (t.irq p i) where
  srv := by rw [irq_srv]; exact h.srv
  fields := h.fields.trans ((fieldsKept_irq t p i).mono fun _ hf => List.mem_append_right _ hf)
  out := fun m hm => mem_out_irq (h.out m hm) p i

theorem PageWork.failSlot (h : PageWork s t) (slot : Nat) : PageWork s (t.failSlot slot) :=
  ⟨by rw [State.failSlot, h.srv], h.fields.of_regs rfl, h.out⟩

theorem PageWork.ite {c : Prop} [Decidable c] (h : PageWork s t) (k : PageWork s u) : PageWork s (if c then t else u) := by
  split
  · exact h
  · exact k

theorem PageWork.foldl {α : Type} {f : State → α → State} (hf : ∀ t a, PageWork t (f t a)) (as : List α) (h : PageWork s t) :
    PageWork s (as.foldl f t) := by
  induction as generalizing t with
  | nil => exact h
  | cons a as ih => exact ih (h.trans (hf t a))

theorem PageWork.devWrite (h : PageWork s t) (a : Nat) (l : List Byte) (poison : Bool) : PageWork s (t.devWrite a l poison) := by
  have hstore (d : Store) : PageWork s { t with dev := d } := ⟨h.srv, h.fields.of_regs rfl, h.out⟩
  refine .ite (hstore _) (.foldl (fun u i => ?_) _ (hstore _))
  exact (PageWork.refl u).wr _ _ (.of_check (by decide)) (by decide)

theorem PageWork.setPage (h : PageWork s t) (p : Nat) (e : PageEnt) : PageWork s (t.setPage p e) :=
  (h.frame (State.modPages_frame ..) (by decide) (by decide) (by decide)).devWrite _ _ _

theorem PageWork.pageOp (h : PageWork s t) (p : Nat) : PageWork s (t.pageOp p) := h.wr _ _ (.of_check (by decide)) (by decide)

theorem PageWork.pageRefused (h : PageWork s t) (p : Nat) : PageWork s (t.pageRefused p) := h.wr _ _ (.of_check (by decide)) (by decide)

theorem PageWork.modPages (h : PageWork s t) (f : PagesS → PagesS) : PageWork s (t.modPages f) :=
  h.frame (State.modPages_frame ..) (by decide) (by decide) (by decide)

theorem PageWork.emitSeq (h : PageWork s t) (p code addr slot tenant : Nat) : PageWork s (t.emitSeq p code addr slot tenant) :=
  h.frame (State.emitSeq_frame ..) (by decide) (by decide) (by decide)

theorem PageWork.modAttn (h : PageWork s t) (c : Nat) (f : AttnCmd → AttnCmd) : PageWork s (t.modAttn c f) :=
  h.frame (State.modAttn_frame ..) (by decide) (by decide) (by decide)

theorem PageWork.gateRefuse (h : PageWork s t) (p slot tenant code : Nat) : PageWork s (t.gateRefuse p slot tenant code) :=
  .ite ((((h.pageRefused p).emitSeq _ _ _ _ _).irq _ _).modPages _) (h.pageRefused p)

theorem PageWork.attnFail (h : PageWork s t) (c slot tenant code addr : Nat) (rec : Bool) :
    PageWork s (t.attnFail c slot tenant code addr rec) := by
  have hsent := ((h.inc (attnPg c) (f := ATTN.SEQ_FAIL_CNT) 1 (.of_check (by decide)) (by decide)).irq (attnPg c) 1).send (.seqFail c slot)
  refine .ite ((hsent.wr _ _ (.of_check (by decide)) (by decide)).irq _ _) (.ite ?_ hsent)
  exact hsent.emitSeq _ _ _ _ _

theorem PageWork.attnPinFail (h : PageWork s t) (c page slot tenant code : Nat) (rec : Bool) :
    PageWork s (t.attnPinFail c page slot tenant code rec) := ((h.modAttn c _).modAttn c _).attnFail _ _ _ _ _ _

theorem PageWork.srvGate (h : PageWork s t) (p slot code : Nat) : PageWork s (t.srvGate p slot code) :=
  .ite (((h.gateRefuse _ _ _ _).failSlot _).emitSeq _ _ _ _ _) ((h.gateRefuse _ _ _ _).failSlot _)

theorem PageWork.pageFree (h : PageWork s t) (p : Nat) : PageWork s (t.pageFree p) :=
  .ite (h.setPage p _) ((h.setPage p _).modPages _)

theorem PageWork.unpinPage (h : PageWork s t) (p : Nat) : PageWork s (t.unpinPage p) := by
  unfold State.unpinPage
  split
  · exact h.pageRefused p
  · have hset := (h.setPage p { t.page p with pin := (t.page p).pin - 1 }).pageOp p
    exact .ite h (.ite hset (.ite (hset.pageFree p) (.ite (hset.modPages _) hset)))

theorem PageWork.dropRef (h : PageWork s t) (p : Nat) : PageWork s (t.dropRef p) := by
  have hset := (h.setPage p { t.page p with ref := (t.page p).ref - 1 }).pageOp p
  exact .ite hset (.ite (hset.pageFree p) ((hset.setPage p _).wr _ _ (.of_check (by decide)) (by decide)))

theorem PageWork.alloc (h : PageWork s t) (b tenant slot use wantP wantF : Nat) :
    PageWork s (t.alloc b tenant slot use wantP wantF).1 := by
  unfold State.alloc
  split
  · dsimp only
    split
    · exact h.gateRefuse _ _ _ _
    · exact (h.setPage _ _).pageOp _
  · exact .ite ((h.pageRefused _).irq _ _) (((h.pageRefused _).irq _ _).emitSeq _ _ _ _ _)

theorem PageWork.startCow (h : PageWork s t) (c page tenant slot listAddr q qframe : Nat) :
    PageWork s (t.startCow c page tenant slot listAddr q qframe) := by
  have hpin := (h.setPage page { t.page page with pin := (t.page page).pin + 1 }).alloc (bankOf page) tenant slot
    ((t.setPage page { t.page page with pin := (t.page page).pin + 1 }).stepUse c) q qframe
  unfold State.startCow
  dsimp only
  split
  · next u r heq =>
    rw [heq] at hpin
    exact hpin.modPages _
  · next u code heq =>
    rw [heq] at hpin
    exact (hpin.unpinPage page).attnPinFail _ _ _ _ _ _

/-- A pin that is granted. -/
theorem PageWork.grant (h : PageWork s t) (c page : Nat) (e : PageEnt) (q frame tier : Nat) :
    PageWork s ((((t.setPage page e).pageOp page).inc (attnPg c) ATTN.PIN_CNT).attnGot c page q frame tier) :=
  (((h.setPage page e).pageOp page).wr _ _ (.of_check (by decide)) (by decide)).modAttn c _

end work

/-- A request that is carried out. -/
theorem pageWork_tryReq {s u : State} {r : LReq} (h : s.tryReq r = some u) : PageWork s u := by
  have hs := PageWork.refl s
  have hpin (c page slot tenant code : Nat) := (hs.pageRefused page).attnPinFail c page slot tenant code true
  cases r with
  | pinR c page tenant slot =>
    simp only [State.tryReq] at h
    split at h
    · cases h; exact (hs.gateRefuse _ _ _ _).attnPinFail _ _ _ _ _ _
    split at h
    · cases h; exact hpin ..
    split at h
    · cases h; exact hpin ..
    split at h
    · cases h
    · cases h; exact hs.grant _ _ _ _ _ _
  | pinW c page tenant slot listAddr q qframe =>
    simp only [State.tryReq] at h
    split at h
    · cases h; exact (hs.gateRefuse _ _ _ _).attnPinFail _ _ _ _ _ _
    split at h
    · cases h; exact hpin ..
    split at h
    · cases h; exact hpin ..
    split at h
    · cases h
    split at h
    · cases h; exact hs.startCow _ _ _ _ _ _ _
    · cases h
      exact PageWork.grant (.ite (hs.inc _ _ (.of_check (by decide)) (by decide)) hs) _ _ _ _ _ _
  | share page tenant slot =>
    simp only [State.tryReq] at h
    split at h
    · cases h; exact hs.srvGate _ _ _
    split at h
    · cases h
    split at h
    · split at h
      · cases h; exact ((hs.pageRefused _).emitSeq _ _ _ _ _).irq _ _
      · cases h; exact (hs.setPage _ _).pageOp _
    · cases h; exact hs.pageRefused _
  | release page slot =>
    simp only [State.tryReq] at h
    split at h
    · cases h; exact hs.srvGate _ _ _
    split at h
    · cases h
    split at h
    · cases h; exact (((hs.pageRefused _).emitSeq _ _ _ _ _).irq _ _).failSlot _
    · cases h; exact hs.dropRef _
  | trim page n slot =>
    simp only [State.tryReq] at h
    split at h
    · cases h; exact hs.srvGate _ _ _
    split at h
    · cases h
    split at h
    · cases h; exact (hs.setPage _ _).pageOp _
    · cases h; exact hs

section requests
variable (s : State)

theorem pageWork_retryHeld (p : Nat) : PageWork s (s.retryHeld p) := by
  refine .foldl (fun t r => ?_) _ ((PageWork.refl s).modPages _)
  have hheld := (PageWork.refl t).modPages (fun x => { x with held := x.held ++ [r] })
  refine .ite ?_ hheld
  split
  · next u hu => exact pageWork_tryReq hu
  · exact hheld

theorem pageWork_runReq (r : LReq) : PageWork s (s.runReq r) := by
  unfold State.runReq
  split
  · next u hu => exact (pageWork_tryReq hu).trans (pageWork_retryHeld u _)
  · exact (PageWork.refl s).modPages _

theorem pageWork_releaseSeq (slot : Nat) : PageWork s (s.releaseSeq slot) :=
  .foldl (fun t _ => pageWork_runReq t _) _ (.refl s)

end requests

end Sys2Proof.Machine
end

section
/-! PROOFS. Records in a result ring and the ends of sequences: what they leave of the controller's tables, registers and messages. -/

namespace Sys2Proof.Machine

/-! ### The serving controller's work -/

/-- The controller's record without the sequences, the functions' rings and the slots that failed. -/
def SrvS.rest (x : SrvS) : SrvS := { x with seqs := [], fns := [], failed := [] }

/-- The fields that records and ends of sequences move. -/
def endFields : List Fld := [TEN.ACTIVE_SEQ, TEN.PAGES_HELD, SRV.STAT_LIVE] ++ ringFields ++ pageFields

/-- From `s` to `u` records were written and sequences ended: the steps, models and requests of the controller stand, of the
registers only `endFields` move, and no message is taken back. -/
structure ServWork (s u : State) : Prop where
  rest : u.srv.rest = s.srv.rest
  fields : FieldsKept endFields s u
  out : ∀ m ∈ s.out, m ∈ u.out

section work
variable {s t u : State}

theorem ServWork.refl (s : State) : ServWork s s := ⟨rfl, .refl _ s, fun _ h => h⟩

theorem ServWork.trans (h : ServWork s t) (k : ServWork t u) : ServWork s u :=
  ⟨k.rest.trans h.rest, h.fields.trans k.fields, fun m hm => k.out m (h.out m hm)⟩

theorem PageWork.servWork (h : PageWork s t) : ServWork s t where
  rest := by
    rw [h.srv]
    rfl
  fields := h.fields.mono fun _ hf => List.mem_append_right _ hf
  out := h.out

theorem ServWork.frame (h : ServWork s t) {P : List Part} (k : Frame P t u) (hr : .regs ∉ P) (hs : .srv ∉ P) (ho : .out ∉ P) :
    ServWork s u := h.trans ((PageWork.refl t).frame k hr hs ho).servWork

theorem ServWork.wr (h : ServWork s t) (p : Nat) {f : Fld} (v : Nat) (hf : FldFits f) (hl : f ∈ endFields) :
    ServWork s (t.wr p f v) := ⟨h.rest, h.fields.wr p v hf hl, h.out⟩

theorem ServWork.irq (h : ServWork s t) (p i : Nat) : ServWork s (t.irq p i) := h.trans ((PageWork.refl t).irq p i).servWork

theorem ServWork.modSrv (h : ServWork s t) {f : SrvS → SrvS} (hf : (f t.srv).rest = t.srv.rest) : ServWork s (t.modSrv f) :=
  ⟨hf.trans h.rest, h.fields.of_regs rfl, h.out⟩

theorem ServWork.setSeq (h : ServWork s t) (k : Nat) (q : Seq) : ServWork s (t.setSeq k q) := h.modSrv rfl

theorem ServWork.ite {c : Prop} [Decidable c] (h : ServWork s t) (k : ServWork s u) : ServWork s (if c then t else u) := by
  split
  · exact h
  · exact k

theorem ServWork.foldl {α : Type} {f : State → α → State} (hf : ∀ t a, ServWork t (f t a)) (as : List α) (h : ServWork s t) :
    ServWork s (as.foldl f t) := by
  induction as generalizing t with
  | nil => exact h
  | cons a as ih => exact ih (h.trans (hf t a))

theorem ServWork.steps_eq (h : ServWork s t) : t.srv.steps = s.srv.steps := (congrArg SrvS.steps h.rest :)

theorem ServWork.held_eq (h : ServWork s t) : t.srv.held = s.srv.held := (congrArg SrvS.held h.rest :)

theorem ServWork.mdlState_eq (h : ServWork s t) (m : Nat) : t.mdlState m = s.mdlState m :=
  h.fields _ _ (.of_check (by decide)) (by decide)

end work

/-! ### Records (R235, R237) -/

section record
variable (s : State) (f : Nat) (r : Nat × Nat)

/-- A record written, or waiting, changes the function's ring alone. -/
theorem srv_writeRec : ∃ fns, (s.writeRec f r).srv = { s.srv with fns := fns } := by
  have hpush : ∃ fns, ((s.pushRec f r).countRec r).srv = { s.srv with fns := fns } := by
    rw [show ((s.pushRec f r).countRec r).srv = (s.pushRec f r).srv from (Frame.ite (State.inc_frame ..) (.refl [.regs] _)).keeps .srv (by decide)]
    exact ⟨_, rfl⟩
  unfold State.writeRec
  split
  · rw [putRec_eq]
    split
    · rw [sendMsix_srv]
      exact hpush
    · exact hpush
  · exact ⟨_, rfl⟩

theorem out_pushRec (t : State) : ((t.pushRec f r).countRec r).out = t.out := by
  unfold State.countRec
  split <;> rfl

theorem servWork_writeRec : ServWork s (s.writeRec f r) where
  rest := by
    obtain ⟨fns, h⟩ := srv_writeRec s f r
    rw [h]
    rfl
  fields := (fieldsKept_writeRec s f r).mono (by decide)
  out m hm := by
    have hpush : m ∈ ((s.pushRec f r).countRec r).out := (out_pushRec f r s).symm ▸ hm
    unfold State.writeRec
    split
    · rw [putRec_eq]
      split
      · exact mem_out_sendMsix hpush _ _
      · exact hpush
    · exact hm

end record

/-! ### The end of a sequence (R220, R222, R235) -/

/-- The sequence once it has ended. -/
def Seq.ended (q : Seq) (code : Nat) (steps : List Nat) : Seq := { q with state := 7, endCode := code, endedIn := steps }

section ends
variable (s : State) {k : Nat} (code flags : Nat)

theorem endSeq_of_dead (h : (s.seq k).live = false) : s.endSeq k code flags = s := by simp [State.endSeq, h]

/-- The sequence's entry, its tenant's and the controller's figures, before its pages are released. -/
def State.markEnded (k : Nat) : State :=
  let p := tenPg (s.seq k).tenant
  let t := s.setSeq k ((s.seq k).ended code s.stepsInFlight)
  let t := (t.wr p TEN.ACTIVE_SEQ (t.rd p TEN.ACTIVE_SEQ - 1)).wr p TEN.PAGES_HELD (t.rd p TEN.PAGES_HELD - (s.seq k).pages)
  t.wr srvPg SRV.STAT_LIVE (t.rd srvPg SRV.STAT_LIVE - 1)

theorem servWork_markEnded : ServWork s (s.markEnded code k) :=
  ((((ServWork.refl s).setSeq k _).wr _ _ (.of_check (by decide)) (by decide)).wr _ _ (.of_check (by decide)) (by decide)).wr _ _
    (.of_check (by decide)) (by decide)

theorem endSeq_of_live (h : (s.seq k).live = true) : s.endSeq k code flags
    = ((s.markEnded code k).releaseSeq k).writeRec (s.seq k).fn (record 0 (s.seq k).pos k 3 flags 0 code) := by
  simp only [State.endSeq, h, Bool.not_true, Bool.false_eq_true, if_false]
  rfl

/-- Of the controller's tables the end of a sequence changes its entry, the functions' rings and the slots that failed. -/
theorem srv_endSeq (h : (s.seq k).live = true) : ∃ fns failed, (s.endSeq k code flags).srv
    = { s.srv with seqs := mput s.srv.seqs k ((s.seq k).ended code s.stepsInFlight), fns := fns, failed := failed } := by
  rw [endSeq_of_live s code flags h]
  obtain ⟨fns, hrec⟩ := srv_writeRec ((s.markEnded code k).releaseSeq k) (s.seq k).fn (record 0 (s.seq k).pos k 3 flags 0 code)
  rw [hrec, (pageWork_releaseSeq (s.markEnded code k) k).srv]
  exact ⟨_, _, rfl⟩

theorem servWork_endSeq (k : Nat) : ServWork s (s.endSeq k code flags) := by
  cases h : (s.seq k).live with
  | false =>
    rw [endSeq_of_dead s code flags h]
    exact .refl s
  | true =>
    rw [endSeq_of_live s code flags h]
    exact ((servWork_markEnded s code).trans (pageWork_releaseSeq _ k).servWork).trans (servWork_writeRec _ _ _)

theorem seq_endSeq (h : (s.seq k).live = true) : (s.endSeq k code flags).seq k = (s.seq k).ended code s.stepsInFlight := by
  obtain ⟨fns, failed, hsrv⟩ := srv_endSeq s code flags h
  rw [State.seq, hsrv, mget_mput_same]

theorem agreeOff_endSeq (k : Nat) : AgreeOff [k] s.srv.seqs (s.endSeq k code flags).srv.seqs := by
  cases h : (s.seq k).live with
  | false =>
    rw [endSeq_of_dead s code flags h]
    exact .refl _ _
  | true =>
    obtain ⟨fns, failed, hsrv⟩ := srv_endSeq s code flags h
    rw [hsrv]
    exact .mput _ _ _

theorem AgreeOff.seq_eq {ks : List Nat} {s u : State} (h : AgreeOff ks s.srv.seqs u.srv.seqs) {j : Nat} (hj : j ∉ ks) :
    u.seq j = s.seq j := by
  rw [State.seq, State.seq, mget, mget, h j hj]

/-- An entry that is not live stands. -/
theorem seq_endSeq_of_dead {j : Nat} (h : (s.seq j).live = false) (k : Nat) : (s.endSeq k code flags).seq j = s.seq j := by
  by_cases hj : j = k
  · subst hj
    rw [endSeq_of_dead s code flags h]
  · exact (agreeOff_endSeq s code flags k).seq_eq (by simpa using hj)

theorem seq_foldl_endSeq_of_dead {j : Nat} (h : (s.seq j).live = false) (l : List Nat) :
    (l.foldl (fun s k => s.endSeq k code flags) s).seq j = s.seq j := by
  induction l generalizing s with
  | nil => rfl
  | cons k l ih =>
    have hk := seq_endSeq_of_dead s code flags h k
    rw [List.foldl_cons, ih _ (by rw [hk, h]), hk]

/-- Of a list of sequences each live one ends. -/
theorem ended_foldl_endSeq {j : Nat} {l : List Nat} (hj : j ∈ l) (h : (s.seq j).live = true) :
    ((l.foldl (fun s k => s.endSeq k code flags) s).seq j).state = 7
      ∧ ((l.foldl (fun s k => s.endSeq k code flags) s).seq j).endCode = code := by
  induction l generalizing s with
  | nil => cases hj
  | cons k l ih =>
    rw [List.foldl_cons]
    by_cases hk : j = k
    · subst hk
      have hended := seq_endSeq s code flags h
      rw [seq_foldl_endSeq_of_dead _ code flags (by rw [hended]; rfl), hended]
      exact ⟨rfl, rfl⟩
    · have hkept := (agreeOff_endSeq s code flags k).seq_eq (j := j) (by simpa using hk)
      exact ih _ ((List.mem_cons.1 hj).resolve_left hk) (by rw [hkept, h])

theorem servWork_foldl_endSeq (l : List Nat) : ServWork s (l.foldl (fun s k => s.endSeq k code flags) s) :=
  .foldl (fun t k => servWork_endSeq t code flags k) l (.refl s)

end ends

end Sys2Proof.Machine
end

section
/-! PROOFS. Model swaps, their ends, and UNLOAD. Settles O23. -/

namespace Sys2Proof.Machine

/-! ### Sequences changed one after another -/

section modSeq
variable {f : Seq → Seq}

theorem seq_modSeq (s : State) (k j : Nat) : (s.modSeq k f).seq j = if j = k then f (s.seq k) else s.seq j := by
  split
  · next h => rw [h, State.modSeq, State.setSeq, State.modSrv, State.seq, mget_mput_same]
  · next h => exact mget_mput_other _ _ _ _ _ h

/-- A change that a second does not add to, made to every sequence of a list. -/
theorem seq_foldl_modSeq (hf : ∀ q, f (f q) = f q) (l : List Nat) (s : State) (j : Nat) :
    (l.foldl (fun s k => s.modSeq k f) s).seq j = if j ∈ l then f (s.seq j) else s.seq j := by
  induction l generalizing s with
  | nil => rfl
  | cons k l ih =>
    rw [List.foldl_cons, ih, seq_modSeq]
    by_cases hk : j = k
    · subst hk
      simp [hf]
    · simp [hk]

theorem servWork_foldl_modSeq (l : List Nat) (s : State) : ServWork s (l.foldl (fun s k => s.modSeq k f) s) :=
  .foldl (fun t _ => (ServWork.refl t).setSeq _ _) l (.refl s)

end modSeq

/-! ### Requests held at a barrier (R241) -/

/-- No request is held. -/
def State.noneHeld (s : State) : State := (s.modSrv (fun x => { x with held := [] })).wr srvPg SRV.STAT_HELD 0

theorem takeHeld_of_none {s : State} (h : s.srv.held = []) (p : HeldReq → Bool) (g : State → HeldReq → State) :
    s.takeHeld p g = s.noneHeld := by
  rw [State.takeHeld, h]
  rfl

theorem mdl_noneHeld (s : State) (m : Nat) {f : Fld} (hf : FldFits f) : s.noneHeld.rd (mdlPg m) f = s.rd (mdlPg m) f :=
  rd_wr_of_page _ _ (.of_check (by decide)) hf (by simp [mdlPg, srvPg]; omega)

/-! ### A swap begins and drains (R241) -/

section swap
variable {s t : State} {m : Nat}

/-- A swap has closed the model. -/
def State.closeModel (s : State) (m : Nat) : State := (s.wr (mdlPg m) MDL.STATE 3).modMdl m (fun x => { x with drained := false })

theorem modelSwapEffect_of_ready (h : s.mdlState m = 2) : modelSwapEffect s m = (s.closeModel m).drainModel m := if_pos h

theorem mdlState_closeModel : (s.closeModel m).mdlState m = 3 := rd_wr_same _ _ _ _

theorem mdl_modMdl (f : MdlX → MdlX) : (s.modMdl m f).mdl m = f (s.mdl m) := mget_mput_same _ _ _ _

theorem drained_closeModel : ((s.closeModel m).mdl m).drained = false := by rw [State.closeModel, mdl_modMdl]

theorem closeModel_frame : Frame [.regs, .srv] s (s.closeModel m) :=
  (State.modMdl_frame ..).after (by decide) ((State.wr_frame ..).after (by decide) (.refl _ s))

theorem drainModel_of_steps (h : s.srv.steps.any (fun x => x.model == m) = true) : s.drainModel m = s := by
  simp [State.drainModel, h]

/-- A sequence that runs is paused. -/
def Seq.pause (q : Seq) : Seq := if q.state = 1 ∨ q.state = 2 then { q with state := 6 } else q

theorem Seq.pause_pause (q : Seq) : q.pause.pause = q.pause := by
  unfold Seq.pause
  split
  · rfl
  · rfl

/-- What draining does to the model's sequences: paused where they continue in the next generation, ended where they do not. -/
def State.drainSeqs (s : State) (m : Nat) : State :=
  if s.rd (mdlPg m) MDL.SWAP_MODE = 1 then (s.liveOf m).foldl (fun s k => s.modSeq k Seq.pause) s
  else (s.liveOf m).foldl (fun s k => s.endSeq k 0x07 0) s

theorem servWork_drainSeqs (s : State) (m : Nat) : ServWork s (s.drainSeqs m) :=
  .ite (servWork_foldl_modSeq _ s) (servWork_foldl_endSeq s _ _ _)

theorem drainModel_of_idle (hstate : s.mdlState m = 3) (hdrained : (s.mdl m).drained = false)
    (hsteps : s.srv.steps.any (fun x => x.model == m) = false) :
    s.drainModel m = ((s.drainSeqs m).modMdl m (fun x => { x with drained := true })).startJobs := by
  simp only [State.drainModel, hstate, hdrained, hsteps, ne_eq, not_true_eq_false, Bool.false_eq_true, or_self, if_false, State.drainSeqs]
  by_cases hmode : s.rd (mdlPg m) MDL.SWAP_MODE = 1
  · simp only [hmode, beq_self_eq_true, if_true]
    rfl
  · simp only [beq_eq_false_iff_ne.2 hmode, hmode, Bool.false_eq_true, if_false]

theorem startJobs_of_none (h : s.ingest.jobs = []) : s.startJobs = s.showJobs := by rw [State.startJobs, h, List.foldl_nil]

/-- With no job to start, draining ends with the model marked. -/
theorem drainModel_of_no_job (hstate : s.mdlState m = 3) (hdrained : (s.mdl m).drained = false)
    (hsteps : s.srv.steps.any (fun x => x.model == m) = false) (hjobs : s.ingest.jobs = []) :
    (s.drainModel m).mdlState m = 3 ∧ ((s.drainModel m).mdl m).drained = true
      ∧ (s.drainModel m).srv.seqs = (s.drainSeqs m).srv.seqs := by
  have hingest : (s.drainSeqs m).ingest = s.ingest := by
    have hframe : Frame [.regs, .cores, .dies, .dev, .host, .pages, .srv, .out] s (s.drainSeqs m) :=
      .ite (.foldl (fun t k => (t.modSeq_frame k Seq.pause).after (by decide) (.refl _ t)) _ (.refl _ s))
        (.foldl (fun t k => t.endSeq_frame k 0x07 0) _ (.refl _ s))
    exact hframe.keeps .ingest (by decide)
  rw [drainModel_of_idle hstate hdrained hsteps, startJobs_of_none (by rw [← hjobs, ← hingest]; rfl)]
  refine ⟨?_, ?_, rfl⟩
  · have hstate' := (servWork_drainSeqs s m).mdlState_eq m
    rw [hstate] at hstate'
    have hmdl (v : Nat) : mdlPg v ≠ ingPg := by simp [mdlPg, ingPg, diePg]; omega
    rw [State.mdlState, State.showJobs, rd_wr_of_page _ _ (.of_check (by decide)) (.of_check (by decide)) (hmdl m),
      rd_wr_of_page _ _ (.of_check (by decide)) (.of_check (by decide)) (hmdl m)]
    exact hstate'
  · show (((s.drainSeqs m).modMdl m (fun x => { x with drained := true })).mdl m).drained = true
    rw [mdl_modMdl]

theorem seqs_drainSeqs_of_continue (hmode : s.rd (mdlPg m) MDL.SWAP_MODE = 1) {k : Nat} (hk : k ∈ s.liveOf m)
    (h : (s.seq k).state = 1 ∨ (s.seq k).state = 2) : ((s.drainSeqs m).seq k).state = 6 := by
  rw [State.drainSeqs, if_pos hmode, seq_foldl_modSeq Seq.pause_pause, if_pos hk, Seq.pause, if_pos h]

theorem seqs_drainSeqs_of_end (hmode : s.rd (mdlPg m) MDL.SWAP_MODE = 0) {k : Nat} (hk : k ∈ s.liveOf m)
    (h : (s.seq k).live = true) : ((s.drainSeqs m).seq k).state = 7 ∧ ((s.drainSeqs m).seq k).endCode = 7 := by
  rw [State.drainSeqs, if_neg (by omega)]
  exact ended_foldl_endSeq s _ _ hk h

end swap

/-! ### A swap's end, and UNLOAD (R242, R258) -/

section finish
variable (s : State) (m : Nat)

/-- A sequence goes on in the model's next generation. -/
def Seq.renew (q : Seq) : Seq := { q with newgen := true, state := if q.state = 6 then q.active else q.state }

theorem Seq.active_ne_paused (q : Seq) : q.active ≠ 6 := by
  unfold Seq.active
  split <;> decide

theorem Seq.renew_renew (q : Seq) : q.renew.renew = q.renew := by
  by_cases h : q.state = 6
  · simp [Seq.renew, h, q.active_ne_paused]
  · simp [Seq.renew, h]

/-- The end of a swap is noted, with an event. -/
def State.noteSwapEnd : State := (s.modMdl m (fun x => { x with drained := false })).irq srvPg 2

/-- The model is READY in its next generation. -/
def State.openNext : State := ((s.noteSwapEnd m).wr (mdlPg m) MDL.STATE 2).inc (mdlPg m) MDL.GEN

theorem srv_noteSwapEnd : (s.noteSwapEnd m).srv = (s.modMdl m (fun x => { x with drained := false })).srv := irq_srv _ _ _

theorem srv_seqs_noteSwapEnd : (s.noteSwapEnd m).srv.seqs = s.srv.seqs := by
  rw [srv_noteSwapEnd]
  rfl

theorem srv_seqs_openNext : (s.openNext m).srv.seqs = s.srv.seqs := srv_seqs_noteSwapEnd s m

theorem srv_held_noteSwapEnd : (s.noteSwapEnd m).srv.held = s.srv.held := by
  rw [srv_noteSwapEnd]
  rfl

theorem liveOf_congr {s u : State} (h : u.srv.seqs = s.srv.seqs) (m : Nat) : u.liveOf m = s.liveOf m := by
  simp only [State.liveOf, State.liveSlots, State.seq, h]

theorem swapCompleteEffect_done (hstate : s.mdlState m = 3) (hheld : s.srv.held = []) : swapCompleteEffect s m true
    = ((s.liveOf m).foldl (fun s k => s.modSeq k Seq.renew) (s.openNext m)).noneHeld := by
  rw [swapCompleteEffect, if_pos hstate, ← liveOf_congr (srv_seqs_openNext s m)]
  refine takeHeld_of_none ?_ _ _
  exact (servWork_foldl_modSeq _ _).held_eq.trans ((srv_held_noteSwapEnd s m).trans hheld)

theorem swapCompleteEffect_failed (hstate : s.mdlState m = 3) (hheld : s.srv.held = []) :
    swapCompleteEffect s m false = ((s.noteSwapEnd m).emptyModel m 0x06).noneHeld := by
  rw [swapCompleteEffect, if_pos hstate]
  refine takeHeld_of_none ?_ _ _
  exact (servWork_foldl_endSeq _ _ _ _).held_eq.trans ((srv_held_noteSwapEnd s m).trans hheld)

theorem modelUnloadEffect_of_no_job (hjob : s.ingest.jobs.any (fun j => j.model == m && j.op != 3) = false)
    (hheld : s.srv.held = []) : modelUnloadEffect s m = (s.emptyModel m 0x07).noneHeld := by
  simp only [modelUnloadEffect, hjob, Bool.false_eq_true, if_false]
  refine takeHeld_of_none ?_ _ _
  exact (servWork_foldl_endSeq _ _ _ _).held_eq.trans hheld

/-- A model that becomes EMPTY: its state, and its sequences ended. -/
theorem emptyModel_noneHeld (code : Nat) : ((s.emptyModel m code).noneHeld).mdlState m = 0
    ∧ ∀ k ∈ s.liveOf m, (s.seq k).live = true →
      ((s.emptyModel m code).noneHeld.seq k).state = 7 ∧ ((s.emptyModel m code).noneHeld.seq k).endCode = code := by
  refine ⟨?_, fun k hk hlive => ?_⟩
  · rw [State.mdlState, mdl_noneHeld _ _ (.of_check (by decide)), ← State.mdlState]
    exact ((servWork_foldl_endSeq _ _ _ _).mdlState_eq m).trans (rd_wr_same _ _ _ _)
  · exact ended_foldl_endSeq (s.wr (mdlPg m) MDL.STATE 0) code 0 hk hlive

theorem regs_openNext (l : List Nat) :
    ((l.foldl (fun s k => s.modSeq k Seq.renew) (s.openNext m)).noneHeld).mdlState m = 2
      ∧ ((l.foldl (fun s k => s.modSeq k Seq.renew) (s.openNext m)).noneHeld).rd (mdlPg m) MDL.GEN
        = (s.rd (mdlPg m) MDL.GEN + 1) % 256 := by
  have hwork := servWork_foldl_modSeq (f := Seq.renew) l (s.openNext m)
  constructor
  · rw [State.mdlState, mdl_noneHeld _ _ (.of_check (by decide)), ← State.mdlState, hwork.mdlState_eq, State.mdlState, State.openNext,
      State.inc, rd_wr_of_start _ _ (by decide), rd_wr_same]
    rfl
  · have hnote : (s.noteSwapEnd m).rd (mdlPg m) MDL.GEN = s.rd (mdlPg m) MDL.GEN :=
      fieldsKept_irq _ srvPg 2 _ _ (.of_check (by decide)) (by decide)
    rw [mdl_noneHeld _ _ (.of_check (by decide)), hwork.fields _ _ (.of_check (by decide)) (by decide), State.openNext, State.inc,
      rd_wr_same, rd_wr_of_start _ _ (by decide), hnote]
    rfl

/-- The model's sequences go on, those that were paused with them. -/
theorem seqs_openNext {k : Nat} (hk : k ∈ s.liveOf m) :
    (((s.liveOf m).foldl (fun s k => s.modSeq k Seq.renew) (s.openNext m)).noneHeld.seq k) = (s.seq k).renew := by
  have hseq : (s.openNext m).seq k = s.seq k := by rw [State.seq, srv_seqs_openNext, State.seq]
  have hfold := seq_foldl_modSeq Seq.renew_renew (s.liveOf m) (s.openNext m) k
  rw [if_pos hk, hseq] at hfold
  exact hfold

end finish

/-- Settles O23: a swap closes its model and drains it, and its end or UNLOAD leaves the model open or empty. -/
theorem modelsSwapAndUnload : Obligations.ModelsSwapAndUnload := by
  unfold Obligations.ModelsSwapAndUnload
  refine fun s m => ⟨fun hlets hready hsteps => ?_, fun hlets hready hsteps hjobs hmode => ?_, fun hlets hready hsteps hjobs hmode => ?_,
    fun hlets hstate hheld => ?_, fun hlets hstate hheld => ?_, fun hlets hjob hheld => ?_, fun hlets hjob => ?_⟩
  · have hdrain := (modelSwapEffect_of_ready hready).trans (drainModel_of_steps (s := s.closeModel m) hsteps)
    exact ⟨_, exec_of_effect hlets rfl hdrain, mdlState_closeModel, drained_closeModel, rfl, closeModel_frame.keeps⟩
  · have hmode' : (s.closeModel m).rd (mdlPg m) MDL.SWAP_MODE = 1 := (rd_wr_of_start _ _ (by decide)).trans hmode
    obtain ⟨hmdl, hdrained, hseqs⟩ := drainModel_of_no_job (s := s.closeModel m) mdlState_closeModel drained_closeModel hsteps hjobs
    refine ⟨_, exec_of_effect hlets rfl (modelSwapEffect_of_ready hready), hmdl, hdrained, fun k hk hrun => ?_⟩
    rw [State.seq, hseqs]
    exact seqs_drainSeqs_of_continue hmode' hk hrun
  · have hmode' : (s.closeModel m).rd (mdlPg m) MDL.SWAP_MODE = 0 := (rd_wr_of_start _ _ (by decide)).trans hmode
    obtain ⟨hmdl, hdrained, hseqs⟩ := drainModel_of_no_job (s := s.closeModel m) mdlState_closeModel drained_closeModel hsteps hjobs
    refine ⟨_, exec_of_effect hlets rfl (modelSwapEffect_of_ready hready), hmdl, hdrained, fun k hk hlive => ?_⟩
    rw [State.seq, hseqs]
    exact seqs_drainSeqs_of_end hmode' hk hlive
  · obtain ⟨hmdl, hgen⟩ := regs_openNext s m (s.liveOf m)
    refine ⟨_, exec_of_effect hlets rfl (swapCompleteEffect_done s m hstate hheld), hmdl, hgen, fun k hk => ?_⟩
    rw [seqs_openNext s m hk]
    exact ⟨rfl, fun hpaused => if_pos hpaused⟩
  · obtain ⟨hmdl, hends⟩ := emptyModel_noneHeld (s.noteSwapEnd m) m 0x06
    refine ⟨_, exec_of_effect hlets rfl (swapCompleteEffect_failed s m hstate hheld), hmdl, fun k hk hlive => ?_⟩
    refine hends k (by rwa [liveOf_congr (srv_seqs_noteSwapEnd s m)]) ?_
    rwa [State.seq, srv_seqs_noteSwapEnd]
  · obtain ⟨hmdl, hends⟩ := emptyModel_noneHeld s m 0x07
    exact ⟨_, exec_of_effect hlets rfl (modelUnloadEffect_of_no_job s m hjob hheld), hmdl, hends⟩
  · exact exec_of_effect hlets rfl (if_pos hjob)

end Sys2Proof.Machine
end

section
/-! PROOFS. A request of a function that the map gives to a tenant beyond the 256 there are. Refutes O21. -/

namespace Sys2Proof.Machine

/-! ### Admission without a shared prefix (R219, R220, R222) -/

/-- What an admission moves beside its tenant's figures. -/
def admitFields : List Fld := [SRV.STAT_LIVE, SRV.ADMIT_CNT, CXL.WR_BYTES] ++ ringFields

/-- An admitted sequence counts for its tenant, with the pages it reserves. -/
def State.chargeTenant (s : State) (tenant pages : Nat) : State :=
  (s.wr (tenPg tenant) TEN.ACTIVE_SEQ (s.rd (tenPg tenant) TEN.ACTIVE_SEQ + 1)).wr (tenPg tenant) TEN.PAGES_HELD
    (s.rd (tenPg tenant) TEN.PAGES_HELD + pages)

section admission
variable {s : State} {f tenant pages : Nat} {d : List Byte}

theorem fieldsKept_devWrite (s : State) (a : Nat) (l : List Byte) : FieldsKept [CXL.WR_BYTES] s (s.devWrite a l) := by
  have hstore (x : Store) : FieldsKept [CXL.WR_BYTES] s { s with dev := x } := (FieldsKept.refl _ s).of_regs rfl
  refine .ite (hstore _) ((hstore _).trans (.foldl (fun u i => ?_) _ _))
  exact (FieldsKept.refl _ u).wr _ _ (.of_check (by decide)) (by decide)

/-- The sequence takes its slot and is counted. -/
def State.enterSeq (s : State) (slot : Nat) (q : Seq) (tenant pages : Nat) : State :=
  let t := ((s.modSrv (fun x => { x with nextOrder := x.nextOrder + 1 })).setSeq slot q).chargeTenant tenant pages
  (t.wr srvPg SRV.STAT_LIVE (t.rd srvPg SRV.STAT_LIVE + 1)).inc srvPg SRV.ADMIT_CNT

/-- The entries at addresses `l` of the sequence's lists are invalidated. -/
def State.blankEntries (s : State) (l : List Nat) : State := l.foldl (fun s a => s.devWrite a (toLe 4 (2 ^ 31))) s

theorem admitSeq_eq (hshare : bit (leAt d 1 1) 1 = false) : ∃ slot q l r,
    s.admitSeq f tenant d pages = (((s.enterSeq slot q tenant pages).blankEntries l).writeRec f r).settleFailed := by
  simp only [State.admitSeq, hshare, Bool.false_eq_true, if_false]
  exact ⟨_, _, _, _, rfl⟩

theorem fieldsKept_admitSeq (hshare : bit (leAt d 1 1) 1 = false) (hfailed : s.srv.failed = []) :
    FieldsKept admitFields (s.chargeTenant tenant pages) (s.admitSeq f tenant d pages) := by
  obtain ⟨slot, q, l, r, heq⟩ := admitSeq_eq (s := s) (f := f) (tenant := tenant) (pages := pages) hshare
  have hentered : FieldsKept admitFields (s.chargeTenant tenant pages) (s.enterSeq slot q tenant pages) :=
    (((FieldsKept.refl _ (s.chargeTenant tenant pages)).of_regs (u := ((s.modSrv _).setSeq slot q).chargeTenant tenant pages) rfl).wr _ _
      (.of_check (by decide)) (by decide)).wr _ _ (.of_check (by decide)) (by decide)
  have hblank : FieldsKept [CXL.WR_BYTES] _ ((s.enterSeq slot q tenant pages).blankEntries l) :=
    .foldl (fun t a => fieldsKept_devWrite t a _) l _
  obtain ⟨fns, hsrv⟩ := srv_writeRec ((s.enterSeq slot q tenant pages).blankEntries l) f r
  have hkept : ((s.enterSeq slot q tenant pages).blankEntries l).srv = (s.enterSeq slot q tenant pages).srv :=
    (Frame.foldl (fun t a => t.devWrite_frame a _ _) l (.refl _ _)).keeps .srv (by decide)
  rw [heq, settleFailed_of_none (by rw [hsrv, hkept]; exact hfailed)]
  exact (hentered.trans (hblank.mono (by decide))).trans ((fieldsKept_writeRec _ f r).mono (by decide))

theorem submitEffect_of_admitted (hturn : s.reqTurn f = true) (hhead : s.reqHead f = (d, false)) (hop : leAt d 0 1 = 1)
    (hf : s.fnTenant f = some tenant) (hbad : s.submitBad f tenant d false = false) (hmdl : s.mdlState (leAt d 2 1) ≠ 3)
    (hshare : bit (leAt d 1 1) 1 = false) (hk : leAt d 3 1 = 0)
    (hcode : s.admitCode tenant d (s.pagesFor (leAt d 2 1) (leAt d 32 4 + leAt d 36 4) 0) = none) :
    s.takeReq f (fun op => op != 2 && op != 3 && op != 4) (fun s d p => s.decideSubmit f d p true)
      = (s.admitSeq f tenant d (s.pagesFor (leAt d 2 1) (leAt d 32 4 + leAt d 36 4) 0)).reqDone f := by
  simp [State.takeReq, hturn, hhead, hop, State.decideSubmit, hf, hbad, hmdl, hshare, hk, hcode]

end admission

/-! ### A tenant number whose page is the function's own window -/

/-- A SUBMIT of model 2 with a prompt of 3 tokens and room for 10 more. -/
def submitBytes : List Byte :=
  [1, 0, 2, 0] ++ List.replicate 4 0 ++ toLe 8 77 ++ toLe 8 5 ++ toLe 8 0x2000 ++ toLe 4 3 ++ toLe 4 10 ++ List.replicate 20 0
    ++ toLe 4 0xFFFFFFFF

/-- Function 0 has one descriptor waiting, and model 2 is READY; the map gives the function to tenant 2000, which no write of its 8
bits leaves there, and whose entry lies where the window of function 0 does. -/
def tenantBeyond : State :=
  let s := State.reset.wr srvPg SRV.CTRL_ENABLE 1
  let s := s.wr (pciePg 0) (PCIE.FUNC_MAP_VALID 0) 1
  let s := { s with regs := mput s.regs (fkey (pciePg 0) (PCIE.FUNC_MAP_TENANT 0)) 2000 }
  let s := ((s.wr (fnPg 0) FNW.REQ_CFG_ENABLE 1).wr (fnPg 0) FNW.REQ_CFG_ENTRIES 64).wr (fnPg 0) FNW.REQ_TAIL_TAIL 1
  let s := (((s.wr (mdlPg 2) MDL.STATE 2).wr (mdlPg 2) MDL.LAYERS 1).wr (mdlPg 2) MDL.HEADS_KV 1).wr (mdlPg 2) MDL.MAX_CTX 4096
  let s := (s.wr (mdlPg 2) MDL.STEP_TOKENS 16).wr (mdlPg 2) MDL.CHUNK_MAX 8
  let s := (s.wr (tenPg 2000) TEN.ENABLE 1).wr (tenPg 2000) TEN.PAGE_QUOTA 100
  let s := (s.wr (kvpPg 0) KVP.STAT_READY 1).wr (kvpPg 0) KVP.T1_FRAMES_N 64
  { s with host := s.host.put 0 submitBytes }

theorem lets_tenantBeyond : tenantBeyond.lets (.submit 0) := lets_of_check (by decide)

theorem head_tenantBeyond : tenantBeyond.reqHead 0 = (submitBytes, false) := by decide

theorem turn_tenantBeyond : tenantBeyond.reqTurn 0 = true := by decide

theorem good_tenantBeyond : tenantBeyond.submitBad 0 2000 submitBytes false = false := by decide

theorem admits_tenantBeyond : tenantBeyond.admitCode 2000 submitBytes (tenantBeyond.pagesFor 2 13 0) = none := by
  have hslots : (List.range 4096).all (fun i => (tenantBeyond.seq i).state != 0) = false :=
    List.all_eq_false.2 ⟨0, List.mem_range.2 (by decide), by decide⟩
  unfold State.admitCode
  dsimp only
  rw [hslots, if_neg (by decide), if_neg (by decide), if_neg (by decide), if_neg (by decide), if_neg (by decide), if_neg (by decide)]

theorem slot_tenantBeyond : (List.range 4096).find? (fun i => (tenantBeyond.seq i).state == 0) = some 0 :=
  List.find?_range_eq_some.2 ⟨by decide, List.mem_range.2 (by decide), fun j hj => absurd hj (Nat.not_lt_zero j)⟩

/-- The page reserved for the tenant has moved the function's REQ_HEAD before the descriptor is done with. -/
theorem reqHead_admit_tenantBeyond : ((tenantBeyond.admitSeq 0 2000 submitBytes (tenantBeyond.pagesFor 2 13 0)).reqDone 0).rd (fnPg 0)
    FNW.REQ_HEAD_HEAD = 2 := by
  have hkept := fieldsKept_admitSeq (s := tenantBeyond) (f := 0) (tenant := 2000) (pages := tenantBeyond.pagesFor 2 13 0)
    (d := submitBytes) (by decide) rfl
  rw [State.reqDone, rd_wr_same]
  show ((tenantBeyond.admitSeq 0 2000 submitBytes (tenantBeyond.pagesFor 2 13 0)).rd (fnPg 0) FNW.REQ_HEAD_HEAD + 1)
    % (tenantBeyond.admitSeq 0 2000 submitBytes (tenantBeyond.pagesFor 2 13 0)).rd (fnPg 0) FNW.REQ_CFG_ENTRIES % 2 ^ 12 = 2
  rw [hkept _ FNW.REQ_HEAD_HEAD (.of_check (by decide)) (by decide), hkept _ FNW.REQ_CFG_ENTRIES (.of_check (by decide)) (by decide)]
  decide

/-- Refutes O21: the statement ranges over every state, and where the function map holds tenant 2000 for function 0 (no write leaves
its field more than 8 bits) the tenant's entry lies on the function's window: the page that the admitted request reserves adds to
REQ_HEAD, which then passes two descriptors where the statement has it pass one. -/
theorem not_requestsAreDecided : ¬ Obligations.RequestsAreDecided := by
  unfold Obligations.RequestsAreDecided
  intro h
  obtain ⟨-, -, -, hadmit, -⟩ := h tenantBeyond 0 2000 0 submitBytes false
  obtain ⟨u, hexec, -, -, -, -, -, -, -, -, -, -, hreq, -⟩ := hadmit lets_tenantBeyond turn_tenantBeyond head_tenantBeyond (by decide)
    (by decide) good_tenantBeyond (by decide) (by decide) (by decide) rfl admits_tenantBeyond slot_tenantBeyond
  have heffect := submitEffect_of_admitted turn_tenantBeyond head_tenantBeyond (by decide) (by decide) good_tenantBeyond (by decide)
    (by decide) (by decide) admits_tenantBeyond
  obtain rfl := Host.Outcome.next.inj ((exec_of_effect lets_tenantBeyond rfl heffect).symm.trans hexec)
  exact absurd (reqHead_admit_tenantBeyond.symm.trans hreq) (by decide)

end Sys2Proof.Machine
end

section
/-! PROOFS. A step in the controller's table: its change, the reports of its cores' ends and failures, and its abort. -/

namespace Sys2Proof.Machine

/-! ### Steps in the table (R227) -/

section table
variable {s : State} {n : Nat} {x : StepS}

theorem stepRec_step (h : s.stepRec n = some x) : x.step = n := by simpa using List.find?_some h

theorem stepRec_mem (h : s.stepRec n = some x) : x ∈ s.srv.steps := List.mem_of_find?_eq_some h

theorem stepRec_congr {u : State} (h : u.srv.steps = s.srv.steps) (n : Nat) : u.stepRec n = s.stepRec n := by
  rw [State.stepRec, h, State.stepRec]

/-- A change that leaves a step's number is found under that number. -/
theorem stepRec_modStep {f : StepS → StepS} (hf : ∀ y, (f y).step = y.step) (h : s.stepRec n = some x) :
    (s.modStep n f).stepRec n = some (f x) := by
  have hkey : (fun y : StepS => y.step == n) ∘ (fun y => if (y.step == n) = true then f y else y) = fun y => y.step == n := by
    funext y
    rw [Function.comp_apply]
    split
    · rw [hf]
    · rfl
  show (mapIf (fun y => y.step == n) f s.srv.steps).find? (fun y => y.step == n) = some (f x)
  have hfound : s.srv.steps.find? (fun y => y.step == n) = some x := h
  rw [mapIf, List.find?_map, hkey, hfound, Option.map_some, if_pos (by simpa using stepRec_step h)]

theorem step_ne_of_mem_dropStep {y : StepS} (h : y ∈ (s.dropStep n).srv.steps) : y.step ≠ n := by
  simpa using (List.mem_filter.1 h).2

end table

/-! ### The end of a stream (R186) -/

section report
variable {s : State} {c n : Nat} {x : StepS}

/-- Core `c` has reported its end in a step that runs. -/
def StepS.reported (c : Nat) (x : StepS) : StepS :=
  if x.phase = 1 then { x with cores := mapIf (fun k => k.1 == c) (fun k => (k.1, true)) x.cores } else x

/-- A step that runs and whose cores have all reported is sampled. -/
def StepS.advanced (x : StepS) : StepS := if x.phase = 1 ∧ x.cores.all (fun k => k.2) then { x with phase := 2 } else x

theorem stepEndReportEffect_of_step (hn : n ≠ 0) : stepEndReportEffect s c n
    = ((s.modStep n (StepS.reported c)).modStep n StepS.advanced).sendUnsent := if_neg hn

theorem StepS.step_reported (c : Nat) (x : StepS) : (x.reported c).step = x.step := by
  unfold StepS.reported
  split <;> rfl

theorem StepS.step_advanced (x : StepS) : x.advanced.step = x.step := by
  unfold StepS.advanced
  split <;> rfl

theorem StepS.advanced_reported (hphase : x.phase = 1) (hlast : ∀ k ∈ x.cores, k.1 ≠ c → k.2 = true) :
    (x.reported c).advanced.phase = 2 ∧ ∀ k ∈ (x.reported c).advanced.cores, k.2 = true := by
  have hcores : ∀ k ∈ mapIf (fun k => k.1 == c) (fun k => (k.1, true)) x.cores, k.2 = true := by
    intro k hk
    obtain ⟨j, hj, rfl⟩ := List.mem_map.1 hk
    split
    · rfl
    · next hc => exact hlast j hj (by simpa using hc)
  have hreported : x.reported c = { x with cores := mapIf (fun k => k.1 == c) (fun k => (k.1, true)) x.cores } := if_pos hphase
  have hadvanced : (x.reported c).advanced = { x.reported c with phase := 2 } := by
    rw [hreported]
    exact if_pos ⟨hphase, List.all_eq_true.2 hcores⟩
  rw [hadvanced, hreported]
  exact ⟨rfl, hcores⟩

/-- The last core's report leaves the step to be sampled. -/
theorem exists_step_stepEndReportEffect (hx : s.stepRec n = some x) (hn : n ≠ 0) (hphase : x.phase = 1)
    (hlast : ∀ k ∈ x.cores, k.1 ≠ c → k.2 = true) :
    ∃ z ∈ (stepEndReportEffect s c n).srv.steps, z.step = n ∧ z.phase = 2 ∧ ∀ k ∈ z.cores, k.2 = true := by
  have hrec := stepRec_modStep (StepS.step_advanced) (stepRec_modStep (StepS.step_reported c) hx)
  obtain ⟨hdone, hcores⟩ := StepS.advanced_reported hphase hlast
  obtain ⟨z, hz, hstep, hzphase, -, hzcores⟩ := exists_step_sendUnsent (stepRec_mem hrec)
  rw [stepEndReportEffect_of_step hn]
  exact ⟨z, hz, hstep.trans (stepRec_step hrec), hzphase.trans hdone, hzcores ▸ hcores⟩

end report

/-! ### A failure, and the abort of a step (R187, R208, R234) -/

section abort
variable (s : State) (c : Nat) (x : StepS)

/-- The step leaves the table, and its abort is counted and recorded. -/
def State.noteAbort : State := (((s.emit srvPg 0x8012 0).inc srvPg SRV.ABORT_CNT).irq srvPg 1).dropStep x.step

/-- The step's other cores are told, and its claim is withdrawn. -/
def State.tellAbort : State :=
  (x.cores.foldl (fun s k => if k.1 = c then s else s.send (.stepAbort k.1 x.step)) s).withdraw (claimOf x.model)

/-- A sequence of the step is tried again, or ends. -/
def State.retrySeq (limit : Nat) (s : State) (y : StepSeq) : State :=
  let q := s.seq y.slot
  if !q.live ∨ y.failed then s
  else
    let s := s.setSeq y.slot { q with attempts := q.attempts + 1 }
    if limit < q.attempts + 1 then (s.emitSeq srvPg 0x8013 0 y.slot q.tenant).endSeq y.slot 0x06 0 else s

theorem abortStep_eq : s.abortStep c x = (x.seqs.foldl (State.retrySeq (((s.noteAbort x).tellAbort c x).rd srvPg SRV.CTRL_RETRY_MAX))
    ((s.noteAbort x).tellAbort c x)).settleMoves := rfl

theorem servWork_retrySeq (limit : Nat) (y : StepSeq) : ServWork s (State.retrySeq limit s y) := by
  have hset := (ServWork.refl s).setSeq y.slot { s.seq y.slot with attempts := (s.seq y.slot).attempts + 1 }
  have hend := (hset.frame (State.emitSeq_frame _ srvPg 0x8013 0 y.slot (s.seq y.slot).tenant) (by decide) (by decide) (by decide)).trans
    (servWork_endSeq _ 0x06 0 y.slot)
  exact .ite (.refl s) (.ite hend hset)

theorem servWork_settleMoves : ServWork s s.settleMoves :=
  .foldl (fun t k => .ite ((ServWork.refl t).setSeq k _) (.ite ((ServWork.refl t).setSeq k _) (.refl t))) _ (.refl s)

/-- What follows the message of an abort leaves its count, the table of steps and the messages. -/
theorem servWork_abortStep : ServWork ((s.noteAbort x).tellAbort c x) (s.abortStep c x) := by
  rw [abortStep_eq]
  exact (ServWork.foldl (fun t y => servWork_retrySeq t _ y) _ (.refl _)).trans (servWork_settleMoves _)

theorem fieldsKept_evalClaims : FieldsKept [SYNC.CLAIM_CNT] s s.evalClaims :=
  .ite ((FieldsKept.refl _ s).of_regs rfl) (((FieldsKept.refl _ s).of_regs rfl).wr _ _ (.of_check (by decide)) (by decide))

theorem fieldsKept_withdraw (who : Nat) : FieldsKept [SYNC.CLAIM_CNT] s (s.withdraw who) := by
  have hawn (a : AwnS) : FieldsKept [SYNC.CLAIM_CNT] s { s with awn := a } := (FieldsKept.refl _ s).of_regs rfl
  refine .ite ((hawn _).trans (fieldsKept_evalClaims _)) (.ite (hawn _) ?_)
  split
  · exact (hawn _).of_regs rfl
  · exact .refl _ s

/-- The cores other than `c` are told that the step is given up. -/
def State.tellCores (s : State) (c step : Nat) (l : List (Nat × Bool)) : State :=
  l.foldl (fun s k => if k.1 = c then s else s.send (.stepAbort k.1 step)) s

theorem tellCores_frame (step : Nat) (l : List (Nat × Bool)) : Frame [.out] s (s.tellCores c step l) := by
  refine .foldl (fun t k => ?_) _ (.refl _ s)
  exact .ite (.refl _ t) ((State.send_frame ..).after (by decide) (.refl _ t))

theorem mem_out_tellCores_of_mem {m : OutMsg} (h : m ∈ s.out) (step : Nat) (l : List (Nat × Bool)) : m ∈ (s.tellCores c step l).out := by
  induction l generalizing s with
  | nil => exact h
  | cons k l ih =>
    refine ih _ ?_
    dsimp only
    split
    · exact h
    · exact List.mem_append_left _ h

theorem mem_out_tellCores (step : Nat) {l : List (Nat × Bool)} {k : Nat × Bool} (hk : k ∈ l) (hc : k.1 ≠ c) :
    OutMsg.stepAbort k.1 step ∈ (s.tellCores c step l).out := by
  induction l generalizing s with
  | nil => cases hk
  | cons j l ih =>
    rcases List.mem_cons.1 hk with rfl | hk
    · refine mem_out_tellCores_of_mem _ _ ?_ step l
      dsimp only
      rw [if_neg hc]
      exact List.mem_append_right _ (List.mem_singleton.2 rfl)
    · exact ih _ hk

theorem steps_noteAbort : (s.noteAbort x).srv.steps = (s.dropStep x.step).srv.steps := by
  have hsrv : (((s.emit srvPg 0x8012 0).inc srvPg SRV.ABORT_CNT).irq srvPg 1).srv = s.srv :=
    (irq_srv _ _ _).trans ((State.emit_frame s srvPg 0x8012 0).keeps .srv (by decide))
  show (((s.emit srvPg 0x8012 0).inc srvPg SRV.ABORT_CNT).irq srvPg 1).srv.steps.filter _ = _
  rw [hsrv]
  rfl

theorem abortCnt_tellAbort : ((s.noteAbort x).tellAbort c x).rd srvPg SRV.ABORT_CNT = (s.rd srvPg SRV.ABORT_CNT + 1) % 2 ^ 64 := by
  have hemit : (s.emit srvPg 0x8012 0).rd srvPg SRV.ABORT_CNT = s.rd srvPg SRV.ABORT_CNT := (State.emit_frame ..).rd_eq (by decide) _ _
  have hinc : ((s.emit srvPg 0x8012 0).inc srvPg SRV.ABORT_CNT).rd srvPg SRV.ABORT_CNT = (s.rd srvPg SRV.ABORT_CNT + 1) % 2 ^ 64 := by
    rw [State.inc, rd_wr_same, hemit]
    rfl
  have hnote : (s.noteAbort x).rd srvPg SRV.ABORT_CNT = (s.rd srvPg SRV.ABORT_CNT + 1) % 2 ^ 64 :=
    (fieldsKept_irq _ srvPg 1 _ _ (.of_check (by decide)) (by decide)).trans hinc
  have htell := (tellCores_frame (s.noteAbort x) c x.step x.cores).rd_eq (by decide) srvPg SRV.ABORT_CNT
  exact (fieldsKept_withdraw _ _ _ _ (.of_check (by decide)) (by decide)).trans (htell.trans hnote)

/-- What an abort leaves: the step has gone, the abort is counted, and the cores other than the failed one are told. -/
theorem abortStep_done : (∀ z ∈ (s.abortStep c x).srv.steps, z.step ≠ x.step)
    ∧ (s.abortStep c x).rd srvPg SRV.ABORT_CNT = (s.rd srvPg SRV.ABORT_CNT + 1) % 2 ^ 64
    ∧ ∀ k ∈ x.cores, k.1 ≠ c → OutMsg.stepAbort k.1 x.step ∈ (s.abortStep c x).out := by
  have hwork := servWork_abortStep s c x
  have hwithdraw := State.withdraw_frame ((s.noteAbort x).tellCores c x.step x.cores) (claimOf x.model)
  refine ⟨fun z hz => ?_, ?_, fun k hk hc => hwork.out _ ?_⟩
  · have htell : ((s.noteAbort x).tellAbort c x).srv = (s.noteAbort x).srv :=
      (hwithdraw.keeps .srv (by decide)).trans ((tellCores_frame _ c x.step x.cores).keeps .srv (by decide))
    rw [hwork.steps_eq, htell, steps_noteAbort] at hz
    exact step_ne_of_mem_dropStep hz
  · exact (hwork.fields _ _ (.of_check (by decide)) (by decide)).trans (abortCnt_tellAbort s c x)
  · have hout : ((s.noteAbort x).tellAbort c x).out = ((s.noteAbort x).tellCores c x.step x.cores).out :=
      congrArg Prod.fst (hwithdraw.keeps .out (by decide))
    rw [hout]
    exact mem_out_tellCores _ c x.step hk hc

end abort

/-! ### Failures reported (R187, R208) -/

section failure
variable {s : State} {c n : Nat} {x : StepS}

theorem stepFailureEffect_of_abort (hx : s.stepRec n = some x) (hn : n ≠ 0) (hc : x.cores.any (fun k => k.1 == c) = true) :
    stepFailureEffect s c n false = s.abortStep c x := by
  simp [stepFailureEffect, hn, hx, hc]

/-- A start record that a core refused is kept, to be sent again. -/
def StepS.keepUnsent (c : Nat) (r : StartRec) (x : StepS) : StepS :=
  { x with unsent := if x.unsent.any (fun u => u.1 == c) then x.unsent else x.unsent ++ [(c, r)] }

theorem StepS.unsent_keepUnsent (c : Nat) (r : StartRec) (x : StepS) : (x.keepUnsent c r).unsent.any (fun v => v.1 == c) = true := by
  unfold StepS.keepUnsent
  dsimp only
  split
  · assumption
  · simp

theorem stepFailureEffect_of_discarded (hx : s.stepRec n = some x) (hn : n ≠ 0) {y : ShapeCore}
    (hy : (s.shapeCores (s.readShape x.shape)).find? (fun k => s.physOfCore k.logical == c) = some y) :
    ∃ r, stepFailureEffect s c n true = s.modStep n (StepS.keepUnsent c r) := by
  refine ⟨{ stream := y.stream % 2 ^ 48, step := n, gsemBase := x.gsemBase, gsemN := x.gsemN, model := x.model,
            tenant := (s.readShape x.shape).tenant, reload := false }, ?_⟩
  simp only [stepFailureEffect, hn, hx, hy, if_true, if_false]
  rfl

/-- The steps of the table that hold the slot mark the sequence as failed. -/
def State.markFailed (s : State) (slot : Nat) : State :=
  s.modSrv (fun v => { v with steps := v.steps.map (fun (x : StepS) =>
    { x with seqs := mapIf (fun y => y.slot == slot) (fun y => { y with failed := true }) x.seqs }) })

theorem seqFailEffect_eq (s : State) (k : Nat) : seqFailEffect s k = (s.markFailed k).endSeq k 0x06 0 := rfl

end failure

end Sys2Proof.Machine
end

section
/-! PROOFS. A step's tokens: the draft rounds and the sampling of the main positions. -/

namespace Sys2Proof.Machine

/-! ### One sequence's part of a step -/

/-- The sequence's part of the step, changed. -/
def StepS.putSeq (slot : Nat) (f : StepSeq → StepSeq) (x : StepS) : StepS := { x with seqs := mapIf (fun w => w.slot == slot) f x.seqs }

section part
variable {slot : Nat} {f : StepSeq → StepSeq} {x : StepS} {y : StepSeq}

theorem StepS.seqs_putSeq_of_single (hx : x.seqs = [y]) (hslot : y.slot = slot) : (x.putSeq slot f).seqs = [f y] := by
  simp [StepS.putSeq, mapIf, hx, hslot]

theorem StepS.slots_putSeq (hf : ∀ w, (f w).slot = w.slot) (slot : Nat) (x : StepS) :
    (x.putSeq slot f).seqs.map (fun w => w.slot) = x.seqs.map (fun w => w.slot) := by
  rw [StepS.putSeq, mapIf, List.map_map]
  refine List.map_congr_left fun w _ => ?_
  rw [Function.comp_apply]
  split
  · exact hf w
  · rfl

theorem poisonSeq_work (s : State) (slot addr : Nat) : ServWork s (s.poisonSeq slot addr) :=
  (((ServWork.refl s).frame (State.emitSeq_frame s srvPg 0x8021 addr slot (s.seq slot).tenant) (by decide) (by decide)
    (by decide)).irq srvPg 0).trans (servWork_endSeq _ 0x06 0 slot)

end part

/-! ### Draft rounds (R228, R229) -/

section draft
variable {s : State} {n : Nat} {x : StepS} {y : StepSeq} {row : List Nat}

/-- The model's grant is used. -/
def State.takeGrant (s : State) (m : Nat) : State :=
  { s with awn := { s.awn with grants := s.awn.grants.filter (fun g => g.who != claimOf m) } }

/-- A draft token joins the sequence's part. -/
def StepSeq.addDraft (t : Nat) (dist : List (Nat × Nat)) (w : StepSeq) : StepSeq :=
  { w with drafts := w.drafts ++ [t], qdist := w.qdist ++ [dist] }

/-- The step once the sequence's draft token of the round is sampled from `row`. -/
def State.drafted (s : State) (x : StepS) (y : StepSeq) (row : List Nat) : StepS → StepS :=
  StepS.putSeq y.slot (StepSeq.addDraft ((s.seq y.slot).sampP.token row ((s.seq y.slot).pos + x.round)) ((s.seq y.slot).sampP.dist row))

theorem sampleDraft_of_row {i : Nat} (hrow : s.logitRow (s.rd (mdlPg x.model) MDL.DRAFT) x.dlogits i = some row) :
    s.sampleDraft x i y = s.modStep x.step (s.drafted x y row) := by
  rw [State.sampleDraft, hrow]
  rfl

theorem drafts_drafted (hx : x.seqs = [y]) : ((s.drafted x y row x).seqs.map (fun w => w.drafts))
    = [y.drafts ++ [(s.seq y.slot).sampP.token row ((s.seq y.slot).pos + x.round)]] := by
  rw [State.drafted, StepS.seqs_putSeq_of_single hx rfl]
  rfl

theorem roundSeqs_of_single (hx : x.seqs = [y]) (hk : x.round ≤ y.k) (hfailed : y.failed = false) (hlive : (s.seq y.slot).live = true) :
    s.roundSeqs x x.round = [y] := by
  simp [State.roundSeqs, hx, hk, hfailed, hlive]

theorem writeDrafts_frame (s : State) (x : StepS) : Frame [.regs, .dev] s (s.writeDrafts x) := by
  refine .foldl (fun t y => ?_) _ (.refl _ s)
  exact .ite (.refl _ t) ((State.devWrite_frame ..).after (by decide) (.refl _ t))

/-- The last draft round of a step with one sequence: its token is sampled, the drafts are written and the cores are signalled. -/
theorem draftRoundEffect_last (hrec : s.stepRec n = some x) (hphase : x.phase = 1)
    (hgrant : s.awn.grants.any (fun g => g.who == claimOf x.model) = true) (hround : s.roundSeqs x x.round = [y])
    (hlast : x.rounds ≤ x.round) (hrow : s.logitRow (s.rd (mdlPg x.model) MDL.DRAFT) x.dlogits 0 = some row) :
    draftRoundEffect s n = (((s.takeGrant x.model).modStep n (s.drafted x y row)).writeDrafts (s.drafted x y row x)).sendAdd
      (x.gsemBase + (x.draftSem + 1)) x.cores.length := by
  have hround' : (s.takeGrant x.model).roundSeqs x x.round = [y] := hround
  have hdraft : (s.takeGrant x.model).sampleDraft x 0 y = (s.takeGrant x.model).modStep n (s.drafted x y row) := by
    rw [← stepRec_step hrec]
    exact sampleDraft_of_row (s := s.takeGrant x.model) hrow
  have hdrafted : ((s.takeGrant x.model).modStep n (s.drafted x y row)).stepRec n = some (s.drafted x y row x) :=
    stepRec_modStep (s := s.takeGrant x.model) (fun _ => rfl) hrec
  have hguard : ¬(x.phase ≠ 1 ∨ (!s.awn.grants.any (fun g => g.who == claimOf x.model)) = true) := by simp [hphase, hgrant]
  rw [draftRoundEffect, hrec]
  dsimp only
  rw [if_neg hguard, ← State.takeGrant, hround', List.zipIdx_singleton, List.foldl_cons, List.foldl_nil, hdraft, hdrafted]
  exact if_neg (Nat.not_lt.2 hlast)

/-- What the last round leaves: the step with its drafts, the add message, and the grant used. -/
theorem draftRound_done (hrec : s.stepRec n = some x) (hx : x.seqs = [y]) {u : State}
    (hu : u = (((s.takeGrant x.model).modStep n (s.drafted x y row)).writeDrafts (s.drafted x y row x)).sendAdd
      (x.gsemBase + (x.draftSem + 1)) x.cores.length) :
    (∃ z ∈ u.srv.steps, z.step = n
        ∧ z.seqs.map (fun w => w.drafts) = [y.drafts ++ [(s.seq y.slot).sampP.token row ((s.seq y.slot).pos + x.round)]])
      ∧ (x.gsemBase + (x.draftSem + 1), x.cores.length) ∈ u.awn.adds ∧ ∀ g ∈ u.awn.grants, g.who ≠ claimOf x.model := by
  have hdrafted : ((s.takeGrant x.model).modStep n (s.drafted x y row)).stepRec n = some (s.drafted x y row x) :=
    stepRec_modStep (s := s.takeGrant x.model) (fun _ => rfl) hrec
  have hframe := writeDrafts_frame ((s.takeGrant x.model).modStep n (s.drafted x y row)) (s.drafted x y row x)
  subst hu
  refine ⟨⟨s.drafted x y row x, ?_, stepRec_step hdrafted, drafts_drafted hx⟩, List.mem_append_right _ (List.mem_singleton_self _), ?_⟩
  · exact congrArg SrvS.steps (hframe.keeps .srv (by decide)) ▸ stepRec_mem hdrafted
  · intro g hg
    have hgrants := congrArg AwnS.grants (hframe.keeps .awn (by decide))
    have hg' : g ∈ (s.takeGrant x.model).awn.grants := hgrants ▸ hg
    simpa using (List.mem_filter.1 hg').2

end draft

/-! ### Sampling (R229 to R232) -/

section sampling
variable {s : State} {n hub : Nat} {x : StepS} {y : StepSeq}

/-- Sampling a sequence marks its part of the step, whatever came of it. -/
theorem servWork_sampleMain (s : State) (x : StepS) (y : StepSeq) :
    ∃ f : StepSeq → StepSeq, (∀ w, (f w).slot = w.slot) ∧ (∀ w, (f w).sampled = true)
      ∧ ServWork (s.modStep x.step (StepS.putSeq y.slot f)) (s.sampleMain x y) := by
  have hdone (f : StepSeq → StepSeq) (hslot : ∀ w, (f w).slot = w.slot) (hf : ∀ w, (f w).sampled = true) :
      ∃ g : StepSeq → StepSeq, (∀ w, (g w).slot = w.slot) ∧ (∀ w, (g w).sampled = true)
        ∧ ServWork (s.modStep x.step (StepS.putSeq y.slot g)) (s.modStep x.step (StepS.putSeq y.slot f)) := ⟨f, hslot, hf, .refl _⟩
  have hbad : ∃ g : StepSeq → StepSeq, (∀ w, (g w).slot = w.slot) ∧ (∀ w, (g w).sampled = true)
      ∧ ServWork (s.modStep x.step (StepS.putSeq y.slot g))
        ((s.modStep x.step (StepS.putSeq y.slot (fun w => { w with failed := true, sampled := true }))).poisonSeq y.slot 1) :=
    ⟨fun w => { w with failed := true, sampled := true }, fun _ => rfl, fun _ => rfl, poisonSeq_work _ _ _⟩
  unfold State.sampleMain
  dsimp only
  split
  · exact hdone _ (fun _ => rfl) (fun _ => rfl)
  · split
    · split
      · exact hdone _ (fun _ => rfl) (fun _ => rfl)
      · split
        · exact hbad
        · exact hdone _ (fun _ => rfl) (fun _ => rfl)
    · split
      · exact hbad
      · exact hdone _ (fun _ => rfl) (fun _ => rfl)

/-- The step `n` of the table has the slots of `x`, and its sequences of the hub are sampled but for those of `l`. -/
def SampledBut (n hub : Nat) (x : StepS) (l : List StepSeq) (s : State) : Prop :=
  ∃ z, s.stepRec n = some z ∧ z.seqs.map (fun w => w.slot) = x.seqs.map (fun w => w.slot)
    ∧ ∀ w ∈ z.seqs, w.slot % 4 = hub → w.sampled = true ∨ w.slot ∈ l.map (fun y => y.slot)

theorem sampledBut_sampleMain {l : List StepSeq} (hstep : x.step = n) (h : SampledBut n hub x (y :: l) s) :
    SampledBut n hub x l (s.sampleMain x y) := by
  obtain ⟨z, hz, hslots, hleft⟩ := h
  obtain ⟨f, hslot, hsampled, hwork⟩ := servWork_sampleMain s x y
  rw [hstep] at hwork
  refine ⟨z.putSeq y.slot f, ?_, (StepS.slots_putSeq hslot _ _).trans hslots, fun w hw hhub => ?_⟩
  · rw [stepRec_congr hwork.steps_eq]
    exact stepRec_modStep (fun _ => rfl) hz
  · obtain ⟨v, hv, rfl⟩ := List.mem_map.1 hw
    by_cases hother : v.slot = y.slot
    · rw [if_pos (by simpa using hother)]
      exact .inl (hsampled v)
    · rw [if_neg (by simpa using hother)] at hhub ⊢
      exact (hleft v hv hhub).imp_right fun hmem => (List.mem_cons.1 hmem).resolve_left hother

theorem sampledBut_foldl (hstep : x.step = n) (l : List StepSeq) (h : SampledBut n hub x l s) :
    SampledBut n hub x [] (l.foldl (fun s y => s.sampleMain x y) s) := by
  induction l generalizing s with
  | nil => exact h
  | cons y l ih => exact ih (sampledBut_sampleMain hstep h)

theorem samplingEffect_of_phase (hrec : s.stepRec n = some x) (hphase : x.phase = 2) : samplingEffect s n hub
    = (x.seqs.filter (fun y => y.slot % 4 == hub && !y.sampled)).foldl (fun s y => s.sampleMain x y) s := by
  simp [samplingEffect, hrec, hphase]

/-- After its sampling unit is done every sequence of the hub is sampled. -/
theorem sampledBut_samplingEffect (hrec : s.stepRec n = some x) (hphase : x.phase = 2) : SampledBut n hub x [] (samplingEffect s n hub) := by
  rw [samplingEffect_of_phase hrec hphase]
  refine sampledBut_foldl (stepRec_step hrec) _ ⟨x, hrec, rfl, fun w hw hhub => ?_⟩
  cases hdone : w.sampled with
  | true => exact .inl rfl
  | false => exact .inr (List.mem_map_of_mem (List.mem_filter.2 ⟨hw, by simp [hhub, hdone]⟩))

/-- The prefill's last position gives the sequence its first token. -/
def StepSeq.firstToken (t lp : Nat) (w : StepSeq) : StepSeq := { w with sampled := true, toks := [(t, lp)] }

theorem sampleMain_of_prefill {row : List Nat} (hx : x.seqs = [y]) (hprefill : y.prefill = true) (hfailed : y.failed = false)
    (hlive : (s.seq y.slot).live = true) (hlast : (s.seq y.slot).promptLeft ≤ y.n)
    (hrow : s.logitRow x.model x.logits (y.n - 1) = some row) :
    s.sampleMain x y = s.modStep x.step (StepS.putSeq y.slot (StepSeq.firstToken
      ((s.seq y.slot).sampP.token row ((s.seq y.slot).pos + y.n)) (logp row ((s.seq y.slot).sampP.token row ((s.seq y.slot).pos + y.n))))) := by
  have hfirst : rowOf x.seqs y.slot + (y.n - 1) = y.n - 1 := by simp [rowOf, hx, sumN]
  simp only [State.sampleMain, hfailed, hlive, hprefill, hfirst, hrow, Nat.not_lt.2 hlast, Bool.not_true, Bool.false_eq_true, or_self,
    if_true, if_false]
  rfl

theorem samplingEffect_of_prefill {row : List Nat} (hrec : s.stepRec n = some x) (hphase : x.phase = 2) (hx : x.seqs = [y])
    (hprefill : y.prefill = true) (hfailed : y.failed = false) (hnew : y.sampled = false) (hlive : (s.seq y.slot).live = true)
    (hlast : (s.seq y.slot).promptLeft ≤ y.n) (hrow : s.logitRow x.model x.logits (y.n - 1) = some row) :
    samplingEffect s n (y.slot % 4) = s.modStep n (StepS.putSeq y.slot (StepSeq.firstToken
      ((s.seq y.slot).sampP.token row ((s.seq y.slot).pos + y.n)) (logp row ((s.seq y.slot).sampP.token row ((s.seq y.slot).pos + y.n))))) := by
  have hsingle : x.seqs.filter (fun w => w.slot % 4 == y.slot % 4 && !w.sampled) = [y] := by simp [hx, hnew]
  rw [samplingEffect_of_phase hrec hphase, hsingle, List.foldl_cons, List.foldl_nil,
    sampleMain_of_prefill hx hprefill hfailed hlive hlast hrow, stepRec_step hrec]

end sampling

end Sys2Proof.Machine
end

section
/-! PROOFS. The close of a step that gave one sequence one token. -/

namespace Sys2Proof.Machine

/-! ### The token taken (R232, R233, R235) -/

section token
variable {s : State} {y : StepSeq} {t lp : Nat}

theorem cutTokens_of_single {stop last pos : Nat} (hstop : t ≠ stop) (hlast : pos < last) :
    cutTokens stop last pos [(t, lp)] = ([(t, lp)], none) := by
  simp [cutTokens, hstop, Nat.not_le.2 hlast]

/-- The sequence once it has taken the token `t`. -/
def Seq.takeToken (q : Seq) (t : Nat) : Seq :=
  { Seq.adapt { q with attempts := 0, pos := q.pos + 1, token := t } 0 0 with newgen := false, deadline := q.deadline }

theorem Seq.takeToken_fields (q : Seq) (t : Nat) : (q.takeToken t).state = q.state ∧ (q.takeToken t).pos = q.pos + 1
    ∧ (q.takeToken t).token = t ∧ (q.takeToken t).attempts = 0 := by
  unfold Seq.takeToken Seq.adapt
  split
  · exact ⟨rfl, rfl, rfl, rfl⟩
  · exact ⟨rfl, rfl, rfl, rfl⟩

/-- One token that neither stops the sequence nor fills it is taken, and its record written. -/
theorem closeOne_of_token (hfailed : y.failed = false) (hprefill : y.prefill = false) (htoks : y.toks = [(t, lp)]) (hk : y.k = 0)
    (haccepted : y.accepted = 0) (hlive : (s.seq y.slot).live = true) (hstop : t ≠ (s.seq y.slot).stop)
    (hdeadline : (s.seq y.slot).deadline = 0) (hroom : (s.seq y.slot).pos + 2 < (s.seq y.slot).r) :
    ∃ r, s.closeOne y = ((s.setSeq y.slot ((s.seq y.slot).takeToken t)).writeRec (s.seq y.slot).fn r, true) := by
  have hcut : cutTokens (s.seq y.slot).stop ((s.seq y.slot).r - 1) ((s.seq y.slot).pos + 1) y.toks = ([(t, lp)], none) := by
    rw [htoks]
    exact cutTokens_of_single hstop (by omega)
  have hlate : s.expired (s.seq y.slot).deadline = false := by
    rw [hdeadline]
    rfl
  unfold State.closeOne
  rw [if_neg (by simp [hfailed, hlive]), hprefill, if_neg Bool.false_ne_true]
  dsimp only
  rw [hcut, hlate, hk, haccepted]
  simp only [List.isEmpty_cons, Bool.false_and, Bool.not_false, Bool.not_true, Bool.or_false, Bool.and_false]
  exact ⟨_, rfl⟩

end token

/-! ### Moves that a state makes (R211, R223) -/

section moves
variable {s : State} {k : Nat}

/-- A sequence whose last page has moved is PARKED, or returns. -/
def State.settleMove (s : State) (k : Nat) : State :=
  let q := s.seq k
  let at0 := fun t => (s.slotPages k).all (fun p => (s.page p).tier == t && (s.page p).state != 3)
  if q.state = 3 ∧ !s.inStep k ∧ at0 1 then s.setSeq k { q with state := 4 }
  else if q.state = 5 ∧ at0 0 then s.setSeq k { q with state := q.active }
  else s

theorem settleMoves_eq (s : State) : s.settleMoves = s.liveSlots.foldl State.settleMove s := rfl

theorem seq_setSeq_other (s : State) {j k : Nat} (q : Seq) (h : k ≠ j) : (s.setSeq j q).seq k = s.seq k := mget_mput_other _ _ _ _ _ h

theorem seq_settleMove (hpark : (s.seq k).state ≠ 3) (hunpark : (s.seq k).state ≠ 5) (j : Nat) : (s.settleMove j).seq k = s.seq k := by
  by_cases hj : k = j
  · subst hj
    simp [State.settleMove, hpark, hunpark]
  · simp only [State.settleMove]
    split
    · exact seq_setSeq_other _ _ hj
    · split
      · exact seq_setSeq_other _ _ hj
      · rfl

/-- A sequence that neither parks nor unparks stays as it is. -/
theorem seq_settleMoves (hpark : (s.seq k).state ≠ 3) (hunpark : (s.seq k).state ≠ 5) : s.settleMoves.seq k = s.seq k := by
  rw [settleMoves_eq]
  generalize s.liveSlots = l
  induction l generalizing s with
  | nil => rfl
  | cons j l ih =>
    have hkept := seq_settleMove hpark hunpark j
    rw [List.foldl_cons, ih (by rwa [hkept]) (by rwa [hkept]), hkept]

end moves

/-! ### The close (R227, R232, R234) -/

/-- The time the step took is shown. -/
def State.showTime (s : State) (x : StepS) : State := s.wr srvPg SRV.STEP_NS_LAST (min 0xFFFFFFFF ((s.now - x.at0) * 5 / 32))

/-- The sequence `q` is entered with its record `r`, its function told, and the step dropped. -/
def State.takeResult (s : State) (n slot : Nat) (q : Seq) (fn : Nat) (r : Nat × Nat) : State :=
  (((s.setSeq slot q).writeRec fn r).ringIrq fn).dropStep n

section result
variable {s : State} {n : Nat} (slot : Nat) (q : Seq) (fn : Nat) (r : Nat × Nat)

theorem srv_takeResult : ∃ fns, (s.takeResult n slot q fn r).srv
    = { s.srv with seqs := mput s.srv.seqs slot q, fns := fns, steps := s.srv.steps.filter (fun y => y.step != n) } := by
  obtain ⟨fns, hrec⟩ := srv_writeRec (s.setSeq slot q) fn r
  have hirq : (((s.setSeq slot q).writeRec fn r).ringIrq fn).srv = ((s.setSeq slot q).writeRec fn r).srv :=
    (State.ringIrq_frame _ _).keeps .srv (by decide)
  refine ⟨fns, ?_⟩
  rw [State.takeResult, State.dropStep, State.modSrv, hirq, hrec]
  rfl

theorem seq_takeResult : (s.takeResult n slot q fn r).seq slot = q := by
  obtain ⟨fns, hsrv⟩ := srv_takeResult (s := s) (n := n) slot q fn r
  rw [State.seq, hsrv, mget_mput_same]

theorem fieldsKept_takeResult : FieldsKept endFields s (s.takeResult n slot q fn r) :=
  (((ServWork.refl s).setSeq slot q).trans (servWork_writeRec _ _ _)).fields.frame
    ((State.dropStep_frame (((s.setSeq slot q).writeRec fn r).ringIrq fn) n).after (by decide)
      ((State.ringIrq_frame _ _).after (by decide) (.refl [.out, .srv] _))) (by decide)

end result

section close
variable {s : State} {n : Nat} {x : StepS} {y : StepSeq} {q : Seq} {fn : Nat} {r : Nat × Nat}

theorem drainModel_of_open {m : Nat} (h : s.mdlState m ≠ 3) : s.drainModel m = s := if_pos (.inl h)

theorem stepCloseEffect_of_result (hrec : s.stepRec n = some x) (hphase : x.phase = 2) (hx : x.seqs = [y]) (hsampled : y.sampled = true)
    (hfailed : s.srv.failed = []) (hswap : s.mdlState x.model ≠ 3) (hfn : (s.seq y.slot).fn = fn)
    (hclose : (s.showTime x).closeOne y = (((s.showTime x).setSeq y.slot q).writeRec fn r, true)) :
    stepCloseEffect s n = (((s.showTime x).takeResult n y.slot q fn r).settleMoves).sendUnsent := by
  obtain ⟨fns, hsrv⟩ := srv_takeResult (s := s.showTime x) (n := n) y.slot q fn r
  have hnone : ((s.showTime x).takeResult n y.slot q fn r).srv.failed = [] := by
    rw [hsrv]
    exact hfailed
  have hfields := (fieldsKept_takeResult (s := s.showTime x) (n := n) y.slot q fn r).trans (servWork_settleMoves _).fields
  have hopen : (((s.showTime x).takeResult n y.slot q fn r).settleMoves).mdlState x.model ≠ 3 := by
    rw [State.mdlState, hfields _ _ (.of_check (by decide)) (by decide), State.showTime,
      rd_wr_other _ _ _ _ _ _ (fkey_ne_of_fits (.of_check (by decide)) (.of_check (by decide)) (by decide))]
    exact hswap
  have hguard : ¬(x.phase ≠ 2 ∨ (!x.seqs.all (fun y => y.sampled || y.failed || !(s.seq y.slot).live)) = true) := by
    simp [hphase, hx, hsampled]
  have hfn' : ((s.showTime x).seq y.slot).fn = fn := hfn
  rw [stepCloseEffect, hrec]
  dsimp only
  rw [if_neg hguard, ← State.showTime, hx, List.foldl_cons, List.foldl_nil, hclose, hfn']
  show ((((s.showTime x).takeResult n y.slot q fn r).settleFailed.settleMoves).drainModel x.model).sendUnsent = _
  rw [settleFailed_of_none hnone, drainModel_of_open hopen]

theorem seq_sendUnsent (s : State) (k : Nat) : s.sendUnsent.seq k = s.seq k := by
  have hseqs : s.sendUnsent.srv.seqs = s.srv.seqs := (congrArg SrvS.seqs (noUnsent_sendUnsent s) :)
  rw [State.seq, hseqs, State.seq]

/-- Sending brings no step into the table. -/
theorem step_of_mem_sendUnsent {z : StepS} (hz : z ∈ s.sendUnsent.srv.steps) : ∃ v ∈ s.srv.steps, v.step = z.step := by
  have hsteps : s.sendUnsent.srv.steps.map (fun y => { y with unsent := [] }) = s.srv.steps.map (fun y => { y with unsent := [] }) :=
    (congrArg SrvS.steps (noUnsent_sendUnsent s) :)
  obtain ⟨v, hv, heq⟩ := List.mem_map.1 (hsteps ▸ List.mem_map_of_mem hz)
  exact ⟨v, hv, (congrArg StepS.step heq :)⟩

/-- What the close leaves: the sequence's entry, no step of that number, and the time shown. -/
theorem stepClose_done (hpark : q.state ≠ 3) (hunpark : q.state ≠ 5) {u : State}
    (hu : u = (((s.showTime x).takeResult n y.slot q fn r).settleMoves).sendUnsent) :
    u.seq y.slot = q ∧ (∀ z ∈ u.srv.steps, z.step ≠ n)
      ∧ u.rd srvPg SRV.STEP_NS_LAST = min 0xFFFFFFFF ((s.now - x.at0) * 5 / 32) := by
  have hseq := seq_takeResult (s := s.showTime x) (n := n) y.slot q fn r
  have hmoves := servWork_settleMoves ((s.showTime x).takeResult n y.slot q fn r)
  subst hu
  refine ⟨?_, fun z hz => ?_, ?_⟩
  · rw [seq_sendUnsent, seq_settleMoves (by rwa [hseq]) (by rwa [hseq]), hseq]
  · obtain ⟨v, hv, heq⟩ := step_of_mem_sendUnsent hz
    rw [hmoves.steps_eq] at hv
    exact heq ▸ step_ne_of_mem_dropStep hv
  · have hfields := (fieldsKept_takeResult (s := s.showTime x) (n := n) y.slot q fn r).trans hmoves.fields
    rw [(State.sendUnsent_frame _).rd_eq (by decide), hfields _ _ (.of_check (by decide)) (by decide), State.showTime, rd_wr_same]
    exact Nat.mod_eq_of_lt (Nat.lt_of_le_of_lt (Nat.min_le_left _ _) (by decide))

end close

end Sys2Proof.Machine
end

section
/-! PROOFS. The assembly of a step from the one sequence that may run. Settles O22. -/

namespace Sys2Proof.Machine

/-! ### The one sequence of a model (R225) -/

section sole
variable {s : State} {m k : Nat} (hkeys : s.srv.seqs.map (fun e => e.1) = [k])
include hkeys

theorem seqs_of_keys : s.srv.seqs = [(k, s.seq k)] := by
  obtain ⟨⟨j, q⟩, hseqs, hj⟩ := List.map_eq_singleton_iff.1 hkeys
  obtain rfl : j = k := hj
  simp [State.seq, hseqs, mget, mfind]

theorem liveOf_of_keys (hlive : (s.seq k).live = true) (hmodel : (s.seq k).model = m) : s.liveOf m = [k] := by
  rw [State.liveOf, State.liveSlots, seqs_of_keys hkeys]
  simp [hlive, hmodel]

omit hkeys in
/-- Of the tenants, in any order of turns, one is `t`. -/
theorem filter_turns (a : Nat) {t : Nat} (ht : t < 256) :
    ((List.range 256).map (fun i => (a + 1 + i) % 256)).filter (fun x => t == x) = [t] := by
  have hnodup : ((List.range 256).map (fun i => (a + 1 + i) % 256)).Nodup := by
    refine List.nodup_range.map_on fun i hi j hj h => ?_
    have := List.mem_range.1 hi
    have := List.mem_range.1 hj
    omega
  have hmem : t ∈ (List.range 256).map (fun i => (a + 1 + i) % 256) :=
    List.mem_map.2 ⟨(t + 256 - (a + 1) % 256) % 256, List.mem_range.2 (by omega), by omega⟩
  rw [show (fun x => t == x) = fun x => x == t from funext fun x => Bool.beq_comm, List.filter_beq,
    List.count_eq_one_of_mem hnodup hmem, List.replicate_one]

theorem drrList_of_keys (hlive : (s.seq k).live = true) (hmodel : (s.seq k).model = m) (ht : (s.seq k).tenant < 256) :
    s.drrList m (s.seq k).state = [((s.seq k).tenant, [k])] := by
  have hserved (x : Nat) : (!(sortBy (fun a b => decide ((s.seq a).order ≤ (s.seq b).order))
      ([k].filter (fun k => (s.seq k).tenant == x))).isEmpty) = ((s.seq k).tenant == x) := by
    by_cases hx : (s.seq k).tenant = x
    · simp [hx, sortBy, insertBy]
    · simp [hx, sortBy]
  have hstate : [k].filter (fun j => (s.seq j).state == (s.seq k).state) = [k] := by simp
  rw [State.drrList, liveOf_of_keys hkeys hlive hmodel, hstate, List.filter_map]
  simp only [Function.comp_def, hserved]
  rw [filter_turns _ ht]
  simp [sortBy, insertBy]

theorem drrList_of_other (hlive : (s.seq k).live = true) (hmodel : (s.seq k).model = m) {st : Nat} (hst : (s.seq k).state ≠ st) :
    s.drrList m st = [] := by
  simp [State.drrList, liveOf_of_keys hkeys hlive hmodel, hst, sortBy]

theorem expire_of_keys (hlive : (s.seq k).live = true) (hmodel : (s.seq k).model = m) (hdeadline : (s.seq k).deadline = 0) :
    s.expire m = s := by
  simp [State.expire, liveOf_of_keys hkeys hlive hmodel, hdeadline, State.expired]

end sole

/-! ### Its turn (R225, R226) -/

/-- The tenants' figures in the controller replaced. -/
def State.withTens (s : State) (tens : FMap TenX) : State := s.modSrv (fun x => { x with tens := tens })

section turn
variable {s : State} {m k t cap : Nat} {spec : Bool} {w : Drr}

/-- The sequence is taken for one position. -/
def Drr.take (w : Drr) (k fn t : Nat) : Drr :=
  { w with cap := w.cap - 1, taken := w.taken ++ [newStepSeq k 1 0 false], used := mput w.used fn (mget w.used 0 fn + 2), last := t }

theorem refill_of_unlimited (h : s.rd (tenPg t) TEN.RATE = 0) : ∃ tens, s.refill t = s.withTens tens := by
  rw [State.refill]
  dsimp only
  rw [if_pos h]
  exact ⟨_, rfl⟩

theorem kEff_of_zero (h : (s.seq k).kMax = 0) : s.kEff (s.seq k) cap spec = 0 := by simp [State.kEff, h]

theorem drrTenant_of_single (hk : (s.seq k).kMax = 0) (hrate : s.rd (tenPg t) TEN.RATE = 0) (hdeficit : 1 ≤ (s.ten t).deficit)
    (hcap : 1 ≤ w.cap) (hroom : mget w.used 0 (s.seq k).fn + 2 ≤ s.room (s.seq k).fn) :
    ∃ tens, drrTenant m cap false spec t [k] s w = (s.withTens tens, w.take k (s.seq k).fn t, []) := by
  have hfits : ¬((1 : Nat) < 1 ∨ min (s.ten t).deficit w.cap < 1 ∨ ((0 : Nat) ≠ 0 ∧ s.rd (tenPg t) TEN.BUCKET < 1)) := by omega
  rw [drrTenant]
  simp only [Bool.false_eq_true, false_and, if_false, kEff_of_zero hk, hrate, if_neg hfits, Nat.add_zero, if_neg (Nat.not_lt.2 hroom)]
  exact ⟨_, rfl⟩

theorem drrRound_of_single (hk : (s.seq k).kMax = 0) (hrate : s.rd (tenPg t) TEN.RATE = 0) (hcap : 1 ≤ w.cap)
    (hroom : mget w.used 0 (s.seq k).fn + 2 ≤ s.room (s.seq k).fn) :
    ∃ tens, drrRound m cap false spec [(t, [k])] s w = (s.withTens tens, w.take k (s.seq k).fn t, [(t, [])]) := by
  obtain ⟨tens, htenant⟩ := drrTenant_of_single (m := m) (cap := cap) (spec := spec) (w := w) (t := t)
    (s := s.modTen t (fun x => { x with deficit := x.deficit + 16 * max 1 (s.rd (tenPg t) TEN.WEIGHT) })) hk hrate
    (by rw [State.ten, State.modTen, State.modSrv, mget_mput_same]; exact Nat.le_trans (by omega) (Nat.le_add_left _ _)) hcap hroom
  rw [drrRound]
  dsimp only
  rw [htenant]
  exact ⟨_, rfl⟩

theorem drrRounds_of_nil (prefill : Bool) (n : Nat) : drrRounds m cap prefill spec (n + 1) [] s w = (s, w) := by
  simp [drrRounds, drrRound]

theorem drrRounds_of_single (hk : (s.seq k).kMax = 0) (hrate : s.rd (tenPg t) TEN.RATE = 0) (hcap : 1 ≤ w.cap)
    (hroom : mget w.used 0 (s.seq k).fn + 2 ≤ s.room (s.seq k).fn) :
    ∃ tens, drrRounds m cap false spec 2 [(t, [k])] s w = (s.withTens tens, w.take k (s.seq k).fn t) := by
  obtain ⟨tens, hround⟩ := drrRound_of_single (m := m) (cap := cap) (spec := spec) (w := w) hk hrate hcap hroom
  have hgrew : (w.take k (s.seq k).fn t).taken.length ≠ w.taken.length := by simp [Drr.take]
  rw [drrRounds, hround]
  dsimp only
  rw [if_neg hgrew]
  exact ⟨tens, drrRounds_of_nil false 0⟩

end turn

/-! ### The step started (R227, R228) -/

section start
variable {s : State} {m : Nat} {sh : Shape} {w : Drr} {q : StepSeq}

/-- The entries and tokens of a step leave the controller's tables. -/
theorem srv_writeStep (s : State) (sh : Shape) (l l' : List (List Byte)) (a : Nat) (b : List Byte) :
    (((s.writeJobs sh false l).devWrite a b).writeJobs sh true l').srv = s.srv := by
  have hframe : Frame [.cstore, .regs, .dev] s (((s.writeJobs sh false l).devWrite a b).writeJobs sh true l') :=
    (State.writeJobs_frame ..).after (by decide) ((State.devWrite_frame ..).after (by decide)
      ((State.writeJobs_frame ..).after (by decide) (.refl _ s)))
  exact hframe.keeps .srv (by decide)

/-- A step of one sequence that drafts nothing, waiting for room on its cores. -/
theorem startStep_of_single (hq : w.taken = [q]) (hn : q.n ≤ sh.cap) (hk : q.k = 0)
    (hvalid : ∀ c ∈ s.shapeCores sh, s.rdB fltPg (FLT.CORE_REDIR_VALID c.logical) = true) :
    ∃ y : StepS, (y.step = s.srv.nextStep ∧ y.model = m ∧ y.seqs = [q] ∧ y.phase = 0 ∧ y.rounds = 0
        ∧ y.cores = (s.shapeCores sh).map (fun c => (s.physOfCore c.logical, false)))
      ∧ (s.startStep m [sh] w).srv.steps = s.srv.steps ++ [y] ∧ (s.startStep m [sh] w).srv.nextStep = s.srv.nextStep + 1 := by
  have hseqs : sortBy (fun a b => decide (a.slot ≤ b.slot)) w.taken = [q] := by simp [hq, sortBy, insertBy]
  have hshape : [sh].find? (fun x => decide (positionsOf [q] ≤ x.cap)) = some sh := by simp [positionsOf, sumN, hn]
  have hplaced : (s.shapeCores sh).any (fun c => !s.rdB fltPg (FLT.CORE_REDIR_VALID c.logical)) = false :=
    List.any_eq_false.2 fun c hc => by simp [hvalid c hc]
  have hrounds : maxN ([q].map (fun q => q.k)) = 0 := by simp [maxN, hk]
  rw [State.startStep]
  dsimp only
  rw [hseqs, hshape]
  dsimp only
  rw [hplaced, hrounds, if_neg Bool.false_ne_true, if_pos rfl, srv_writeStep]
  exact ⟨_, ⟨rfl, rfl, rfl, rfl, rfl, rfl⟩, rfl, rfl⟩

end start

/-! ### Assembly (R225, R227) -/

/-- The tenant that the model's next assembly starts after. -/
def State.serveFrom (s : State) (m t : Nat) : State := s.modMdl m (fun x => { x with lastTenant := t })

/-- Nothing is taken yet, with `cap` positions to give. -/
def State.drrStart (s : State) (m cap : Nat) : Drr := { cap := cap, taken := [], used := [], waited := [], last := (s.mdl m).lastTenant }

section assembly
variable {s : State} {m k : Nat} {sh : Shape}

/-- The generating sequences are served: the one there is takes one position. -/
theorem drr_of_keys {cap : Nat} {spec : Bool} (hkeys : s.srv.seqs.map (fun e => e.1) = [k]) (hstate : (s.seq k).state = 2)
    (hmodel : (s.seq k).model = m) (hmax : (s.seq k).kMax = 0) (ht : (s.seq k).tenant < 256)
    (hrate : s.rd (tenPg (s.seq k).tenant) TEN.RATE = 0) (hroom : 2 ≤ s.room (s.seq k).fn) (hcap : 1 ≤ cap) :
    ∃ tens, s.drr m cap 2 spec (s.drrStart m cap)
      = (s.withTens tens, (s.drrStart m cap).take k (s.seq k).fn (s.seq k).tenant) := by
  have hlive : (s.seq k).live = true := by simp [Seq.live, hstate]
  have hlist := drrList_of_keys hkeys hlive hmodel ht
  rw [hstate] at hlist
  have hcount : s.srv.seqs.length + 1 = 2 := by rw [seqs_of_keys hkeys]; rfl
  rw [State.drr, hlist, hcount]
  exact drrRounds_of_single hmax hrate hcap (by simpa [State.drrStart, mget, mfind] using hroom)

/-- With no sequence to prefill nothing more is taken. -/
theorem drr_prefill_of_keys {cap : Nat} {w : Drr} (hkeys : s.srv.seqs.map (fun e => e.1) = [k]) (hstate : (s.seq k).state = 2)
    (hmodel : (s.seq k).model = m) : s.drr m cap 1 false w = (s, w) := by
  have hlive : (s.seq k).live = true := by simp [Seq.live, hstate]
  rw [State.drr, drrList_of_other hkeys hlive hmodel (by omega)]
  exact drrRounds_of_nil _ _

/-- The model's tenants have their buckets filled. -/
def State.refillOf (s : State) (m : Nat) : State :=
  (((s.liveOf m).map (fun k => (s.seq k).tenant)).eraseDups).foldl (fun s t => s.refill t) s

/-- An assembly whose rounds take a sequence starts the step. -/
theorem stepAssemblyEffect_of_rounds {top : Shape} {cap : Nat} {r t u : State} {w v : Drr} (hmay : s.mayAssemble m = true)
    (hexpire : s.expire m = s) (htop : (s.shapesOf m).getLast? = some top)
    (hsound : s.devBad (s.rd (mdlPg m) MDL.SHAPES) 64 = false) (hshape : (s.shapesOf m).any (fun x => s.shapeBad x) = false)
    (hcap : cap = min (max 1 (s.rd (mdlPg m) MDL.STEP_TOKENS)) top.cap)
    (hrefill : s.refillOf m = r) (hfirst : r.drr m cap 2 (r.mayDraft m) (r.drrStart m cap) = (t, w))
    (hsecond : (t.serveFrom m w.last).drr m cap 1 false w = (u, v)) (htaken : v.taken.isEmpty = false) :
    stepAssemblyEffect s m
      = ((u.inc srvPg SRV.RING_WAIT_CNT v.waited.length).serveFrom m v.last).startStep m (s.shapesOf m) v := by
  have hguard : ¬(s.devBad (s.rd (mdlPg m) MDL.SHAPES) 64 = true ∨ (s.shapesOf m).any (fun x => s.shapeBad x) = true) := by
    simp [hsound, hshape]
  rw [State.drrStart, hcap] at hfirst
  rw [State.serveFrom, hcap] at hsecond
  rw [stepAssemblyEffect, hmay, Bool.not_true, if_neg Bool.false_ne_true, hexpire]
  dsimp only
  rw [htop]
  dsimp only
  rw [if_neg hguard, ← State.refillOf, hrefill, hfirst]
  dsimp only
  rw [hsecond]
  dsimp only
  rw [htaken, if_neg Bool.false_ne_true]
  rfl

/-- The fault page lies above the controller's, where the count of waits is. -/
theorem rd_fltPg_ringWait (s : State) (n : Nat) (f : Fld) : (s.inc srvPg SRV.RING_WAIT_CNT n).rd fltPg f = s.rd fltPg f := by
  refine rd_wr_other _ _ _ _ _ _ ?_
  have hcount : fldStart SRV.RING_WAIT_CNT < 32768 := by decide
  rw [fkey_eq, fkey_eq, fltPg, srvPg]
  omega

/-- The state from which the step starts: the tenants' and the model's turn moved, and the sequences that waited counted. -/
def State.served (s : State) (tens : FMap TenX) (m last : Nat) (v : Drr) : State :=
  (((s.withTens tens).serveFrom m last).inc srvPg SRV.RING_WAIT_CNT v.waited.length).serveFrom m v.last

theorem rd_fltPg_served (s : State) (tens : FMap TenX) (m last : Nat) (v : Drr) (f : Fld) :
    (s.served tens m last v).rd fltPg f = s.rd fltPg f :=
  rd_fltPg_ringWait ((s.withTens tens).serveFrom m last) _ f

/-- The one sequence is taken for one position, and its step starts. -/
theorem stepAssemblyEffect_of_keys (hmay : s.mayAssemble m = true) (hkeys : s.srv.seqs.map (fun e => e.1) = [k])
    (hstate : (s.seq k).state = 2) (hmodel : (s.seq k).model = m) (hdeadline : (s.seq k).deadline = 0) (hmax : (s.seq k).kMax = 0)
    (ht : (s.seq k).tenant < 256) (hrate : s.rd (tenPg (s.seq k).tenant) TEN.RATE = 0) (hroom : 2 ≤ s.room (s.seq k).fn)
    (hshapes : s.shapesOf m = [sh]) (hcap : 1 ≤ sh.cap) (hsound : s.devBad (s.rd (mdlPg m) MDL.SHAPES) 64 = false)
    (hshape : s.shapeBad sh = false) : ∃ tens last, ∃ w : Drr, w.taken = [newStepSeq k 1 0 false]
      ∧ stepAssemblyEffect s m = (s.served tens m last w).startStep m [sh] w := by
  have hlive : (s.seq k).live = true := by simp [Seq.live, hstate]
  have htenants : ((s.liveOf m).map (fun k => (s.seq k).tenant)).eraseDups = [(s.seq k).tenant] := by
    rw [liveOf_of_keys hkeys hlive hmodel]
    rfl
  obtain ⟨tens, hrefill⟩ := refill_of_unlimited hrate
  have hrefillOf : s.refillOf m = s.withTens tens := by rw [State.refillOf, htenants, List.foldl_cons, List.foldl_nil, hrefill]
  obtain ⟨tens', hfirst⟩ := drr_of_keys (s := s.withTens tens) (spec := (s.withTens tens).mayDraft m)
    (cap := min (max 1 (s.rd (mdlPg m) MDL.STEP_TOKENS)) sh.cap) hkeys hstate hmodel hmax ht hrate hroom (by omega)
  rw [show (s.withTens tens).withTens tens' = s.withTens tens' from rfl] at hfirst
  have hsecond (cap last : Nat) (w : Drr) : ((s.withTens tens').serveFrom m last).drr m cap 1 false w = ((s.withTens tens').serveFrom m last, w) :=
    drr_prefill_of_keys (s := (s.withTens tens').serveFrom m last) hkeys hstate hmodel
  have heffect := stepAssemblyEffect_of_rounds (top := sh) hmay (expire_of_keys hkeys hlive hmodel hdeadline) (by rw [hshapes]; rfl) hsound
    (by simp [hshapes, hshape]) rfl hrefillOf hfirst (hsecond _ _ _) rfl
  rw [hshapes] at heffect
  exact ⟨tens', _, _, rfl, heffect⟩

/-- What assembling the one sequence leaves: its step at the table's end. -/
theorem startStep_served {tens : FMap TenX} {last : Nat} {w : Drr} (htaken : w.taken = [newStepSeq k 1 0 false]) (hcap : 1 ≤ sh.cap)
    (hvalid : ∀ c ∈ s.shapeCores sh, s.rdB fltPg (FLT.CORE_REDIR_VALID c.logical) = true) {u : State}
    (hu : u = (s.served tens m last w).startStep m [sh] w) :
    (∃ y ∈ u.srv.steps, y.step = s.srv.nextStep ∧ y.model = m ∧ y.seqs = [newStepSeq k 1 0 false] ∧ y.phase = 0 ∧ y.rounds = 0
        ∧ y.cores = (s.shapeCores sh).map (fun c => (s.physOfCore c.logical, false)))
      ∧ u.srv.nextStep = s.srv.nextStep + 1 ∧ u.srv.steps.length = s.srv.steps.length + 1 := by
  have hcores : (s.served tens m last w).shapeCores sh = s.shapeCores sh := rfl
  have hsrv : (s.served tens m last w).srv.steps = s.srv.steps ∧ (s.served tens m last w).srv.nextStep = s.srv.nextStep := ⟨rfl, rfl⟩
  have hrd := rd_fltPg_served s tens m last w
  obtain ⟨y, hy, hsteps, hnext⟩ := startStep_of_single (m := m) (s := s.served tens m last w) htaken hcap rfl
    (fun c hc => by rw [State.rdB, hrd]; exact hvalid c (hcores ▸ hc))
  simp only [State.physOfCore, hrd, hcores, hsrv.2] at hy
  rw [hu, hsteps, hnext, hsrv.1, hsrv.2]
  exact ⟨⟨y, List.mem_append_right _ (List.mem_singleton_self y), hy⟩, rfl, List.length_append⟩

end assembly

/-- Settles O22: a step is assembled, drafted, sampled, reported on, closed or aborted, and a failed sequence ends. -/
theorem stepsRunToTheirClose : Obligations.StepsRunToTheirClose := by
  unfold Obligations.StepsRunToTheirClose
  refine fun s m k n x => ⟨?assembly, fun hrec => ⟨?draft, ?sampling, ?prefill, ?close, ?ended, ?failed, ?discarded⟩, ?sequence⟩
  case assembly =>
    intro sh hlets hmay hkeys hstate hmodel hdeadline hmax ht hrate hroom hshapes hcap hsound hshape hvalid
    obtain ⟨tens, last, w, htaken, heffect⟩ :=
      stepAssemblyEffect_of_keys hmay hkeys hstate hmodel hdeadline hmax ht hrate hroom hshapes hcap hsound hshape
    exact ⟨_, exec_of_effect hlets rfl heffect, startStep_served htaken hcap hvalid rfl⟩
  case draft =>
    intro y row hlets hphase hgrant hx hk hfailed hlive hlast hrow
    have heffect := draftRoundEffect_last hrec hphase hgrant (roundSeqs_of_single hx hk hfailed hlive) hlast hrow
    exact ⟨_, exec_of_effect hlets rfl heffect, draftRound_done hrec hx rfl⟩
  case sampling =>
    intro hub hlets hphase
    obtain ⟨z, hz, hslots, hsampled⟩ := sampledBut_samplingEffect (hub := hub) hrec hphase
    refine ⟨_, exec_of_effect hlets rfl rfl, z, stepRec_mem hz, stepRec_step hz, hslots, fun w hw hhub => ?_⟩
    exact (hsampled w hw hhub).resolve_right List.not_mem_nil
  case prefill =>
    intro y row hlets hphase hx hprefill hfailed hnew hlive hlast hrow
    have heffect := samplingEffect_of_prefill hrec hphase hx hprefill hfailed hnew hlive hlast hrow
    exact ⟨_, exec_of_effect hlets rfl heffect, ⟨_, stepRec_mem (stepRec_modStep (fun _ => rfl) hrec), (stepRec_step hrec :),
      StepS.seqs_putSeq_of_single hx rfl⟩, (State.modStep_frame ..).keeps⟩
  case close =>
    intro y t lp hlets hphase hx hsampled hfailed hprefill htoks hk haccepted hstate hstop hdeadline hroom hswap hnone
    have hlive : (s.seq y.slot).live = true := by simp [Seq.live, hstate]
    obtain ⟨r, hclose⟩ := closeOne_of_token (s := s.showTime x) hfailed hprefill htoks hk haccepted hlive hstop hdeadline hroom
    rw [show (s.showTime x).seq y.slot = s.seq y.slot from rfl] at hclose
    have heffect := stepCloseEffect_of_result hrec hphase hx hsampled hnone hswap rfl hclose
    obtain ⟨hkept, hpos, htoken, hattempts⟩ := (s.seq y.slot).takeToken_fields t
    rw [hstate] at hkept
    obtain ⟨hseq, hgone, htime⟩ := stepClose_done (s := s) (n := n) (x := x) (y := y) (fn := (s.seq y.slot).fn) (r := r)
      (by omega : ((s.seq y.slot).takeToken t).state ≠ 3) (by omega) rfl
    refine ⟨_, exec_of_effect hlets rfl heffect, ?_⟩
    dsimp only
    rw [hseq]
    exact ⟨hpos, htoken, hattempts, hkept, hgone, htime⟩
  case ended =>
    intro c hlets hn hphase hlast
    exact ⟨_, exec_of_effect hlets rfl rfl, exists_step_stepEndReportEffect hrec hn hphase hlast⟩
  case failed =>
    intro c hlets hn hc
    obtain ⟨hgone, hcount, htold⟩ := abortStep_done s c x
    refine ⟨_, exec_of_effect hlets rfl (stepFailureEffect_of_abort hrec hn hc), ?_, hcount, htold⟩
    rwa [stepRec_step hrec] at hgone
  case discarded =>
    intro c y hlets hn hy
    obtain ⟨r, heffect⟩ := stepFailureEffect_of_discarded hrec hn hy
    have hz := stepRec_modStep (f := StepS.keepUnsent c r) (fun _ => rfl) hrec
    exact ⟨_, exec_of_effect hlets rfl heffect, ⟨_, stepRec_mem hz, stepRec_step hz, StepS.unsent_keepUnsent c r x⟩,
      (State.modStep_frame ..).keeps⟩
  case sequence =>
    intro c hlets hlive
    have hended := seq_endSeq (s.markFailed k) 0x06 0 (k := k) hlive
    refine ⟨_, exec_of_effect hlets rfl (seqFailEffect_eq s k), ?_, ?_, agreeOff_endSeq (s.markFailed k) 0x06 0 k⟩
    · rw [hended]
      rfl
    · rw [hended]
      rfl

end Sys2Proof.Machine
end

section
/-! PROOFS. What the ingest engine's operations leave: memory writes, events, the start of jobs. -/

namespace Sys2Proof.Machine

/-! ### Memory writes and refusals (R247, R325) -/

theorem fieldsKept_writeBack (s : State) (h code layers status : Nat) :
    FieldsKept [CXL.WR_BYTES] s (s.writeBack h code layers status) := fieldsKept_devWrite s _ _

/-- A refusal is counted, and the host told. -/
def State.countRefusal (s : State) : State := (s.inc ingPg INGEST.REFUSED_CNT).irq ingPg 3

theorem refused_countRefusal (s : State) :
    s.countRefusal.rd ingPg INGEST.REFUSED_CNT = (s.rd ingPg INGEST.REFUSED_CNT + 1) % 2 ^ 64 := by
  rw [State.countRefusal, fieldsKept_irq _ _ _ _ _ (.of_check (by decide)) (by decide), State.inc, rd_wr_same]
  rfl

theorem fieldsKept_countRefusal (s : State) : FieldsKept (INGEST.REFUSED_CNT :: irqFields) s s.countRefusal :=
  ((FieldsKept.refl _ s).wr _ _ (.of_check (by decide)) (by decide)).trans
    ((fieldsKept_irq _ _ _).mono fun _ hf => List.mem_cons_of_mem _ hf)

theorem ingest_countRefusal (s : State) : s.countRefusal.ingest = s.ingest := irq_ingest _ _ _

/-! ### A job changed where it is the only one -/

theorem jobs_modJob_of_single {s : State} {j : IngJob} (h : s.ingest.jobs = [j]) (f : IngJob → IngJob) :
    (s.modJob j.idx f).ingest.jobs = [f j] := by
  simp [State.modJob, h, mapIf]

/-! ### The start of jobs (R248, R258) -/

/-- What showing the jobs moves. -/
def jobShowFields : List Fld := [INGEST.STAT_BOUND, INGEST.STAT_RUNNING]

theorem fieldsKept_showJobs (s : State) : FieldsKept jobShowFields s s.showJobs :=
  ((FieldsKept.refl _ s).wr _ _ (.of_check (by decide)) (by decide)).wr _ _ (.of_check (by decide)) (by decide)

section start
variable {s : State} {j : IngJob}

theorem startJobs_of_none_may (h : ∀ k ∈ s.ingest.jobs, s.mayStart k = false) : s.startJobs = s.showJobs := by
  have hfold (l : List IngJob) (hl : ∀ k ∈ l, s.mayStart k = false) :
      l.foldl (fun s j => if s.mayStart j then s.startJob j else s) s = s := by
    induction l with
    | nil => rfl
    | cons k l ih =>
      obtain ⟨hk, hl⟩ := List.forall_mem_cons.1 hl
      rw [List.foldl_cons, hk, if_neg Bool.false_ne_true, ih hl]
  rw [State.startJobs, hfold _ h]

theorem mayStart_of_full (h : 4 ≤ (s.ingest.jobs.filter (fun k => k.running)).length) (k : IngJob) : s.mayStart k = false := by
  simp [State.mayStart, h]

theorem mayStart_of_phase (h : j.phase ≠ 0) : s.mayStart j = false := by
  simp [State.mayStart, h]

theorem mayStart_of_single (hjobs : s.ingest.jobs = [j]) (hphase : j.phase = 0) (hop : j.op = 1)
    (hen : s.rdB ingPg INGEST.CTRL_ENABLE = true) : s.mayStart j = true := by
  simp [State.mayStart, hjobs, hphase, hop, hen, IngJob.running]

theorem startJobs_of_single (hjobs : s.ingest.jobs = [j]) (hmay : s.mayStart j = true) : s.startJobs = (s.startJob j).showJobs := by
  rw [State.startJobs, hjobs, List.foldl_cons, List.foldl_nil, if_pos hmay]

/-- A LOAD starts: it runs, its entry says so, and its model is loading. -/
theorem startJob_of_load (hop : j.op = 1) :
    s.startJob j = ((s.modJob j.idx (fun x => { x with phase := 1 })).writeBack j.idx 0 0 1).wr (mdlPg j.model) MDL.STATE 1 := by
  have hpeer : j.peer = none := by simp [IngJob.peer, hop]
  rw [State.startJob, hpeer]
  exact if_pos hop

/-- The only job, a LOAD, starts at once. -/
theorem startJobs_of_load (hjobs : s.ingest.jobs = [j]) (hphase : j.phase = 0) (hop : j.op = 1)
    (hen : s.rdB ingPg INGEST.CTRL_ENABLE = true) :
    s.startJobs.ingest.jobs = [{ j with phase := 1 }] ∧ s.startJobs.rd (mdlPg j.model) MDL.STATE = 1 := by
  rw [startJobs_of_single hjobs (mayStart_of_single hjobs hphase hop hen), startJob_of_load hop]
  constructor
  · have hback := (State.writeBack_frame (s.modJob j.idx (fun x => { x with phase := 1 })) j.idx 0 0 1).keeps .ingest (by decide)
    exact (congrArg IngestS.jobs hback).trans (jobs_modJob_of_single hjobs _)
  · rw [fieldsKept_showJobs _ _ _ (.of_check (by decide)) (by decide), rd_wr_same]
    rfl

end start

end Sys2Proof.Machine
end

section
/-! PROOFS. The aperture, jobs at the head of their ring, ENABLE, and the credit of a job that exports. Settles O25. -/

namespace Sys2Proof.Machine

/-! ### A write of the aperture (R244, R245, R324) -/

/-- A poisoned write is counted at the port. -/
def State.countPoison (s : State) (poisoned : Bool) : State := if poisoned then s.inc (pciePg 1) PCIE.POISON_RX_CNT else s

theorem ingestWriteEffect_of_ok {s : State} {stream : Option Nat} (h : s.ide 1 stream = .ok) (addr : Nat) (data : List Byte)
    (poisoned : Bool) : ingestWriteEffect s addr data poisoned stream = (s.countPoison poisoned).apertureEffect addr data poisoned := by
  rw [ingestWriteEffect, h]
  rfl

theorem aperturePiece_nil (s : State) (addr : Nat) (poisoned : Bool) : s.aperturePiece addr [] poisoned = s := by
  rw [State.aperturePiece, List.isEmpty_nil, if_pos rfl]

/-- A write that ends within its window slot has one piece. -/
theorem apertureEffect_of_fits (s : State) {addr : Nat} {data : List Byte} (poisoned : Bool)
    (h : addr % 2 ^ 20 + data.length ≤ 2 ^ 20) : s.apertureEffect addr data poisoned = s.aperturePiece addr data poisoned := by
  have hlen : min data.length (2 ^ 20 - addr % 2 ^ 20) = data.length := by omega
  rw [State.apertureEffect, hlen, List.take_length, List.drop_length, aperturePiece_nil]

section poison
variable (s : State) (b : Bool)

theorem fieldsKept_countPoison : FieldsKept [PCIE.POISON_RX_CNT] s (s.countPoison b) :=
  .ite ((FieldsKept.refl _ s).wr _ _ (.of_check (by decide)) (by decide)) (.refl _ s)

theorem countPoison_frame : Frame [.regs] s (s.countPoison b) := .ite (State.inc_frame ..) (.refl _ s)

@[simp] theorem ingest_countPoison : (s.countPoison b).ingest = s.ingest := (countPoison_frame s b).keeps .ingest (by decide)
@[simp] theorem dev_countPoison : (s.countPoison b).dev = s.dev := (countPoison_frame s b).keeps .dev (by decide)
@[simp] theorem hbms_countPoison : (s.countPoison b).hbms = s.hbms := (countPoison_frame s b).keeps .hbms (by decide)

@[simp] theorem slots_countPoison : (s.countPoison b).rd ingPg INGEST.STAGE_CFG_SLOTS = s.rd ingPg INGEST.STAGE_CFG_SLOTS :=
  fieldsKept_countPoison s b _ _ (.of_check (by decide)) (by decide)

@[simp] theorem stageAddr_countPoison (ch k : Nat) : (s.countPoison b).stageAddr ch k = s.stageAddr ch k := by
  rw [State.stageAddr, State.stageAddr, slots_countPoison, State.rdA, State.rdA,
    fieldsKept_countPoison s b _ INGEST.STAGE_BASE_BASE (.of_check (by decide)) (by decide)]

@[simp] theorem channelJob_countPoison (ch : Nat) : (s.countPoison b).channelJob ch = s.channelJob ch := by
  rw [State.channelJob, ingest_countPoison, State.channelJob]

@[simp] theorem slotComplete_countPoison (ch k : Nat) : (s.countPoison b).slotComplete ch k = s.slotComplete ch k := by
  simp only [State.slotComplete, State.slotCount, ingest_countPoison, stageAddr_countPoison, State.devNat, dev_countPoison]

end poison

/-- Bytes of a chunk land at `off` of staging slot `k`, none of them of PLEN; they are counted in all and in their slot. -/
def State.stageBytes (s : State) (ch k off : Nat) (data : List Byte) (poisoned : Bool) : State :=
  ((s.devWrite (s.stageAddr ch k + off) data poisoned).inc ingPg INGEST.BYTES_IN data.length).modIng (fun x => { x with
    counts := mput x.counts (slotKey ch k)
      ((mget s.ingest.counts (0, 0) (slotKey ch k)).1 + data.length, (mget s.ingest.counts (0, 0) (slotKey ch k)).2) })

/-- The channel and the window slot that an address of the aperture lies in. -/
def apChannel (addr : Nat) : Nat := (addr - apBase) / 2 ^ 30
def apSlot (addr : Nat) : Nat := (addr - apBase) % 2 ^ 30 / 2 ^ 20

section piece
variable {s : State} {addr : Nat} {data : List Byte} {poisoned : Bool}

theorem aperturePiece_of_stray (hdata : data ≠ []) (hjob : s.channelJob (apChannel addr) = none) :
    s.aperturePiece addr data poisoned = s.strayWrite (apChannel addr) (apSlot addr) := by
  rw [apChannel] at hjob
  rw [State.aperturePiece, List.isEmpty_eq_false_iff.2 hdata, if_neg Bool.false_ne_true]
  dsimp only
  rw [hjob]
  rfl

/-- Bytes that come after PLEN, while PLEN is not whole, neither complete the chunk nor run over it. -/
theorem aperturePiece_of_partial {j : IngJob} {ch k : Nat} (hdata : data ≠ []) (hch : ch = apChannel addr)
    (hk : k = apSlot addr % s.rd ingPg INGEST.STAGE_CFG_SLOTS) (hjob : s.channelJob ch = some j)
    (hslot : s.slotComplete ch k = false) (hoff : 12 ≤ addr % 2 ^ 20)
    (hplen : (mget s.ingest.counts (0, 0) (slotKey ch k)).2 ≠ 15) :
    s.aperturePiece addr data poisoned = s.stageBytes ch k (addr % 2 ^ 20) data poisoned := by
  have hmask (m : Nat) : (List.range 4).foldl (fun a i => if addr % 2 ^ 20 ≤ 8 + i ∧ 8 + i < addr % 2 ^ 20 + data.length
      then a ||| 2 ^ i else a) m = m := by
    have hi (i : Nat) (h : i < 4) : ¬(addr % 2 ^ 20 ≤ 8 + i ∧ 8 + i < addr % 2 ^ 20 + data.length) := by omega
    simp [List.range_succ, -Nat.reducePow, hi 0, hi 1, hi 2, hi 3]
  have hwant : ((s.stageBytes ch k (addr % 2 ^ 20) data poisoned).slotCount ch k).2 = none := by
    simp [State.slotCount, State.stageBytes, State.modIng, hplen]
  rw [apChannel] at hch
  rw [apSlot] at hk
  rw [State.aperturePiece, List.isEmpty_eq_false_iff.2 hdata, if_neg Bool.false_ne_true]
  dsimp only
  rw [← hch, hjob]
  dsimp only
  rw [← hk, hslot, if_neg Bool.false_ne_true, hmask]
  rw [State.stageBytes] at hwant ⊢
  rw [hwant]

theorem strayWrite_of_new {ch w : Nat} (h : s.ingest.stray.contains (slotKey ch w) = false) :
    s.strayWrite ch w = ((s.modIng (fun x => { x with stray := x.stray ++ [slotKey ch w] })).inc ingPg INGEST.STRAY_CNT).emit ingPg
      0x303A (apBase + ch * 2 ^ 30 + w * 2 ^ 20) := by
  rw [State.strayWrite, h, if_neg Bool.false_ne_true]

end piece

section stage
variable (s : State) (b : Bool) (ch k off : Nat) (data : List Byte)

theorem counts_stageBytes : (mget (s.stageBytes ch k off data b).ingest.counts (0, 0) (slotKey ch k)).1
    = (mget s.ingest.counts (0, 0) (slotKey ch k)).1 + data.length := by
  rw [State.stageBytes, State.modIng, mget_mput_same]

theorem jobs_stageBytes : (s.stageBytes ch k off data b).ingest.jobs = s.ingest.jobs := by
  have hkept : (s.devWrite (s.stageAddr ch k + off) data b).ingest = s.ingest := (State.devWrite_frame ..).keeps .ingest (by decide)
  exact (congrArg IngestS.jobs hkept :)

theorem bytesIn_stageBytes : (s.stageBytes ch k off data b).rd ingPg INGEST.BYTES_IN
    = (s.rd ingPg INGEST.BYTES_IN + data.length) % 2 ^ 64 := by
  rw [← ((PageWork.refl s).devWrite (s.stageAddr ch k + off) data b).fields ingPg INGEST.BYTES_IN (.of_check (by decide)) (by decide)]
  exact rd_wr_same _ _ _ _

theorem hbms_stageBytes : (s.stageBytes ch k off data b).hbms = s.hbms := (State.devWrite_frame s _ data b).keeps .hbms (by decide)

theorem dev_stageBytes_countPoison : ((s.countPoison b).stageBytes ch k off data b).dev
    = (s.devWrite (s.stageAddr ch k + off) data b).dev := by
  rw [show ((s.countPoison b).stageBytes ch k off data b).dev
    = ((s.countPoison b).devWrite ((s.countPoison b).stageAddr ch k + off) data b).dev from rfl, stageAddr_countPoison,
    dev_devWrite, dev_devWrite, dev_countPoison]

end stage

/-! ### Credit requests (R257) -/

theorem creditRequestEffect_of_bound {s : State} {ch : Nat} (port peer : Nat)
    (h : s.ingest.jobs.any (fun j => j.bound == some ch) = true) :
    creditRequestEffect s port peer ch = (s.modIng (fun x => { x with exporters := mput x.exporters ch (port, peer) })).send
      (.credit port ch (s.rd ingPg INGEST.STAGE_CFG_SLOTS) (s.rd ingPg (INGEST.CH_CONSUMED ch))) := if_pos h

theorem creditRequestEffect_of_unbound {s : State} {ch : Nat} (port peer : Nat)
    (h : s.ingest.jobs.any (fun j => j.bound == some ch) = false) :
    creditRequestEffect s port peer ch = s.send (.credit port ch 0 0) := if_neg (by simp [h])

/-! ### The job at the head of the ring (R247, R248) -/

/-- JOB_HEAD moves past entry `h`. -/
def State.nextHead (s : State) (h : Nat) : State := s.wr ingPg INGEST.JOB_HEAD_HEAD ((h + 1) % s.rd ingPg INGEST.JOB_CFG_ENTRIES)

/-- The job at `h` is refused for reason `r`. -/
def State.refuseJob (s : State) (h r : Nat) : State :=
  (((s.nextHead h).writeBack h 0x303C 0 4).emit ingPg 0x303C (h * 2 ^ 16 + r)).countRefusal

/-- The manifest of the job of entry `l`: that of a job of OP 3 is the model's own. -/
def State.manifestOf (s : State) (l : List Byte) : List Byte :=
  if leAt l 0 1 = 3 then mget s.ingest.manifests [] (leAt l 3 1) else s.devRead (leAt l 8 8) (128 * leAt l 4 2)

/-- The job of entry `l`, accepted at ring index `h`. -/
def State.newJob (s : State) (h : Nat) (l : List Byte) : IngJob :=
  { idx := h, op := leAt l 0 1, src := leAt l 1 1, channel := leAt l 2 1, model := leAt l 3 1,
    layers := (s.manifestOf l).length / 128, tag := leAt l 6 1, manifest := s.manifestOf l, srcAddr := leAt l 16 8,
    srcLen := leAt l 24 8, reload := leAt l 32 8, reloadN := leAt l 40 2, phase := 0, layer := 0, seq := 0, pos := 0, raw := [],
    chunks := 0, start := 0, layerEnd := false, policy := 0, failCode := 0, srcPos := 0, reloadLeft := [], lastSeen := false,
    slots := 0, consumed := 0, asking := false, askedAt := 0 }

/-- A job joins those accepted; the channel it binds starts anew. -/
def State.enterJob (s : State) (j : IngJob) : State :=
  match j.bound with
  | none => s.modIng (fun x => { x with jobs := x.jobs ++ [j] })
  | some ch => ((s.modIng (fun x => { x with jobs := x.jobs ++ [j] })).setConsumed ch 0).modIng (fun x => { x with
      counts := mdrop x.counts (fun k => k / 1024 == ch), stray := x.stray.filter (fun k => k / 1024 != ch) })

section head
variable {s : State} {h : Nat} {l : List Byte} {p : Nat → Bool}

theorem jobEffect_of_refused {r : Nat} (hhead : s.jobHead = some (h, l)) (hp : p (leAt l 0 1) = true)
    (hreason : s.jobReason h l = some r) : jobEffect s p = s.refuseJob h r := by
  rw [jobEffect, hhead]
  dsimp only
  rw [hp, Bool.not_true, if_neg Bool.false_ne_true, hreason]
  rfl

theorem jobEffect_of_accepted (hhead : s.jobHead = some (h, l)) (hp : p (leAt l 0 1) = true)
    (hreason : s.jobReason h l = none) : jobEffect s p = ((s.nextHead h).enterJob (s.newJob h l)).startJobs := by
  rw [jobEffect, hhead]
  dsimp only
  rw [hp, Bool.not_true, if_neg Bool.false_ne_true, hreason]
  rfl

/-- The three commands that take the job at the head, each for its OP. -/
theorem exec_job {i : Instr} {op : Nat} (hi : (i, op) ∈ [(Instr.jobLoad, 1), (Instr.jobSwap, 2), (Instr.jobExport, 3)]) (s : State) :
    ∃ p : Nat → Bool, p op = true ∧ exec i s = onWf s i (jobEffect s p) := by
  simp only [List.mem_cons, Prod.mk.injEq, List.not_mem_nil, or_false] at hi
  rcases hi with ⟨rfl, rfl⟩ | ⟨rfl, rfl⟩ | ⟨rfl, rfl⟩
  · exact ⟨fun op => op != 2 && op != 3, rfl, rfl⟩
  · exact ⟨fun op => op == 2, rfl, rfl⟩
  · exact ⟨fun op => op == 3, rfl, rfl⟩

theorem head_nextHead (s : State) (h : Nat) :
    (s.nextHead h).rd ingPg INGEST.JOB_HEAD_HEAD = (h + 1) % s.rd ingPg INGEST.JOB_CFG_ENTRIES % 2 ^ 8 := rd_wr_same _ _ _ _

theorem fieldsKept_nextHead (s : State) (h : Nat) : FieldsKept [INGEST.JOB_HEAD_HEAD] s (s.nextHead h) :=
  (FieldsKept.refl _ s).wr _ _ (.of_check (by decide)) (by decide)

/-! ### A job refused (R248) -/

theorem refuseJob_done (s : State) (h r : Nat) :
    (s.refuseJob h r).rd ingPg INGEST.JOB_HEAD_HEAD = (h + 1) % s.rd ingPg INGEST.JOB_CFG_ENTRIES % 2 ^ 8
      ∧ (s.refuseJob h r).rd ingPg INGEST.REFUSED_CNT = (s.rd ingPg INGEST.REFUSED_CNT + 1) % 2 ^ 64
      ∧ (s.refuseJob h r).ingest = s.ingest := by
  have hrecord := (fieldsKept_writeBack (s.nextHead h) h 0x303C 0 4).frame (State.emit_frame _ ingPg 0x303C (h * 2 ^ 16 + r)) (by decide)
  rw [State.refuseJob]
  refine ⟨?_, ?_, ?_⟩
  · rw [fieldsKept_countRefusal _ _ _ (.of_check (by decide)) (by decide), hrecord _ _ (.of_check (by decide)) (by decide),
      head_nextHead]
  · rw [refused_countRefusal, hrecord _ _ (.of_check (by decide)) (by decide),
      fieldsKept_nextHead _ _ _ _ (.of_check (by decide)) (by decide)]
  · rw [ingest_countRefusal]
    exact (State.writeBack_frame (s.nextHead h) h 0x303C 0 4).keeps .ingest (by decide)

/-! ### A job accepted (R247, R248) -/

theorem fieldsOk_of_accepted (hreason : s.jobReason h l = none) : jobFieldsOk l = true := by
  rw [State.jobReason] at hreason
  split at hreason
  · cases hreason
  · next hgood => simpa using (not_or.1 hgood).2

theorem channel_of_fieldsOk (hfields : jobFieldsOk l = true) (hop : leAt l 0 1 ≠ 3) (hsrc : leAt l 1 1 = 0) : leAt l 2 1 < 8 := by
  simp only [jobFieldsOk, Bool.and_eq_true] at hfields
  have hchannel : (if leAt l 0 1 ≠ 3 ∧ leAt l 1 1 = 0 then decide (leAt l 2 1 < 8) else leAt l 2 1 == 0) = true := by
    tauto
  rwa [if_pos ⟨hop, hsrc⟩, decide_eq_true_eq] at hchannel

/-- The channel that an accepted job binds is one of the eight. -/
theorem bound_newJob (hreason : s.jobReason h l = none) {ch : Nat} (hbound : (s.newJob h l).bound = some ch) : ch < 8 := by
  rw [IngJob.bound] at hbound
  split at hbound
  · next hc =>
    cases hbound
    exact channel_of_fieldsOk (fieldsOk_of_accepted hreason) hc.2 hc.1
  · cases hbound

theorem fieldsKept_setConsumed (s : State) {ch : Nat} (hch : ch < 8) (v : Nat) :
    FieldsKept [INGEST.CH_CONSUMED ch] s (s.setConsumed ch v) := by
  have hwrite : FieldsKept [INGEST.CH_CONSUMED ch] s (s.wr ingPg (INGEST.CH_CONSUMED ch) v) :=
    (FieldsKept.refl _ s).wr _ _ (.mk (by decide) (by omega) (by decide)) (List.mem_singleton_self _)
  exact .ite hwrite (hwrite.frame (State.creditBlock_frame _) (by decide))

theorem jobs_enterJob (s : State) (j : IngJob) : (s.enterJob j).ingest.jobs = s.ingest.jobs ++ [j] := by
  rw [State.enterJob]
  split
  · rfl
  · next ch _ =>
    exact congrArg IngestS.jobs ((State.setConsumed_frame (s.modIng (fun x => { x with jobs := x.jobs ++ [j] })) ch 0).keeps .ingest
      (by decide))

/-- What accepting a job moves of the registers. -/
def acceptFields : List Fld := (List.range 8).map INGEST.CH_CONSUMED

theorem fieldsKept_enterJob {j : IngJob} (hj : ∀ ch, j.bound = some ch → ch < 8) (s : State) :
    FieldsKept acceptFields s (s.enterJob j) := by
  have hjoin : FieldsKept acceptFields s (s.modIng (fun x => { x with jobs := x.jobs ++ [j] })) := (FieldsKept.refl _ s).of_regs rfl
  rw [State.enterJob]
  split
  · exact hjoin
  · next ch hch =>
    have hmem : INGEST.CH_CONSUMED ch ∈ acceptFields := List.mem_map.2 ⟨ch, List.mem_range.2 (hj ch hch), rfl⟩
    exact (hjoin.trans ((fieldsKept_setConsumed _ (hj ch hch) 0).mono (by simpa using hmem))).of_regs rfl

/-- Where no job may start, an accepted one waits. -/
theorem acceptJob_of_full (hreason : s.jobReason h l = none) (hfull : 4 ≤ (s.ingest.jobs.filter (fun k => k.running)).length) :
    ((s.nextHead h).enterJob (s.newJob h l)).startJobs.rd ingPg INGEST.JOB_HEAD_HEAD
        = (h + 1) % s.rd ingPg INGEST.JOB_CFG_ENTRIES % 2 ^ 8
      ∧ ((s.nextHead h).enterJob (s.newJob h l)).startJobs.ingest.jobs = s.ingest.jobs ++ [s.newJob h l] := by
  have hjobs := jobs_enterJob (s.nextHead h) (s.newJob h l)
  have hstart := startJobs_of_none_may (s := (s.nextHead h).enterJob (s.newJob h l)) fun k _ => mayStart_of_full (by
    rw [hjobs, List.filter_append, List.length_append]
    exact Nat.le_add_right_of_le hfull) k
  rw [hstart]
  refine ⟨?_, hjobs⟩
  rw [fieldsKept_showJobs _ _ _ (.of_check (by decide)) (by decide),
    fieldsKept_enterJob (fun _ => bound_newJob hreason) _ _ _ (.of_check (by decide)) (by decide), head_nextHead]

/-- The only job, a LOAD, is accepted and starts. -/
theorem acceptJob_of_load (hreason : s.jobReason h l = none) (hnone : s.ingest.jobs = [])
    (hen : s.rdB ingPg INGEST.CTRL_ENABLE = true) (hop : leAt l 0 1 = 1) :
    ((s.nextHead h).enterJob (s.newJob h l)).startJobs.ingest.jobs = [{ s.newJob h l with phase := 1 }]
      ∧ ((s.nextHead h).enterJob (s.newJob h l)).startJobs.rd (mdlPg (leAt l 3 1)) MDL.STATE = 1 := by
  refine startJobs_of_load ((jobs_enterJob _ _).trans (congrArg (· ++ [s.newJob h l]) hnone)) rfl hop ?_
  rw [State.rdB, fieldsKept_enterJob (fun _ => bound_newJob hreason) _ _ _ (.of_check (by decide)) (by decide),
    fieldsKept_nextHead _ _ _ _ (.of_check (by decide)) (by decide)]
  exact hen

end head

/-! ### ENABLE (R260, R316) -/

theorem ingestEnableEffect_of_ready {s : State} (hready : s.rdB (pciePg 0) PCIE.STAT_DEV_READY = true)
    (hwait : s.ingest.jobs.any (fun j => j.phase == 0) = false) (v : Bool) :
    ingestEnableEffect s v = (s.wrB ingPg INGEST.CTRL_ENABLE v).showJobs := by
  have hphase (k : IngJob) (hk : k ∈ s.ingest.jobs) : k.phase ≠ 0 := by simpa using List.any_eq_false.1 hwait k hk
  rw [ingestEnableEffect, hready, Bool.not_true, if_neg Bool.false_ne_true]
  exact startJobs_of_none_may (s := s.wrB ingPg INGEST.CTRL_ENABLE v) fun k hk => mayStart_of_phase (hphase k hk)

theorem ingestEnableEffect_of_unready {s : State} (hready : s.rdB (pciePg 0) PCIE.STAT_DEV_READY = false) (v : Bool) :
    ingestEnableEffect s v = s.refuse ingPg := if_pos (by rw [hready]; rfl)

/-! ### The credit of a job that exports (R257) -/

section credit
variable {s : State} {n peer ch : Nat} {j : IngJob} (hexport : s.exporting n = some (j, peer, ch))
include hexport

/-- The job that exports is the one asked for, and its peer is that of its entry. -/
theorem exporting_job : j.idx = n ∧ j.peer = some (peer, ch) := by
  rw [State.exporting] at hexport
  split at hexport
  · cases hexport
  · next k hk =>
    split at hexport
    · obtain ⟨x, hx, heq⟩ := Option.map_eq_some_iff.1 hexport
      cases heq
      exact ⟨by simpa using List.find?_some hk, hx⟩
    · cases hexport

theorem exporting_op : j.op = 3 := by
  have hpeer := (exporting_job hexport).2
  rw [IngJob.peer] at hpeer
  split at hpeer
  · next hc => exact hc.1
  · cases hpeer

theorem creditMsgEffect_of_export (slots consumed : Nat) : creditMsgEffect s n slots consumed
    = s.modJob n (fun x => { x with slots := slots, consumed := consumed, asking := false }) := by
  rw [creditMsgEffect, hexport]
  rfl

theorem creditRetryEffect_of_export (hasking : j.asking = false) (hslots : j.slots = 0) : creditRetryEffect s n
    = (s.modJob n (fun x => { x with asking := true, askedAt := s.now })).send (.creditReq peer ch) := by
  rw [creditRetryEffect, hexport]
  exact if_neg (by simp [hasking, hslots])

/-- A job that exports is refused without a report. -/
theorem creditTimeoutEffect_of_export (hasking : j.asking = true) : creditTimeoutEffect s n = (s.jobFault j 0x303E).countRefusal := by
  rw [creditTimeoutEffect, hexport]
  dsimp only
  rw [if_pos hasking, State.layerRefuse]
  exact if_pos (exporting_op hexport)

end credit

/-- Settles O25: writes of the aperture are staged or dropped, jobs are refused or accepted, and an exporting job takes its credit. -/
theorem apertureWritesAndJobs : Obligations.ApertureWritesAndJobs := by
  unfold Obligations.ApertureWritesAndJobs
  refine ⟨fun s ch => ⟨?staged, ?stray, ?bound, ?unbound⟩, fun s => ⟨?tail, ?job, ?enabled, ?unready, ?credit⟩⟩
  case staged =>
    intro addr data poisoned stream j hlets hide _ hch hdata hfits hjob hslot hoff hplen
    have heffect := (ingestWriteEffect_of_ok hide addr data poisoned).trans (apertureEffect_of_fits _ poisoned hfits)
    rw [aperturePiece_of_partial (s := s.countPoison poisoned) (k := apSlot addr % s.rd ingPg INGEST.STAGE_CFG_SLOTS) hdata hch
      (by rw [slots_countPoison]) (by rwa [channelJob_countPoison]) (by rwa [slotComplete_countPoison]) hoff
      (by rwa [ingest_countPoison])] at heffect
    refine ⟨_, exec_of_effect hlets rfl heffect, ?_, ?_, ?_, ?_, ?_⟩
    · rw [hbms_stageBytes, hbms_countPoison]
      exact ((State.devWrite_frame s _ data poisoned).keeps .hbms (by decide)).symm
    · exact dev_stageBytes_countPoison ..
    · rw [bytesIn_stageBytes, fieldsKept_countPoison _ _ _ _ (.of_check (by decide)) (by decide)]
    · refine (counts_stageBytes ..).trans ?_
      rw [ingest_countPoison]
      rfl
    · rw [jobs_stageBytes, ingest_countPoison]
  case stray =>
    intro addr data poisoned stream hlets hide _ hch hdata hfits hjob hnew
    subst hch
    have heffect := (ingestWriteEffect_of_ok hide addr data poisoned).trans (apertureEffect_of_fits _ poisoned hfits)
    rw [aperturePiece_of_stray hdata (by rwa [channelJob_countPoison]),
      strayWrite_of_new (by rwa [ingest_countPoison])] at heffect
    refine ⟨_, exec_of_effect hlets rfl heffect, ?_, ?_, dev_countPoison s poisoned, hbms_countPoison s poisoned⟩
    · rw [← fieldsKept_countPoison s poisoned _ INGEST.STRAY_CNT (.of_check (by decide)) (by decide)]
      exact rd_wr_same _ _ _ _
    · rw [← ingest_countPoison s poisoned]
      rfl
  case bound =>
    intro port peer hlets hbound
    have hkeeps := (creditRequestEffect_frame s port peer ch).keeps
    rw [creditRequestEffect_of_bound port peer hbound] at hkeeps
    exact ⟨_, exec_of_effect hlets rfl (creditRequestEffect_of_bound port peer hbound), rfl, rfl, hkeeps⟩
  case unbound =>
    intro port peer hlets hbound
    exact exec_of_effect hlets rfl (creditRequestEffect_of_unbound port peer hbound)
  case tail =>
    intro v hlets
    exact exec_of_effect hlets rfl rfl
  case job =>
    intro i op hi hlets h l hhead hop
    subst hop
    obtain ⟨p, hp, hexec⟩ := exec_job hi s
    refine ⟨fun r hreason => ?_, fun hreason _ hfull => ?_, fun hreason hnone hen hload => ?_⟩
    · exact ⟨_, exec_of_effect hlets hexec (jobEffect_of_refused hhead hp hreason), refuseJob_done s h r⟩
    · obtain ⟨hmoved, hjobs⟩ := acceptJob_of_full hreason hfull
      refine ⟨_, exec_of_effect hlets hexec (jobEffect_of_accepted hhead hp hreason), hmoved, s.newJob h l, ?_,
        rfl, rfl, rfl, rfl, rfl, rfl, rfl, rfl, rfl, rfl, rfl, hjobs⟩
      rw [hjobs]
      exact List.mem_append_right _ (List.mem_singleton_self _)
    · obtain ⟨hjobs, hstate⟩ := acceptJob_of_load hreason hnone hen hload
      refine ⟨_, exec_of_effect hlets hexec (jobEffect_of_accepted hhead hp hreason), ?_, hstate⟩
      rw [hjobs]
      rfl
  case enabled =>
    intro v hlets hready hwait
    refine ⟨_, exec_of_effect hlets rfl (ingestEnableEffect_of_ready hready hwait v), ?_, rfl⟩
    rw [fieldsKept_showJobs _ _ _ (.of_check (by decide)) (by decide), State.wrB, rd_wr_same]
    cases v <;> rfl
  case unready =>
    intro v hlets hready
    exact exec_of_effect hlets rfl (ingestEnableEffect_of_unready hready v)
  case credit =>
    intro n j peer ch hexport hjobs
    obtain ⟨rfl, -⟩ := exporting_job hexport
    refine ⟨fun slots consumed hlets => ?_, fun hlets hasking hslots => ?_, fun hlets hasking => ?_⟩
    · exact ⟨_, exec_of_effect hlets rfl (creditMsgEffect_of_export hexport slots consumed), jobs_modJob_of_single hjobs _,
        (State.modJob_frame ..).keeps⟩
    · refine ⟨_, exec_of_effect hlets rfl (creditRetryEffect_of_export hexport hasking hslots), jobs_modJob_of_single hjobs _, rfl, ?_⟩
      exact ((State.send_frame ..).after (by decide) ((State.modJob_frame ..).after (by decide) (.refl _ s))).keeps
    · refine ⟨_, exec_of_effect hlets rfl (creditTimeoutEffect_of_export hexport hasking), ?_, refused_countRefusal _⟩
      rw [ingest_countRefusal]
      exact jobs_modJob_of_single (s := s.emit ingPg 0x303E (j.seq * 2 ^ 32 + j.layer)) hjobs _

end Sys2Proof.Machine
end

section
/-! PROOFS. The canonical form of the memories along steps. Settles O49. -/

namespace Sys2Proof.Machine

/-- Settles O49: an empty queue's tick touches no memory, and the frame of the command in front carries the canonical form. -/
theorem stepsKeepTheMemories : Obligations.StepsKeepTheMemories := by
  unfold Obligations.StepsKeepTheMemories
  intro s t hmem hstep
  cases hpending : s.pending with
  | nil =>
    rw [step_of_pending_nil hpending] at hstep
    cases hstep
    exact hmem
  | cons i rest =>
    rw [step_of_pending_cons hpending] at hstep
    exact (exec_frame hstep).memory (s := { s with pending := rest }) hmem

end Sys2Proof.Machine
end

section
/-! PROOFS. Claims on semaphores: what a scan of the queue grants, keeps and leaves of the values. Settles O60. -/

namespace Sys2Proof.Machine

/-! ### The three cases of a claim at the front (R293) -/

section scan
variable {value : FMap Nat} {blocked : List Nat} {q : Claim} {sem : Nat}

theorem grantScan_cons_of_blocked (h : q.sem ∈ blocked) (l : List Claim) : grantScan value blocked (q :: l)
    = ((grantScan value blocked l).1, q :: (grantScan value blocked l).2.1, (grantScan value blocked l).2.2) :=
  if_pos (List.contains_iff_mem.2 h)

theorem grantScan_cons_of_granted (h : q.sem ∉ blocked) (hq : q.count ≤ mget value 0 q.sem) (l : List Claim) :
    grantScan value blocked (q :: l)
      = (let g := grantScan (mput value q.sem (mget value 0 q.sem - q.count)) blocked l; (g.1, g.2.1, q :: g.2.2)) :=
  (if_neg (by rwa [List.contains_iff_mem])).trans (if_pos hq)

theorem grantScan_cons_of_short (h : q.sem ∉ blocked) (hq : ¬ q.count ≤ mget value 0 q.sem) (l : List Claim) :
    grantScan value blocked (q :: l)
      = (let g := grantScan value (q.sem :: blocked) l; (g.1, q :: g.2.1, g.2.2)) :=
  (if_neg (by rwa [List.contains_iff_mem])).trans (if_neg hq)

/-! ### What a scan does to one semaphore -/

/-- The claims of a list on one semaphore. -/
def claimsOn (sem : Nat) (l : List Claim) : List Claim := l.filter (fun q => q.sem == sem)

theorem claimsOn_cons_same (h : q.sem = sem) (l : List Claim) : claimsOn sem (q :: l) = q :: claimsOn sem l :=
  List.filter_cons_of_pos (by simp [h])

theorem claimsOn_cons_other (h : q.sem ≠ sem) (l : List Claim) : claimsOn sem (q :: l) = claimsOn sem l :=
  List.filter_cons_of_neg (by simp [h])

/-- A semaphore that is held back keeps its value and all its claims. -/
theorem grantScan_of_mem_blocked (l : List Claim) : ∀ {value : FMap Nat} {blocked : List Nat}, sem ∈ blocked →
    mget (grantScan value blocked l).1 0 sem = mget value 0 sem
      ∧ claimsOn sem (grantScan value blocked l).2.1 = claimsOn sem l ∧ claimsOn sem (grantScan value blocked l).2.2 = [] := by
  induction l with
  | nil => exact fun _ => ⟨rfl, rfl, rfl⟩
  | cons q l ih =>
    intro value blocked hsem
    by_cases hb : q.sem ∈ blocked
    · rw [grantScan_cons_of_blocked hb]
      obtain ⟨hvalue, hkept, hgranted⟩ := ih (value := value) hsem
      by_cases hq : q.sem = sem
      · exact ⟨hvalue, by rw [claimsOn_cons_same hq, claimsOn_cons_same hq, hkept], hgranted⟩
      · exact ⟨hvalue, by rw [claimsOn_cons_other hq, claimsOn_cons_other hq, hkept], hgranted⟩
    · have hq : q.sem ≠ sem := fun h => hb (h ▸ hsem)
      by_cases hc : q.count ≤ mget value 0 q.sem
      · rw [grantScan_cons_of_granted hb hc, claimsOn_cons_other hq]
        obtain ⟨hvalue, hkept, hgranted⟩ := ih (value := mput value q.sem (mget value 0 q.sem - q.count)) hsem
        exact ⟨hvalue.trans (mget_mput_other _ _ _ _ _ (Ne.symm hq)), hkept, (claimsOn_cons_other hq _).trans hgranted⟩
      · rw [grantScan_cons_of_short hb hc]
        simp only [claimsOn_cons_other hq]
        obtain ⟨hvalue, hkept, hgranted⟩ := ih (value := value) (List.mem_cons_of_mem q.sem hsem)
        exact ⟨hvalue, hkept, hgranted⟩

/-- The claims on a semaphore are granted from the front as long as its value suffices. -/
theorem grantScan_of_not_mem_blocked (l : List Claim) : ∀ {value : FMap Nat} {blocked : List Nat}, sem ∉ blocked →
    claimsOn sem l = claimsOn sem (grantScan value blocked l).2.2 ++ claimsOn sem (grantScan value blocked l).2.1
      ∧ mget (grantScan value blocked l).1 0 sem + ((claimsOn sem (grantScan value blocked l).2.2).map (fun q => q.count)).sum
          = mget value 0 sem
      ∧ ∀ q, (claimsOn sem (grantScan value blocked l).2.1).head? = some q → mget (grantScan value blocked l).1 0 sem < q.count := by
  induction l with
  | nil => exact fun _ => ⟨rfl, rfl, fun q hq => by cases hq⟩
  | cons q l ih =>
    intro value blocked hsem
    by_cases hb : q.sem ∈ blocked
    · have hq : q.sem ≠ sem := fun h => hsem (h ▸ hb)
      rw [grantScan_cons_of_blocked hb]
      simp only [claimsOn_cons_other hq]
      exact ih hsem
    · by_cases hc : q.count ≤ mget value 0 q.sem
      · rw [grantScan_cons_of_granted hb hc]
        obtain ⟨horder, hsum, hheld⟩ := ih (value := mput value q.sem (mget value 0 q.sem - q.count)) hsem
        by_cases hq : q.sem = sem
        · simp only [claimsOn_cons_same hq, List.map_cons, List.sum_cons, List.cons_append]
          rw [← horder]
          rw [hq] at hsum hc hheld ⊢
          rw [mget_mput_same] at hsum
          exact ⟨rfl, by omega, hheld⟩
        · simp only [claimsOn_cons_other hq]
          rw [mget_mput_other _ _ _ _ _ (Ne.symm hq)] at hsum
          exact ⟨horder, hsum, hheld⟩
      · rw [grantScan_cons_of_short hb hc]
        by_cases hq : q.sem = sem
        · obtain ⟨hvalue, hkept, hgranted⟩ := grantScan_of_mem_blocked l (value := value) (sem := sem)
            (blocked := q.sem :: blocked) (by simp [hq])
          simp only [claimsOn_cons_same hq, hkept, hgranted, List.nil_append, List.map_nil, List.sum_nil, List.head?_cons]
          refine ⟨trivial, hvalue, fun r hr => ?_⟩
          cases hr
          rw [hvalue, ← hq]
          omega
        · simp only [claimsOn_cons_other hq]
          exact ih (by simp [hsem, Ne.symm hq])

/-- What is kept and what is granted stand in the order of the queue. -/
theorem grantScan_sublist (l : List Claim) : ∀ (value : FMap Nat) (blocked : List Nat),
    (grantScan value blocked l).2.1.Sublist l ∧ (grantScan value blocked l).2.2.Sublist l := by
  induction l with
  | nil => exact fun _ _ => ⟨.slnil, .slnil⟩
  | cons q l ih =>
    intro value blocked
    by_cases hb : q.sem ∈ blocked
    · rw [grantScan_cons_of_blocked hb]
      exact ⟨(ih _ _).1.cons_cons q, (ih _ _).2.cons q⟩
    · by_cases hc : q.count ≤ mget value 0 q.sem
      · rw [grantScan_cons_of_granted hb hc]
        exact ⟨(ih _ _).1.cons q, (ih _ _).2.cons_cons q⟩
      · rw [grantScan_cons_of_short hb hc]
        exact ⟨(ih _ _).1.cons_cons q, (ih _ _).2.cons q⟩

end scan

/-- Settles O60: a scan begins with no semaphore held back. -/
theorem claimsAreGrantedInOrder : Obligations.ClaimsAreGrantedInOrder := by
  unfold Obligations.ClaimsAreGrantedInOrder
  intro value l sem
  obtain ⟨horder, hsum, hheld⟩ := grantScan_of_not_mem_blocked l (value := value) (sem := sem) List.not_mem_nil
  exact ⟨horder, hsum, hheld, grantScan_sublist l value []⟩

end Sys2Proof.Machine
end

section
/-! PROOFS. Tier-1 addresses and places on the stacks. Settles O56. -/

namespace Sys2Proof.Machine

/-! ### Interleaved regions and the stacks' reserve (R264) -/

section map
variable {a st l : Nat}

theorem firmEnd_eq : firmEnd = 12 * gib 126 := by decide

theorem tier1End_eq : tier1End = firmEnd + 12 * 2 ^ 31 := by decide

theorem stackOf_of_interleaved (h : a < firmEnd) : stackOf a = a / 4096 % 12 := if_pos h

theorem localOf_of_interleaved (h : a < firmEnd) : localOf a = a / 4096 / 12 * 4096 + a % 4096 := if_pos h

theorem stackOf_of_reserve (h : firmEnd ≤ a) : stackOf a = (a - firmEnd) / 2 ^ 31 := if_neg (Nat.not_lt.2 h)

theorem localOf_of_reserve (h : firmEnd ≤ a) : localOf a = gib 126 + (a - firmEnd) % 2 ^ 31 := if_neg (Nat.not_lt.2 h)

theorem physOf_of_interleaved (h : l < gib 126) : physOf st l = (l / 4096 * 12 + st) * 4096 + l % 4096 := if_pos h

theorem physOf_of_reserve (h : gib 126 ≤ l) : physOf st l = firmEnd + st * 2 ^ 31 + (l - gib 126) := if_neg (Nat.not_lt.2 h)

theorem localOf_lt_of_interleaved (h : a < firmEnd) : localOf a < gib 126 := by
  rw [localOf_of_interleaved h]
  rw [firmEnd_eq, gib] at h
  rw [gib]
  omega

theorem stackOf_lt (h : a < tier1End) : stackOf a < 12 := by
  rcases Nat.lt_or_ge a firmEnd with hlo | hhi
  · rw [stackOf_of_interleaved hlo]
    omega
  · rw [stackOf_of_reserve hhi]
    rw [tier1End_eq] at h
    omega

theorem localOf_lt (a : Nat) : localOf a < 128 * 2 ^ 30 := by
  rcases Nat.lt_or_ge a firmEnd with hlo | hhi
  · have hlocal := localOf_lt_of_interleaved hlo
    rw [gib] at hlocal
    omega
  · rw [localOf_of_reserve hhi, gib]
    omega

/-- The address at the place of an address. -/
theorem physOf_stackOf_localOf (a : Nat) : physOf (stackOf a) (localOf a) = a := by
  rcases Nat.lt_or_ge a firmEnd with hlo | hhi
  · rw [physOf_of_interleaved (localOf_lt_of_interleaved hlo), stackOf_of_interleaved hlo, localOf_of_interleaved hlo]
    omega
  · rw [localOf_of_reserve hhi, physOf_of_reserve (Nat.le_add_right _ _), stackOf_of_reserve hhi]
    omega

/-- The place of the address at a place. -/
theorem place_physOf (hst : st < 12) (hl : l < 128 * 2 ^ 30) : stackOf (physOf st l) = st ∧ localOf (physOf st l) = l := by
  rcases Nat.lt_or_ge l (gib 126) with hlo | hhi
  · have hphys : physOf st l < firmEnd := by
      rw [physOf_of_interleaved hlo, firmEnd_eq]
      rw [gib] at hlo ⊢
      omega
    rw [stackOf_of_interleaved hphys, localOf_of_interleaved hphys, physOf_of_interleaved hlo]
    omega
  · have hphys : firmEnd ≤ physOf st l := by
      rw [physOf_of_reserve hhi]
      omega
    rw [stackOf_of_reserve hphys, localOf_of_reserve hphys, physOf_of_reserve hhi]
    rw [gib] at hhi ⊢
    omega

end map

/-- Settles O56: the places of the addresses and the addresses of the places, each the other's inverse. -/
theorem addressesLieOnOneStack : Obligations.AddressesLieOnOneStack := by
  unfold Obligations.AddressesLieOnOneStack
  exact ⟨fun _ h => ⟨stackOf_of_interleaved h, localOf_of_interleaved h, localOf_lt_of_interleaved h⟩,
    fun _ h => ⟨stackOf_lt h, localOf_lt _, physOf_stackOf_localOf _⟩, fun _ _ => place_physOf, by decide, by decide⟩

end Sys2Proof.Machine
end

section
/-! PROOFS. The (72,64) check code: how a syndrome is classified, and which syndromes wrong data bits give. Settles O55. -/

namespace Sys2Proof.Machine

/-! ### The classes of a syndrome (R269) -/

theorem decode72_zero (data : Nat) : decode72 data 0 = (0, data) := rfl

theorem findIdx?_dataColumns : ∀ d < 64, dataColumns.findIdx? (fun x => x == dataColumns.getD d 0) = some d := by
  decide +kernel

theorem dataColumns_ne_zero : ∀ d < 64, dataColumns.getD d 0 ≠ 0 := by decide

/-- A data bit's column inverts that bit. -/
theorem decode72_of_column (data : Nat) {d : Nat} (hd : d < 64) : decode72 data (dataColumns.getD d 0) = (1, data ^^^ 2 ^ d) := by
  rw [decode72, if_neg (dataColumns_ne_zero d hd), findIdx?_dataColumns d hd, ← Nat.one_shiftLeft]

section classes
variable (data : Nat) {syn : Nat} (hzero : syn ≠ 0) (hcol : syn ∉ dataColumns)
include hzero hcol

theorem decode72_of_not_column :
    decode72 data syn = if weight8 syn = 1 then (2, data) else if syn = 0xFF then (4, data) else (3, data) := by
  have hnone : dataColumns.findIdx? (fun x => x == syn) = none :=
    List.findIdx?_eq_none_iff.2 fun x hx => beq_false_of_ne fun h => hcol (h ▸ hx)
  rw [decode72, if_neg hzero, hnone]

theorem decode72_of_check (hw : weight8 syn = 1) : decode72 data syn = (2, data) :=
  (decode72_of_not_column data hzero hcol).trans (if_pos hw)

theorem decode72_of_poison (hw : weight8 syn ≠ 1) (hff : syn = 0xFF) : decode72 data syn = (4, data) :=
  (decode72_of_not_column data hzero hcol).trans ((if_neg hw).trans (if_pos hff))

theorem decode72_of_uncorrectable (hw : weight8 syn ≠ 1) (hff : syn ≠ 0xFF) : decode72 data syn = (3, data) :=
  (decode72_of_not_column data hzero hcol).trans ((if_neg hw).trans (if_neg hff))

/-- A syndrome of neither kind delivers its word with the mark. -/
theorem decode72_marks (hw : weight8 syn ≠ 1) : 3 ≤ (decode72 data syn).1 := by
  by_cases hff : syn = 0xFF
  · simp [decode72_of_poison data hzero hcol hw hff]
  · simp [decode72_of_uncorrectable data hzero hcol hw hff]

end classes

theorem weight8_two_pow : ∀ j < 8, 2 ^ j ≠ 0 ∧ 2 ^ j ∉ dataColumns ∧ weight8 (2 ^ j) = 1 := by decide

/-! ### Weights of sums (R268) -/

/-- The weight of a sum has the parity of the sum of the weights. -/
theorem weight8_xor_mod_two (x y : Nat) : weight8 (x ^^^ y) % 2 = (weight8 x + weight8 y) % 2 := by
  have hcount (l : List Nat) : (l.filter (fun i => (x ^^^ y).testBit i)).length % 2
      = ((l.filter (fun i => x.testBit i)).length + (l.filter (fun i => y.testBit i)).length) % 2 := by
    induction l with
    | nil => rfl
    | cons i l ih =>
      simp only [List.filter_cons, Nat.testBit_xor] at ih ⊢
      cases x.testBit i <;> cases y.testBit i <;> simp only [Bool.xor_false, Bool.xor_true, Bool.not_true, Bool.not_false,
        Bool.false_eq_true, if_true, if_false, List.length_cons] <;> omega
  exact hcount (List.range 8)

theorem weight8_dataColumns : ∀ x ∈ dataColumns, weight8 x % 2 = 1 := by decide

theorem dataColumns_nodup : dataColumns.Nodup := by decide

theorem getD_dataColumns_mem {d : Nat} (hd : d < 64) : dataColumns.getD d 0 ∈ dataColumns := by
  have hlen : d < dataColumns.length := hd
  rw [List.getD_eq_getElem _ _ hlen]
  exact List.getElem_mem hlen

/-- Two wrong data bits give a syndrome of even weight other than 0, which no column and no check bit has. -/
theorem decode72_of_two_columns (data : Nat) {d e : Nat} (hde : d < e) (he : e < 64) :
    3 ≤ (decode72 data (dataColumns.getD d 0 ^^^ dataColumns.getD e 0)).1 := by
  have hd : d < 64 := hde.trans he
  have heven : weight8 (dataColumns.getD d 0 ^^^ dataColumns.getD e 0) % 2 = 0 := by
    have hdw := weight8_dataColumns _ (getD_dataColumns_mem hd)
    have hew := weight8_dataColumns _ (getD_dataColumns_mem he)
    rw [weight8_xor_mod_two]
    omega
  refine decode72_marks data (fun hzero => ?_) (fun hcol => ?_) (fun hw => ?_)
  · have hsame : dataColumns.getD d 0 = dataColumns.getD e 0 := Nat.xor_eq_zero_iff.1 hzero
    rw [List.getD_eq_getElem _ _ (show d < dataColumns.length from hd), List.getD_eq_getElem _ _ (show e < dataColumns.length from he)] at hsame
    exact Nat.ne_of_lt hde ((dataColumns_nodup.getElem_inj_iff ..).1 hsame)
  · have hodd := weight8_dataColumns _ hcol
    omega
  · omega

/-! ### Check bits are linear -/

/-- The sum of the columns of the data bits in `l` that are 1, added to `a`. -/
def addColumns (data a : Nat) (l : List Nat) : Nat :=
  l.foldl (fun a d => if data.testBit d then a ^^^ dataColumns.getD d 0 else a) a

theorem checkBits_eq (data : Nat) : checkBits data = addColumns data 0 (List.range 64) := rfl

theorem addColumns_xor (x y : Nat) (l : List Nat) : ∀ a b,
    addColumns (x ^^^ y) (a ^^^ b) l = addColumns x a l ^^^ addColumns y b l := by
  induction l with
  | nil => exact fun _ _ => rfl
  | cons d l ih =>
    intro a b
    have hstep : (if (x ^^^ y).testBit d then a ^^^ b ^^^ dataColumns.getD d 0 else a ^^^ b)
        = (if x.testBit d then a ^^^ dataColumns.getD d 0 else a) ^^^ (if y.testBit d then b ^^^ dataColumns.getD d 0 else b) := by
      rw [Nat.testBit_xor]
      generalize dataColumns.getD d 0 = c
      cases x.testBit d <;> cases y.testBit d
      · rfl
      · exact Nat.xor_assoc a b c
      · simp only [Bool.xor_false, if_true, Bool.false_eq_true, if_false, Nat.xor_assoc, Nat.xor_comm b c]
      · simp only [Bool.xor_self, Bool.false_eq_true, if_false, if_true]
        rw [Nat.xor_assoc a c, ← Nat.xor_assoc c b, Nat.xor_comm c b, Nat.xor_assoc b, Nat.xor_self, Nat.xor_zero]
    simp only [addColumns, List.foldl_cons, hstep]
    exact ih _ _

theorem checkBits_xor (x y : Nat) : checkBits (x ^^^ y) = checkBits x ^^^ checkBits y := by
  rw [checkBits_eq, checkBits_eq, checkBits_eq, ← addColumns_xor, Nat.xor_self]

theorem checkBits_two_pow : ∀ d < 64, checkBits (2 ^ d) = dataColumns.getD d 0 := by decide +kernel

/-- The syndrome of a word whose bits in `err` are wrong. -/
theorem syndrome_of_error (data err : Nat) : checkBits (data ^^^ err) ^^^ checkBits data = checkBits err := by
  rw [checkBits_xor, Nat.xor_comm, ← Nat.xor_assoc, Nat.xor_self, Nat.zero_xor]

/-! ### Words of a store -/

theorem Store.word_eq (st : Store) (w : Nat) : st.word w = decode72 (st.raw w) (st.chkAt w) := by
  rw [Store.word]
  split
  · next h => rw [h, decode72_zero]
  · rfl

theorem exists_mem_of_mget_ne {α : Type} {m : FMap α} {d : α} {k : Nat} (h : mget m d k ≠ d) : ∃ x ∈ m, x.1 = k := by
  by_contra hno
  push Not at hno
  exact h (by rw [mget, mfind_of_unlisted hno, Option.getD_none])

/-- A word that is delivered with the mark has its check bits listed. -/
theorem Store.listed_of_wordBad {st : Store} {w : Nat} (h : st.wordBad w = true) : ∃ e ∈ st.chk, e.1 = w := by
  refine exists_mem_of_mget_ne (d := 0) fun hzero => ?_
  have hclean : st.chkAt w = 0 := hzero
  simp [Store.wordBad, Store.word, hclean] at h

theorem Store.bad_word (st : Store) (w : Nat) : st.bad (8 * w) 8 = st.wordBad w := by
  have hlo : 8 * w / 8 = w := by omega
  have hhi : (8 * w + 8 - 1) / 8 = w := by omega
  rw [Bool.eq_iff_iff]
  simp only [Store.bad, hlo, hhi, Bool.and_eq_true, List.any_eq_true, decide_eq_true_eq]
  constructor
  · rintro ⟨-, e, -, ⟨hle, hge⟩, hbad⟩
    rwa [show e.1 = w by omega] at hbad
  · intro hbad
    obtain ⟨e, he, rfl⟩ := Store.listed_of_wordBad hbad
    exact ⟨rfl, e, he, ⟨Nat.le_refl _, Nat.le_refl _⟩, hbad⟩

theorem dataColumns_eq_by_weight : dataColumns
    = (List.range 256).filter (fun v => weight8 v == 3) ++ ((List.range 256).filter (fun v => weight8 v == 5)).take 8 := by
  decide +kernel

/-- Settles O55: the classes of a syndrome, and the syndromes of one and of two wrong data bits, by the linearity of the check bits. -/
theorem syndromesAreDecoded : Obligations.SyndromesAreDecoded := by
  unfold Obligations.SyndromesAreDecoded
  refine ⟨dataColumns_eq_by_weight, fun st w _ => ⟨st.word_eq w, ?_⟩, fun data => ⟨decode72_zero data, ?_, ?_, ?_, ?_, ?_, ?_⟩⟩
  · rw [st.bad_word, Store.wordBad, st.word_eq]
  · exact decode72_of_poison data (by decide) (by decide) (by decide) rfl
  · exact fun d hd => decode72_of_column data hd
  · intro j hj
    obtain ⟨hzero, hcol, hw⟩ := weight8_two_pow j hj
    exact decode72_of_check data hzero hcol hw
  · exact fun syn _ hzero hff hcol hw => decode72_of_uncorrectable data hzero hcol hw hff
  · intro d hd
    rw [syndrome_of_error, checkBits_two_pow d hd, decode72_of_column _ hd, Nat.xor_assoc, Nat.xor_self, Nat.xor_zero]
  · intro d e hde he
    rw [Nat.xor_assoc, syndrome_of_error, checkBits_xor, checkBits_two_pow d (hde.trans he), checkBits_two_pow e he]
    exact decode72_of_two_columns _ hde he

end Sys2Proof.Machine
end

section
/-! PROOFS. Accesses of register space by address, and of slots that hold no page. Settles O53. -/

namespace Sys2Proof.Machine

/-! ### Register space in the address map (R261, R262) -/

theorem region_of_regs (s : State) {x : Nat} (hx : x < 0x10000000) : s.region (regBase + x) = .regs := by
  unfold State.region softEnd firmEnd tier1End tier2Base tier2End regBase regEnd
  rw [if_neg (by omega), if_neg (by omega), if_neg (by omega), if_neg (by omega), if_pos (by omega)]

theorem regAt_regBase {p off : Nat} (hoff : off < 4096) : regAt (regBase + 4096 * p + off) = (p, off) := by
  unfold regAt regBase
  exact Prod.ext (by dsimp only; omega) (by dsimp only; omega)

/-- The requesters of register space: a tiller core in machine mode and the units of a hub. -/
def ReachesRegs (rq : Requester) : Prop := (∃ c t, rq = .tillerM c t) ∨ ∃ d, rq = .hubUnit d

section reach
variable {s : State} {rq : Requester} {p off : Nat} (hrq : ReachesRegs rq) (hoff : off < 4096)
  (haddr : 4096 * p + off < 0x0B000000)
  (hroute : s.rdB (meshPg (srcDie rq)) (MESH.ROUTE_UNREACHABLE (pageDie p)) = false)
include hrq hoff haddr hroute

theorem mayAccess_regs (write : Bool) : s.mayAccess rq (regBase + 4096 * p + off) write = true := by
  have hregion : s.region (regBase + 4096 * p + off) = .regs := by
    rw [Nat.add_assoc]
    exact region_of_regs s (by omega)
  have hdie : s.dstDie (regBase + 4096 * p + off) = pageDie p := by rw [State.dstDie, hregion, regAt_regBase hoff]
  have hbelow : regBase + 4096 * p + off < regBase + 0x0B000000 := by omega
  rcases hrq with ⟨c, t, rfl⟩ | ⟨d, rfl⟩ <;> simp [State.mayAccess, hregion, hdie, hroute, hbelow, mayReach]

/-- An access of register space by one who may is an access of its page. -/
theorem serveAccess_regs (v : Option (Nat × Bool)) :
    s.serveAccess rq (regBase + 4096 * p + off) v = s.regAccess false p off 8 (v.map (fun x => x.1)) := by
  have hmay := mayAccess_regs hrq hoff haddr hroute v.isSome
  have hregion : s.region (regBase + 4096 * p + off) = .regs := by
    rw [Nat.add_assoc]
    exact region_of_regs s (by omega)
  rcases hrq with ⟨c, t, rfl⟩ | ⟨d, rfl⟩ <;>
    simp only [State.serveAccess, hmay, State.countPeer, hregion, regAt_regBase hoff, Bool.not_true, Bool.false_eq_true, if_false]

theorem memAccessEffect_regs (hrun : s.power.halted = false) (v : Option (Nat × Bool)) :
    memAccessEffect s rq (regBase + 4096 * p + off) v = s.regAccess false p off 8 (v.map (fun x => x.1)) := by
  rw [← serveAccess_regs hrq hoff haddr hroute v]
  rcases hrq with ⟨c, t, rfl⟩ | ⟨d, rfl⟩ <;> exact if_neg (by simp [hrun])

end reach

/-! ### Slots without a page (R405) -/

theorem regAccess_of_empty {s : State} {p : Nat} (hs : s.frozen = false) (hb : blockOf p = .none) (host : Bool) (off w : Nat)
    (v : Option Nat) : s.regAccess host p off w v = if v.isSome then s else s.send (.readValue 0) := by
  have hp : p ≠ srvPg := by
    rintro rfl
    exact absurd hb (by decide)
  rw [State.regAccess, subPage_eq_self s (.inl hp)]
  simp [hs, hb]

/-- Settles O53: whoever reaches an empty slot, the access ends at the block's kind, before width, domain and fields. -/
theorem emptySlotsReadZeroAndDiscardWrites : Obligations.EmptySlotsReadZeroAndDiscardWrites := by
  unfold Obligations.EmptySlotsReadZeroAndDiscardWrites
  intro s p off hs hb hoff haddr
  refine ⟨fun w v hlets => ?_, fun rq v hrq hlets hrun hroute => ?_⟩
  · exact exec_of_effect hlets rfl ((registerWriteEffect_page s w v hoff haddr).trans (regAccess_of_empty hs hb true off w (some v)))
  · refine exec_of_effect hlets rfl ((memAccessEffect_regs hrq hoff haddr hroute hrun v).trans ?_)
    rw [regAccess_of_empty hs hb]
    cases v <;> rfl

end Sys2Proof.Machine
end

section
/-! PROOFS. The words of a store: what a store of a word, of its check bits and of a byte leaves of each, and how a word is read. -/

namespace Sys2Proof.Machine

/-! ### Check-bit differences as a map (R268) -/

theorem mget_of_chkWfFrom {m : FMap Nat} {lo a : Nat} (h : chkWfFrom lo m = true) (ha : a < lo) : mget m 0 a = 0 := by
  induction m generalizing lo with
  | nil => rfl
  | cons x m ih =>
    simp only [chkWfFrom, Bool.and_eq_true, decide_eq_true_eq] at h
    obtain ⟨⟨hk, -⟩, hm⟩ := h
    rw [mget, mfind, if_neg (by omega)]
    exact ih hm (by omega)

theorem mget_cons (k v a : Nat) (m : FMap Nat) : mget ((k, v) :: m) 0 a = if a = k then v else mget m 0 a := by
  rw [mget, mfind]
  split <;> rfl

theorem mget_chkPut {m : FMap Nat} {lo : Nat} (h : chkWfFrom lo m = true) (a x b : Nat) :
    mget (chkPut m a b) 0 x = if x = a then b else mget m 0 x := by
  induction m generalizing lo with
  | nil =>
    rw [chkPut]
    split
    · next hb => split <;> simp [mget, mfind, hb]
    · exact mget_cons a b x []
  | cons e m ih =>
    obtain ⟨k, v⟩ := e
    simp only [chkWfFrom, Bool.and_eq_true, decide_eq_true_eq] at h
    obtain ⟨⟨-, -⟩, hm⟩ := h
    have hbelow (z : Nat) (hz : z < k + 1) : mget m 0 z = 0 := mget_of_chkWfFrom hm hz
    rw [chkPut]
    split
    · next hlt =>
      split
      · next hb =>
        by_cases hx : x = a
        · rw [if_pos hx, mget_cons, if_neg (by omega), hbelow x (by omega), hb]
        · rw [if_neg hx]
      · exact mget_cons a b x _
    · split
      · next hak =>
        split
        · next hb =>
          by_cases hx : x = a
          · rw [if_pos hx, hbelow x (by omega), hb]
          · rw [if_neg hx, mget_cons, if_neg (by omega)]
        · rw [mget_cons, mget_cons]
          by_cases hx : x = a
          · rw [if_pos hx, if_pos hx]
          · rw [if_neg hx, if_neg hx, if_neg (by omega)]
      · next hak =>
        rw [mget_cons, mget_cons, ih hm]
        by_cases hx : x = a
        · rw [if_neg (by omega), if_pos hx, if_pos hx]
        · rw [if_neg hx, if_neg hx]

/-- A canonical list names a word with a difference once. -/
theorem filter_chk_eq {m : FMap Nat} {lo : Nat} (h : chkWfFrom lo m = true) (w : Nat) :
    m.filter (fun e => e.1 == w) = if mget m 0 w = 0 then [] else [(w, mget m 0 w)] := by
  induction m generalizing lo with
  | nil => rfl
  | cons e m ih =>
    obtain ⟨k, v⟩ := e
    simp only [chkWfFrom, Bool.and_eq_true, decide_eq_true_eq] at h
    obtain ⟨⟨-, hv⟩, hm⟩ := h
    rw [List.filter_cons, ih hm, mget_cons]
    by_cases hw : w = k
    · subst hw
      have hne : v ≠ 0 := by simpa using hv
      rw [mget_of_chkWfFrom hm (Nat.lt_succ_self w)]
      simp [hne]
    · simp [hw, Ne.symm hw]

/-! ### Words after a change of one (R6, R268 to R270) -/

section store
variable {st : Store} (hst : st.wf = true)

theorem Store.wf_chk (h : st.wf = true) : chkWfFrom 0 st.chk = true := by
  simp only [Store.wf, Bool.and_eq_true] at h
  exact h.2

@[simp] theorem Store.raw_setChk (st : Store) (w d x : Nat) : (st.setChk w d).raw x = st.raw x := rfl

theorem Store.chkAt_setBytes (st : Store) (g : Nat → Nat) (f : Nat → Byte) (l : List Nat) (x : Nat) :
    (l.foldl (fun y i => y.setByte (g i) (f i)) st).chkAt x = st.chkAt x := by
  induction l generalizing st with
  | nil => rfl
  | cons i l ih => exact ih _

theorem Store.raw_lt (st : Store) (w : Nat) : st.raw w < 2 ^ 64 := by
  have hlt := ofLe_lt ((List.range 8).map (fun i => cellGet st.bytes (8 * w + i)))
  simpa [Store.raw] using hlt

/-- The word of 8 bytes of a number. -/
theorem ofLe_bytes (v : Nat) : ofLe ((List.range 8).map (fun i => byteOf (field v (8 * i) 8))) = v % 2 ^ 64 := by
  have hbytes : (List.range 8).map (fun i => byteOf (field v (8 * i) 8)) = toLe 8 v := by
    have hbyte (i : Nat) : byteOf (field v (8 * i) 8) = byteOf (v / 256 ^ i) := by
      apply BitVec.eq_of_toNat_eq
      rw [byteOf_toNat, byteOf_toNat, field, Nat.shiftRight_eq_div_pow, show (2 : Nat) ^ (8 * i) = 256 ^ i by rw [Nat.pow_mul]]
      exact Nat.mod_mod _ _
    simp only [hbyte]
    simp [List.range_succ, toLe, Nat.div_div_eq_div_mul]
  exact hbytes ▸ ofLe_toLe 8 v

include hst

theorem Store.chkAt_setChk (w d x : Nat) : (st.setChk w d).chkAt x = if x = w then d else st.chkAt x :=
  mget_chkPut (Store.wf_chk hst) w x d

theorem Store.chkAt_putWord (w v x : Nat) (p : Bool) :
    (st.putWord w v p).chkAt x = if x = w then (if p then 0xFF else 0) else st.chkAt x := by
  have hbytes := Store.foldl_wf (fun (y : Store) i => y.setByte (8 * w + i) (byteOf (field v (8 * i) 8)))
    (fun _ _ hy => Store.setByte_wf _ _ hy) (List.range 8) st hst
  rw [Store.putWord, Store.chkAt_setChk hbytes, Store.chkAt_setBytes st (fun i => 8 * w + i)]

theorem Store.raw_putWord_same (w v : Nat) (p : Bool) : (st.putWord w v p).raw w = v % 2 ^ 64 := by
  rw [Store.raw, ← ofLe_bytes v]
  congr 1
  refine List.map_congr_left fun i hi => ?_
  have hlt : i < 8 := List.mem_range.1 hi
  rw [Store.putWord_get hst, if_pos (by omega), show 8 * w + i - 8 * w = i by omega]

theorem Store.raw_putWord_other (w v x : Nat) (p : Bool) (hx : x ≠ w) : (st.putWord w v p).raw x = st.raw x := by
  rw [Store.raw, Store.raw]
  congr 1
  refine List.map_congr_left fun i hi => ?_
  have hlt : i < 8 := List.mem_range.1 hi
  rw [Store.putWord_get hst, if_neg (by omega)]

/-- A word written whole is read back with its mark. -/
theorem Store.word_putWord_same (w : Nat) {v : Nat} (p : Bool) (hv : v < 2 ^ 64) :
    (st.putWord w v p).word w = if p then (4, v) else (0, v) := by
  rw [Store.word_eq, Store.raw_putWord_same hst, Store.chkAt_putWord hst, if_pos rfl, Nat.mod_eq_of_lt hv]
  cases p
  · exact decode72_zero v
  · exact decode72_of_poison v (by decide) (by decide) (by decide) rfl

theorem Store.word_putWord_other (w v x : Nat) (p : Bool) (hx : x ≠ w) : (st.putWord w v p).word x = st.word x := by
  rw [Store.word_eq, Store.word_eq, Store.raw_putWord_other hst _ _ _ _ hx, Store.chkAt_putWord hst, if_neg hx]

theorem Store.word_setChk_other (w d x : Nat) (hx : x ≠ w) : (st.setChk w d).word x = st.word x := by
  rw [Store.word_eq, Store.word_eq, Store.raw_setChk, Store.chkAt_setChk hst, if_neg hx]

end store

/-! ### How a word decodes -/

theorem Store.chkAt_of_clean {st : Store} {w : Nat} (h : (st.word w).1 = 0) : st.chkAt w = 0 := by
  by_contra hne
  have hword := st.word_eq w
  by_cases hcol : st.chkAt w ∈ dataColumns
  · obtain ⟨d, hd, hget⟩ := List.getElem_of_mem hcol
    have hcolumn := decode72_of_column (st.raw w) (show d < 64 from hd)
    rw [List.getD_eq_getElem _ _ hd, hget, ← hword] at hcolumn
    rw [hcolumn] at h
    exact absurd h (by simp)
  · rw [decode72_of_not_column _ hne hcol] at hword
    rw [hword] at h
    split at h
    · simp at h
    · split at h <;> simp at h

theorem Store.word_of_clean {st : Store} {w : Nat} (h : st.chkAt w = 0) : st.word w = (0, st.raw w) := if_pos h

theorem decode72_lt {data : Nat} (syn : Nat) (h : data < 2 ^ 64) : (decode72 data syn).2 < 2 ^ 64 := by
  unfold decode72
  split
  · exact h
  · split
    · next d hd =>
      have hlt : d < 64 := (List.findIdx?_eq_some_iff_getElem.1 hd).1
      refine Nat.xor_lt_two_pow h ?_
      rw [Nat.one_shiftLeft]
      exact Nat.pow_lt_pow_right (by decide) hlt
    · split
      · exact h
      · split <;> exact h

theorem Store.word_lt (st : Store) (w : Nat) : (st.word w).2 < 2 ^ 64 := by
  rw [Store.word_eq]
  exact decode72_lt _ (st.raw_lt w)

/-- The bytes of an aligned word are those of the word as it is delivered. -/
theorem Store.readNat_word (st : Store) (w : Nat) : st.readNat (8 * w) 8 = (st.word w).2 := by
  have hdiv (i : Nat) (hi : i < 8) : (8 * w + i) / 8 = w := by omega
  by_cases h : st.chkAt w = 0
  · rw [Store.word_of_clean h, Store.readNat, Store.read]
    refine congrArg ofLe (List.map_congr_left fun i hi => ?_)
    rw [Store.byte, hdiv i (List.mem_range.1 hi), if_pos h]
  · rw [← Nat.mod_eq_of_lt (st.word_lt w), ← ofLe_bytes, Store.readNat, Store.read]
    refine congrArg ofLe (List.map_congr_left fun i hi => ?_)
    have hlt := List.mem_range.1 hi
    rw [Store.byte, hdiv i hlt, if_neg h, show (8 * w + i) % 8 = i by omega]

/-- Eight bytes from a word's address on are stored as a word. -/
theorem Store.write_word {n : Nat} {st : Store} {a : Nat} {l : List Byte} {p : Bool} (ha : a % 8 = 0) (hl : 8 ≤ l.length) :
    Store.write (n + 1) st a l p = Store.write n (st.putWord (a / 8) (leAt l 0 8) p) (a + 8) (l.drop 8) p := by
  cases l with
  | nil => simp at hl
  | cons b r => exact if_pos ⟨ha, hl⟩

/-- Eight bytes at a word's address are the word. -/
theorem Store.put_word (st : Store) (w : Nat) {v : Nat} (p : Bool) (hv : v < 2 ^ 64) :
    st.put (8 * w) (toLe 8 v) p = st.putWord w v p := by
  have hword : leAt (toLe 8 v) 0 8 = v := by
    rw [leAt, List.drop_zero, List.take_of_length_le (by simp), ofLe_toLe]
    exact Nat.mod_eq_of_lt hv
  have hrest : (toLe 8 v).drop 8 = [] := List.drop_of_length_le (by simp)
  rw [Store.put, toLe_length, Store.write_word (by omega) (by simp), hword, hrest, show 8 * w / 8 = w by omega]
  rfl

/-- A word repaired: corrected where it can be. -/
theorem Store.repair_of_correctable {st : Store} {w : Nat} (h : (st.word w).1 = 1 ∨ (st.word w).1 = 2) :
    st.repair w = st.putWord w (st.word w).2 false := if_pos h

end Sys2Proof.Machine
end

section
/-! PROOFS. Accesses of one word of tier-1 memory: who serves them, what a read counts, how a refused one ends. Settles O27. -/

namespace Sys2Proof.Machine

/-! ### Pages of the hubs (R403) -/

theorem hubDie_lt (h : Nat) : hubDie h < 40 := by
  unfold hubDie hubDies
  rcases h with _ | _ | _ | _ | h
  case succ.succ.succ.succ => exact (by decide : 10 < 40)
  all_goals decide

/-! ### What a controller counts for a word (R271, R276, R277) -/

/-- What a correctable word moves on its stack's page. -/
def ceFields : List Fld := [HBMC.CE_CNT, HBMC.LAST_CE_ADDR] ++ irqFields

/-- What the start of a retirement moves. -/
def retireFields : List Fld := HBMC.STAT_COPYING :: irqFields

theorem fieldsKept_startRetire (s : State) (st g : Nat) : FieldsKept retireFields s (s.startRetire st g) := by
  unfold State.startRetire
  split
  · refine .ite (.refl _ s) ((FieldsKept.trans ?_ ((fieldsKept_irq _ _ _).mono fun _ hf => List.mem_cons_of_mem _ hf)).frame
      (State.modStack_frame ..) (by decide))
    exact (FieldsKept.refl _ s).frame (State.emit_frame ..) (by decide)
  · exact ((FieldsKept.refl _ s).wr _ _ (.of_check (by decide)) (by decide)).frame (State.modStack_frame ..) (by decide)

theorem fieldsKept_retireGranule (s : State) (st g : Nat) : FieldsKept retireFields s (s.retireGranule st g) := by
  unfold State.retireGranule
  refine .ite (.refl _ s) ?_
  split
  · exact .ite (.refl _ s) ((FieldsKept.refl _ s).frame (State.modStack_frame ..) (by decide))
  · exact fieldsKept_startRetire s st g

section note
variable (s : State) (a : Nat) (scrub : Bool)

theorem noteWord_of_clean : s.noteWord a 0 scrub = s := by simp [State.noteWord]

theorem noteWord_of_correctable {o : Nat} (ho : o = 1 ∨ o = 2) : s.noteWord a o scrub
    = (((s.inc (hbmcPg (stackOf a)) HBMC.CE_CNT).wrA (hbmcPg (stackOf a)) HBMC.LAST_CE_ADDR a).irq (hbmcPg (stackOf a)) 0).recordCe
      (stackOf a) ((s.stack (stackOf a)).phys (localOf a / 2 ^ 20)) := by
  rcases ho with rfl | rfl <;> rfl

theorem fieldsKept_noteWord_correctable {o : Nat} (ho : o = 1 ∨ o = 2) : FieldsKept ceFields s (s.noteWord a o scrub) := by
  rw [noteWord_of_correctable s a scrub ho]
  have hcount : FieldsKept ceFields s ((s.inc (hbmcPg (stackOf a)) HBMC.CE_CNT).wrA (hbmcPg (stackOf a)) HBMC.LAST_CE_ADDR a) :=
    ((FieldsKept.refl _ s).wr _ _ (.of_check (by decide)) (by decide)).wr _ _ (.of_check (by decide)) (by decide)
  exact (hcount.trans ((fieldsKept_irq _ _ _).mono fun _ hf => List.mem_append_right _ hf)).frame (State.recordCe_frame ..) (by decide)

theorem ceCnt_noteWord {o : Nat} (ho : o = 1 ∨ o = 2) : (s.noteWord a o scrub).rd (hbmcPg (stackOf a)) HBMC.CE_CNT
    = (s.rd (hbmcPg (stackOf a)) HBMC.CE_CNT + 1) % 2 ^ 64 := by
  rw [noteWord_of_correctable s a scrub ho, (State.recordCe_frame ..).rd_eq (by decide),
    fieldsKept_irq _ _ _ _ _ (.of_check (by decide)) (by decide), State.wrA, rd_wr_of_start _ _ (by decide), State.inc, rd_wr_same]
  rfl

/-- An uncorrectable word is counted and its address noted; what follows moves neither. -/
theorem fieldsKept_noteWord_uncorrectable :
    FieldsKept retireFields ((s.inc (hbmcPg (stackOf a)) HBMC.UE_CNT).wrA (hbmcPg (stackOf a)) HBMC.LAST_UE_ADDR a) (s.noteWord a 3 scrub) := by
  have hirq (t : State) (i : Nat) : FieldsKept retireFields t (t.irq (hbmcPg (stackOf a)) i) :=
    (fieldsKept_irq _ _ _).mono fun _ hf => List.mem_cons_of_mem _ hf
  refine FieldsKept.trans ?_ (fieldsKept_retireGranule _ _ _)
  have hemit := (hirq ((s.inc (hbmcPg (stackOf a)) HBMC.UE_CNT).wrA (hbmcPg (stackOf a)) HBMC.LAST_UE_ADDR a) 1).frame
    (State.emit_frame _ (hbmcPg (stackOf a)) 0x6022 0) (by decide)
  exact .ite hemit (hemit.frame (State.modStack_frame ..) (by decide))

theorem ueCnt_noteWord : (s.noteWord a 3 scrub).rd (hbmcPg (stackOf a)) HBMC.UE_CNT
    = (s.rd (hbmcPg (stackOf a)) HBMC.UE_CNT + 1) % 2 ^ 64 := by
  rw [fieldsKept_noteWord_uncorrectable s a scrub _ _ (.of_check (by decide)) (by decide), State.wrA, rd_wr_of_start _ _ (by decide),
    State.inc, rd_wr_same]
  rfl

end note

/-! ### Reading one word (R268, R269, R271) -/

section word
variable {s : State} {w : Nat}

/-- A read of a word in tier 1 notes that word, once. -/
theorem touch_word (hdev : s.dev.wf = true) (hw : 8 * w < tier1End) :
    s.touch (8 * w) 8 = s.noteWord (8 * w) (s.dev.word w).1 false := by
  have hfilter : s.dev.chk.filter (fun e => decide (8 * w / 8 ≤ e.1) && decide (e.1 ≤ (8 * w + 8 - 1) / 8))
      = if s.dev.chkAt w = 0 then [] else [(w, s.dev.chkAt w)] := by
    rw [Store.chkAt, ← filter_chk_eq (Store.wf_chk hdev)]
    refine List.filter_congr fun e _ => ?_
    rw [Bool.eq_iff_iff]
    simp only [Bool.and_eq_true, decide_eq_true_eq, beq_iff_eq]
    omega
  rw [State.touch, if_neg (by decide), if_neg (by omega), hfilter]
  split
  · next h => rw [Store.word_of_clean h, noteWord_of_clean, List.foldl_nil]
  · rfl

/-- Nothing of user memory in tier 1 lies behind a port of tier 2. -/
theorem lostIn_of_soft (s : State) {a n : Nat} (h : a + n ≤ softEnd) : s.lostIn a n = false := by
  by_cases hn : n = 0
  · simp [State.lostIn, hn]
  · have hlow (i : Nat) (hi : i < (a + n - 1) / 4096 - a / 4096 + 1) : s.lostAt (4096 * (a / 4096 + i)) = false := by
      have hbelow : ¬ tier2Base ≤ 4096 * (a / 4096 + i) := by
        unfold tier2Base
        unfold softEnd at h
        omega
      simp [State.lostAt, hbelow]
    have hnone : (List.range ((a + n - 1) / 4096 - a / 4096 + 1)).any (fun i => s.lostAt (4096 * (a / 4096 + i))) = false :=
      List.any_eq_false.2 fun i hi => by simp [hlow i (List.mem_range.1 hi)]
    rw [State.lostIn, hnone, Bool.and_false]

theorem devBad_word (s : State) (hw : 8 * w < softEnd) : s.devBad (8 * w) 8 = s.dev.wordBad w := by
  have hend : 8 * w + 8 ≤ softEnd := by
    unfold softEnd at hw ⊢
    omega
  rw [State.devBad, Store.bad_word, lostIn_of_soft s hend, Bool.or_false]

theorem devNat_word (s : State) (w : Nat) : s.devNat (8 * w) 8 = (s.dev.word w).2 := Store.readNat_word _ _

/-- The read of one word, before what a marked word that leaves for the host adds. -/
def State.readWord (s : State) (w : Nat) : State :=
  (s.noteWord (8 * w) (s.dev.word w).1 false).send (.completion (s.dev.wordBad w) (s.dev.word w).2)

/-- Marked data that leaves by BAR2 is counted (R275). -/
def State.txPoison (s : State) (rq : Requester) (bad : Bool) : State :=
  match rq with
  | .bar2 _ => if bad then (s.inc (pciePg 0) PCIE.POISON_TX_CNT).emit (pciePg 0) 0x6031 0 else s
  | _ => s

theorem serveWord_read (hdev : s.dev.wf = true) (hw : 8 * w < softEnd) (rq : Requester) :
    s.serveWord rq (8 * w) none = (s.readWord w).txPoison rq (s.dev.wordBad w) := by
  have hlow : 8 * w < tier1End := hw.trans (by decide)
  unfold State.serveWord
  dsimp only
  rw [touch_word hdev hlow, devBad_word s hw, devNat_word]
  cases rq <;> rfl

theorem txPoison_clean (s : State) (rq : Requester) : s.txPoison rq false = s := by cases rq <;> rfl

theorem fieldsKept_txPoison (s : State) (rq : Requester) (bad : Bool) : FieldsKept [PCIE.POISON_TX_CNT] s (s.txPoison rq bad) := by
  cases rq
  case bar2 f =>
    exact .ite (((FieldsKept.refl _ s).wr _ _ (.of_check (by decide)) (by decide)).frame (State.emit_frame ..) (by decide)) (.refl _ s)
  all_goals exact .refl _ s

theorem txPoison_frame (s : State) (rq : Requester) (bad : Bool) : Frame [.regs, .dies] s (s.txPoison rq bad) := by
  cases rq
  case bar2 f =>
    exact .ite ((State.emit_frame ..).after (by decide) ((State.inc_frame ..).after (by decide) (.refl _ s))) (.refl _ s)
  all_goals exact .refl _ s

theorem out_readWord_txPoison (s : State) (w : Nat) (rq : Requester) (bad : Bool) :
    OutMsg.completion (s.dev.wordBad w) (s.dev.word w).2 ∈ ((s.readWord w).txPoison rq bad).out := by
  have hout : ((s.readWord w).txPoison rq bad).out = (s.readWord w).out := by
    have hkept := (txPoison_frame (s.readWord w) rq bad).keeps .out (by decide)
    exact (Prod.ext_iff.1 hkept).1
  rw [hout]
  exact List.mem_append_right _ (List.mem_singleton_self _)

theorem dev_readWord_txPoison (s : State) (w : Nat) (rq : Requester) (bad : Bool) : ((s.readWord w).txPoison rq bad).dev = s.dev :=
  ((txPoison_frame _ rq bad).keeps .dev (by decide)).trans ((State.noteWord_frame ..).keeps .dev (by decide))

theorem rd_readWord_txPoison (s : State) (w : Nat) (rq : Requester) (bad : Bool) (q : Nat) {g : Fld} (hg : FldFits g)
    (hstart : fldStart g ≠ fldStart PCIE.POISON_TX_CNT) :
    ((s.readWord w).txPoison rq bad).rd q g = (s.noteWord (8 * w) (s.dev.word w).1 false).rd q g := by
  rw [fieldsKept_txPoison _ _ _ _ _ hg (by simpa using hstart)]
  rfl

/-- Writing one word of tier 1. -/
theorem serveWord_write (s : State) (hw : 8 * w < softEnd) (rq : Requester) {v : Nat} (hv : v < 2 ^ 64) (poison : Bool) :
    s.serveWord rq (8 * w) (some (v, poison)) = { s with dev := s.dev.putWord w v poison } := by
  have hlow : ¬ tier2Base ≤ 8 * w := by
    unfold softEnd at hw
    unfold tier2Base
    omega
  rw [State.serveWord]
  rw [State.devWrite, if_neg hlow, State.count2, if_pos (.inr (Nat.lt_of_not_le hlow)), Store.put_word _ _ _ hv]

end word

/-! ### Who serves an access (R262, R263, R311) -/

theorem region_of_soft (s : State) {a : Nat} (h : a < softEnd) : s.region a = .soft := if_pos h

/-- What an access that reaches the address map has moved: marked data from the host and a peer's bytes are counted. -/
def accessFields : List Fld := [PCIE.POISON_RX_CNT, PLK.RX_BYTES, PLK.TX_BYTES]

/-- The state in which the address map meets an access: marked data from the host is counted before (R275). -/
def State.received (s : State) (i : Instr) : State :=
  match i with
  | .bar2Access _ (some (_, true)) _ => s.inc (pciePg 0) PCIE.POISON_RX_CNT
  | _ => s

theorem received_frame (s : State) (i : Instr) : Frame [.regs] s (s.received i) := by
  unfold State.received
  split
  · exact State.inc_frame ..
  · exact .refl _ s

theorem fieldsKept_received (s : State) (i : Instr) : FieldsKept [PCIE.POISON_RX_CNT] s (s.received i) := by
  unfold State.received
  split
  · exact (FieldsKept.refl _ s).wr _ _ (.of_check (by decide)) (by decide)
  · exact .refl _ s

section access
variable {s : State} {i : Instr} {rq : Requester} {a : Nat} {wr : Option (Nat × Bool)}

/-- Either the state stands, or the requester is the host's window. -/
theorem received_cases (hacc : s.accesses i rq a wr = true) : s.received i = s ∨ rq = .bar2 0 := by
  unfold State.accesses at hacc
  split at hacc
  · exact .inl rfl
  · simp only [Bool.and_eq_true, decide_eq_true_eq] at hacc
    exact .inr hacc.1.1.1.1.1.1.1
  · simp at hacc

/-- An access of one word: aligned, of a word's width, and served by the address map. -/
theorem exec_of_accesses (hlets : s.lets i) (hacc : s.accesses i rq a wr = true) :
    a % 8 = 0 ∧ (∀ v poison, wr = some (v, poison) → v < 2 ^ 64) ∧ exec i s = .next ((s.received i).serveAccess rq a wr) := by
  have hwf := hlets.1
  unfold State.accesses at hacc
  simp only [Bool.and_eq_true, Bool.not_eq_true'] at hacc
  obtain ⟨⟨⟨hcmd, hfrozen⟩, hhalted⟩, hup⟩ := hacc
  split at hcmd
  · next q b x =>
    simp only [Bool.and_eq_true, decide_eq_true_eq, beq_iff_eq] at hcmd
    obtain ⟨⟨rfl, rfl⟩, rfl⟩ := hcmd
    simp only [Instr.wf, Bool.and_eq_true, decide_eq_true_eq] at hwf
    obtain ⟨⟨-, halign⟩, hwr⟩ := hwf
    refine ⟨halign, fun v poison hv => ?_, exec_of_effect hlets rfl ?_⟩
    · subst hv
      simpa [wfWr] using hwr
    · unfold memAccessEffect
      split
      · exact if_neg (by simp [hfrozen])
      · exact if_neg (by simp [hfrozen])
      · exact if_neg (by simp [hfrozen, hup])
      · exact if_neg (by simp [hhalted])
  · next off x stream =>
    simp only [Bool.and_eq_true, decide_eq_true_eq, beq_iff_eq] at hcmd
    obtain ⟨⟨⟨⟨rfl, rfl⟩, halign⟩, rfl⟩, hide⟩ := hcmd
    simp only [Instr.wf, Bool.and_eq_true] at hwf
    have hwr := hwf.1.2
    refine ⟨halign, fun v poison hv => ?_, exec_of_effect hlets rfl ?_⟩
    · subst hv
      simpa [wfWr] using hwr
    · have hthaw : (s.received (.bar2Access off x stream)).frozen = false := by
        rw [State.frozen, State.rdB, fieldsKept_received _ _ _ _ (.of_check (by decide)) (by decide),
          show (s.received _).power = s.power from (received_frame s _).keeps .power (by decide)]
        exact hfrozen
      have hreceived : bar2Effect s off x stream = memAccessEffect (s.received (.bar2Access off x stream)) (.bar2 0)
          (s.rdA (pciePg 0) PCIE.W2_BASE_BASE + off) x := by
        unfold bar2Effect
        rw [hide]
        rcases x with _ | ⟨v, _ | _⟩ <;> rfl
      exact hreceived.trans (if_neg (by simp [hthaw]))
  · simp at hcmd

/-- What a counter of marked data moves is nothing that a permission rests on. -/
theorem mayAccess_received (hacc : s.accesses i rq a wr = true) (ha : a < softEnd) (write : Bool) :
    (s.received i).mayAccess rq a write = s.mayAccess rq a write := by
  rcases received_cases hacc with heq | rfl
  · rw [heq]
  · have hkeep := fieldsKept_received s i
    have hroute : FldFits (MESH.ROUTE_UNREACHABLE (hubDie (stackOf a / 3))) := by
      have hlt := hubDie_lt (stackOf a / 3)
      exact .mk (by decide) (by omega) (by decide)
    have hunreach := hkeep (meshPg 10) _ hroute (by simp [fldStart, MESH.ROUTE_UNREACHABLE, PCIE.POISON_RX_CNT]; omega)
    have hready := hkeep (pciePg 0) PCIE.STAT_DEV_READY (.of_check (by decide)) (by decide)
    simp only [State.mayAccess, State.dstDie, region_of_soft _ ha, srcDie, State.rdB, hunreach, hready]

theorem countPeer_frame (s : State) (rq : Requester) (write : Bool) : Frame [.regs] s (s.countPeer rq write) := by
  cases rq
  case peer p => exact State.inc_frame ..
  all_goals exact .refl _ s

theorem fieldsKept_countPeer (s : State) (rq : Requester) (write : Bool) : FieldsKept accessFields s (s.countPeer rq write) := by
  cases rq
  case peer p => cases write <;> exact (FieldsKept.refl _ s).wr _ _ (.of_check (by decide)) (by decide)
  all_goals exact .refl _ s

/-- A permitted access of user memory in tier 1 whose granule is not being copied. -/
theorem serveAccess_of_soft (t : State) (ha : a < softEnd) (hmay : t.mayAccess rq a wr.isSome = true) (hheld : t.granuleHeld a = false) :
    t.serveAccess rq a wr = (t.countPeer rq wr.isSome).serveWord rq a wr := by
  have hheld' : (t.countPeer rq wr.isSome).granuleHeld a = false := by
    cases rq <;> exact hheld
  simp only [State.serveAccess, hmay, Bool.not_true, Bool.false_eq_true, if_false, region_of_soft _ ha, hheld']

theorem serveAccess_of_refused (t : State) (hmay : t.mayAccess rq a wr.isSome = false) :
    t.serveAccess rq a wr = t.refuseAccess rq a wr.isSome := if_pos (by simp [hmay])

/-- A permitted access is served from a state that differs by what receiving it counts. -/
theorem exec_of_permitted (hlets : s.lets i) (hacc : s.accesses i rq a wr = true) (ha : a < softEnd) (hheld : s.granuleHeld a = false)
    (hmay : s.mayAccess rq a wr.isSome = true) :
    ∃ y, Frame [.regs] s y ∧ FieldsKept accessFields s y ∧ exec i s = .next (y.serveWord rq a wr) := by
  obtain ⟨-, -, hexec⟩ := exec_of_accesses hlets hacc
  have hgranule : (s.received i).granuleHeld a = false := by
    have hstack : (s.received i).hbms = s.hbms := (received_frame s i).keeps .hbms (by decide)
    simpa only [State.granuleHeld, State.stack, hstack] using hheld
  rw [serveAccess_of_soft _ ha ((mayAccess_received hacc ha _).trans hmay) hgranule] at hexec
  exact ⟨_, (countPeer_frame ..).after (by decide) (received_frame s i),
    ((fieldsKept_received s i).mono (by simp [accessFields])).trans (fieldsKept_countPeer _ _ _), hexec⟩

theorem exec_of_forbidden (hlets : s.lets i) (hacc : s.accesses i rq a wr = true) (ha : a < softEnd)
    (hmay : s.mayAccess rq a wr.isSome = false) : exec i s = .next ((s.received i).refuseAccess rq a wr.isSome) := by
  rw [(exec_of_accesses hlets hacc).2.2, serveAccess_of_refused _ ((mayAccess_received hacc ha _).trans hmay)]

end access

/-! ### Refusals (R263) -/

section refuse
variable (s : State) (a : Nat)

theorem urCnt_extRefuse (p : Nat) (read : Bool) :
    (s.extRefuse p a read).rd (pciePg p) PCIE.UR_CNT = (s.rd (pciePg p) PCIE.UR_CNT + 1) % 2 ^ 64 := by
  have hcount : ((s.inc (pciePg p) PCIE.UR_CNT).emitLimited (pageDie (pciePg p)) (0x6012100 + p) ticksMs (pciePg p) 0x6012 a).rd (pciePg p)
      PCIE.UR_CNT = (s.rd (pciePg p) PCIE.UR_CNT + 1) % 2 ^ 64 := by
    rw [rd_emitLimited, State.inc, rd_wr_same]
    rfl
  cases read <;> exact hcount

theorem dev_extRefuse (p : Nat) (read : Bool) : (s.extRefuse p a read).dev = s.dev := (State.extRefuse_frame ..).keeps .dev (by decide)

theorem out_extRefuse_read (p : Nat) : OutMsg.unsupported ∈ (s.extRefuse p a true).out :=
  List.mem_append_right _ (List.mem_singleton_self _)

theorem out_extRefuse_write (p : Nat) : (s.extRefuse p a false).out = s.out := emitLimited_out _ _ _ _ _ _ _

theorem refusedCnt_refuseAccess_peer (p : Nat) (write : Bool) :
    (s.refuseAccess (.peer p) a write).rd (plkPg p) PLK.REFUSED_CNT = (s.rd (plkPg p) PLK.REFUSED_CNT + 1) % 2 ^ 64 := by
  have hcount : (((s.inc (plkPg p) PLK.REFUSED_CNT).irq (plkPg p) 4).emitLimited (pageDie (plkPg p)) (0x6012000 + p) ticksMs (plkPg p)
      0x6012 a).rd (plkPg p) PLK.REFUSED_CNT = (s.rd (plkPg p) PLK.REFUSED_CNT + 1) % 2 ^ 64 := by
    rw [rd_emitLimited, fieldsKept_irq _ _ _ _ _ (.of_check (by decide)) (by decide), State.inc, rd_wr_same]
    rfl
  exact hcount

theorem dev_refuseAccess_peer (p : Nat) (write : Bool) : (s.refuseAccess (.peer p) a write).dev = s.dev := by
  simp only [State.refuseAccess, send_dev, emitLimited_dev, irq_dev]
  rfl

end refuse

/-- Settles O27: an access of one aligned word of tier 1 ends in `serveWord` or in `refuseAccess`, by permission. -/
theorem memoryIsReadAndWritten : Obligations.MemoryIsReadAndWritten := by
  unfold Obligations.MemoryIsReadAndWritten
  intro s i rq a wr hmem hlets hacc ha hheld
  have hdev : s.dev.wf = true := by
    simp only [MemoryInv, Memory.wf, Bool.and_eq_true] at hmem
    exact hmem.1.1.1
  obtain ⟨halign, hfits, hserved⟩ := exec_of_accesses hlets hacc
  obtain ⟨w, rfl⟩ : ∃ w, a = 8 * w := ⟨a / 8, by omega⟩
  have hindex : 8 * w / 8 = w := by omega
  have hread (hnone : wr = none) (hmay : s.mayAccess rq (8 * w) false = true) : ∃ y, Frame [.regs] s y ∧ FieldsKept accessFields s y
      ∧ y.dev = s.dev ∧ exec i s = .next ((y.readWord w).txPoison rq (s.dev.wordBad w)) := by
    subst hnone
    obtain ⟨y, hframe, hkept, hexec⟩ := exec_of_permitted hlets hacc ha hheld hmay
    have hsame : y.dev = s.dev := hframe.keeps .dev (by decide)
    rw [serveWord_read (hsame ▸ hdev) ha, hsame] at hexec
    exact ⟨y, hframe, hkept, hsame, hexec⟩
  have hpoisonTx (g : Fld) (hg : g = HBMC.CE_CNT ∨ g = HBMC.UE_CNT) :
      FldFits g ∧ fldStart g ≠ fldStart PCIE.POISON_TX_CNT ∧ ∀ f ∈ accessFields, fldStart g ≠ fldStart f := by
    rcases hg with rfl | rfl <;> exact ⟨.of_check (by decide), by decide, by decide⟩
  have hcounted {y : State} (hkept : FieldsKept accessFields s y) (g : Fld) (hg : g = HBMC.CE_CNT ∨ g = HBMC.UE_CNT) :
      y.rd (hbmcPg (stackOf (8 * w))) g = s.rd (hbmcPg (stackOf (8 * w))) g := by
    obtain ⟨hfit, -, hstart⟩ := hpoisonTx g hg
    exact hkept _ _ hfit hstart
  simp only [hindex]
  refine ⟨?written, ?clean, ?corrected, ?uncorrected, fun hmay => ?refused⟩
  case written =>
    intro v poison hwr hmay
    subst hwr
    obtain ⟨y, hframe, -, hexec⟩ := exec_of_permitted hlets hacc ha hheld hmay
    have hsame : y.dev = s.dev := hframe.keeps .dev (by decide)
    have hv := hfits v poison rfl
    have hstored := serveWord_write y ha rq hv poison
    rw [hsame] at hstored
    rw [hstored] at hexec
    refine ⟨_, hexec, Store.word_putWord_same hdev w poison hv, fun x hx => Store.word_putWord_other hdev w v x poison hx, ?_⟩
    exact ((Frame.dev_wf y (s.dev.putWord w v poison) fun _ => Store.putWord_wf _ _ _ hdev).after (by decide)
      (hframe.after (by decide) (.refl _ s))).keeps
  case clean =>
    intro hwr hmay hword
    obtain ⟨y, hframe, -, hsame, hexec⟩ := hread hwr hmay
    have hchk := Store.chkAt_of_clean hword
    have hplain : (y.readWord w).txPoison rq (s.dev.wordBad w) = y.send (.completion false (s.dev.raw w)) := by
      have hbad : s.dev.wordBad w = false := by rw [Store.wordBad, hword]; rfl
      rw [hbad, txPoison_clean, State.readWord, hsame, hbad, Store.word_of_clean hchk]
      rfl
    rw [hplain] at hexec
    refine ⟨_, hexec, ?_, ((State.send_frame y _).after (by decide) (hframe.after (by decide) (.refl _ s))).keeps⟩
    have hout := (Prod.ext_iff.1 (hframe.keeps .out (by decide))).1
    exact congrArg (· ++ [OutMsg.completion false (s.dev.raw w)]) hout
  case corrected =>
    intro hwr hmay hword
    obtain ⟨y, -, hkept, hsame, hexec⟩ := hread hwr hmay
    have hbad : s.dev.wordBad w = false := by
      rw [Store.wordBad]
      rcases hword with h | h <;> rw [h] <;> rfl
    have hsent := out_readWord_txPoison y w rq (s.dev.wordBad w)
    rw [hsame, hbad] at hsent
    have hcount (g : Fld) (hg : g = HBMC.CE_CNT ∨ g = HBMC.UE_CNT) := rd_readWord_txPoison y w rq (s.dev.wordBad w)
      (hbmcPg (stackOf (8 * w))) (hpoisonTx g hg).1 (hpoisonTx g hg).2.1
    rw [hsame] at hcount
    refine ⟨_, hexec, hbad ▸ hsent, (dev_readWord_txPoison ..).trans hsame, ?_, ?_⟩
    · rw [hcount _ (.inl rfl), ceCnt_noteWord _ _ _ hword, hcounted hkept _ (.inl rfl)]
    · rw [hcount _ (.inr rfl), fieldsKept_noteWord_correctable _ _ _ hword _ _ (.of_check (by decide)) (by decide),
        hcounted hkept _ (.inr rfl)]
  case uncorrected =>
    intro hwr hmay hword
    obtain ⟨y, -, hkept, hsame, hexec⟩ := hread hwr hmay
    have hbad : s.dev.wordBad w = true := by rw [Store.wordBad, hword]; rfl
    have hsent := out_readWord_txPoison y w rq (s.dev.wordBad w)
    rw [hsame, hbad] at hsent
    have hcount := rd_readWord_txPoison y w rq (s.dev.wordBad w) (hbmcPg (stackOf (8 * w))) (hpoisonTx _ (.inr rfl)).1
      (hpoisonTx _ (.inr rfl)).2.1
    rw [hsame, hword] at hcount
    refine ⟨_, hexec, hbad ▸ hsent, (dev_readWord_txPoison ..).trans hsame, ?_⟩
    rw [hcount, ueCnt_noteWord, hcounted hkept _ (.inr rfl)]
  case refused =>
    have hexec := exec_of_forbidden hlets hacc ha hmay
    have hframe := received_frame s i
    have hsame : (s.received i).dev = s.dev := hframe.keeps .dev (by decide)
    have hkept := fieldsKept_received s i
    have hur (p : Nat) := hkept (pciePg p) PCIE.UR_CNT (.of_check (by decide)) (by decide)
    refine ⟨fun p hrq => ?_, fun f hrq hwr => ?_, fun f v hrq hwr => ?_, fun hrq => ?_, fun c t hrq => ?_⟩
    · subst hrq
      refine ⟨_, hexec, List.mem_append_right _ (List.mem_singleton_self _), ?_, (dev_refuseAccess_peer ..).trans hsame⟩
      rw [refusedCnt_refuseAccess_peer, hkept _ _ (.of_check (by decide)) (by decide)]
    · subst hrq hwr
      refine ⟨_, hexec, out_extRefuse_read _ _ _, ?_, (dev_extRefuse ..).trans hsame⟩
      exact (urCnt_extRefuse ..).trans (by rw [hur])
    · subst hrq hwr
      refine ⟨_, hexec, (out_extRefuse_write ..).trans (Prod.ext_iff.1 (hframe.keeps .out (by decide))).1, ?_, (dev_extRefuse ..).trans hsame⟩
      exact (urCnt_extRefuse ..).trans (by rw [hur])
    · subst hrq
      refine ⟨_, hexec, ?_, (dev_extRefuse ..).trans hsame⟩
      exact (urCnt_extRefuse ..).trans (by rw [hur])
    · subst hrq
      rcases received_cases hacc with heq | hbar
      · rw [hexec, heq]
        rfl
      · cases hbar

end Sys2Proof.Machine
end

section
/-! PROOFS. A test write of more than 64 bits. Refutes O28. -/

namespace Sys2Proof.Machine

/-- Hub die 10 under test at address 0, and TDATA holds 2 ^ 64, which no write of its 64 bits leaves there. -/
def wideTestData : State :=
  { State.reset with
    regs := mput (mput State.reset.regs (fkey (eccPg 10) ECC.CTRL_TEST_EN) 1) (fkey (eccPg 10) ECC.TDATA) (2 ^ 64) }

theorem lets_wideTestData : wideTestData.lets (.eccTestWrite 10) := lets_of_check (by decide)

/-- Refutes O28: the statement ranges over every state, and where TDATA holds 2 ^ 64 a test write has the word at address 0 read
2 ^ 64, which is no word. -/
theorem not_controllersScrubRetireAndTest : ¬ Obligations.ControllersScrubRetireAndTest := by
  unfold Obligations.ControllersScrubRetireAndTest
  rintro ⟨-, htest⟩
  obtain ⟨hwrite, -⟩ := (htest wideTestData 10).1 0 (by decide) (by decide) (by decide) (by decide) (by decide)
  obtain ⟨u, -, hraw, -⟩ := hwrite lets_wideTestData
  have hwide : wideTestData.rd (eccPg 10) ECC.TDATA = 2 ^ 64 := by decide
  exact Nat.ne_of_lt (u.dev.raw_lt (0 / 8)) (hraw.trans hwide)

end Sys2Proof.Machine
end

section
/-! PROOFS. Peer ports: training, lanes that fail, ports that go down. Settles O32. -/

namespace Sys2Proof.Machine

section port
variable {s : State} {p : Nat}

/-! ### Copies of a port that goes down (R300) -/

/-- With no copy in flight a port that leaves its peers' maps has none to reissue. -/
theorem foldl_reissue_of_none {f : State → Nat → State} (hf : ∀ t h, t.copies h = [] → f t h = t.setCopies h []) (l : List Nat) :
    ∀ t : State, (∀ h ∈ l, t.copies h = []) → Frame [.rcopies] t (l.foldl f t) := by
  induction l with
  | nil => exact fun t _ => .refl _ t
  | cons h l ih =>
    intro t ht
    have hfree : ∀ k ∈ l, (t.setCopies h []).copies k = [] := by
      intro k hk
      by_cases hkh : k = h
      · rw [hkh]
        exact mget_mput_same _ _ _ _
      · exact (mget_mput_other _ _ _ _ _ hkh).trans (ht k (List.mem_cons_of_mem _ hk))
    rw [List.foldl_cons, hf t h (ht h List.mem_cons_self)]
    exact (ih _ hfree).after (fun _ hp => hp) (Frame.upd_rcopies t (mput t.rcopies h []))

theorem reissue_frame_of_none (hc : ∀ h < 4, s.copies h = []) (p : Nat) : Frame [.rcopies] s (s.reissue p) := by
  refine foldl_reissue_of_none (fun t h ht => ?_) _ s fun h hh => hc h (List.mem_range.1 hh)
  simp only [ht, List.filter_nil, List.foldl_nil]
  rfl

theorem plkDown_of_none (hc : ∀ h < 4, s.copies h = []) (p : Nat) :
    (s.plkDown p).rd (plkPg p) PLK.STAT_STATE = 0 ∧ (s.plkDown p).port p = s.port p ∧ (s.plkDown p).dev = s.dev := by
  have hcopies : ∀ h < 4, (((s.wr (plkPg p) PLK.STAT_STATE 0).emit (plkPg p) 0x9033 0).irq (plkPg p) 0).copies h = [] := by
    intro h hh
    rw [State.copies, irq_rcopies]
    exact hc h hh
  have hframe := reissue_frame_of_none hcopies p
  refine ⟨?_, ?_, ?_⟩
  · rw [State.plkDown, hframe.rd_eq (by decide), fieldsKept_irq _ _ _ _ _ (.of_check (by decide)) (by decide), State.emit, rd_emitR, rd_wr_same]
    rfl
  · rw [State.plkDown, State.port, hframe.keeps .ports (by decide), irq_ports]
    rfl
  · rw [State.plkDown, hframe.keeps .dev (by decide), irq_dev]
    rfl

/-! ### Training (R297) -/

theorem plkTrainEffect_done (s : State) (p : Nat) (retrain : Bool) :
    (plkTrainEffect s p retrain).rd (plkPg p) PLK.STAT_STATE = 1
      ∧ PagesKept [plkPg p] s (plkTrainEffect s p retrain) ∧ Keeps [.regs, .ports] s (plkTrainEffect s p retrain) := by
  refine ⟨(rd_modPort _ _ _ _ _).trans (rd_wr_same _ _ _ _), ?_, (plkTrainEffect_frame s p retrain).keeps⟩
  have hstate (t : State) (h : PagesKept [plkPg p] s t) : PagesKept [plkPg p] s (t.wr (plkPg p) PLK.STAT_STATE 1) :=
    h.wr_page 1 (.of_check (by decide)) (List.mem_singleton_self _)
  cases retrain
  · exact hstate _ ((PagesKept.refl _ s).wr_page (f := PLK.CTRL_ENABLE) 1 (.of_check (by decide)) (List.mem_singleton_self _))
  · exact hstate s (.refl _ s)

/-- Where lanes take the spare's place: the only lane that failed, unless it is the spare itself. -/
def spareFor (bad : Nat) : Nat :=
  if (bitsOf bad 17).length = 1 then (if bad.testBit 16 then 0x1F else (bitsOf bad 17).headD 0x1F) else 0x1F

/-- The lanes found bad and the spare's place are noted as training ends. -/
def State.noteLanes (s : State) (p bad : Nat) : State :=
  (s.modPort p (fun x => { x with badLanes := bitsOf bad 17 })).wr (plkPg p) PLK.STAT_SPARE_FOR (spareFor bad)

/-- A port that comes up degraded says so. -/
def State.noteWidth (s : State) (p bad : Nat) : State :=
  if (bitsOf bad 17).length < 2 then s.noteLanes p bad else ((s.noteLanes p bad).emit (plkPg p) 0x9032 0).irq (plkPg p) 2

theorem fieldsKept_noteWidth (s : State) (p bad : Nat) : FieldsKept (PLK.STAT_SPARE_FOR :: irqFields) s (s.noteWidth p bad) := by
  have hlanes : FieldsKept (PLK.STAT_SPARE_FOR :: irqFields) s (s.noteLanes p bad) :=
    ((FieldsKept.refl _ s).frame (State.modPort_frame ..) (by decide)).wr _ _ (.of_check (by decide)) (by decide)
  exact .ite hlanes ((hlanes.frame (State.emit_frame ..) (by decide)).trans
    ((fieldsKept_irq _ _ _).mono fun _ hf => List.mem_cons_of_mem _ hf))

theorem badLanes_noteLanes (s : State) (p bad : Nat) : ((s.noteLanes p bad).port p).badLanes = bitsOf bad 17 := by
  simp [State.noteLanes]

theorem badLanes_noteWidth (s : State) (p bad : Nat) : ((s.noteWidth p bad).port p).badLanes = bitsOf bad 17 := by
  unfold State.noteWidth
  split
  · exact badLanes_noteLanes s p bad
  · rw [port_irq]
    exact badLanes_noteLanes s p bad

section trained
variable {bad versions peer peerPort : Nat} (hstate : s.rd (plkPg p) PLK.STAT_STATE = 1)
include hstate

theorem plkTrainDoneEffect_of_narrow (hbad : 9 < (bitsOf bad 17).length) :
    plkTrainDoneEffect s p bad versions peer peerPort = (s.noteLanes p bad).plkDown p := by
  rw [plkTrainDoneEffect, if_neg (not_not.2 hstate)]
  exact if_pos (by omega)

theorem plkTrainDoneEffect_of_wide (hbad : (bitsOf bad 17).length ≤ 9) : plkTrainDoneEffect s p bad versions peer peerPort
    = (let t := s.noteWidth p bad
       if (versions &&& s.rd (plkPg p) PLK.CAP_VERSIONS) = 0 then ((t.wr (plkPg p) PLK.STAT_STATE 0).emit (plkPg p) 0x9034 0).irq (plkPg p) 3
       else (((t.wr (plkPg p) PLK.STAT_VERSION (versions &&& s.rd (plkPg p) PLK.CAP_VERSIONS).log2).wr (plkPg p) PLK.STAT_PEER_ID peer).wr
         (plkPg p) PLK.STAT_PEER_PORT peerPort).wr (plkPg p) PLK.STAT_STATE (if (bitsOf bad 17).length < 2 then 2 else 3)) := by
  have hcap := fieldsKept_noteWidth s p bad (plkPg p) PLK.CAP_VERSIONS (.of_check (by decide)) (by decide)
  dsimp only
  rw [← hcap, plkTrainDoneEffect, if_neg (not_not.2 hstate)]
  exact if_neg (by omega)

end trained

/-! ### Lanes that fail once up (R298) -/

theorem plkLaneErrorEffect_of_up {lane : Nat} (hup : s.plkUp p = true) (hlane : (s.port p).badLanes.contains lane = false) :
    plkLaneErrorEffect s p lane
      = (let t := s.modPort p (fun x => { x with badLanes := x.badLanes ++ [lane] })
         if (s.port p).badLanes.isEmpty then
           if lane = 16 then t
           else (((t.wr (plkPg p) PLK.STAT_SPARE_FOR lane).emit (plkPg p) 0x9031 0).irq (plkPg p) 1).logRetired 3 (pageDie (plkPg p)) p lane
         else if 17 - ((s.port p).badLanes.length + 1) < 8 then t.plkDown p
         else (((t.wr (plkPg p) PLK.STAT_SPARE_FOR 0x1F).wr (plkPg p) PLK.STAT_STATE 3).emit (plkPg p) 0x9032 0).irq (plkPg p) 2) :=
  if_neg (by rw [hup, hlane]; decide)

theorem badLanes_modPort (s : State) (p lane : Nat) :
    (s.modPort p (fun x => { x with badLanes := x.badLanes ++ [lane] })).port p
      = { s.port p with badLanes := (s.port p).badLanes ++ [lane] } := port_modPort_same s p _

end port

/-- Settles O32: with no remote copy in flight, what a port's training and its lanes' failures write on its page. -/
theorem peerPortsTrainAndFail : Obligations.PeerPortsTrainAndFail := by
  unfold Obligations.PeerPortsTrainAndFail
  intro s p hcopies
  refine ⟨fun hlets => ?begins, fun hlets => ?again, fun bad versions peer peerPort hlets hstate => ⟨fun hbad hver => ?up, fun hfail => ?down⟩,
    fun lane hlets hup => ⟨fun hnone hlane => ?spared, fun hnone hlane => ?unused, fun hsome hnew => ?degraded, fun hold => ?known⟩,
    fun hlets hup => ?replay⟩
  case begins =>
    obtain ⟨hstat, hpages, hkeeps⟩ := plkTrainEffect_done s p false
    refine ⟨_, exec_of_effect hlets rfl rfl, ?_, hstat, ?_, hpages, hkeeps⟩
    · refine (rd_wr_of_start (p := plkPg p) (f := PLK.STAT_STATE) _ 1 (by decide)).trans ?_
      exact rd_wr_same _ _ _ _
    · simp [plkTrainEffect]
  case again =>
    obtain ⟨hstat, hpages, hkeeps⟩ := plkTrainEffect_done s p true
    refine ⟨_, exec_of_effect hlets rfl rfl, hstat, ?_, ?_, hpages, hkeeps⟩
    · exact port_modPort_same _ _ _
    · exact rd_wr_of_start (p := plkPg p) (f := PLK.STAT_STATE) _ 1 (by decide)
  case up =>
    have hwf := hlets.1
    simp only [Instr.wf, Bool.and_eq_true, decide_eq_true_eq] at hwf
    obtain ⟨⟨-, hpeer⟩, hport⟩ := hwf
    have heffect := plkTrainDoneEffect_of_wide (versions := versions) (peer := peer) (peerPort := peerPort) hstate hbad
    dsimp only at heffect
    rw [if_neg hver] at heffect
    refine ⟨_, exec_of_effect hlets rfl heffect, ?_, ?_, ?_, ?_, ?_⟩
    · rw [rd_wr_same]
      split <;> rfl
    · rw [rd_wr_of_start _ _ (by decide), rd_wr_of_start _ _ (by decide), rd_wr_of_start _ _ (by decide), rd_wr_same]
      rfl
    · rw [rd_wr_of_start _ _ (by decide), rd_wr_of_start _ _ (by decide), rd_wr_same]
      exact Nat.mod_eq_of_lt hpeer
    · rw [rd_wr_of_start _ _ (by decide), rd_wr_same]
      exact Nat.mod_eq_of_lt hport
    · exact badLanes_noteWidth s p bad
  case down =>
    by_cases hbad : 9 < (bitsOf bad 17).length
    · have hfree : ∀ h < 4, (s.noteLanes p bad).copies h = [] := hcopies
      obtain ⟨hstat, hport, -⟩ := plkDown_of_none hfree p
      refine ⟨_, exec_of_effect hlets rfl (plkTrainDoneEffect_of_narrow hstate hbad), hstat, ?_⟩
      rw [hport, badLanes_noteLanes]
    · have heffect := plkTrainDoneEffect_of_wide (versions := versions) (peer := peer) (peerPort := peerPort) hstate (Nat.le_of_not_lt hbad)
      dsimp only at heffect
      rw [if_pos (hfail.resolve_left hbad)] at heffect
      refine ⟨_, exec_of_effect hlets rfl heffect, ?_, ?_⟩
      · rw [fieldsKept_irq _ _ _ _ _ (.of_check (by decide)) (by decide), State.emit, rd_emitR, rd_wr_same]
        rfl
      · rw [port_irq]
        exact badLanes_noteWidth s p bad
  case spared =>
    have heffect := plkLaneErrorEffect_of_up (lane := lane) hup (by rw [hnone]; rfl)
    dsimp only at heffect
    rw [if_pos (by rw [hnone]; rfl), if_neg (by omega)] at heffect
    refine ⟨_, exec_of_effect hlets rfl heffect, ?_, ?_, ?_⟩
    · rw [(State.logRetired_frame ..).rd_eq (by decide), fieldsKept_irq _ _ _ _ _ (.of_check (by decide)) (by decide), State.emit, rd_emitR,
        rd_wr_same]
      exact Nat.mod_eq_of_lt (hlane.trans (by decide))
    · rw [State.port, (State.logRetired_frame ..).keeps .ports (by decide), irq_ports]
      refine (congrArg PortS.badLanes (badLanes_modPort s p lane)).trans ?_
      rw [hnone]
      rfl
    · rw [(State.logRetired_frame ..).rd_eq (by decide), fieldsKept_irq _ _ _ _ _ (.of_check (by decide)) (by decide), State.emit, rd_emitR,
        rd_wr_of_start _ _ (by decide), rd_modPort]
  case unused =>
    have heffect := plkLaneErrorEffect_of_up (lane := lane) hup (by rw [hnone]; rfl)
    dsimp only at heffect
    rw [if_pos (by rw [hnone]; rfl), if_pos hlane] at heffect
    refine ⟨_, exec_of_effect hlets rfl heffect, ?_, (State.modPort_frame ..).keeps⟩
    rw [badLanes_modPort, hnone, hlane]
    rfl
  case degraded =>
    have heffect := plkLaneErrorEffect_of_up hup hnew
    dsimp only at heffect
    rw [if_neg (by simpa using hsome)] at heffect
    by_cases hfew : (s.port p).badLanes.length < 9
    · rw [if_neg (by omega)] at heffect
      refine ⟨_, exec_of_effect hlets rfl heffect, ?_, ?_⟩
      · rw [fieldsKept_irq _ _ _ _ _ (.of_check (by decide)) (by decide), State.emit, rd_emitR, rd_wr_same, if_pos hfew]
        rfl
      · rw [port_irq]
        exact congrArg PortS.badLanes (badLanes_modPort s p lane)
    · rw [if_pos (by omega)] at heffect
      have hfree : ∀ h < 4, (s.modPort p (fun x => { x with badLanes := x.badLanes ++ [lane] })).copies h = [] := hcopies
      obtain ⟨hstat, hport, -⟩ := plkDown_of_none hfree p
      refine ⟨_, exec_of_effect hlets rfl heffect, by rw [hstat, if_neg hfew], ?_⟩
      rw [hport]
      exact congrArg PortS.badLanes (badLanes_modPort s p lane)
  case known =>
    exact exec_of_effect hlets rfl (if_pos (.inr hold))
  case replay =>
    exact ⟨_, exec_of_effect hlets rfl (if_pos hup), plkDown_of_none hcopies p⟩

end Sys2Proof.Machine
end

section
/-! PROOFS. The bytes of a store after a write, whatever its check bits say. -/

namespace Sys2Proof.Machine

/-! ### Bytes and words (R6, R269) -/

theorem Store.cellGet_eq_raw (st : Store) (a : Nat) : cellGet st.bytes a = byteOf (field (st.raw (a / 8)) (8 * (a % 8)) 8) := by
  rw [Store.raw, byteOf_ofLe, List.getD_eq_getElem _ _ (by simp; omega), List.getElem_map, List.getElem_range,
    show 8 * (a / 8) + a % 8 = a by omega]

/-- A byte is read from its word as that is delivered. -/
theorem Store.byte_eq (st : Store) (a : Nat) : st.byte a = byteOf (field (st.word (a / 8)).2 (8 * (a % 8)) 8) := by
  rw [Store.byte]
  split
  · next h => rw [Store.word_of_clean h, Store.cellGet_eq_raw]
  · rfl

theorem Store.byte_congr {st x : Store} {a : Nat} (h : x.word (a / 8) = st.word (a / 8)) : x.byte a = st.byte a := by
  rw [Store.byte_eq, Store.byte_eq, h]

/-- Where the data are delivered as read, so is each byte. -/
theorem Store.byte_of_raw {st : Store} {a : Nat} (h : (st.word (a / 8)).2 = st.raw (a / 8)) : st.byte a = cellGet st.bytes a := by
  rw [Store.byte_eq, h, Store.cellGet_eq_raw]

theorem decode72_data_of_ne_one {data syn : Nat} (h : (decode72 data syn).1 ≠ 1) : (decode72 data syn).2 = data := by
  unfold decode72 at h ⊢
  split
  · rfl
  · next hzero =>
    split
    · next d hd =>
      rw [if_neg hzero, hd] at h
      exact absurd rfl h
    · split
      · rfl
      · split <;> rfl

/-- A word's class rests on its check bits alone. -/
theorem decode72_class (x y syn : Nat) : (decode72 x syn).1 = (decode72 y syn).1 := by
  unfold decode72
  split
  · rfl
  · split
    · rfl
    · split
      · rfl
      · split <;> rfl

/-! ### One byte is written (log 10) -/

section put
variable {st : Store} (hst : st.wf = true)
include hst

/-- A byte stored in a word that is not delivered corrected. -/
theorem Store.byte_setByte {a : Nat} (b : Byte) (ha : (st.word (a / 8)).1 ≠ 1) (x : Nat) :
    (st.setByte a b).byte x = if x = a then b else st.byte x := by
  have hchk (w : Nat) : (st.setByte a b).chkAt w = st.chkAt w := rfl
  have hget := Store.setByte_get hst a x b
  by_cases hword : x / 8 = a / 8
  · have hraw : (st.word (x / 8)).2 = st.raw (x / 8) := by
      rw [Store.word_eq, hword]
      rw [Store.word_eq] at ha
      exact decode72_data_of_ne_one ha
    have hraw' : ((st.setByte a b).word (x / 8)).2 = (st.setByte a b).raw (x / 8) := by
      rw [Store.word_eq, hchk, hword]
      rw [Store.word_eq] at ha
      exact decode72_data_of_ne_one (by rwa [decode72_class _ (st.raw (a / 8))])
    rw [Store.byte_of_raw hraw', Store.byte_of_raw hraw, hget]
  · have hx : x ≠ a := fun h => hword (h ▸ rfl)
    rw [if_neg hx]
    refine Store.byte_congr ?_
    rw [Store.word_eq, Store.word_eq, hchk, Store.raw, Store.raw]
    congr 2
    refine List.map_congr_left fun i hi => ?_
    have hi8 := List.mem_range.1 hi
    rw [Store.setByte_get hst, if_neg (by omega)]

/-- Check bits made clean where the data are delivered as read change no byte. -/
theorem Store.byte_clearChk {w : Nat} (h : (st.word w).1 ≠ 1) (x : Nat) : (st.setChk w 0).byte x = st.byte x := by
  by_cases hx : x / 8 = w
  · subst hx
    have hraw : (st.word (x / 8)).2 = st.raw (x / 8) := by
      rw [Store.word_eq] at h ⊢
      exact decode72_data_of_ne_one h
    have hclean : ((st.setChk (x / 8) 0).word (x / 8)).2 = (st.setChk (x / 8) 0).raw (x / 8) := by
      rw [Store.word_of_clean (by rw [Store.chkAt_setChk hst, if_pos rfl])]
    rw [Store.byte_of_raw hraw, Store.byte_of_raw hclean]
    rfl
  · exact Store.byte_congr (Store.word_setChk_other hst _ _ _ hx)

/-- A correctable word rewritten corrected, as a write of one of its bytes begins. -/
def Store.corrected (st : Store) (w : Nat) : Store :=
  (List.range 8).foldl (fun x i => x.setByte (8 * w + i) (byteOf (field (st.word w).2 (8 * i) 8))) (st.setChk w 0)

omit hst in
theorem Store.putByte_of_corrected {a : Nat} (b : Byte) (h : (st.word (a / 8)).1 = 1) :
    st.putByte a b = (st.corrected (a / 8)).setByte a b := by
  unfold Store.putByte
  dsimp only
  rw [h]
  rfl

omit hst in
theorem Store.putByte_of_check {a : Nat} (b : Byte) (h : (st.word (a / 8)).1 = 2) :
    st.putByte a b = (st.setChk (a / 8) 0).setByte a b := by
  unfold Store.putByte
  dsimp only
  rw [h]
  rfl

omit hst in
theorem Store.putByte_of_kept {a : Nat} (b : Byte) (h1 : (st.word (a / 8)).1 ≠ 1) (h2 : (st.word (a / 8)).1 ≠ 2) :
    st.putByte a b = st.setByte a b := by
  unfold Store.putByte
  dsimp only
  split
  · rfl
  · next h => exact absurd h h1
  · next h => exact absurd h h2
  · rfl

theorem Store.corrected_wf (w : Nat) : (st.corrected w).wf = true :=
  Store.foldl_wf _ (fun _ _ hx => Store.setByte_wf _ _ hx) _ _ (Store.setChk_wf _ _ hst)

theorem Store.chkAt_corrected (w x : Nat) : (st.corrected w).chkAt x = if x = w then 0 else st.chkAt x := by
  rw [Store.corrected, Store.chkAt_setBytes (st.setChk w 0) (fun i => 8 * w + i), Store.chkAt_setChk hst]

theorem Store.byte_corrected (w x : Nat) : (st.corrected w).byte x = st.byte x := by
  have hget (z : Nat) : cellGet (st.corrected w).bytes z
      = if 8 * w ≤ z ∧ z < 8 * w + 8 then byteOf (field (st.word w).2 (8 * (z - 8 * w)) 8) else cellGet st.bytes z :=
    Store.setBytes_get (fun i => byteOf (field (st.word w).2 (8 * i) 8)) (8 * w) 8 (st.setChk w 0) (Store.setChk_wf _ _ hst) z
  by_cases hx : x / 8 = w
  · subst hx
    rw [Store.byte, Store.chkAt_corrected hst, if_pos rfl, if_pos rfl, hget, if_pos (by omega), Store.byte_eq,
      show x - 8 * (x / 8) = x % 8 by omega]
  · refine Store.byte_congr ?_
    rw [Store.word_eq, Store.word_eq, Store.chkAt_corrected hst, if_neg hx, Store.raw, Store.raw]
    congr 2
    refine List.map_congr_left fun i hi => ?_
    have hi8 := List.mem_range.1 hi
    rw [hget, if_neg (by omega)]

theorem Store.byte_putByte (a : Nat) (b : Byte) (x : Nat) : (st.putByte a b).byte x = if x = a then b else st.byte x := by
  by_cases h1 : (st.word (a / 8)).1 = 1
  · rw [Store.putByte_of_corrected b h1, Store.byte_setByte (Store.corrected_wf hst _), Store.byte_corrected hst]
    rw [Store.word_of_clean (by rw [Store.chkAt_corrected hst, if_pos rfl])]
    exact Nat.zero_ne_one
  · by_cases h2 : (st.word (a / 8)).1 = 2
    · rw [Store.putByte_of_check b h2, Store.byte_setByte (Store.setChk_wf _ _ hst), Store.byte_clearChk hst h1]
      rw [Store.word_of_clean (by rw [Store.chkAt_setChk hst, if_pos rfl])]
      exact Nat.zero_ne_one
    · rw [Store.putByte_of_kept b h1 h2, Store.byte_setByte hst b h1]

/-! ### Bytes are written (R6) -/

theorem Store.byte_putWord (w : Nat) {v : Nat} (p : Bool) (hv : v < 2 ^ 64) (x : Nat) :
    (st.putWord w v p).byte x = if x / 8 = w then byteOf (field v (8 * (x % 8)) 8) else st.byte x := by
  by_cases hx : x / 8 = w
  · subst hx
    rw [if_pos rfl, Store.byte_eq, Store.word_putWord_same hst _ _ hv]
    cases p <;> rfl
  · rw [if_neg hx]
    exact Store.byte_congr (Store.word_putWord_other hst _ _ _ _ hx)

end put

/-- A write stores its bytes and leaves every other as it reads. -/
theorem Store.byte_write (n : Nat) : ∀ (st : Store) (a : Nat) (l : List Byte), st.wf = true → l.length ≤ n → ∀ x,
    (Store.write n st a l false).byte x = if a ≤ x ∧ x < a + l.length then l.getD (x - a) 0 else st.byte x := by
  induction n with
  | zero =>
    intro st a l _ hl x
    rw [if_neg (by omega)]
    rfl
  | succ n ih =>
    intro st a l hst hl x
    cases l with
    | nil =>
      rw [if_neg (by simp)]
      rfl
    | cons b r =>
      by_cases hword : a % 8 = 0 ∧ 8 ≤ (b :: r).length
      · have hlt : leAt (b :: r) 0 8 < 2 ^ 64 := leAt_lt (b :: r) 0 8
        rw [Store.write_word hword.1 hword.2, ih _ _ _ (Store.putWord_wf _ _ _ hst) (by rw [List.length_drop]; omega),
          Store.byte_putWord hst _ _ hlt, List.length_drop]
        by_cases hin : x / 8 = a / 8
        · rw [if_neg (by omega), if_pos hin, if_pos (by omega), leAt, byteOf_ofLe, List.drop_zero, show x - a = x % 8 by omega]
          simp only [List.getD_eq_getElem?_getD, List.getElem?_take, if_pos (show x % 8 < 8 by omega)]
        · by_cases hx : a + 8 ≤ x ∧ x < a + 8 + ((b :: r).length - 8)
          · rw [if_pos hx, if_pos (by omega)]
            simp only [List.getD_eq_getElem?_getD, List.getElem?_drop, show 8 + (x - (a + 8)) = x - a by omega]
          · rw [if_neg hx, if_neg hin, if_neg (by omega)]
      · have hstep : Store.write (n + 1) st a (b :: r) false = Store.write n (st.putByte a b) (a + 1) r false := if_neg hword
        rw [hstep, ih _ _ _ (Store.putByte_wf _ _ hst) (by simpa using hl), Store.byte_putByte hst, List.length_cons]
        by_cases hx : x = a
        · rw [if_neg (by omega), if_pos hx, if_pos (by omega), hx, Nat.sub_self]
          rfl
        · by_cases hin : a + 1 ≤ x ∧ x < a + 1 + r.length
          · rw [if_pos hin, if_pos (by omega), show x - a = x - (a + 1) + 1 by omega]
            rfl
          · rw [if_neg hin, if_neg hx, if_neg (by omega)]

theorem Store.byte_put {st : Store} (hst : st.wf = true) (a : Nat) (l : List Byte) (x : Nat) :
    (st.put a l).byte x = if a ≤ x ∧ x < a + l.length then l.getD (x - a) 0 else st.byte x :=
  Store.byte_write l.length st a l hst (Nat.le_refl _) x

/-- One byte written. -/
theorem Store.put_singleton (st : Store) (a : Nat) (b : Byte) : st.put a [b] = st.putByte a b := by
  have hshort : ¬ (a % 8 = 0 ∧ 8 ≤ [b].length) := by simp
  exact if_neg hshort

/-! ### Marks (R270, R274) -/

theorem Store.markWords_none (st : Store) (w : Nat) {bad : List Bool} (h : ∀ b ∈ bad, b = false) : st.markWords w bad = st := by
  have hfold : ∀ (l : List (Bool × Nat)) (x : Store), (∀ e ∈ l, e.1 = false) →
      l.foldl (fun x e => if e.1 then x.setChk (w + e.2) 0xFF else x) x = x := by
    intro l
    induction l with
    | nil => exact fun _ _ => rfl
    | cons e l ih =>
      intro x hl
      obtain ⟨he, hl⟩ := List.forall_mem_cons.1 hl
      rw [List.foldl_cons, he, if_neg Bool.false_ne_true, ih x hl]
  exact hfold _ _ fun e he => h _ (List.fst_mem_of_mem_zipIdx he)

/-- Every word of a range is marked. -/
theorem Store.chkAt_markAll (n : Nat) : ∀ (st : Store) (w k : Nat), st.wf = true → ∀ x,
    (((List.replicate n true).zipIdx k).foldl (fun y e => if e.1 then y.setChk (w + e.2) 0xFF else y) st).chkAt x
      = if w + k ≤ x ∧ x < w + k + n then 0xFF else st.chkAt x := by
  induction n with
  | zero =>
    intro st w k _ x
    rw [if_neg (by omega)]
    rfl
  | succ n ih =>
    intro st w k hst x
    rw [List.replicate_succ, List.zipIdx_cons, List.foldl_cons, if_pos rfl, ih _ _ _ (Store.setChk_wf _ _ hst), Store.chkAt_setChk hst]
    dsimp only
    by_cases hx : x = w + k
    · rw [if_pos hx, if_neg (by omega), if_pos (by omega)]
    · rw [if_neg hx]
      by_cases hin : w + (k + 1) ≤ x ∧ x < w + (k + 1) + n
      · rw [if_pos hin, if_pos (by omega)]
      · rw [if_neg hin, if_neg (by omega)]

theorem Store.chkAt_markWords_all {st : Store} (hst : st.wf = true) (w n x : Nat) :
    (st.markWords w (List.replicate n true)).chkAt x = if w ≤ x ∧ x < w + n then 0xFF else st.chkAt x :=
  Store.chkAt_markAll n st w 0 hst x

/-- A word whose check bits are those of the mark is delivered with it. -/
theorem Store.wordBad_of_marked {st : Store} {w : Nat} (h : st.chkAt w = 0xFF) : st.wordBad w = true := by
  rw [Store.wordBad, Store.word_eq, h, decode72_of_poison _ (by decide) (by decide) (by decide) rfl]
  rfl

theorem Store.chkAt_setByte (st : Store) (a : Nat) (b : Byte) (w : Nat) : (st.setByte a b).chkAt w = st.chkAt w := rfl

/-- A byte written into a marked word leaves its mark. -/
theorem Store.chkAt_putByte_of_marked {st : Store} {w : Nat} (a : Nat) (b : Byte) (hst : st.wf = true) (h : st.chkAt w = 0xFF) :
    (st.putByte a b).chkAt w = 0xFF := by
  have hmarked (hw : a / 8 = w) : (st.word (a / 8)).1 = 4 := by
    rw [hw, Store.word_eq, h, decode72_of_poison _ (by decide) (by decide) (by decide) rfl]
  by_cases h1 : (st.word (a / 8)).1 = 1
  · have hw : w ≠ a / 8 := fun hw => by simp [hmarked hw.symm] at h1
    rw [Store.putByte_of_corrected b h1, Store.chkAt_setByte, Store.chkAt_corrected hst, if_neg hw, h]
  · by_cases h2 : (st.word (a / 8)).1 = 2
    · have hw : w ≠ a / 8 := fun hw => by simp [hmarked hw.symm] at h2
      rw [Store.putByte_of_check b h2, Store.chkAt_setByte, Store.chkAt_setChk hst, if_neg hw, h]
    · rw [Store.putByte_of_kept b h1 h2, Store.chkAt_setByte, h]

end Sys2Proof.Machine
end

section
/-! PROOFS. Requests of peers and the remote copy engines. Settles O33. -/

namespace Sys2Proof.Machine

/-! ### Memory without marks -/

theorem Store.wordBad_of_unmarked {st : Store} (h : st.chk = []) (w : Nat) : st.wordBad w = false := by
  rw [Store.wordBad, Store.word_of_clean (by rw [Store.chkAt, h]; rfl)]
  rfl

theorem Store.bad_of_unmarked {st : Store} (h : st.chk = []) (a n : Nat) : st.bad a n = false := by
  rw [Store.bad, h, List.any_nil, Bool.and_false]

theorem filter_wordBad_of_unmarked {st : Store} (h : st.chk = []) (w : Nat) (l : List Nat) :
    l.filter (fun i => st.wordBad (w + i)) = [] :=
  List.filter_eq_nil_iff.2 fun i _ => by simp [Store.wordBad_of_unmarked h]

section memory
variable {s : State}

theorem fieldsKept_count2 (s : State) {f : Fld} (hf : FldFits f) (a n : Nat) : FieldsKept [f] s (s.count2 f a n) :=
  .ite (.refl _ s) (.foldl (fun t _ => (FieldsKept.refl _ t).wr _ _ hf (List.mem_singleton_self f)) _ s)

theorem touch_of_unmarked (h : s.dev.chk = []) {a : Nat} (ha : a < tier1End) (n : Nat) : s.touch a n = s := by
  rw [State.touch, h, if_neg (Nat.not_le.2 ha)]
  exact ite_self _

/-- A read without marks counts payload of tier 2 and nothing else. -/
theorem fieldsKept_touch_of_unmarked (h : s.dev.chk = []) (a n : Nat) : FieldsKept [CXL.RD_BYTES] s (s.touch a n) := by
  unfold State.touch
  rw [Store.bad_of_unmarked h, h]
  exact .ite (.refl _ s) (.ite (fieldsKept_count2 s (.of_check (by decide)) a n) (.refl _ s))

theorem touch_frame_of_unmarked (h : s.dev.chk = []) (a n : Nat) : Frame [.regs] s (s.touch a n) := by
  unfold State.touch
  rw [Store.bad_of_unmarked h, h]
  exact .ite (.refl _ s) (.ite (State.count2_frame s CXL.RD_BYTES a n) (.refl _ s))

/-- A write below tier 2 changes device memory alone. -/
theorem devWrite_of_low (s : State) {a : Nat} (ha : a < tier2Base) (l : List Byte) :
    s.devWrite a l = { s with dev := s.dev.put a l } := by
  rw [State.devWrite, if_neg (Nat.not_le.2 ha), State.count2, if_pos (.inr ha)]

theorem softEnd_lt_tier2Base : softEnd < tier2Base := by decide

end memory

theorem wf_dev {s : State} (h : MemoryInv s) : s.dev.wf = true := by
  simp only [MemoryInv, Memory.wf, Bool.and_eq_true] at h
  exact h.1.1.1

/-! ### Requests of peers (R262, R263, R300) -/

section inbound
variable {s : State} {p a : Nat} {l : List Byte}

theorem peerInboundEffect_read (hup : s.plkUp p = true) (hmay : s.peerMay p a 64 false = true) (hchk : s.dev.chk = []) :
    peerInboundEffect s p a none = ((s.touch a 64).inc (plkPg p) PLK.TX_BYTES 64).send (.peerData p (s.devRead a 64) []) := by
  simp [peerInboundEffect, hup, hmay, filter_wordBad_of_unmarked hchk]

theorem peerInboundEffect_write (hup : s.plkUp p = true) (hmay : s.peerMay p a l.length true = true) (hl : l ≠ [])
    (hend : a + l.length ≤ softEnd) :
    peerInboundEffect s p a (some (l, [])) = { s.inc (plkPg p) PLK.RX_BYTES l.length with dev := s.dev.put a l } := by
  have hpos : 0 < l.length := List.length_pos_iff.2 hl
  have hsoft : a < softEnd := by omega
  have hlow : a < tier2Base := hsoft.trans softEnd_lt_tier2Base
  have hregion : (s.inc (plkPg p) PLK.RX_BYTES l.length).region a = .soft := region_of_soft _ hsoft
  have hmarks : (s.dev.put a l).markWords (a / 8) ((List.range ((a + l.length + 7) / 8 - a / 8)).map (fun i => [].contains i))
      = s.dev.put a l := Store.markWords_none _ _ (by simp)
  simp only [peerInboundEffect, hup, Bool.not_true, Bool.false_eq_true, false_or, hl, List.length_eq_zero_iff, if_false,
    Option.isSome_some, hmay, hregion, reduceCtorEq, devWrite_of_low _ hlow, if_neg (Nat.not_le.2 hlow)]
  rw [show (s.inc (plkPg p) PLK.RX_BYTES l.length).dev = s.dev from rfl, hmarks]

theorem peerInboundEffect_refused (hup : s.plkUp p = true) {bad : List Nat} (hmay : s.peerMay p a l.length true = false) (hl : l ≠ []) :
    peerInboundEffect s p a (some (l, bad)) = s.refuseAccess (.peer p) a true := by
  simp [peerInboundEffect, hup, hmay, hl, State.refuseAccess]

theorem txBytes_read (hchk : s.dev.chk = []) (ha : a < tier1End) :
    ((s.touch a 64).inc (plkPg p) PLK.TX_BYTES 64).rd (plkPg p) PLK.TX_BYTES = (s.rd (plkPg p) PLK.TX_BYTES + 64) % 2 ^ 64 := by
  rw [touch_of_unmarked hchk ha, State.inc, rd_wr_same]
  rfl

end inbound

/-! ### A remote copy is taken up (R301, R302, R304) -/

theorem fieldsKept_countPorts (s : State) {f : Fld} (hf : FldFits f) (ports : List Nat) (remote n64 : Nat) :
    FieldsKept [f] s (s.countPorts f ports remote n64) :=
  .foldl (fun t _ => (FieldsKept.refl _ t).wr _ _ hf (List.mem_singleton_self f)) _ s

/-- Which region an address lies in rests on the ports in service and on the mapping of tier 2. -/
theorem region_congr {s t : State} (hpower : t.power = s.power)
    (hmap : t.rd (eccPg 10) ECC.STAT_T2_INTLV = s.rd (eccPg 10) ECC.STAT_T2_INTLV) (a : Nat) : t.region a = s.region a := by
  have hport : t.t2Port a = s.t2Port a := by
    unfold State.t2Port State.rdB
    rw [hmap]
  have hlost : t.lostAt a = s.lostAt a := by rw [State.lostAt, State.lostAt, hpower, hport]
  have hfitted : t.fitted a = s.fitted a := by
    unfold State.fitted State.rdB
    rw [hlost, hpower, hmap]
  rw [State.region, State.region, hfitted]

theorem rcMay_congr {s t : State} (hpower : t.power = s.power)
    (hmap : t.rd (eccPg 10) ECC.STAT_T2_INTLV = s.rd (eccPg 10) ECC.STAT_T2_INTLV) (a n : Nat) : t.rcMay a n = s.rcMay a n := by
  simp only [State.rcMay, region_congr hpower hmap]

theorem peerUp_of_kept {s t : State} {l : List Fld} (hkept : FieldsKept l s t) {peer : Nat} (hpeer : peer < 64)
    (hmap : ∀ f ∈ l, fldStart (PLK.PEER_MAP_PORTS peer) ≠ fldStart f) (hstat : ∀ f ∈ l, fldStart PLK.STAT_STATE ≠ fldStart f) (h : Nat) :
    t.peerUp h peer = s.peerUp h peer := by
  have hports := hkept (plkPg (4 * h)) (PLK.PEER_MAP_PORTS peer) (.mk (by decide) (by omega) (by decide)) hmap
  have hup (p : Nat) : t.plkUp p = s.plkUp p := by
    rw [State.plkUp, State.plkUp, hkept _ _ (.of_check (by decide)) hstat]
  simp only [State.peerUp, hports, hup]

theorem rcFieldsOk_peer {r : RCopy} {l : List Byte} (h : rcFieldsOk r l = true) : r.peer < 64 := by
  simp only [rcFieldsOk, Bool.and_eq_true, decide_eq_true_eq] at h
  exact h.1.1.1.1.1.1.1.2

theorem rcFieldsOk_sig {r : RCopy} {l : List Byte} (h : rcFieldsOk r l = true) : rcSigOk r = true := by
  simp only [rcFieldsOk, Bool.and_eq_true] at h
  exact h.1.2

section start
variable {s : State} {h : Nat}

/-- The grant of a doorbell is used and its next claim queued. -/
def State.useDoorbell (s : State) (h : Nat) : State := ({ s with awn := { s.awn with grants := [] } }).ringClaim h

theorem useDoorbell_eq (s : State) (h : Nat) : ({ s with awn := { s.awn with grants := [] } }).ringClaim h = s.useDoorbell h := rfl

@[simp] theorem rd_useDoorbell (s : State) (h q : Nat) (f : Fld) : (s.useDoorbell h).rd q f = s.rd q f := rfl
@[simp] theorem dev_useDoorbell (s : State) (h : Nat) : (s.useDoorbell h).dev = s.dev := rfl
@[simp] theorem power_useDoorbell (s : State) (h : Nat) : (s.useDoorbell h).power = s.power := rfl
@[simp] theorem rcAddr_useDoorbell (s : State) (h k i : Nat) : (s.useDoorbell h).rcAddr k i = s.rcAddr k i := rfl
@[simp] theorem devRead_useDoorbell (s : State) (h a n : Nat) : (s.useDoorbell h).devRead a n = s.devRead a n := rfl

/-- The place of the descriptor at the ring's head. -/
def State.rcIndex (s : State) (h : Nat) : Nat := s.rd (rcPg h) PLK.RC_HEAD_HEAD % s.rd (rcPg h) PLK.RC_CFG_ENTRIES

/-- The descriptor at the head is taken: the grant is used and the head moves on. -/
def State.takeCopy (s : State) (h : Nat) : State :=
  (s.useDoorbell h).wr (rcPg h) PLK.RC_HEAD_HEAD ((s.rcIndex h + 1) % s.rd (rcPg h) PLK.RC_CFG_ENTRIES)

theorem fieldsKept_takeCopy (s : State) (h : Nat) : FieldsKept [PLK.RC_HEAD_HEAD] s (s.takeCopy h) :=
  ((FieldsKept.refl _ s).of_regs (u := s.useDoorbell h) rfl).wr _ _ (.of_check (by decide)) (by decide)

@[simp] theorem dev_takeCopy (s : State) (h : Nat) : (s.takeCopy h).dev = s.dev := rfl
@[simp] theorem copies_takeCopy (s : State) (h k : Nat) : (s.takeCopy h).copies k = s.copies k := rfl
@[simp] theorem devRead_takeCopy (s : State) (h a n : Nat) : (s.takeCopy h).devRead a n = s.devRead a n := rfl

theorem rcMay_takeCopy (s : State) (h a n : Nat) : (s.takeCopy h).rcMay a n = s.rcMay a n :=
  rcMay_congr (s := s) (t := s.takeCopy h) rfl
    (fieldsKept_takeCopy s h (eccPg 10) ECC.STAT_T2_INTLV (.of_check (by decide)) (by decide)) a n

theorem peerUp_takeCopy (s : State) (h : Nat) {peer : Nat} (hpeer : peer < 64) : (s.takeCopy h).peerUp h peer = s.peerUp h peer := by
  refine peerUp_of_kept (fieldsKept_takeCopy s h) hpeer (fun f hf => ?_) (by decide) h
  rw [List.mem_singleton.1 hf]
  simp only [fldStart, PLK.PEER_MAP_PORTS, PLK.RC_HEAD_HEAD]
  omega

/-- The copy enters those in flight: a READ asks its peer, a WRITE sends what it read. -/
def State.launchCopy (s : State) (h : Nat) (r : RCopy) : State :=
  let t := s.setCopies h [r]
  if r.op = 1 then t.send (.remoteRead r.peer r.remote (64 * r.len64))
  else ((t.touch r.loc (64 * r.len64)).countPorts PLK.TX_BYTES (s.peerUp h r.peer) r.remote r.len64).send
    (.remoteWrite r.peer r.remote (s.devRead r.loc (64 * r.len64)) [])

/-- What becomes of a descriptor at the head whose fields pass and whose local range may be reached. -/
theorem rcopyStartEffect_of_ok (hen : s.rdB (rcPg h) PLK.RC_CFG_ENABLE = true) (hn : s.rd (rcPg h) PLK.RC_CFG_ENTRIES ≠ 0)
    (hcopies : s.copies h = []) {sem n : Nat} (hgrants : s.awn.grants = [⟨4096 + h, sem, n⟩]) (hchk : s.dev.chk = [])
    (hring : s.rcAddr h (s.rcIndex h) + 64 ≤ softEnd) {l : List Byte} (hl : l = s.devRead (s.rcAddr h (s.rcIndex h)) 64) {r : RCopy}
    (hr : r = rcopyOf (s.rcIndex h) l) (hfields : rcFieldsOk r l = true) (hmay : s.rcMay r.loc (64 * r.len64) = true) :
    rcopyStartEffect s h = if ((s.takeCopy h).peerUp h r.peer).isEmpty then (s.takeCopy h).rcopyFail h r
      else (s.takeCopy h).launchCopy h r := by
  have hany : s.awn.grants.any (fun q => q.who == 4096 + h) = true := by simp [hgrants]
  have herase : eraseFirst (fun (q : Claim) => q.who == 4096 + h) s.awn.grants = [] := by simp [hgrants, eraseFirst]
  have hbad : (s.useDoorbell h).devBad (s.rcAddr h (s.rcIndex h)) 64 = false := by
    rw [State.devBad, lostIn_of_soft _ hring, dev_useDoorbell, Store.bad_of_unmarked hchk]
    rfl
  have hlow : s.rcAddr h (s.rcIndex h) < tier1End := by
    have : softEnd < tier1End := by decide
    omega
  have htouch : (s.useDoorbell h).touch (s.rcAddr h (s.rcIndex h)) 64 = s.useDoorbell h :=
    touch_of_unmarked (s := s.useDoorbell h) hchk hlow 64
  have hindex : s.rd (rcPg h) PLK.RC_HEAD_HEAD % s.rd (rcPg h) PLK.RC_CFG_ENTRIES = s.rcIndex h := rfl
  have htake : (s.useDoorbell h).wr (rcPg h) PLK.RC_HEAD_HEAD ((s.rcIndex h + 1) % s.rd (rcPg h) PLK.RC_CFG_ENTRIES) = s.takeCopy h := rfl
  unfold rcopyStartEffect
  dsimp only
  rw [if_neg (by simp [hen, hn, hcopies, hany]), herase, useDoorbell_eq]
  simp only [rd_useDoorbell, hindex, rcAddr_useDoorbell, devRead_useDoorbell, htouch, htake, hbad, ← hl, ← hr, hfields,
    rcMay_takeCopy, hmay, copies_takeCopy, hcopies, List.nil_append, Bool.not_true, Bool.false_eq_true, or_self, if_false]
  have hclean : (List.range (8 * r.len64)).filter (fun i => ((s.takeCopy h).setCopies h [r]).dev.wordBad (r.loc / 8 + i)) = [] :=
    filter_wordBad_of_unmarked hchk _ _
  rw [hclean]
  rfl

theorem launchCopy_done (s : State) (h : Nat) {r : RCopy} (hchk : s.dev.chk = []) :
    (s.launchCopy h r).copies h = [r] ∧ (s.launchCopy h r).awn = s.awn ∧ (s.launchCopy h r).dev = s.dev
      ∧ (s.launchCopy h r).rd (rcPg h) PLK.RC_HEAD_HEAD = s.rd (rcPg h) PLK.RC_HEAD_HEAD
      ∧ (r.op = 1 → OutMsg.remoteRead r.peer r.remote (64 * r.len64) ∈ (s.launchCopy h r).out)
      ∧ (r.op = 2 → OutMsg.remoteWrite r.peer r.remote (s.devRead r.loc (64 * r.len64)) [] ∈ (s.launchCopy h r).out) := by
  have hcopies : (s.setCopies h [r]).copies h = [r] := mget_mput_same _ _ _ _
  unfold State.launchCopy
  dsimp only
  split
  · next hop => exact ⟨hcopies, rfl, rfl, rfl, fun _ => List.mem_append_right _ (List.mem_singleton_self _), fun h2 => by omega⟩
  · next hop =>
    have hframe : Frame [.regs] (s.setCopies h [r]) (((s.setCopies h [r]).touch r.loc (64 * r.len64)).countPorts PLK.TX_BYTES
        (s.peerUp h r.peer) r.remote r.len64) :=
      (State.countPorts_frame ..).after (by decide) (touch_frame_of_unmarked (s := s.setCopies h [r]) hchk _ _)
    have hkept := (fieldsKept_touch_of_unmarked (s := s.setCopies h [r]) hchk r.loc (64 * r.len64)) (rcPg h) PLK.RC_HEAD_HEAD
      (.of_check (by decide)) (by decide)
    refine ⟨?_, hframe.keeps .awn (by decide), hframe.keeps .dev (by decide), ?_, fun h1 => absurd h1 hop,
      fun _ => List.mem_append_right _ (List.mem_singleton_self _)⟩
    · rw [State.copies, send_rcopies, show _ = (s.setCopies h [r]).rcopies from hframe.keeps .rcopies (by decide)]
      exact hcopies
    · rw [rd_send, fieldsKept_countPorts _ (.of_check (by decide)) _ _ _ _ _ (.of_check (by decide)) (by decide), hkept]
      rfl

end start

/-! ### A remote copy ends or fails (R302, R304) -/

section finish
variable (s : State) (h : Nat) (r : RCopy)

/-- Device memory where a READ that fails has marked what it did not write. -/
def State.failMarks : Store :=
  if r.op = 1 ∧ rcLocOk r ∧ s.rcMay r.loc (64 * r.len64) then s.dev.markWords (r.loc / 8) (List.replicate (8 * r.len64) true) else s.dev

/-- A copy's STATUS is written, with device memory as `d`. -/
def State.setStatus (d : Store) (v : Byte) : State := ({ s with dev := d }).devWrite (s.rcAddr h r.idx + 2) [v]

theorem setStatus_keeps (d : Store) (v : Byte) : FieldsKept [CXL.WR_BYTES] s (s.setStatus h r d v)
    ∧ (s.setStatus h r d v).rcopies = s.rcopies ∧ (s.setStatus h r d v).awn = s.awn := by
  have hframe := State.devWrite_frame { s with dev := d } (s.rcAddr h r.idx + 2) [v] false
  exact ⟨((FieldsKept.refl _ s).of_regs (u := { s with dev := d }) rfl).trans (fieldsKept_devWrite _ _ _), hframe.keeps .rcopies (by decide),
    hframe.keeps .awn (by decide)⟩

theorem dev_setStatus (hlow : s.rcAddr h r.idx + 64 ≤ softEnd) (d : Store) (v : Byte) :
    (s.setStatus h r d v).dev = d.putByte (s.rcAddr h r.idx + 2) v := by
  have hbase : s.rcAddr h r.idx + 2 < tier2Base := lt_of_lt_of_le (by omega) softEnd_lt_tier2Base.le
  rw [State.setStatus, devWrite_of_low _ hbase, ← Store.put_singleton]

theorem rcopyFail_eq : s.rcopyFail h r = ((if rcSigOk r then (s.setStatus h r (s.failMarks r) 2).sendAdd r.sigSem r.sigCnt
    else s.setStatus h r (s.failMarks r) 2).inc (rcPg h) PLK.RC_FAIL_CNT).emit (rcPg h) 0x9041 r.idx := by
  have hmarks : (if r.op = 1 ∧ rcLocOk r ∧ s.rcMay r.loc (64 * r.len64) then
      { s with dev := s.dev.markWords (r.loc / 8) (List.replicate (8 * r.len64) true) } else s) = { s with dev := s.failMarks r } := by
    unfold State.failMarks
    split <;> rfl
  unfold State.rcopyFail
  rw [hmarks]
  rfl

theorem rcopyEnd_eq : s.rcopyEnd h r = ((s.setStatus h r s.dev 1).sendAdd r.sigSem r.sigCnt).inc (rcPg h) PLK.RC_CNT := rfl

theorem rcopyFail_done (hsig : rcSigOk r = true) : (s.rcopyFail h r).rcopies = s.rcopies ∧ (s.rcopyFail h r).awn.grants = s.awn.grants
    ∧ (s.rcopyFail h r).awn.adds = s.awn.adds ++ [(r.sigSem, r.sigCnt)]
    ∧ (s.rcopyFail h r).rd (rcPg h) PLK.RC_FAIL_CNT = (s.rd (rcPg h) PLK.RC_FAIL_CNT + 1) % 2 ^ 64
    ∧ (s.rcopyFail h r).dev = (s.setStatus h r (s.failMarks r) 2).dev := by
  obtain ⟨hkept, hcopies, hawn⟩ := setStatus_keeps s h r (s.failMarks r) 2
  rw [rcopyFail_eq, if_pos hsig]
  refine ⟨hcopies, (?_ : (s.setStatus h r (s.failMarks r) 2).awn.grants = _), ?_, ?_, rfl⟩
  · rw [hawn]
  · exact congrArg (fun x => AwnS.adds x ++ [(r.sigSem, r.sigCnt)]) hawn
  · rw [State.emit, rd_emitR, State.inc, rd_wr_same]
    exact congrArg (fun x => (x + 1) % 2 ^ 64) (hkept _ PLK.RC_FAIL_CNT (.of_check (by decide)) (by decide))

theorem rcopyEnd_done : (s.rcopyEnd h r).rcopies = s.rcopies ∧ (s.rcopyEnd h r).awn.adds = s.awn.adds ++ [(r.sigSem, r.sigCnt)]
    ∧ (s.rcopyEnd h r).rd (rcPg h) PLK.RC_CNT = (s.rd (rcPg h) PLK.RC_CNT + 1) % 2 ^ 64
    ∧ (s.rcopyEnd h r).dev = (s.setStatus h r s.dev 1).dev := by
  obtain ⟨hkept, hcopies, hawn⟩ := setStatus_keeps s h r s.dev 1
  rw [rcopyEnd_eq]
  refine ⟨hcopies, ?_, ?_, rfl⟩
  · exact congrArg (fun x => AwnS.adds x ++ [(r.sigSem, r.sigCnt)]) hawn
  · rw [State.inc, rd_wr_same]
    exact congrArg (fun x => (x + 1) % 2 ^ 64) (hkept _ PLK.RC_CNT (.of_check (by decide)) (by decide))

theorem failMarks_wf (hdev : s.dev.wf = true) : (s.failMarks r).wf = true := by
  unfold State.failMarks
  split
  · exact Store.markWords_wf _ _ hdev
  · exact hdev

/-- What a failed READ has not written is marked, its descriptor's STATUS among it or not. -/
theorem wordBad_setStatus_failMarks (hdev : s.dev.wf = true) (hlow : s.rcAddr h r.idx + 64 ≤ softEnd) (hop : r.op = 1)
    (hloc : rcLocOk r = true) (hmay : s.rcMay r.loc (64 * r.len64) = true) {i : Nat} (hi : i < 8 * r.len64) :
    (s.setStatus h r (s.failMarks r) 2).dev.wordBad (r.loc / 8 + i) = true := by
  have hmarked : (s.failMarks r).chkAt (r.loc / 8 + i) = 0xFF := by
    rw [State.failMarks, if_pos ⟨hop, hloc, hmay⟩, Store.chkAt_markWords_all hdev, if_pos (by omega)]
  rw [dev_setStatus s h r hlow]
  exact Store.wordBad_of_marked (Store.chkAt_putByte_of_marked _ _ (failMarks_wf s r hdev) hmarked)

/-- A READ's data arrive: they are counted at the ports they came by and stored. -/
def State.landCopy (l : List Byte) : State :=
  { s.countPorts PLK.RX_BYTES (s.peerUp h r.peer) r.remote r.len64 with dev := s.dev.put r.loc l }

theorem landCopy_keeps (l : List Byte) : FieldsKept [PLK.RX_BYTES] s (s.landCopy h r l) ∧ (s.landCopy h r l).rcopies = s.rcopies
    ∧ (s.landCopy h r l).awn = s.awn := by
  have hframe := State.countPorts_frame s PLK.RX_BYTES (s.peerUp h r.peer) r.remote r.len64
  exact ⟨(fieldsKept_countPorts s (.of_check (by decide)) _ _ _).of_regs rfl, hframe.keeps .rcopies (by decide), hframe.keeps .awn (by decide)⟩

end finish

section done
variable {s : State} {h : Nat} {r : RCopy} {l : List Byte} (hcopies : s.copies h = [r])
include hcopies

theorem rcopyDoneEffect_refused : rcopyDoneEffect s h 0 none = (s.setCopies h []).rcopyFail h r := by
  simp [rcopyDoneEffect, hcopies]

theorem rcopyDoneEffect_written (hop : r.op = 2) (bad : List Nat) :
    rcopyDoneEffect s h 0 (some (l, bad)) = (s.setCopies h []).rcopyEnd h r := by
  simp [rcopyDoneEffect, hcopies, hop]

theorem rcopyDoneEffect_read (hop : r.op = 1) (hlen : l.length = 64 * r.len64) (hlow : r.loc < tier2Base) :
    rcopyDoneEffect s h 0 (some (l, [])) = ((s.setCopies h []).landCopy h r l).rcopyEnd h r := by
  have hdev : ((s.setCopies h []).countPorts PLK.RX_BYTES ((s.setCopies h []).peerUp h r.peer) r.remote r.len64).dev = s.dev :=
    (State.countPorts_frame ..).keeps .dev (by decide)
  have hmarks : ((s.setCopies h []).dev.put r.loc l).markWords (r.loc / 8) ((List.range (8 * r.len64)).map (fun i => [].contains i))
      = (s.setCopies h []).dev.put r.loc l := Store.markWords_none _ _ (by simp)
  have hnot : ¬ tier2Base ≤ r.loc := Nat.not_le.2 hlow
  simp only [rcopyDoneEffect, hcopies, List.getElem?_cons_zero, List.eraseIdx_cons_zero, hop, Nat.reduceEqDiff, if_false, hlen, ne_eq,
    not_true_eq_false, devWrite_of_low _ hlow, hnot, hdev]
  rw [show s.dev = (s.setCopies h []).dev from rfl, hmarks]
  rfl

end done

/-- Settles O33: what serves or refuses a peer's request, what takes a descriptor up, and how a copy ends. -/
theorem peerRequestsAndRemoteCopies : Obligations.PeerRequestsAndRemoteCopies := by
  unfold Obligations.PeerRequestsAndRemoteCopies
  refine ⟨fun s p a hmem hup => ⟨fun hlets hmay hchk => ?read, fun l hlets hmay hl hend => ?write, fun l bad hlets hmay hl => ?refused⟩,
    fun s h l hmem => ⟨fun r hlets hen hn hcopies hgrants hl hchk hring hr => ⟨fun hfields hmay hpeer => ?launched, fun hfields hmay hnone => ?failed⟩,
      fun k r hcopies hk hsig hlow halign => ⟨fun hlets => ?copyRefused, fun bad hlets hop => ?written,
        fun hlets hop hlen hend => ?stored⟩⟩⟩
  case read =>
    have heffect := peerInboundEffect_read hup hmay hchk
    refine ⟨_, exec_of_effect hlets rfl heffect, List.mem_append_right _ (List.mem_singleton_self _), ?_, fun ha => ?_⟩
    · exact (State.touch_frame s a 64).keeps .dev (by decide)
    · exact (rd_send _ _ _ _).trans (txBytes_read hchk ha)
  case write =>
    have hdev := wf_dev hmem
    have hkeeps := (Frame.dev_wf (s.inc (plkPg p) PLK.RX_BYTES l.length) (s.dev.put a l) (fun _ => Store.put_wf _ _ _ hdev)).after
      (P := [.dev, .regs]) (by decide) ((State.inc_frame ..).after (by decide) (.refl _ s))
    refine ⟨_, exec_of_effect hlets rfl (peerInboundEffect_write hup hmay hl hend), fun i hi => ?_, fun b hb => ?_, ?_, ?_, hkeeps.keeps⟩
    · rw [Store.byte_put hdev, if_pos (by omega), Nat.add_sub_cancel_left]
    · rw [Store.byte_put hdev, if_neg (by omega)]
    · exact rd_wr_same _ _ _ _
    · exact (PagesKept.refl _ s).inc (f := PLK.RX_BYTES) _ (.of_check (by decide)) (List.mem_singleton_self _)
  case refused =>
    exact ⟨_, exec_of_effect hlets rfl (peerInboundEffect_refused hup hmay hl), dev_refuseAccess_peer _ _ _ _,
      List.mem_append_right _ (List.mem_singleton_self _), refusedCnt_refuseAccess_peer _ _ _ _⟩
  case launched =>
    have hpeer64 := rcFieldsOk_peer hfields
    have heffect := rcopyStartEffect_of_ok hen hn hcopies hgrants hchk hring hl hr hfields hmay
    rw [peerUp_takeCopy s h hpeer64, if_neg (by simpa using hpeer)] at heffect
    obtain ⟨hlaunched, hawn, hdev, hhead, hread, hwrite⟩ := launchCopy_done (s.takeCopy h) h (r := r) hchk
    refine ⟨_, exec_of_effect hlets rfl heffect, hlaunched, ?_, ?_, ?_, hread, hwrite, hdev⟩
    · rw [hawn]
      rfl
    · rw [hawn]
      rfl
    · rw [hhead]
      exact rd_wr_same _ _ _ _
  case failed =>
    have hpeer64 := rcFieldsOk_peer hfields
    have heffect := rcopyStartEffect_of_ok hen hn hcopies hgrants hchk hring hl hr hfields hmay
    rw [peerUp_takeCopy s h hpeer64, if_pos (by simpa using hnone)] at heffect
    obtain ⟨hfree, hused, hadds, hcnt, -⟩ := rcopyFail_done (s.takeCopy h) h r (rcFieldsOk_sig hfields)
    refine ⟨_, exec_of_effect hlets rfl heffect, ?_, hused, hadds, ?_⟩
    · rw [State.copies, hfree]
      exact hcopies
    · rw [hcnt, fieldsKept_takeCopy s h _ _ (.of_check (by decide)) (by decide)]
  case copyRefused =>
    subst hk
    have hdev := wf_dev hmem
    obtain ⟨hfree, -, hadds, hcnt, hmemory⟩ := rcopyFail_done (s.setCopies h []) h r hsig
    refine ⟨_, exec_of_effect hlets rfl (rcopyDoneEffect_refused hcopies), ?_, ?_, hadds, fun hop hloc hmay i hi => ?_, hcnt⟩
    · rw [State.copies, hfree]
      exact mget_mput_same _ _ _ _
    · rw [hmemory, dev_setStatus (s.setCopies h []) h r hlow, Store.byte_putByte (failMarks_wf (s.setCopies h []) r hdev)]
      exact if_pos rfl
    · rw [hmemory]
      exact wordBad_setStatus_failMarks (s.setCopies h []) h r hdev hlow hop hloc hmay hi
  case written =>
    subst hk
    have hdev := wf_dev hmem
    obtain ⟨hfree, hadds, hcnt, hmemory⟩ := rcopyEnd_done (s.setCopies h []) h r
    have hbyte (b : Nat) : ((s.setCopies h []).rcopyEnd h r).dev.byte b = if b = s.rcAddr h r.idx + 2 then 1 else s.dev.byte b := by
      rw [hmemory, dev_setStatus (s.setCopies h []) h r hlow, Store.byte_putByte (st := (s.setCopies h []).dev) hdev]
      rfl
    refine ⟨_, exec_of_effect hlets rfl (rcopyDoneEffect_written hcopies hop bad), ?_, ?_, hadds, fun b hb => ?_, hcnt⟩
    · rw [State.copies, hfree]
      exact mget_mput_same _ _ _ _
    · rw [hbyte, if_pos rfl]
    · rw [hbyte, if_neg hb]
  case stored =>
    subst hk
    have hdev := wf_dev hmem
    have hbase : r.loc < tier2Base := lt_of_le_of_lt (by omega) softEnd_lt_tier2Base
    obtain ⟨hkept, hcopied, hawn⟩ := landCopy_keeps (s.setCopies h []) h r l
    obtain ⟨hfree, hadds, hcnt, hmemory⟩ := rcopyEnd_done ((s.setCopies h []).landCopy h r l) h r
    have haddr : ((s.setCopies h []).landCopy h r l).rcAddr h r.idx = s.rcAddr h r.idx := by
      rw [State.rcAddr, State.rdA, hkept _ _ (.of_check (by decide)) (by decide)]
      rfl
    have hbyte (b : Nat) : (((s.setCopies h []).landCopy h r l).rcopyEnd h r).dev.byte b
        = if b = s.rcAddr h r.idx + 2 then 1
          else if r.loc ≤ b ∧ b < r.loc + l.length then l.getD (b - r.loc) 0 else s.dev.byte b := by
      have hstored := Store.byte_put hdev r.loc l b
      rw [hmemory, dev_setStatus _ _ _ (by rwa [haddr]), haddr, show ((s.setCopies h []).landCopy h r l).dev = s.dev.put r.loc l from rfl,
        Store.byte_putByte (Store.put_wf _ _ _ hdev)]
      exact ite_congr rfl (fun _ => rfl) fun _ => hstored
    refine ⟨_, exec_of_effect hlets rfl (rcopyDoneEffect_read hcopies hop hlen hbase), ?_, ?_, ?_, fun i hi hne => ?_, fun b hb hout => ?_, ?_⟩
    · rw [State.copies, hfree, hcopied]
      exact mget_mput_same _ _ _ _
    · rw [hbyte, if_pos rfl]
    · rw [hadds, hawn]
      rfl
    · rw [hbyte, if_neg hne, if_pos (by omega), Nat.add_sub_cancel_left]
    · rw [hbyte, if_neg hb, if_neg (by omega)]
    · rw [hcnt, hkept _ _ (.of_check (by decide)) (by decide)]
      rfl

end Sys2Proof.Machine
end

section
/-! PROOFS. Time dialogues, IDE streams, CXL ports, management messages and JTAG. Settles O35. -/

namespace Sys2Proof.Machine

section times
variable {s : State}

/-! ### Time correlation (R317) -/

/-- The pair that a dialogue stores. -/
def State.storePtm (s : State) (ns k : Nat) : State :=
  ((s.wr (pciePg 0) PCIE.PTM_HOST ns).wr (pciePg 0) PCIE.PTM_SCLK k).wr (pciePg 0) PCIE.PTM_CTRL_VALID 1

theorem storePtm_done (s : State) {ns : Nat} (hns : ns < 2 ^ 64) (k : Nat) :
    (s.storePtm ns k).rd (pciePg 0) PCIE.PTM_HOST = ns ∧ (s.storePtm ns k).rd (pciePg 0) PCIE.PTM_SCLK = k % 2 ^ 64
      ∧ (s.storePtm ns k).rd (pciePg 0) PCIE.PTM_CTRL_VALID = 1 ∧ PagesKept [pciePg 0] s (s.storePtm ns k) := by
  refine ⟨?_, ?_, rd_wr_same _ _ _ _, ?_⟩
  · rw [State.storePtm, rd_wr_of_start _ _ (by decide), rd_wr_of_start _ _ (by decide), rd_wr_same]
    exact Nat.mod_eq_of_lt hns
  · rw [State.storePtm, rd_wr_of_start _ _ (by decide), rd_wr_same]
    rfl
  · exact (((PagesKept.refl _ s).wr_page _ (.of_check (by decide)) (List.mem_singleton_self _)).wr_page _ (.of_check (by decide))
      (List.mem_singleton_self _)).wr_page _ (.of_check (by decide)) (List.mem_singleton_self _)

/-- Beside the pair a dialogue only measures the rate against the last one. -/
theorem ptmEffect_eq {ns : Nat} (hon : s.rdB (pciePg 0) PCIE.PTM_CTRL_ENABLE = true) (hup : s.power.hostUp = true) :
    ∃ t : State, PagesKept [pciePg 0] s t ∧ Keeps [.regs] s t
      ∧ ptmEffect s ns = { t.storePtm ns s.sclk with power := { s.power with ptm := some (ns, s.sclk) } } := by
  have heq : ptmEffect s ns = _ := if_neg (by simp [hon, hup])
  rw [heq]
  cases s.power.ptm with
  | none => exact ⟨s, .refl _ s, .refl _ s, rfl⟩
  | some x =>
    by_cases hlt : x.1 < ns
    · exact ⟨s.wr (pciePg 0) PCIE.PTM_RATE _, (PagesKept.refl _ s).wr_page _ (.of_check (by decide)) (List.mem_singleton_self _),
        (State.wr_frame ..).keeps, by simp only [if_pos hlt]; rfl⟩
    · exact ⟨s, .refl _ s, .refl _ s, by simp only [if_neg hlt]; rfl⟩

/-! ### IDE streams (R318) -/

theorem ide_dropped {i k : Nat} (h : 8 * i + k ∈ s.power.ideBad) : s.ide i (some k) = .dropped :=
  if_pos (List.contains_iff_mem.2 h)

theorem ide_ok {i k : Nat} (h : 8 * i + k ∉ s.power.ideBad) : s.ide i (some k) = .ok :=
  if_neg (by simpa using h)

theorem ideFailEffect_of_secure {i k : Nat} (h : s.power.ideBad.contains (8 * i + k) = false) :
    ideFailEffect s i k
      = (({ s with power := { s.power with ideBad := s.power.ideBad ++ [8 * i + k] } } : State).inc (pciePg i) PCIE.IDE_FAIL_CNT).emit
          (pciePg i) 0xA014 0 := if_neg (by rw [h]; decide)

/-! ### CXL ports (R320) -/

/-- What `CXL.STAT` shows of a port that is down. -/
def State.cxlOff (s : State) (h : Nat) : State :=
  ((((s.wr (cxlPg h) CXL.STAT_UP 0).wr (cxlPg h) CXL.STAT_DOWN_LATCHED 1).wr (cxlPg h) CXL.STAT_WIDTH 0).wr (cxlPg h) CXL.STAT_RATE 0).wr
    (cxlPg h) CXL.STAT_IDE_ACTIVE 0

theorem rd_cxlOff (s : State) (h : Nat) :
    (s.cxlOff h).rd (cxlPg h) CXL.STAT_UP = 0 ∧ (s.cxlOff h).rd (cxlPg h) CXL.STAT_DOWN_LATCHED = 1
      ∧ (s.cxlOff h).rd (cxlPg h) CXL.STAT_WIDTH = 0 ∧ (s.cxlOff h).rd (cxlPg h) CXL.STAT_RATE = 0 := by
  refine ⟨?_, ?_, ?_, ?_⟩
  · rw [State.cxlOff, rd_wr_of_start _ _ (by decide), rd_wr_of_start _ _ (by decide), rd_wr_of_start _ _ (by decide),
      rd_wr_of_start _ _ (by decide), rd_wr_same]
    rfl
  · rw [State.cxlOff, rd_wr_of_start _ _ (by decide), rd_wr_of_start _ _ (by decide), rd_wr_of_start _ _ (by decide), rd_wr_same]
    rfl
  · rw [State.cxlOff, rd_wr_of_start _ _ (by decide), rd_wr_of_start _ _ (by decide), rd_wr_same]
    rfl
  · rw [State.cxlOff, rd_wr_of_start _ _ (by decide), rd_wr_same]
    rfl

/-- The fields that show a port's state. -/
def cxlOffFields : List Fld := [CXL.STAT_UP, CXL.STAT_DOWN_LATCHED, CXL.STAT_WIDTH, CXL.STAT_RATE, CXL.STAT_IDE_ACTIVE]

theorem rd_eccPg_cxlOff (s : State) {h : Nat} (hh : h < 4) {f : Fld} (hf : FldFits f) :
    (s.cxlOff h).rd (eccPg 10) f = s.rd (eccPg 10) f := by
  have hpage : eccPg 10 ≠ cxlPg h := by
    have : ∀ k < 4, eccPg 10 ≠ cxlPg k := by decide
    exact this h hh
  rw [State.cxlOff, rd_wr_of_page _ _ (.of_check (by decide)) hf hpage, rd_wr_of_page _ _ (.of_check (by decide)) hf hpage,
    rd_wr_of_page _ _ (.of_check (by decide)) hf hpage, rd_wr_of_page _ _ (.of_check (by decide)) hf hpage,
    rd_wr_of_page _ _ (.of_check (by decide)) hf hpage]

/-- The port leaves tier 2's service. -/
def State.dropPort (s : State) (h : Nat) : State :=
  ({ s.cxlOff h with power := { s.power with cxlDown := s.power.cxlDown ++ [h] } } : State).emit (cxlPg h) 0xA021 0

theorem cxlDownEffect_of_up {h : Nat} (hh : h < 4) (hup : s.rdB (cxlPg h) CXL.STAT_UP = true)
    (hone : s.rdB (eccPg 10) ECC.STAT_T2_INTLV = false) : cxlDownEffect s h = s.dropPort h := by
  have hkept : (s.dropPort h).rdB (eccPg 10) ECC.STAT_T2_INTLV = false := by
    rw [← hone]
    exact congrArg (· != 0) (rd_eccPg_cxlOff s hh (.of_check (by decide)))
  refine (if_neg (by rw [hup]; decide)).trans ?_
  exact if_neg (ne_true_of_eq_false hkept)

/-- No address of a port that is down is fitted. -/
theorem fitted_of_down {a : Nat} (hlow : tier2Base ≤ a) (hhigh : a < tier2End) (hdown : s.t2Port a ∈ s.power.cxlDown) :
    s.fitted a = false := by
  have hne : s.power.cxlDown.isEmpty = false := List.isEmpty_eq_false_iff.2 (List.ne_nil_of_mem hdown)
  have hlost : s.lostAt a = true := by
    simp [State.lostAt, hne, hlow, hhigh, hdown]
  simp [State.fitted, hlost]

theorem t2Port_dropPort {h : Nat} (hh : h < 4) (a : Nat) : (s.dropPort h).t2Port a = s.t2Port a := by
  have hkept : (s.dropPort h).rd (eccPg 10) ECC.STAT_T2_INTLV = s.rd (eccPg 10) ECC.STAT_T2_INTLV :=
    rd_eccPg_cxlOff s hh (.of_check (by decide))
  unfold State.t2Port State.rdB
  rw [hkept]

/-! ### Management and debug (R321, R378, R381, R382) -/

theorem jtagEffect_of_allowed {ir : Nat}
    (h : ir < 3 ∨ (ir < 6 ∧ s.power.perstHost = true) ∨ (6 ≤ ir ∧ s.rdB cfgPg CFG2P.DEBUG_UNLOCK_EN = true)) :
    jtagEffect s ir = { s with power := { s.power with jtag := ir } } := by
  have hok : (decide (ir < 3) || (decide (ir < 6) && s.power.perstHost) || (decide (6 ≤ ir) && s.rdB cfgPg CFG2P.DEBUG_UNLOCK_EN)) = true := by
    simpa [or_assoc] using h
  rw [jtagEffect]
  simp only [hok, if_true]

theorem jtagEffect_of_locked {ir : Nat}
    (h : (3 ≤ ir ∧ ir < 6 ∧ s.power.perstHost = false) ∨ (6 ≤ ir ∧ s.rdB cfgPg CFG2P.DEBUG_UNLOCK_EN = false)) :
    jtagEffect s ir = ({ s with power := { s.power with jtag := 0 } } : State).emit (diePage 16) 0xA041 0 := by
  have hno : (decide (ir < 3) || (decide (ir < 6) && s.power.perstHost) || (decide (6 ≤ ir) && s.rdB cfgPg CFG2P.DEBUG_UNLOCK_EN)) = false := by
    rcases h with ⟨hlow, hhigh, hpin⟩ | ⟨hpriv, hlock⟩
    · simp [hpin, Nat.not_lt.2 hlow, Nat.not_le.2 hhigh]
    · simp [hlock, Nat.not_lt.2 hpriv, Nat.not_lt.2 (le_trans (by decide : 3 ≤ 6) hpriv)]
  rw [jtagEffect]
  simp only [hno, Bool.false_eq_true, if_false]

end times

/-- Settles O35: each operation's effect is one of its branches, and the fields read back are those written last. -/
theorem timeStreamsCxlAndManagement : Obligations.TimeStreamsCxlAndManagement := by
  unfold Obligations.TimeStreamsCxlAndManagement
  refine ⟨fun s => ⟨fun ns hlets hon hup => ?time, fun hlets => ?latch, fun i k hlets hsafe => ?fails, fun h hlets hup hone => ?down⟩,
    fun s => ⟨fun typ hlets => ?mctp, fun mgmt op hlets => ?spdm, fun mgmt op k hlets himg hid => ?keys, fun ir hlets hmay => ?select,
      fun ir hlets hlock => ?bypass⟩⟩
  case time =>
    obtain ⟨t, hpages, hkeeps, heq⟩ := ptmEffect_eq (ns := ns) hon hup
    obtain ⟨hhost, hsclk, hvalid, hstored⟩ := storePtm_done t (ns := ns) (of_decide_eq_true hlets.1) s.sclk
    refine ⟨_, exec_of_effect hlets rfl heq, hhost, hsclk, hvalid, rfl, hpages.trans hstored, ?_⟩
    exact heq ▸ (ptmEffect_frame s ns).keeps
  case latch => exact exec_of_effect hlets rfl rfl
  case fails =>
    refine ⟨_, exec_of_effect hlets rfl (ideFailEffect_of_secure hsafe), rfl, ide_dropped ?_, ?_⟩
    · exact List.mem_append_right _ (List.mem_singleton_self _)
    · exact rd_wr_same _ _ _ _
  case down =>
    have hh : h < 4 := of_decide_eq_true hlets.1
    obtain ⟨hstat, hlatched, hwidth, hrate⟩ := rd_cxlOff s h
    refine ⟨_, exec_of_effect hlets rfl (cxlDownEffect_of_up hh hup hone), hstat, hlatched, hwidth, hrate, rfl, rfl, fun a hlow hhigh hport => ?_⟩
    refine fitted_of_down hlow hhigh ?_
    rw [t2Port_dropPort hh, hport]
    exact List.mem_append_right _ (List.mem_singleton_self _)
  case mctp => exact exec_of_effect hlets rfl rfl
  case spdm => exact exec_of_effect hlets rfl rfl
  case keys =>
    have hok : (!s.noImage && (op == 0 || s.sec.idOk)) = true := by simpa [himg] using hid
    have heq : spdmEffect s mgmt op (some k)
        = { s.send (.spdm op true) with
            power := { s.power with ideBad := s.power.ideBad.filter (fun x => x != (if mgmt then 8 else 0) + k) } } := by
      simp only [spdmEffect, hok, if_true]
      rfl
    refine ⟨_, exec_of_effect hlets rfl heq, rfl, ide_ok ?_, fun x hx => List.mem_of_mem_filter hx, ?_⟩
    · cases mgmt <;> simp [List.mem_filter]
    · exact heq ▸ (spdmEffect_frame s mgmt op (some k)).keeps
  case select => exact exec_of_effect hlets rfl (jtagEffect_of_allowed hmay)
  case bypass => exact ⟨_, exec_of_effect hlets rfl (jtagEffect_of_locked hlock), rfl, rfl⟩

end Sys2Proof.Machine
end

section
/-! PROOFS. Accesses of the wrong width, accesses held at a stopped domain and their release. Settles O37. -/

namespace Sys2Proof.Machine

section held
variable {s : State}

/-! ### Accesses that are refused or held (R331, R332, R408) -/

theorem regAccess_of_misfit {p off w : Nat} (hs : s.frozen = false) (hp : p ≠ srvPg) (hb : blockOf p ≠ .none)
    (hw : accessOk (blockOf p) off w = false) (v : Option Nat) :
    s.regAccess true p off w v = ((s.refuse (errPage p)).inc (pciePg 0) PCIE.UR_CNT).send .unsupported := by
  rw [State.regAccess, subPage_eq_self s (.inl hp)]
  simp [hs, hb, hw]

theorem regAccess_of_stopped {p off w : Nat} (hs : s.frozen = false) (hp : p ≠ srvPg) (hb : blockOf p ≠ .none)
    (hw : accessOk (blockOf p) off w = true) (hstop : s.domainStopped p off = true) (host : Bool) (v : Option Nat) :
    s.regAccess host p off w v = s.holdAccess p off w v := by
  rw [State.regAccess, subPage_eq_self s (.inl hp)]
  simp [hs, hb, hw, hstop]

/-! ### The watchdog (R412) -/

theorem length_endFirst (p : HeldAcc → Bool) (l : List HeldAcc) : (endFirst p l).length = l.length := by
  induction l with
  | nil => rfl
  | cons h l ih =>
    rw [endFirst]
    split
    · rfl
    · exact congrArg (· + 1) ih

/-- A record that a source raises changes nothing that a crossing holds. -/
theorem held_emitR (t : State) (r : FaultRec) (d : Nat) : ((t.emitR r).die d).held = (t.die d).held := by
  by_cases h : d = r.die
  · rw [h, State.emitR, die_modDie_same]
  · exact congrArg DieS.held (mget_mput_other _ _ _ _ _ h)

/-- A held access that the watchdog may end. -/
def openAcc (p : Nat) (h : HeldAcc) : Bool := heldBy (domainOf p) h && !h.ended

/-- The watchdog's abort, its count at hub 10 and its record. -/
def State.watchdogEnds (s : State) (p : Nat) (h : HeldAcc) : State :=
  (((s.modDie (pageDie p) (fun x => { x with held := endFirst (openAcc p) x.held })).send .abort).inc (clkPg 10) CLK.XING_TMO_CNT).emit
    (clkPg 10) 0xB021 (regBase + h.page * 4096 + h.off)

theorem held_watchdogEnds (s : State) (p : Nat) (h : HeldAcc) :
    ((s.watchdogEnds p h).die (pageDie p)).held.length = (s.die (pageDie p)).held.length := by
  rw [State.watchdogEnds, State.emit, held_emitR]
  have hdie : ((s.modDie (pageDie p) (fun x => { x with held := endFirst (openAcc p) x.held })).die (pageDie p)).held
      = endFirst (openAcc p) (s.die (pageDie p)).held := by rw [die_modDie_same]
  exact (congrArg List.length hdie).trans (length_endFirst _ _)

theorem xingTimeoutEffect_of_open {p : Nat} (hopen : ∃ h ∈ (s.die (pageDie p)).held, heldBy (domainOf p) h = true ∧ h.ended = false) :
    ∃ h, xingTimeoutEffect s p = s.watchdogEnds p h := by
  obtain ⟨g, hg, hdom, hended⟩ := hopen
  have hsome : ((s.die (pageDie p)).held.find? (openAcc p)).isSome = true :=
    List.find?_isSome.2 ⟨g, hg, by simp [openAcc, hdom, hended]⟩
  obtain ⟨h, hfind⟩ := Option.isSome_iff_exists.1 hsome
  refine ⟨h, ?_⟩
  change (match (s.die (pageDie p)).held.find? (openAcc p) with
    | none => s
    | some h => s.watchdogEnds p h) = _
  rw [hfind]

/-! ### Reads performed at a release (R336) -/

/-- The pages that lie in a core's domains. -/
def coreBlocks : List Block := [.tile, .core, .eng, .attn, .chk]

theorem ne_page_of_coreBlocks {p q : Nat} (hp : blockOf p ∈ coreBlocks) (hq : blockOf q ∉ coreBlocks) : p ≠ q := by
  rintro rfl
  exact hq hp

theorem readReg_of_core {p : Nat} (hp : blockOf p ∈ coreBlocks) (off w : Nat) :
    s.readReg p off w = s.send (.readValue (s.regValue p off w)) := by
  have hlife := ne_page_of_coreBlocks hp (q := lifePg) (by decide)
  have hpcie := ne_page_of_coreBlocks hp (q := pciePg 0) (by decide)
  have hfnw : blockOf p ≠ .fnw := by
    intro h
    rw [h] at hp
    exact absurd hp (by decide)
  simp [State.readReg, hlife, hpcie, hfnw]

/-- A core's registers show nothing of what the die holds back. -/
theorem view_modDie_of_core {p : Nat} (hp : blockOf p ∈ coreBlocks) (d : Nat) (g : DieS → DieS) (f : Fld) :
    (s.modDie d g).view p f = s.view p f := by
  unfold State.view
  rcases List.mem_cons.1 hp with hb | hp
  · simp only [hb]
    rfl
  rcases List.mem_cons.1 hp with hb | hp
  · simp only [hb]
    rfl
  rcases List.mem_cons.1 hp with hb | hp
  · simp only [hb]
    rfl
  rcases List.mem_cons.1 hp with hb | hp
  · simp only [hb]
    rfl
  · simp only [List.mem_singleton.1 hp]
    rfl

/-- The accesses held for a page's domain leave its die. -/
def State.dropHeld (s : State) (p : Nat) : State :=
  s.modDie (pageDie p) (fun x => { x with held := x.held.filter (fun h => !heldBy (domainOf p) h) })

theorem held_dropHeld {p : Nat} {h : HeldAcc} (hheld : (s.die (pageDie p)).held = [h]) (hdom : heldBy (domainOf p) h = true) :
    ((s.dropHeld p).die (pageDie p)).held = [] := by
  rw [State.dropHeld, die_modDie_same]
  dsimp only
  rw [hheld]
  exact List.filter_cons_of_neg (by simp [hdom])

theorem regValue_dropHeld {p q : Nat} (hp : blockOf p ∈ coreBlocks) (off w : Nat) :
    (s.dropHeld q).regValue p off w = s.regValue p off w := by
  unfold State.regValue
  refine congrArg (· % 256 ^ w) (congrArg (fun f => List.foldl f 0 _) (funext fun a => funext fun f => ?_))
  exact congrArg (fun v => a + fldPart f off v) (view_modDie_of_core hp _ _ f)

/-- A held read of a core's register answers with its value, or with nothing once the watchdog has ended it. -/
theorem performHeld_of_read {h : HeldAcc} (hp : blockOf h.page ∈ coreBlocks) (hv : h.value = none) :
    s.performHeld h = { s with out := if h.ended then s.out else s.out ++ [.readValue (s.regValue h.page h.off h.w)] } := by
  have hperform : s.perform h.page h.off h.w none = s.send (.readValue (s.regValue h.page h.off h.w)) := by
    rw [State.perform, subPage_eq_self s (.inl (ne_page_of_coreBlocks hp (by decide)))]
    exact readReg_of_core hp _ _
  rw [State.performHeld, hv]
  dsimp only
  rw [hperform]
  cases h.ended
  · rfl
  · simp [State.send, OutMsg.isRead]

end held

/-- Settles O37: the access ends at the first of its checks that fails, and the page's die keeps what waits. -/
theorem accessesAreHeldAndReleased : Obligations.AccessesAreHeldAndReleased := by
  unfold Obligations.AccessesAreHeldAndReleased
  intro s p off hs hoff _ hsrv
  refine ⟨fun w v hlets haddr hb hw => ?misfit, fun w v hlets haddr hb hw hstop hroom => ?holds, fun hlets hopen => ?timeout,
    fun h hlets hheld hdom hruns hblock hread => ?released⟩
  case misfit =>
    have heq := (registerWriteEffect_page s w v hoff haddr).trans (regAccess_of_misfit hs hsrv hb hw _)
    refine ⟨_, exec_of_effect hlets rfl heq, List.mem_append_right _ (List.mem_singleton_self _), ?_⟩
    have hcount : FieldsKept [PCIE.UR_CNT] (s.refuse (errPage p)) ((s.refuse (errPage p)).inc (pciePg 0) PCIE.UR_CNT) :=
      (FieldsKept.refl _ _).wr _ _ (.of_check (by decide)) (by decide)
    exact (hcount (errPage p) HDR.ERR_CNT (.of_check (by decide)) (by decide)).trans (rd_wr_same _ _ _ _)
  case holds =>
    have hone : s.holdAccess p off w (some v)
        = s.modDie (pageDie p) (fun x => { x with held := x.held ++ [⟨p, off, w, some v, false, s.now⟩] }) :=
      if_neg (Nat.not_le.2 hroom)
    have heq := ((registerWriteEffect_page s w v hoff haddr).trans (regAccess_of_stopped hs hsrv hb hw hstop true _)).trans hone
    refine ⟨_, exec_of_effect hlets rfl heq, ?_, (State.modDie_frame ..).keeps⟩
    rw [die_modDie_same]
  case timeout =>
    obtain ⟨h, heq⟩ := xingTimeoutEffect_of_open hopen
    exact ⟨_, exec_of_effect hlets rfl heq, List.mem_append_right _ (List.mem_singleton_self _), rd_wr_same _ _ _ _,
      held_watchdogEnds s p h⟩
  case released =>
    have hmine : (s.die (pageDie p)).held.filter (heldBy (domainOf p)) = [h] := by
      rw [hheld]
      exact List.filter_cons_of_pos hdom
    have heq : crossingReleaseEffect s p
        = (s.dropHeld p).performHeld h := by
      rw [crossingReleaseEffect, hmine]
      exact if_neg (by simp [hs, hruns])
    rw [performHeld_of_read hblock hread, regValue_dropHeld hblock] at heq
    refine ⟨_, exec_of_effect hlets rfl heq, ?_, rfl, ?_⟩
    · exact held_dropHeld hheld hdom
    · exact ((Frame.upd_out (s.dropHeld p) _).after (by decide) ((State.modDie_frame ..).after (by decide) (.refl _ s))).keeps

end Sys2Proof.Machine
end

section
/-! PROOFS. A function-level reset of a function that is listed twice. Refutes O34. -/

namespace Sys2Proof.Machine

/-- Function 1 is listed twice among the functions' records, which no run of the model leaves. -/
def twiceListed : State :=
  { State.reset with srv := { State.reset.srv with fns := [(1, { FnX.init with lap := 1 }), (1, { FnX.init with lap := 1 })] } }

theorem lets_twiceListed : twiceListed.lets (.flr 1) := lets_of_check (by decide)

/-- The reset removes the first entry only. -/
theorem lap_flr_twiceListed : ((flrEffect twiceListed 1).fnx 1).lap = 1 := by decide

/-- Refutes O34: the statement ranges over every state, and a function that is listed twice keeps a record after its reset. -/
theorem not_linksComeUpAndGoDown : ¬ Obligations.LinksComeUpAndGoDown := by
  unfold Obligations.LinksComeUpAndGoDown
  intro h
  obtain ⟨-, -, -, -, hflr⟩ := h twiceListed
  obtain ⟨hreset, -⟩ := hflr 1 lets_twiceListed (by decide) (by decide)
  obtain ⟨u, hexec, hinit, -⟩ := hreset (by decide)
  have heq : u = flrEffect twiceListed 1 := Host.Outcome.next.inj (hexec.symm.trans (exec_of_effect lets_twiceListed rfl rfl))
  have hlap : (u.fnx 1).lap = 0 := congrArg FnX.lap (hinit 1 (by decide) (.inr rfl)).2
  rw [heq, lap_flr_twiceListed] at hlap
  exact absurd hlap (by decide)

end Sys2Proof.Machine
end

section
/-! PROOFS. A calibration turn of a tile that no engine has, abandoned while a mesh link goes down. Refutes O29. -/

namespace Sys2Proof.Machine

/-- Entry `dst` of die `d` has the alternative `port`. -/
def State.giveAlt (s : State) (d dst port : Nat) : State :=
  (s.wr (meshPg d) (MESH.ROUTE_ALT dst) port).wr (meshPg d) (MESH.ROUTE_ALT_VALID dst) 1

/-- The link of die 5 to die 13 retrains; die 5's entry for die 8 goes by port 3, which is down, or else by that link. Core 32, of
die 8, is the target of a migration, and core 4 the pool's only core. -/
def detoured : State :=
  let s := (((State.reset.giveAlt 5 21 0).giveAlt 5 37 0).giveAlt 13 5 0).wr (meshPg 5) (MESH.ROUTE_PRIMARY 8) 3
  { s.modDie 5 (fun x => { x with retraining := [1] }) with flt := { s.flt with
      pool := [4], migs := [{ logical := 0, source := 8, target := 32, rebuild := true, phase := 4, trigger := 2, t0 := 0, left := [] }] } }

/-- Every tile of core `c` but the spares is in service. -/
def State.serveAll (s : State) (c : Nat) : State :=
  (List.range 64).foldl (fun s k => s.wr (tilePg c (k / 16) (k % 16)) TILE.STAT_IN_SERVICE 1) s

/-- The tile under calibration of core 4's engine 0, whose page would be that of die 5's routes. -/
def strayTile : State := (detoured.serveAll 4).modEng 4 0 (fun x => { x with rot := { x.rot with phase := .fill, tile := meshPg 5 - tilePg 4 0 0 } })

theorem lets_strayTile : strayTile.lets (.retrainEnd 5 1 false) := lets_of_check (by decide +kernel)

theorem rd_retrainEnd_strayTile :
    (retrainEndEffect strayTile 5 1 false).rdB (meshPg 5) (MESH.ROUTE_UNREACHABLE 13) = false
      ∧ (retrainEndEffect strayTile 5 1 false).rdB (meshPg 5) (MESH.ROUTE_ALT_VALID 13) = false := by decide +kernel

/-- Refutes O29: the statement ranges over every state, and where the tile under calibration is no tile of its engine, the migration
that die 8's loss begins counts on die 5's entry for die 13, which then no longer goes by the port that fails. -/
theorem not_linksAndRoutes : ¬ Obligations.LinksAndRoutes := by
  unfold Obligations.LinksAndRoutes
  intro h
  obtain ⟨-, -, hfails, -, -⟩ := h strayTile 5 1
  obtain ⟨u, hexec, -, -, -, hroutes⟩ := hfails 13 lets_strayTile (by decide +kernel) (by decide) (by decide +kernel) (by decide +kernel)
  have heq : u = retrainEndEffect strayTile 5 1 false :=
    Host.Outcome.next.inj (hexec.symm.trans (exec_of_effect lets_strayTile rfl rfl))
  obtain ⟨hreach, halt⟩ := rd_retrainEnd_strayTile
  have hprimary : strayTile.rd (meshPg 5) (MESH.ROUTE_PRIMARY 13) = 1 := by decide +kernel
  rcases hroutes 13 (by decide) (by decide) hprimary with hunreachable | ⟨hvalid, -⟩
  · rw [heq, hreach] at hunreachable
    exact absurd hunreachable (by decide)
  · rw [heq, halt] at hvalid
    exact absurd hvalid (by decide)

end Sys2Proof.Machine
end

section
/-! PROOFS. Clocks that are lost, and per-core resets with their release. Settles O38. -/

namespace Sys2Proof.Machine

/-! ### One bit of a register -/

theorem testBit_putBit_same_false (v i : Nat) : (putBit v i false).testBit i = false := by
  unfold putBit
  rw [if_neg (by decide)]
  by_cases h : v.testBit i
  · rw [if_pos h, Nat.testBit_eq_decide_div_mod_eq]
    rw [Nat.testBit_eq_decide_div_mod_eq, decide_eq_true_eq] at h
    have hdiv : (v - 1 <<< i) / 2 ^ i = v / 2 ^ i - 1 := by
      rw [Nat.one_shiftLeft]
      simpa using Nat.sub_mul_div v (2 ^ i) 1
    rw [hdiv, decide_eq_false_iff_not]
    omega
  · rw [if_neg h]
    exact Bool.eq_false_of_not_eq_true h

theorem testBit_putBit_same (v i : Nat) (b : Bool) : (putBit v i b).testBit i = b := by
  cases b
  · exact testBit_putBit_same_false v i
  · simp [testBit_putBit_true]

/-! ### Cores that retire with their die (R327, R363) -/

section retire
variable {s : State} {c : Nat}

theorem advanceMigs_of_none (h : s.flt.migs = []) : s.advanceMigs = s := by
  unfold State.advanceMigs
  rw [h]
  rfl

/-- A core that no logical core is placed on retires, and no migration moves. -/
theorem triggerMig_of_unplaced (hfree : s.logicalOf c = none) (hmigs : s.flt.migs = []) (trigger : Nat) (rebuild : Bool) :
    s.triggerMig c trigger rebuild = if (s.core c).retired then s else s.retireCore c := by
  have hkept : (if (s.core c).retired then s else s.retireCore c).flt.migs = [] := by
    split
    · exact hmigs
    · exact hmigs
  unfold State.triggerMig
  rw [hfree]
  dsimp only
  rw [hkept]
  exact advanceMigs_of_none hkept

/-- A core that retires leaves the registers, the memory, the serving controller and the migrations as they are. -/
theorem triggerMig_keeps (hfree : s.logicalOf c = none) (hmigs : s.flt.migs = []) (trigger : Nat) (rebuild : Bool) :
    (s.triggerMig c trigger rebuild).regs = s.regs ∧ (s.triggerMig c trigger rebuild).flt.migs = []
      ∧ (s.triggerMig c trigger rebuild).dies = s.dies ∧ (s.triggerMig c trigger rebuild).dev = s.dev
      ∧ (s.triggerMig c trigger rebuild).srv = s.srv := by
  rw [triggerMig_of_unplaced hfree hmigs]
  split
  · exact ⟨rfl, hmigs, rfl, rfl, rfl⟩
  · exact ⟨rfl, hmigs, rfl, rfl, rfl⟩

theorem retired_retireCore (s : State) (c : Nat) : ((s.retireCore c).core c).retired = true := by
  have h : ((s.modCore c (fun x => { x with retired := true })).core c).retired = true := by rw [core_modCore_same]
  exact h

theorem retired_triggerMig (hfree : s.logicalOf c = none) (hmigs : s.flt.migs = []) (trigger : Nat) (rebuild : Bool) :
    ((s.triggerMig c trigger rebuild).core c).retired = true := by
  rw [triggerMig_of_unplaced hfree hmigs]
  split
  · assumption
  · exact retired_retireCore s c

theorem retired_triggerMig_of_retired (hfree : s.logicalOf c = none) (hmigs : s.flt.migs = []) (trigger : Nat) (rebuild : Bool) {k : Nat}
    (h : (s.core k).retired = true) : ((s.triggerMig c trigger rebuild).core k).retired = true := by
  by_cases hk : k = c
  · rw [hk]
    exact retired_triggerMig hfree hmigs trigger rebuild
  · rw [triggerMig_of_unplaced hfree hmigs]
    split
    · exact h
    · have hcore : (s.retireCore c).core k = s.core k := mget_mput_other _ _ _ _ _ hk
      rw [hcore]
      exact h

/-- Cores that no logical core is placed on retire one after the other. -/
theorem foldl_triggerMig_of_unplaced (base : Nat) (l : List Nat) : ∀ t : State, (∀ k ∈ l, t.logicalOf (base + k) = none) → t.flt.migs = [] →
    let u := l.foldl (fun s k => s.triggerMig (base + k) 2 true) t
    u.regs = t.regs ∧ u.dies = t.dies ∧ u.dev = t.dev ∧ u.srv = t.srv
      ∧ ∀ k, ((k ∈ l) ∨ (t.core (base + k)).retired = true) → (u.core (base + k)).retired = true := by
  induction l with
  | nil =>
    intro t _ _
    exact ⟨rfl, rfl, rfl, rfl, fun k hk => hk.resolve_left List.not_mem_nil⟩
  | cons a l ih =>
    intro t hfree hmigs
    obtain ⟨hfirst, hrest⟩ := List.forall_mem_cons.1 hfree
    obtain ⟨hregs, hnone, hdies, hdev, hsrv⟩ := triggerMig_keeps hfirst hmigs 2 true
    have hstill : ∀ k ∈ l, (t.triggerMig (base + a) 2 true).logicalOf (base + k) = none := by
      intro k hk
      rw [← hrest k hk]
      simp only [State.logicalOf, State.rdB, State.rd, hregs]
    obtain ⟨gregs, gdies, gdev, gsrv, gretired⟩ := ih _ hstill hnone
    refine ⟨gregs.trans hregs, gdies.trans hdies, gdev.trans hdev, gsrv.trans hsrv, fun k hk => gretired k ?_⟩
    rcases hk with hk | hk
    · rcases List.mem_cons.1 hk with rfl | hk
      · exact .inr (retired_triggerMig hfirst hmigs 2 true)
      · exact .inl hk
    · exact .inr (retired_triggerMig_of_retired hfirst hmigs 2 true hk)

/-- The lock that is lost, as the die shows it. -/
def State.loseLock (s : State) (d : Nat) : State :=
  ((s.wr (clkPg d) CLK.STAT_PLL_LOCK 0).modDie d (fun x => { x with lost := true })).emit (clkPg d) 0xB011 0

theorem pllEffect_of_running {d : Nat} (h : (s.die d).lost = false) :
    pllEffect s d = if isCompute d then (List.range 4).foldl (fun s k => s.triggerMig (4 * d + k) 2 true) (s.loseLock d) else s.loseLock d :=
  if_neg (by rw [h]; decide)

theorem lost_emitR (t : State) (r : FaultRec) (d : Nat) : ((t.emitR r).die d).lost = (t.die d).lost := by
  by_cases h : d = r.die
  · rw [h, State.emitR, die_modDie_same]
  · exact congrArg DieS.lost (mget_mput_other _ _ _ _ _ h)

theorem lost_loseLock (s : State) (d : Nat) : ((s.loseLock d).die d).lost = true := by
  rw [State.loseLock, State.emit, lost_emitR, die_modDie_same]

theorem logicalOf_loseLock {d : Nat} (hd : d < 40) (c : Nat) : (s.loseLock d).logicalOf c = s.logicalOf c := by
  have hpage : fltPg ≠ clkPg d := by
    unfold fltPg clkPg diePg
    omega
  have hrd {f : Fld} (hf : FldFits f) : (s.loseLock d).rd fltPg f = s.rd fltPg f := rd_wr_of_page s 0 (.of_check (by decide)) hf hpage
  unfold State.logicalOf
  refine List.find?_congr fun l hl => ?_
  have hl := List.mem_range.1 hl
  have hvalid : FldFits (FLT.CORE_REDIR_VALID l) := .mk (by decide) (by omega) (by decide)
  have hphys : FldFits (FLT.CORE_REDIR_PHYS l) := .mk (by decide) (by omega) (by decide)
  rw [State.rdB, State.rdB, hrd hvalid, hrd hphys]

end retire

/-! ### What a per-core reset writes (R335) -/

section reset
variable {s : State} {c : Nat}

/-- The pages of a core's sequencer and engines. -/
def seqPages (c : Nat) : List Nat := [corePg c, engPg c 0, engPg c 1, engPg c 2, engPg c 3]

theorem engPg_mem_seqPages (c : Nat) {e : Nat} (he : e < 4) : engPg c e ∈ seqPages c := by
  match e, he with
  | 0, _ | 1, _ | 2, _ | 3, _ => simp [seqPages]

theorem rstPg_notMem_seqPages (c d : Nat) : rstPg d ∉ seqPages c := by
  have hcore := corePg_slot c
  have heng (e : Nat) (he : e < 4) : rstPg d ≠ engPg c e := by
    have := engPg_slot c he
    unfold rstPg diePg
    omega
  have hslot : rstPg d % 1024 = 2 := by
    unfold rstPg diePg
    omega
  simp only [seqPages, List.mem_cons, List.not_mem_nil, or_false, not_or]
  refine ⟨?_, heng 0 (by decide), heng 1 (by decide), heng 2 (by decide), heng 3 (by decide)⟩
  intro h
  rw [← h] at hcore
  omega

theorem PagesKept.weaken {ps qs : List Nat} {s t : State} (h : PagesKept ps s t) (hp : ∀ p ∈ ps, p ∈ qs) : PagesKept qs s t :=
  fun k hk => h k fun hmem => hk (hp _ hmem)

theorem pagesKept_emptyBank_seq {e t b : Nat} (he : e < 4) (ht : t < 17) (hb : b < 2) (s : State) :
    PagesKept (seqPages c) s (s.emptyBank c e t b) :=
  (pagesKept_emptyBank s c e t b (bkey_lt ht hb)).weaken (by simpa using engPg_mem_seqPages c he)

theorem pagesKept_dropTileWork {e t : Nat} (he : e < 4) (ht : t < 17) (s : State) : PagesKept (seqPages c) s (s.dropTileWork c e t) := by
  refine .of_regs (modTile_regs ..) (PagesKept.foldl (fun b hb u => ?_) s)
  split
  · exact pagesKept_emptyBank_seq he ht (List.mem_range.1 hb) u
  · exact .refl _ u

theorem pagesKept_wipeAccReg {e a : Nat} (he : e < 4) (ha : a < 64) (s : State) : PagesKept (seqPages c) s (s.wipeAccReg c e a) := by
  refine PagesKept.foldl (fun f hf u => ?_) s
  refine (PagesKept.refl _ u).wr_page 0 ?_ (engPg_mem_seqPages c he)
  fin_cases hf
  · exact fits_accBusy ha
  · exact fits_accOwner ha
  · exact fits_accSatN ha
  · exact fits_accSatW ha
  · exact fits_accPoison ha
  · exact fits_accAdds ha

theorem pagesKept_wipeEngine {e : Nat} (he : e < 4) (s : State) : PagesKept (seqPages c) s (s.wipeEngine c e) := by
  refine PagesKept.foldl (fun t ht u => ?_) s
  refine .of_regs (modTile_regs ..) (PagesKept.foldl (fun b hb u => ?_) u)
  have ht := List.mem_range.1 ht
  have hb := List.mem_range.1 hb
  exact (pagesKept_emptyBank_seq he ht hb u).trans ((pagesKept_emptySet _ (bkey_lt ht hb)).weaken (by simpa using engPg_mem_seqPages c he))

theorem turnReset_of_idle {e : Nat} (h : (s.eng c e).rot.phase = .idle) : s.turnReset c e = s := by
  unfold State.turnReset
  dsimp only
  rw [h]

/-- What a reset leaves of an engine whose sequencer is idle, before PRESERVE is asked. -/
def State.dropWork (s : State) (c e : Nat) : State :=
  (List.range 64).foldl (fun s a => s.wipeAccReg c e a)
    (((List.range 17).foldl (fun s t => s.dropTileWork c e t) s).modEng c e
      (fun x => { x with queue := [], prev := none, ops := [], glume := [], accs := [], force := [] }))

theorem resetEngine_of_idle {e : Nat} (h : (s.eng c e).rot.phase = .idle) (preserve : Bool) :
    s.resetEngine c e preserve = if preserve then s.dropWork c e else (s.dropWork c e).wipeEngine c e := by
  unfold State.resetEngine
  dsimp only
  rw [turnReset_of_idle h]
  rfl

theorem pagesKept_dropWork {e : Nat} (he : e < 4) (s : State) : PagesKept (seqPages c) s (s.dropWork c e) := by
  have htiles : PagesKept (seqPages c) s ((List.range 17).foldl (fun s t => s.dropTileWork c e t) s) :=
    PagesKept.foldl (fun t ht u => pagesKept_dropTileWork he (List.mem_range.1 ht) u) s
  refine (PagesKept.of_regs (modEng_regs ..) htiles).trans (PagesKept.foldl (fun a ha u => ?_) _)
  exact pagesKept_wipeAccReg he (List.mem_range.1 ha) u

theorem pagesKept_resetEngine {e : Nat} (he : e < 4) (h : (s.eng c e).rot.phase = .idle) (preserve : Bool) :
    PagesKept (seqPages c) s (s.resetEngine c e preserve) := by
  rw [resetEngine_of_idle h]
  split
  · exact pagesKept_dropWork he s
  · exact (pagesKept_dropWork he s).trans (pagesKept_wipeEngine he _)

theorem rot_modEng {g : EngineS → EngineS} (hg : ∀ x, (g x).rot = x.rot) (s : State) (c e k : Nat) :
    ((s.modEng c e g).eng c k).rot = (s.eng c k).rot := by
  by_cases h : k = e
  · rw [h, State.modEng, eng_setEng_same, hg]
  · exact congrArg EngineS.rot (mget_mput_other _ _ _ _ _ (by omega))

theorem rot_dropWork (s : State) (c e k : Nat) : ((s.dropWork c e).eng c k).rot = (s.eng c k).rot := by
  refine (foldl_keeps (g := fun t => (t.eng c k).rot) (fun t a => ?_) _ _).trans ?_
  · exact congrArg EngineS.rot ((Frame.eng_eq (State.wipeAccReg_frame t c e a) (by decide)) c k)
  refine (rot_modEng (g := fun x => { x with queue := [], prev := none, ops := [], glume := [], accs := [], force := [] }) (fun _ => rfl)
    _ c e k).trans (foldl_keeps (g := fun t => (t.eng c k).rot) (fun t a => ?_) _ _)
  exact congrArg EngineS.rot ((Frame.eng_eq (State.dropTileWork_frame t c e a) (by decide)) c k)

theorem rot_emptySet (s : State) (c e t b k : Nat) : ((s.emptySet c e t b).eng c k).rot = (s.eng c k).rot :=
  rot_modEng (g := fun x => { x with osets := mdel x.osets (bkey t b) }) (fun _ => rfl) _ c e k

theorem rot_wipeEngine (s : State) (c e k : Nat) : ((s.wipeEngine c e).eng c k).rot = (s.eng c k).rot := by
  refine foldl_keeps (g := fun t => (t.eng c k).rot) (fun t a => ?_) _ _
  refine (congrArg EngineS.rot (eng_modTile ..)).trans (foldl_keeps (g := fun t => (t.eng c k).rot) (fun t b => ?_) _ _)
  refine (rot_emptySet _ c e a b k).trans ?_
  exact congrArg EngineS.rot ((Frame.eng_eq (State.emptyBank_frame t c e a b) (by decide)) c k)

theorem rot_resetEngine {e : Nat} (h : (s.eng c e).rot.phase = .idle) (preserve : Bool) (k : Nat) :
    ((s.resetEngine c e preserve).eng c k).rot = (s.eng c k).rot := by
  rw [resetEngine_of_idle h]
  split
  · exact rot_dropWork s c e k
  · exact (rot_wipeEngine _ c e k).trans (rot_dropWork s c e k)

/-- The engines whose sequencers are idle are reset one after the other. -/
theorem pagesKept_resetEngines (preserve : Bool) (l : List Nat) : ∀ s : State, (∀ e ∈ l, e < 4) → (∀ e ∈ l, (s.eng c e).rot.phase = .idle) →
    PagesKept (seqPages c) s (l.foldl (fun s e => s.resetEngine c e preserve) s) := by
  induction l with
  | nil => exact fun s _ _ => .refl _ s
  | cons e l ih =>
    intro s hlt hidle
    obtain ⟨he, hlt⟩ := List.forall_mem_cons.1 hlt
    obtain ⟨hfirst, hrest⟩ := List.forall_mem_cons.1 hidle
    refine (pagesKept_resetEngine he hfirst preserve).trans (ih _ hlt fun k hk => ?_)
    rw [rot_resetEngine hfirst]
    exact hrest k hk

/-! ### The reset of a core (R335) -/

/-- The steps that the core holds fail, and its claims go. -/
def State.failHeld (s : State) (c : Nat) : State :=
  ((s.core c).pend.foldl (fun s r => s.send (.stepFail c r.step))
    (if running s c || halting s c then s.send (.stepFail c (s.rd (corePg c) CORE.STEP)) else s)).dropClaims c

/-- The core's record after a reset. -/
def CoreS.cleared (x : CoreS) : CoreS :=
  { x with
    buf := [], attnQ := [], dmaQ := [], mbox0 := [], mbox1 := [], dmaRun := [], kick0 := [], kick1 := [], read0 := 0, read1 := 0,
    prevDma := none, prevAttn := none, pend := [], waitHost := false, cur := none, failing := false, attn := none }

/-- The core's registers as a reset leaves them, but for STAT and the count. -/
def State.clearSeq (s : State) (c : Nat) : State :=
  (List.range 64).foldl (fun s i => s.wr (corePg c) (CORE.SEM_VALUE i) 0) ((s.modCore c CoreS.cleared).showPending c)

/-- The reset ends: the core is IDLE, and the reset is counted. -/
def State.countReset (s : State) (c : Nat) : State := (s.wr (corePg c) CORE.STAT_STATE 0).inc (rstPg (c / 4)) RST.CORE_RST_CNT

/-- The engines' part of a reset. -/
def State.resetEngines (s : State) (c : Nat) (preserve : Bool) : State :=
  (List.range 4).foldl (fun s e => s.resetEngine c e preserve) (s.failHeld c)

/-- Without PRESERVE core store is zero. -/
def State.wipeStore (s : State) (c : Nat) (preserve : Bool) : State :=
  if preserve then s else { s with cstore := s.cstore.zero (csBase c) (2 ^ 25) }

theorem core_wipeStore (s : State) (c : Nat) (preserve : Bool) (k : Nat) : (s.wipeStore c preserve).core k = s.core k := by
  cases preserve <;> rfl

theorem rd_wipeStore (s : State) (c : Nat) (preserve : Bool) (q : Nat) (f : Fld) : (s.wipeStore c preserve).rd q f = s.rd q f := by
  cases preserve <;> rfl

theorem resetCore_eq (s : State) (c : Nat) (preserve : Bool) :
    s.resetCore c preserve = (((s.resetEngines c preserve).clearSeq c).countReset c).wipeStore c preserve := rfl

theorem regs_failHeld (s : State) (c : Nat) : (s.failHeld c).regs = s.regs := by
  refine ((State.dropClaims_frame _ c).keeps .regs (by decide)).trans ((foldl_keeps (g := State.regs) ?_ _ _).trans ?_)
  · exact fun t r => rfl
  · split <;> rfl

theorem eng_failHeld (s : State) (c e : Nat) : (s.failHeld c).eng c e = s.eng c e := by
  refine (Frame.eng_eq (State.dropClaims_frame _ c) (by decide) c e).trans
    ((foldl_keeps (g := fun t => t.eng c e) ?_ _ _).trans ?_)
  · exact fun t r => rfl
  · split <;> rfl

theorem pagesKept_resetEngines_core (hidle : ∀ e < 4, (s.eng c e).rot.phase = .idle) (preserve : Bool) :
    PagesKept (seqPages c) s (s.resetEngines c preserve) := by
  refine (PagesKept.of_regs (regs_failHeld s c) (.refl _ s)).trans
    (pagesKept_resetEngines preserve (List.range 4) _ (fun e he => List.mem_range.1 he) fun e he => ?_)
  rw [eng_failHeld]
  exact hidle e (List.mem_range.1 he)

theorem pagesKept_clearSeq (s : State) (c : Nat) : PagesKept (seqPages c) s (s.clearSeq c) := by
  have hp : corePg c ∈ seqPages c := List.mem_cons_self
  have hpending : PagesKept (seqPages c) s ((s.modCore c CoreS.cleared).showPending c) :=
    ((PagesKept.of_regs (modCore_regs ..) (.refl _ s)).wr_page _ (.of_check (by decide)) hp).wr_page _ (.of_check (by decide)) hp
  refine hpending.trans (PagesKept.foldl (fun i hi u => ?_) _)
  exact (PagesKept.refl _ u).wr_page 0 (fits_sem (List.mem_range.1 hi)) hp

theorem core_clearSeq (s : State) (c : Nat) : (s.clearSeq c).core c = (s.core c).cleared := by
  refine (foldl_keeps (g := fun t => t.core c) ?_ _ _).trans ?_
  · exact fun t i => rfl
  · exact core_modCore_same s c _

theorem core_countReset (s : State) (c k : Nat) : (s.countReset c).core k = s.core k := rfl

theorem core_resetCore (s : State) (c : Nat) (preserve : Bool) :
    (s.resetCore c preserve).core c = ((s.resetEngines c preserve).core c).cleared := by
  rw [resetCore_eq, core_wipeStore, core_countReset, core_clearSeq]

theorem rd_resetCore (s : State) (c : Nat) (preserve : Bool) (q : Nat) (f : Fld) :
    (s.resetCore c preserve).rd q f = (((s.resetEngines c preserve).clearSeq c).countReset c).rd q f := by
  rw [resetCore_eq, rd_wipeStore]

theorem corePg_ne_rstPg (c d : Nat) : corePg c ≠ rstPg d := by
  have := corePg_slot c
  unfold rstPg diePg
  omega

theorem coreState_resetCore (s : State) (c : Nat) (preserve : Bool) : (s.resetCore c preserve).rd (corePg c) CORE.STAT_STATE = 0 := by
  rw [rd_resetCore, State.countReset, State.inc, rd_wr_of_page _ _ (.of_check (by decide)) (.of_check (by decide)) (corePg_ne_rstPg c _),
    rd_wr_same]
  rfl

theorem rd_rst_clearSeq (hidle : ∀ e < 4, (s.eng c e).rot.phase = .idle) (preserve : Bool) {f : Fld} (hf : FldFits f) (d : Nat) :
    (((s.resetEngines c preserve).clearSeq c).wr (corePg c) CORE.STAT_STATE 0).rd (rstPg d) f = s.rd (rstPg d) f := by
  rw [rd_wr_of_page _ _ (.of_check (by decide)) hf (corePg_ne_rstPg c d).symm]
  exact ((pagesKept_resetEngines_core hidle preserve).trans (pagesKept_clearSeq _ c)).rd_eq hf (rstPg_notMem_seqPages c d)

theorem rstCnt_resetCore (hidle : ∀ e < 4, (s.eng c e).rot.phase = .idle) (preserve : Bool) :
    (s.resetCore c preserve).rd (rstPg (c / 4)) RST.CORE_RST_CNT = (s.rd (rstPg (c / 4)) RST.CORE_RST_CNT + 1) % 2 ^ 64 := by
  rw [rd_resetCore, State.countReset, State.inc, rd_wr_same, rd_rst_clearSeq hidle preserve (.of_check (by decide))]
  rfl

theorem rd_rst_resetCore (hidle : ∀ e < 4, (s.eng c e).rot.phase = .idle) (preserve : Bool) {f : Fld} (hf : FldFits f)
    (hstart : fldStart f ≠ fldStart RST.CORE_RST_CNT) : (s.resetCore c preserve).rd (rstPg (c / 4)) f = s.rd (rstPg (c / 4)) f := by
  rw [rd_resetCore, State.countReset, State.inc, rd_wr_of_start _ _ hstart, rd_rst_clearSeq hidle preserve hf]

/-! ### RST.STAT and CLUS.STAT (R335) -/

theorem fits_inResetF (c : Nat) : FldFits (inResetF c) := by
  unfold inResetF
  split
  · exact .of_check (by decide)
  · exact .of_check (by decide)

theorem clusPg_slot {d k : Nat} (hk : k < 2) : clusPg d k % 1024 = 8 + k := by
  unfold clusPg diePg
  omega

theorem rd_showReset_of_page (s : State) (c : Nat) (b : Bool) {q : Nat} {f : Fld} (hf : FldFits f) (hrst : q % 1024 ≠ 2)
    (hclus : q % 1024 ≠ 8 ∧ q % 1024 ≠ 9) : (s.showReset c b).rd q f = s.rd q f := by
  have hne : q ≠ clusPg (c / 4) (c % 4 / 2) := by
    rintro rfl
    have := clusPg_slot (d := c / 4) (show c % 4 / 2 < 2 by omega)
    omega
  have hpage : q ≠ rstPg (c / 4) := by
    rintro rfl
    unfold rstPg diePg at hrst
    omega
  rw [State.showReset, State.wrB, rd_wr_of_page _ _ (fits_inResetF c) hf hne, rd_wr_of_page _ _ (.of_check (by decide)) hf hpage]

theorem rstPg_ne_clusPg (c : Nat) : rstPg (c / 4) ≠ clusPg (c / 4) (c % 4 / 2) := by
  unfold rstPg clusPg diePg
  omega

theorem rd_rst_showReset (s : State) (c : Nat) (b : Bool) {f : Fld} (hf : FldFits f) (hstart : fldStart f ≠ fldStart RST.STAT_IN_RESET) :
    (s.showReset c b).rd (rstPg (c / 4)) f = s.rd (rstPg (c / 4)) f := by
  rw [State.showReset, State.wrB, rd_wr_of_page _ _ (fits_inResetF c) hf (rstPg_ne_clusPg c), rd_wr_of_start _ _ hstart]

theorem core_showReset (s : State) (c : Nat) (b : Bool) (k : Nat) : (s.showReset c b).core k = s.core k := rfl

theorem inReset_showReset (s : State) (c : Nat) (b : Bool) :
    ((s.showReset c b).rd (rstPg (c / 4)) RST.STAT_IN_RESET).testBit (c % 4) = b := by
  rw [State.showReset, State.wrB, rd_wr_of_page _ _ (fits_inResetF c) (.of_check (by decide)) (rstPg_ne_clusPg c), rd_wr_same,
    show RST.STAT_IN_RESET.width = 4 from rfl, Nat.testBit_mod_two_pow, testBit_putBit_same]
  simp [Nat.mod_lt c (by decide : 0 < 4)]

end reset

/-! ### A release that finds nothing held (R335, R338) -/

section release
variable {s t : State} {c : Nat}

theorem nothingHeld_iff : s.nothingHeld c = true ↔ ∀ e < 4, (∀ k < 34, s.bankState c e (k / 2) (k % 2) ≠ 2)
    ∧ (s.eng c e).rot.phase ≠ .ret ∧ (s.eng c e).fillFor = none := by
  simp [State.nothingHeld, List.all_eq_true, and_assoc]

theorem foldl_fixed_of_mem {α β : Type} {f : β → α → β} {b : β} (l : List α) (h : ∀ a ∈ l, f b a = b) : l.foldl f b = b := by
  induction l with
  | nil => rfl
  | cons a l ih =>
    obtain ⟨ha, hl⟩ := List.forall_mem_cons.1 h
    rw [List.foldl_cons, ha, ih hl]

theorem loseBanks_of_nothingHeld (h : s.nothingHeld c = true) (held : Nat) : s.loseBanks c held = (s, false) := by
  have hnone : (((List.range 4).filter (fun e => decide (retentionMs (s.rd (engPg c e) ENG.REFRESH_STAT_BAND) * ticksMs < held))).flatMap
      (fun e => (List.range 34).filterMap (fun k => if s.bankState c e (k / 2) (k % 2) = 2 then some (e, k) else none))) = [] := by
    refine List.flatMap_eq_nil_iff.2 fun e he => List.filterMap_eq_nil_iff.2 fun k hk => if_neg ?_
    exact (nothingHeld_iff.1 h e (List.mem_range.1 (List.mem_of_mem_filter he))).1 k (List.mem_range.1 hk)
  unfold State.loseBanks
  dsimp only
  rw [hnone]
  rfl

theorem resumeCore_of_nothingHeld (h : s.nothingHeld c = true) : s.resumeCore c = s := by
  refine foldl_fixed_of_mem _ fun e he => ?_
  obtain ⟨hbanks, hphase, hfill⟩ := nothingHeld_iff.1 h e (List.mem_range.1 he)
  have hsweeps : (List.range 34).foldl
      (fun s k => if s.bankState c e (k / 2) (k % 2) = 2 then s.resumeSweep c e (k / 2) (k % 2) else s) s = s :=
    foldl_fixed_of_mem _ fun k hk => if_neg (hbanks k (List.mem_range.1 hk))
  dsimp only
  rw [hsweeps, if_neg hphase, hfill]

theorem nothingHeld_of_eng (hrd : ∀ e < 4, ∀ f, FldFits f → t.rd (engPg c e) f = s.rd (engPg c e) f) (heng : t.engines = s.engines)
    (h : s.nothingHeld c = true) : t.nothingHeld c = true := by
  refine nothingHeld_iff.2 fun e he => ?_
  obtain ⟨hbanks, hphase, hfill⟩ := nothingHeld_iff.1 h e he
  have hsame : t.eng c e = s.eng c e := by
    unfold State.eng
    rw [heng]
  rw [hsame]
  refine ⟨fun k hk => ?_, hphase, hfill⟩
  have hk2 : bkey (k / 2) (k % 2) < 34 := by
    unfold bkey
    omega
  rw [State.bankState, hrd e he _ (fits_bankState hk2)]
  exact hbanks k hk

/-- The release of a core that holds nothing. -/
def State.letGo (s : State) (c : Nat) : State :=
  (((s.wr (rstPg (c / 4)) (RST.CORE_RST_ASSERT (c % 4)) 0).modCore c (fun x => { x with resetAt := none })).showReset c false)

theorem fits_assert (c : Nat) : FldFits (RST.CORE_RST_ASSERT (c % 4)) := .mk (by decide) (by omega) (by decide)

theorem engPg_slot_core (c : Nat) {e : Nat} (he : e < 4) : engPg c e % 1024 = 0x100 + 0xC0 * (c % 4) + 4 + e := by
  unfold engPg coreBase diePg
  omega

theorem coreRstReleaseEffect_of_nothingHeld {t0 : Nat} (hreset : (s.core c).resetAt = some t0) (h : s.nothingHeld c = true) :
    coreRstReleaseEffect s c = s.letGo c := by
  have hslot (e : Nat) (he : e < 4) := engPg_slot_core c he
  have hrst (e : Nat) (he : e < 4) : engPg c e ≠ rstPg (c / 4) := by
    intro heq
    have := hslot e he
    rw [heq, rstPg, diePg] at this
    omega
  have hfirst : (s.wr (rstPg (c / 4)) (RST.CORE_RST_ASSERT (c % 4)) 0).nothingHeld c = true :=
    nothingHeld_of_eng (fun e he f hf => rd_wr_of_page _ _ (fits_assert c) hf (hrst e he)) rfl h
  have hlast : (s.letGo c).nothingHeld c = true := by
    refine nothingHeld_of_eng (s := s.wr (rstPg (c / 4)) (RST.CORE_RST_ASSERT (c % 4)) 0) (fun e he f hf => ?_) rfl hfirst
    have := hslot e he
    exact rd_showReset_of_page _ c false hf (by omega) (by omega)
  have hat : ((s.wr (rstPg (c / 4)) (RST.CORE_RST_ASSERT (c % 4)) 0).core c).resetAt = some t0 := hreset
  unfold coreRstReleaseEffect
  dsimp only
  rw [hat]
  dsimp only
  rw [loseBanks_of_nothingHeld hfirst]
  exact resumeCore_of_nothingHeld hlast

end release

/-! ### ASSERT is written 1 (R335, R336) -/

/-- PRESERVE and ASSERT as the write leaves them. -/
def State.assertReset (s : State) (c : Nat) (preserve : Bool) : State :=
  (s.wrB (rstPg (c / 4)) (RST.CORE_RST_PRESERVE (c % 4)) preserve).wr (rstPg (c / 4)) (RST.CORE_RST_ASSERT (c % 4)) 1

theorem coreRstAssertEffect_of_released {s : State} {c : Nat} (h : s.rdB (rstPg (c / 4)) (RST.CORE_RST_ASSERT (c % 4)) = false) (preserve : Bool) :
    coreRstAssertEffect s c preserve
      = (if s.flt.migs.any (fun m => m.source == c) then
          (s.assertReset c preserve).modCore c (fun x => { x with resetWaits := true, preserve := preserve })
        else (s.assertReset c preserve).holdReset c preserve) :=
  if_neg (by rw [h]; decide)

/-- Settles O38: a die that is lost retires its cores, and an assertion or a release of a reset is the fields and records it writes. -/
theorem clocksAndCoreResets : Obligations.ClocksAndCoreResets := by
  unfold Obligations.ClocksAndCoreResets
  intro s d c
  refine ⟨fun hlets hrun hfree => ?lock, fun hlets hrun => ?refclk, fun hlets hlost => ?again, fun preserve hlets hoff hmig hidle => ?asserts,
    fun preserve hlets hoff hmig => ?waits, fun t0 hlets hat hnone => ?releases⟩
  case lock =>
    have hd : d < 40 := of_decide_eq_true hlets.1
    have hlock : (s.loseLock d).rd (clkPg d) CLK.STAT_PLL_LOCK = 0 := rd_wr_same _ _ _ _
    cases hcompute : isCompute d with
    | false =>
      have heq := (pllEffect_of_running hrun).trans (if_neg (by rw [hcompute]; decide))
      exact ⟨_, exec_of_effect hlets rfl heq, hlock, lost_loseLock s d, fun h => absurd h (by decide), rfl, rfl⟩
    | true =>
      obtain ⟨hmigs, hlogical⟩ := hfree hcompute
      have heq := (pllEffect_of_running hrun).trans (if_pos hcompute)
      obtain ⟨hregs, hdies, hdev, hsrv, hretired⟩ := foldl_triggerMig_of_unplaced (4 * d) (List.range 4) (s.loseLock d)
        (fun k hk => (logicalOf_loseLock hd _).trans (hlogical k (List.mem_range.1 hk))) hmigs
      refine ⟨_, exec_of_effect hlets rfl heq, ?_, ?_, fun _ k hk => hretired k (.inl (List.mem_range.2 hk)), hdev, hsrv⟩
      · rw [State.rd, hregs]
        exact hlock
      · rw [State.die, hdies]
        exact lost_loseLock s d
  case refclk =>
    have heq : refclkEffect s = (({ s with power := { s.power with refclkLost := true } } : State).wr (clkPg 16) CLK.STAT_REFCLK_OK 0).emit
        (clkPg 16) 0xB012 0 := if_neg (by rw [hrun]; decide)
    refine ⟨_, exec_of_effect hlets rfl heq, rfl, rd_wr_same _ _ _ _, ?_, heq ▸ (refclkEffect_frame s).keeps⟩
    exact (PagesKept.refl _ s).wr_page (f := CLK.STAT_REFCLK_OK) 0 (.of_check (by decide)) (List.mem_singleton_self _)
  case again => exact exec_of_effect hlets rfl (if_pos hlost)
  case asserts =>
    have heq := (coreRstAssertEffect_of_released hoff preserve).trans (if_neg (by rw [hmig]; decide))
    have hidle' : ∀ e < 4, ((s.assertReset c preserve).eng c e).rot.phase = .idle := hidle
    have hcore : (((s.assertReset c preserve).holdReset c preserve).core c)
        = { (((s.assertReset c preserve).resetEngines c preserve).core c).cleared with
            resetAt := some s.now, preserve := preserve, resetWaits := false } := by
      rw [State.holdReset, core_showReset, core_modCore_same, core_resetCore]
      rfl
    refine ⟨_, exec_of_effect hlets rfl heq, ?_, ?_, ?_, ?_, inReset_showReset _ c true, ?_, ?_⟩
    · rw [hcore]
    · rw [hcore]
      rfl
    · rw [hcore]
      rfl
    · have hslot := corePg_slot c
      rw [State.holdReset, rd_showReset_of_page _ c true (.of_check (by decide)) (by omega) (by omega), rd_modCore]
      exact coreState_resetCore _ c preserve
    · rw [State.holdReset, rd_rst_showReset _ c true (fits_assert c) (by simp only [fldStart, RST.CORE_RST_ASSERT, RST.STAT_IN_RESET]; omega),
        rd_modCore, rd_rst_resetCore hidle' preserve (fits_assert c) (by simp only [fldStart, RST.CORE_RST_ASSERT, RST.CORE_RST_CNT]; omega),
        State.assertReset, rd_wr_same]
      rfl
    · rw [State.holdReset, rd_rst_showReset _ c true (.of_check (by decide)) (by decide), rd_modCore, rstCnt_resetCore hidle' preserve,
        State.assertReset, State.wrB,
        rd_wr_of_start _ _ (by simp only [fldStart, RST.CORE_RST_ASSERT, RST.CORE_RST_CNT]; omega),
        rd_wr_of_start _ _ (by simp only [fldStart, RST.CORE_RST_PRESERVE, RST.CORE_RST_CNT]; omega)]
  case waits =>
    have heq := (coreRstAssertEffect_of_released hoff preserve).trans (if_pos hmig)
    exact ⟨_, exec_of_effect hlets rfl heq, core_modCore_same _ c _, rd_wr_same _ _ _ _, rfl, rfl⟩
  case releases =>
    have heq := coreRstReleaseEffect_of_nothingHeld hat hnone
    refine ⟨_, exec_of_effect hlets rfl heq, ?_, ?_, inReset_showReset _ c false, rfl, ?_⟩
    · rw [State.letGo, core_showReset, core_modCore_same]
      rfl
    · rw [State.letGo, rd_rst_showReset _ c false (fits_assert c) (by simp only [fldStart, RST.CORE_RST_ASSERT, RST.STAT_IN_RESET]; omega),
        rd_modCore, rd_wr_same]
      rfl
    · exact ((State.showReset_frame ..).after (by decide) ((State.modCore_frame ..).after (by decide)
        ((State.wr_frame s (rstPg (c / 4)) (RST.CORE_RST_ASSERT (c % 4)) 0).after (by decide) (.refl _ s)))).keeps

end Sys2Proof.Machine
end

section
/-! PROOFS. Power-on and warm resets of the package, PERST# and the removal of power. Settles O39. -/

namespace Sys2Proof.Machine

section wipe
variable {s : State} {cold : Bool} {cause : Nat}

/-- A reset before it shows the clocks and its cause: the reset records, and what a reset keeps. -/
def State.blank (s : State) (cold : Bool) : State :=
  { State.reset with
    now := s.now, sclk0 := s.now, fresh := s.fresh, dev := s.dev, host := s.host, cstore := s.cstore, tsram := s.tsram,
    nvm := { s.nvm with latched := !cold && s.nvm.latched }, sec := s.sec.over cold, power := s.power.over cold, out := s.out,
    pending := s.pending }

/-- The clocks and the cause of a reset on every die. -/
def State.showCause (s : State) (cold : Bool) (cause : Nat) : State :=
  (List.range 40).foldl (fun t d => t.showClocks s cold cause d) (s.blank cold)

theorem wipe_eq (s : State) (cold : Bool) (cause : Nat) :
    s.wipe cold cause
      = (((s.showCause cold cause).wrB (diePage 16) DIE.BOOT_STAT_WARM (!cold)).wrB fltPg FLT.STAT_LATCHED (s.showCause cold cause).nvm.latched) := rfl

theorem showCause_frame (s : State) (cold : Bool) (cause : Nat) : Frame [.regs] (s.blank cold) (s.showCause cold cause) :=
  Frame.foldl (fun t d => State.showClocks_frame t s cold cause d) _ (.refl _ _)

theorem blank_frame (s : State) (cold : Bool) (cause : Nat) : Frame [.regs] (s.blank cold) (s.wipe cold cause) :=
  (State.wrB_frame ..).after (by decide) ((State.wrB_frame ..).after (by decide) (showCause_frame s cold cause))

/-- A die's page of its cause is written by its own clocks only, and always with the same cause. -/
theorem cause_showClocks (t s : State) (cold : Bool) (cause d : Nat) :
    (t.showClocks s cold cause d).rd (rstPg d) RST.LAST_CAUSE_CAUSE = cause % 4 := by
  have hclk : FieldsKept [CLK.STAT_REFCLK_OK, CLK.STAT_PLL_LOCK] (t.wr (rstPg d) RST.LAST_CAUSE_CAUSE cause) (t.showClocks s cold cause d) := by
    have hone := (FieldsKept.refl [CLK.STAT_REFCLK_OK, CLK.STAT_PLL_LOCK] (t.wr (rstPg d) RST.LAST_CAUSE_CAUSE cause)).wr (clkPg d)
      (f := CLK.STAT_REFCLK_OK) 1 (.of_check (by decide)) (by decide)
    exact .ite hone (hone.wr (clkPg d) _ (.of_check (by decide)) (by decide))
  exact (hclk (rstPg d) RST.LAST_CAUSE_CAUSE (.of_check (by decide)) (by decide)).trans (rd_wr_same _ _ _ _)

theorem cause_showClocks_other {d k : Nat} (t s : State) (cold : Bool) (cause : Nat) (h : k ≠ d) :
    (t.showClocks s cold cause d).rd (rstPg k) RST.LAST_CAUSE_CAUSE = t.rd (rstPg k) RST.LAST_CAUSE_CAUSE := by
  have hrst : rstPg k ≠ rstPg d := by
    unfold rstPg diePg
    omega
  have hclk : rstPg k ≠ clkPg d := by
    unfold rstPg clkPg diePg
    omega
  have hkept : PagesKept [rstPg d, clkPg d] t (t.showClocks s cold cause d) := by
    have htwo := ((PagesKept.refl [rstPg d, clkPg d] t).wr_page (p := rstPg d) (f := RST.LAST_CAUSE_CAUSE) cause (.of_check (by decide)) (by simp)).wr_page
      (p := clkPg d) (f := CLK.STAT_REFCLK_OK) 1 (.of_check (by decide)) (by simp)
    unfold State.showClocks
    split
    · exact htwo
    · exact htwo.wr_page (p := clkPg d) _ (.of_check (by decide)) (by simp)
  exact hkept.rd_eq (.of_check (by decide)) (by simp [hrst, hclk])

theorem cause_showCause (s : State) (cold : Bool) {cause d : Nat} (hcause : cause < 4) (hd : d < 40) :
    (s.showCause cold cause).rd (rstPg d) RST.LAST_CAUSE_CAUSE = cause := by
  have hmod : cause % 4 = cause := Nat.mod_eq_of_lt hcause
  refine foldl_establishes (P := fun t => t.rd (rstPg d) RST.LAST_CAUSE_CAUSE = cause) (fun t k ht => ?_) (List.mem_range.2 hd)
    (fun t => (cause_showClocks t s cold cause d).trans hmod) _
  by_cases h : d = k
  · rw [h]
    exact (cause_showClocks t s cold cause k).trans hmod
  · exact (cause_showClocks_other t s cold cause h).trans ht

theorem cause_wipe (s : State) (cold : Bool) {cause d : Nat} (hcause : cause < 4) (hd : d < 40) :
    (s.wipe cold cause).rd (rstPg d) RST.LAST_CAUSE_CAUSE = cause := by
  have hdie : rstPg d ≠ diePage 16 := by
    unfold rstPg diePage diePg
    omega
  have hflt : rstPg d ≠ fltPg := by
    unfold rstPg diePg fltPg
    omega
  rw [wipe_eq, State.wrB, State.wrB, rd_wr_of_page _ _ (.of_check (by decide)) (.of_check (by decide)) hflt,
    rd_wr_of_page _ _ (.of_check (by decide)) (.of_check (by decide)) hdie]
  exact cause_showCause s cold hcause hd

theorem warm_wipe (s : State) (cold : Bool) (cause : Nat) : (s.wipe cold cause).rd (diePage 16) DIE.BOOT_STAT_WARM = toBit (!cold) := by
  rw [wipe_eq, State.wrB, State.wrB, rd_wr_of_page _ _ (.of_check (by decide)) (.of_check (by decide)) (by decide), rd_wr_same]
  exact Nat.mod_eq_of_lt (toBit_lt _ (by decide))

theorem nvm_wipe (s : State) (cold : Bool) (cause : Nat) : (s.wipe cold cause).nvm = { s.nvm with latched := !cold && s.nvm.latched } :=
  (blank_frame s cold cause).keeps .nvm (by decide)

theorem latched_wipe (s : State) (cold : Bool) (cause : Nat) :
    (s.wipe cold cause).rd fltPg FLT.STAT_LATCHED = toBit (!cold && s.nvm.latched) := by
  have hnvm : (s.showCause cold cause).nvm = { s.nvm with latched := !cold && s.nvm.latched } :=
    (showCause_frame s cold cause).keeps .nvm (by decide)
  rw [wipe_eq, hnvm, State.wrB, rd_wr_same]
  exact Nat.mod_eq_of_lt (toBit_lt _ (by decide))

/-- The units of the package are in their reset records, and the memories stand. -/
structure Wiped (s u : State) : Prop where
  tiles : u.tiles = []
  engines : u.engines = []
  cores : u.cores = []
  srv : u.srv = State.reset.srv
  awn : u.awn = State.reset.awn
  flt : u.flt = State.reset.flt
  dev : u.dev = s.dev
  host : u.host = s.host

theorem wiped_wipe (s : State) (cold : Bool) (cause : Nat) : Wiped s (s.wipe cold cause) where
  tiles := (blank_frame s cold cause).keeps .tiles (by decide)
  engines := (blank_frame s cold cause).keeps .engines (by decide)
  cores := (blank_frame s cold cause).keeps .cores (by decide)
  srv := (blank_frame s cold cause).keeps .srv (by decide)
  awn := (blank_frame s cold cause).keeps .awn (by decide)
  flt := (blank_frame s cold cause).keeps .flt (by decide)
  dev := (blank_frame s cold cause).keeps .dev (by decide)
  host := (blank_frame s cold cause).keeps .host (by decide)

theorem Wiped.after {t u : State} (h : Wiped s t) (hframe : Frame [.power] t u) : Wiped s u where
  tiles := (hframe.keeps .tiles (by decide)).trans h.tiles
  engines := (hframe.keeps .engines (by decide)).trans h.engines
  cores := (hframe.keeps .cores (by decide)).trans h.cores
  srv := (hframe.keeps .srv (by decide)).trans h.srv
  awn := (hframe.keeps .awn (by decide)).trans h.awn
  flt := (hframe.keeps .flt (by decide)).trans h.flt
  dev := (hframe.keeps .dev (by decide)).trans h.dev
  host := (hframe.keeps .host (by decide)).trans h.host

theorem power_wipe (s : State) (cold : Bool) (cause : Nat) : (s.wipe cold cause).power = s.power.over cold :=
  (blank_frame s cold cause).keeps .power (by decide)

theorem sec_wipe (s : State) (cold : Bool) (cause : Nat) : (s.wipe cold cause).sec = s.sec.over cold :=
  (blank_frame s cold cause).keeps .sec (by decide)

theorem now_wipe (s : State) (cold : Bool) (cause : Nat) : (s.wipe cold cause).now = s.now :=
  (blank_frame s cold cause).keeps .now (by decide)

end wipe

/-! ### Warm resets (R333, R428) -/

section warm
variable {s : State}

/-- The power record after a warm reset: start-up waits for PERST#, or begins. -/
theorem power_warmNow (s : State) (cause : Nat) (wait : Bool) :
    (s.warmNow cause wait).power.started = !wait ∧ (s.warmNow cause wait).power.warm = wait
      ∧ (s.warmNow cause wait).power.perstHost = s.power.perstHost := by
  have hpower := power_wipe s false cause
  cases wait
  · refine ⟨rfl, rfl, ?_⟩
    change (s.wipe false cause).power.perstHost = _
    rw [hpower]
    rfl
  · change (s.wipe false cause).power.started = _ ∧ _ ∧ (s.wipe false cause).power.perstHost = _
    rw [hpower]
    exact ⟨rfl, rfl, rfl⟩

/-- Whether start-up waits or not, the reset has the effects of a warm reset. -/
theorem warmNow_frame (s : State) (cause : Nat) (wait : Bool) : Frame [.power] (s.wipe false cause) (s.warmNow cause wait) := by
  cases wait
  · exact Frame.upd_power _ _
  · exact Frame.upd_power _ _

/-- What every warm reset leaves, whoever asks for it. -/
theorem warmNow_spec (s : State) {cause : Nat} (hcause : cause < 4) (wait : Bool) :
    let u := s.warmNow cause wait
    Wiped s u ∧ u.nvm = s.nvm ∧ u.sec.idOk = s.sec.idOk ∧ u.sec.minSvn = s.sec.minSvn
      ∧ (∀ d < 40, u.rd (rstPg d) RST.LAST_CAUSE_CAUSE = cause) ∧ u.rd (diePage 16) DIE.BOOT_STAT_WARM = 1
      ∧ u.rd fltPg FLT.STAT_LATCHED = toBit s.nvm.latched := by
  intro u
  have hframe : Frame [.power] (s.wipe false cause) u := warmNow_frame s cause wait
  have hsec : u.sec = s.sec.over false := (hframe.keeps .sec (by decide)).trans (sec_wipe s false cause)
  have hid : u.sec.idOk = s.sec.idOk := (congrArg SecS.idOk hsec).trans (Bool.true_and _)
  have hsvn : u.sec.minSvn = s.sec.minSvn := (congrArg SecS.minSvn hsec).trans rfl
  have hnvm : u.nvm = s.nvm := ((hframe.keeps .nvm (by decide)).trans (nvm_wipe s false cause)).trans rfl
  refine ⟨(wiped_wipe s false cause).after hframe, hnvm, hid, hsvn, fun d hd => ?_, ?_, ?_⟩
  · rw [hframe.rd_eq (by decide)]
    exact cause_wipe s false hcause hd
  · rw [hframe.rd_eq (by decide)]
    exact warm_wipe s false cause
  · rw [hframe.rd_eq (by decide)]
    exact latched_wipe s false cause

/-- PERST# of the host port is asserted in `s`. -/
def State.holdPerst (s : State) : State := { s with power := { s.power with perstHost := true } }

/-- Each of the three requests is one warm reset. -/
theorem warm_request {i : Instr} {cause : Nat} (hi : (i, cause) ∈ [(Instr.perstHostAssert, 1), (.warmReset 1, 1), (.warmReset 2, 2)])
    (hlets : s.lets i) (hgood : s.power.pwrgood = true) (hrun : s.power.halted = false) (hcalm : s.frozen = false)
    (hpin : s.power.perstHost = false) :
    cause < 4 ∧ ∃ t : State, Frame [.power] s t ∧ t.power.perstHost = (i == .perstHostAssert)
      ∧ exec i s = .next (t.warmNow cause (i == .perstHostAssert)) := by
  simp only [List.mem_cons, Prod.mk.injEq, List.not_mem_nil, or_false] at hi
  rcases hi with ⟨rfl, rfl⟩ | ⟨rfl, rfl⟩ | ⟨rfl, rfl⟩
  · have hcalm' : s.holdPerst.frozen = false := hcalm
    have heq : perstHostEffect s = s.holdPerst.warmNow 1 true := by
      refine (if_neg (by rw [hpin]; decide)).trans ?_
      exact if_neg (by rw [hgood]; exact ne_true_of_eq_false hcalm')
    exact ⟨by decide, s.holdPerst, Frame.upd_power _ _, rfl, exec_of_effect hlets rfl heq⟩
  · have heq : warmResetEffect s 1 = s.warmNow 1 false := by
      rw [warmResetEffect]
      simp [hgood, hrun, hcalm, hpin]
    exact ⟨by decide, s, .refl _ s, hpin, exec_of_effect hlets rfl heq⟩
  · have heq : warmResetEffect s 2 = s.warmNow 2 false := by
      rw [warmResetEffect]
      simp [hgood, hrun, hcalm]
    exact ⟨by decide, s, .refl _ s, hpin, exec_of_effect hlets rfl heq⟩

end warm

/-- The supplies of `s` stand. -/
def State.powered (s : State) : State := { s with power := { s.power with pwrgood := true } }

theorem release_frame (s : State) : Frame [.power] s s.release := Frame.upd_power _ _

theorem exec_pwrgoodAssert {s : State} (hlets : s.lets (.pwrgoodAssert true true)) (hoff : s.power.pwrgood = false) :
    exec (.pwrgoodAssert true true) s = .next (s.powered.wipe true 0).release := by
  refine exec_of_effect hlets rfl ?_
  rw [pwrgoodEffect, hoff]
  rfl

/-- Settles O39: a reset is the reset records with what it keeps, and shows its cause on every die. -/
theorem packageResets : Obligations.PackageResets := by
  unfold Obligations.PackageResets
  intro s
  refine ⟨fun hlets hoff => ?on, fun a b hlets hno => ?bad, fun hlets hon => ?off, fun i cause hi hlets hgood hrun hcalm hpin => ?warm,
    fun hlets hwarm => ?freed, fun hlets hwarm => ?pin, fun v hlets hno => ?quiet, fun hlets hup => ?link⟩
  case on =>
    have hexec := exec_pwrgoodAssert hlets hoff
    have hframe := release_frame (s.powered.wipe true 0)
    have hwiped := (wiped_wipe s.powered true 0).after hframe
    have hgood : (s.powered.wipe true 0).power.pwrgood = true := congrArg PowerS.pwrgood (power_wipe s.powered true 0)
    have hnow : (s.powered.wipe true 0).now = s.now := now_wipe s.powered true 0
    have hnvm := (hframe.keeps .nvm (by decide)).trans (nvm_wipe s.powered true 0)
    have hcause : ∀ d < 40, (s.powered.wipe true 0).release.rd (rstPg d) RST.LAST_CAUSE_CAUSE = 0 := fun d hd =>
      (hframe.rd_eq (by decide) _ _).trans (cause_wipe _ _ (by decide) hd)
    have hwarm := (hframe.rd_eq (by decide) _ _).trans (warm_wipe s.powered true 0)
    generalize s.powered.wipe true 0 = t at *
    exact ⟨_, hexec, hwiped.tiles, hwiped.engines, hwiped.cores, hwiped.srv, hwiped.awn, hwiped.flt, hgood, rfl, rfl, rfl, hnow, hnvm,
      hwiped.dev, hwiped.host, hcause, hwarm⟩
  case bad =>
    refine exec_of_effect hlets rfl (if_pos ?_)
    rcases hno with rfl | rfl | hon
    · simp
    · simp
    · simp [hon]
  case off =>
    have hhalt : ∃ t : State, Frame [.regs, .engines, .cores, .awn, .out] s t ∧ pwrgoodOffEffect s
        = { t with power := { t.power with pwrgood := false, halted := true, hostUp := false, ingestUp := false } } := by
      have heq : pwrgoodOffEffect s = _ := if_neg (by rw [hon]; decide)
      rw [heq]
      by_cases h : s.power.halted
      · exact ⟨s, .refl _ s, by rw [if_pos h]⟩
      · exact ⟨_, State.haltAll_frame s, by rw [if_neg h]⟩
    obtain ⟨t, hframe, heq⟩ := hhalt
    have hpower : t.power = s.power := hframe.keeps .power (by decide)
    rw [hpower] at heq
    exact ⟨_, exec_of_effect hlets rfl heq, rfl, hframe.keeps .nvm (by decide), hframe.keeps .sec (by decide)⟩
  case warm =>
    obtain ⟨hcause, t, hframe, hperst, hexec⟩ := warm_request hi hlets hgood hrun hcalm hpin
    obtain ⟨hwiped, hnvm, hid, hsvn, hlast, hwarm, hlatched⟩ := warmNow_spec t hcause (i == .perstHostAssert)
    obtain ⟨hstarted, hwaits, hpin'⟩ := power_warmNow t cause (i == .perstHostAssert)
    have hnvm0 : t.nvm = s.nvm := hframe.keeps .nvm (by decide)
    have hsec0 : t.sec = s.sec := hframe.keeps .sec (by decide)
    refine ⟨_, hexec, hwiped.tiles, hwiped.engines, hwiped.cores, hwiped.srv, hwiped.awn, hwiped.flt, hnvm.trans hnvm0,
      hid.trans (congrArg SecS.idOk hsec0), hsvn.trans (congrArg SecS.minSvn hsec0), hwiped.dev.trans (hframe.keeps .dev (by decide)),
      hwiped.host.trans (hframe.keeps .host (by decide)), hstarted, hwaits, hpin'.trans hperst, hlast, hwarm, ?_⟩
    rw [hlatched, hnvm0]
  case freed => exact exec_of_effect hlets rfl (if_pos hwarm)
  case pin => exact exec_of_effect hlets rfl (if_neg (ne_true_of_eq_false hwarm))
  case quiet =>
    refine exec_of_effect hlets rfl ?_
    rcases hno with rfl | hdown
    · rfl
    · cases v
      · rfl
      · exact if_pos (by simp [hdown])
  case link =>
    have heq : perstIngestEffect s true
        = (({ s with power := { s.power with perstIngest := true, ingestUp := false } } : State).linkOff 1).emit (pciePg 1) 0xA013 0 :=
      if_neg (by simp [hup])
    refine ⟨_, exec_of_effect hlets rfl heq, rfl, ?_, rd_wr_same _ _ _ _, rfl, rfl⟩
    exact (rd_wr_of_start _ _ (by decide)).trans (rd_wr_same _ _ _ _)

end Sys2Proof.Machine
end

section
/-! PROOFS. Start-up stage by stage. Settles O40. -/

namespace Sys2Proof.Machine

/-! ### The end of a stage (R391, R396) -/

section stages
variable {s t : State} {n : Nat} {r : StageResult}

/-- Stage `n` has done its work in `t`: the stages after it begin, and the die shows the time. -/
def State.endStage (t : State) (n at0 : Nat) : State :=
  let ended := t.power.ended ++ [n]
  let running := nextStages ended n
  (({ t with power := { t.power with ended := ended, running := running } } : State).wr (diePage 16) (DIE.BOOT_T n) ((t.now - at0) / ticksUs)).wr
    (diePage 16) DIE.BOOT_STAT_STAGE (if running.isEmpty then n else maxN running)

/-- Start-up stops. -/
def State.stopBoot (t : State) : State := { t with power := { t.power with running := [] } }

theorem stageEndEffect_eq (hstart : s.power.started = true) (hrun : s.power.running = [n]) (hcalm : s.frozen = false)
    (hcal : n = 8 → s.calDone = true) :
    stageEndEffect s n r
      = if (stageWork s n r).2 then (stageWork s n r).1.endStage n s.power.release else (stageWork s n r).1.stopBoot := by
  have hgo : (n = 8 && !s.calDone) = false := by
    by_cases h : n = 8
    · simp [hcal h]
    · simp [h]
  unfold stageEndEffect
  simp only [hstart, hrun, hcalm, hgo, Bool.not_true, List.contains_cons, BEq.rfl, Bool.true_or, Bool.or_false, Bool.false_eq_true, if_false]
  generalize stageWork s n r = x
  obtain ⟨t, ok⟩ := x
  cases ok
  · rfl
  · simp [State.endStage]

theorem endStage_frame (t : State) (n at0 : Nat) : Frame [.regs, .power] t (t.endStage n at0) :=
  (State.wr_frame ..).after (by decide) ((State.wr_frame ..).after (by decide) ((Frame.upd_power _ _).after (by decide) (.refl _ t)))

theorem ended_endStage {t : State} (h : t.power.ended = s.power.ended) (n at0 : Nat) : (t.endStage n at0).power.ended = s.power.ended ++ [n] := by
  rw [← h]
  rfl

theorem fits_bootT (hn : n < 10) : FldFits (DIE.BOOT_T n) := .mk (by decide) (by omega) (by decide)

theorem fieldsKept_endStage (t : State) (hn : n < 10) (at0 : Nat) :
    FieldsKept [DIE.BOOT_T n, DIE.BOOT_STAT_STAGE] t (t.endStage n at0) :=
  (((FieldsKept.refl _ t).of_regs rfl).wr _ _ (fits_bootT hn) List.mem_cons_self).wr _ _ (.of_check (by decide)) (by simp)

/-- The end of a stage writes the time and the stage in hand, and no other field. -/
theorem rd_endStage (t : State) (hn : n < 10) (at0 : Nat) (q : Nat) {f : Fld} (hf : FldFits f) (hstage : fldStart f ≠ fldStart DIE.BOOT_STAT_STAGE)
    (htime : fldStart f < 2560 ∨ 2880 ≤ fldStart f) : (t.endStage n at0).rd q f = t.rd q f := by
  refine fieldsKept_endStage t hn at0 q f hf fun g hg => ?_
  rcases List.mem_cons.1 hg with rfl | hg
  · intro h
    rw [h] at htime
    simp only [fldStart, DIE.BOOT_T] at htime
    omega
  · rw [List.mem_singleton.1 hg]
    exact hstage

theorem stage_endStage (t : State) (n at0 : Nat) : (t.endStage n at0).rd (diePage 16) DIE.BOOT_STAT_STAGE
    = (if (nextStages (t.power.ended ++ [n]) n).isEmpty then n else maxN (nextStages (t.power.ended ++ [n]) n)) % 16 := rd_wr_same _ _ _ _

theorem time_endStage (t : State) (n at0 : Nat) :
    (t.endStage n at0).rd (diePage 16) (DIE.BOOT_T n) = ((t.now - at0) / ticksUs) % 2 ^ 32 := by
  refine (rd_wr_of_start _ _ ?_).trans (rd_wr_same _ _ _ _)
  simp only [fldStart, DIE.BOOT_T, DIE.BOOT_STAT_STAGE]
  omega

/-! ### A field that every write gives the same value -/

theorem rd_wr_again {p q v : Nat} {f : Fld} (h : s.rd q f = v % 2 ^ f.width) : (s.wr p f v).rd q f = v % 2 ^ f.width := by
  rw [rd_wr]
  split
  · rfl
  · exact h

/-- Every die's page is given the same value of a field. -/
theorem rd_foldl_dies (g : Nat → Nat) (f : Fld) (v : Nat) {d : Nat} (hd : d < 40) (s : State) :
    (allDies.foldl (fun s k => s.wr (g k) f v) s).rd (g d) f = v % 2 ^ f.width :=
  foldl_establishes (P := fun t => t.rd (g d) f = v % 2 ^ f.width) (fun _ _ ht => rd_wr_again ht) (List.mem_range.2 hd)
    (fun _ => rd_wr_same _ _ _ _) s

/-- Every die's PLL shows its lock (R327). -/
def State.lockAll (s : State) : State := allDies.foldl (fun s d => s.wr (clkPg d) CLK.STAT_PLL_LOCK 1) s

theorem stage0_eq (s : State) : stage0 s = (s.lockAll, true) := rfl

theorem lockAll_frame (s : State) : Frame [.regs] s s.lockAll := Frame.foldl (fun t _ => State.wr_frame t _ _ _) _ (.refl _ s)

/-! ### Stages 1 and 2 (R378, R379, R381) -/

theorem minSvn_bootSlot (s : State) (i : Nat) : s.sec.minSvn ≤ (s.bootSlot i).sec.minSvn := by
  unfold State.bootSlot
  dsimp only
  split
  · exact Nat.le_max_left _ _
  · exact Nat.le_refl _

theorem rd_bootSlot (s : State) (i q : Nat) (f : Fld) : (s.bootSlot i).rd q f
    = ((s.wr secPg SEC.STAT_IMAGE i).wr secPg SEC.STAT_SVN (s.slotImage i).svn).rd q f := by
  unfold State.bootSlot
  dsimp only
  split <;> rfl

theorem stage1_of_slotA (hok : r.slotAOk = true) (hprefer : s.rd secPg SEC.BOOT_PREFER = 0) (hpass : s.imagePasses (s.slotImage 0) = true) :
    stage1 s r = (s.bootSlot 0, true) := by
  unfold stage1
  simp [hprefer, hok, hpass]

theorem stage1_of_none (ha : r.slotAOk = false) (hb : r.slotBOk = false) :
    stage1 s r = (((s.emit secPg 0xD011 0).emit secPg 0xD011 0).emit secPg 0xD012 0, false) := by
  have hno (i : Nat) (t : State) : ((if i = 0 then r.slotAOk else r.slotBOk) && t.imagePasses (t.slotImage i)) = false := by
    split
    · rw [ha, Bool.false_and]
    · rw [hb, Bool.false_and]
  unfold stage1
  simp only [hno, Bool.false_eq_true, if_false]

theorem rd_newNonce (s : State) {q : Nat} {f : Fld} (hf : FldFits f) (hq : q ≠ cfgPg) : s.newNonce.rd q f = s.rd q f := by
  have hkept : PagesKept [cfgPg] s s.newNonce := by
    refine PagesKept.trans (t := { s with sec := { s.sec with nonce := Config.nonce s.sec.nonceNo % 2 ^ 256, nonceNo := s.sec.nonceNo + 1 } })
      (.of_regs rfl (.refl _ s)) (PagesKept.foldl (fun i hi u => ?_) _)
    have hi := List.mem_range.1 hi
    exact (PagesKept.refl _ u).wr_page (f := CFG2P.NONCE i) _ (.mk (by decide) (by omega) (by decide)) (List.mem_singleton_self _)
  exact hkept.rd_eq hf (by simpa using hq)

/-- The identity of a start-up: kept over a warm one, found by the key's match otherwise. -/
def State.bootId (s : State) (r : StageResult) : Bool := if s.rdB (diePage 16) DIE.BOOT_STAT_WARM then s.sec.idOk else r.keyMatch

theorem idOk_newNonce (s : State) : s.newNonce.sec.idOk = s.sec.idOk := by
  have hkept (n : Nat) (t : State) : ((List.range 8).foldl (fun s i => s.wr cfgPg (CFG2P.NONCE i) (n >>> (32 * i))) t).sec = t.sec := by
    refine foldl_keeps (g := State.sec) ?_ _ _
    exact fun _ _ => rfl
  exact (congrArg SecS.idOk (hkept (Config.nonce s.sec.nonceNo % 2 ^ 256) _)).trans rfl

/-- The identity that is found is kept and shown. -/
def State.findId (s : State) (r : StageResult) : State :=
  let t := { s with sec := { s.sec with idOk := s.bootId r } }
  (if s.bootId r || s.rdB (diePage 16) DIE.BOOT_STAT_WARM then t else t.emit secPg 0xD014 0).wrB secPg SEC.STAT_ID_OK (s.bootId r)

theorem stage2_eq (s : State) (r : StageResult) : stage2 s r = ((s.findId r).newNonce, true) := rfl

theorem idOk_findId (s : State) (r : StageResult) : (s.findId r).sec.idOk = s.bootId r := by
  have hite (b : Bool) (t : State) : (if b then t else t.emit secPg 0xD014 0).sec = t.sec := by cases b <;> rfl
  exact congrArg SecS.idOk (hite _ _)

theorem stage2_spec (s : State) (r : StageResult) : (s.findId r).newNonce.sec.idOk = s.bootId r
    ∧ (s.findId r).newNonce.rd secPg SEC.STAT_ID_OK = toBit (s.bootId r) := by
  refine ⟨(idOk_newNonce _).trans (idOk_findId s r), ?_⟩
  refine (rd_newNonce _ (.of_check (by decide)) (by decide)).trans ((rd_wr_same _ _ _ _).trans ?_)
  exact Nat.mod_eq_of_lt (toBit_lt _ (by decide))

/-! ### Stage 3 (R278) -/

/-- The memories that stage 3 tests are clear, and every die shows that the test is done. -/
def State.testSrams (s : State) : State :=
  allDies.foldl (fun s d => s.wr (eccPg d) ECC.STAT_SRAM_TEST_DONE 1) { s with cstore := ⟨[], []⟩, tsram := ⟨[], []⟩ }

theorem stage3_of_sound (h : r.failedSrams = []) :
    stage3 s r = (s.testSrams, true) := by
  unfold stage3
  rw [h]
  rfl

theorem testSrams_frame (s : State) : Frame [.regs] { s with cstore := ⟨[], []⟩, tsram := ⟨[], []⟩ } s.testSrams :=
  Frame.foldl (fun t _ => State.wr_frame t _ _ _) _ (.refl _ _)

/-! ### Stage 4 (R316, R380) -/

theorem stage4_of_bad (h : r.factoryOk = false) : stage4 s r = (s.emit secPg 0xD013 0, false) := by
  unfold stage4
  rw [h]
  rfl

/-- Every die's factory record is loaded. -/
def State.loadRecords (s : State) : State := allDies.foldl (fun s d => s.loadRecord d) s

/-- COMPAT is written back from the protected items. -/
def State.restoreCompat (s : State) : State :=
  match s.protCopy with
  | some m => s.set fltPg FLT.CTRL_COMPAT (mget m FLT.CTRL_COMPAT.reset (fkey fltPg FLT.CTRL_COMPAT))
  | none => s

/-- The keys are shown, and what was loaded is measured. -/
def State.noteFactory (s : State) : State :=
  let s := (s.showKeys).wr cfgPg CFG2P.CHANGE_CNT s.sec.changeCnt
  let s := { s with sec := { s.sec with meas := mput s.sec.meas 4 (Config.factoryDigest % 2 ^ 512) } }
  ((s.freeMeas 3).meas6).meas7

/-- The factory record is loaded and measured, and the protected items that it needs. -/
def State.loadFactory (s : State) : State := s.loadRecords.restoreCompat.noteFactory

/-- Links that are up answer configuration requests. -/
def State.showReady (s : State) : State :=
  let t := if s.power.hostUp then s.wr (pciePg 0) PCIE.STAT_CFG_READY 1 else s
  if t.power.ingestUp then t.wr (pciePg 1) PCIE.STAT_CFG_READY 1 else t

theorem stage4_of_good (h : r.factoryOk = true) : stage4 s r = (s.loadFactory.showReady, true) := by
  unfold stage4
  rw [h, if_neg (by decide), State.loadFactory, State.loadRecords]
  generalize allDies.foldl (fun s d => s.loadRecord d) s = t
  rfl

theorem rd_showReady (s : State) {q : Nat} {f : Fld} (hf : FldFits f) (h0 : q ≠ pciePg 0) (h1 : q ≠ pciePg 1) :
    s.showReady.rd q f = s.rd q f := by
  have hbit (b : Bool) {p : Nat} (hp : p ∈ [pciePg 0, pciePg 1]) (t : State) :
      PagesKept [pciePg 0, pciePg 1] t (if b then t.wr p PCIE.STAT_CFG_READY 1 else t) := by
    split
    · exact (PagesKept.refl _ t).wr_page 1 (.of_check (by decide)) hp
    · exact .refl _ t
  have hkept : PagesKept [pciePg 0, pciePg 1] s s.showReady :=
    (hbit s.power.hostUp (by simp) s).trans (hbit _ (by simp) _)
  exact hkept.rd_eq hf (by simp [h0, h1])

theorem ready_showReady (h : s.power.hostUp = true) : s.showReady.rd (pciePg 0) PCIE.STAT_CFG_READY = 1 := by
  unfold State.showReady
  dsimp only
  rw [if_pos h]
  split
  · rw [rd_wr_of_page _ _ (.of_check (by decide)) (.of_check (by decide)) (by decide)]
    exact rd_wr_same _ _ _ _
  · exact rd_wr_same _ _ _ _

theorem showReady_frame (s : State) : Frame [.regs] s s.showReady := by
  unfold State.showReady
  exact .ite ((State.wr_frame ..).after (by decide) (.ite (State.wr_frame ..) (.refl _ s))) (.ite (State.wr_frame ..) (.refl _ s))

/-- What a die's factory record gives beside the mark that it is loaded. -/
def recordFields : List Fld :=
  [DIE.INFO_SPARE_FR, DIE.FR_INFO_SPARE0, DIE.FR_INFO_SPARE1, DIE.FR_INFO_CLASS_E, DIE.FR_INFO_STEPPING, DIE.SERIAL, TILE.TEMP_COMP_KT]

theorem fits_recordFields {f : Fld} (h : f ∈ recordFields) : FldFits f := by
  have hall : ∀ g ∈ recordFields, 0 < g.width ∧ fldStart g + g.width ≤ 32768 ∧ g.reset < 2 ^ g.width := by decide
  exact .of_check (hall f h)

/-- A record that is loaded leaves a page's mark, or sets it. -/
theorem loaded_loadRecord (s : State) (k : Nat) {d : Nat} (h : s.rd (diePage d) DIE.STAT_FR_LOADED = 1 ∨ d = k) :
    (s.loadRecord k).rd (diePage d) DIE.STAT_FR_LOADED = 1 := by
  have hwr {t : State} (ht : FieldsKept recordFields s t) : (t.wr (diePage k) DIE.STAT_FR_LOADED 1).rd (diePage d) DIE.STAT_FR_LOADED = 1 := by
    rcases h with h | rfl
    · exact rd_wr_again ((ht _ _ (.of_check (by decide)) (by decide)).trans h)
    · exact rd_wr_same _ _ _ _
  have hwrite {t : State} (ht : FieldsKept recordFields s t) (f : Fld) (hf : f ∈ recordFields) (v : Nat) :
      FieldsKept recordFields s (t.wr (diePage k) f v) := ht.wr _ v (fits_recordFields hf) hf
  have hloaded := hwr (hwrite (hwrite (hwrite (hwrite (hwrite (hwrite (FieldsKept.refl _ s) DIE.INFO_SPARE_FR (by decide)
    (toBit (k == Config.spare0 || k == Config.spare1))) DIE.FR_INFO_SPARE0 (by decide) Config.spare0) DIE.FR_INFO_SPARE1 (by decide) Config.spare1)
    DIE.FR_INFO_CLASS_E (by decide) (toBit Config.classE)) DIE.FR_INFO_STEPPING (by decide) 2) DIE.SERIAL (by decide) Config.serial)
  unfold State.loadRecord
  dsimp only
  split
  · exact hloaded
  · have htiles : ∀ (l : List Nat) (t : State), FieldsKept [TILE.TEMP_COMP_KT] t (l.foldl (fun s i => s.wr (tilePg (4 * k + i / 68) (i / 17 % 4) (i % 17))
        TILE.TEMP_COMP_KT (Config.kt (4 * k + i / 68) (i / 17 % 4) (i % 17))) t) :=
      FieldsKept.foldl fun t i => (FieldsKept.refl _ t).wr _ _ (.of_check (by decide)) (by decide)
    exact (htiles _ _ _ _ (.of_check (by decide)) (by decide)).trans hloaded

theorem fieldsKept_set (s : State) (p : Nat) {f : Fld} (hf : FldFits f) (v : Nat) : FieldsKept [f] s (s.set p f v) :=
  .ite (.refl _ s) ((FieldsKept.refl _ s).wr _ _ hf List.mem_cons_self)

theorem pagesKept_showKeys (s : State) : PagesKept [cfgPg] s s.showKeys := by
  have hdigest (f : Nat → Fld) (hf : ∀ i < 16, FldFits (f i)) (k : List Byte) (t : State) :
      PagesKept [cfgPg] t ((List.range 16).foldl (fun s i => s.wr cfgPg (f i) (Config.shake256 k % 2 ^ 512 >>> (32 * i))) t) :=
    PagesKept.foldl (fun i hi u => (PagesKept.refl _ u).wr_page _ (hf i (List.mem_range.1 hi)) (List.mem_singleton_self _)) t
  have howner (i : Nat) (hi : i < 16) : FldFits (CFG2P.OWNER_DIGEST i) := .mk (by decide) (by omega) (by decide)
  have hauditor (i : Nat) (hi : i < 16) : FldFits (CFG2P.AUDITOR_DIGEST i) := .mk (by decide) (by omega) (by decide)
  unfold State.showKeys
  dsimp only
  split
  · exact ((hdigest _ howner _ s).trans (hdigest _ hauditor _ _)).wr_page 1 (.of_check (by decide)) (List.mem_singleton_self _)
  · exact .refl _ s

theorem loaded_loadRecords (s : State) {d : Nat} (hd : d < 40) : s.loadRecords.rd (diePage d) DIE.STAT_FR_LOADED = 1 :=
  foldl_establishes (P := fun t => t.rd (diePage d) DIE.STAT_FR_LOADED = 1) (fun t k ht => loaded_loadRecord t k (.inl ht))
    (List.mem_range.2 hd) (fun t => loaded_loadRecord t d (.inr rfl)) s

theorem fieldsKept_restoreCompat (s : State) : FieldsKept [FLT.CTRL_COMPAT] s s.restoreCompat := by
  unfold State.restoreCompat
  split
  · exact fieldsKept_set s fltPg (.of_check (by decide)) _
  · exact .refl _ s

theorem pagesKept_noteFactory (s : State) : PagesKept [cfgPg] s s.noteFactory :=
  (((pagesKept_showKeys s).wr_page (f := CFG2P.CHANGE_CNT) s.sec.changeCnt (.of_check (by decide)) (List.mem_singleton_self _)).of_regs rfl)

/-- What is loaded with the factory record lies on pages of the package. -/
theorem loaded_loadFactory (s : State) {d : Nat} (hd : d < 40) : s.loadFactory.rd (diePage d) DIE.STAT_FR_LOADED = 1 := by
  have hcfg : diePage d ∉ [cfgPg] := by
    rw [List.mem_singleton, diePage, diePg, cfgPg]
    omega
  rw [State.loadFactory, (pagesKept_noteFactory _).rd_eq (.of_check (by decide)) hcfg,
    fieldsKept_restoreCompat _ _ _ (.of_check (by decide)) (by decide), loaded_loadRecords s hd]

theorem restoreCompat_frame (s : State) : Frame [.regs] s s.restoreCompat := by
  unfold State.restoreCompat
  split
  · exact State.set_frame ..
  · exact .refl _ s

theorem noteFactory_frame (s : State) : Frame [.fresh, .regs, .sec] s s.noteFactory :=
  (State.meas7_frame _).after (by decide) ((State.meas6_frame _).after (by decide) ((State.freeMeas_frame _ 3).after (by decide)
    ((Frame.upd_sec _ _).after (by decide) ((State.wr_frame ..).after (by decide) ((State.showKeys_frame s).after (by decide) (.refl _ s))))))

theorem loadFactory_frame (s : State) : Frame [.fresh, .regs, .sec] s s.loadFactory := by
  have hrecords : Frame [.fresh, .regs, .sec] s s.loadRecords :=
    Frame.foldl (fun t d => (State.loadRecord_frame t d).after (by decide) (.refl _ t)) _ (.refl _ s)
  exact (noteFactory_frame _).after (by decide) ((restoreCompat_frame _).after (by decide) hrecords)

/-! ### Stages 5 to 8 (R266, R277, R279, R393, R396) -/

theorem stage5_of_up (h : r.downLinks = []) : stage5 s r = (s, true) := by
  unfold stage5
  rw [h]
  rfl

/-- Stages 7 and 8 run, and stage 8 begins on every engine of the cores that start-up works with. -/
def State.startAll (s : State) : State :=
  let t := { s with power := { s.power with running := [7, 8] } }
  t.available.foldl (fun s c => (List.range 4).foldl (fun s e => s.startEngine c e) s) t

theorem stage6_of_good (h : r.bistFailed = []) : stage6 s r = (s.startAll, true) := by
  unfold stage6
  rw [h]
  rfl

theorem startAll_frame (s : State) : Frame [.regs, .tiles, .engines, .dies] { s with power := { s.power with running := [7, 8] } } s.startAll :=
  Frame.foldl (fun t c => Frame.foldl (fun t e => State.startEngine_frame t c e) _ (.refl _ t)) _ (.refl _ _)

/-- The stacks take their maps of retired granules, and tier 1 is cleared. -/
def State.clearTier1 (s : State) : State :=
  let t := (List.range 12).foldl (fun s k => s.modStack k (fun x => { x with remap := mget s.sec.remaps [] k })) s
  { t with dev := t.dev.zero 0 tier1End }

theorem byte_zero_of_lt (st : Store) {a n : Nat} (ha : a < n) (hn : n % 8 = 0) : (st.zero 0 n).byte a = 0 := by
  have hchk : (st.zero 0 n).chkAt (a / 8) = 0 := by
    have hnone : ∀ x ∈ (st.zero 0 n).chk, x.1 ≠ a / 8 := by
      intro x hx hxa
      have := (List.mem_filter.1 hx).2
      simp only [hxa, Nat.zero_div, Nat.zero_le, decide_true, Nat.zero_add, Bool.true_and, Bool.not_eq_eq_eq_not, Bool.not_true,
        decide_eq_false_iff_not] at this
      omega
    rw [Store.chkAt, mget, mfind_of_unlisted hnone]
    rfl
  have hcells : ∀ l : List Host.Cell, cellGet (l.filter (fun e => !(decide (0 ≤ e.1) && decide (e.1 < 0 + n)))) a = 0 := by
    intro l
    induction l with
    | nil => rfl
    | cons e l ih =>
      rw [List.filter_cons]
      split
      · rename_i hkeep
        obtain ⟨k, v⟩ := e
        have hne : a ≠ k := by
          rintro rfl
          simp [ha] at hkeep
        rw [cellGet, if_neg hne]
        exact ih
      · exact ih
  rw [Store.byte, if_pos hchk]
  exact hcells st.bytes

theorem clearTier1_frame (s : State) : Frame [.hbms] s
    ((List.range 12).foldl (fun s k => s.modStack k (fun x => { x with remap := mget s.sec.remaps [] k })) s) :=
  Frame.foldl (fun t k => State.modStack_frame t k _) _ (.refl _ s)

theorem remap_clearTier1 (s : State) {k : Nat} (hk : k < 12) : (s.clearTier1.stack k).remap = mget s.sec.remaps [] k := by
  have hstep : ∀ (t : State) (j : Nat), t.sec = s.sec ∧ ((t.stack k).remap = mget s.sec.remaps [] k ∨ j = k) →
      (t.modStack j (fun x => { x with remap := mget t.sec.remaps [] j })).sec = s.sec
        ∧ ((t.modStack j (fun x => { x with remap := mget t.sec.remaps [] j })).stack k).remap = mget s.sec.remaps [] k := by
    rintro t j ⟨hsec, hremap⟩
    refine ⟨hsec, ?_⟩
    by_cases hj : k = j
    · rw [hj, stack_modStack_same, hsec]
    · exact (congrArg StackS.remap (mget_mput_other _ _ _ _ _ hj)).trans (hremap.resolve_right (Ne.symm hj))
  have hall : ∀ (l : List Nat) (t : State), t.sec = s.sec → (k ∈ l ∨ (t.stack k).remap = mget s.sec.remaps [] k) →
      ((l.foldl (fun s j => s.modStack j (fun x => { x with remap := mget s.sec.remaps [] j })) t).stack k).remap = mget s.sec.remaps [] k := by
    intro l
    induction l with
    | nil => exact fun t _ h => h.resolve_left List.not_mem_nil
    | cons j l ih =>
      intro t hsec h
      refine ih _ hsec ?_
      by_cases hj : j = k
      · exact .inr (hstep t j ⟨hsec, .inr hj⟩).2
      · rcases h with h | h
        · exact .inl ((List.mem_cons.1 h).resolve_left fun hk => hj hk.symm)
        · exact .inr (hstep t j ⟨hsec, .inl h⟩).2
  exact hall _ s rfl (.inl (List.mem_range.2 hk))

/-- The CXL ports train; what they fit comes with the state. -/
def State.trainPorts (s : State) (r : StageResult) : State × List Nat :=
  (List.range 4).foldl (fun (a : State × List Nat) p =>
    let (s, n) := a.1.trainCxl p (r.cxlCaps.getD p 0)
    (s, a.2 ++ [n])) (s, [])

/-- What the ports fit is noted. -/
def noteTier2 (x : State × List Nat) : State :=
  ({ x.1 with power := { x.1.power with t2Caps := x.2 } } : State).wrB (eccPg 10) ECC.STAT_T2_INTLV
    (x.2.headD 0 != 0 && x.2.all (fun n => n == x.2.headD 0))

theorem trainPorts_frame (s : State) (r : StageResult) : Frame [.regs, .dies] s (s.trainPorts r).1 :=
  Frame.foldl_pair (f := fun (a : State × List Nat) p =>
    let (s, n) := a.1.trainCxl p (r.cxlCaps.getD p 0)
    (s, a.2 ++ [n])) (fun x p => State.trainCxl_frame x.1 p _) _ (.refl _ s)

theorem stage7_of_good (h : r.hbmFailed = []) : stage7 s r = (noteTier2 (s.clearTier1.trainPorts r), true) := by
  simp only [stage7, h, List.filter_nil, List.isEmpty_nil, Bool.not_true, Bool.false_eq_true, if_false, State.clearTier1, State.trainPorts,
    noteTier2]

theorem noteTier2_frame (x : State × List Nat) : Frame [.regs, .power] x.1 (noteTier2 x) :=
  (State.wrB_frame ..).after (by decide) ((Frame.upd_power _ _).after (by decide) (.refl _ _))

theorem ended_noteTier2 (x : State × List Nat) : (noteTier2 x).power.ended = x.1.power.ended := rfl

theorem noteTier2_spec (s : State) (r : StageResult) : (noteTier2 (s.clearTier1.trainPorts r)).dev = s.clearTier1.dev
    ∧ (noteTier2 (s.clearTier1.trainPorts r)).hbms = s.clearTier1.hbms
    ∧ (noteTier2 (s.clearTier1.trainPorts r)).power.ended = s.power.ended := by
  have hports := trainPorts_frame s.clearTier1 r
  have hnote := noteTier2_frame (s.clearTier1.trainPorts r)
  have hpower : s.clearTier1.power = s.power := (clearTier1_frame s).keeps .power (by decide)
  refine ⟨(hnote.keeps .dev (by decide)).trans (hports.keeps .dev (by decide)),
    (hnote.keeps .hbms (by decide)).trans (hports.keeps .hbms (by decide)), ?_⟩
  rw [ended_noteTier2, hports.keeps .power (by decide), hpower]

theorem stage7_of_failed (h : r.hbmFailed = [0]) : stage7 s r = (s.emit (hbmcPg 0) 0x6051 0, false) := by
  unfold stage7
  rw [h]
  rfl

/-! ### Stage 9 (R316, R393 to R395) -/

theorem fieldsKept_latchRecovery (s : State) : FieldsKept [FLT.STAT_LATCHED] s s.latchRecovery := by
  refine .ite (.refl _ s) ?_
  exact (((FieldsKept.refl [FLT.STAT_LATCHED] s).of_regs rfl).wr fltPg 1 (.of_check (by decide)) (by decide)).of_regs rfl

/-- The device is ready. -/
def State.declareReady (s : State) : State :=
  ((s.wr (pciePg 0) PCIE.STAT_DEV_READY 1).wr (pciePg 1) PCIE.STAT_DEV_READY 1).wr (diePage 16) DIE.BOOT_STAT_DONE 1

theorem stage9_eq (s : State) : ∃ t : State, stage9 s = (t.declareReady.latchRecovery, true) := ⟨_, rfl⟩

theorem rd_declareReady (t : State) : t.declareReady.latchRecovery.rd (pciePg 0) PCIE.STAT_DEV_READY = 1
    ∧ t.declareReady.latchRecovery.rd (pciePg 1) PCIE.STAT_DEV_READY = 1 ∧ t.declareReady.latchRecovery.rd (diePage 16) DIE.BOOT_STAT_DONE = 1 := by
  have hkept := fieldsKept_latchRecovery t.declareReady
  refine ⟨?_, ?_, ?_⟩
  · rw [hkept _ _ (.of_check (by decide)) (by decide), State.declareReady,
      rd_wr_of_page _ _ (.of_check (by decide)) (.of_check (by decide)) (by decide),
      rd_wr_of_page _ _ (.of_check (by decide)) (.of_check (by decide)) (by decide), rd_wr_same]
    rfl
  · rw [hkept _ _ (.of_check (by decide)) (by decide), State.declareReady,
      rd_wr_of_page _ _ (.of_check (by decide)) (.of_check (by decide)) (by decide), rd_wr_same]
    rfl
  · rw [hkept _ _ (.of_check (by decide)) (by decide), State.declareReady, rd_wr_same]
    rfl

end stages

/-- Settles O40: each stage's work is one of its branches, and the end of a stage adds the time and the stage in hand. -/
theorem startupStagesEnd : Obligations.StartupStagesEnd := by
  unfold Obligations.StartupStagesEnd
  intro s n r hlets hstart hrun hcalm
  have hends {t : State} (hn : n ≠ 8 ∨ s.calDone = true) (hwork : stageWork s n r = (t, true)) :
      exec (.startupStageEnd n r) s = .next (t.endStage n s.power.release) := by
    refine exec_of_effect hlets rfl ((stageEndEffect_eq hstart hrun hcalm fun h => hn.resolve_left (not_not.2 h)).trans ?_)
    rw [hwork]
    rfl
  have hstops {t : State} (hn : n ≠ 8) (hwork : stageWork s n r = (t, false)) : exec (.startupStageEnd n r) s = .next t.stopBoot := by
    refine exec_of_effect hlets rfl ((stageEndEffect_eq hstart hrun hcalm fun h => absurd h hn).trans ?_)
    rw [hwork]
    rfl
  refine ⟨?clocks, ?unbootable, ?boots, ?identity, ?memories, ?unknown, ?factory, ?mesh, ?cores, ?tier1, ?dead, ?calibrated, ?calibrating, ?ready⟩
  case clocks =>
    rintro rfl
    have hpower : s.lockAll.power = s.power := (lockAll_frame s).keeps .power (by decide)
    have hnow : s.lockAll.now = s.now := (lockAll_frame s).keeps .now (by decide)
    refine ⟨_, hends (.inl (by decide)) (stage0_eq s), fun d hd => ?_, rfl, ended_endStage (congrArg PowerS.ended hpower) _ _, stage_endStage _ _ _, ?_⟩
    · rw [rd_endStage _ (by decide) _ _ (.of_check (by decide)) (by decide) (by decide)]
      exact rd_foldl_dies clkPg CLK.STAT_PLL_LOCK 1 hd s
    · rw [time_endStage, hnow]
  case unbootable =>
    rintro rfl ha hb
    exact ⟨_, hstops (by decide) (stage1_of_none ha hb), rfl, rfl, rfl⟩
  case boots =>
    rintro rfl ha hprefer hpass
    refine ⟨_, hends (.inl (by decide)) (stage1_of_slotA ha hprefer hpass), ?_, ?_, minSvn_bootSlot s 0, rfl, ?_⟩
    · rw [rd_endStage _ (by decide) _ _ (.of_check (by decide)) (by decide) (by decide), rd_bootSlot, rd_wr_of_start _ _ (by decide), rd_wr_same]
      rfl
    · rw [rd_endStage _ (by decide) _ _ (.of_check (by decide)) (by decide) (by decide), rd_bootSlot, rd_wr_same]
      rfl
    · exact ended_endStage (congrArg PowerS.ended ((State.bootSlot_frame s 0).keeps .power (by decide))) _ _
  case identity =>
    rintro rfl
    obtain ⟨hid, hshown⟩ := stage2_spec s r
    have hframe := stage2_frame s r
    rw [stage2_eq] at hframe
    have hpower : (s.findId r).newNonce.power = s.power := hframe.keeps .power (by decide)
    have hwork : stageWork s 2 r = ((s.findId r).newNonce, true) := by
      rw [stageWork, stage2_eq]
    generalize (s.findId r).newNonce = t at hid hshown hpower hwork
    have hsec : (t.endStage 2 s.power.release).sec = t.sec := (endStage_frame t 2 _).keeps .sec (by decide)
    rw [← hsec] at hid
    refine ⟨_, hends (.inl (by decide)) hwork, hid, ?_, rfl, ended_endStage (congrArg PowerS.ended hpower) _ _⟩
    rw [rd_endStage _ (by decide) _ _ (.of_check (by decide)) (by decide) (by decide), hshown, ← hid]
  case memories =>
    rintro rfl hsound
    have htest := testSrams_frame s
    have hend := endStage_frame s.testSrams 3 s.power.release
    refine ⟨_, hends (.inl (by decide)) (stage3_of_sound hsound), (hend.keeps .cstore (by decide)).trans (htest.keeps .cstore (by decide)),
      (hend.keeps .tsram (by decide)).trans (htest.keeps .tsram (by decide)), fun d hd => ?_, rfl,
      (hend.keeps .dev (by decide)).trans (htest.keeps .dev (by decide))⟩
    rw [rd_endStage _ (by decide) _ _ (.of_check (by decide)) (by decide) (by decide)]
    exact rd_foldl_dies eccPg ECC.STAT_SRAM_TEST_DONE 1 hd _
  case unknown =>
    rintro rfl hbad
    exact ⟨_, hstops (by decide) (stage4_of_bad hbad), rfl, rfl, rfl⟩
  case factory =>
    rintro rfl hgood
    have hload : s.loadFactory.power = s.power := (loadFactory_frame s).keeps .power (by decide)
    have hpower : s.loadFactory.showReady.power = s.power := ((showReady_frame _).keeps .power (by decide)).trans hload
    refine ⟨_, hends (.inl (by decide)) (stage4_of_good hgood), fun d hd => ?_, fun hup => ?_, rfl, ended_endStage (congrArg PowerS.ended hpower) _ _⟩
    · have hslot : ∀ i, pciePg i ≠ diePage d := by
        intro i
        unfold pciePg diePage diePg
        split <;> omega
      rw [rd_endStage _ (by decide) _ _ (.of_check (by decide)) (by decide) (by decide),
        rd_showReady _ (.of_check (by decide)) (hslot 0).symm (hslot 1).symm]
      exact loaded_loadFactory s hd
    · rw [rd_endStage _ (by decide) _ _ (.of_check (by decide)) (by decide) (by decide)]
      exact ready_showReady (by rw [hload]; exact hup)
  case mesh =>
    rintro rfl hup
    exact ⟨_, hends (.inl (by decide)) (stage5_of_up hup), rfl, (endStage_frame s 5 _).keeps⟩
  case cores =>
    rintro rfl hgood
    have hpower : s.startAll.power = { s.power with running := [7, 8] } := (startAll_frame s).keeps .power (by decide)
    have hdev : s.startAll.dev = s.dev := (startAll_frame s).keeps .dev (by decide)
    have hended : s.startAll.power.ended = s.power.ended := (congrArg PowerS.ended hpower).trans rfl
    exact ⟨_, hends (.inl (by decide)) (stage6_of_good hgood), rfl, ended_endStage hended _ _, hdev⟩
  case tier1 =>
    rintro rfl hgood
    obtain ⟨hdev, hhbms, hended⟩ := noteTier2_spec s r
    have hwork : stageWork s 7 r = (noteTier2 (s.clearTier1.trainPorts r), true) := by
      rw [stageWork, stage7_of_good hgood]
    generalize noteTier2 (s.clearTier1.trainPorts r) = t at hdev hhbms hended hwork
    have hbyte (a : Nat) (ha : a < tier1End) : t.dev.byte a = 0 := by
      rw [hdev]
      exact byte_zero_of_lt _ ha (by decide)
    have hremap (k : Nat) (hk : k < 12) : (t.stack k).remap = mget s.sec.remaps [] k := by
      rw [State.stack, hhbms]
      exact remap_clearTier1 s hk
    refine ⟨_, hends (.inl (by decide)) hwork, fun a => ?_, hremap, ?_, ended_endStage hended _ _⟩
    · by_cases ha : a < tier1End
      · exact .inl (hbyte a ha)
      · exact .inr (Nat.not_lt.1 ha)
    · refine (congrArg (fun l => nextStages (l ++ [7]) 7) hended).trans ?_
      simp [nextStages]
  case dead =>
    rintro rfl hdead
    have hwork : stageWork s 7 r = (s.emit (hbmcPg 0) 0x6051 0, false) := by
      rw [stageWork, stage7_of_failed hdead]
    exact ⟨_, hstops (by decide) hwork, rfl, rfl, rfl⟩
  case calibrated =>
    rintro rfl hcal h7
    refine ⟨_, hends (.inr hcal) (congrArg (Prod.mk s) hcal), ?_, (endStage_frame s 8 _).keeps⟩
    have hnext : nextStages (s.power.ended ++ [8]) 8 = [9] := by
      have h7 : 7 ∈ s.power.ended := by simpa using h7
      simp [nextStages, h7]
    exact congrArg (fun l => ({ s.power with running := l, ended := s.power.ended ++ [8] } : PowerS)) hnext
  case calibrating =>
    rintro rfl hcal
    refine exec_of_effect hlets rfl ?_
    unfold stageEndEffect
    simp [hstart, hrun, hcalm, hcal]
  case ready =>
    rintro rfl
    obtain ⟨t, hwork⟩ := stage9_eq s
    have hpower : t.declareReady.latchRecovery.power = s.power := by
      have h := (stage9_frame s).keeps .power (by decide)
      rw [hwork] at h
      exact h
    obtain ⟨hhost, hingest, hdone⟩ := rd_declareReady t
    refine ⟨_, hends (.inl (by decide)) hwork, ?_, ?_, ?_, rfl, ended_endStage (congrArg PowerS.ended hpower) _ _, stage_endStage _ _ _⟩
    · rw [rd_endStage _ (by decide) _ _ (.of_check (by decide)) (by decide) (by decide)]
      exact hhost
    · rw [rd_endStage _ (by decide) _ _ (.of_check (by decide)) (by decide) (by decide)]
      exact hingest
    · rw [rd_endStage _ (by decide) _ _ (.of_check (by decide)) (by decide) (by decide)]
      exact hdone

end Sys2Proof.Machine
end

section
/-! PROOFS. An orderly stop's drain that ends a sequence holding a page. Refutes O41. -/

namespace Sys2Proof.Machine

/-- A step of slot 9 alone, which runs. -/
def lastStep : StepS :=
  { step := 5, model := 0, shape := 0, cores := [], gsemBase := 0, gsemN := 0, draftSem := 0, tokens := 0, logits := 0, dlogits := 0,
    seqs := [{ slot := 9, n := 1, k := 0, prefill := false, drafts := [], qdist := [], toks := [], accepted := 0, failed := false, sampled := false }],
    rounds := 1, round := 0, unsent := [], phase := 1, at0 := 0 }

/-- Model 0 has one layer with one head; slot 9 decodes on it with one page, number 0, which one other sequence shares, and has been
tried again as often as RETRY_MAX allows. The orderly stop drains the step that it is in. -/
def drained : State :=
  let s := ((((State.reset.wr (mdlPg 0) MDL.LAYERS 1).wr (mdlPg 0) MDL.HEADS_KV 1).wr (mdlPg 0) MDL.MAX_CTX 64).wr (kvpPg 0) KVP.CTRL_ENABLE 1)
  { s with
    pages := { s.pages with ledger := [(0, { PageEnt.free with ref := 2, state := 2 })] }
    srv := { s.srv with steps := [lastStep], seqs := [(9, { Seq.free with state := 2, attempts := 1, r := 1, pages := 1 })] }
    power := { s.power with orderly := 1 } }

theorem lets_drained : drained.lets .orderlyDrainEnd := lets_of_check (by decide)

/-- The page's entry in the backing table is written with one reference fewer. -/
theorem dev_orderlyDrain_drained : (orderlyDrainEffect drained).dev ≠ drained.dev := by decide

/-- Refutes O41: the statement has device memory stand through the drain of the orderly stop, but a sequence whose step is aborted
once more than RETRY_MAX allows ends, and its pages' entries go through to the backing table in tier 1. -/
theorem not_housekeepingAndTheOrderlyStop : ¬ Obligations.HousekeepingAndTheOrderlyStop := by
  unfold Obligations.HousekeepingAndTheOrderlyStop
  rintro ⟨-, hstop⟩
  obtain ⟨u, hexec, -, -, hdev, -⟩ := (hstop drained).1 lets_drained (by decide)
  have heq : u = orderlyDrainEffect drained := Host.Outcome.next.inj (hexec.symm.trans (exec_of_effect lets_drained rfl rfl))
  exact dev_orderlyDrain_drained (heq ▸ hdev)

end Sys2Proof.Machine
end

section
/-! PROOFS. The collectors of the dies: records taken, merged, buffered and forwarded, and polled sources. Settles O42. -/

namespace Sys2Proof.Machine

variable {s : State} {d page : Nat} {p : FaultRec → Bool} {r x : FaultRec}

/-- The first record at a die's sources that satisfies `p` leaves its source. -/
def State.takeSource (s : State) (d : Nat) (p : FaultRec → Bool) : State := s.modDie d (fun x => { x with sources := eraseFirst p x.sources })

theorem die_takeSource (hsrc : (s.die d).sources = [r]) (hp : p r = true) : (s.takeSource d p).die d = { s.die d with sources := [] } := by
  rw [State.takeSource, die_modDie_same, hsrc]
  simp [eraseFirst, hp]

theorem bufUsed_takeSource (hsrc : (s.die d).sources = [r]) (hp : p r = true) : (s.takeSource d p).bufUsed d = s.bufUsed d := by
  rw [State.bufUsed, die_takeSource hsrc hp]
  rfl

/-- What a collector makes of the one record at a die's sources. -/
theorem collectFirst_of_single {t : State} (hsrc : (s.die d).sources = [r]) (hp : p r = true) (ht : (s.takeSource d p).collect d r = some t) :
    s.collectFirst d p = t := by
  have hfind : (s.die d).sources.find? p = some r := by simp [hsrc, hp]
  have hcollect : (s.modDie d (fun x => { x with sources := eraseFirst p x.sources })).collect d r = some t := ht
  simp only [State.collectFirst, hfind, hcollect]

/-! ### What becomes of a record that is taken (R355, R357) -/

theorem collect_of_urgent (hcls : r.cls ≠ 0) (hroom : s.bufUsed d < 64) : s.collect d r = some (s.forward d r) := by
  simp only [State.collect, if_pos hcls, if_pos hroom]

/-- A C record is merged with those of its like in the buffer. -/
def State.mergeInto (s : State) (d : Nat) (r : FaultRec) : State :=
  s.modDie d (fun x => { x with buffer := mapIf (fun y => sameSource y.1 r) (fun y => (mergeRec y.1 r, y.2)) x.buffer })

theorem collect_of_like (hcls : r.cls = 0) (hlike : (s.die d).buffer.any (fun y => sameSource y.1 r) = true) :
    s.collect d r = some (s.mergeInto d r) := by
  simp only [State.collect, hcls, ne_eq, not_true_eq_false, if_false, hlike, if_true]
  rfl

/-- A C record waits in the buffer. -/
def State.bufferRec (s : State) (d : Nat) (r : FaultRec) : State := s.modDie d (fun x => { x with buffer := x.buffer ++ [(r, s.now)] })

theorem collect_of_new (hcls : r.cls = 0) (hlike : (s.die d).buffer.any (fun y => sameSource y.1 r) = false) (hroom : s.bufUsed d < 56) :
    s.collect d r = some (s.bufferRec d r) := by
  simp only [State.collect, hcls, ne_eq, not_true_eq_false, if_false, hlike, Bool.false_eq_true, if_pos hroom]
  rfl

/-- A C record that finds no room is dropped. -/
def State.dropRec (s : State) (d : Nat) : State := (s.inc (fltdPg d) FLTD.OVF_CNT).modDie d (fun x => { x with dropped := x.dropped + 1 })

theorem collect_of_full (hcls : r.cls = 0) (hlike : (s.die d).buffer.any (fun y => sameSource y.1 r) = false) (hroom : 56 ≤ s.bufUsed d) :
    s.collect d r = some (s.dropRec d) := by
  simp only [State.collect, hcls, ne_eq, not_true_eq_false, if_false, hlike, Bool.false_eq_true, if_neg (Nat.not_lt.2 hroom)]
  rfl

theorem fwdCnt_forward (s : State) (d : Nat) (r : FaultRec) :
    (s.forward d r).rd (fltdPg d) FLTD.FWD_CNT = (s.rd (fltdPg d) FLTD.FWD_CNT + 1) % 2 ^ 64 := rd_wr_same _ _ _ _

/-! ### The commands that take a record -/

/-- A collector's command takes the one record at its die's sources. -/
theorem exec_collect {i : Instr} (hi : (i = .faultRecord d ∧ r.polled = false) ∨ (i = .recordPoll d page ∧ r.polled = true ∧ recFrom page r = true))
    (hlets : s.lets i) : ∃ p : FaultRec → Bool, p r = true ∧ exec i s = .next (s.collectFirst d p) := by
  rcases hi with ⟨rfl, hpolled⟩ | ⟨rfl, hpolled, hfrom⟩
  · exact ⟨fun r => !r.polled, by simp [hpolled], exec_of_effect hlets rfl rfl⟩
  · exact ⟨fun r => r.polled && recFrom page r, by simp [hpolled, hfrom], exec_of_effect hlets rfl rfl⟩

/-- A U or F record goes on to the package collector. -/
theorem urgent_collected (hsrc : (s.die d).sources = [r]) (hp : p r = true) (hcls : r.cls ≠ 0) (hroom : s.bufUsed d < 64) :
    (s.collectFirst d p).flt = { s.flt with wire := s.flt.wire ++ [r] } ∧ ((s.collectFirst d p).die d).sources = []
      ∧ (s.collectFirst d p).rd (fltdPg d) FLTD.FWD_CNT = (s.rd (fltdPg d) FLTD.FWD_CNT + 1) % 2 ^ 64
      ∧ Keeps [.regs, .dies, .flt] s (s.collectFirst d p) := by
  have hframe := State.collectFirst_frame s d p
  have heq := collectFirst_of_single hsrc hp (collect_of_urgent hcls (bufUsed_takeSource hsrc hp ▸ hroom))
  refine ⟨by rw [heq]; rfl, ?_, by rw [heq]; exact fwdCnt_forward _ d r, hframe.1⟩
  rw [heq]
  exact congrArg DieS.sources (die_takeSource hsrc hp)

/-- A C record unlike those in the buffer waits there. -/
theorem new_collected (hsrc : (s.die d).sources = [r]) (hp : p r = true) (hcls : r.cls = 0)
    (hlike : (s.die d).buffer.any (fun y => sameSource y.1 r) = false) (hroom : s.bufUsed d < 56) :
    ((s.collectFirst d p).die d).buffer = (s.die d).buffer ++ [(r, s.now)] ∧ ((s.collectFirst d p).die d).sources = []
      ∧ Keeps [.dies] s (s.collectFirst d p) := by
  have hdie := die_takeSource hsrc hp
  have heq := collectFirst_of_single hsrc hp (collect_of_new hcls (by rw [hdie]; exact hlike) (bufUsed_takeSource hsrc hp ▸ hroom))
  rw [heq, State.bufferRec, die_modDie_same, hdie]
  exact ⟨rfl, rfl, ((State.modDie_frame ..).after (by decide) (State.modDie_frame ..)).1⟩

/-- A C record is merged with the one in the buffer that is like it. -/
theorem like_collected {t : Nat} (hsrc : (s.die d).sources = [r]) (hp : p r = true) (hcls : r.cls = 0) (hbuf : (s.die d).buffer = [(x, t)])
    (hlike : sameSource x r = true) :
    ((s.collectFirst d p).die d).buffer = [(mergeRec x r, t)] ∧ ((s.collectFirst d p).die d).sources = []
      ∧ Keeps [.dies] s (s.collectFirst d p) := by
  have hdie := die_takeSource hsrc hp
  have heq := collectFirst_of_single hsrc hp (collect_of_like hcls (by rw [hdie, hbuf]; simp [hlike]))
  rw [heq, State.mergeInto, die_modDie_same, hdie, hbuf]
  exact ⟨by simp [mapIf, hlike], rfl, ((State.modDie_frame ..).after (by decide) (State.modDie_frame ..)).1⟩

/-- A C record that finds no room is counted. -/
theorem full_collected (hsrc : (s.die d).sources = [r]) (hp : p r = true) (hcls : r.cls = 0)
    (hlike : (s.die d).buffer.any (fun y => sameSource y.1 r) = false) (hroom : 56 ≤ s.bufUsed d) :
    ((s.collectFirst d p).die d).buffer = (s.die d).buffer ∧ ((s.collectFirst d p).die d).dropped = (s.die d).dropped + 1
      ∧ ((s.collectFirst d p).die d).sources = []
      ∧ (s.collectFirst d p).rd (fltdPg d) FLTD.OVF_CNT = (s.rd (fltdPg d) FLTD.OVF_CNT + 1) % 2 ^ 64 := by
  have hdie := die_takeSource hsrc hp
  have heq := collectFirst_of_single hsrc hp (collect_of_full hcls (by rw [hdie]; exact hlike) (bufUsed_takeSource hsrc hp ▸ hroom))
  have hinc : ((s.takeSource d p).inc (fltdPg d) FLTD.OVF_CNT).die d = { s.die d with sources := [] } := hdie
  rw [heq, State.dropRec, die_modDie_same, hinc]
  exact ⟨rfl, rfl, rfl, rd_wr_same _ _ _ _⟩

/-! ### The oldest buffered record, and a stuck class line -/

theorem oldest_forwarded {t : Nat} {l : List (FaultRec × Nat)} (hbuf : (s.die d).buffer = (r, t) :: l) :
    (s.forwardOldest d).flt = { s.flt with wire := s.flt.wire ++ [r] } ∧ ((s.forwardOldest d).die d).buffer = l
      ∧ (s.forwardOldest d).rd (fltdPg d) FLTD.FWD_CNT = (s.rd (fltdPg d) FLTD.FWD_CNT + 1) % 2 ^ 64
      ∧ Keeps [.regs, .dies, .flt] s (s.forwardOldest d) := by
  have hframe := State.forwardOldest_frame s d
  have heq : s.forwardOldest d = (s.modDie d (fun y => { y with buffer := l })).forward d r := by simp only [State.forwardOldest, hbuf]
  refine ⟨by rw [heq]; rfl, ?_, by rw [heq]; exact fwdCnt_forward _ d r, hframe.1⟩
  rw [heq]
  exact congrArg DieS.buffer (die_modDie_same s d (fun y => { y with buffer := l }))

/-- A wait for a record that ends with room makes of its source what a stuck class line makes of it. -/
theorem exec_lineFault {i : Instr} (hi : i = .classLineStuck d page ∨ (i = .recordWaitTimeout d page ∧ s.bufUsed d < 64)) (hlets : s.lets i) :
    exec i s = .next (s.lineFault d page) := by
  rcases hi with rfl | ⟨rfl, hroom⟩
  · exact exec_of_effect hlets rfl rfl
  · exact exec_of_effect hlets rfl (if_pos hroom)

theorem pageDie_fltdPg (hd : d < 40) : pageDie (fltdPg d) = d := by
  have hlt : fltdPg d < srvPg := by unfold fltdPg diePg srvPg; omega
  rw [pageDie, if_pos hlt]
  unfold fltdPg diePg
  omega

/-- The page that LINE_FAULT is raised on belongs to the die of the class line. -/
theorem pageDie_lineFault (hd : d < 40) (b : Bool) : pageDie (if b && d == 16 then fltPg else fltdPg d) = d := by
  split
  next h => exact (beq_iff_eq.1 (Bool.and_eq_true_iff.1 h).2).symm
  · exact pageDie_fltdPg hd

theorem length_mapIf {α : Type} (p : α → Bool) (f : α → α) (l : List α) : (mapIf p f l).length = l.length := by
  simp [mapIf]

theorem die_emit_own (s : State) {q : Nat} (hq : pageDie q = d) (code addr : Nat) :
    ∃ z, (s.emit q code addr).die d = { s.die d with sources := (s.die d).sources ++ [z] } := by
  subst hq
  exact ⟨_, die_modDie_same ..⟩

theorem line_polled (hlt : page < srvPg) (hdie : pageDie page = d) (hblock : blockOf page ≠ .none)
    (hnew : (s.die d).polledSrc.contains page = false) :
    ((s.lineFault d page).die d).polledSrc = (s.die d).polledSrc ++ [page]
      ∧ (s.lineFault d page).rd (fltdPg d) FLTD.LINE_CNT = (s.rd (fltdPg d) FLTD.LINE_CNT + 1) % 2 ^ 64
      ∧ ((s.lineFault d page).die d).sources.length = (s.die d).sources.length + 1 ∧ Keeps [.regs, .dies] s (s.lineFault d page) := by
  have hd : d < 40 := by
    rw [pageDie, if_pos hlt] at hdie
    unfold srvPg at hlt
    omega
  have hgate : ¬ ((pageDie page ≠ d ∧ !(blockOf page == .fltd && d == 16)) ∨ blockOf page = .none ∨ (s.die d).polledSrc.contains page) := by
    rw [hnew]
    simp [hdie, hblock]
  have hframe := State.lineFault_frame s d page
  obtain ⟨z, hz⟩ := die_emit_own (s.inc (fltdPg d) FLTD.LINE_CNT) (pageDie_lineFault hd (blockOf page == .fltd)) 0xE011
    (if (blockOf page == .fltd && d == 16) then page / 1024 else if page < srvPg then page % 1024 else page)
  have hold : (s.inc (fltdPg d) FLTD.LINE_CNT).die d = s.die d := rfl
  rw [hold] at hz
  refine ⟨?_, ?_, ?_, hframe.1⟩
  · rw [State.lineFault, if_neg hgate, die_modDie_same, hz]
  · rw [State.lineFault, if_neg hgate]
    exact rd_wr_same _ _ _ _
  · rw [State.lineFault, if_neg hgate, die_modDie_same, hz, length_mapIf, List.length_append]
    rfl

/-- Settles O42: the record leaves its source first, which leaves the die's buffer and the count of its entries as they were, and then
its class and the room decide. -/
theorem collectorsTakeRecords : Obligations.CollectorsTakeRecords := by
  unfold Obligations.CollectorsTakeRecords
  intro s d page
  refine ⟨fun r hsrc _ i hi hlets => ?_, fun r t l hlets hbuf => ⟨_, exec_of_effect hlets rfl rfl, oldest_forwarded hbuf⟩,
    fun i hi hlets hlt hdie hblock hnew => ⟨_, exec_lineFault hi hlets, line_polled hlt hdie hblock hnew⟩⟩
  obtain ⟨p, hp, hexec⟩ := exec_collect hi hlets
  exact ⟨fun hcls hroom => ⟨_, hexec, urgent_collected hsrc hp hcls hroom⟩,
    fun hcls hlike hroom => ⟨_, hexec, new_collected hsrc hp hcls hlike hroom⟩,
    fun x t hcls hbuf hlike => ⟨_, hexec, like_collected hsrc hp hcls hbuf hlike⟩,
    fun hcls hlike hroom => ⟨_, hexec, full_collected hsrc hp hcls hlike hroom⟩⟩

end Sys2Proof.Machine
end

section
/-! PROOFS. The halt of every core that runs, and how a record enters the package's log. -/

namespace Sys2Proof.Machine

variable {s t : State}

/-! ### Every core halts (R345, R360) -/

theorem core_modCore_other {c k : Nat} (s : State) (g : CoreS → CoreS) (h : k ≠ c) : (s.modCore c g).core k = s.core k :=
  mget_mput_other _ _ _ _ _ h

theorem die_modDie_other {c k : Nat} (s : State) (g : DieS → DieS) (h : k ≠ c) : (s.modDie c g).die k = s.die k :=
  mget_mput_other _ _ _ _ _ h

section halts
variable (s : State) (c k cause code addr : Nat)

theorem core_dropClaims_other (h : k ≠ c) : (s.dropClaims c).core k = s.core k := by
  unfold State.dropClaims
  dsimp only
  rw [core_modCore_other _ _ h, foldl_keeps (g := fun t => t.core k) (fun t e => ?_)]
  repeat' split
  all_goals rfl

theorem core_stopCore_other (h : k ≠ c) : (s.stopCore c cause code addr).core k = s.core k := by
  unfold State.stopCore
  simp only [core_wr]
  rw [core_modCore_other _ _ h, State.clearQueues, foldl_keeps (g := fun t => t.core k) (fun t e => core_modEng t c e _ k),
    core_dropClaims_other s c k h]

theorem coreStopped_stopCore : (s.stopCore c cause code addr).coreStopped k = s.coreStopped k := by
  by_cases h : k = c
  · subst h
    rw [State.coreStopped, core_stopCore]
    rfl
  · rw [State.coreStopped, core_stopCore_other s c k cause code addr h, State.coreStopped]

theorem coreStopped_haltCore : (s.haltCore c cause code addr).coreStopped k = s.coreStopped k := by
  rcases haltCore_cases s c cause code addr with h | h | ⟨m, h⟩
  · rw [h]
  · rw [h, coreStopped_stopCore]
  · rw [h]
    exact coreStopped_stopCore s c k cause code addr

theorem regs_clearQueues : (s.clearQueues c).regs = s.regs := by
  refine foldl_keeps (g := fun t => t.regs) ?_ _ _
  exact fun _ _ => rfl

/-- The registers that show a halt. -/
def haltFields : List Fld := [CORE.STAT_STATE, CORE.STAT_CAUSE, CORE.HALT_INFO_CODE, CORE.HALT_INFO_ADDR]

theorem fieldsKept_stopCore : FieldsKept haltFields s (s.stopCore c cause code addr) := by
  have hclaims := (FieldsKept.refl haltFields s).frame (State.dropClaims_frame s c) (by decide)
  have hqueues := hclaims.of_regs (regs_clearQueues (s.dropClaims c) c)
  exact ((((hqueues.of_regs rfl).wr _ _ (.of_check (by decide)) (by decide)).wr _ _ (.of_check (by decide)) (by decide)).wr
    _ _ (.of_check (by decide)) (by decide)).wr _ _ (.of_check (by decide)) (by decide)

theorem fieldsKept_haltCore : FieldsKept haltFields s (s.haltCore c cause code addr) := by
  rcases haltCore_cases s c cause code addr with h | h | ⟨m, h⟩
  · rw [h]
    exact .refl _ s
  · rw [h]
    exact fieldsKept_stopCore s c cause code addr
  · rw [h]
    exact (fieldsKept_stopCore s c cause code addr).of_regs rfl

theorem fieldsKept_haltAll : FieldsKept haltFields s s.haltAll :=
  .foldl (fun t c => .ite (.refl _ t) (fieldsKept_haltCore t c _ _ _)) _ s

/-- A halt leaves STATE of any core, or makes it HALTING. -/
theorem coreState_haltCore : coreState (s.haltCore c cause code addr) k = coreState s k ∨ coreState (s.haltCore c cause code addr) k = 2 := by
  have hstop : coreState (s.stopCore c cause code addr) k = coreState s k ∨ coreState (s.stopCore c cause code addr) k = 2 := by
    have hclear : ((s.dropClaims c).clearQueues c).rd (corePg k) CORE.STAT_STATE = s.rd (corePg k) CORE.STAT_STATE := by
      rw [State.rd, regs_clearQueues, ← State.rd, (State.dropClaims_frame s c).rd_eq (by decide)]
    have hne {f : Fld} (hf : FldFits f) (h : fldStart CORE.STAT_STATE ≠ fldStart f) : fkey (corePg k) CORE.STAT_STATE ≠ fkey (corePg c) f :=
      fkey_ne_of_fits hf (.of_check (by decide)) h
    rw [coreState, State.stopCore, rd_wr_other _ _ _ _ _ _ (hne (.of_check (by decide)) (by decide)),
      rd_wr_other _ _ _ _ _ _ (hne (.of_check (by decide)) (by decide)), rd_wr_other _ _ _ _ _ _ (hne (.of_check (by decide)) (by decide)), rd_wr]
    split
    · exact .inr rfl
    · exact .inl hclear
  rcases haltCore_cases s c cause code addr with h | h | ⟨m, h⟩
  · exact .inl (by rw [h])
  · rw [h]
    exact hstop
  · rw [h]
    exact hstop

/-- A core that halts does not run. -/
theorem coreState_haltCore_same : coreState (s.haltCore c cause code addr) c ≠ 1 := by
  by_cases hlive : coreState s c < 2
  · have hstop : coreState (s.stopCore c cause code addr) c = 2 := by
      rw [coreState, State.stopCore, rd_wr_of_start _ _ (by decide), rd_wr_of_start _ _ (by decide), rd_wr_of_start _ _ (by decide), rd_wr_same]
      rfl
    have hhalt : coreState (s.haltCore c cause code addr) c = coreState (s.stopCore c cause code addr) c := by
      rw [haltCore_of_live cause code addr hlive]
      split <;> rfl
    omega
  · rcases coreState_haltCore s c c cause code addr with h | h <;> omega

end halts

/-- A core that is in no reset and not retired does not run once every core has been told to halt. -/
theorem coreState_haltAll {c : Nat} (hc : c ∈ allCores) (hstop : s.coreStopped c = false) : coreState s.haltAll c ≠ 1 := by
  have hhalted : s.haltAll.coreStopped c = false → coreState s.haltAll c ≠ 1 := by
    refine foldl_establishes (P := fun t => t.coreStopped c = false → coreState t c ≠ 1) (fun t k ht hs => ?_) hc (fun t hs => ?_) s
    · split at hs
      next h => rw [if_pos h]; exact ht hs
      next h =>
        rw [if_neg h]
        have hold := ht (by rwa [coreStopped_haltCore] at hs)
        rcases coreState_haltCore t k c 3 0 (t.rd (corePg k) CORE.STREAM_PC) with hsame | hhalting
        · rwa [hsame]
        · omega
    · split at hs
      next h => exact absurd (h.symm.trans hs) (by decide)
      next h =>
        rw [if_neg h]
        exact coreState_haltCore_same t c 3 0 _
  have hkept : s.haltAll.coreStopped c = s.coreStopped c := by
    refine foldl_keeps (g := fun t => t.coreStopped c) (fun t k => ?_) allCores s
    split
    · rfl
    · exact coreStopped_haltCore ..
  exact hhalted (hkept.trans hstop)

/-! ### A record enters the log (R357, R358) -/

/-- What the log's own writes may change of the registers beside its page's counters. -/
def noteFields : List Fld := CXL.WR_BYTES :: irqFields

/-- The counter of a class. -/
def classCnt (cls : Nat) : Fld := if cls = 0 then FLT.C_CNT else if cls = 1 then FLT.U_CNT else FLT.F_CNT

theorem classCnt_cases (cls : Nat) : classCnt cls = FLT.C_CNT ∨ classCnt cls = FLT.U_CNT ∨ classCnt cls = FLT.F_CNT := by
  unfold classCnt
  split
  · exact .inl rfl
  split
  · exact .inr (.inl rfl)
  · exact .inr (.inr rfl)

theorem rd_logged (s : State) (cls : Nat) (q : Nat) (f : Fld) :
    (s.logged cls).rd q f = ((s.inc fltPg (classCnt cls)).irq fltPg cls).rd q f := by
  have heq : s.logged cls = if cls ≠ 0 ∧ (((s.inc fltPg (classCnt cls)).irq fltPg cls).rd fltPg HDR.IRQ_EN).testBit cls
      then ((s.inc fltPg (classCnt cls)).irq fltPg cls).sendMsix 0 0 else (s.inc fltPg (classCnt cls)).irq fltPg cls := rfl
  rw [heq]
  split
  · exact rd_sendMsix ..
  · rfl

theorem fieldsKept_logged (s : State) (cls : Nat) : FieldsKept (classCnt cls :: irqFields) s (s.logged cls) := by
  intro q g hg hl
  have hfit : FldFits (classCnt cls) := by rcases classCnt_cases cls with h | h | h <;> rw [h] <;> exact .of_check (by decide)
  rw [rd_logged]
  refine (fieldsKept_irq _ fltPg cls q g hg fun f hf => hl f (List.mem_cons_of_mem _ hf)).trans ?_
  exact rd_wr_other _ _ _ _ _ _ (fkey_ne_of_fits hfit hg (hl _ (List.mem_cons_self ..)))

theorem classCnt_logged (s : State) (cls : Nat) :
    (s.logged cls).rd fltPg (classCnt cls) = (s.rd fltPg (classCnt cls) + 1) % 2 ^ 64 := by
  have hfit : FldFits (classCnt cls) ∧ (∀ f ∈ irqFields, fldStart (classCnt cls) ≠ fldStart f) ∧ (classCnt cls).width = 64 := by
    rcases classCnt_cases cls with h | h | h <;> rw [h] <;> exact ⟨.of_check (by decide), by decide, rfl⟩
  obtain ⟨hfits, hstart, hwidth⟩ := hfit
  rw [rd_logged, fieldsKept_irq _ _ _ _ _ hfits hstart, State.inc, rd_wr_same, hwidth]

theorem fieldsKept_putLog (s : State) (i : Nat) (r : FaultRec) : FieldsKept [CXL.WR_BYTES] s (s.putLog i r) :=
  ((FieldsKept.refl _ s).of_regs rfl).trans (fieldsKept_devWrite _ _ _)

theorem flt_putLog (s : State) (i : Nat) (r : FaultRec) : (s.putLog i r).flt = { s.flt with log := mput s.flt.log i r } := by
  rw [State.putLog, (State.devWrite_frame _ _ _ _).keeps .flt (by decide)]

theorem dev_putLog (s : State) (i : Nat) (r : FaultRec) :
    (s.putLog i r).dev = (s.devWrite (s.rdA fltPg FLT.LOG_BASE_BASE + 32 * i) r.bytes).dev := by
  rw [State.putLog, dev_devWrite, dev_devWrite]

/-- With room in the log a record enters it at LOG_TAIL. -/
theorem enterLog_of_room {r : FaultRec} (h : (s.rd fltPg FLT.LOG_TAIL_TAIL + 1) % 4096 ≠ s.rd fltPg FLT.LOG_HEAD_HEAD) :
    s.enterLog r = ((s.putLog (s.rd fltPg FLT.LOG_TAIL_TAIL) r).wr fltPg FLT.LOG_TAIL_TAIL ((s.rd fltPg FLT.LOG_TAIL_TAIL + 1) % 4096)).logged
      r.cls := if_pos h

/-- With the log full a C record is counted as dropped. -/
theorem enterLog_of_full {r : FaultRec} (h : (s.rd fltPg FLT.LOG_TAIL_TAIL + 1) % 4096 = s.rd fltPg FLT.LOG_HEAD_HEAD) (hcls : r.cls = 0) :
    s.enterLog r = s.countDrop := by
  rw [State.enterLog]
  exact (if_neg (not_not_intro h)).trans (if_pos hcls)

section entered
variable {r : FaultRec} (h : (s.rd fltPg FLT.LOG_TAIL_TAIL + 1) % 4096 ≠ s.rd fltPg FLT.LOG_HEAD_HEAD)
include h

theorem flt_enterLog : (s.enterLog r).flt = { s.flt with log := mput s.flt.log (s.rd fltPg FLT.LOG_TAIL_TAIL) r } := by
  rw [enterLog_of_room h, (State.logged_frame _ _).keeps .flt (by decide), (State.wr_frame _ _ _ _).keeps .flt (by decide), flt_putLog]

theorem dev_enterLog : (s.enterLog r).dev = (s.devWrite (s.rdA fltPg FLT.LOG_BASE_BASE + 32 * s.rd fltPg FLT.LOG_TAIL_TAIL) r.bytes).dev := by
  rw [enterLog_of_room h, (State.logged_frame _ _).keeps .dev (by decide), (State.wr_frame _ _ _ _).keeps .dev (by decide), dev_putLog]

theorem logTail_enterLog : (s.enterLog r).rd fltPg FLT.LOG_TAIL_TAIL = (s.rd fltPg FLT.LOG_TAIL_TAIL + 1) % 4096 := by
  have hstart : ∀ f ∈ classCnt r.cls :: irqFields, fldStart FLT.LOG_TAIL_TAIL ≠ fldStart f := by
    rcases classCnt_cases r.cls with hcnt | hcnt | hcnt <;> rw [hcnt] <;> decide
  rw [enterLog_of_room h, fieldsKept_logged _ _ _ _ (.of_check (by decide)) hstart, rd_wr_same]
  exact Nat.mod_eq_of_lt (Nat.mod_lt _ (by decide))

theorem classCnt_enterLog : (s.enterLog r).rd fltPg (classCnt r.cls) = (s.rd fltPg (classCnt r.cls) + 1) % 2 ^ 64 := by
  have hfit : FldFits (classCnt r.cls) ∧ fldStart (classCnt r.cls) ≠ fldStart FLT.LOG_TAIL_TAIL
      ∧ ∀ f ∈ [CXL.WR_BYTES], fldStart (classCnt r.cls) ≠ fldStart f := by
    rcases classCnt_cases r.cls with hcnt | hcnt | hcnt <;> rw [hcnt] <;> exact ⟨.of_check (by decide), by decide, by decide⟩
  obtain ⟨hfits, htail, hnote⟩ := hfit
  rw [enterLog_of_room h, classCnt_logged, rd_wr_of_start _ _ htail, fieldsKept_putLog _ _ _ _ _ hfits hnote]

end entered

/-- Whatever entering the log may write of the registers. -/
def logFields : List Fld := FLT.LOG_TAIL_TAIL :: FLT.C_CNT :: FLT.U_CNT :: FLT.F_CNT :: CXL.WR_BYTES :: irqFields

theorem fieldsKept_enterLog {r : FaultRec} (h : (s.rd fltPg FLT.LOG_TAIL_TAIL + 1) % 4096 ≠ s.rd fltPg FLT.LOG_HEAD_HEAD) :
    FieldsKept logFields s (s.enterLog r) := by
  rw [enterLog_of_room h]
  have hput : FieldsKept logFields s (s.putLog (s.rd fltPg FLT.LOG_TAIL_TAIL) r) :=
    FieldsKept.mono (fieldsKept_putLog s _ r) fun f hf => by rw [List.mem_singleton.1 hf]; decide
  refine (hput.wr _ _ (.of_check (by decide)) (by decide)).trans (FieldsKept.mono (fieldsKept_logged _ _) fun f hf => ?_)
  rcases List.mem_cons.1 hf with rfl | hf
  · rcases classCnt_cases r.cls with hcnt | hcnt | hcnt <;> rw [hcnt] <;> decide
  · exact List.mem_append_right [FLT.LOG_TAIL_TAIL, FLT.C_CNT, FLT.U_CNT, FLT.F_CNT, CXL.WR_BYTES] hf

end Sys2Proof.Machine
end

section
/-! PROOFS. The package's log: records numbered, stored, signalled and contained, LOG_HEAD, LOG_SEL and the recovery. Settles O43. -/

namespace Sys2Proof.Machine

variable {s : State} {r : FaultRec} {l : List FaultRec}

/-! ### The next record (R357, R358, R360) -/

/-- The record as the package collector numbers it. -/
def FaultRec.numbered (r : FaultRec) (s : State) : FaultRec :=
  { r with seqno := s.flt.seqno, polled := r.polled || (s.die 16).polledSrc.contains (fltdPg r.die) }

/-- The record at the front of the wire is taken, `l` being the rest. -/
def State.takeWire (s : State) (l : List FaultRec) : State :=
  { s with flt := { s.flt with wire := l, seqno := (s.flt.seqno + 1) % 2 ^ 32 } }

/-- A record enters the log, and its die reports what it has dropped. -/
def State.noteRec (s : State) (r : FaultRec) : State := (s.enterLog r).reportDrops r.die

/-- A U or F record goes into event NVM, and a U record is counted as open. -/
def State.keepRec (s : State) (r : FaultRec) : State :=
  let s := if r.cls = 0 then s else s.nvmFault r
  if r.cls = 1 then s.wr fltPg FLT.STAT_U_OPEN (min (s.rd fltPg FLT.STAT_U_OPEN + 1) 0xFFFF) else s

/-- What a record of its class does beyond the log. -/
def State.actOn (s : State) (r : FaultRec) : State :=
  if r.cls = 2 then s.fatal r.code else if s.frozen then s else s.targetFails r

theorem faultLogEffect_eq (h : s.flt.wire = r :: l) :
    faultLogEffect s = (((s.takeWire l).noteRec (r.numbered s)).keepRec (r.numbered s)).actOn (r.numbered s) := by
  simp only [faultLogEffect, h]
  rfl

theorem actOn_of_c (h : r.cls = 0) : s.actOn r = s := by
  have hfails : s.targetFails r = s := if_pos (.inl (by omega))
  rw [State.actOn, if_neg (by omega), hfails]
  exact ite_self s

theorem actOn_of_u (h : r.cls = 1) (hmigs : s.flt.migs = []) : s.actOn r = s := by
  have hfails : s.targetFails r = s := by
    rw [State.targetFails, hmigs]
    exact ite_self s
  rw [State.actOn, if_neg (by omega), hfails]
  exact ite_self s

theorem keepRec_of_c (h : r.cls = 0) : s.keepRec r = s := by simp [State.keepRec, h]

/-- A C record changes the log alone. -/
theorem faultLogEffect_of_c (h : s.flt.wire = r :: l) (hcls : r.cls = 0) :
    faultLogEffect s = (s.takeWire l).noteRec (r.numbered s) := by
  have hcls' : (r.numbered s).cls = 0 := hcls
  rw [faultLogEffect_eq h, keepRec_of_c hcls', actOn_of_c hcls']

theorem rd_takeWire (p : Nat) (f : Fld) : (s.takeWire l).rd p f = s.rd p f := rfl

theorem rd_noteRec (p : Nat) (f : Fld) : (s.noteRec r).rd p f = (s.enterLog r).rd p f := (State.reportDrops_frame _ _).rd_eq (by decide) _ _

theorem noteRec_frame : Frame [.regs, .dies, .dev, .flt, .out] s (s.noteRec r) :=
  (State.reportDrops_frame _ _).after (by decide) ((State.enterLog_frame s r).after (by decide) (.refl _ s))

theorem flt_noteRec : (s.noteRec r).flt = (s.enterLog r).flt := (State.reportDrops_frame _ _).keeps .flt (by decide)

theorem dev_noteRec : (s.noteRec r).dev = (s.enterLog r).dev := (State.reportDrops_frame _ _).keeps .dev (by decide)

/-- A record with room in the log: its fields, the state's, and the registers. -/
theorem c_logged (h : s.flt.wire = r :: l) (hcls : r.cls = 0) (hroom : (s.rd fltPg FLT.LOG_TAIL_TAIL + 1) % 4096 ≠ s.rd fltPg FLT.LOG_HEAD_HEAD) :
    (faultLogEffect s).flt = { (s.takeWire l).flt with log := mput s.flt.log (s.rd fltPg FLT.LOG_TAIL_TAIL) (r.numbered s) }
      ∧ (faultLogEffect s).dev
          = (s.devWrite (s.rdA fltPg FLT.LOG_BASE_BASE + 32 * s.rd fltPg FLT.LOG_TAIL_TAIL) (r.numbered s).bytes).dev
      ∧ (faultLogEffect s).rd fltPg FLT.LOG_TAIL_TAIL = (s.rd fltPg FLT.LOG_TAIL_TAIL + 1) % 4096
      ∧ (faultLogEffect s).rd fltPg FLT.C_CNT = (s.rd fltPg FLT.C_CNT + 1) % 2 ^ 64 ∧ (faultLogEffect s).nvm = s.nvm := by
  have hcnt : classCnt (r.numbered s).cls = FLT.C_CNT := if_pos hcls
  have hroom' : ((s.takeWire l).rd fltPg FLT.LOG_TAIL_TAIL + 1) % 4096 ≠ (s.takeWire l).rd fltPg FLT.LOG_HEAD_HEAD := hroom
  rw [faultLogEffect_of_c h hcls]
  refine ⟨flt_noteRec.trans (flt_enterLog hroom'), dev_noteRec.trans ((dev_enterLog hroom').trans ?_),
    (rd_noteRec _ _).trans (logTail_enterLog hroom'), ?_, noteRec_frame.keeps .nvm (by decide)⟩
  · rw [dev_devWrite, dev_devWrite]
    rfl
  · have hentered := classCnt_enterLog (r := r.numbered s) hroom'
    rw [hcnt] at hentered
    exact (rd_noteRec _ _).trans hentered

theorem rd_dropCnt_countDrop : s.countDrop.rd fltPg FLT.DROP_CNT = (s.rd fltPg FLT.DROP_CNT + 1) % 2 ^ 64 := by
  rw [State.countDrop, fieldsKept_irq _ _ _ _ _ (.of_check (by decide)) (by decide)]
  exact rd_wr_same _ _ _ _

theorem flt_countDrop : s.countDrop.flt = { s.flt with dropped := s.flt.dropped + 1 } := irq_flt _ _ _

theorem c_dropped (h : s.flt.wire = r :: l) (hcls : r.cls = 0) (hfull : (s.rd fltPg FLT.LOG_TAIL_TAIL + 1) % 4096 = s.rd fltPg FLT.LOG_HEAD_HEAD) :
    (faultLogEffect s).flt = { (s.takeWire l).flt with dropped := s.flt.dropped + 1 }
      ∧ (faultLogEffect s).rd fltPg FLT.DROP_CNT = (s.rd fltPg FLT.DROP_CNT + 1) % 2 ^ 64 ∧ (faultLogEffect s).dev = s.dev := by
  have heq : (s.takeWire l).enterLog (r.numbered s) = (s.takeWire l).countDrop := enterLog_of_full hfull hcls
  rw [faultLogEffect_of_c h hcls]
  refine ⟨?_, ?_, ?_⟩
  · rw [flt_noteRec, heq, flt_countDrop]
    rfl
  · rw [rd_noteRec, heq, rd_dropCnt_countDrop, rd_takeWire]
  · rw [dev_noteRec, heq]
    exact (State.countDrop_frame _).keeps .dev (by decide)

/-- A U record is kept in event NVM and counted as open. -/
theorem u_logged (h : s.flt.wire = r :: l) (hcls : r.cls = 1) (hroom : (s.rd fltPg FLT.LOG_TAIL_TAIL + 1) % 4096 ≠ s.rd fltPg FLT.LOG_HEAD_HEAD)
    (hmigs : s.flt.migs = []) :
    (faultLogEffect s).flt.wire = l ∧ (faultLogEffect s).rd fltPg FLT.STAT_U_OPEN = min (s.rd fltPg FLT.STAT_U_OPEN + 1) 0xFFFF
      ∧ (faultLogEffect s).nvm.faultN = s.nvm.faultN + 1 ∧ (faultLogEffect s).rd fltPg FLT.U_CNT = (s.rd fltPg FLT.U_CNT + 1) % 2 ^ 64 := by
  have hroom' : ((s.takeWire l).rd fltPg FLT.LOG_TAIL_TAIL + 1) % 4096 ≠ (s.takeWire l).rd fltPg FLT.LOG_HEAD_HEAD := hroom
  have hcls' : (r.numbered s).cls = 1 := hcls
  have hcnt : classCnt (r.numbered s).cls = FLT.U_CNT := by rw [hcls']; rfl
  have hflt := flt_noteRec.trans (flt_enterLog (r := r.numbered s) hroom')
  have hnvm : ((s.takeWire l).noteRec (r.numbered s)).nvm = s.nvm := noteRec_frame.keeps .nvm (by decide)
  have hopen : ((s.takeWire l).noteRec (r.numbered s)).rd fltPg FLT.STAT_U_OPEN = s.rd fltPg FLT.STAT_U_OPEN :=
    (rd_noteRec _ _).trans (fieldsKept_enterLog hroom' _ _ (.of_check (by decide)) (by decide))
  have hentered : ((s.takeWire l).noteRec (r.numbered s)).rd fltPg FLT.U_CNT = (s.rd fltPg FLT.U_CNT + 1) % 2 ^ 64 := by
    have hcount := classCnt_enterLog (r := r.numbered s) hroom'
    rw [hcnt] at hcount
    exact (rd_noteRec _ _).trans hcount
  rw [faultLogEffect_eq h]
  generalize (s.takeWire l).noteRec (r.numbered s) = t at hflt hnvm hopen hentered
  have hkeep : t.keepRec (r.numbered s) = (t.nvmFault (r.numbered s)).wr fltPg FLT.STAT_U_OPEN (min (t.rd fltPg FLT.STAT_U_OPEN + 1) 0xFFFF) := by
    simp only [State.keepRec, hcls', if_true, Nat.one_ne_zero, if_false]
    rfl
  have hkept : (t.keepRec (r.numbered s)).flt = t.flt := by rw [hkeep]; rfl
  rw [actOn_of_u hcls' (by rw [hkept, hflt]; exact hmigs)]
  refine ⟨by rw [hkept, hflt]; rfl, ?_, ?_, ?_⟩
  · rw [hkeep, rd_wr_same, hopen]
    exact Nat.mod_eq_of_lt (Nat.lt_succ_of_le (Nat.min_le_right _ _))
  · rw [hkeep]
    exact congrArg (fun n => n.faultN + 1) hnvm
  · rw [hkeep, rd_wr_of_start _ _ (by decide)]
    exact hentered

/-! ### An F record (R360) -/

theorem bootFails_regs (code : Nat) : FieldsKept [DIE.BOOT_STAT_FAILED, DIE.BOOT_STAT_FAIL_CODE] s (s.bootFails code) := by
  unfold State.bootFails
  dsimp only
  refine .ite (.refl _ s) ?_
  exact ((FieldsKept.refl _ s).wr _ _ (.of_check (by decide)) (by decide)).wr _ _ (.of_check (by decide)) (by decide) |>.of_regs rfl

/-- The state in which the cores are halted for an F record. -/
def State.raiseF (s : State) (code : Nat) : State :=
  ({ s with flt := { s.flt with lastF := s.now, fCode := if s.flt.fCode = 0xC013 then 0xC013 else code } }).wr fltPg FLT.STAT_F_ACTIVE 1

theorem fatal_eq (code : Nat) : s.fatal code = ((((s.raiseF code).haltAll.bootFails code).send .errFatal).send .errFatal).send .ibi := rfl

theorem fatal_done (code : Nat) : (s.fatal code).frozen = true ∧ (s.fatal code).flt.lastF = s.now ∧ (s.fatal code).nvm = s.nvm
    ∧ (∀ c ∈ allCores, s.coreStopped c = false → (s.fatal code).rd (corePg c) CORE.STAT_STATE ≠ 1)
    ∧ OutMsg.errFatal ∈ (s.fatal code).out ∧ OutMsg.ibi ∈ (s.fatal code).out := by
  have hnvm : (s.fatal code).nvm = s.nvm := (State.fatal_frame s code).keeps .nvm (by decide)
  have hhalt := State.haltAll_frame (s.raiseF code)
  have hactive : (s.raiseF code).haltAll.rd fltPg FLT.STAT_F_ACTIVE = 1 :=
    (fieldsKept_haltAll _ _ _ (.of_check (by decide)) (by decide)).trans (rd_wr_same ..)
  have hflt : (s.raiseF code).haltAll.flt = (s.raiseF code).flt := hhalt.keeps .flt (by decide)
  have hstate {c : Nat} (hc : c ∈ allCores) (hstop : s.coreStopped c = false) : (s.raiseF code).haltAll.rd (corePg c) CORE.STAT_STATE ≠ 1 :=
    coreState_haltAll hc hstop
  rw [fatal_eq] at hnvm ⊢
  generalize (s.raiseF code).haltAll = t at hnvm hactive hflt hstate
  have hboot := bootFails_regs (s := t) code
  refine ⟨?_, ?_, hnvm, fun c hc hstop => ?_, ?_, ?_⟩
  · have hrd : (t.bootFails code).rd fltPg FLT.STAT_F_ACTIVE = 1 := (hboot _ _ (.of_check (by decide)) (by decide)).trans hactive
    rw [State.frozen, Bool.or_eq_true, State.rdB, bne_iff_ne]
    refine .inr fun hzero => ?_
    exact absurd (hrd.symm.trans hzero) (by decide)
  · have hbootFlt : (t.bootFails code).flt = t.flt := (State.bootFails_frame t code).keeps .flt (by decide)
    exact congrArg FaultS.lastF (hbootFlt.trans hflt)
  · rw [rd_send, rd_send, rd_send, hboot _ _ (.of_check (by decide)) (by decide)]
    exact hstate hc hstop
  · exact List.mem_append_left _ (List.mem_append_right _ (List.mem_singleton_self _))
  · exact List.mem_append_right _ (List.mem_singleton_self _)

end Sys2Proof.Machine
end

section
/-! PROOFS. F records, containment, LOG_HEAD, LOG_SEL and the recovery in compatibility mode. Settles O43. -/

namespace Sys2Proof.Machine

variable {s : State} {r : FaultRec} {l : List FaultRec} {v : Nat}

/-- An F record stops every core and is signalled, once it is kept. -/
theorem f_logged (h : s.flt.wire = r :: l) (hcls : r.cls = 2) :
    (faultLogEffect s).frozen = true ∧ (faultLogEffect s).flt.lastF = s.now ∧ (faultLogEffect s).nvm.faultN = s.nvm.faultN + 1
      ∧ (∀ c ∈ allCores, s.coreStopped c = false → (faultLogEffect s).rd (corePg c) CORE.STAT_STATE ≠ 1)
      ∧ OutMsg.errFatal ∈ (faultLogEffect s).out ∧ OutMsg.ibi ∈ (faultLogEffect s).out := by
  have hcls' : (r.numbered s).cls = 2 := hcls
  have hnote := noteRec_frame (s := s.takeWire l) (r := r.numbered s)
  have hnow : ((s.takeWire l).noteRec (r.numbered s)).now = s.now := hnote.keeps .now (by decide)
  have hnvm : ((s.takeWire l).noteRec (r.numbered s)).nvm = s.nvm := hnote.keeps .nvm (by decide)
  have hcores : ((s.takeWire l).noteRec (r.numbered s)).cores = s.cores := hnote.keeps .cores (by decide)
  rw [faultLogEffect_eq h]
  generalize (s.takeWire l).noteRec (r.numbered s) = t at hnow hnvm hcores
  have hkeep : t.keepRec (r.numbered s) = t.nvmFault (r.numbered s) := by simp [State.keepRec, hcls']
  have hact : (t.nvmFault (r.numbered s)).actOn (r.numbered s) = (t.nvmFault (r.numbered s)).fatal (r.numbered s).code := if_pos hcls'
  rw [hkeep, hact]
  obtain ⟨hfrozen, hlast, hkept, hstate, hfatal, hibi⟩ := fatal_done (s := t.nvmFault (r.numbered s)) (r.numbered s).code
  refine ⟨hfrozen, hlast.trans hnow, ?_, fun c hc hstop => hstate c hc ?_, hfatal, hibi⟩
  · rw [hkept]
    exact congrArg (fun n => n.faultN + 1) hnvm
  · have hcore : (t.nvmFault (r.numbered s)).core c = s.core c := by
      show mget t.cores _ _ = mget s.cores _ _
      rw [hcores]
    rw [State.coreStopped, hcore]
    exact hstop

/-! ### Containment and LOG_HEAD (R358) -/

theorem containment_done {i : Nat} (hlog : s.flt.log = [(i, r)]) (hcls : r.cls = 1) (hopen : r.contained = false) :
    (containmentEffect s r.seqno).flt.log = [(i, { r with contained := true })]
      ∧ (containmentEffect s r.seqno).rd fltPg FLT.STAT_U_OPEN = (s.rd fltPg FLT.STAT_U_OPEN - 1) % 2 ^ 16 := by
  have hfind : s.flt.log.find? (fun e => openRec r.seqno e.2) = some (i, r) := by
    rw [hlog]
    simp [openRec, hcls, hopen]
  have heq : containmentEffect s r.seqno = ((s.putLog i { r with contained := true }).wr fltPg FLT.STAT_U_OPEN
      ((s.putLog i { r with contained := true }).rd fltPg FLT.STAT_U_OPEN - 1)).irq fltPg 3 := by
    simp only [containmentEffect, hfind]
  have hput : (s.putLog i { r with contained := true }).rd fltPg FLT.STAT_U_OPEN = s.rd fltPg FLT.STAT_U_OPEN :=
    fieldsKept_putLog _ _ _ _ _ (.of_check (by decide)) (by decide)
  rw [heq]
  constructor
  · rw [irq_flt, (State.wr_frame _ _ _ _).keeps .flt (by decide), flt_putLog, hlog]
    simp [mput]
  · rw [fieldsKept_irq _ _ _ _ _ (.of_check (by decide)) (by decide), rd_wr_same, hput]
    rfl

theorem reportLogFull_of_none (h : s.flt.dropped = 0) : s.reportLogFull = s := if_pos h

/-- How far a write of `v` would move LOG_HEAD. -/
def State.headStep (s : State) (v : Nat) : Nat := (v % 4096 + 4096 - s.rd fltPg FLT.LOG_HEAD_HEAD) % 4096

/-- The first record that a write of `v` would pass uncontained. -/
def State.openBefore (s : State) (v : Nat) : Option Nat :=
  (s.logIdx.take (s.headStep v)).find? (fun i => (mfind s.flt.log i).any (fun x => x.cls == 1 && !x.contained))

section head
variable (hdrop : s.flt.dropped = 0) (hlen : s.headStep v ≤ s.logIdx.length)
include hdrop hlen

theorem logHeadEffect_of_none (hopen : s.openBefore v = none) :
    logHeadEffect s v = if s.headStep v = 0 then s else s.wr fltPg FLT.LOG_HEAD_HEAD (v % 4096) := by
  have hfull : (s.wr fltPg FLT.LOG_HEAD_HEAD (v % 4096)).reportLogFull = s.wr fltPg FLT.LOG_HEAD_HEAD (v % 4096) := reportLogFull_of_none hdrop
  rw [← hfull, logHeadEffect]
  refine (if_neg (Nat.not_lt.2 hlen)).trans ?_
  rw [State.openBefore, State.headStep] at hopen
  simp only [logSize, hopen]
  rfl

theorem logHeadEffect_of_open {i : Nat} (hopen : s.openBefore v = some i) :
    logHeadEffect s v = (s.wr fltPg FLT.LOG_HEAD_HEAD i).refuse fltPg := by
  have hfull : ((s.wr fltPg FLT.LOG_HEAD_HEAD i).refuse fltPg).reportLogFull = (s.wr fltPg FLT.LOG_HEAD_HEAD i).refuse fltPg :=
    reportLogFull_of_none hdrop
  rw [logHeadEffect]
  refine (if_neg (Nat.not_lt.2 hlen)).trans ?_
  rw [State.openBefore, State.headStep] at hopen
  simp only [logSize, hopen, hfull]
  exact ite_self _

theorem head_moved (hhead : s.rd fltPg FLT.LOG_HEAD_HEAD < 4096) (hopen : s.openBefore v = none) :
    (logHeadEffect s v).rd fltPg FLT.LOG_HEAD_HEAD = v % 4096 ∧ (logHeadEffect s v).flt = s.flt ∧ (logHeadEffect s v).dev = s.dev := by
  rw [logHeadEffect_of_none hdrop hlen hopen]
  split
  next hzero =>
    rw [State.headStep] at hzero
    exact ⟨by omega, rfl, rfl⟩
  next =>
    refine ⟨?_, rfl, rfl⟩
    rw [rd_wr_same]
    exact Nat.mod_eq_of_lt (Nat.mod_lt _ (by decide))

theorem head_stopped {i : Nat} (hopen : s.openBefore v = some i) :
    (logHeadEffect s v).rd fltPg FLT.LOG_HEAD_HEAD = i % 4096 ∧ (logHeadEffect s v).flt = s.flt ∧ (logHeadEffect s v).dev = s.dev := by
  rw [logHeadEffect_of_open hdrop hlen hopen]
  refine ⟨?_, rfl, rfl⟩
  rw [State.refuse, rd_wr_of_start _ _ (by decide), rd_wr_same]
  rfl

end head

theorem openBefore_none (h : ((s.logIdx.take (s.headStep v)).all (fun i => (mfind s.flt.log i).all (fun x => x.cls != 1 || x.contained))) = true) :
    s.openBefore v = none := by
  rw [State.openBefore, List.find?_eq_none]
  intro i hi
  have hall := List.all_eq_true.1 h i hi
  cases hfind : mfind s.flt.log i with
  | none => simp
  | some x =>
    simp only [hfind, Option.all_some, Bool.or_eq_true, bne_iff_ne] at hall
    simp only [Option.any_some, Bool.and_eq_true, beq_iff_eq, Bool.not_eq_true']
    rintro ⟨hcls, hopen⟩
    rcases hall with hother | hcontained
    · exact hother hcls
    · exact absurd (hcontained.symm.trans hopen) (by decide)

/-! ### LOG_SEL (R358) -/

/-- The 8 registers of LOG_VIEW. -/
def logViewFields : List Fld := (List.range 8).map FLT.LOG_VIEW

theorem logViewFields_apart : logViewFields.Pairwise fun f g => fldStart f ≠ fldStart g := by decide

theorem logViewFields_fit {f : Fld} (hf : f ∈ logViewFields) : FldFits f :=
  fieldsOf_fit (b := .flt) ((by decide : ∀ f ∈ logViewFields, f ∈ fieldsOf .flt) f hf)

/-- What a view register shows of a record's bytes. -/
def logWord (l : List Byte) (f : Fld) : Nat := leAt l (f.off - 0x60) 4

theorem logWord_logView (l : List Byte) (k : Nat) : logWord l (FLT.LOG_VIEW k) = leAt l (4 * k) 4 := by
  rw [logWord, FLT.LOG_VIEW, Nat.add_sub_cancel_left]

theorem logSelEffect_eq (h : mfind s.flt.log (v % 4096) = some r) :
    logSelEffect s v = logViewFields.foldl (fun u f => u.wr fltPg f (logWord r.bytes f)) (s.wr fltPg FLT.LOG_SEL_SEL (v % 4096)) := by
  rw [logViewFields, List.foldl_map]
  simp only [logWord_logView, logSelEffect, logSize, h]

theorem record_shown (h : mfind s.flt.log (v % 4096) = some r) :
    (logSelEffect s v).rd fltPg FLT.LOG_SEL_SEL = v % 4096
      ∧ (∀ k < 8, (logSelEffect s v).rd fltPg (FLT.LOG_VIEW k) = leAt r.bytes (4 * k) 4)
      ∧ PagesKept [fltPg] s (logSelEffect s v) ∧ Keeps [.regs] s (logSelEffect s v) := by
  have hframe := logSelEffect_frame s v
  rw [logSelEffect_eq h] at hframe ⊢
  refine ⟨?_, fun k hk => ?_, ?_, hframe.keeps⟩
  · rw [rd_foldl_wr_other _ _ (by decide), rd_wr_same]
    exact Nat.mod_mod _ _
  · rw [rd_foldl_wr_mem _ _ logViewFields_apart (List.mem_map_of_mem (List.mem_range.2 hk)), logWord_logView]
    exact Nat.mod_eq_of_lt (leAt_lt _ _ 4)
  · exact .foldl_wr _ (fun f hf => logViewFields_fit hf) (.wr_page _ (.of_check (by decide)) (List.mem_singleton_self _) (.refl _ s))

/-! ### Recovery in compatibility mode (R361) -/

/-- The recovery is counted, with its time among the last eight. -/
def State.countRecovery (s : State) : State :=
  let l := s.nvm.recoveries ++ [s.poweredS]
  { s with
    nvm := { s.nvm with recoveryN := s.nvm.recoveryN + 1, recoveries := l.drop (l.length - 8) }
    flt := { s.flt with fCode := 0 }
    power := { s.power with refclkLost := false } }

theorem mem_drop_append_singleton {α : Type} (l : List α) (x : α) {n : Nat} (hn : n < (l ++ [x]).length) : x ∈ (l ++ [x]).drop n := by
  rw [List.length_append, List.length_singleton] at hn
  rw [List.drop_append_of_le_length (by omega)]
  exact List.mem_append_right _ (List.mem_singleton_self x)

theorem recovery_counted (hactive : s.rdB fltPg FLT.STAT_F_ACTIVE = true) (hcompat : s.rdB fltPg FLT.CTRL_COMPAT = true)
    (hlatched : s.rdB fltPg FLT.STAT_LATCHED = false) (hthermal : s.flt.fCode ≠ 0xC013) (hcode : s.flt.fCode ≠ 0)
    (hhalted : s.power.halted = false) :
    (compatEffect s).nvm.recoveryN = s.nvm.recoveryN + 1 ∧ (compatEffect s).flt = { s.flt with fCode := 0 }
      ∧ s.poweredS ∈ (compatEffect s).nvm.recoveries ∧ (compatEffect s).power = { s.power with refclkLost := false }
      ∧ Keeps [.regs, .dies, .flt, .nvm, .power] s (compatEffect s) := by
  have heq : compatEffect s = (s.countRecovery.wr (clkPg 16) CLK.STAT_REFCLK_OK 1).emit fltPg 0xE021 s.countRecovery.nvm.recoveryN := by
    rw [compatEffect, if_neg (by simp [hactive, hcompat, hlatched, hthermal, hcode, hhalted])]
    rfl
  have hframe := compatEffect_frame s
  rw [heq] at hframe ⊢
  refine ⟨rfl, rfl, ?_, rfl, hframe.keeps⟩
  refine mem_drop_append_singleton _ _ ?_
  rw [List.length_append, List.length_singleton]
  omega

/-- Settles O43: a record is numbered and entered in the log first, and what its class does beyond that leaves the log's registers. -/
theorem theLogIsKept : Obligations.TheLogIsKept := by
  unfold Obligations.TheLogIsKept
  intro s r l
  refine ⟨fun hlets hwire => ⟨fun hcls hroom => ?_, fun hcls hfull => ?_, fun hcls hroom hmigs => ?_, fun hcls _ => ?_⟩, ?_, ?_, ?_, ?_⟩
  · obtain ⟨hflt, hdev, htail, hcnt, hnvm⟩ := c_logged hwire hcls hroom
    refine ⟨_, exec_of_effect hlets rfl rfl, by rw [hflt]; rfl, by rw [hflt]; rfl,
      ⟨r.numbered s, by rw [hflt]; exact mfind_mput_same _ _ _, rfl, rfl, rfl, hdev⟩, htail, hcnt, hnvm⟩
  · obtain ⟨hflt, hcnt, hdev⟩ := c_dropped hwire hcls hfull
    exact ⟨_, exec_of_effect hlets rfl rfl, by rw [hflt]; rfl, by rw [hflt]; rfl, by rw [hflt], hcnt, hdev⟩
  · exact ⟨_, exec_of_effect hlets rfl rfl, u_logged hwire hcls hroom hmigs⟩
  · exact ⟨_, exec_of_effect hlets rfl rfl, f_logged hwire hcls⟩
  · exact fun i hlets hlog hcls hopen => ⟨_, exec_of_effect hlets rfl rfl, containment_done hlog hcls hopen⟩
  · exact fun v hlets hdrop hlen hhead => ⟨fun hall => ⟨_, exec_of_effect hlets rfl rfl, head_moved hdrop hlen hhead (openBefore_none hall)⟩,
      fun i hopen => ⟨_, exec_of_effect hlets rfl rfl, head_stopped hdrop hlen hopen⟩⟩
  · exact fun i hlets hfind => ⟨_, exec_of_effect hlets rfl rfl, record_shown hfind⟩
  · exact fun hlets hactive hcompat hlatched hthermal hcode hhalted =>
      ⟨_, exec_of_effect hlets rfl rfl, recovery_counted hactive hcompat hlatched hthermal hcode hhalted⟩

end Sys2Proof.Machine
end

section
/-! PROOFS. In-field tests of cores: tests that fall due, wait and end. -/

namespace Sys2Proof.Machine

variable {s t : State} {c : Nat}

/-! ### A test begins or waits (R370) -/

theorem testRoom_of_none (h : s.flt.testing = []) (c : Nat) : s.testRoom c = true := by simp [State.testRoom, h]

/-- With no core under test a test begins at once. -/
theorem startTest_of_none (h : s.flt.testing = []) :
    (s.startTest c).flt = { s.flt with testing := [c] } ∧ (s.startTest c).core c = { s.core c with deferredAt := none }
      ∧ Keeps [.cores, .flt] s (s.startTest c) := by
  have hroom : (s.modCore c (fun x => { x with deferredAt := none })).testRoom c = true := testRoom_of_none h c
  have hframe := State.startTest_frame s c
  have heq : s.startTest c = { s.modCore c (fun x => { x with deferredAt := none }) with flt := { s.flt with testing := s.flt.testing ++ [c] } } :=
    if_pos hroom
  rw [heq] at hframe ⊢
  refine ⟨by rw [h]; rfl, ?_, hframe.keeps⟩
  exact core_modCore_same s c (fun x => { x with deferredAt := none })

theorem testDueEffect_of_free (hen : s.rdB fltPg FLT.TEST_CTRL_EN = true) (hlive : (s.core c).retired = false) (hnone : s.flt.testing = [])
    (hfree : s.assigned c = false) : testDueEffect s c = s.startTest c := by
  simp [testDueEffect, hen, hlive, hnone, hfree]

/-- A core with work of its own is tested later. -/
theorem testDueEffect_of_assigned (hen : s.rdB fltPg FLT.TEST_CTRL_EN = true) (hlive : (s.core c).retired = false)
    (hnone : s.flt.testing.contains c = false) (hwork : s.assigned c = true) (hfirst : (s.core c).deferredAt = none)
    (hstays : s.migrating c = false) (hmax : s.rd fltPg FLT.TEST_CTRL_DEFER_MAX ≠ 0) :
    testDueEffect s c = s.modCore c (fun y => { y with deferredAt := some s.now }) := by
  unfold testDueEffect
  simp only [hen, hlive, hnone, hwork, hfirst, hstays, hmax, Bool.not_true, Bool.or_false, Option.isSome_none, Bool.false_eq_true, if_false]

theorem test_deferred : (s.modCore c (fun y => { y with deferredAt := some s.now })).core c = { s.core c with deferredAt := some s.now }
    ∧ AgreeOff [c] s.cores (s.modCore c (fun y => { y with deferredAt := some s.now })).cores
    ∧ Keeps [.cores] s (s.modCore c (fun y => { y with deferredAt := some s.now })) :=
  ⟨core_modCore_same _ _ _, fun k hk => mfind_mput_other _ _ _ _ fun h => hk (h ▸ List.mem_singleton_self k), (State.modCore_frame ..).keeps⟩

theorem testDeferEffect_of_free (hwaits : (s.core c).deferredAt.isSome = true) (hfree : s.assigned c = false) :
    testDeferEffect s c = s.startTest c := by
  have hsome : (s.core c).deferredAt.isNone = false := by
    rw [← Option.not_isSome, hwaits]
    rfl
  simp only [testDeferEffect, hsome, hfree, Bool.false_eq_true, if_false]

/-! ### Where a core's logical number and its engines' fit are read from -/

theorem fits_redirValid {l : Nat} (hl : l < 160) : FldFits (FLT.CORE_REDIR_VALID l) := .mk (by decide) (by omega) (by decide)

theorem fits_redirPhys {l : Nat} (hl : l < 160) : FldFits (FLT.CORE_REDIR_PHYS l) := .mk (by decide) (by omega) (by decide)

theorem logicalOf_of_redir (hvalid : ∀ l < 160, t.rd fltPg (FLT.CORE_REDIR_VALID l) = s.rd fltPg (FLT.CORE_REDIR_VALID l))
    (hphys : ∀ l < 160, t.rd fltPg (FLT.CORE_REDIR_PHYS l) = s.rd fltPg (FLT.CORE_REDIR_PHYS l)) (c : Nat) : t.logicalOf c = s.logicalOf c := by
  unfold State.logicalOf
  refine List.find?_congr fun l hl => ?_
  have hl := List.mem_range.1 hl
  rw [State.rdB, State.rdB, hvalid l hl, hphys l hl]

/-- An interrupt leaves `CORE_REDIR`. -/
theorem logicalOf_irq (s : State) (p i c : Nat) : (s.irq p i).logicalOf c = s.logicalOf c := by
  refine logicalOf_of_redir (fun l hl => ?_) (fun l hl => ?_) c
  · refine rd_irq _ _ _ _ _ (irqFree_of_core_page (fits_redirValid hl) (by decide) (fkey_ne_of_fits (.of_check (by decide)) (fits_redirValid hl) ?_))
    simp only [fldStart, FLT.CORE_REDIR_VALID, HDR.IRQ_STAT]
    omega
  · refine rd_irq _ _ _ _ _ (irqFree_of_core_page (fits_redirPhys hl) (by decide) (fkey_ne_of_fits (.of_check (by decide)) (fits_redirPhys hl) ?_))
    simp only [fldStart, FLT.CORE_REDIR_PHYS, HDR.IRQ_STAT]
    omega

theorem engineFits_of_tiles {e : Nat} (hret : ∀ k, t.rd (tilePg c e k) TILE.STAT_RETIRED = s.rd (tilePg c e k) TILE.STAT_RETIRED)
    (hserve : ∀ k, t.rd (tilePg c e k) TILE.STAT_IN_SERVICE = s.rd (tilePg c e k) TILE.STAT_IN_SERVICE) (heng : t.eng c e = s.eng c e) :
    t.engineFits c e = s.engineFits c e := by
  have hserves (k : Nat) : t.tileServes0 c e k = s.tileServes0 c e k := by
    simp only [State.tileServes0, State.rdB, hret, hserve, heng]
  simp only [State.engineFits, State.rdB, hserves, hret]

/-! ### The banks of a core become EMPTY (R53) -/

theorem pagesKept_emptyCore (s : State) (c : Nat) : PagesKept (seqPages c) s (s.emptyCore c) := by
  refine PagesKept.foldl (fun e he u => PagesKept.foldl (fun t ht v => ?_) u) s
  have he := List.mem_range.1 he
  have ht := List.mem_range.1 ht
  exact (pagesKept_emptyBank_seq he ht (by decide) v).trans (pagesKept_emptyBank_seq he ht (by decide) _)

theorem fltPg_notMem_seqPages (c : Nat) : fltPg ∉ seqPages c := by
  simp only [seqPages, corePg, engPg, coreBase, diePg, fltPg, List.mem_cons, List.not_mem_nil, or_false]
  omega

theorem tilePg_notMem_seqPages (c e k : Nat) : tilePg c e k ∉ seqPages c := by
  simp only [seqPages, corePg, engPg, tilePg, List.mem_cons, List.not_mem_nil, or_false]
  omega

/-! ### A test ends (R371) -/

/-- Core `c` is under test no more. -/
def State.leaveTest (s : State) (c : Nat) : State := { s with flt := { s.flt with testing := s.flt.testing.filter (fun k => k != c) } }

/-- A test of core `c` is counted. -/
def State.countTest (s : State) (c : Nat) : State :=
  (s.modCore c (fun x => { x with lastTest := s.poweredS, tests := x.tests + 1 })).inc fltPg FLT.TEST_CNT

/-- Core `c`'s test has ended with no pair failed: its banks are EMPTY and the test is counted. -/
def State.noteTest (s : State) (c : Nat) : State := ((s.leaveTest c).emptyCore c).countTest c

theorem testDoneEffect_eq {bist : Bool} (h : s.flt.testing = [c]) : testDoneEffect s c bist []
    = if !bist || (List.range 4).any (fun e => !(s.noteTest c).engineFits c e)
      then ((((s.noteTest c).retireCore c).emit (corePg c) 0xE042 0).irq fltPg 7).replaceCore c
      else if ((s.noteTest c).logicalOf c).isSome then (s.noteTest c).standTiles c else (s.noteTest c).addPool c := by
  have hmem : s.flt.testing.contains c = true := by simp [h]
  have hfailed (e k : Nat) : failedOf [] e k = [] := rfl
  have hfold (u : State) : (List.range 68).foldl (fun s i => let f := failedOf [] (i / 17) (i % 17)
      if f.isEmpty then s else s.testTile c (i / 17) (i % 17) f) u = u := foldl_keeps (g := id) (fun s i => by simp [hfailed]) _ u
  unfold testDoneEffect
  rw [hmem]
  dsimp only
  rw [hfold]
  rfl

theorem leaveTest_frame : Frame [.flt] s (s.leaveTest c) := (Frame.upd_flt _ _).after (by decide) (.refl _ s)

theorem countTest_frame : Frame [.regs, .cores] s (s.countTest c) :=
  (State.inc_frame _ _ _ _).after (by decide) ((State.modCore_frame _ _ _).after (by decide) (.refl _ s))

theorem noteTest_frame : Frame [.regs, .tiles, .cores, .dies, .flt] s (s.noteTest c) :=
  countTest_frame.after (by decide) ((State.emptyCore_frame _ _).after (by decide) (leaveTest_frame.after (by decide) (.refl _ s)))

theorem flt_noteTest (h : s.flt.testing = [c]) : (s.noteTest c).flt = { s.flt with testing := [] } := by
  have hleave : (s.leaveTest c).flt = { s.flt with testing := [] } := by
    rw [State.leaveTest, h]
    simp
  rw [State.noteTest, countTest_frame.keeps .flt (by decide), (State.emptyCore_frame _ _).keeps .flt (by decide), hleave]

theorem rd_countTest {q : Nat} {f : Fld} (hf : FldFits f) (hcnt : fldStart f ≠ fldStart FLT.TEST_CNT) :
    (s.countTest c).rd q f = s.rd q f := rd_wr_other _ _ _ _ _ _ (fkey_ne_of_fits (.of_check (by decide)) hf hcnt)

theorem testCnt_countTest : (s.countTest c).rd fltPg FLT.TEST_CNT = (s.rd fltPg FLT.TEST_CNT + 1) % 2 ^ 64 := rd_wr_same _ _ _ _

theorem core_countTest : (s.countTest c).core c = { s.core c with lastTest := s.poweredS, tests := (s.core c).tests + 1 } :=
  core_modCore_same s c (fun x => { x with lastTest := s.poweredS, tests := x.tests + 1 })

/-- Beside the pages of the core the test's count alone changes. -/
theorem rd_noteTest {q : Nat} {f : Fld} (hf : FldFits f) (hcnt : fldStart f ≠ fldStart FLT.TEST_CNT) (hq : q ∉ seqPages c) :
    (s.noteTest c).rd q f = s.rd q f := by
  rw [State.noteTest, rd_countTest hf hcnt, (pagesKept_emptyCore (s.leaveTest c) c).rd_eq hf hq]
  rfl

theorem testCnt_noteTest : (s.noteTest c).rd fltPg FLT.TEST_CNT = (s.rd fltPg FLT.TEST_CNT + 1) % 2 ^ 64 := by
  rw [State.noteTest, testCnt_countTest, (pagesKept_emptyCore (s.leaveTest c) c).rd_eq (.of_check (by decide)) (fltPg_notMem_seqPages c)]
  rfl

theorem core_noteTest : (s.noteTest c).core c = { s.core c with lastTest := s.poweredS, tests := (s.core c).tests + 1 } := by
  have hframe : Frame [.regs, .tiles, .dies, .flt] s ((s.leaveTest c).emptyCore c) :=
    (State.emptyCore_frame _ _).after (by decide) (leaveTest_frame.after (by decide) (.refl _ s))
  have hpowered : ((s.leaveTest c).emptyCore c).poweredS = s.poweredS := by
    rw [State.poweredS, hframe.keeps .nvm (by decide), hframe.keeps .power (by decide), State.poweredS]
  rw [State.noteTest, core_countTest, hframe.core_eq (by decide), hpowered]

theorem logicalOf_noteTest (k : Nat) : (s.noteTest c).logicalOf k = s.logicalOf k := by
  have hpage := fltPg_notMem_seqPages c
  refine logicalOf_of_redir (fun l hl => rd_noteTest (fits_redirValid hl) ?_ hpage) (fun l hl => rd_noteTest (fits_redirPhys hl) ?_ hpage) k
  · simp only [fldStart, FLT.CORE_REDIR_VALID, FLT.TEST_CNT]
    omega
  · simp only [fldStart, FLT.CORE_REDIR_PHYS, FLT.TEST_CNT]
    omega

theorem engineFits_noteTest (e : Nat) : (s.noteTest c).engineFits c e = s.engineFits c e :=
  engineFits_of_tiles (fun k => rd_noteTest (.of_check (by decide)) (by decide) (tilePg_notMem_seqPages c e k))
    (fun k => rd_noteTest (.of_check (by decide)) (by decide) (tilePg_notMem_seqPages c e k)) (noteTest_frame.eng_eq (by decide) c e)

/-- A test that passes returns the core to the pool. -/
theorem test_passed (htest : s.flt.testing = [c]) (hfree : s.logicalOf c = none) (hfit : ∀ e < 4, s.engineFits c e = true)
    (hpool : s.flt.pool.contains c = false) :
    (testDoneEffect s c true []).flt = { s.flt with testing := [], pool := s.flt.pool ++ [c] }
      ∧ (testDoneEffect s c true []).core c = { s.core c with lastTest := s.poweredS, tests := (s.core c).tests + 1 }
      ∧ (testDoneEffect s c true []).rd fltPg FLT.TEST_CNT = (s.rd fltPg FLT.TEST_CNT + 1) % 2 ^ 64
      ∧ mget (testDoneEffect s c true []).nvm.coreState 0 (nvmCore c) = 1 := by
  have hfits : ((List.range 4).any (fun e => !(s.noteTest c).engineFits c e)) = false := by
    rw [List.any_eq_false]
    intro e he
    rw [engineFits_noteTest, hfit e (List.mem_range.1 he)]
    decide
  have heq : testDoneEffect s c true [] = (s.noteTest c).addPool c := by
    rw [testDoneEffect_eq htest, hfits, logicalOf_noteTest, hfree]
    simp only [Bool.not_true, Bool.or_self, Bool.false_eq_true, if_false, Option.isSome_none]
  have hflt := flt_noteTest htest
  have hcore := core_noteTest (s := s) (c := c)
  have hcnt := testCnt_noteTest (s := s) (c := c)
  rw [heq]
  generalize s.noteTest c = t at hflt hcore hcnt
  have hout : t.flt.pool.contains c = false := by rw [hflt]; exact hpool
  have hadd : t.addPool c = { t with
      flt := { t.flt with pool := t.flt.pool ++ [c] }, nvm := { t.nvm with coreState := mput t.nvm.coreState (nvmCore c) 1 } } := by
    rw [State.addPool, hout]
    rfl
  rw [hadd]
  exact ⟨by rw [hflt], hcore, hcnt, mget_mput_same _ _ _ _⟩

/-- A core that carries no logical core is replaced by none. -/
theorem replaceCore_of_unplaced (h : s.logicalOf c = none) : s.replaceCore c = s := by simp only [State.replaceCore, h]

theorem retired_keeps (s : State) (c : Nat) :
    (s.retireCore c).flt.testing = s.flt.testing ∧ (s.retireCore c).flt.pool = s.flt.pool.filter (fun k => k != c)
      ∧ mget (s.retireCore c).nvm.coreState 0 (nvmCore c) = 2 := ⟨rfl, rfl, mget_mput_same _ _ _ _⟩

/-- A test that fails retires the core. -/
theorem test_failed (htest : s.flt.testing = [c]) (hfree : s.logicalOf c = none) :
    (testDoneEffect s c false []).flt.testing = [] ∧ ((testDoneEffect s c false []).core c).retired = true
      ∧ (testDoneEffect s c false []).flt.pool = s.flt.pool.filter (fun k => k != c)
      ∧ mget (testDoneEffect s c false []).nvm.coreState 0 (nvmCore c) = 2
      ∧ (testDoneEffect s c false []).rd fltPg FLT.TEST_CNT = (s.rd fltPg FLT.TEST_CNT + 1) % 2 ^ 64 := by
  have hflt := flt_noteTest htest
  have hcnt := testCnt_noteTest (s := s) (c := c)
  have hlog := logicalOf_noteTest (s := s) (c := c) c
  have heq : testDoneEffect s c false [] = ((((s.noteTest c).retireCore c).emit (corePg c) 0xE042 0).irq fltPg 7).replaceCore c := by
    rw [testDoneEffect_eq htest]
    simp only [Bool.not_false, Bool.true_or, if_true]
  generalize s.noteTest c = t at hflt hcnt hlog heq
  have hunplaced : (((t.retireCore c).emit (corePg c) 0xE042 0).irq fltPg 7).logicalOf c = none :=
    (logicalOf_irq _ _ _ _).trans (hlog.trans hfree)
  obtain ⟨htesting, hpool, hstate⟩ := retired_keeps t c
  have hretired := retired_retireCore t c
  rw [heq, replaceCore_of_unplaced hunplaced, irq_flt, irq_nvm, core_irq,
    rd_irq _ _ _ _ _ (irqFree_of_core_page (.of_check (by decide)) (by decide) (by decide))]
  refine ⟨?_, hretired, ?_, hstate, hcnt⟩
  · exact htesting.trans (by rw [hflt])
  · exact hpool.trans (by rw [hflt])

end Sys2Proof.Machine
end

section
/-! PROOFS. The hourly fold of event NVM and its read. Settles O45. -/

namespace Sys2Proof.Machine

variable {s t u : State}

/-! ### The fold (R373) -/

/-- From `s` to `t` a fold has kept what it counts from: event NVM's header, its faults and its ring of retirements, the
registers, the time and all that the fold does not gather. -/
structure FoldKept (s t : State) : Prop where
  gen : t.nvm.foldGen = s.nvm.foldGen
  powered : t.nvm.poweredS = s.nvm.poweredS
  faults : t.nvm.faults = s.nvm.faults
  retired : t.nvm.retiredN = s.nvm.retiredN
  rest : Keeps [.fresh, .tiles, .cores, .dies, .nvm] s t

theorem FoldKept.refl (s : State) : FoldKept s s := ⟨rfl, rfl, rfl, rfl, fun p _ => p.same_refl s⟩

theorem FoldKept.trans (h : FoldKept s t) (k : FoldKept t u) : FoldKept s u :=
  ⟨k.gen.trans h.gen, k.powered.trans h.powered, k.faults.trans h.faults, k.retired.trans h.retired,
    fun p hp => Part.same_trans (h.rest p hp) (k.rest p hp)⟩

theorem FoldKept.foldl {α : Type} {f : State → α → State} (hf : ∀ t a, FoldKept t (f t a)) (l : List α) (s : State) :
    FoldKept s (l.foldl f s) := by
  induction l generalizing s with
  | nil => exact .refl s
  | cons a l ih => exact (hf s a).trans (ih _)

/-- A part of the fold that leaves those fields of event NVM. -/
theorem FoldKept.of_frame {P : List Part} (h : Frame P s t) (hP : ∀ p ∈ P, p ∈ [Part.fresh, .tiles, .cores, .dies, .nvm])
    (hgen : t.nvm.foldGen = s.nvm.foldGen) (hpowered : t.nvm.poweredS = s.nvm.poweredS) (hfaults : t.nvm.faults = s.nvm.faults)
    (hretired : t.nvm.retiredN = s.nvm.retiredN) : FoldKept s t :=
  ⟨hgen, hpowered, hfaults, hretired, fun p hp => h.1 p fun hmem => hp (hP p hmem)⟩

theorem foldKept_foldTile (s : State) (c e t : Nat) : FoldKept s (s.foldTile c e t) := by
  refine .of_frame (State.foldTile_frame s c e t) (by decide) ?_ ?_ ?_ ?_
  all_goals
    unfold State.foldTile
    dsimp only
    split <;> rfl

theorem foldKept_foldHeat (s : State) (d : Nat) : FoldKept s (s.foldHeat d) := by
  refine .of_frame (State.foldHeat_frame s d) (by decide) ?_ ?_ ?_ ?_
  all_goals
    unfold State.foldHeat
    dsimp only
    split <;> rfl

theorem foldKept_foldBand (s : State) (c b : Nat) : FoldKept s (s.foldBand c b) := by
  refine .of_frame (State.foldBand_frame s c b) (by decide) ?_ ?_ ?_ ?_
  all_goals
    unfold State.foldBand
    dsimp only
    split
    · rfl
    · split <;> rfl

/-- What the tiles, the dies and the cores have counted enters event NVM. -/
def State.gatherLife (s : State) : State :=
  let s := allCores.foldl (fun s c => (List.range 68).foldl (fun s i => s.foldTile c (i / 17) (i % 17)) s) s
  let s := allDies.foldl (fun s d => s.foldHeat d) s
  allCores.foldl (fun s c => (List.range 6).foldl (fun s b => s.foldBand c b) s) s

theorem foldKept_gatherLife (s : State) : FoldKept s s.gatherLife := by
  have htiles := FoldKept.foldl (fun u c => FoldKept.foldl (fun v i => foldKept_foldTile v c (i / 17) (i % 17)) (List.range 68) u) allCores s
  have hheat (u : State) := FoldKept.foldl foldKept_foldHeat allDies u
  have hbands (u : State) := FoldKept.foldl (fun u c => FoldKept.foldl (fun v b => foldKept_foldBand v c b) (List.range 6) u) allCores u
  exact (htiles.trans (hheat _)).trans (hbands _)

/-- The ring of retirements takes those since the last fold. -/
theorem ring_filled (l : List (Nat × Nat × Nat × Nat × Nat)) (n : NvmS) :
    (l.foldl (fun (n : NvmS) x => { n with retired := mput n.retired (n.retiredN % 256) x, retiredN := n.retiredN + 1 }) n).retiredN
        = n.retiredN + l.length
      ∧ (l.foldl (fun (n : NvmS) x => { n with retired := mput n.retired (n.retiredN % 256) x, retiredN := n.retiredN + 1 }) n).foldGen = n.foldGen
      ∧ (l.foldl (fun (n : NvmS) x => { n with retired := mput n.retired (n.retiredN % 256) x, retiredN := n.retiredN + 1 }) n).poweredS = n.poweredS
      ∧ (l.foldl (fun (n : NvmS) x => { n with retired := mput n.retired (n.retiredN % 256) x, retiredN := n.retiredN + 1 }) n).faults = n.faults := by
  induction l generalizing n with
  | nil => exact ⟨rfl, rfl, rfl, rfl⟩
  | cons x l ih =>
    obtain ⟨hn, hgen, hpowered, hfaults⟩ := ih { n with retired := mput n.retired (n.retiredN % 256) x, retiredN := n.retiredN + 1 }
    refine ⟨hn.trans ?_, hgen, hpowered, hfaults⟩
    rw [List.length_cons]
    show n.retiredN + 1 + l.length = _
    omega

/-- The fold's header: powered time and the generation; the registers show the fold. -/
def State.closeFold (s : State) (at0 : Nat) : State :=
  let p : Nat := s.poweredS
  let s := { s with nvm := { s.nvm with poweredS := p, foldGen := (s.nvm.foldGen + 1) % 2 ^ 32, torn := false },
                    power := { s.power with lastFoldRound := s.power.lastFoldRound + (p - at0) * 500 } }
  (s.inc lifePg LIFE.FOLD_CNT).wr lifePg LIFE.LAST_FOLD s.sclk

theorem lifetimeFoldEffect_eq (hgood : s.power.pwrgood = true) (hruns : s.power.halted = false) :
    lifetimeFoldEffect s = (s.gatherLife.foldRetired.closeFold s.nvm.poweredS).saveImages
      ∨ lifetimeFoldEffect s = s.gatherLife.foldRetired.closeFold s.nvm.poweredS := by
  have heq : lifetimeFoldEffect s = if decide (s.nvm.poweredS / 86400 < s.gatherLife.foldRetired.poweredS / 86400)
      && (s.gatherLife.foldRetired.closeFold s.nvm.poweredS).rdB (diePage 16) DIE.BOOT_STAT_DONE
      then (s.gatherLife.foldRetired.closeFold s.nvm.poweredS).saveImages else s.gatherLife.foldRetired.closeFold s.nvm.poweredS := by
    unfold lifetimeFoldEffect State.closeFold State.gatherLife
    simp only [hgood, hruns, Bool.not_true, Bool.false_eq_true, if_false]
  rw [heq]
  split
  · exact .inl rfl
  · exact .inr rfl

/-- What a fold leaves, but for the calibration images. -/
structure Folded (s u : State) : Prop where
  gen : u.nvm.foldGen = (s.nvm.foldGen + 1) % 2 ^ 32
  torn : u.nvm.torn = false
  powered : u.nvm.poweredS = s.poweredS
  faults : u.nvm.faults = s.nvm.faults
  log : u.flt = { s.flt with retiredLog := [] }
  retired : u.nvm.retiredN = s.nvm.retiredN + s.flt.retiredLog.length
  count : u.rd lifePg LIFE.FOLD_CNT = (s.rd lifePg LIFE.FOLD_CNT + 1) % 2 ^ 64
  last : u.rd lifePg LIFE.LAST_FOLD = s.sclk % 2 ^ 64
  dev : u.dev = s.dev

theorem kept_foldRetired (t : State) : t.foldRetired.nvm.retiredN = t.nvm.retiredN + t.flt.retiredLog.length
    ∧ t.foldRetired.nvm.foldGen = t.nvm.foldGen ∧ t.foldRetired.nvm.poweredS = t.nvm.poweredS
    ∧ t.foldRetired.nvm.faults = t.nvm.faults := ring_filled t.flt.retiredLog t.nvm

theorem poweredS_foldRetired (t : State) : t.foldRetired.poweredS = t.poweredS := by
  obtain ⟨-, -, hpowered, -⟩ := kept_foldRetired t
  have hpower : t.foldRetired.power = t.power := t.foldRetired_frame.keeps .power (by decide)
  rw [State.poweredS, hpowered, hpower, State.poweredS]

theorem foldCnt_closeFold (t : State) (at0 : Nat) : (t.closeFold at0).rd lifePg LIFE.FOLD_CNT = (t.rd lifePg LIFE.FOLD_CNT + 1) % 2 ^ 64 := by
  rw [State.closeFold, rd_wr_of_start _ _ (by decide)]
  exact rd_wr_same _ _ _ _

theorem lastFold_closeFold (t : State) (at0 : Nat) : (t.closeFold at0).rd lifePg LIFE.LAST_FOLD = t.sclk % 2 ^ 64 := rd_wr_same _ _ _ _

theorem nvm_closeFold (t : State) (at0 : Nat) :
    (t.closeFold at0).nvm = { t.nvm with poweredS := t.poweredS, foldGen := (t.nvm.foldGen + 1) % 2 ^ 32, torn := false } := rfl

theorem folded_closeFold (h : FoldKept s t) (at0 : Nat) : Folded s (t.foldRetired.closeFold at0) := by
  obtain ⟨hgen, hpowered, hfaults, hretired, hrest⟩ := h
  obtain ⟨hn, hg, hp, hf⟩ := kept_foldRetired t
  have hframe := t.foldRetired_frame
  have hflt : t.flt = s.flt := hrest .flt (by decide)
  have hpower : t.power = s.power := hrest .power (by decide)
  have hregs : t.foldRetired.regs = s.regs := (hframe.keeps .regs (by decide)).trans (hrest .regs (by decide))
  have hnow : t.foldRetired.now = s.now := (hframe.keeps .now (by decide)).trans (hrest .now (by decide))
  have hsclk : t.foldRetired.sclk0 = s.sclk0 := (hframe.keeps .sclk0 (by decide)).trans (hrest .sclk0 (by decide))
  have hdev : t.foldRetired.dev = s.dev := (hframe.keeps .dev (by decide)).trans (hrest .dev (by decide))
  have hlog : t.foldRetired.flt = { s.flt with retiredLog := [] } := by rw [← hflt]; rfl
  have hseconds : t.foldRetired.poweredS = s.poweredS := by
    rw [poweredS_foldRetired, State.poweredS, hpowered, hpower, State.poweredS]
  rw [hretired, hflt] at hn
  rw [hgen] at hg
  rw [hfaults] at hf
  generalize t.foldRetired = u at hn hg hf hregs hnow hsclk hdev hlog hseconds
  refine ⟨?_, ?_, ?_, ?_, hlog, ?_, ?_, ?_, hdev⟩
  · rw [nvm_closeFold, hg]
  · rw [nvm_closeFold]
  · rw [nvm_closeFold, hseconds]
  · rw [nvm_closeFold, hf]
  · rw [nvm_closeFold, hn]
  · rw [foldCnt_closeFold, State.rd, hregs, State.rd]
  · rw [lastFold_closeFold, State.sclk, hnow, hsclk, State.sclk]

theorem Folded.saveImages (h : Folded s u) : Folded s u.saveImages := ⟨h.gen, h.torn, h.powered, h.faults, h.log, h.retired, h.count, h.last, h.dev⟩

theorem folded_lifetimeFold (hgood : s.power.pwrgood = true) (hruns : s.power.halted = false) : Folded s (lifetimeFoldEffect s) := by
  rcases lifetimeFoldEffect_eq hgood hruns with h | h
  · rw [h]
    exact (folded_closeFold (foldKept_gatherLife s) _).saveImages
  · rw [h]
    exact folded_closeFold (foldKept_gatherLife s) _

/-- Power that fails in a fold leaves it torn. -/
theorem fold_torn (hfails : s.power.pwrgood = false) (hstarted : s.power.started = true) :
    lifetimeFoldEffect s = { s with nvm := { s.nvm with torn := true } } := by
  rw [lifetimeFoldEffect, hfails, hstarted]
  rfl

/-! ### The read of event NVM (R377) -/

theorem nvm_read (hruns : s.power.halted = false) :
    (nvmReadEffect s).out = s.out ++ [.readValue (ofLe (s.nvmAt (s.rdA lifePg LIFE.NVM_ADDR_ADDR)))]
      ∧ (s.rdA lifePg LIFE.NVM_ADDR_ADDR < 0x40000 →
          (nvmReadEffect s).rdA lifePg LIFE.NVM_ADDR_ADDR = (s.rdA lifePg LIFE.NVM_ADDR_ADDR + 8) % 0x40000)
      ∧ (nvmReadEffect s).nvm = s.nvm ∧ PagesKept [lifePg] s (nvmReadEffect s) ∧ Keeps [.regs, .out] s (nvmReadEffect s) := by
  have hframe := nvmReadEffect_frame s
  have heq : nvmReadEffect s = (s.send (.readValue (ofLe (s.nvmAt (s.rdA lifePg LIFE.NVM_ADDR_ADDR))))).wrA lifePg LIFE.NVM_ADDR_ADDR
      ((s.rdA lifePg LIFE.NVM_ADDR_ADDR + 8) % 0x40000) := by
    rw [nvmReadEffect, hruns]
    rfl
  have hnvm : (nvmReadEffect s).nvm = s.nvm := hframe.keeps .nvm (by decide)
  rw [heq] at hframe hnvm ⊢
  refine ⟨rfl, fun hlt => ?_, hnvm, ?_, hframe.keeps⟩
  · have hlsb : LIFE.NVM_ADDR_ADDR.lsb = 3 := rfl
    have hwidth : LIFE.NVM_ADDR_ADDR.width = 15 := rfl
    rw [State.rdA, State.wrA, rd_wr_same, State.rdA, hlsb, hwidth]
    rw [State.rdA, hlsb] at hlt
    omega
  · exact .wr_page _ (.of_check (by decide)) (List.mem_singleton_self _) (.of_regs rfl (.refl _ s))

theorem nvm_refused (hhalted : s.power.halted = true) : nvmReadEffect s = s.send .abort := by rw [nvmReadEffect, hhalted, if_pos rfl]

/-- Settles O45: a test's end empties the core's banks, which leaves what its judgement reads; each part of a fold leaves what the
header counts from. -/
theorem coresAreTestedAndFolded : Obligations.CoresAreTestedAndFolded := by
  unfold Obligations.CoresAreTestedAndFolded
  refine ⟨fun s c => ⟨fun hlets hen hlive hnone hfree => ?_, fun hlets hen hlive hnone hwork hfirst hstays hmax => ?_,
      fun hlets hwaits hfree hnone => ?_, fun hlets htest hfree hfit hpool => ?_, fun hlets htest hfree => ?_⟩,
    fun s => ⟨fun hlets hgood hruns => ?_, fun hlets hfails hstarted => exec_of_effect hlets rfl (fold_torn hfails hstarted),
      fun hlets hruns => ⟨_, exec_of_effect hlets rfl rfl, nvm_read hruns⟩,
      fun hlets hhalted => exec_of_effect hlets rfl (nvm_refused hhalted)⟩⟩
  · exact ⟨_, exec_of_effect hlets rfl (testDueEffect_of_free hen hlive hnone hfree), startTest_of_none hnone⟩
  · exact ⟨_, exec_of_effect hlets rfl (testDueEffect_of_assigned hen hlive hnone hwork hfirst hstays hmax), test_deferred⟩
  · exact ⟨_, exec_of_effect hlets rfl (testDeferEffect_of_free hwaits hfree), startTest_of_none hnone⟩
  · obtain ⟨hflt, hcore, hcnt, hstate⟩ := test_passed htest hfree hfit hpool
    exact ⟨_, exec_of_effect hlets rfl rfl, by rw [hflt], by rw [hflt], by rw [hcore], by rw [hcore], hcnt, hstate⟩
  · exact ⟨_, exec_of_effect hlets rfl rfl, test_failed htest hfree⟩
  · obtain ⟨hgen, htorn, hpowered, hfaults, hlog, hretired, hcount, hlast, hdev⟩ := folded_lifetimeFold hgood hruns
    exact ⟨_, exec_of_effect hlets rfl rfl, hgen, htorn, hpowered, hfaults, hlog, hretired, hcount, hlast, hdev⟩

end Sys2Proof.Machine
end

section
/-! PROOFS. Change records and firmware slots. Settles O46. -/

namespace Sys2Proof.Machine

/-! ### The bits of a masked write -/

/-- Setting a bit that is clear leaves the others. -/
theorem testBit_add_two_pow_other {w i j : Nat} (hclear : w.testBit i = false) (h : j ≠ i) : (2 ^ i + w).testBit j = w.testBit j := by
  rcases Nat.lt_or_gt_of_ne h with hlt | hgt
  · exact Nat.testBit_two_pow_add_gt hlt w
  · obtain ⟨k, rfl⟩ := Nat.exists_eq_add_of_lt hgt
    have heven : w / 2 ^ i % 2 = 0 := by
      rw [Nat.testBit_eq_decide_div_mod_eq, decide_eq_false_iff_not] at hclear
      omega
    have hhigh : (2 ^ i + w) / 2 ^ (i + 1) = w / 2 ^ (i + 1) := by
      rw [Nat.pow_succ, ← Nat.div_div_eq_div_mul, ← Nat.div_div_eq_div_mul, Nat.add_div_left _ (Nat.two_pow_pos i)]
      omega
    rw [show i + k + 1 = k + (i + 1) by omega, Nat.testBit_add, Nat.testBit_add, hhigh]

theorem testBit_putBit_other {v i j : Nat} (h : j ≠ i) (b : Bool) : (putBit v i b).testBit j = v.testBit j := by
  cases b with
  | true => simp [testBit_putBit_true, h]
  | false =>
    by_cases hset : v.testBit i
    · have hclear := testBit_putBit_same_false v i
      have hput : putBit v i false = v - 2 ^ i := by simp [putBit, hset, Nat.one_shiftLeft]
      rw [hput] at hclear ⊢
      rw [← testBit_add_two_pow_other hclear h, Nat.add_sub_cancel' (Nat.ge_two_pow_of_testBit hset)]
    · rw [putBit, if_neg (by decide), if_neg hset]

/-- The bits of `l` for which `c` holds take their values from `b`, in order. -/
theorem testBit_foldl_putBit {c : Nat → Prop} [DecidablePred c] (b : Nat → Bool) (l : List Nat) (v j : Nat) :
    (l.foldl (fun v i => if c i then putBit v i (b i) else v) v).testBit j = if j ∈ l ∧ c j then b j else v.testBit j := by
  induction l generalizing v with
  | nil => simp
  | cons i l ih =>
    rw [List.foldl_cons, ih]
    by_cases hj : j = i
    · subst hj
      by_cases hc : c j <;> simp [hc, testBit_putBit_same]
    · by_cases hc : c i <;> simp [hj, hc, testBit_putBit_other hj]

end Sys2Proof.Machine
end

section
/-! PROOFS. A change record's commit and its refusals, and firmware slots. -/

namespace Sys2Proof.Machine

variable {s : State} {r : List Byte} {mgmt : Bool}

theorem halted_of_not_frozen (h : s.frozen = false) : s.power.halted = false := (Bool.or_eq_false_iff.1 h).1

/-! ### The nonce and a refusal (R386) -/

/-- The registers of the nonce. -/
def nonceFields : List Fld := (List.range 8).map CFG2P.NONCE

theorem nonceFields_fit {f : Fld} (hf : f ∈ nonceFields) : FldFits f :=
  fieldsOf_fit (b := .cfg2p) ((by decide : ∀ f ∈ nonceFields, f ∈ fieldsOf .cfg2p) f hf)

/-- A nonce `n` is shown. -/
def State.showNonce (s : State) (n : Nat) : State := (List.range 8).foldl (fun s i => s.wr cfgPg (CFG2P.NONCE i) (n >>> (32 * i))) s

theorem fieldsKept_showNonce (s : State) (n : Nat) : FieldsKept nonceFields s (s.showNonce n) :=
  List.foldlRecOn (motive := FieldsKept nonceFields s) (List.range 8) _ (.refl _ s) fun _ ht i hi =>
    have hmem : CFG2P.NONCE i ∈ nonceFields := List.mem_map_of_mem hi
    ht.wr _ _ (nonceFields_fit hmem) hmem

theorem sec_showNonce (s : State) (n : Nat) : (s.showNonce n).sec = s.sec := by
  refine foldl_keeps (g := State.sec) ?_ _ _
  exact fun _ _ => rfl

/-- The nonce that follows. -/
def State.nextNonce (s : State) : SecS := { s.sec with nonce := Config.nonce s.sec.nonceNo % 2 ^ 256, nonceNo := s.sec.nonceNo + 1 }

theorem newNonce_eq (s : State) : s.newNonce = { s with sec := s.nextNonce }.showNonce (Config.nonce s.sec.nonceNo % 2 ^ 256) := rfl

theorem fieldsKept_newNonce (s : State) : FieldsKept nonceFields s s.newNonce := by
  have hsec : FieldsKept nonceFields s { s with sec := s.nextNonce } := (FieldsKept.refl _ s).of_regs rfl
  rw [newNonce_eq]
  exact hsec.trans (fieldsKept_showNonce _ _)

theorem sec_newNonce (s : State) : s.newNonce.sec = s.nextNonce :=
  (congrArg State.sec (newNonce_eq s)).trans (sec_showNonce _ _)

/-- The result and the item of a refusal are shown, and it is counted. -/
def State.countReject (s : State) (result item : Nat) : State :=
  ((s.wr cfgPg CFG2P.STAT_RESULT result).wr cfgPg CFG2P.STAT_ITEM item).inc cfgPg CFG2P.REJECT_CNT

theorem countReject_spec (s : State) (result item : Nat) :
    (s.countReject result item).rd cfgPg CFG2P.STAT_RESULT = result % 2 ^ 8 ∧ (s.countReject result item).rd cfgPg CFG2P.STAT_ITEM = item % 2 ^ 8
      ∧ (s.countReject result item).rd cfgPg CFG2P.REJECT_CNT = (s.rd cfgPg CFG2P.REJECT_CNT + 1) % 2 ^ 64
      ∧ (s.countReject result item).rd cfgPg CFG2P.STAT_BUSY = s.rd cfgPg CFG2P.STAT_BUSY := by
  refine ⟨?_, ?_, ?_, ?_⟩
  · rw [State.countReject, State.inc, rd_wr_of_start _ _ (by decide), rd_wr_of_start _ _ (by decide), rd_wr_same]
    rfl
  · rw [State.countReject, State.inc, rd_wr_of_start _ _ (by decide), rd_wr_same]
    rfl
  · rw [State.countReject, State.inc, rd_wr_same, rd_wr_of_start _ _ (by decide), rd_wr_of_start _ _ (by decide)]
    rfl
  · rw [State.countReject, State.inc, rd_wr_of_start _ _ (by decide), rd_wr_of_start _ _ (by decide), rd_wr_of_start _ _ (by decide)]

theorem rejectRec_busy (s : State) : s.rejectRec 8 0 = s.countReject 8 0 := rfl

theorem rejectRec_cases (s : State) (result item : Nat) : ∃ t : State, FieldsKept [] (s.countReject result item) t ∧ t.sec = s.sec
    ∧ (s.rejectRec result item = t ∨ s.rejectRec result item = t.newNonce) := by
  refine ⟨if result = 8 then s.countReject result item else (s.countReject result item).emit cfgPg 0xD021 (result + item * 256), ?_, ?_, ?_⟩
  · exact .ite (.refl _ _) ((FieldsKept.refl _ _).frame (State.emit_frame ..) (by decide))
  · split <;> rfl
  · have heq : s.rejectRec result item
        = if result = 4 ∨ result = 5 ∨ result = 6 ∨ result = 7
          then (if result = 8 then s.countReject result item else (s.countReject result item).emit cfgPg 0xD021 (result + item * 256)).newNonce
          else if result = 8 then s.countReject result item else (s.countReject result item).emit cfgPg 0xD021 (result + item * 256) := rfl
    rw [heq]
    split
    · exact .inr rfl
    · exact .inl rfl

/-- What a refusal shows; of the enclave it may replace the nonce. -/
theorem rejectRec_spec (s : State) (result item : Nat) :
    (s.rejectRec result item).rd cfgPg CFG2P.STAT_RESULT = result % 256 ∧ (s.rejectRec result item).rd cfgPg CFG2P.STAT_ITEM = item % 256
      ∧ (s.rejectRec result item).rd cfgPg CFG2P.REJECT_CNT = (s.rd cfgPg CFG2P.REJECT_CNT + 1) % 2 ^ 64
      ∧ (s.rejectRec result item).rd cfgPg CFG2P.STAT_BUSY = s.rd cfgPg CFG2P.STAT_BUSY
      ∧ (s.rejectRec result item).sec.changeCnt = s.sec.changeCnt ∧ (s.rejectRec result item).sec.applying = s.sec.applying := by
  obtain ⟨t, hkept, hsec, heq⟩ := rejectRec_cases s result item
  obtain ⟨hresult, hitem, hcnt, hbusy⟩ := countReject_spec s result item
  have hkept : FieldsKept nonceFields (s.countReject result item) (s.rejectRec result item) := by
    have ht := FieldsKept.mono (m := nonceFields) hkept (fun f hf => absurd hf List.not_mem_nil)
    rcases heq with heq | heq
    · rwa [heq]
    · rw [heq]
      exact ht.trans (fieldsKept_newNonce t)
  refine ⟨(hkept _ _ (.of_check (by decide)) (by decide)).trans hresult, (hkept _ _ (.of_check (by decide)) (by decide)).trans hitem,
    (hkept _ _ (.of_check (by decide)) (by decide)).trans hcnt, (hkept _ _ (.of_check (by decide)) (by decide)).trans hbusy, ?_, ?_⟩
  all_goals
    rcases heq with heq | heq
    · rw [heq, hsec]
    · rw [heq, sec_newNonce, State.nextNonce, hsec]

/-! ### COMMIT (R385, R386) -/

theorem cfgCommitEffect_of_busy (hruns : s.frozen = false) (hbusy : s.sec.applying.isSome = true) :
    cfgCommitEffect s mgmt = s.countReject 8 0 := by
  rw [← rejectRec_busy]
  simp only [cfgCommitEffect, halted_of_not_frozen hruns, hruns, hbusy, Bool.false_and, Bool.or_self, Bool.false_eq_true, if_false, if_true]

theorem commit_busy (hruns : s.frozen = false) (hbusy : s.sec.applying.isSome = true) :
    (cfgCommitEffect s mgmt).rd cfgPg CFG2P.STAT_RESULT = 8
      ∧ (cfgCommitEffect s mgmt).rd cfgPg CFG2P.REJECT_CNT = (s.rd cfgPg CFG2P.REJECT_CNT + 1) % 2 ^ 64 ∧ (cfgCommitEffect s mgmt).sec = s.sec
      ∧ PagesKept [cfgPg] s (cfgCommitEffect s mgmt) ∧ Keeps [.regs] s (cfgCommitEffect s mgmt) := by
  obtain ⟨hresult, -, hcnt, -⟩ := countReject_spec s 8 0
  have hp := List.mem_singleton_self cfgPg
  rw [cfgCommitEffect_of_busy hruns hbusy]
  refine ⟨hresult, hcnt, rfl, ?_, ?_⟩
  · exact .inc 1 (.of_check (by decide)) hp (.wr_page _ (.of_check (by decide)) hp (.wr_page _ (.of_check (by decide)) hp (.refl _ s)))
  · exact ((State.inc_frame _ _ _ _).after (by decide) ((State.wr_frame _ _ _ _).after (by decide)
      ((State.wr_frame _ _ _ _).after (by decide) (.refl _ s)))).keeps

/-- A record of no length a record can have is refused. -/
theorem commit_short (hruns : s.frozen = false) (hidle : s.sec.applying = none) (hlen : s.rd cfgPg CFG2P.REC_LEN_LEN < 64) :
    (cfgCommitEffect s mgmt).rd cfgPg CFG2P.STAT_RESULT = 2
      ∧ (cfgCommitEffect s mgmt).rd cfgPg CFG2P.REJECT_CNT = (s.rd cfgPg CFG2P.REJECT_CNT + 1) % 2 ^ 64
      ∧ (cfgCommitEffect s mgmt).sec = s.sec := by
  have heq : cfgCommitEffect s mgmt = s.rejectRec 2 0 := by
    simp only [cfgCommitEffect, halted_of_not_frozen hruns, hruns, hidle, Bool.false_and, Bool.or_self, Bool.false_eq_true, if_false,
      Option.isSome_none]
    exact if_pos (.inl hlen)
  obtain ⟨hresult, -, hcnt, -⟩ := rejectRec_spec s 2 0
  rw [heq]
  exact ⟨hresult, hcnt, rfl⟩

section read
variable (hruns : s.frozen = false) (hidle : s.sec.applying = none) (hlow : 64 ≤ s.rd cfgPg CFG2P.REC_LEN_LEN)
  (hhigh : s.rd cfgPg CFG2P.REC_LEN_LEN ≤ 16384) (hsoft : s.rdA cfgPg CFG2P.REC_ADDR_ADDR + s.rd cfgPg CFG2P.REC_LEN_LEN ≤ softEnd)
  (hchk : s.dev.chk = [])
  (hread : r = s.devRead (s.rdA cfgPg CFG2P.REC_ADDR_ADDR) (s.rd cfgPg CFG2P.REC_LEN_LEN)) (hheader : headerFormat r = true)
  (hitems : firstItem r (itemFormat r) = none)
include hruns hidle hlow hhigh hsoft hchk hread hheader hitems

/-- A record whose format is right is decided by its checks. -/
theorem cfgCommitEffect_of_format : cfgCommitEffect s mgmt = (s.recChecks r mgmt).elim
    (({ s with sec := { s.sec with applying := some r } }).wr cfgPg CFG2P.STAT_BUSY 1) (fun x => s.rejectRec x.1 x.2) := by
  have hlen : ¬ (s.rd cfgPg CFG2P.REC_LEN_LEN < recHeader ∨ 16384 < s.rd cfgPg CFG2P.REC_LEN_LEN
      ∨ softEnd < s.rdA cfgPg CFG2P.REC_ADDR_ADDR + s.rd cfgPg CFG2P.REC_LEN_LEN) := by
    unfold recHeader
    omega
  have hbad : s.devBad (s.rdA cfgPg CFG2P.REC_ADDR_ADDR) (s.rd cfgPg CFG2P.REC_LEN_LEN) = false := by
    rw [State.devBad, Store.bad_of_unmarked hchk, lostIn_of_soft s hsoft]
    rfl
  have htouch : s.touch (s.rdA cfgPg CFG2P.REC_ADDR_ADDR) (s.rd cfgPg CFG2P.REC_LEN_LEN) = s := by
    refine touch_of_unmarked hchk ?_ _
    unfold tier1End
    unfold softEnd at hsoft
    omega
  simp only [cfgCommitEffect, halted_of_not_frozen hruns, hruns, hidle, Bool.false_and, Bool.or_self, Bool.false_eq_true, if_false,
    Option.isSome_none, if_neg hlen, hbad, htouch, ← hread, hheader, hitems, Bool.not_true]
  cases s.recChecks r mgmt <;> rfl

theorem commit_taken (hpass : s.recChecks r mgmt = none) :
    (cfgCommitEffect s mgmt).sec = { s.sec with applying := some r } ∧ (cfgCommitEffect s mgmt).rd cfgPg CFG2P.STAT_BUSY = 1
      ∧ PagesKept [cfgPg] s (cfgCommitEffect s mgmt) ∧ Keeps [.regs, .sec] s (cfgCommitEffect s mgmt) := by
  rw [cfgCommitEffect_of_format hruns hidle hlow hhigh hsoft hchk hread hheader hitems, hpass, Option.elim_none]
  refine ⟨rfl, rd_wr_same _ _ _ _, .wr_page _ (.of_check (by decide)) (List.mem_singleton_self _) (.of_regs rfl (.refl _ s)), ?_⟩
  exact ((State.wr_frame _ _ _ _).after (by decide) ((Frame.upd_sec _ _).after (by decide) (.refl _ s))).keeps

theorem commit_refused {x : Nat × Nat} (hfail : x ∈ s.recChecks r mgmt) :
    (cfgCommitEffect s mgmt).rd cfgPg CFG2P.STAT_RESULT = x.1 % 256 ∧ (cfgCommitEffect s mgmt).rd cfgPg CFG2P.STAT_ITEM = x.2 % 256
      ∧ (cfgCommitEffect s mgmt).sec.changeCnt = s.sec.changeCnt ∧ (cfgCommitEffect s mgmt).sec.applying = none
      ∧ (cfgCommitEffect s mgmt).rd cfgPg CFG2P.STAT_BUSY = s.rd cfgPg CFG2P.STAT_BUSY := by
  rw [cfgCommitEffect_of_format hruns hidle hlow hhigh hsoft hchk hread hheader hitems, Option.mem_def.1 hfail,
    Option.elim_some]
  obtain ⟨hresult, hitem, -, hbusy, hchange, happlying⟩ := rejectRec_spec s x.1 x.2
  exact ⟨hresult, hitem, hchange, happlying.trans hidle, hbusy⟩

end read

/-! ### Firmware slots (R378, R379) -/

theorem fwSlotEffect_of_disabled (x : FwImage) (h : s.rdB cfgPg CFG2P.FW_UPDATE_EN_EN = false) : fwSlotEffect s x = s := by
  rw [fwSlotEffect, h]
  rfl

/-- The image goes into the slot that is not running. -/
def State.putSlot (s : State) (x : FwImage) : State :=
  { s with sec := if s.rd secPg SEC.STAT_IMAGE = 0 then { s.sec with slotB := some x } else { s.sec with slotA := some x } }

theorem fwSlotEffect_of_enabled (x : FwImage) (hen : s.rdB cfgPg CFG2P.FW_UPDATE_EN_EN = true) (hruns : s.power.halted = false) :
    fwSlotEffect s x = if (s.putSlot x).imagePasses x then ((s.putSlot x).wr cfgPg CFG2P.FW_UPDATE_EN_EN 0).meas5 else s.putSlot x := by
  rw [fwSlotEffect, hen, hruns]
  rfl

theorem imagePasses_putSlot (s : State) (x : FwImage) : (s.putSlot x).imagePasses x = s.imagePasses x := by
  rw [State.imagePasses, State.imagePasses, State.putSlot]
  split <;> rfl

theorem image_written (x : FwImage) (hen : s.rdB cfgPg CFG2P.FW_UPDATE_EN_EN = true) (hruns : s.power.halted = false) :
    (s.rd secPg SEC.STAT_IMAGE = 0 → (fwSlotEffect s x).sec.slotB = some x ∧ (fwSlotEffect s x).sec.slotA = s.sec.slotA)
      ∧ (s.rd secPg SEC.STAT_IMAGE ≠ 0 → (fwSlotEffect s x).sec.slotA = some x ∧ (fwSlotEffect s x).sec.slotB = s.sec.slotB)
      ∧ (fwSlotEffect s x).rdB cfgPg CFG2P.FW_UPDATE_EN_EN = !s.imagePasses x ∧ (fwSlotEffect s x).sec.minSvn = s.sec.minSvn := by
  have hslots : (s.rd secPg SEC.STAT_IMAGE = 0 → (s.putSlot x).sec.slotB = some x ∧ (s.putSlot x).sec.slotA = s.sec.slotA)
      ∧ (s.rd secPg SEC.STAT_IMAGE ≠ 0 → (s.putSlot x).sec.slotA = some x ∧ (s.putSlot x).sec.slotB = s.sec.slotB)
      ∧ (s.putSlot x).sec.minSvn = s.sec.minSvn := by
    rw [State.putSlot]
    split
    next h => exact ⟨fun _ => ⟨rfl, rfl⟩, fun hne => absurd h hne, rfl⟩
    next h => exact ⟨fun heq => absurd heq h, fun _ => ⟨rfl, rfl⟩, rfl⟩
  obtain ⟨hb, ha, hsvn⟩ := hslots
  rw [fwSlotEffect_of_enabled x hen hruns, imagePasses_putSlot]
  cases s.imagePasses x with
  | false => exact ⟨hb, ha, hen, hsvn⟩
  | true =>
    refine ⟨hb, ha, ?_, hsvn⟩
    have hrd : ((s.putSlot x).wr cfgPg CFG2P.FW_UPDATE_EN_EN 0).rd cfgPg CFG2P.FW_UPDATE_EN_EN = 0 := rd_wr_same _ _ _ _
    exact congrArg (fun n => n != 0) hrd

end Sys2Proof.Machine
end

section
/-! PROOFS. The application of a change record. Settles O46. -/

namespace Sys2Proof.Machine

variable {s t : State}

/-! ### One field under a mask (R387) -/

/-- Whether bit `j` of field `f` lies under a mask at byte offset `o`. -/
def maskedBit (o mask : Nat) (f : Fld) (j : Nat) : Bool :=
  decide (8 * o ≤ 8 * f.off + f.lsb + j) && mask.testBit (8 * f.off + f.lsb + j - 8 * o)

/-- The value that a field of value `n` takes under a mask. -/
def maskedVal (o mask value : Nat) (f : Fld) (n : Nat) : Nat :=
  (List.range f.width).foldl (fun v j => if maskedBit o mask f j then putBit v j (value.testBit (8 * f.off + f.lsb + j - 8 * o)) else v) n

theorem testBit_maskedVal (o mask value : Nat) (f : Fld) (n : Nat) {j : Nat} (hj : j < f.width) :
    (maskedVal o mask value f n).testBit j = if maskedBit o mask f j then value.testBit (8 * f.off + f.lsb + j - 8 * o) else n.testBit j := by
  rw [maskedVal, testBit_foldl_putBit (c := fun j => maskedBit o mask f j = true)]
  simp only [List.mem_range, hj, true_and]

theorem putMasked_eq (s : State) (p o mask value : Nat) (f : Fld) :
    s.putMasked p o mask value f = s.set p f (maskedVal o mask value f (s.rd p f)) := by
  unfold State.putMasked maskedVal maskedBit
  simp only [Bool.and_eq_true, decide_eq_true_eq]

/-- What a field of value `n` reads after it has been set to `v`. -/
def setVal (f : Fld) (n v : Nat) : Nat := if n = v then n else v % 2 ^ f.width

theorem rd_set_same (s : State) (p : Nat) (f : Fld) (v : Nat) : (s.set p f v).rd p f = setVal f (s.rd p f) v := by
  unfold State.set setVal
  split
  · rfl
  · exact rd_wr_same _ _ _ _

theorem testBit_setVal (f : Fld) (n v : Nat) {j : Nat} (hj : j < f.width) : (setVal f n v).testBit j = v.testBit j := by
  unfold setVal
  split
  next h => rw [h]
  · rw [Nat.testBit_mod_two_pow, decide_eq_true hj, Bool.true_and]

theorem rd_putMasked_same (s : State) (p o mask value : Nat) (f : Fld) :
    (s.putMasked p o mask value f).rd p f = setVal f (s.rd p f) (maskedVal o mask value f (s.rd p f)) := by
  rw [putMasked_eq, rd_set_same]

theorem rd_putMasked_other (s : State) (p o mask value : Nat) {f g : Fld} (h : fldStart g ≠ fldStart f) :
    (s.putMasked p o mask value f).rd p g = s.rd p g := by
  rw [putMasked_eq, State.set]
  split
  · rfl
  · exact rd_wr_of_start _ _ h

theorem pagesKept_putMasked (s : State) (p o mask value : Nat) {f : Fld} (hf : FldFits f) : PagesKept [p] s (s.putMasked p o mask value f) := by
  rw [putMasked_eq, State.set]
  split
  · exact .refl _ s
  · exact (.wr_page _ hf (List.mem_singleton_self p) (.refl _ s))

/-- Fields that begin at different bits take their values under a mask one after the other. -/
theorem rd_foldl_putMasked (p o mask value : Nat) {l : List Fld} (hl : l.Pairwise fun f g => fldStart f ≠ fldStart g) {g : Fld} (hg : g ∈ l)
    (s : State) : (l.foldl (fun s f => s.putMasked p o mask value f) s).rd p g = setVal g (s.rd p g) (maskedVal o mask value g (s.rd p g)) := by
  induction l using List.reverseRecOn with
  | nil => simp at hg
  | append_singleton l f ih =>
    obtain ⟨hl, -, hlast⟩ := List.pairwise_append.1 hl
    rw [List.foldl_append, List.foldl_cons, List.foldl_nil]
    by_cases hmem : g ∈ l
    · rw [rd_putMasked_other _ _ _ _ _ (hlast g hmem f (List.mem_singleton_self f)), ih hl hmem]
    · obtain rfl : g = f := List.mem_singleton.1 ((List.mem_append.1 hg).resolve_left hmem)
      have hbefore : (l.foldl (fun s f => s.putMasked p o mask value f) s).rd p g = s.rd p g :=
        List.foldlRecOn (motive := fun t : State => t.rd p g = s.rd p g) l _ rfl fun t ht f hf =>
          (rd_putMasked_other _ _ _ _ _ (hlast f hf g (List.mem_singleton_self g)).symm).trans ht
      rw [rd_putMasked_same, hbefore]

/-! ### An item on a tenant's entry -/

theorem blockOf_tenPg {n : Nat} (hn : n < 256) : blockOf (tenPg n) = .ten := by
  unfold blockOf pageOf tenPg srvPg fltPg secPg cfgPg
  rw [if_neg (by omega), if_neg (by omega), if_neg (by omega), if_neg (by omega), if_neg (by omega), if_neg (by omega), if_pos (by omega)]

theorem applyItem_tenant {x : ChangeItem} (htarget : x.target = 1) (hn : x.tenant < 256) :
    s.applyItem x = (blockProt .ten).foldl (fun s f => s.putMasked (tenPg x.tenant) x.addr x.mask x.value f) s := by
  have hon : (blockProt .ten).filter (protOn (tenPg x.tenant)) = blockProt .ten := by
    refine List.filter_eq_self.2 fun f _ => ?_
    rw [protOn, blockOf_tenPg hn]
    rfl
  rw [State.applyItem, ChangeItem.targets, if_pos htarget]
  dsimp only
  rw [List.foldl_cons, List.foldl_nil, hon]

theorem tenProt_apart : (blockProt .ten).Pairwise fun f g => fldStart f ≠ fldStart g := by decide

theorem tenProt_fit {f : Fld} (hf : f ∈ blockProt .ten) : FldFits f :=
  fieldsOf_fit (b := .ten) ((by decide : ∀ f ∈ blockProt .ten, f ∈ fieldsOf .ten) f hf)

theorem pagesKept_applyItem {x : ChangeItem} (htarget : x.target = 1) (hn : x.tenant < 256) (s : State) :
    PagesKept [tenPg x.tenant] s (s.applyItem x) := by
  rw [applyItem_tenant htarget hn]
  exact PagesKept.foldl (fun f hf u => pagesKept_putMasked u _ _ _ _ (tenProt_fit hf)) s

theorem tenant_of_items {r : List Byte} {x : ChangeItem} (h : itemsOf r = [x]) : x.tenant < 256 := by
  have hmem : x ∈ itemsOf r := h ▸ List.mem_singleton_self x
  obtain ⟨i, -, rfl⟩ := List.mem_map.1 hmem
  exact leAt_lt r _ 1

/-! ### What follows the items (R387 to R389) -/

theorem closeRemapped_of_same {old : State} (h : ∀ f < 64, s.fnMap f = old.fnMap f) : s.closeRemapped old = (s, 0) :=
  foldl_fixed_of_mem _ fun f hf => if_neg fun hlost => hlost.2 (h f (List.mem_range.1 hf))

/-- The change is counted, under a nonce of its own. -/
def State.countChange (s : State) : State := ({ s with sec := { s.sec with changeCnt := s.sec.changeCnt + 1 } }).newNonce

/-- The measurements and the copies in flash follow the items. -/
def State.keepChange (s : State) : State := ((s.meas5.meas6).meas8).saveProt

/-- Success is shown. -/
def State.showChange (s : State) : State :=
  (((s.wr cfgPg CFG2P.STAT_BUSY 0).wr cfgPg CFG2P.STAT_RESULT 1).wr cfgPg CFG2P.STAT_ITEM 0).wr cfgPg CFG2P.CHANGE_CNT s.sec.changeCnt

/-- FRAC_EFF of every core's check unit follows. -/
def State.showFracs (s : State) : State := allCores.foldl (fun s c => s.showFrac c) s

theorem cfgApplyEffect_of_items {r : List Byte} (happly : s.sec.applying = some r) (hruns : s.frozen = false) (hkind : leAt r 1 1 = 0)
    (ht : (itemsOf r).foldl (fun s x => s.applyItem x) { s with sec := { s.sec with applying := none } } = t)
    (hmap : ∀ f < 64, t.fnMap f = s.fnMap f) :
    cfgApplyEffect s = ((t.showFracs.debugChange (s.rdB cfgPg CFG2P.DEBUG_UNLOCK_EN)).countChange.keepChange.showChange).emitRep cfgPg 0xD022 0 0 := by
  unfold cfgApplyEffect
  simp only [happly, hruns, Bool.false_eq_true, if_false, hkind, if_true, ht, closeRemapped_of_same hmap]
  rfl

theorem debugChange_of_same {was : Bool} (h : s.rdB cfgPg CFG2P.DEBUG_UNLOCK_EN = was) : s.debugChange was = s := by
  subst h
  rw [State.debugChange]
  cases s.rdB cfgPg CFG2P.DEBUG_UNLOCK_EN <;> rfl

theorem fieldsKept_showFracs (s : State) : FieldsKept [CHK.STAT_FRAC_EFF] s s.showFracs :=
  .foldl (fun u c => fieldsKept_set u (chkPg c) (.of_check (by decide)) _) allCores s

theorem sec_showFracs (s : State) : s.showFracs.sec = s.sec :=
  (Frame.foldl (fun u c => (State.showFrac_frame u c).after (by decide) (.refl _ u)) allCores (.refl [.regs] s)).keeps .sec (by decide)

theorem fieldsKept_countChange (s : State) : FieldsKept nonceFields s s.countChange := by
  have hsec : FieldsKept nonceFields s { s with sec := { s.sec with changeCnt := s.sec.changeCnt + 1 } } := (FieldsKept.refl _ s).of_regs rfl
  exact hsec.trans (fieldsKept_newNonce _)

theorem sec_countChange (s : State) : s.countChange.sec.applying = s.sec.applying ∧ s.countChange.sec.changeCnt = s.sec.changeCnt + 1 := by
  rw [State.countChange, sec_newNonce]
  exact ⟨rfl, rfl⟩

theorem regs_keepChange (s : State) : s.keepChange.regs = s.regs :=
  ((State.saveProt_frame _).keeps .regs (by decide)).trans (((State.meas8_frame _).keeps .regs (by decide)).trans
    (((State.meas6_frame _).keeps .regs (by decide)).trans ((State.meas5_frame _).keeps .regs (by decide))))

theorem sec_saveProt (s : State) : s.saveProt.sec.applying = s.sec.applying ∧ s.saveProt.sec.changeCnt = s.sec.changeCnt := by
  unfold State.saveProt
  dsimp only
  split
  · exact ⟨rfl, rfl⟩
  · split <;> exact ⟨rfl, rfl⟩

theorem sec_keepChange (s : State) : s.keepChange.sec.applying = s.sec.applying ∧ s.keepChange.sec.changeCnt = s.sec.changeCnt := by
  obtain ⟨happlying, hchange⟩ := sec_saveProt (s.meas5.meas6).meas8
  exact ⟨happlying, hchange⟩

theorem showChange_spec (s : State) : s.showChange.sec = s.sec ∧ s.showChange.rd cfgPg CFG2P.STAT_BUSY = 0
    ∧ s.showChange.rd cfgPg CFG2P.STAT_RESULT = 1 ∧ s.showChange.rd cfgPg CFG2P.CHANGE_CNT = s.sec.changeCnt % 2 ^ 64 := by
  refine ⟨rfl, ?_, ?_, rd_wr_same _ _ _ _⟩
  · rw [State.showChange, rd_wr_of_start _ _ (by decide), rd_wr_of_start _ _ (by decide), rd_wr_of_start _ _ (by decide), rd_wr_same]
    rfl
  · rw [State.showChange, rd_wr_of_start _ _ (by decide), rd_wr_of_start _ _ (by decide), rd_wr_same]
    rfl

/-- The registers that show a change. -/
def changeFields : List Fld := [CFG2P.STAT_BUSY, CFG2P.STAT_RESULT, CFG2P.STAT_ITEM, CFG2P.CHANGE_CNT]

theorem fieldsKept_showChange (s : State) : FieldsKept changeFields s s.showChange :=
  ((((FieldsKept.refl changeFields s).wr _ _ (.of_check (by decide)) (by decide)).wr _ _ (.of_check (by decide)) (by decide)).wr _ _
    (.of_check (by decide)) (by decide)).wr _ _ (.of_check (by decide)) (by decide)

/-- A record of one item on a tenant's entry is applied. -/
theorem change_applied {r : List Byte} {x : ChangeItem} {f : Fld} (hruns : s.frozen = false) (happly : s.sec.applying = some r)
    (hkind : leAt r 1 1 = 0) (hitems : itemsOf r = [x]) (htarget : x.target = 1) (hf : f ∈ blockProt .ten)
    (hbits : 8 * x.addr ≤ 8 * f.off + f.lsb) :
    (cfgApplyEffect s).sec.applying = none ∧ (cfgApplyEffect s).sec.changeCnt = s.sec.changeCnt + 1
      ∧ (cfgApplyEffect s).rd cfgPg CFG2P.STAT_BUSY = 0 ∧ (cfgApplyEffect s).rd cfgPg CFG2P.STAT_RESULT = 1
      ∧ (cfgApplyEffect s).rd cfgPg CFG2P.CHANGE_CNT = (s.sec.changeCnt + 1) % 2 ^ 64
      ∧ ∀ j < f.width, ((cfgApplyEffect s).rd (tenPg x.tenant) f).testBit j
          = if x.mask.testBit (8 * f.off + f.lsb + j - 8 * x.addr) then x.value.testBit (8 * f.off + f.lsb + j - 8 * x.addr)
            else (s.rd (tenPg x.tenant) f).testBit j := by
  have hn := tenant_of_items hitems
  have hfold : (itemsOf r).foldl (fun s x => s.applyItem x) { s with sec := { s.sec with applying := none } }
      = { s with sec := { s.sec with applying := none } }.applyItem x := by rw [hitems]; rfl
  have hkept : PagesKept [tenPg x.tenant] s ({ s with sec := { s.sec with applying := none } }.applyItem x) :=
    .trans (.of_regs rfl (.refl _ s)) (pagesKept_applyItem htarget hn _)
  have hsec : ({ s with sec := { s.sec with applying := none } }.applyItem x).sec = { s.sec with applying := none } :=
    (State.applyItem_frame _ _).keeps .sec (by decide)
  have hfield : ({ s with sec := { s.sec with applying := none } }.applyItem x).rd (tenPg x.tenant) f
      = setVal f (s.rd (tenPg x.tenant) f) (maskedVal x.addr x.mask x.value f (s.rd (tenPg x.tenant) f)) := by
    rw [applyItem_tenant htarget hn]
    exact rd_foldl_putMasked _ _ _ _ tenProt_apart hf _
  have hmap (i : Nat) (hi : i < 64) : ({ s with sec := { s.sec with applying := none } }.applyItem x).fnMap i = s.fnMap i := by
    have hpage : pciePg 0 ∉ [tenPg x.tenant] := by
      have hpcie : pciePg 0 = 10304 := rfl
      rw [List.mem_singleton, hpcie, tenPg]
      omega
    have hvalid : FldFits (PCIE.FUNC_MAP_VALID i) := .mk (by decide) (by omega) (by decide)
    have htenant : FldFits (PCIE.FUNC_MAP_TENANT i) := .mk (by decide) (by omega) (by decide)
    rw [State.fnMap, hkept.rd_eq hvalid hpage, hkept.rd_eq htenant hpage]
    rfl
  rw [cfgApplyEffect_of_items happly hruns hkind hfold hmap]
  generalize { s with sec := { s.sec with applying := none } }.applyItem x = t at hkept hsec hfield
  have hsame : t.showFracs.rdB cfgPg CFG2P.DEBUG_UNLOCK_EN = s.rdB cfgPg CFG2P.DEBUG_UNLOCK_EN := by
    have hpage : cfgPg ∉ [tenPg x.tenant] := by
      simp only [List.mem_singleton, cfgPg, tenPg]
      omega
    rw [State.rdB, fieldsKept_showFracs _ _ _ (.of_check (by decide)) (by decide), hkept.rd_eq (.of_check (by decide)) hpage, ← State.rdB]
  rw [debugChange_of_same hsame]
  obtain ⟨happlying, hchange⟩ := sec_countChange t.showFracs
  rw [sec_showFracs, hsec] at happlying hchange
  obtain ⟨happlying', hchange'⟩ := sec_keepChange t.showFracs.countChange
  obtain ⟨hsec', hbusy, hresult, hcnt⟩ := showChange_spec t.showFracs.countChange.keepChange
  have hemit := State.emitRep_frame t.showFracs.countChange.keepChange.showChange cfgPg 0xD022 0 0
  have hrd := hemit.rd_eq (by decide)
  rw [hemit.keeps .sec (by decide), hsec', happlying', happlying, hchange', hchange, hrd, hrd, hrd, hbusy, hresult, hcnt, hchange', hchange]
  refine ⟨rfl, rfl, rfl, rfl, rfl, fun j hj => ?_⟩
  have hapart : ∀ g ∈ changeFields ++ nonceFields ++ [CHK.STAT_FRAC_EFF], fldStart f ≠ fldStart g :=
    (by decide : ∀ f ∈ blockProt .ten, ∀ g ∈ changeFields ++ nonceFields ++ [CHK.STAT_FRAC_EFF], fldStart f ≠ fldStart g) f hf
  have hfit := tenProt_fit hf
  rw [hrd, fieldsKept_showChange _ _ _ hfit fun g hg => hapart g (by simp [hg]), State.rd, regs_keepChange, ← State.rd,
    fieldsKept_countChange _ _ _ hfit fun g hg => hapart g (by simp [hg]),
    fieldsKept_showFracs _ _ _ hfit fun g hg => hapart g (by simp [hg]), hfield, testBit_setVal _ _ _ hj, testBit_maskedVal _ _ _ _ _ hj]
  have hmasked : maskedBit x.addr x.mask f j = x.mask.testBit (8 * f.off + f.lsb + j - 8 * x.addr) := by
    rw [maskedBit, decide_eq_true (by omega), Bool.true_and]
  rw [hmasked]

/-- Settles O46: a refusal shows its result and leaves the rest of its page, and an application writes the tenant's field before
what it shows of itself. -/
theorem changeRecordsAndFirmwareSlots : Obligations.ChangeRecordsAndFirmwareSlots := by
  unfold Obligations.ChangeRecordsAndFirmwareSlots
  refine ⟨fun s mgmt => ⟨fun hlets hruns hbusy => ⟨_, exec_of_effect hlets rfl rfl, commit_busy hruns hbusy⟩,
      fun hlets hruns hidle hlen => ⟨_, exec_of_effect hlets rfl rfl, commit_short hruns hidle hlen⟩,
      fun hlets hruns hidle hlow hhigh hsoft hchk _ r hread hheader hitems => ⟨_, exec_of_effect hlets rfl rfl, fun hpass => ?_, fun x hfail => ?_⟩,
      fun hlets hnone => exec_of_effect hlets rfl ?_,
      fun r x f hlets hruns happly hkind hitems htarget hf hbits _ _ _ =>
        ⟨_, exec_of_effect hlets rfl rfl, change_applied hruns happly hkind hitems htarget hf hbits⟩⟩,
    fun s x hlets hruns => ⟨fun hen => ⟨_, exec_of_effect hlets rfl rfl, image_written x hen hruns⟩,
      fun hen => exec_of_effect hlets rfl (fwSlotEffect_of_disabled x hen)⟩⟩
  · exact commit_taken hruns hidle hlow hhigh hsoft hchk hread hheader hitems hpass
  · exact commit_refused hruns hidle hlow hhigh hsoft hchk hread hheader hitems hfail
  · simp only [cfgApplyEffect, hnone]

end Sys2Proof.Machine
end

section
/-! PROOFS. Migrations requested, started and copied. -/

namespace Sys2Proof.Machine

variable {s t : State} {l c : Nat} {m : Mig}

/-! ### A request (R363) -/

/-- The request names its logical core. -/
def State.nameMig (s : State) (l : Nat) : State := s.wr fltPg FLT.MIG_CTRL_LOGICAL l

theorem rd_nameMig_valid {k : Nat} : (s.nameMig l).rd fltPg (FLT.CORE_REDIR_VALID k) = s.rd fltPg (FLT.CORE_REDIR_VALID k) := by
  refine rd_wr_of_start _ _ ?_
  simp only [fldStart, FLT.CORE_REDIR_VALID, FLT.MIG_CTRL_LOGICAL]
  omega

theorem rd_nameMig_phys {k : Nat} : (s.nameMig l).rd fltPg (FLT.CORE_REDIR_PHYS k) = s.rd fltPg (FLT.CORE_REDIR_PHYS k) := by
  refine rd_wr_of_start _ _ ?_
  simp only [fldStart, FLT.CORE_REDIR_PHYS, FLT.MIG_CTRL_LOGICAL]
  omega

theorem frozen_nameMig : (s.nameMig l).frozen = s.frozen := by
  have hactive : (s.nameMig l).rd fltPg FLT.STAT_F_ACTIVE = s.rd fltPg FLT.STAT_F_ACTIVE := rd_wr_of_start _ _ (by decide)
  rw [State.frozen, State.frozen, State.rdB, hactive, State.rdB]
  rfl

/-- A logical core that is not placed is refused. -/
theorem request_refused (hl : l < 160) (hruns : s.frozen = false) (hfree : s.rdB fltPg (FLT.CORE_REDIR_VALID l) = false) :
    (migReqEffect s l).rd fltPg FLT.MIG_STAT_RESULT = 2 ∧ (migReqEffect s l).rd fltPg FLT.MIG_CTRL_LOGICAL = l
      ∧ PagesKept [fltPg] s (migReqEffect s l) ∧ Keeps [.regs] s (migReqEffect s l) := by
  have heq : migReqEffect s l = (s.nameMig l).wr fltPg FLT.MIG_STAT_RESULT 2 := by
    have hvalid : (s.nameMig l).rdB fltPg (FLT.CORE_REDIR_VALID l) = false := by rwa [State.rdB, rd_nameMig_valid]
    have hframe : (s.nameMig l).frozen = false := frozen_nameMig.trans hruns
    unfold State.nameMig at hvalid hframe
    simp only [migReqEffect, hframe, hvalid, Bool.false_eq_true, if_false]
    rfl
  have hp := List.mem_singleton_self fltPg
  rw [heq]
  refine ⟨rd_wr_same _ _ _ _, ?_, .wr_page _ (.of_check (by decide)) hp (.wr_page _ (.of_check (by decide)) hp (.refl _ s)), ?_⟩
  · rw [rd_wr_of_start _ _ (by decide), State.nameMig, rd_wr_same]
    exact Nat.mod_eq_of_lt (by show l < 2 ^ 8; omega)
  · exact ((State.wr_frame _ _ _ _).after (by decide) ((State.wr_frame _ _ _ _).after (by decide) (.refl _ s))).keeps

/-- A migration that has been requested of core `c`. -/
def newMove (l c now : Nat) : Mig :=
  { logical := l, source := c, target := 0, rebuild := false, phase := 0, trigger := 0, t0 := now, left := [] }

/-- The one migration there is begins to run; a move waits for its source. -/
theorem advanceMigs_of_move (h : t.flt.migs = [m]) (hphase : m.phase = 0) (hmove : m.rebuild = false) :
    t.advanceMigs = t.modMig m.logical (fun x => { x with phase := 1 }) := by
  have hfind : (t.flt.migs.take 4).find? (fun m => m.phase == 0) = some m := by simp [h, hphase]
  have hlen : t.flt.migs.length = 1 := by rw [h]; rfl
  rw [State.advanceMigs, hlen, State.advanceMigsN, hfind]
  dsimp only
  rw [hmove]
  rfl

theorem triggerMig_of_new (hplaced : s.logicalOf c = some l) (hmigs : s.flt.migs = []) :
    s.triggerMig c 0 false = { s.withdrawPend l c with flt := { (s.withdrawPend l c).flt with
      migs := (s.withdrawPend l c).flt.migs ++ [newMove l c (s.withdrawPend l c).now] } }.advanceMigs := by
  have hnone : s.mig l = none := by rw [State.mig, hmigs]; rfl
  simp only [State.triggerMig, hplaced, hnone, if_neg (show ¬ (0 = 2) by decide)]
  rfl

/-- A request for a placed core starts its migration. -/
theorem move_triggered (hplaced : s.logicalOf c = some l) (hmigs : s.flt.migs = []) :
    (s.triggerMig c 0 false).flt.migs = [{ newMove l c s.now with phase := 1 }] ∧ (s.triggerMig c 0 false).cstore = s.cstore
      ∧ (s.triggerMig c 0 false).dev = s.dev := by
  have hframe := State.withdrawPend_frame s l c
  have hflt : (s.withdrawPend l c).flt = s.flt := hframe.keeps .flt (by decide)
  have hnow : (s.withdrawPend l c).now = s.now := hframe.keeps .now (by decide)
  have hcstore : (s.withdrawPend l c).cstore = s.cstore := hframe.keeps .cstore (by decide)
  have hdev : (s.withdrawPend l c).dev = s.dev := hframe.keeps .dev (by decide)
  rw [triggerMig_of_new hplaced hmigs]
  generalize s.withdrawPend l c = t at hflt hnow hcstore hdev
  have hone : ({ t with flt := { t.flt with migs := t.flt.migs ++ [newMove l c t.now] } } : State).flt.migs = [newMove l c s.now] := by
    rw [← hnow]
    show t.flt.migs ++ _ = _
    rw [hflt, hmigs]
    rfl
  rw [advanceMigs_of_move hone rfl rfl]
  refine ⟨?_, hcstore, hdev⟩
  rw [State.modMig, hone]
  simp [mapIf, newMove]

theorem request_taken (hruns : s.frozen = false) (hvalid : s.rdB fltPg (FLT.CORE_REDIR_VALID l) = true)
    (hplaced : s.logicalOf (s.physOfCore l) = some l) (hmigs : s.flt.migs = []) :
    (migReqEffect s l).flt.migs = [{ newMove l (s.physOfCore l) s.now with phase := 1 }] ∧ (migReqEffect s l).cstore = s.cstore
      ∧ (migReqEffect s l).dev = s.dev := by
  have hphys : (s.nameMig l).physOfCore l = s.physOfCore l := rd_nameMig_phys
  have hlogical : (s.nameMig l).logicalOf (s.physOfCore l) = some l :=
    (logicalOf_of_redir (fun _ _ => rd_nameMig_valid) (fun _ _ => rd_nameMig_phys) _).trans hplaced
  have heq : migReqEffect s l = (s.nameMig l).triggerMig (s.physOfCore l) 0 false := by
    have hframe : (s.nameMig l).frozen = false := frozen_nameMig.trans hruns
    have hstill : (s.nameMig l).rdB fltPg (FLT.CORE_REDIR_VALID l) = true := by rwa [State.rdB, rd_nameMig_valid]
    rw [← hphys]
    unfold State.nameMig at hframe hstill ⊢
    simp only [migReqEffect, hframe, hstill, Bool.false_eq_true, if_false, if_true]
  rw [heq]
  exact move_triggered hlogical hmigs

/-! ### A move starts (R364, R365) -/

theorem mig_of_single (h : s.flt.migs = [m]) (hl : m.logical = l) : s.mig l = some m := by simp [State.mig, h, hl]

/-- A target at rest leaves the pool and stands its spares in. -/
theorem takeTarget_of_idle (hidle : ∀ e < 4, (s.eng c e).rot.phase = .idle) (htest : s.flt.testing = []) :
    s.takeTarget c = (s.dropPool c).standTiles c := by
  have hturns : (List.range 4).foldl (fun s e => s.abandonTurn c e) (s.dropPool c) = s.dropPool c :=
    foldl_fixed_of_mem _ fun e he => if_pos (.inl (hidle e (List.mem_range.1 he)))
  have hnone : s.flt.testing.contains c = false := by rw [htest]; rfl
  rw [State.takeTarget, hnone]
  exact congrArg (fun u => State.standTiles u c) hturns

theorem flt_takeTarget_of_idle (hidle : ∀ e < 4, (s.eng c e).rot.phase = .idle) (htest : s.flt.testing = []) :
    (s.takeTarget c).flt = { s.flt with pool := s.flt.pool.filter (fun k => k != c) } := by
  rw [takeTarget_of_idle hidle htest]
  exact (State.standTiles_frame _ _).keeps .flt (by decide)

theorem modMig_of_single {f : Mig → Mig} (h : s.flt.migs = [m]) (hl : m.logical = l) : (s.modMig l f).flt = { s.flt with migs := [f m] } := by
  rw [State.modMig, h]
  simp [mapIf, hl]

/-- The fields that name a migration. -/
theorem showMig_spec (s : State) (m : Mig) : (s.showMig m).rd fltPg FLT.MIG_STAT_TARGET = m.target % 2 ^ 8
    ∧ (s.showMig m).rd fltPg FLT.MIG_STAT_LOGICAL = m.logical % 2 ^ 8 := by
  refine ⟨?_, rd_wr_same _ _ _ _⟩
  rw [State.showMig, rd_wr_of_start _ _ (by decide), rd_wr_same]
  rfl

/-- Whether the mover of core `c`'s cluster copies. -/
theorem moverBusy_showMover (s : State) (c : Nat) :
    (s.showMover c).rdB (clusPg (c / 4) (c % 4 / 2)) CLUS.STAT_MOVER_BUSY = s.flt.migs.any (fun m => m.phase == 2 && m.source / 2 == c / 2) := by
  have hrd := rd_wr_same s (clusPg (c / 4) (c % 4 / 2)) CLUS.STAT_MOVER_BUSY (toBit (s.flt.migs.any (fun m => m.phase == 2 && m.source / 2 == c / 2)))
  cases hany : s.flt.migs.any (fun m => m.phase == 2 && m.source / 2 == c / 2) with
  | true =>
    rw [hany] at hrd
    rw [State.showMover, hany]
    exact congrArg (fun n => n != 0) hrd
  | false =>
    rw [hany] at hrd
    rw [State.showMover, hany]
    exact congrArg (fun n => n != 0) hrd

theorem fieldsKept_showMover (s : State) (c : Nat) : FieldsKept [CLUS.STAT_MOVER_BUSY] s (s.showMover c) :=
  (FieldsKept.refl _ s).wr _ _ (.of_check (by decide)) (by decide)

section start
variable (hmigs : s.flt.migs = [m]) (hl : m.logical = l) (hphase : m.phase = 1) (hmove : m.rebuild = false)
  (hsource : s.rd (corePg m.source) CORE.STAT_STATE = 0) (hreset : (s.core m.source).resetAt = none) (hchosen : s.chooseTarget m.source = some c)
include hmigs hl hphase hmove hsource hreset hchosen

theorem migStartEffect_of_idle : migStartEffect s l
    = (((((s.takeTarget c).countAccs m.source ENG.SPILL_CNT).modMig l (fun _ => { m with phase := 2, target := c, t0 := s.now })).showMig
        { m with phase := 2, target := c, t0 := s.now }).showMover m.source) := by
  have hbusy : (coreState s m.source != 0 && coreState s m.source != 3) = false := by rw [coreState, hsource]; rfl
  have hgo : ¬ (m.phase ≠ 1 ∨ m.rebuild = true ∨ (coreState s m.source != 0 && coreState s m.source != 3) = true
      ∨ (s.core m.source).resetAt.isSome = true) := by
    rw [hbusy, hreset, hmove, hphase]
    decide
  simp only [migStartEffect, mig_of_single hmigs hl, if_neg hgo, hchosen]

theorem move_started (hidle : ∀ e < 4, (s.eng c e).rot.phase = .idle) (htest : s.flt.testing = []) :
    (migStartEffect s l).flt.migs = [{ m with phase := 2, target := c, t0 := s.now }]
      ∧ (migStartEffect s l).flt.pool = s.flt.pool.filter (fun k => k != c)
      ∧ (migStartEffect s l).rd fltPg FLT.MIG_STAT_TARGET = c % 2 ^ 8 ∧ (migStartEffect s l).rd fltPg FLT.MIG_STAT_LOGICAL = l % 2 ^ 8
      ∧ (migStartEffect s l).rdB (clusPg (m.source / 4) (m.source % 4 / 2)) CLUS.STAT_MOVER_BUSY = true
      ∧ (migStartEffect s l).cstore = s.cstore := by
  have hcstore : (migStartEffect s l).cstore = s.cstore := (migStartEffect_frame s l).keeps .cstore (by decide)
  have hflt : ((s.takeTarget c).countAccs m.source ENG.SPILL_CNT).flt = { s.flt with pool := s.flt.pool.filter (fun k => k != c) } :=
    ((State.countAccs_frame _ _ _).keeps .flt (by decide)).trans (flt_takeTarget_of_idle hidle htest)
  rw [migStartEffect_of_idle hmigs hl hphase hmove hsource hreset hchosen] at hcstore ⊢
  generalize (s.takeTarget c).countAccs m.source ENG.SPILL_CNT = t at hcstore hflt
  have hone : t.flt.migs = [m] := by rw [hflt]; exact hmigs
  have hmod := modMig_of_single (f := fun _ => { m with phase := 2, target := c, t0 := s.now }) hone hl
  generalize t.modMig l (fun _ => { m with phase := 2, target := c, t0 := s.now }) = u at hcstore hmod
  obtain ⟨htarget, hlogical⟩ := showMig_spec u { m with phase := 2, target := c, t0 := s.now }
  have hshown : (u.showMig { m with phase := 2, target := c, t0 := s.now }).flt = u.flt := (State.showMig_frame _ _).keeps .flt (by decide)
  have hmover := State.showMover_frame (u.showMig { m with phase := 2, target := c, t0 := s.now }) m.source
  refine ⟨?_, ?_, ?_, ?_, ?_, hcstore⟩
  · rw [hmover.keeps .flt (by decide), hshown, hmod]
  · rw [hmover.keeps .flt (by decide), hshown, hmod, hflt]
  · exact (fieldsKept_showMover _ _ _ _ (.of_check (by decide)) (by decide)).trans htarget
  · exact (fieldsKept_showMover _ _ _ _ (.of_check (by decide)) (by decide)).trans (hlogical.trans (by rw [hl]))
  · rw [moverBusy_showMover, hshown, hmod]
    simp

end start

/-! ### The copy (R365) -/

/-- The outlier sets of core `c` are those of core `d` too. -/
def State.moveSets (s : State) (c d : Nat) : State :=
  (List.range 4).foldl (fun s e => let o := (s.eng c e).osets; s.modEng d e (fun x => { x with osets := o })) s

theorem moveSets_frame (c d : Nat) : Frame [.engines] s (s.moveSets c d) :=
  Frame.foldl (fun u e => (State.modEng_frame u d e _).after (by decide) (.refl _ u)) _ (.refl _ s)

/-- The mover has copied for core `c`. -/
def State.countMove (s : State) (c : Nat) : State :=
  (s.inc (clusPg (c / 4) (c % 4 / 2)) CLUS.MOVE_CNT).inc (clusPg (c / 4) (c % 4 / 2)) CLUS.MOVE_BYTES 38797312

theorem migCopyEffect_eq (hmigs : s.flt.migs = [m]) (hl : m.logical = l) (hphase : m.phase = 2) : migCopyEffect s l
    = ((((((s.moveCs m.source m.target).moveTiller m.source m.target).moveSets m.source m.target).countMove m.source).modMig l
        (fun x => { x with phase := 3 })).showMover m.source).irq (clusPg (m.source / 4) (m.source % 4 / 2)) 0 := by
  have hgo : ¬ m.phase ≠ 2 := not_not_intro hphase
  simp only [migCopyEffect, mig_of_single hmigs hl, if_neg hgo]
  rfl

theorem copy_done (hmigs : s.flt.migs = [m]) (hl : m.logical = l) (hphase : m.phase = 2) :
    (migCopyEffect s l).flt.migs = [{ m with phase := 3 }]
      ∧ (migCopyEffect s l).cstore = s.cstore.moveRange (csBase m.source) (csBase m.target) (2 ^ 25)
      ∧ (migCopyEffect s l).tsram = s.tsram.moveRange (m.source * 2 ^ 20) (m.target * 2 ^ 20) (2 ^ 20)
      ∧ (migCopyEffect s l).rd (clusPg (m.source / 4) (m.source % 4 / 2)) CLUS.MOVE_CNT
          = (s.rd (clusPg (m.source / 4) (m.source % 4 / 2)) CLUS.MOVE_CNT + 1) % 2 ^ 64
      ∧ (migCopyEffect s l).rdB (clusPg (m.source / 4) (m.source % 4 / 2)) CLUS.STAT_MOVER_BUSY = false := by
  have hsets := moveSets_frame (s := (s.moveCs m.source m.target).moveTiller m.source m.target) m.source m.target
  have hflt := hsets.keeps .flt (by decide)
  have hcstore := hsets.keeps .cstore (by decide)
  have htsram := hsets.keeps .tsram (by decide)
  have hrd := hsets.rd_eq (by decide) (clusPg (m.source / 4) (m.source % 4 / 2)) CLUS.MOVE_CNT
  rw [migCopyEffect_eq hmigs hl hphase]
  generalize ((s.moveCs m.source m.target).moveTiller m.source m.target).moveSets m.source m.target = t at hflt hcstore htsram hrd
  have hone : (t.countMove m.source).flt.migs = [m] := (congrArg FaultS.migs hflt).trans hmigs
  have hmod := modMig_of_single (f := fun x => { x with phase := 3 }) hone hl
  have hcnt : (t.countMove m.source).rd (clusPg (m.source / 4) (m.source % 4 / 2)) CLUS.MOVE_CNT
      = (s.rd (clusPg (m.source / 4) (m.source % 4 / 2)) CLUS.MOVE_CNT + 1) % 2 ^ 64 := by
    rw [State.countMove, State.inc, rd_wr_of_start _ _ (by decide), State.inc, rd_wr_same, hrd]
    rfl
  have hmover := State.showMover_frame ((t.countMove m.source).modMig l (fun x => { x with phase := 3 })) m.source
  refine ⟨?_, ?_, ?_, ?_, ?_⟩
  · rw [irq_flt, hmover.keeps .flt (by decide), hmod]
  · rw [irq_cstore, hmover.keeps .cstore (by decide)]
    exact hcstore
  · rw [irq_tsram, hmover.keeps .tsram (by decide)]
    exact htsram
  · rw [fieldsKept_irq _ _ _ _ _ (.of_check (by decide)) (by decide), fieldsKept_showMover _ _ _ _ (.of_check (by decide)) (by decide)]
    exact hcnt
  · rw [State.rdB, fieldsKept_irq _ _ _ _ _ (.of_check (by decide)) (by decide), ← State.rdB, moverBusy_showMover, hmod]
    rfl

end Sys2Proof.Machine
end

section
/-! PROOFS. The end of a migration, and `CORE_REDIR`. Settles O44. -/

namespace Sys2Proof.Machine

variable {s t : State} {l c : Nat} {m : Mig}

/-! ### The banks of a core, whatever its number -/

/-- The fields of a bank's entry. -/
def bankEntry (k : Nat) : List Fld :=
  [ENG.BANK_STATE_STATE k, ENG.BANK_STATE_ROWS k, ENG.BANK_STATE_POISONED k, ENG.BANK_STATE_SHADOW k, ENG.BANK_STATE_WRITING k]

/-- The fields of the entries of an engine's banks. -/
def bankFields : List Fld := (List.range 34).flatMap bankEntry

theorem mem_bankFields {k : Nat} (hk : k < 34) {f : Fld} (hf : f ∈ bankEntry k) : f ∈ bankFields :=
  List.mem_flatMap.2 ⟨k, List.mem_range.2 hk, hf⟩

theorem fieldsKept_emptyBank (s : State) (c e : Nat) {t b : Nat} (hk : bkey t b < 34) : FieldsKept bankFields s (s.emptyBank c e t b) := by
  have hmem {f : Fld} (hf : f ∈ bankEntry (bkey t b)) : f ∈ bankFields := mem_bankFields hk hf
  have hlate := (FieldsKept.refl bankFields s).frame (State.flushLate_frame s c e t b) (by decide)
  exact (((((hlate.wr _ _ (fits_bankState hk) (hmem (by simp [bankEntry]))).wr _ _ (fits_bankRows hk) (hmem (by simp [bankEntry]))).wr _ _
    (fits_bankPoisoned hk) (hmem (by simp [bankEntry]))).wr _ _ (fits_bankShadow hk) (hmem (by simp [bankEntry]))).wr _ _
    (fits_bankWriting hk) (hmem (by simp [bankEntry]))).of_regs (modTile_regs ..)

theorem fieldsKept_emptyCore (s : State) (c : Nat) : FieldsKept bankFields s (s.emptyCore c) := by
  refine .foldl (fun u e => ?_) _ s
  refine List.foldlRecOn (motive := FieldsKept bankFields u) (List.range 17) _ (.refl _ u) fun v hv t ht => ?_
  have ht := List.mem_range.1 ht
  exact (hv.trans (fieldsKept_emptyBank v c e (bkey_lt ht (by decide)))).trans (fieldsKept_emptyBank _ c e (bkey_lt ht (by decide)))

theorem redirValid_apart (l : Nat) : ∀ f ∈ bankFields, fldStart (FLT.CORE_REDIR_VALID l) ≠ fldStart f := by
  intro f hf
  obtain ⟨k, -, hf⟩ := List.mem_flatMap.1 hf
  fin_cases hf <;>
    simp only [fldStart, FLT.CORE_REDIR_VALID, ENG.BANK_STATE_STATE, ENG.BANK_STATE_ROWS, ENG.BANK_STATE_POISONED, ENG.BANK_STATE_SHADOW,
      ENG.BANK_STATE_WRITING] <;> omega

theorem redirPhys_apart (l : Nat) : ∀ f ∈ bankFields, fldStart (FLT.CORE_REDIR_PHYS l) ≠ fldStart f := by
  intro f hf
  obtain ⟨k, -, hf⟩ := List.mem_flatMap.1 hf
  fin_cases hf <;>
    simp only [fldStart, FLT.CORE_REDIR_PHYS, ENG.BANK_STATE_STATE, ENG.BANK_STATE_ROWS, ENG.BANK_STATE_POISONED, ENG.BANK_STATE_SHADOW,
      ENG.BANK_STATE_WRITING] <;> omega

/-! ### The parts of a migration's end (R365, R366) -/

/-- The logical core is placed on its target, and the migration is done. -/
def State.placeMig (s : State) (m : Mig) : State :=
  let s := ((s.wr fltPg (FLT.CORE_REDIR_VALID m.logical) 1).wr fltPg (FLT.CORE_REDIR_PHYS m.logical) m.target).dropMig m.logical
  { s with nvm := { s.nvm with coreState := mput s.nvm.coreState (nvmCore m.target) 0 } }

/-- The address field of the record of a migration's end. -/
def State.migAddr (s : State) (m : Mig) : Nat :=
  m.target + m.logical * 2 ^ 8 + toBit m.rebuild * 2 ^ 16 + min ((s.now - m.t0) / ticksUs) 0xFFFF * 2 ^ 32

/-- A move that has taken longer than it may is recorded. -/
def State.noteSlow (s : State) (m : Mig) : State :=
  if !m.rebuild && decide (800 * ticksUs < s.now - m.t0) then s.emit (corePg m.source) 0xE032 0 else s

/-- MIG_STAT shows the migration done. -/
def State.showEnd (s : State) (m : Mig) : State := ((s.inc fltPg FLT.MIG_CNT).wr fltPg FLT.MIG_STAT_RESULT 1).showMig m

theorem endMig_eq (s : State) (m : Mig) : s.endMig m
    = (((((((s.placeMig m).redirectSteps m.source m.target).vacate m).emit (corePg m.source) 0xE031 (s.migAddr m)).noteSlow m).showEnd m).irq
        fltPg 5).advanceMigs.sendUnsent := rfl

theorem placeMig_spec (hl : l < 160) (hmigs : s.flt.migs = [m]) (hlog : m.logical = l) :
    (s.placeMig m).flt.migs = [] ∧ (s.placeMig m).rd fltPg (FLT.CORE_REDIR_VALID l) = 1 ∧ (s.placeMig m).rd fltPg (FLT.CORE_REDIR_PHYS l) = m.target % 256 := by
  subst hlog
  have hapart : fldStart (FLT.CORE_REDIR_VALID m.logical) ≠ fldStart (FLT.CORE_REDIR_PHYS m.logical) := by
    simp only [fldStart, FLT.CORE_REDIR_VALID, FLT.CORE_REDIR_PHYS]
    omega
  refine ⟨?_, ?_, ?_⟩
  · show s.flt.migs.filter (fun x => x.logical != m.logical) = []
    rw [hmigs]
    simp
  · exact (rd_wr_of_start _ _ hapart).trans (rd_wr_same ..)
  · exact rd_wr_same ..

theorem core_retireCore (s : State) (c : Nat) : (s.retireCore c).core c = { s.core c with retired := true } :=
  core_modCore_same s c (fun x => { x with retired := true })

theorem migs_retireCore (s : State) (c : Nat) : (s.retireCore c).flt.migs = s.flt.migs := rfl

/-- The source of a migration that a fault has triggered retires. -/
theorem vacate_of_fault (htrigger : m.trigger = 2) (hwaits : (s.core m.source).resetWaits = false) :
    s.vacate m = (s.emptyCore m.source).retireCore m.source := by
  have hcore : ((s.emptyCore m.source).retireCore m.source).core m.source = { s.core m.source with retired := true } := by
    rw [core_retireCore, (State.emptyCore_frame s m.source).core_eq (by decide)]
  have hno : ¬ m.trigger = 1 := by omega
  rw [State.vacate]
  simp only [if_neg hno, hcore, hwaits, Bool.false_eq_true, if_false]

theorem fieldsKept_vacate (htrigger : m.trigger = 2) (hwaits : (s.core m.source).resetWaits = false) :
    FieldsKept bankFields s (s.vacate m) := by
  rw [vacate_of_fault htrigger hwaits]
  exact (fieldsKept_emptyCore s m.source).frame (State.retireCore_frame _ _) (by decide)

theorem vacate_spec (htrigger : m.trigger = 2) (hwaits : (s.core m.source).resetWaits = false) :
    (s.vacate m).flt.migs = s.flt.migs ∧ mget (s.vacate m).nvm.coreState 0 (nvmCore m.source) = 2
      ∧ ((s.vacate m).core m.source).retired = true := by
  rw [vacate_of_fault htrigger hwaits]
  obtain ⟨-, -, hstate⟩ := retired_keeps (s.emptyCore m.source) m.source
  refine ⟨?_, hstate, retired_retireCore _ _⟩
  rw [migs_retireCore, (State.emptyCore_frame s m.source).keeps .flt (by decide)]

/-! ### What follows the source's leaving -/

/-- The registers that show a migration. -/
def migFields : List Fld := [FLT.MIG_CNT, FLT.MIG_STAT_RESULT, FLT.MIG_STAT_SOURCE, FLT.MIG_STAT_TARGET, FLT.MIG_STAT_LOGICAL]

theorem fieldsKept_showEnd (s : State) (m : Mig) : FieldsKept migFields s (s.showEnd m) :=
  (((((FieldsKept.refl migFields s).wr _ _ (.of_check (by decide)) (by decide)).wr _ _ (.of_check (by decide)) (by decide)).wr _ _
    (.of_check (by decide)) (by decide)).wr _ _ (.of_check (by decide)) (by decide)).wr _ _ (.of_check (by decide)) (by decide)

theorem result_showEnd (s : State) (m : Mig) : (s.showEnd m).rd fltPg FLT.MIG_STAT_RESULT = 1 := by
  rw [State.showEnd, State.showMig, rd_wr_of_start _ _ (by decide), rd_wr_of_start _ _ (by decide), rd_wr_of_start _ _ (by decide), rd_wr_same]
  rfl

theorem noteSlow_frame (s : State) (m : Mig) : Frame [.dies] s (s.noteSlow m) := .ite (State.emit_frame ..) (.refl _ s)

theorem showEnd_frame (s : State) (m : Mig) : Frame [.regs] s (s.showEnd m) :=
  (State.showMig_frame _ _).after (by decide) ((State.wr_frame _ _ _ _).after (by decide) ((State.inc_frame _ _ _ _).after (by decide) (.refl _ s)))

theorem flt_sendReloads_of_none (h : s.flt.migs = []) : s.sendReloads.flt = s.flt := by
  unfold State.sendReloads
  dsimp only
  have hjobs (u : State) : (u.ingest.jobs.foldl (fun s j => j.reloadLeft.zipIdx.foldl (fun s e =>
      if e.1.2.2 ∨ j.phase ≠ 2 ∨ !s.rdB fltPg (FLT.CORE_REDIR_VALID e.1.1) ∨ !s.coreRoom (s.physOfCore e.1.1) then s
      else (s.modJob j.idx (fun x => { x with reloadLeft := modNth markSent e.2 x.reloadLeft })).send
        (.startRec (s.physOfCore e.1.1) (reloadRec e.1.2.1 j.model))) s) u).flt = u.flt :=
    (Frame.foldl (P := [.ingest, .out]) (fun v j => Frame.foldl (fun w e => .ite (.refl _ w)
      ((State.send_frame _ _).after (by decide) ((State.modJob_frame _ _ _).after (by decide) (.refl _ w)))) _ (.refl _ v)) _ (.refl _ u)).keeps
      .flt (by decide)
  rw [hjobs s, h, List.foldl_nil, hjobs s]

theorem flt_sendUnsent_of_none (h : s.flt.migs = []) : s.sendUnsent.flt = s.flt := by
  have hsteps : (s.srv.steps.foldl (fun s x => if x.phase ≠ 1 then s else x.unsent.foldl (State.sendStart x.step) s) s).flt = s.flt := by
    refine foldl_keeps (g := State.flt) (fun u x => ?_) _ s
    split
    · rfl
    · refine foldl_keeps (g := State.flt) (fun v y => ?_) _ u
      unfold State.sendStart
      split <;> rfl
  rw [sendUnsent_eq, flt_sendReloads_of_none (by rw [hsteps, h]), hsteps]

theorem redir_irq {f : Fld} (hf : FldFits f) (hstart : fldStart f ≠ fldStart HDR.IRQ_STAT) (s : State) (i : Nat) :
    (s.irq fltPg i).rd fltPg f = s.rd fltPg f :=
  rd_irq _ _ _ _ _ (irqFree_of_core_page hf (by decide) (fkey_ne_of_fits (.of_check (by decide)) hf hstart))

/-- The end of a migration that a fault has triggered. -/
theorem migration_ended (hl : l < 160) (hmigs : s.flt.migs = [m]) (hlog : m.logical = l) (htrigger : m.trigger = 2)
    (hwaits : (s.core m.source).resetWaits = false) :
    (s.endMig m).flt.migs = [] ∧ mget (s.endMig m).nvm.coreState 0 (nvmCore m.source) = 2 ∧ ((s.endMig m).core m.source).retired = true
      ∧ (s.endMig m).rd fltPg (FLT.CORE_REDIR_VALID l) = 1 ∧ (s.endMig m).rd fltPg (FLT.CORE_REDIR_PHYS l) = m.target % 256
      ∧ (s.endMig m).rd fltPg FLT.MIG_STAT_RESULT = 1 := by
  obtain ⟨hnone, hvalid, hphys⟩ := placeMig_spec hl hmigs hlog
  have hredirect := State.redirectSteps_frame (s.placeMig m) m.source m.target
  have hcore : ((s.placeMig m).redirectSteps m.source m.target).core m.source = s.core m.source := hredirect.core_eq (by decide) m.source
  have hnone1 : ((s.placeMig m).redirectSteps m.source m.target).flt.migs = [] := (congrArg FaultS.migs (hredirect.keeps .flt (by decide))).trans hnone
  have hvalid1 := (hredirect.rd_eq (by decide) fltPg (FLT.CORE_REDIR_VALID l)).trans hvalid
  have hphys1 := (hredirect.rd_eq (by decide) fltPg (FLT.CORE_REDIR_PHYS l)).trans hphys
  rw [endMig_eq]
  generalize (s.placeMig m).redirectSteps m.source m.target = a at hcore hnone1 hvalid1 hphys1
  have hwaits1 : (a.core m.source).resetWaits = false := by rw [hcore, hwaits]
  obtain ⟨hnone2, hstate2, hretired2⟩ := vacate_spec htrigger hwaits1
  have hvacate := fieldsKept_vacate htrigger hwaits1
  have hvalid2 := (hvacate fltPg _ (fits_redirValid hl) (redirValid_apart l)).trans hvalid1
  have hphys2 := (hvacate fltPg _ (fits_redirPhys hl) (redirPhys_apart l)).trans hphys1
  rw [hnone1] at hnone2
  generalize a.vacate m = b at hnone2 hstate2 hretired2 hvalid2 hphys2
  have hnote : Frame [.dies] b ((b.emit (corePg m.source) 0xE031 (s.migAddr m)).noteSlow m) :=
    (noteSlow_frame _ m).after (by decide) ((State.emit_frame _ _ _ _).after (by decide) (.refl _ b))
  have hnone3 := (congrArg FaultS.migs (hnote.keeps .flt (by decide))).trans hnone2
  have hstate3 := (congrArg (fun n => mget n.coreState 0 (nvmCore m.source)) (hnote.keeps .nvm (by decide))).trans hstate2
  have hretired3 := (congrArg CoreS.retired (hnote.core_eq (by decide) m.source)).trans hretired2
  have hvalid3 := (hnote.rd_eq (by decide) fltPg (FLT.CORE_REDIR_VALID l)).trans hvalid2
  have hphys3 := (hnote.rd_eq (by decide) fltPg (FLT.CORE_REDIR_PHYS l)).trans hphys2
  generalize (b.emit (corePg m.source) 0xE031 (s.migAddr m)).noteSlow m = d at hnone3 hstate3 hretired3 hvalid3 hphys3
  have hshow := showEnd_frame d m
  have hkept := fieldsKept_showEnd d m
  have hnone4 : ((d.showEnd m).irq fltPg 5).flt.migs = [] := by
    rw [irq_flt, hshow.keeps .flt (by decide)]
    exact hnone3
  rw [advanceMigs_of_none hnone4]
  have hsend := State.sendUnsent_frame ((d.showEnd m).irq fltPg 5)
  refine ⟨?_, ?_, ?_, ?_, ?_, ?_⟩
  · rw [flt_sendUnsent_of_none hnone4]
    exact hnone4
  · rw [hsend.keeps .nvm (by decide), irq_nvm, hshow.keeps .nvm (by decide)]
    exact hstate3
  · rw [hsend.core_eq (by decide), core_irq, hshow.core_eq (by decide)]
    exact hretired3
  · rw [hsend.rd_eq (by decide), redir_irq (fits_redirValid hl) (by simp only [fldStart, FLT.CORE_REDIR_VALID, HDR.IRQ_STAT]; omega),
      hkept _ _ (fits_redirValid hl) (fun f hf => by
        fin_cases hf <;> simp only [fldStart, FLT.CORE_REDIR_VALID, FLT.MIG_CNT, FLT.MIG_STAT_RESULT, FLT.MIG_STAT_SOURCE,
          FLT.MIG_STAT_TARGET, FLT.MIG_STAT_LOGICAL] <;> omega)]
    exact hvalid3
  · rw [hsend.rd_eq (by decide), redir_irq (fits_redirPhys hl) (by simp only [fldStart, FLT.CORE_REDIR_PHYS, HDR.IRQ_STAT]; omega),
      hkept _ _ (fits_redirPhys hl) (fun f hf => by
        fin_cases hf <;> simp only [fldStart, FLT.CORE_REDIR_PHYS, FLT.MIG_CNT, FLT.MIG_STAT_RESULT, FLT.MIG_STAT_SOURCE,
          FLT.MIG_STAT_TARGET, FLT.MIG_STAT_LOGICAL] <;> omega)]
    exact hphys3
  · rw [hsend.rd_eq (by decide), redir_irq (.of_check (by decide)) (by decide)]
    exact result_showEnd d m

/-- The target takes over what the source holds, and the migration ends. -/
theorem move_ended (hl : l < 160) (hmigs : s.flt.migs = [m]) (hlog : m.logical = l) (htrigger : m.trigger = 2)
    (hwaits : (s.core m.source).resetWaits = false) :
    ((s.moveCore m.source m.target).endMig m).flt.migs = []
      ∧ mget ((s.moveCore m.source m.target).endMig m).nvm.coreState 0 (nvmCore m.source) = 2
      ∧ (((s.moveCore m.source m.target).endMig m).core m.source).retired = true
      ∧ ((s.moveCore m.source m.target).endMig m).rd fltPg (FLT.CORE_REDIR_VALID l) = 1
      ∧ ((s.moveCore m.source m.target).endMig m).rd fltPg (FLT.CORE_REDIR_PHYS l) = m.target % 256
      ∧ ((s.moveCore m.source m.target).endMig m).rd fltPg FLT.MIG_STAT_RESULT = 1 := by
  have hframe := State.moveCore_frame s m.source m.target
  refine migration_ended hl ?_ hlog htrigger ?_
  · rw [hframe.keeps .flt (by decide), hmigs]
  · rw [hframe.core_eq (by decide), hwaits]

theorem migBanksEffect_of_moved (hmigs : s.flt.migs = [m]) (hlog : m.logical = l) (hphase : m.phase = 3) :
    migBanksEffect s l = (s.moveCore m.source m.target).endMig m := by
  simp only [migBanksEffect, mig_of_single hmigs hlog, if_pos hphase]

theorem rebuildEndEffect_of_done (hmigs : s.flt.migs = [m]) (hlog : m.logical = l) (hphase : m.phase = 4) (hleft : m.left = []) :
    rebuildEndEffect s l = s.endMig m := by
  have hdone : m.phase = 4 ∧ m.left.isEmpty = true := ⟨hphase, by rw [hleft]; rfl⟩
  simp only [rebuildEndEffect, mig_of_single hmigs hlog, if_pos hdone]

theorem logical_of_wf {l : Nat} (h : decide (l < 160) = true) : l < 160 := of_decide_eq_true h

/-- Settles O44: a migration's end places the logical core before the source's banks are emptied, and no field of a bank's entry begins
where one of `CORE_REDIR` does. -/
theorem migrationsMoveACore : Obligations.MigrationsMoveACore := by
  unfold Obligations.MigrationsMoveACore
  intro s l
  refine ⟨fun hlets hruns hfree => ?_, fun hlets hruns hvalid hplaced hmigs _ => ?_, fun m t hlets hmigs hlog hphase hmove hsource hreset hchosen hidle htest => ?_,
    fun m hlets hmigs hlog hphase => ?_, fun m i hi hlets hmigs hlog htrigger hwaits _ => ?_, fun v hlets hmigs => ?_, fun v hlets hmigs => ?_⟩
  · exact ⟨_, exec_of_effect hlets rfl rfl, request_refused (logical_of_wf hlets.1) hruns hfree⟩
  · exact ⟨_, exec_of_effect hlets rfl rfl, request_taken hruns hvalid hplaced hmigs⟩
  · exact ⟨_, exec_of_effect hlets rfl rfl, move_started hmigs hlog hphase hmove hsource hreset hchosen hidle htest⟩
  · exact ⟨_, exec_of_effect hlets rfl rfl, copy_done hmigs hlog hphase⟩
  · rcases hi with ⟨rfl, hphase⟩ | ⟨rfl, hphase, hleft⟩
    · exact ⟨_, exec_of_effect hlets rfl (migBanksEffect_of_moved hmigs hlog hphase),
        move_ended (logical_of_wf hlets.1) hmigs hlog htrigger hwaits⟩
    · exact ⟨_, exec_of_effect hlets rfl (rebuildEndEffect_of_done hmigs hlog hphase hleft),
        migration_ended (logical_of_wf hlets.1) hmigs hlog htrigger hwaits⟩
  · have hnone : (!s.flt.migs.isEmpty) = false := by rw [hmigs]; rfl
    exact exec_of_effect hlets rfl (if_neg (by rw [hnone]; decide))
  · have hsome : (!s.flt.migs.isEmpty) = true := by simpa using hmigs
    exact exec_of_effect hlets rfl (if_pos hsome)

end Sys2Proof.Machine
end
